-- ==== Sys2Proof/Word.lean ====
section
/-! DEFINITION. The plain data words every other file speaks in: bytes, byte strings and sparse tables.
Object values and register values are of many widths and are held as natural numbers below 2 to the power of
their width; bytes on a wire or in a block object are 8-bit vectors. -/

namespace Sys2Proof

/-- One byte. -/
abbrev Byte := BitVec 8

/-- A byte string, byte 0 first. -/
abbrev Bytes := List Byte

/-- A sparse table from natural keys: keys strictly rising, no entry equal to what an unlisted key reads as
(`Machine.Kv`). -/
abbrev Kv (α : Type) := List (Nat × α)

end Sys2Proof
end

