-- ==== Sys2Proof/Syntax.lean ====
section
/-! DEFINITION. The commands the block takes: one constructor of `Instr` per row of the opcode table, with the
operands each command carries (an accessor, a value, a port, a received frame). -/

namespace Sys2Proof

/-- Who makes an object or register access (R409, R442): a service core, a register path (Seats 0 to 2), a HOP
session of Seat 3, an OBJ_REQ arriving over the ring at a CELL with its AUTH holder bit (R459), the sequence
engine (R318), or the snapshot an UNDERSTUDY applies (R394). -/
inductive Accessor where
  | core (c : Fin 4)
  | path (s : Fin 3)
  | hop (session : Nat)
  | ring (auth : Bool) (seat : Fin 4)
  | engine
  | mirror (seat : Nat)
  deriving DecidableEq, Repr

/-- How a frame arrived: ended with /T/, ended with /E/, with a code error inside it, or cut by a /S/ or /R/ (R107,
R115). -/
inductive FrameEnd where
  | whole | abort | codeErr | nested
  deriving DecidableEq, Repr

/-- What the HEAD reads of one numbered cell at an enumeration: hop, factory serial, SM_TYPE in effect and TB0_STATE
(R35, R43, R67). -/
structure CellId where
  hop : Nat
  serial : Nat
  smType : Nat
  tb0State : Nat
  deriving DecidableEq, Repr

/-- How a write that has both an object and a register reaches the part: by an accessor's object write, or by a path's
register write. -/
inductive Via where
  | obj (a : Accessor)
  | reg (p : Fin 3)
  deriving DecidableEq, Repr

/-- A write of the measurement sequences' set-up (R279): a whole table (`c` true for ADC C), an entry through its
register, a range or a trigger. -/
inductive SeqWrite where
  | table (a : Accessor) (c : Bool) (d : Bytes)
  | entry (p : Fin 3) (c : Bool) (n : Fin 64) (v : Nat)
  | range (a : Accessor) (q : Fin 8) (v : Nat)
  | trig (a : Accessor) (q : Fin 8) (v : Nat)
  deriving DecidableEq, Repr

/-- Where a safe message arrives (R369): as a SAFE frame on a ring port, or as a datagram on network port A (0) or B
(1). -/
inductive SafeIn where
  | ring (port : Nat) (frame : Bytes) (fend : FrameEnd)
  | net (path : Fin 2) (msg : Bytes)
  deriving DecidableEq, Repr

/-- The commands of the block, one per row of the opcode table. -/
inductive Instr where
  /-- POWER_ON_RESET (R505): VIN rises past the UVLO rising threshold from OFF; this clears the always-on domain and starts start-up. -/
  | powerOnReset
  /-- RST_N_RESET (R506): RST_N is held low for 1 µs or more, which resets the part and causes ROLE to be sampled again. -/
  | rstNReset (cycles : Nat)
  /-- INTERNAL_RESET_RELEASE (R506): The internal reset is released once the rails and REF are up and RST_N is high. -/
  | internalResetRelease
  /-- ROLE_SAMPLE (R18): The ROLE strap is sampled at 16, 24 or 32 REF cycles after the internal reset is released. -/
  | roleSample (level : Bool)
  /-- ROLE_RESAMPLE_TIMER (R19): The 1 ms timer expires after a ROLE disagreement and ROLE is sampled again. -/
  | roleResampleTimer
  /-- FIRMWARE_START (R484): At start the update journal is evaluated and ACTIVE is checked before it runs. -/
  | firmwareStart (bad : List (Nat × Nat × Nat)) (reads : List (Nat × Nat)) (blocks : Nat)
  /-- START_UP_COMPLETE (R508): Start-up completes: parameters are loaded, the safety block is verified and the PWM block and ports are enabled. -/
  | startUpComplete (high : Nat)
  /-- WATCHDOG_RESET (R505): The service-core watchdog resets the part and the role is kept. -/
  | watchdogReset (core : Nat)
  /-- SOFTWARE_RESET (R505): PWR_CMD 0x02 resets the part by software and the role is kept. -/
  | softwareReset (acc : Accessor)
  /-- STANDBY_REQUEST (R498): PWR_CMD 0x01 requests standby; the request is refused in the listed states. -/
  | standbyRequest (acc : Accessor)
  /-- STBY_IDLE_EXPIRY (R498): The idle timer of a CELL reaches STBY_IDLE and the part enters standby. -/
  | stbyIdleExpiry
  /-- WAKE_EDGE (R497): A WAKE edge of polarity WAKE_POL is held for 4 AON cycles in STANDBY or CHECK. -/
  | wakeEdge (rising : Bool) (cycles : Nat)
  /-- WAKE_TIMER_EXPIRY (R497): WAKE_TIMER seconds pass in standby and a wake start follows. -/
  | wakeTimerExpiry (cycles : Nat)
  /-- STORAGE_CHECK (R236): The AON timer starts a storage check of the battery voltage and temperature, which logs a record and may wake the part. -/
  | storageCheck (cycles : Nat) (vraw : List Int) (traws : List (List Int)) (edge : Bool)
  /-- UVLO_FALL (R493): VIN falls below the UVLO falling threshold and the part turns OFF. -/
  | uvloFall
  /-- THERMAL_LIMIT (R518): The die stays at 140 °C for 10 µs and the part makes a thermal-limit reset. -/
  | thermalLimit
  /-- THERMAL_RELEASE (R518): The die falls to 120 °C and the thermal-limit reset is released. -/
  | thermalRelease
  /-- REF_LOSS (R503): REF is missing or off by more than 1 % for 1 µs; SYS moves to the backup oscillator and the PLLs and lanes stop. -/
  | refLoss
  /-- REF_RESTORED (R503): REF has been good for 1 ms; the PLLs relock and cell TB0 returns to UNSYNC. -/
  | refRestored
  /-- AON_TRIM (R504): Once per second the AON oscillator is measured against REF and trimmed. -/
  | aonTrim (ppm : Int)
  /-- AUX_EN_WRITE (R495): A write of AUX_EN switches the AUX33 output on or off. -/
  | auxEnWrite (acc : Accessor) (v : Nat)
  /-- AUX33_CURRENT_LIMIT (R495): AUX33 enters current limit, which sets AUX_STATUS and an interrupt source. -/
  | aux33CurrentLimit
  /-- STANDING_PARTNER_TIMEOUT (R37): XL0 is not up within 500 ms of reset, so a stored ACTIVE HEAD starts ring bring-up and sets PARTNER_ABSENT. -/
  | standingPartnerTimeout
  /-- ENUM_REENUMERATE (R523): ENUM_CMD code 0x01 re-enumerates a ring. -/
  | enumReenumerate (acc : Accessor) (port : Nat)
  /-- ENUM_COMMISSION (R43): ENUM_CMD code 0x02 commissions a ring or accepts a NEW_SERIAL cell, storing serials in CELL_TABLE. -/
  | enumCommission (acc : Accessor) (port : Nat)
  /-- ENUM_REMOVE (R30): ENUM_CMD code 0x03 removes an admitted ring and fences and bypasses its cells. -/
  | enumRemove (acc : Accessor) (port : Nat)
  /-- RING_ARM_WRITE (R30): A write of a port's RING_ARM entry, accepted only while its ring is not admitted, may start an admission test. -/
  | ringArmWrite (acc : Accessor) (port v : Nat)
  /-- ENUM_FRAME (R40): A cell takes an ENUM frame, sets its hop number, lowers the rate byte and forwards or returns the frame. -/
  | enumFrame (port : Nat) (frame : Bytes) (fend : FrameEnd) (n serial : Nat)
  /-- ENUM_RETURN (R40): The HEAD receives the returning ENUM frame and records N, then sends the reverse frame or RATE_CAP. -/
  | enumReturn (port : Nat) (frame : Bytes) (fend : FrameEnd) (cells : List CellId)
  /-- CUE_PERIOD_WRITE (R46): A write of CUE_PERIOD is range-checked and takes effect from CUE k+2. -/
  | cuePeriodWrite (acc : Accessor) (v : Nat)
  /-- CUE_START (R47): A CUE boundary is reached: the CUE count increments and the CUE-start actions of every block run. -/
  | cueStart (pins : Nat)
  /-- REPORT_ASSEMBLY (R292): At 350 ns into the CUE a cell assembles the measured fields of its report. -/
  | reportAssembly
  /-- REPORT_LAUNCH (R52): At 400 ns into the CUE a cell launches its report record. -/
  | reportLaunch
  /-- COMPUTATION_START (R53): The HEAD starts the computation when the last expected report arrives or the cutoff passes. -/
  | computationStart (hops : List (Nat × List Nat))
  /-- COMPUTATION_END (R166): At 600 CTL cycles the computation ends; records, SHEET frames, PEER frames and snapshots are sent. -/
  | computationEnd
  /-- PROBE_FRAME (R63): A PROBE frame is received and the hop delay d_in is computed and averaged. -/
  | probeFrame (port lane : Nat) (frame : Bytes) (fend : FrameEnd) (at0 : Nat)
  /-- TIME_FRAME (R64): A TIME frame on the time port is received; the node estimates HEAD time, runs its servo and forwards the frame. -/
  | timeFrame (port lane : Nat) (frame : Bytes) (fend : FrameEnd) (at0 : Nat)
  /-- TIME_FRAME_TIMEOUT (R67): No valid time frame arrives in 2 consecutive CUEs, which moves TB0 to UNSYNC or HOLDOVER. -/
  | timeFrameTimeout
  /-- HOLDOVER_LIMIT (R67): The holdover count reaches HOLDOVER_LIMIT; TB0 becomes LOST and the time-lost fault is raised. -/
  | holdoverLimit
  /-- RE_ANCHOR_WRITE (R68): A write of RE_ANCHOR makes the HEAD send a re-anchor to a ring or a cell. -/
  | reAnchorWrite (acc : Accessor) (v : Nat)
  /-- RE_ANCHOR_FRAME (R68): A cell takes a RE_ANCHOR frame and accepts it only while its gates are safe. -/
  | reAnchorFrame (port : Nat) (frame : Bytes) (fend : FrameEnd)
  /-- PTP_SYNC (R72): A PTP Sync from the followed master updates TB1 by the states of Table 02-5. -/
  | ptpSync (port domain : Nat) (logInterval : Int) (master : Nat)
  /-- PTP_ANNOUNCE (R71): A PTP Announce is received and port selection and UTC_OFFSET are updated. -/
  | ptpAnnounce (port domain : Nat) (rank : List Nat) (utc : Int)
  /-- ANNOUNCE_TIMEOUT (R70): Three announce intervals pass without an Announce and the master is declared lost. -/
  | announceTimeout (port : Nat)
  /-- PDELAY_REQ (R70): A Pdelay_Req is received and answered as a two-step responder. -/
  | pdelayReq (port domain : Nat) (frame : Bytes)
  /-- TB1_CMD_REANCHOR (R72): TB1_CMD 0x01 requests a TB1 step at the next Sync, whatever its size. -/
  | tb1CmdReanchor (acc : Accessor)
  /-- TB3_WRITE (R75): A write of TB3 steps it to the written value at the next PWM cycle. -/
  | tb3Write (acc : Accessor) (v : Nat)
  /-- SYNC_EDGE (R76): A SYNC edge is time-stamped, matched to an expected boundary and accepted or ignored. -/
  | syncEdge (rising : Bool) (at0 : Nat)
  /-- SYNC_MISS (R78): An expected SYNC boundary has no accepted edge, and reaching SYNC_MISS_LIMIT moves the state to FREE. -/
  | syncMiss
  /-- SYNC_MODE_WRITE (R78): A write of SYNC_MODE enters ACQUIRE or OFF. -/
  | syncModeWrite (acc : Accessor) (v : Nat)
  /-- SYNC_CMD_REACQUIRE (R78): SYNC_CMD 0x01 returns SYNC from TRACK or FREE to ACQUIRE. -/
  | syncCmdReacquire (acc : Accessor)
  /-- TEVT_FIRE (R79): A time event's time base reaches COMPARE and the event performs its ACTION bits. -/
  | tevtFire (n : Fin 8)
  /-- TEVT_ARM (R80): A write of ARM arms a time event, which fires late if COMPARE has already passed. -/
  | tevtArm (acc : Accessor) (n : Fin 8) (v : Nat)
  /-- CAPTURE_EDGE (R81): An edge on CAP0, CAP1 or SYNC queues a stamp of TB0 to TB3, or sets OVERRUN. -/
  | captureEdge (input : Fin 3) (falling : Bool) (after : Nat)
  /-- ENTRY_READ (R81): A read of ENTRY returns and removes the oldest queued edge entry. -/
  | entryRead (acc : Accessor) (input : Fin 3)
  /-- PORT_ENABLE (R87): Writing EN of RNG_CTRL enables a ring port into DETECT or turns it OFF. -/
  | portEnable (port : Nat) (on : Bool)
  /-- PORT_TEST (R87): Writing TEST of RNG_CTRL places a ring port in TEST or returns it to DETECT. -/
  | portTest (port : Nat) (on : Bool)
  /-- SIGNAL_DETECT (R87): Signal and comma alignment are held for 64 code groups and the port starts offering. -/
  | signalDetect (port : Nat)
  /-- OFFER_TIMER (R87): The 1 µs offer interval expires and a /O/ offer is sent. -/
  | offerTimer (port : Nat)
  /-- OFFER_RECEIVED (R87): A /O/ ordered set is received; after three identical offers the rate is agreed, or the wiring fault is raised. -/
  | offerReceived (port : Nat) (set : Bytes)
  /-- TRAIN_START (R87): 16 µs after the neighbour's third accept the port switches rate and starts PRBS-7 training. -/
  | trainStart (port : Nat)
  /-- TRAINING_END (R87): The 200 µs training ends and the port reaches UP or retrains at a lower rate. -/
  | trainingEnd (port : Nat) (locked : Bool) (errors : Nat)
  /-- LANE_SILENCE_END (R87): A silent period of 10 ms or 100 µs ends and the port returns to DETECT. -/
  | laneSilenceEnd (port : Nat)
  /-- LINK_DOWN (R88): A port in UP meets a link-down criterion and declares the link down. -/
  | linkDown (port : Nat)
  /-- RATE_CAP_FRAME (R89): A RATE_CAP frame sets the cap, and hops above it bring themselves up again. -/
  | rateCapFrame (port : Nat) (frame : Bytes) (fend : FrameEnd)
  /-- CURTAIN_SYMBOL (R92): A cell receives /C/; it forwards it, asserts its CURTAIN line and forces its gates safe. -/
  | curtainSymbol (port : Nat)
  /-- CURTAIN_RING_END (R96): A ring end receives /C/ and counts it as an echo or raises CURTAIN_UNEXP. -/
  | curtainRingEnd (port : Nat)
  /-- CURTAIN_LIFT_FRAME (R95): A cell takes a CURTAIN_LIFT frame stamped with a future CUE L. -/
  | curtainLiftFrame (port : Nat) (frame : Bytes) (fend : FrameEnd)
  /-- FRAME_FORWARD (R106): A frame or train is forwarded cut-through to the other port, ending it with /E/ on errors. -/
  | frameForward (port : Nat) (frame : Bytes) (fend : FrameEnd)
  /-- SHEET_FRAME (R102): A cell takes its record from a SHEET frame and checks it for execution. -/
  | sheetFrame (port : Nat) (frame : Bytes) (fend : FrameEnd) (at0 : Nat)
  /-- REPORT_TRAIN (R104): A passing report train reaches a cell, which appends its own record and /T/. -/
  | reportTrain (port : Nat) (records : List Bytes)
  /-- TRAIN_GRACE_EXPIRY (R104): A cell with i > 0 whose train has not arrived starts its own train after TRAIN_GRACE. -/
  | trainGraceExpiry
  /-- REPORT_RECORD (R54): A ring end receives a report record and checks it for CRC and for a foreign source. -/
  | reportRecord (port : Nat) (record : Bytes)
  /-- BACKGROUND_WINDOW (R109): A port's background window opens and queued background frames are started. -/
  | backgroundWindow (port : Nat)
  /-- LINK_FRAME (R112): The HEAD receives a LINK BREAK or HEAL notice and sets BREAK_LO and BREAK_HI or starts re-enumeration. -/
  | linkFrame (port : Nat) (frame : Bytes) (fend : FrameEnd)
  /-- HEAL_HOLD_EXPIRY (R114): HEAL_HOLD CUEs pass with both cells of the hop UP and the split is restored. -/
  | healHoldExpiry (port : Nat)
  /-- VLOG_CMD_CLEAR (R116): VLOG_CMD 0x01 clears the ring violation log and every ring counter. -/
  | vlogCmdClear (acc : Accessor)
  /-- RNG_PERR_READ (R11): A read of RNG_PERR returns the bit-error count and clears it. -/
  | rngPerrRead (path : Fin 3) (port : Nat)
  /-- RNG_PBITS_READ (R11): A read of RNG_PBITS returns the checked-bit count and clears it. -/
  | rngPbitsRead (path : Fin 3) (port : Nat)
  /-- RNG_INJ_GO (R119): GO of RNG_INJ starts error injection in the selected mode. -/
  | rngInjGo (port v : Nat)
  /-- XL_ENABLE (R124): Writing EN of XL_CTRL starts cross-link clocking and training or idles the link. -/
  | xlEnable (link : Nat) (on : Bool)
  /-- XL_TEST (R124): Writing TEST of XL_CTRL places a cross-link in TEST or returns it to CLOCK. -/
  | xlTest (link : Nat) (on : Bool)
  /-- XL_CLOCK_PRESENT (R124): The forwarded clock has been present for 10 µs and lane alignment starts. -/
  | xlClockPresent (link : Nat)
  /-- XL_ALIGN_DONE (R123): The eye and bit-slip alignment procedure of a lane completes or fails. -/
  | xlAlignDone (link lane : Nat) (errs : List Nat) (slips : Nat)
  /-- HELLO_RECEIVED (R125): A HELLO frame is received and the partner fields are reported, with pairing checks. -/
  | helloReceived (link lane : Nat) (frame : Bytes) (fend : FrameEnd)
  /-- HELLO_TIMER (R125): The HELLO repetition interval expires and a HELLO frame is sent. -/
  | helloTimer (link : Nat)
  /-- LANE_MASK_SYMBOL (R138): A /L/ symbol is received and the transmit lane mask is updated. -/
  | laneMaskSymbol (link mask : Nat)
  /-- XL_LANE_LOSS (R138): A cross-link receive lane loses lock and the link degrades to one lane. -/
  | xlLaneLoss (link lane : Nat) (frame : Bytes)
  /-- XL_LINK_DOWN (R124): The clock or both lanes of a direction are lost and the link goes down. -/
  | xlLinkDown (link : Nat) (frame0 frame1 : Bytes)
  /-- REJOIN_HOLD_EXPIRY (R141): REJOIN_HOLD clean CUEs pass on a lost lane and /L/ with both lanes is sent. -/
  | rejoinHoldExpiry (link lane : Nat)
  /-- PEER_FRAME (R39): A PEER frame is received; duplicates are discarded, the frame is forwarded and its values kept. -/
  | peerFrame (link lane : Nat) (frame : Bytes) (fend : FrameEnd)
  /-- CURTAIN_SET_XL0 (R132): An UNDERSTUDY receives a CURTAIN set on XL0 and sends /C/ on the masked rings. -/
  | curtainSetXl0 (lane : Nat) (set : Bytes)
  /-- CURTAIN_SET_PEER (R354): A CURTAIN set arrives on XL1 or XL2 and demands PEER_GROUPS. -/
  | curtainSetPeer (link : Fin 2) (lane : Nat) (set : Bytes) (netHigh : Nat)
  /-- CURTAIN_SET_TIMEOUT (R132): No CURTAIN set arrives within 256 XLK cycles and sending /C/ or the demand stops. -/
  | curtainSetTimeout (link netHigh : Nat)
  /-- REL_DN (R134): An UNDERSTUDY receives a REL_DN and starts the carried ring frame on port CHAN. -/
  | relDn (lane : Nat) (frame : Bytes) (fend : FrameEnd) (fill : Nat)
  /-- REL_UP (R135): The active HEAD receives a ring frame that the UNDERSTUDY relayed upward. -/
  | relUp (lane : Nat) (frame : Bytes) (fend : FrameEnd) (cells : List CellId) (netHigh : Nat)
  /-- REL_REP (R135): The active HEAD receives a report record relayed by the UNDERSTUDY. -/
  | relRep (lane : Nat) (frame : Bytes) (fend : FrameEnd)
  /-- SNAP_FAST (R393): An UNDERSTUDY receives a fast snapshot fragment and completes the snapshot. -/
  | snapFast (lane : Nat) (frame : Bytes) (fend : FrameEnd)
  /-- SNAP_SLOW (R137): An UNDERSTUDY receives a slow snapshot slice fragment. -/
  | snapSlow (lane : Nat) (frame : Bytes) (fend : FrameEnd)
  /-- SNAP_LATE (R137): A fast snapshot is still incomplete at the start of CUE k+2 and is discarded. -/
  | snapLate
  /-- HEALTH_FRAME (R398): The active HEAD receives a HEALTH report with the partner's verdict. -/
  | healthFrame (lane : Nat) (frame : Bytes) (fend : FrameEnd)
  /-- HEALTH_TIMEOUT (R383): No valid HEALTH frame arrives in 8 consecutive CUEs and PARTNER_HEALTH is raised. -/
  | healthTimeout
  /-- XL_TRN_ERR_READ (R123): A read of TRN_ERR of XL_LSTAT returns the periodicity errors and clears them. -/
  | xlTrnErrRead (path : Fin 3) (link : Nat) (lane : Fin 2)
  /-- XL_PERR_READ (R143): A read of XL_PERR returns the lane bit errors and clears them. -/
  | xlPerrRead (path : Fin 3) (link : Nat) (lane : Fin 2)
  /-- XL_PBITS_READ (R143): A read of XL_PBITS returns the bits checked and clears them. -/
  | xlPbitsRead (path : Fin 3) (link : Nat) (lane : Fin 2)
  /-- XL_INJ_GO (R143): GO of XL_INJ starts cross-link error injection. -/
  | xlInjGo (link : Nat) (lane : Fin 2) (v : Nat)
  /-- XL_VLOG_CMD_CLEAR (R142): XL_VLOG_CMD 0x01 clears the cross-link log and counters. -/
  | xlVlogCmdClear (acc : Accessor)
  /-- MOD_MODE_WRITE (R154): A write of MOD_MODE selects the modulation mode; carrier mode is refused when too many cells are available. -/
  | modModeWrite (acc : Accessor) (arm : Fin 2) (v : Nat)
  /-- SORT_CMD_WRITE (R178): SORT_CMD 0x01 requests a full SIEVE re-sort at the next computation. -/
  | sortCmdWrite (acc : Accessor) (arm : Fin 2) (v : Nat)
  /-- KEY_GATE_WRITE (R177): A write of KEY_GATE holds weight writes, or releases them together. -/
  | keyGateWrite (acc : Accessor) (arm : Fin 2) (v : Nat)
  /-- ORDER_HOLD_WRITE (R184): A write of ORDER_HOLD freezes the SIEVE order, or releases it with a full re-sort. -/
  | orderHoldWrite (acc : Accessor) (arm : Fin 2) (v : Nat)
  /-- EVENT_EDGE (R188): TB0 reaches an event instant and the cell drives the event's gate edges through the delay line. -/
  | eventEdge
  /-- DEAD_TIME_END (R195): The dead time after a falling edge ends and the pending rising edge is driven. -/
  | deadTimeEnd
  /-- DELAY_LINE_CAL (R198): The delay-line replica is measured and the tap codes are updated, or CAL_ERR is raised. -/
  | delayLineCal (tap : Nat) (inTrim : Bool)
  /-- CARRIER_BOUNDARY (R200): A battery-carrier period boundary transfers the pending shadows by Table 07-2. -/
  | carrierBoundary (peak : Bool)
  /-- SHADOW_PER_WRITE (R200): A write of PWM_SHPER or CAR_SHPER lands in the period shadow. -/
  | shadowPerWrite (via : Via) (v : Nat)
  /-- SHADOW_DUTY_WRITE (R203): A write of PWM_SHDUTY or CAR_SHDUTY lands in the duty shadow, or sets OWN_ERR. -/
  | shadowDutyWrite (via : Via) (v : Nat)
  /-- PWM_HOLD_WRITE (R202): A write of HOLD of PWM_XFER suspends the shadow transfers, or releases them together. -/
  | pwmHoldWrite (path : Fin 3) (on : Bool)
  /-- TRIP_ACTIVE (R205): A trip input's filtered level becomes active; the trip latches and applies TRIP_ACT. -/
  | tripActive (input : Nat) (high : Bool) (n : Nat)
  /-- TRIP_INACTIVE (R204): A trip input's filtered level becomes inactive after TRIP_FLT samples. -/
  | tripInactive (input : Nat) (high : Bool) (n : Nat)
  /-- TRIP_CLR (R206): A write of TRIP_CLR or TRP_CLR clears latched trips whose level is inactive. -/
  | tripClr (via : Via) (mask : Nat)
  /-- BYP_CMD (R211): BYP_CMD 0x01 starts a bypass sequence at the next CUE start. -/
  | bypCmd (acc : Accessor)
  /-- BYPASS_PULSE_START (R211): BYP_DELAY after the sequence start, G6 rises. -/
  | bypassPulseStart
  /-- BYPASS_PULSE_END (R211): BYP_PULSE ends and G6 falls. -/
  | bypassPulseEnd
  /-- BYPASS_CONFIRM_TIMEOUT (R212): BYP_CONFIRM passes without sense confirmation; the cell fires again or raises bypass-fail. -/
  | bypassConfirmTimeout
  /-- BYPASS_SENSE (R212): The BYP_SENSE input becomes active within BYP_CONFIRM and BYP is set. -/
  | bypassSense (high : Bool) (n : Nat)
  /-- DEBUG_HALT (R207): The service cores are halted through JTAG; with DBG_HALT_ACTION 0x01 the gates are forced safe. -/
  | debugHalt
  /-- DEBUG_RESUME (R207): The cores resume and the debug-halt forced-safe cause is released. -/
  | debugResume
  /-- PWM_CLOCK_LOSS (R210): The PWM clock is lost for 8 ns and G0 to G7 are forced safe. -/
  | pwmClockLoss
  /-- PWM_CLOCK_GOOD (R207): The PWM clock has been good for 1 ms and the clock-loss cause is released. -/
  | pwmClockGood
  /-- BAT_MODE_WRITE (R222): A write of BAT_MODE is checked against the limits and commissioning. -/
  | batModeWrite (acc : Accessor) (v : Nat)
  /-- BAT_TEST_WRITE (R222): A write of BAT_TEST is checked and selects a battery test mode. -/
  | batTestWrite (acc : Accessor) (v : Nat)
  /-- BAT_CMD_CLEAR (R218): BAT_CMD 0x01 clears FAULT of the battery stage when no STOP condition is present. -/
  | batCmdClear (acc : Accessor)
  /-- BATTERY_SAMPLE (R229): A battery sample of IBAT, VBAT and VCAP completes, the charge is integrated and the protections are tested. -/
  | batterySample
  /-- SOC_SET_WRITE (R230): A write of SOC_SET sets the charge after the next battery sample. -/
  | socSetWrite (acc : Accessor) (v : Nat)
  /-- SOC_REST_RESET (R231): The current stays in the rest band for REST_T and SOC is set once from OCV_TABLE. -/
  | socRestReset
  /-- LOOP_GROUP_START (R249): A loop group's instant arrives and its channels execute in order. -/
  | loopGroupStart (group : Fin 4)
  /-- LOOP_DESC_WRITE (R260): A whole channel descriptor write is checked and pended for the next execution. -/
  | loopDescWrite (acc : Accessor) (ch : Nat) (d : Bytes)
  /-- LOOP_GTAB_WRITE (R260): A whole gain table write is checked and pended for the next execution. -/
  | loopGtabWrite (acc : Accessor) (ch : Nat) (d : Bytes)
  /-- GTAB_POKE_WRITE (R260): A GTAB_POKE write pends the replacement of one gain table entry. -/
  | gtabPokeWrite (acc : Accessor) (ch : Nat) (v : Nat)
  /-- LOOP_LIMIT_WRITE (R247): A write of I_LO, I_HI, Y_LO or Y_HI is tested against the pending limits. -/
  | loopLimitWrite (acc : Accessor) (which : Fin 4) (ch : Nat) (v : Nat)
  /-- INT_SET_WRITE (R263): A write of INT_SET sets the integrator at the next execution. -/
  | intSetWrite (acc : Accessor) (ch : Nat) (v : Nat)
  /-- LOOP_FLAGS_WRITE (R263): A write of LOOP_FLAGS changes ENABLE and the mode flags; enabling resets the integrator and fallback. -/
  | loopFlagsWrite (acc : Accessor) (ch : Nat) (v : Nat)
  /-- INJ_CMD_START (R269): INJ_CMD 0x01 starts a test injection on INJ_CH. -/
  | injCmdStart (acc : Accessor)
  /-- INJ_CMD_STOP (R270): INJ_CMD 0x02 ends the running injection. -/
  | injCmdStop (acc : Accessor)
  /-- SEQ_TABLE_WRITE (R279): A write of a sequence table, entry, range or trigger is checked whole. -/
  | seqTableWrite (w : SeqWrite)
  /-- SEQ_TIMER (R280): SEQ_PERIOD of TB2 elapses and a TIMER-triggered sequence starts. -/
  | seqTimer (seq : Fin 8)
  /-- SEQ_CMD_START (R280): SEQ_CMD 0x01 starts a SOFTWARE-triggered sequence. -/
  | seqCmdStart (acc : Accessor) (seq : Fin 8)
  /-- ADC_SWSTART (R280): A write of ADC_SWSTART starts the sequences whose bits are set. -/
  | adcSwstart (path : Fin 3) (mask : Nat)
  /-- ENTRY_SAMPLE (R281): A sequence entry's sample instant arrives once its converter is free and it samples its input. -/
  | entrySample (seq : Fin 8)
  /-- RESULT_WRITE (R281): A conversion completes and its result, flags and stamp are written. -/
  | resultWrite (seq : Fin 8) (raws : List Rat) (netHigh : Nat)
  /-- ADC_RESULT_READ (R290): A read of ADC_RABn or ADC_RCn clears NEW and OVERRUN in the reader's view and latches the stamp. -/
  | adcResultRead (path : Fin 3) (c : Bool) (n : Fin 64)
  /-- RESULT_OBJECT_READ (R290): A read of RES_AB or RES_C returns a result and clears the reader's flags. -/
  | resultObjectRead (acc : Accessor) (c : Bool) (n : Fin 64)
  /-- REF_EN_WRITE (R285): A write of REF_EN enables or disables the precision reference buffer. -/
  | refEnWrite (via : Via) (v : Nat)
  /-- REF_READY_TIMER (R285): 2 ms after the buffer is enabled, REF_READY becomes 1. -/
  | refReadyTimer
  /-- CAL_CMD (R294): CAL_CMD 0x01 or the CAL bit of ADC_CTRL starts ADC self-calibration. -/
  | calCmd (via : Via)
  /-- CAL_DONE (R294): A self-calibration run completes and sets CAL_OFS or fails. -/
  | calDone (shortsA shortsB : List Int)
  /-- CAPTURE_BASE_SAMPLE (R297): A stream takes a base sample and closes a record every AVG_N samples. -/
  | captureBaseSample (stream : Fin 8)
  /-- CAP_CMD_START (R305): CAP_CMD 0x01 allocates the pre-trigger ring and arms a stream. -/
  | capCmdStart (acc : Accessor) (stream : Nat)
  /-- CAP_CMD_STOP (R305): CAP_CMD 0x02 stops a stream, completes its filling window and frees its ring. -/
  | capCmdStop (acc : Accessor) (stream : Nat)
  /-- CAP_CMD_ARM (R305): CAP_CMD 0x03 re-arms a DISARMED stream. -/
  | capCmdArm (acc : Accessor) (stream : Nat)
  /-- CAP_CMD_FORCE (R303): CAP_CMD 0x04 forces a trigger on a stream. -/
  | capCmdForce (acc : Accessor) (stream : Nat)
  /-- CAPTURE_TRIGGER (R303): A stream's trigger source happens; in ARMED it gives a MARK and a window. -/
  | captureTrigger (stream : Fin 8)
  /-- CAPTURE_HOLDOFF_EXPIRY (R306): Hold-off is met and the stream returns to ARMED. -/
  | captureHoldoffExpiry (stream : Fin 8)
  /-- WIN_RELEASE_WRITE (R310): A write of WIN_RELEASE frees a READY window in the PANTRY. -/
  | winReleaseWrite (acc : Accessor) (v : Nat)
  /-- CAPTURE_FRAME (R313): A HEAD takes a CAPTURE frame for a remote stream and writes its records. -/
  | captureFrame (port : Nat) (frame : Bytes) (fend : FrameEnd)
  /-- CAPQ_RD_WRITE (R301): A write of CAPQ_RDn frees the consumed staging bytes, or is logged as CAPQ_RD. -/
  | capqRdWrite (path : Fin 3) (stream : Fin 8) (v : Nat)
  /-- SL_CYCLE_START (R317): A sequence cycle start applies the write point, latches the read point and starts execution. -/
  | slCycleStart (pins : Nat)
  /-- LDB (R321): RLO := bit. -/
  | slLdb (area : Fin 16) (operand : Nat)
  /-- LDNB (R321): RLO := inverse of bit. -/
  | slLdnb (area : Fin 16) (operand : Nat)
  /-- ANDB (R321): RLO := RLO and bit. -/
  | slAndb (area : Fin 16) (operand : Nat)
  /-- ANDNB (R321): RLO := RLO and not bit. -/
  | slAndnb (area : Fin 16) (operand : Nat)
  /-- ORB (R321): RLO := RLO or bit. -/
  | slOrb (area : Fin 16) (operand : Nat)
  /-- ORNB (R321): RLO := RLO or not bit. -/
  | slOrnb (area : Fin 16) (operand : Nat)
  /-- STB (R321): bit := RLO. -/
  | slStb (area : Fin 16) (operand : Nat)
  /-- SETB (R321): If RLO, the bit is set. -/
  | slSetb (area : Fin 16) (operand : Nat)
  /-- RSTB (R321): If RLO, the bit is cleared. -/
  | slRstb (area : Fin 16) (operand : Nat)
  /-- LD (R321): ACC := word. -/
  | slLd (area : Fin 16) (operand : Nat)
  /-- ST (R321): word := ACC. -/
  | slSt (area : Fin 16) (operand : Nat)
  /-- ADD (R321): ACC := ACC + word, saturated. -/
  | slAdd (area : Fin 16) (operand : Nat)
  /-- SUB (R321): ACC := ACC − word, saturated. -/
  | slSub (area : Fin 16) (operand : Nat)
  /-- MUL (R321): ACC := ACC × word, saturated. -/
  | slMul (area : Fin 16) (operand : Nat)
  /-- CMPGT (R321): RLO := ACC > word. -/
  | slCmpgt (area : Fin 16) (operand : Nat)
  /-- CMPEQ (R321): RLO := ACC = word. -/
  | slCmpeq (area : Fin 16) (operand : Nat)
  /-- CMPLT (R321): RLO := ACC < word. -/
  | slCmplt (area : Fin 16) (operand : Nat)
  /-- FIX (R321): ACC := the F32 word × 1,024, rounded and saturated. -/
  | slFix (area : Fin 16) (operand : Nat)
  /-- TON (R321): A cycle-counting on-delay timer held in two M words. -/
  | slTon (area : Fin 16) (operand : Nat)
  /-- RTRIG (R321): A rising-edge detect on RLO, using a bit of M. -/
  | slRtrig (area : Fin 16) (operand : Nat)
  /-- JMP (R321): Unconditional jump. -/
  | slJmp (operand : Nat)
  /-- JMPC (R321): Jump if RLO is 1. -/
  | slJmpc (operand : Nat)
  /-- JMPN (R321): Jump if RLO is 0. -/
  | slJmpn (operand : Nat)
  /-- END (R321): Ends the cycle; queued writes act at the next write point. -/
  | slEnd
  /-- WROBJ (R321): If RLO, queues an object write of ACC for the write point. -/
  | slWrobj (operand : Nat)
  /-- MODE (R321): If RLO, makes a mode request for mode ACC[3:0]. -/
  | slMode
  /-- SACK (R321): If RLO, acknowledges re-admission of station ACC. -/
  | slSack
  /-- SL_CMD_RUN (R323): SL_CMD 0x01 runs the program from STOP or HALTED. -/
  | slCmdRun (acc : Accessor)
  /-- SL_CMD_STOP (R323): SL_CMD 0x02 stops the engine with safe values at the next cycle start. -/
  | slCmdStop (acc : Accessor)
  /-- SL_CMD_REVERT (R330): SL_CMD 0x03 switches back to the old bank at the next suitable cycle start. -/
  | slCmdRevert (acc : Accessor)
  /-- SL_CUES_WRITE (R316): A write of SL_CUES, accepted only in STOP, restarts the cycle phase. -/
  | slCuesWrite (acc : Accessor) (v : Nat)
  /-- SL_LOAD_WRITE (R329): An SL_LOAD write stores image bytes into the inactive bank. -/
  | slLoadWrite (acc : Accessor) (d : Bytes)
  /-- SL_CHANGE (R329): SL_CHANGE 0x01 starts verification of the loaded image. -/
  | slChange (acc : Accessor)
  /-- SL_CHANGE_CLEAR_FORCES (R334): SL_CHANGE 0x02 starts verification and clears the M forces at the switch. -/
  | slChangeClearForces (acc : Accessor)
  /-- SL_VERIFY_DONE (R329): Image verification completes; the change is ARMED or REJECTED. -/
  | slVerifyDone
  /-- FORCE_TABLE_WRITE (R333): A write of FORCE_TABLE sets forces that apply from the next read point. -/
  | forceTableWrite (acc : Accessor) (d : Bytes)
  /-- STN_READMIT_WRITE (R328): A write of STN_READMIT re-admits a RETURNING station at the next write point. -/
  | stnReadmitWrite (acc : Accessor) (v : Nat)
  /-- MODE_REQ_WRITE (R337): A write of MODE_REQ makes a converter-wide mode request, checked for acceptance. -/
  | modeReqWrite (acc : Accessor) (d : Bytes)
  /-- STATION_OUT (R326): A cell takes a STATION_OUT frame, sets G7, handles the mode request and answers. -/
  | stationOut (port : Nat) (frame : Bytes) (fend : FrameEnd)
  /-- STATION_RESPONSE (R327): The HEAD takes a station response and updates the station state at the read point. -/
  | stationResponse (port : Nat) (frame : Bytes) (fend : FrameEnd)
  /-- STN_TIMEOUT (R326): No valid STATION_OUT arrives for STN_TIMEOUT CUEs; G7 goes low and STN_STATE is 0x02. -/
  | stnTimeout
  /-- SAFE_CMD_CONFIG (R345): SAFE_CMD 0x01 with the token moves the safety block from RUN to CONFIG. -/
  | safeCmdConfig (acc : Accessor)
  /-- SAFE_CMD_VERIFY (R345): SAFE_CMD 0x02 computes SAFE_CRC_NOW and enters VERIFY. -/
  | safeCmdVerify (acc : Accessor)
  /-- SAFE_CRC_CHECK (R346): The 10 ms periodic recomputation of the parameter CRC runs, and a mismatch gives LOCKOUT. -/
  | safeCrcCheck
  /-- PLANE_MISMATCH (R345): The safety planes disagree or the clock monitor fails, and the block enters LOCKOUT. -/
  | planeMismatch
  /-- SI_SAMPLE (R356): The safety inputs are sampled at a 10 µs instant, updating filters, pair demand and discrepancy. -/
  | siSample (levels netHigh : Nat)
  /-- SO_TEST_PULSE (R362): A safe output's test pulse starts once per SO_TP_PERIOD. -/
  | soTestPulse (out : Fin 4)
  /-- SO_TEST_PULSE_END (R362): SO_TP_WIDTH ends and the output switches back on. -/
  | soTestPulseEnd (out : Fin 4)
  /-- SO_READBACK_SAMPLE (R363): A safe output's readback is sampled and checked for faults. -/
  | soReadbackSample (out : Fin 4) (level : Bool) (netHigh : Nat)
  /-- SAFE_MESSAGE (R371): A safe message copy is received and handled by Table 13-8. -/
  | safeMessage (src : SafeIn) (netHigh : Nat)
  /-- SAFE_TX_TIMER (R370): TX_MS or SCELL_TX expires and a DATA safe message is sent. -/
  | safeTxTimer (conn : Nat)
  /-- SAFE_WATCHDOG_TIMEOUT (R372): WD passes without a new SCOUNT and the connection enters TIMEOUT. -/
  | safeWatchdogTimeout (conn : Nat)
  /-- SAFE_PATH_LOSS (R372): A path carries no copy for 8 messages and is declared lost. -/
  | safePathLoss (conn : Nat) (path : Fin 2)
  /-- CURTAIN_LIFT_DELAY (R350): 1,100 LTX cycles after a ring is released, the HEAD sends CURTAIN_LIFT with L. -/
  | curtainLiftDelay (ring : Nat)
  /-- CURTAIN_UNEXP_END (R353): No /C/ has arrived for 64 LTX cycles and the unexpected-CURTAIN demand ends. -/
  | curtainUnexpEnd (port netHigh : Nat)
  /-- SAFE_TEST_WRITE (R378): A write of SAFE_TEST starts a fault injection into the test plane. -/
  | safeTestWrite (acc : Accessor) (d : Bytes)
  /-- SAFE_TEST_END (R378): The test window ends and TEST_RESULT is set to PASS or FAIL. -/
  | safeTestEnd
  /-- FAULT_PIN_ASSERT (R391): A fault source pin is asserted; it is recorded and its class reaction applied. -/
  | faultPinAssert (pins : List (Nat × Nat))
  /-- FAULT_PIN_RELEASE (R391): A fault pin is released and the quiet timer starts. -/
  | faultPinRelease (source : Nat) (inst : Nat)
  /-- FAULT_QUIET_EXPIRY (R391): The quiet timer reaches FLT_QUIET and the source returns to IDLE or LATCHED. -/
  | faultQuietExpiry (source : Nat)
  /-- FAULT_FORGIVE_EXPIRY (R391): FLT_FORGIVE seconds pass without an assertion and RCNT decrements. -/
  | faultForgiveExpiry (source : Nat)
  /-- FLT_CMD_EMPTY (R388): FLT_CMD 0x01, or FF_EMPTY of FLT_CTL, empties the first-fault record. -/
  | fltCmdEmpty (via : Via)
  /-- FLT_CMD_CLEAR_LATCHED (R391): FLT_CMD 0x02, or CLR_LATCH of FLT_CTL, clears LATCHED sources whose pins are released. -/
  | fltCmdClearLatched (via : Via)
  /-- FLT_CMD_RELEASE (R392): FLT_CMD 0x03, or RELEASE of FLT_CTL, releases FAULT_HOLD and restarts the part. -/
  | fltCmdRelease (via : Via)
  /-- FLT_FSTAT_CLEAR (R391): A W1C write of FLT_FSTAT clears LATCHED sources. -/
  | fltFstatClear (acc : Accessor) (word : Fin 2) (mask : Nat)
  /-- FAULT_COLLECTOR_RESET (R389): A SAFE source or self-check resets the part after the always-on copy. -/
  | faultCollectorReset
  /-- COLLECTOR_SELF_CHECK (R390): A copy mismatch or parity error in the collector asserts a fault-collector reset. -/
  | collectorSelfCheck (which : Nat)
  /-- FENCE_CMD_FENCE (R387): FENCE_CMD code 0x01 fences a cell under source 46. -/
  | fenceCmdFence (acc : Accessor) (port : Nat) (hop : Nat)
  /-- FENCE_CMD_UNFENCE (R387): FENCE_CMD code 0x02 unfences a cell when no fault names it. -/
  | fenceCmdUnfence (acc : Accessor) (port : Nat) (hop : Nat)
  /-- LOSS_DETECTED (R399): The loss test holds at LOSS_CUES consecutive CUE starts and the UNDERSTUDY acts. -/
  | lossDetected
  /-- TAKEOVER_CMD (R403): TAKEOVER_CMD 0x01 requests a handover to the UNDERSTUDY. -/
  | takeoverCmd (acc : Accessor)
  /-- IRQ_SOURCE_EVENT (R410): A hardware interrupt source event sets its pending bit. -/
  | irqSourceEvent (source : Fin 256)
  /-- IRQ_PEND_WRITE (R412): A raw write of IRQ_PENDn changes only bits that differ from the accessor's last read. -/
  | irqPendWrite (acc : Accessor) (word : Fin 8) (v : Nat)
  /-- IRQ_EN_WRITE (R412): A raw write of IRQ_ENn or IRQ_ENABLE acts against the remembered read. -/
  | irqEnWrite (acc : Accessor) (word : Fin 8) (v : Nat)
  /-- IRQ_SET_WRITE (R413): A write of IRQ_SETn sets pending bits as source events. -/
  | irqSetWrite (acc : Accessor) (word : Fin 8) (v : Nat)
  /-- IRQ_CLR_WRITE (R413): A write of IRQ_CLRn discards pending bits. -/
  | irqClrWrite (acc : Accessor) (word : Fin 8) (v : Nat)
  /-- IRQ_ENSET_WRITE (R411): A write of IRQ_ENSETn enables sources. -/
  | irqEnsetWrite (acc : Accessor) (word : Fin 8) (v : Nat)
  /-- IRQ_ENCLR_WRITE (R411): A write of IRQ_ENCLRn disables sources. -/
  | irqEnclrWrite (acc : Accessor) (word : Fin 8) (v : Nat)
  /-- IRQ_ROUTE_WRITE (R415): A write of IRQ_ROUTE moves a group to a new target. -/
  | irqRouteWrite (acc : Accessor) (group : Fin 32) (v : Nat)
  /-- IRQ_TCTL_SLEEP (R416): A write of SLEEP of IRQ_TCTL puts Seat 1 or Seat 2 to sleep or wakes it. -/
  | irqTctlSleep (acc : Accessor) (on : Bool)
  /-- TARGET_SLEEP_CHANGE (R416): A target falls asleep or wakes, and delivered groups move to the fallback or are withdrawn. -/
  | targetSleepChange (target : Fin 8) (asleep : Bool)
  /-- GROUP_DELIVERY (R417): A deliverable group wins arbitration and is delivered to its target. -/
  | groupDelivery (target : Fin 8)
  /-- IRQ_COAL_TIMEOUT (R418): COAL_T passes after the first counted event and the group becomes deliverable. -/
  | irqCoalTimeout (group : Fin 32)
  /-- IRQ_HOLDOFF_EXPIRY (R419): HOLDOFF_T passes since the last claim and the group becomes deliverable. -/
  | irqHoldoffExpiry (group : Fin 32)
  /-- IRQ_CLAIM (R421): A read of IRQ_CLAIM claims the delivered group for the target. -/
  | irqClaim (acc : Accessor)
  /-- IRQ_EOI (R422): A write of IRQ_EOI completes a group in service. -/
  | irqEoi (acc : Accessor) (group : Nat)
  /-- IRQ_VLOG_CMD_CLEAR (R435): IRQ_VLOG_CMD 0x01 clears the interrupt violation log and its counters. -/
  | irqVlogCmdClear (acc : Accessor)
  /-- DSP_PUSH_DIRECT (R429): DSP_PUSH_GO in mode 0 pushes an item directly to a flow. -/
  | dspPushDirect (acc : Accessor) (flow : Fin 1024) (tag a b : Nat)
  /-- DSP_PUSH_OPERAND (R430): DSP_PUSH_GO in mode 1 or 2 stores an operand and matches it. -/
  | dspPushOperand (acc : Accessor) (flow : Fin 1024) (slot : Fin 2) (tag a : Nat)
  /-- DSP_PUSH_DELAY (R431): DSP_PUSH_GO in mode 3 places an item in a delay list. -/
  | dspPushDelay (acc : Accessor) (flow : Fin 1024) (list : Fin 4) (tag a b time : Nat)
  /-- DSP_POP (R428): A read of DSP_POPH or DSP_POP pops one ready item of the queue. -/
  | dspPop (acc : Accessor) (queue : Fin 12)
  /-- DSP_DONE (R428): A write of DSP_DONE ends a flow's item in service. -/
  | dspDone (acc : Accessor) (flow : Nat)
  /-- DSP_CMD_RETURN (R433): DSP_CMD 0x01 returns in-service items to the head of their flows. -/
  | dspCmdReturn (acc : Accessor)
  /-- DSP_CMD_DISCARD (R433): DSP_CMD 0x02 discards all items of the writer's flows. -/
  | dspCmdDiscard (acc : Accessor)
  /-- DSP_CMD_PURGE (R430): DSP_CMD 0x03 purges the writer's waiting operands. -/
  | dspCmdPurge (acc : Accessor)
  /-- DELAY_LIST_RELEASE (R431): At each microsecond of TB2, delay-list items whose time has passed are released. -/
  | delayListRelease
  /-- DSP_QDEPTH_READ (R432): A read of DSP_QDEPTHq returns the depths and clears the largest. -/
  | dspQdepthRead (acc : Accessor) (queue : Fin 16)
  /-- DSP_QWAIT_READ (R432): A read of DSP_QWAITq returns the waits and clears the largest. -/
  | dspQwaitRead (acc : Accessor) (queue : Fin 16)
  /-- DSP_MSTAT_READ (R11): A read of DSP_MSTAT returns operand counts and clears MAX. -/
  | dspMstatRead (acc : Accessor)
  /-- DSP_LSTAT_READ (R11): A read of DSP_LSTATn returns list counts and clears MAX. -/
  | dspLstatRead (acc : Accessor) (list : Fin 4)
  /-- OBJ_CMD_READ (R449): OBJ_CMD OP 0b01 starts a mailbox object read. -/
  | objCmdRead (path : Fin 3)
  /-- OBJ_CMD_WRITE (R449): OBJ_CMD OP 0b10 starts a mailbox object write. -/
  | objCmdWrite (path : Fin 3)
  /-- OBJECT_WRITE (R439): An object write that has no row of its own is checked by R440 and applied by its owning chapter. -/
  | objectWrite (acc : Accessor) (key : Nat) (data : Bytes)
  /-- QSPI_READ (R448): A QSPI READ command returns words and acts on them after each word. -/
  | qspiRead (seat : Fin 2) (addr count : Nat)
  /-- QSPI_WRITE (R448): A QSPI WRITE command writes words as their last nibbles arrive. -/
  | qspiWrite (seat : Fin 2) (addr : Nat) (words : List Nat)
  /-- QSPI_STATUS (R447): A QSPI STATUS command returns the status byte and clears its violation bit. -/
  | qspiStatus (seat : Fin 2)
  /-- QSPI_CUT (R448): CS_N rises inside a command, which is cut short and logged. -/
  | qspiCut (seat : Fin 2) (opcode addr count : Nat) (words : List Nat)
  /-- PCIE_REQUEST (R446): A PCI Express memory request to BAR0 or BAR2 is served, or refused with UR or as poisoned. -/
  | pcieRequest (bar2 write : Bool) (off len be value : Nat) (poison : Bool)
  /-- PCIE_LINK_RESET (R446): A link-down, hot reset or function-level reset releases the Seat 0 token. -/
  | pcieLinkReset
  /-- PERST_N (R509): PERST_N low resets the Seat 0 function, and its rise starts link training. -/
  | perstN (high : Bool)
  /-- HOP_OPEN (R452): A HOP OPEN opens a session, or is answered BUSY. -/
  | hopOpen (ip port : Nat) (frame : Bytes)
  /-- HOP_CLOSE (R452): A HOP CLOSE closes the session, dropping its subscriptions and token. -/
  | hopClose (ip port : Nat) (frame : Bytes)
  /-- HOP_KEEPALIVE (R453): A HOP KEEPALIVE restarts the session timer. -/
  | hopKeepalive (ip port : Nat) (frame : Bytes)
  /-- HOP_READ (R453): A HOP READ reads an object under the SEQ rules. -/
  | hopRead (ip port : Nat) (frame : Bytes)
  /-- HOP_WRITE (R453): A HOP WRITE writes an object under the SEQ rules. -/
  | hopWrite (ip port : Nat) (frame : Bytes)
  /-- HOP_SUBSCRIBE (R454): A HOP SUBSCRIBE replaces the session's group and stream subscriptions. -/
  | hopSubscribe (ip port : Nat) (frame : Bytes)
  /-- HOP_SESSION_TIMEOUT (R452): HOP_TIMEOUT passes without a valid request and the session closes. -/
  | hopSessionTimeout (session : Nat)
  /-- HOP_STREAM_FLUSH (R454): A stream buffer reaches 1,024 bytes or 1 ms passes and a STREAM frame is sent. -/
  | hopStreamFlush (stream : Nat)
  /-- ARP_REQUEST (R450): An ARP request is answered. -/
  | arpRequest (port target : Nat) (asker : Bytes)
  /-- ICMP_ECHO (R450): An ICMP echo request is answered. -/
  | icmpEcho (port : Nat) (echo : Bytes)
  /-- TOKEN_REQUEST (R456): TOKEN_CMD 0x01 takes the token when FREE, or sets a REQ bit. -/
  | tokenRequest (via : Via)
  /-- TOKEN_RELEASE (R456): TOKEN_CMD 0x02 releases the token to the lowest requesting seat. -/
  | tokenRelease (via : Via)
  /-- TOKEN_FORCE_CMD (R456): TOKEN_CMD 0x03 forces the token to a permitted seat. -/
  | tokenForceCmd (via : Via)
  /-- TOKEN_RENEW (R456): TOKEN_CMD 0x04 restarts the holder's lease. -/
  | tokenRenew (via : Via)
  /-- TOKEN_WITHDRAW (R456): TOKEN_CMD 0x05 clears the writer's REQ bit. -/
  | tokenWithdraw (via : Via)
  /-- TOKEN_LEASE_EXPIRY (R456): TOKEN_LEASE passes without renewal and the token passes on. -/
  | tokenLeaseExpiry
  /-- CELL_OBJ_REQUEST (R459): A cell serves an OBJ_REQ with Seat 1 rights and queues an OBJ_RSP. -/
  | cellObjRequest (port : Nat) (frame : Bytes) (fend : FrameEnd)
  /-- CELL_OBJ_RESPONSE (R458): The HEAD receives an OBJ_RSP and completes the cell access. -/
  | cellObjResponse (port : Nat) (frame : Bytes) (fend : FrameEnd)
  /-- CELL_OBJ_TIMEOUT (R459): CELL_OBJ_TIMEOUT CUEs pass without a response and the access is answered 0x08. -/
  | cellObjTimeout (id : Nat)
  /-- STORE_CMD_STORE (R460): STORE_CMD 0x01 copies the STORED objects and starts writing a PARAM record. -/
  | storeCmdStore (acc : Accessor)
  /-- STORE_CMD_DEFAULTS (R461): STORE_CMD 0x02 sets every STORED object to its default. -/
  | storeCmdDefaults (acc : Accessor)
  /-- STORE_CMD_RELOAD (R461): STORE_CMD 0x03 reloads the PARAM record in use. -/
  | storeCmdReload (acc : Accessor)
  /-- STORE_DONE (R460): The PARAM record is written and read back, and STORE_SLOT and STORE_GEN switch to it. -/
  | storeDone (failed : Bool)
  /-- SEAT_VLOG_CMD_CLEAR (R463): SEAT_VLOG_CMD 0x01 clears the seat log and counters. -/
  | seatVlogCmdClear (acc : Accessor)
  /-- SCRUB_READ (R470): The scrubber reads the next working-memory word and corrects or reports errors. -/
  | scrubRead
  /-- MEM_INJ_WRITE (R471): A write of MEM_INJ corrupts one or two symbols of a stored word. -/
  | memInjWrite (acc : Accessor) (v : Nat)
  /-- UPD_DATA_WRITE (R479): A write of UPD_DATA appends image bytes to STAGING or the PASS store. -/
  | updDataWrite (acc : Accessor) (d : Bytes)
  /-- STAGING_PROGRAMMED (R477): The last chunk is stored and STAGING programmed, and verification begins. -/
  | stagingProgrammed (failed : Bool)
  /-- UPD_VERIFY_DONE (R476): Image verification completes and the image is VERIFIED or REJECTED. -/
  | updVerifyDone (bad : List Nat)
  /-- UPD_CMD_ARM (R477): UPD_CMD 0x02 arms a verified image. -/
  | updCmdArm (acc : Accessor)
  /-- UPD_CMD_RESTART (R485): UPD_CMD 0x03 restarts the part by a software reset. -/
  | updCmdRestart (acc : Accessor)
  /-- UPD_CMD_CONFIRM (R486): UPD_CMD 0x04 confirms the image in TRIAL. -/
  | updCmdConfirm (acc : Accessor)
  /-- UPD_CMD_ABORT (R477): UPD_CMD 0x05 aborts a staged or armed image. -/
  | updCmdAbort (acc : Accessor)
  /-- PASS_CMD (R481): A write of PASS_CMD starts a PASS on the masked rings, or ends every pass. -/
  | passCmd (acc : Accessor) (mask : Nat)
  /-- PASS_CHUNK (R482): A cell receives a PASS CHUNK, stores it and answers with an ACK. -/
  | passChunk (port : Nat) (frame : Bytes) (fend : FrameEnd)
  /-- PASS_ACK (R482): A sender receives a PASS ACK and advances its chunk pointer. -/
  | passAck (port : Nat) (frame : Bytes) (fend : FrameEnd)
  /-- PASS_ABORT (R483): A PASS ABORT ends the relay and forwards the abort. -/
  | passAbort (port : Nat) (frame : Bytes) (fend : FrameEnd)
  /-- PASS_RESEND (R482): The ACK has not advanced for 8 CUEs and the sender sends again. -/
  | passResend (port : Nat) (far : Bool)
  /-- REGISTER_WRITE (R9): A write of a register with no row of its own acts by its field access codes. -/
  | registerWrite (path : Fin 3) (addr value mask : Nat)
  /-- CHECKER_LOCK (R117): The lane pattern checker gains lock after 64 error-free bits or loses it after 16 errors in 1,024 bits, and it counts each bit error, setting PCHK_ERR. -/
  | checkerLock (lane : Nat) (bits : List Bool)
  /-- NETWORK_LINK_CHANGE (R410): Network port A or B loses or regains its link, which sets source 0 or 1 of interrupt group 27 and changes which port can carry HOP, PTP and safe traffic. -/
  | networkLinkChange (port : Fin 2) (up : Bool)
  /-- START_PHASE_END (R419): 1 s of TB2 after SAFE_STATE first enters RUN the START phase of IRQ_PHASE ends, and groups with HMODE 0x02 change from hold-off to coalescing. -/
  | startPhaseEnd
  /-- SUPPLY_WINDOW_COMPARATOR (R375): A core, I/O or reference supply leaves or re-enters the window of the supply window comparators after their 1 µs filter, which fails or clears that stop-class diagnostic and demands DIAG_GROUPS. -/
  | supplyWindowComparator (input : Nat) (outside : Bool) (netHigh : Nat)
  /-- CARRIER_DUTY_EDGE (R199): Within a battery-carrier period the counter reaches the end, or in centre mode the start, of the DUTY window, and G4 is commanded to change level, with G5 following under DT_BAT. -/
  | carrierDutyEdge
  /-- QSPI_UNKNOWN (R448): A QSPI command with an unknown opcode is logged as QSPI_UNKNOWN and leaves IO0 to IO3 undriven until CS_N rises. -/
  | qspiUnknown (seat : Fin 2) (opcode : Nat)
  /-- MEMORY_SYMBOL_ERROR (R467): A stored working-memory word suffers an upset in one or more 4-bit symbols, which the next read of that word then corrects or reports. -/
  | memorySymbolError (word : BitVec 22) (errs : BitVec 144)
  /-- NET_DROPPED_FRAME (R450): A station-network frame that is not ARP, ICMP echo, HOP, a safe-port datagram or PTP, or that comes from a sender outside HOP_ALLOW, is discarded and counted in NET_DROPPED. -/
  | netDroppedFrame (port : Nat)
  deriving DecidableEq, Repr

end Sys2Proof
end

