-- ==== Sys2Proof/Decode.lean ====
section
/-! DEFINITION. The command a word spells: of the table's rows the sequence logic's instructions alone have an encoding. -/

namespace Sys2Proof

/-- The instruction of the sequence logic that a 32-bit word spells: OP[31:26], AREA[25:22], OPERAND[21:0] (R321, Table 12-3).
An OP outside the table spells none. -/
def slDecode (w : Nat) : Option Instr :=
  let area : Fin 16 := ⟨w / 2 ^ 22 % 16, Nat.mod_lt _ (by decide)⟩
  let o := w % 2 ^ 22
  match w / 2 ^ 26 % 64 with
  | 0x01 => some (.slLdb area o)
  | 0x02 => some (.slLdnb area o)
  | 0x03 => some (.slAndb area o)
  | 0x04 => some (.slAndnb area o)
  | 0x05 => some (.slOrb area o)
  | 0x06 => some (.slOrnb area o)
  | 0x07 => some (.slStb area o)
  | 0x08 => some (.slSetb area o)
  | 0x09 => some (.slRstb area o)
  | 0x0A => some (.slLd area o)
  | 0x0B => some (.slSt area o)
  | 0x0C => some (.slAdd area o)
  | 0x0D => some (.slSub area o)
  | 0x0E => some (.slMul area o)
  | 0x0F => some (.slCmpgt area o)
  | 0x10 => some (.slCmpeq area o)
  | 0x11 => some (.slCmplt area o)
  | 0x12 => some (.slFix area o)
  | 0x13 => some (.slTon area o)
  | 0x14 => some (.slRtrig area o)
  | 0x15 => some (.slJmp o)
  | 0x16 => some (.slJmpc o)
  | 0x17 => some (.slJmpn o)
  | 0x18 => some .slEnd
  | 0x19 => some (.slWrobj o)
  | 0x1A => some .slMode
  | 0x1B => some .slSack
  | _ => none

/-- The table itself gives no row a bit field (its `fields` are empty); the words of the one encoding the spec gives, that of
R321, spell the sequence logic's instructions. -/
def decodeTableWord (nbits w : Nat) : Option Instr := if nbits = 32 then slDecode w else none

end Sys2Proof
end

