-- ==== Sys2Proof/Config.lean ====
section
/-! DEFINITION. What one part of the QSH7256 fixes (factory values) and every value the spec leaves open. Each is
an opaque constant: no proof can see its value, so a statement that mentions one holds for every value of it. -/

namespace Sys2Proof.Config

/-- The factory serial of this part, UNIT_SERIAL (Table 16-13, default "Unit"). -/
opaque unitSerial : BitVec 64
/-- HW_TYPE of this part (Table 16-13, default "Unit"). -/
opaque hwType : BitVec 32
/-- MAC_ADDR of this part, bits 47 to 0 (Table 16-13, default "Unit"). -/
opaque macAddr : BitVec 48
/-- Whether the part was ordered as QSH7256-ET (Table 00-2). -/
opaque orderedEt : Bool
/-- FW_VERSION of the image the part was delivered with (Table 16-13, default "Image"). -/
opaque firmwareVersion : BitVec 32
/-- A factory byte of the calibration and scale objects (INT_SCALE, CAL_FACTORY, UPD_KEYS): the object's key and
the byte's offset. -/
opaque factoryByte : Nat → Nat → Byte

/-- The unit serial of the HEAD that a CELL's safe connection ends at (R368 keys the connection by it; no object gives
it to the cell). -/
opaque headSerial : Nat
/-- The factory correction of a conversion of ADC A or B, in volts, by its CAL_FACTORY gain word and offset (R294 gives no
formula). -/
opaque factoryCorrect : Nat → Int → Rat → Rat
/-- A value the spec leaves undefined after a command that goes on: the n-th value drawn
(`Machine.State.freeCtr` counts them). -/
opaque freeValue : Nat → Nat
/-- The error, in units of 2 to the power −40, of the cosine unit for an angle (R255 gives only its bound). -/
opaque cosError : Nat → Int
/-- The number a binary32 word that is infinite or not a number stands for where exact arithmetic meets it (the spec
states none). -/
opaque nonFinite : Nat → Int
/-- The quotient, as an integer, of a division whose divisor is 0 (the spec states none); the argument names the
division. -/
opaque divZero : Nat → Int
/-- SHA-384 over a byte string, 48 bytes (R475 names the function, the spec does not restate it). -/
opaque sha384 : Bytes → Bytes
/-- ECDSA P-384 verification: public key, digest, signature (R475 names the function). -/
opaque ecdsaP384 : Bytes → Bytes → Bytes → Bool

/-- The image stream (header, then body) that ACTIVE holds as the part is delivered. -/
opaque deliveredImage : Bytes
/-- The image stream of the GOLDEN slot (R472). -/
opaque goldenImage : Bytes
/-- The working-memory word at which the staging buffer of stream n begins: the spec gives no layout of working
memory. -/
opaque stagingWord : Nat → Nat
/-- The words at which the PANTRY, the PASS store, the stream being received into STAGING and the relay stream begin. -/
opaque pantryWord : Nat
opaque passWord : Nat
opaque imageWord : Nat
opaque relayWord : Nat
/-- The 16 check bits of 128 data bits (R466, R467: the spec gives the code by what it corrects and detects). -/
opaque checkBits : Nat → BitVec 16
/-- The maker's number in the IDCODE register of the JTAG port (R516): the spec does not give it. -/
opaque jtagMaker : BitVec 11

end Sys2Proof.Config
end

