-- ==== Sys2Proof/Machine/Dict.lean ====
section
/-! DEFINITION. What a row of an object table says (Table 00-4, R438 to R441). -/

namespace Sys2Proof.Machine

/-- Object types (Table 00-4). -/
inductive ObjType where
  | bool | u8 | u16 | u32 | u64 | i16 | i32 | q15 | q31 | f32 | str | dom
  deriving DecidableEq, Repr

/-- One seat's column of an object table: no access, read, read and write. -/
inductive Col where
  | no | r | rw
  deriving DecidableEq, Repr

/-- The four seat columns. -/
structure Cols where
  s0 : Col
  s1 : Col
  s2 : Col
  s3 : Col
  deriving DecidableEq, Repr

/-- Persistence classes. -/
inductive Persist where
  | vol | stored | factory
  deriving DecidableEq, Repr

/-- The roles in which the object's block is on (Table 01-2). -/
inductive Roles where
  | both | head | cell
  deriving DecidableEq, Repr

/-- One row: the index range, the subindex range, the type, the seat columns, the default (raw little-endian value
of a fixed-size object), the persistence, the roles, whether it is control-writing, its size in bytes, and the
ranges a written value must lie in (empty: any; signed types compare as signed). -/
structure DictRow where
  ilo : Nat
  ihi : Nat
  slo : Nat
  shi : Nat
  ty : ObjType
  cols : Cols
  dflt : Nat
  pers : Persist
  roles : Roles
  ctl : Bool
  len : Nat
  rng : List (Int × Int)
  deriving DecidableEq, Repr

end Sys2Proof.Machine
end

