-- ==== Sys2Proof/Machine/DictTable.lean ====
section
/-! DEFINITION. The rows of the object dictionary: one list per index page (index divided by 256), written from the object tables of the chapters (Tables 01-8, 02-8, 03-12 and the rest, R438 to R464). -/

namespace Sys2Proof.Machine.Dict

/-- The objects with index 0x1000 to 0x10FF. -/
def page10 : List DictRow := [
  -- ROLE
  ⟨0x1010, 0x1010, 0x00, 0x00, .u8, ⟨.r, .r, .r, .r⟩, 0, .vol, .both, false, 1, []⟩,
  -- ROLE_UNSTABLE
  ⟨0x1010, 0x1010, 0x01, 0x01, .bool, ⟨.r, .r, .r, .r⟩, 0, .vol, .both, false, 1, [(0, 1)]⟩,
  -- HEAD_STANDING
  ⟨0x1011, 0x1011, 0x00, 0x00, .u8, ⟨.rw, .rw, .rw, .rw⟩, 1, .stored, .head, true, 1, [(1, 2)]⟩,
  -- PAIR_ID
  ⟨0x1011, 0x1011, 0x01, 0x01, .u8, ⟨.rw, .rw, .rw, .rw⟩, 0, .stored, .head, true, 1, [(0, 15)]⟩,
  -- STANDING_NOW
  ⟨0x1011, 0x1011, 0x02, 0x02, .u8, ⟨.r, .r, .r, .r⟩, 0, .vol, .head, false, 1, []⟩,
  -- CADDR
  ⟨0x1012, 0x1012, 0x00, 0x00, .u16, ⟨.no, .r, .r, .no⟩, 0, .vol, .cell, false, 2, []⟩,
  -- VENDOR
  ⟨0x1000, 0x1000, 0x01, 0x01, .str, ⟨.r, .r, .r, .r⟩, 0, .factory, .both, false, 32, []⟩,
  -- PART
  ⟨0x1000, 0x1000, 0x02, 0x02, .str, ⟨.r, .r, .r, .r⟩, 0, .factory, .both, false, 16, []⟩,
  -- ORDER_CODE
  ⟨0x1000, 0x1000, 0x03, 0x03, .str, ⟨.r, .r, .r, .r⟩, 0, .factory, .both, false, 16, []⟩,
  -- SI_REV
  ⟨0x1000, 0x1000, 0x04, 0x04, .u16, ⟨.r, .r, .r, .r⟩, 16897, .factory, .both, false, 2, []⟩,
  -- UNIT_SERIAL
  ⟨0x1000, 0x1000, 0x05, 0x05, .u64, ⟨.r, .r, .r, .r⟩, 0, .factory, .both, false, 8, []⟩,
  -- HW_TYPE
  ⟨0x1000, 0x1000, 0x06, 0x06, .u32, ⟨.r, .r, .r, .r⟩, 0, .factory, .both, false, 4, []⟩,
  -- FW_VERSION
  ⟨0x1000, 0x1000, 0x07, 0x07, .u32, ⟨.r, .r, .r, .r⟩, 0, .vol, .both, false, 4, []⟩,
  -- DICT_VERSION
  ⟨0x1000, 0x1000, 0x08, 0x08, .u16, ⟨.r, .r, .r, .r⟩, 1, .vol, .both, false, 2, []⟩,
  -- PCI_VID
  ⟨0x1000, 0x1000, 0x09, 0x09, .u16, ⟨.r, .no, .no, .r⟩, 8060, .factory, .head, false, 2, []⟩,
  -- PCI_SSVID
  ⟨0x1000, 0x1000, 0x0A, 0x0A, .u16, ⟨.rw, .rw, .rw, .rw⟩, 0, .stored, .head, true, 2, []⟩,
  -- PCI_SSID
  ⟨0x1000, 0x1000, 0x0B, 0x0B, .u16, ⟨.rw, .rw, .rw, .rw⟩, 0, .stored, .head, true, 2, []⟩,
  -- MAC_ADDR
  ⟨0x1000, 0x1000, 0x0C, 0x0C, .u64, ⟨.r, .r, .r, .r⟩, 0, .factory, .head, false, 8, []⟩,
  -- TOKEN_HOLDER
  ⟨0x1020, 0x1020, 0x00, 0x00, .u8, ⟨.r, .r, .r, .r⟩, 255, .vol, .both, false, 1, []⟩,
  -- TOKEN_CMD
  ⟨0x1020, 0x1020, 0x01, 0x01, .u8, ⟨.rw, .rw, .rw, .rw⟩, 0, .vol, .both, false, 1, [(1, 5)]⟩,
  -- TOKEN_LEASE
  ⟨0x1020, 0x1020, 0x02, 0x02, .u32, ⟨.rw, .rw, .rw, .rw⟩, 10000, .stored, .both, true, 4, [(0, 0), (100, 3600000)]⟩,
  -- TOKEN_FORCE
  ⟨0x1020, 0x1020, 0x03, 0x03, .u8, ⟨.rw, .rw, .rw, .rw⟩, 1, .stored, .both, true, 1, [(0, 15)]⟩,
  -- TOKEN_REQ
  ⟨0x1020, 0x1020, 0x04, 0x04, .u8, ⟨.r, .r, .r, .r⟩, 0, .vol, .both, false, 1, []⟩,
  -- TOKEN_SESSION
  ⟨0x1020, 0x1020, 0x05, 0x05, .u8, ⟨.r, .no, .no, .r⟩, 0, .vol, .head, false, 1, []⟩,
  -- STORE_CMD
  ⟨0x1030, 0x1030, 0x00, 0x00, .u8, ⟨.rw, .rw, .rw, .rw⟩, 0, .vol, .both, true, 1, [(1, 3)]⟩,
  -- STORE_STATE
  ⟨0x1030, 0x1030, 0x01, 0x01, .u8, ⟨.r, .r, .r, .r⟩, 0, .vol, .both, false, 1, []⟩,
  -- STORE_GEN
  ⟨0x1030, 0x1030, 0x02, 0x02, .u32, ⟨.r, .r, .r, .r⟩, 0, .vol, .both, false, 4, []⟩,
  -- STORE_SLOT
  ⟨0x1030, 0x1030, 0x03, 0x03, .u8, ⟨.r, .r, .r, .r⟩, 0, .vol, .both, false, 1, []⟩,
  -- IP_ADDR
  ⟨0x1040, 0x1040, 0x01, 0x01, .u32, ⟨.rw, .rw, .rw, .rw⟩, 0, .stored, .head, true, 4, []⟩,
  -- IP_MASK
  ⟨0x1040, 0x1040, 0x02, 0x02, .u32, ⟨.rw, .rw, .rw, .rw⟩, 4294967040, .stored, .head, true, 4, []⟩,
  -- IP_GW
  ⟨0x1040, 0x1040, 0x03, 0x03, .u32, ⟨.rw, .rw, .rw, .rw⟩, 0, .stored, .head, true, 4, []⟩,
  -- HOP_PORT
  ⟨0x1040, 0x1040, 0x04, 0x04, .u16, ⟨.rw, .rw, .rw, .rw⟩, 49880, .stored, .head, true, 2, [(1024, 65535)]⟩,
  -- HOP_TIMEOUT
  ⟨0x1040, 0x1040, 0x05, 0x05, .u16, ⟨.rw, .rw, .rw, .rw⟩, 5000, .stored, .head, true, 2, [(500, 60000)]⟩,
  -- HOP_ALLOW
  ⟨0x1040, 0x1040, 0x06, 0x06, .dom, ⟨.rw, .rw, .rw, .rw⟩, 0, .stored, .head, true, 32, []⟩,
  -- HOP_SESSIONS
  ⟨0x1040, 0x1040, 0x07, 0x07, .dom, ⟨.r, .r, .r, .r⟩, 0, .vol, .head, false, 128, []⟩,
  -- NET_DROPPED
  ⟨0x1040, 0x1040, 0x08, 0x08, .u32, ⟨.r, .r, .r, .r⟩, 0, .vol, .head, false, 4, []⟩,
  -- QSPI_DUMMY
  ⟨0x1050, 0x1050, 0x01, 0x02, .u8, ⟨.rw, .rw, .rw, .rw⟩, 16, .stored, .both, true, 1, [(4, 32)]⟩,
  -- CELL_OBJ_TIMEOUT
  ⟨0x1060, 0x1060, 0x00, 0x00, .u16, ⟨.rw, .rw, .rw, .rw⟩, 10, .stored, .head, true, 2, [(2, 1000)]⟩,
  -- SEAT_VLOG
  ⟨0x1070, 0x1070, 0x00, 0x00, .dom, ⟨.r, .r, .r, .r⟩, 0, .vol, .both, false, 1024, []⟩,
  -- SEAT_VCOUNT
  ⟨0x1070, 0x1070, 0x01, 0x01, .dom, ⟨.r, .r, .r, .r⟩, 0, .vol, .both, false, 96, []⟩,
  -- SEAT_VLOG_CMD
  ⟨0x1070, 0x1070, 0x02, 0x02, .u8, ⟨.rw, .rw, .rw, .rw⟩, 0, .vol, .both, true, 1, [(1, 1)]⟩]

/-- The objects with index 0x2000 to 0x20FF. -/
def page20 : List DictRow := [
  -- CUE_PERIOD
  ⟨0x2000, 0x2000, 0x00, 0x00, .u32, ⟨.rw, .rw, .rw, .rw⟩, 20000, .stored, .head, true, 4, []⟩,
  -- CUE_PERIOD_NOW
  ⟨0x2000, 0x2000, 0x01, 0x01, .u32, ⟨.r, .r, .r, .r⟩, 20000, .vol, .both, false, 4, []⟩,
  -- CUE_COUNT
  ⟨0x2000, 0x2000, 0x02, 0x02, .u32, ⟨.r, .r, .r, .r⟩, 0, .vol, .both, false, 4, []⟩,
  -- REPORT_CUTOFF
  ⟨0x2001, 0x2001, 0x00, 0x00, .u32, ⟨.rw, .rw, .rw, .rw⟩, 0, .stored, .head, true, 4, []⟩,
  -- CUTOFF_NOW
  ⟨0x2001, 0x2001, 0x01, 0x01, .u32, ⟨.r, .r, .r, .r⟩, 0, .vol, .head, false, 4, []⟩,
  -- PIPE_MARGIN
  ⟨0x2002, 0x2002, 0x01, 0x0C, .i32, ⟨.r, .r, .r, .r⟩, 0, .vol, .head, false, 4, []⟩,
  -- PIPE_MARGIN_1P
  ⟨0x2003, 0x2003, 0x01, 0x0C, .i32, ⟨.r, .r, .r, .r⟩, 0, .vol, .head, false, 4, []⟩,
  -- SHEET_LATE
  ⟨0x2004, 0x2004, 0x00, 0x00, .u32, ⟨.no, .r, .r, .no⟩, 0, .vol, .cell, false, 4, []⟩,
  -- TB0
  ⟨0x2010, 0x2010, 0x00, 0x00, .u64, ⟨.r, .r, .r, .r⟩, 0, .vol, .both, false, 8, []⟩,
  -- TB0_STATE
  ⟨0x2010, 0x2010, 0x01, 0x01, .u8, ⟨.r, .r, .r, .r⟩, 0, .vol, .both, false, 1, []⟩,
  -- TB0_OFFSET
  ⟨0x2010, 0x2010, 0x02, 0x02, .i32, ⟨.r, .r, .r, .r⟩, 0, .vol, .both, false, 4, []⟩,
  -- TB0_STEP_MAX
  ⟨0x2010, 0x2010, 0x03, 0x03, .u32, ⟨.rw, .rw, .rw, .rw⟩, 64, .stored, .both, true, 4, [(8, 10000)]⟩,
  -- HOLDOVER_LIMIT
  ⟨0x2010, 0x2010, 0x04, 0x04, .u16, ⟨.rw, .rw, .rw, .rw⟩, 64, .stored, .both, true, 2, [(2, 4096)]⟩,
  -- DELAY_AVG
  ⟨0x2010, 0x2010, 0x05, 0x05, .u8, ⟨.rw, .rw, .rw, .rw⟩, 64, .stored, .both, true, 1, [(8, 8), (16, 16), (32, 32), (64, 64), (128, 128)]⟩,
  -- STEP_REFUSED
  ⟨0x2010, 0x2010, 0x06, 0x06, .u32, ⟨.r, .r, .r, .r⟩, 0, .vol, .both, false, 4, []⟩,
  -- TB0_DISC
  ⟨0x2010, 0x2010, 0x07, 0x07, .bool, ⟨.rw, .rw, .rw, .rw⟩, 0, .stored, .head, true, 1, [(0, 1)]⟩,
  -- PORT_ASYM
  ⟨0x2011, 0x2011, 0x01, 0x02, .i32, ⟨.rw, .rw, .rw, .rw⟩, 0, .stored, .both, true, 4, []⟩,
  -- PORT_ASYM
  ⟨0x2011, 0x2011, 0x03, 0x0C, .i32, ⟨.rw, .rw, .rw, .rw⟩, 0, .stored, .head, true, 4, []⟩,
  -- HOP_DELAY
  ⟨0x2012, 0x2012, 0x01, 0x02, .u32, ⟨.r, .r, .r, .r⟩, 0, .vol, .both, false, 4, []⟩,
  -- HOP_DELAY
  ⟨0x2012, 0x2012, 0x03, 0x0C, .u32, ⟨.r, .r, .r, .r⟩, 0, .vol, .head, false, 4, []⟩,
  -- RE_ANCHOR
  ⟨0x2013, 0x2013, 0x00, 0x00, .u16, ⟨.rw, .rw, .rw, .rw⟩, 0, .vol, .head, true, 2, []⟩,
  -- TB1
  ⟨0x2020, 0x2020, 0x00, 0x00, .u64, ⟨.r, .r, .r, .r⟩, 0, .vol, .head, false, 8, []⟩,
  -- TB1_STATE
  ⟨0x2020, 0x2020, 0x01, 0x01, .u8, ⟨.r, .r, .r, .r⟩, 0, .vol, .head, false, 1, []⟩,
  -- TB1_OFFSET
  ⟨0x2020, 0x2020, 0x02, 0x02, .i32, ⟨.r, .r, .r, .r⟩, 0, .vol, .head, false, 4, []⟩,
  -- TB1_STEP_MAX
  ⟨0x2020, 0x2020, 0x03, 0x03, .u32, ⟨.rw, .rw, .rw, .rw⟩, 1000, .stored, .head, true, 4, [(100, 1000000)]⟩,
  -- PTP_DOMAIN
  ⟨0x2020, 0x2020, 0x04, 0x04, .u8, ⟨.rw, .rw, .rw, .rw⟩, 0, .stored, .head, true, 1, []⟩,
  -- TB1_CMD
  ⟨0x2020, 0x2020, 0x05, 0x05, .u8, ⟨.rw, .rw, .rw, .rw⟩, 0, .vol, .head, true, 1, [(1, 1)]⟩,
  -- PTP_PORT
  ⟨0x2020, 0x2020, 0x06, 0x06, .u8, ⟨.r, .r, .r, .r⟩, 0, .vol, .head, false, 1, []⟩,
  -- UTC_OFFSET
  ⟨0x2020, 0x2020, 0x07, 0x07, .i16, ⟨.r, .r, .r, .r⟩, 0, .vol, .head, false, 2, []⟩,
  -- TB2
  ⟨0x2030, 0x2030, 0x00, 0x00, .u64, ⟨.r, .r, .r, .r⟩, 0, .vol, .both, false, 8, []⟩,
  -- TB3
  ⟨0x2031, 0x2031, 0x00, 0x00, .u64, ⟨.rw, .rw, .rw, .rw⟩, 0, .vol, .both, true, 8, []⟩,
  -- TB3_RATE
  ⟨0x2031, 0x2031, 0x01, 0x01, .i32, ⟨.rw, .rw, .rw, .rw⟩, 0, .vol, .both, true, 4, []⟩,
  -- SYNC_MODE
  ⟨0x2040, 0x2040, 0x00, 0x00, .u8, ⟨.rw, .rw, .rw, .rw⟩, 0, .stored, .head, true, 1, [(0, 2)]⟩,
  -- SYNC_DIV
  ⟨0x2040, 0x2040, 0x01, 0x01, .u16, ⟨.rw, .rw, .rw, .rw⟩, 1, .stored, .head, true, 2, [(1, 65535)]⟩,
  -- SYNC_OFFSET
  ⟨0x2040, 0x2040, 0x02, 0x02, .i32, ⟨.rw, .rw, .rw, .rw⟩, 0, .stored, .head, true, 4, []⟩,
  -- SYNC_WINDOW
  ⟨0x2040, 0x2040, 0x03, 0x03, .u16, ⟨.rw, .rw, .rw, .rw⟩, 100, .stored, .head, true, 2, [(1, 250)]⟩,
  -- SYNC_SLEW
  ⟨0x2040, 0x2040, 0x04, 0x04, .u16, ⟨.rw, .rw, .rw, .rw⟩, 100, .stored, .head, true, 2, [(1, 500)]⟩,
  -- SYNC_MISS_LIMIT
  ⟨0x2040, 0x2040, 0x05, 0x05, .u8, ⟨.rw, .rw, .rw, .rw⟩, 8, .stored, .head, true, 1, [(1, 255)]⟩,
  -- SYNC_STATE
  ⟨0x2040, 0x2040, 0x06, 0x06, .u8, ⟨.r, .r, .r, .r⟩, 0, .vol, .head, false, 1, []⟩,
  -- SYNC_ERROR
  ⟨0x2040, 0x2040, 0x07, 0x07, .i32, ⟨.r, .r, .r, .r⟩, 0, .vol, .head, false, 4, []⟩,
  -- SYNC_OUTSIDE
  ⟨0x2040, 0x2040, 0x08, 0x08, .u32, ⟨.r, .r, .r, .r⟩, 0, .vol, .head, false, 4, []⟩,
  -- SYNC_CMD
  ⟨0x2040, 0x2040, 0x09, 0x09, .u8, ⟨.rw, .rw, .rw, .rw⟩, 0, .vol, .head, true, 1, [(1, 1)]⟩,
  -- TB_SEL
  ⟨0x2050, 0x2057, 0x01, 0x01, .u8, ⟨.rw, .rw, .rw, .rw⟩, 0, .stored, .both, true, 1, [(0, 3)]⟩,
  -- MODE
  ⟨0x2050, 0x2057, 0x02, 0x02, .u8, ⟨.rw, .rw, .rw, .rw⟩, 0, .stored, .both, true, 1, [(0, 3)]⟩,
  -- COMPARE
  ⟨0x2050, 0x2057, 0x03, 0x03, .u64, ⟨.rw, .rw, .rw, .rw⟩, 0, .stored, .both, true, 8, []⟩,
  -- PERIOD
  ⟨0x2050, 0x2057, 0x04, 0x04, .u64, ⟨.rw, .rw, .rw, .rw⟩, 0, .stored, .both, true, 8, []⟩,
  -- ACTION
  ⟨0x2050, 0x2057, 0x05, 0x05, .u16, ⟨.rw, .rw, .rw, .rw⟩, 0, .stored, .both, true, 2, [(0, 63)]⟩,
  -- ARM
  ⟨0x2050, 0x2057, 0x06, 0x06, .bool, ⟨.rw, .rw, .rw, .rw⟩, 0, .vol, .both, true, 1, [(0, 1)]⟩,
  -- TEVT_STATUS
  ⟨0x2050, 0x2057, 0x07, 0x07, .u8, ⟨.r, .r, .r, .r⟩, 0, .vol, .both, false, 1, []⟩,
  -- EDGE
  ⟨0x2060, 0x2062, 0x01, 0x01, .u8, ⟨.rw, .rw, .rw, .rw⟩, 0, .stored, .both, true, 1, [(0, 3)]⟩,
  -- ENTRY
  ⟨0x2060, 0x2062, 0x02, 0x02, .dom, ⟨.r, .r, .r, .r⟩, 0, .vol, .both, false, 40, []⟩,
  -- COUNT
  ⟨0x2060, 0x2062, 0x03, 0x03, .u8, ⟨.r, .r, .r, .r⟩, 0, .vol, .both, false, 1, []⟩,
  -- OVERRUN
  ⟨0x2060, 0x2062, 0x04, 0x04, .bool, ⟨.rw, .rw, .rw, .rw⟩, 0, .vol, .both, true, 1, [(0, 1)]⟩]

/-- The objects with index 0x3000 to 0x30FF. -/
def page30 : List DictRow := [
  -- RING_MODE
  ⟨0x3001, 0x3001, 0x00, 0x00, .u8, ⟨.rw, .rw, .rw, .rw⟩, 1, .stored, .head, true, 1, [(1, 3)]⟩,
  -- RING_ARM
  ⟨0x3010, 0x3010, 0x01, 0x0C, .u8, ⟨.rw, .rw, .rw, .rw⟩, 0, .stored, .head, true, 1, [(0, 2)]⟩,
  -- RING_EXPECT
  ⟨0x3011, 0x3011, 0x01, 0x0C, .u8, ⟨.rw, .rw, .rw, .rw⟩, 0, .stored, .head, true, 1, [(0, 96)]⟩,
  -- RING_FOUND
  ⟨0x3012, 0x3012, 0x01, 0x0C, .u8, ⟨.r, .r, .r, .r⟩, 0, .vol, .head, false, 1, []⟩,
  -- CELL_TABLE
  ⟨0x3020, 0x3020, 0x01, 0x0C, .dom, ⟨.r, .r, .r, .r⟩, 0, .stored, .head, false, 776, []⟩,
  -- ENUM_CMD
  ⟨0x3021, 0x3021, 0x00, 0x00, .u16, ⟨.rw, .rw, .rw, .rw⟩, 0, .vol, .head, true, 2, []⟩,
  -- RATE_MAX
  ⟨0x3030, 0x3030, 0x01, 0x02, .u8, ⟨.rw, .rw, .rw, .rw⟩, 3, .stored, .both, true, 1, [(0, 3)]⟩,
  -- RATE_MAX
  ⟨0x3030, 0x3030, 0x03, 0x0C, .u8, ⟨.rw, .rw, .rw, .rw⟩, 3, .stored, .head, true, 1, [(0, 3)]⟩,
  -- RATE_NOW
  ⟨0x3031, 0x3031, 0x01, 0x02, .u8, ⟨.r, .r, .r, .r⟩, 255, .vol, .both, false, 1, []⟩,
  -- RATE_NOW
  ⟨0x3031, 0x3031, 0x03, 0x0C, .u8, ⟨.r, .r, .r, .r⟩, 255, .vol, .head, false, 1, []⟩,
  -- PORT_STATE
  ⟨0x3032, 0x3032, 0x01, 0x02, .u8, ⟨.r, .r, .r, .r⟩, 0, .vol, .both, false, 1, []⟩,
  -- PORT_STATE
  ⟨0x3032, 0x3032, 0x03, 0x0C, .u8, ⟨.r, .r, .r, .r⟩, 0, .vol, .head, false, 1, []⟩,
  -- RING_STATUS
  ⟨0x3033, 0x3033, 0x01, 0x02, .u32, ⟨.r, .r, .r, .r⟩, 0, .vol, .both, false, 4, []⟩,
  -- RING_STATUS
  ⟨0x3033, 0x3033, 0x03, 0x0C, .u32, ⟨.r, .r, .r, .r⟩, 0, .vol, .head, false, 4, []⟩,
  -- SPLIT_HOP
  ⟨0x3034, 0x3034, 0x01, 0x0C, .u8, ⟨.rw, .rw, .rw, .rw⟩, 0, .stored, .head, true, 1, [(0, 96)]⟩,
  -- PATH_MODE
  ⟨0x3035, 0x3035, 0x00, 0x00, .u8, ⟨.rw, .rw, .rw, .rw⟩, 1, .stored, .head, true, 1, [(1, 2)]⟩,
  -- HEAL_HOLD
  ⟨0x3036, 0x3036, 0x00, 0x00, .u16, ⟨.rw, .rw, .rw, .rw⟩, 500, .stored, .head, true, 2, [(1, 65535)]⟩,
  -- BG_GUARD
  ⟨0x3037, 0x3037, 0x00, 0x00, .u16, ⟨.rw, .rw, .rw, .rw⟩, 500, .stored, .both, true, 2, [(0, 5000)]⟩,
  -- TRAIN_GRACE
  ⟨0x3038, 0x3038, 0x00, 0x00, .u16, ⟨.no, .rw, .rw, .no⟩, 1000, .stored, .cell, true, 2, [(200, 10000)]⟩,
  -- RING_VIOL
  ⟨0x3040, 0x304F, 0x01, 0x02, .u32, ⟨.r, .r, .r, .r⟩, 0, .vol, .both, false, 4, []⟩,
  -- RING_VIOL
  ⟨0x3040, 0x304F, 0x03, 0x0C, .u32, ⟨.r, .r, .r, .r⟩, 0, .vol, .head, false, 4, []⟩,
  -- RING_VLOG
  ⟨0x3050, 0x3050, 0x00, 0x00, .dom, ⟨.r, .r, .r, .r⟩, 0, .vol, .both, false, 1024, []⟩,
  -- VLOG_COUNT
  ⟨0x3051, 0x3051, 0x00, 0x00, .u32, ⟨.r, .r, .r, .r⟩, 0, .vol, .both, false, 4, []⟩,
  -- VLOG_CMD
  ⟨0x3052, 0x3052, 0x00, 0x00, .u8, ⟨.rw, .rw, .rw, .rw⟩, 0, .vol, .both, true, 1, [(1, 1)]⟩,
  -- CURTAIN_ECHO
  ⟨0x3053, 0x3053, 0x01, 0x0C, .u32, ⟨.r, .r, .r, .r⟩, 0, .vol, .head, false, 4, []⟩]

/-- The objects with index 0x3800 to 0x38FF. -/
def page38 : List DictRow := [
  -- XL_STATE
  ⟨0x3800, 0x3800, 0x01, 0x03, .u8, ⟨.r, .r, .r, .r⟩, 0, .vol, .head, false, 1, []⟩,
  -- XL_WIDTH
  ⟨0x3801, 0x3801, 0x01, 0x03, .u8, ⟨.r, .r, .r, .r⟩, 0, .vol, .head, false, 1, []⟩,
  -- XL_PEER
  ⟨0x3802, 0x3802, 0x01, 0x03, .u32, ⟨.r, .r, .r, .r⟩, 0, .vol, .head, false, 4, []⟩,
  -- XL_PEER_SERIAL
  ⟨0x3803, 0x3803, 0x01, 0x03, .u64, ⟨.r, .r, .r, .r⟩, 0, .vol, .head, false, 8, []⟩,
  -- ONE_LANE_ACTION
  ⟨0x3804, 0x3804, 0x00, 0x00, .u8, ⟨.rw, .rw, .rw, .rw⟩, 1, .stored, .head, true, 1, [(0, 1)]⟩,
  -- REJOIN_HOLD
  ⟨0x3805, 0x3805, 0x00, 0x00, .u16, ⟨.rw, .rw, .rw, .rw⟩, 100, .stored, .head, true, 2, [(1, 65535)]⟩,
  -- SNAP_LATE
  ⟨0x3806, 0x3806, 0x00, 0x00, .u32, ⟨.r, .r, .r, .r⟩, 0, .vol, .head, false, 4, []⟩,
  -- XL_LOST
  ⟨0x3807, 0x3807, 0x01, 0x03, .u32, ⟨.r, .r, .r, .r⟩, 0, .vol, .head, false, 4, []⟩,
  -- XL_VIOL
  ⟨0x3810, 0x381B, 0x01, 0x03, .u32, ⟨.r, .r, .r, .r⟩, 0, .vol, .head, false, 4, []⟩,
  -- XL_VLOG
  ⟨0x3820, 0x3820, 0x00, 0x00, .dom, ⟨.r, .r, .r, .r⟩, 0, .vol, .head, false, 1024, []⟩,
  -- XL_VLOG_CMD
  ⟨0x3821, 0x3821, 0x00, 0x00, .u8, ⟨.rw, .rw, .rw, .rw⟩, 0, .vol, .head, true, 1, [(1, 1)]⟩]

/-- The objects with index 0x4000 to 0x40FF. -/
def page40 : List DictRow := [
  -- ARM_BRIDGE
  ⟨0x4001, 0x4001, 0x01, 0x02, .u8, ⟨.rw, .rw, .rw, .rw⟩, 2, .stored, .head, true, 1, [(1, 2)]⟩,
  -- MOD_MODE
  ⟨0x4002, 0x4002, 0x01, 0x02, .u8, ⟨.rw, .rw, .rw, .rw⟩, 0, .vol, .head, true, 1, [(0, 3)]⟩,
  -- PREDICT
  ⟨0x4003, 0x4003, 0x01, 0x02, .u8, ⟨.rw, .rw, .rw, .rw⟩, 2, .stored, .head, true, 1, [(0, 2)]⟩,
  -- LC_HYST
  ⟨0x4004, 0x4004, 0x01, 0x02, .u16, ⟨.rw, .rw, .rw, .rw⟩, 32, .stored, .head, true, 2, [(0, 256)]⟩,
  -- MIN_DWELL
  ⟨0x4005, 0x4005, 0x01, 0x02, .u32, ⟨.rw, .rw, .rw, .rw⟩, 3000, .stored, .head, true, 4, [(0, 50000)]⟩,
  -- SWAP_MAX
  ⟨0x4006, 0x4006, 0x01, 0x02, .u8, ⟨.rw, .rw, .rw, .rw⟩, 2, .stored, .head, true, 1, [(0, 8)]⟩,
  -- SWAP_AT
  ⟨0x4007, 0x4007, 0x01, 0x02, .u16, ⟨.rw, .rw, .rw, .rw⟩, 32768, .stored, .head, true, 2, []⟩,
  -- SWAP_KEY_MIN
  ⟨0x4008, 0x4008, 0x01, 0x02, .u16, ⟨.rw, .rw, .rw, .rw⟩, 256, .stored, .head, true, 2, []⟩,
  -- NLM_TICKS
  ⟨0x4009, 0x4009, 0x01, 0x02, .u8, ⟨.rw, .rw, .rw, .rw⟩, 4, .stored, .head, true, 1, [(1, 1), (2, 2), (4, 4), (8, 8)]⟩,
  -- CAR_RATIO
  ⟨0x400A, 0x400A, 0x01, 0x02, .u8, ⟨.rw, .rw, .rw, .rw⟩, 4, .stored, .head, true, 1, [(1, 4)]⟩,
  -- INS_MAX
  ⟨0x400B, 0x400B, 0x01, 0x02, .u16, ⟨.rw, .rw, .rw, .rw⟩, 0, .stored, .head, true, 2, [(0, 1024)]⟩,
  -- MOD_COUNT
  ⟨0x4010, 0x4010, 0x01, 0x02, .i16, ⟨.r, .r, .r, .r⟩, 0, .vol, .head, false, 2, []⟩,
  -- MOD_NAV
  ⟨0x4011, 0x4011, 0x01, 0x02, .u16, ⟨.r, .r, .r, .r⟩, 0, .vol, .head, false, 2, []⟩,
  -- MOD_VS
  ⟨0x4012, 0x4012, 0x01, 0x02, .f32, ⟨.r, .r, .r, .r⟩, 0, .vol, .head, false, 4, []⟩,
  -- MOD_TRANS
  ⟨0x4013, 0x4013, 0x01, 0x02, .u8, ⟨.r, .r, .r, .r⟩, 0, .vol, .head, false, 1, []⟩,
  -- MOD_FLAGS
  ⟨0x4014, 0x4014, 0x01, 0x02, .u16, ⟨.r, .r, .r, .r⟩, 0, .vol, .head, false, 2, []⟩,
  -- CLIP_COUNT
  ⟨0x4015, 0x4015, 0x01, 0x02, .u32, ⟨.r, .r, .r, .r⟩, 0, .vol, .head, false, 4, []⟩,
  -- NOCELL_COUNT
  ⟨0x4016, 0x4016, 0x01, 0x02, .u32, ⟨.r, .r, .r, .r⟩, 0, .vol, .head, false, 4, []⟩,
  -- SAT_COUNT
  ⟨0x4017, 0x4017, 0x01, 0x02, .u32, ⟨.r, .r, .r, .r⟩, 0, .vol, .head, false, 4, []⟩,
  -- STATE_ASSUMED
  ⟨0x4018, 0x4018, 0x01, 0x02, .u32, ⟨.r, .r, .r, .r⟩, 0, .vol, .head, false, 4, []⟩,
  -- TRACE_SLOT
  ⟨0x4020, 0x4020, 0x01, 0x02, .u16, ⟨.rw, .rw, .rw, .rw⟩, 65535, .vol, .head, true, 2, []⟩,
  -- TRACE_REC
  ⟨0x4021, 0x4021, 0x01, 0x02, .dom, ⟨.r, .r, .r, .r⟩, 0, .vol, .head, false, 24, []⟩]

/-- The objects with index 0x5000 to 0x50FF. -/
def page50 : List DictRow := [
  -- W_V
  ⟨0x5001, 0x5001, 0x01, 0x02, .u16, ⟨.rw, .rw, .rw, .rw⟩, 1024, .stored, .head, true, 2, []⟩,
  -- W_S
  ⟨0x5002, 0x5002, 0x01, 0x02, .u16, ⟨.rw, .rw, .rw, .rw⟩, 64, .stored, .head, true, 2, []⟩,
  -- W_T
  ⟨0x5003, 0x5003, 0x01, 0x02, .u16, ⟨.rw, .rw, .rw, .rw⟩, 64, .stored, .head, true, 2, []⟩,
  -- W_W
  ⟨0x5004, 0x5004, 0x01, 0x02, .u16, ⟨.rw, .rw, .rw, .rw⟩, 0, .stored, .head, true, 2, []⟩,
  -- KEY_SHIFT
  ⟨0x5005, 0x5005, 0x01, 0x02, .u8, ⟨.rw, .rw, .rw, .rw⟩, 8, .stored, .head, true, 1, [(0, 24)]⟩,
  -- IDIR_DEAD
  ⟨0x5006, 0x5006, 0x01, 0x02, .f32, ⟨.rw, .rw, .rw, .rw⟩, 1101004800, .stored, .head, true, 4, []⟩,
  -- IDIR_INVERT
  ⟨0x5007, 0x5007, 0x01, 0x02, .bool, ⟨.rw, .rw, .rw, .rw⟩, 0, .stored, .head, true, 1, [(0, 1)]⟩,
  -- KEY_AGE_MAX
  ⟨0x5008, 0x5008, 0x01, 0x02, .u8, ⟨.rw, .rw, .rw, .rw⟩, 4, .stored, .head, true, 1, [(0, 64)]⟩,
  -- INC_PASSES
  ⟨0x5009, 0x5009, 0x01, 0x02, .u8, ⟨.rw, .rw, .rw, .rw⟩, 128, .stored, .head, true, 1, [(8, 128)]⟩,
  -- SORT_MODE
  ⟨0x500A, 0x500A, 0x01, 0x02, .u8, ⟨.rw, .rw, .rw, .rw⟩, 0, .stored, .head, true, 1, [(0, 1)]⟩,
  -- WEAR_ADOPT
  ⟨0x500B, 0x500B, 0x00, 0x00, .u8, ⟨.rw, .rw, .rw, .rw⟩, 1, .stored, .head, true, 1, [(0, 1)]⟩,
  -- KEY_GATE
  ⟨0x500C, 0x500C, 0x01, 0x02, .bool, ⟨.rw, .rw, .rw, .rw⟩, 0, .vol, .head, true, 1, [(0, 1)]⟩,
  -- SORT_CMD
  ⟨0x500D, 0x500D, 0x01, 0x02, .u8, ⟨.rw, .rw, .rw, .rw⟩, 0, .vol, .head, true, 1, [(1, 1)]⟩,
  -- ORDER_HOLD
  ⟨0x500E, 0x500E, 0x01, 0x02, .bool, ⟨.rw, .rw, .rw, .rw⟩, 0, .vol, .head, true, 1, [(0, 1)]⟩,
  -- SIEVE_STATUS
  ⟨0x5010, 0x5010, 0x01, 0x02, .u16, ⟨.r, .r, .r, .r⟩, 0, .vol, .head, false, 2, []⟩,
  -- PASSES_USED
  ⟨0x5011, 0x5011, 0x01, 0x02, .u8, ⟨.r, .r, .r, .r⟩, 0, .vol, .head, false, 1, []⟩,
  -- FULL_COUNT
  ⟨0x5012, 0x5012, 0x01, 0x02, .u32, ⟨.r, .r, .r, .r⟩, 0, .vol, .head, false, 4, []⟩,
  -- UNSETTLED_COUNT
  ⟨0x5013, 0x5013, 0x01, 0x02, .u32, ⟨.r, .r, .r, .r⟩, 0, .vol, .head, false, 4, []⟩,
  -- KEY_EPOCH
  ⟨0x5014, 0x5014, 0x01, 0x02, .u32, ⟨.r, .r, .r, .r⟩, 0, .vol, .head, false, 4, []⟩,
  -- PARKED_NOW
  ⟨0x5015, 0x5015, 0x01, 0x02, .u16, ⟨.r, .r, .r, .r⟩, 0, .vol, .head, false, 2, []⟩,
  -- AGED_NOW
  ⟨0x5016, 0x5016, 0x01, 0x02, .u16, ⟨.r, .r, .r, .r⟩, 0, .vol, .head, false, 2, []⟩,
  -- STALE_KEYED
  ⟨0x5017, 0x5017, 0x01, 0x02, .u32, ⟨.r, .r, .r, .r⟩, 0, .vol, .head, false, 4, []⟩,
  -- RANK_TABLE
  ⟨0x5020, 0x5020, 0x01, 0x02, .dom, ⟨.r, .r, .r, .r⟩, 0, .vol, .head, false, 8200, []⟩,
  -- SIEVE_REF
  ⟨0x5021, 0x5021, 0x01, 0x02, .dom, ⟨.r, .r, .r, .r⟩, 0, .vol, .head, false, 16, []⟩,
  -- KEY_PROBE_SLOT
  ⟨0x5022, 0x5022, 0x01, 0x02, .u16, ⟨.rw, .rw, .rw, .rw⟩, 65535, .vol, .head, true, 2, []⟩,
  -- KEY_PROBE
  ⟨0x5023, 0x5023, 0x01, 0x02, .dom, ⟨.r, .r, .r, .r⟩, 0, .vol, .head, false, 40, []⟩,
  -- WEAR_OFS
  ⟨0x5030, 0x5030, 0x00, 0x00, .dom, ⟨.r, .r, .r, .r⟩, 0, .stored, .head, false, 4608, []⟩]

/-- The objects with index 0x6000 to 0x60FF. -/
def page60 : List DictRow := [
  -- SM_TYPE
  ⟨0x6000, 0x6000, 0x01, 0x01, .u8, ⟨.no, .rw, .rw, .no⟩, 0, .stored, .cell, true, 1, [(0, 4)]⟩,
  -- PORT_ORIENT
  ⟨0x6000, 0x6000, 0x02, 0x02, .u8, ⟨.no, .r, .r, .no⟩, 0, .vol, .cell, false, 1, []⟩,
  -- ZERO_MODE
  ⟨0x6001, 0x6001, 0x00, 0x00, .u8, ⟨.no, .rw, .rw, .no⟩, 2, .stored, .cell, true, 1, [(0, 2)]⟩,
  -- DT_BR
  ⟨0x6002, 0x6002, 0x00, 0x00, .u16, ⟨.no, .rw, .rw, .no⟩, 500, .stored, .cell, true, 2, [(0, 2000)]⟩,
  -- DT_BAT
  ⟨0x6002, 0x6002, 0x01, 0x01, .u16, ⟨.no, .rw, .rw, .no⟩, 250, .stored, .cell, true, 2, [(0, 2000)]⟩,
  -- EDGE_TRIM
  ⟨0x6003, 0x6003, 0x01, 0x08, .i16, ⟨.no, .rw, .rw, .no⟩, 0, .stored, .cell, true, 2, [(-8, 7)]⟩,
  -- BYP_DELAY
  ⟨0x6004, 0x6004, 0x00, 0x00, .u32, ⟨.no, .rw, .rw, .no⟩, 2000, .stored, .cell, true, 4, [(0, 100000)]⟩,
  -- BYP_PULSE
  ⟨0x6004, 0x6004, 0x01, 0x01, .u32, ⟨.no, .rw, .rw, .no⟩, 50000, .stored, .cell, true, 4, [(1000, 1000000)]⟩,
  -- BYP_SENSE
  ⟨0x6004, 0x6004, 0x02, 0x02, .u8, ⟨.no, .rw, .rw, .no⟩, 255, .stored, .cell, true, 1, [(0, 5), (255, 255)]⟩,
  -- BYP_CONFIRM
  ⟨0x6004, 0x6004, 0x03, 0x03, .u16, ⟨.no, .rw, .rw, .no⟩, 5000, .stored, .cell, true, 2, [(100, 60000)]⟩,
  -- BYP_RETRY
  ⟨0x6004, 0x6004, 0x04, 0x04, .u8, ⟨.no, .rw, .rw, .no⟩, 2, .stored, .cell, true, 1, [(0, 7)]⟩,
  -- BYP_CMD
  ⟨0x6004, 0x6004, 0x05, 0x05, .u8, ⟨.no, .rw, .rw, .no⟩, 0, .vol, .cell, true, 1, [(1, 1)]⟩,
  -- COAST_HOLD
  ⟨0x6005, 0x6005, 0x00, 0x00, .u8, ⟨.no, .rw, .rw, .no⟩, 2, .stored, .cell, true, 1, [(0, 2)]⟩,
  -- COAST_LIMIT
  ⟨0x6005, 0x6005, 0x01, 0x01, .u8, ⟨.no, .rw, .rw, .no⟩, 4, .stored, .cell, true, 1, [(1, 4)]⟩,
  -- COAST_STATE
  ⟨0x6005, 0x6005, 0x02, 0x02, .u8, ⟨.no, .r, .r, .no⟩, 0, .vol, .cell, false, 1, []⟩,
  -- DBG_HALT_ACTION
  ⟨0x6006, 0x6006, 0x00, 0x00, .u8, ⟨.rw, .rw, .rw, .rw⟩, 1, .stored, .both, true, 1, [(0, 1)]⟩,
  -- EV_CARRIED
  ⟨0x6007, 0x6007, 0x00, 0x00, .u32, ⟨.no, .r, .r, .no⟩, 0, .vol, .cell, false, 4, []⟩,
  -- SHEETS_EXEC
  ⟨0x6007, 0x6007, 0x01, 0x01, .u32, ⟨.no, .r, .r, .no⟩, 0, .vol, .cell, false, 4, []⟩,
  -- COAST_CUES
  ⟨0x6007, 0x6007, 0x02, 0x02, .u32, ⟨.no, .r, .r, .no⟩, 0, .vol, .cell, false, 4, []⟩,
  -- FORCE_CAUSE
  ⟨0x6008, 0x6008, 0x00, 0x00, .u16, ⟨.r, .r, .r, .r⟩, 0, .vol, .both, false, 2, []⟩,
  -- TRIP_FLT
  ⟨0x6010, 0x6010, 0x01, 0x06, .u16, ⟨.rw, .rw, .rw, .rw⟩, 50, .stored, .both, true, 2, [(1, 4096)]⟩,
  -- TRIP_POL
  ⟨0x6011, 0x6011, 0x01, 0x06, .u8, ⟨.rw, .rw, .rw, .rw⟩, 1, .stored, .both, true, 1, [(0, 1)]⟩,
  -- TRIP_ACT
  ⟨0x6012, 0x6012, 0x01, 0x06, .u8, ⟨.rw, .rw, .rw, .rw⟩, 3, .stored, .both, true, 1, [(0, 7)]⟩,
  -- TRIP_LATCHED
  ⟨0x6013, 0x6013, 0x00, 0x00, .u8, ⟨.r, .r, .r, .r⟩, 0, .vol, .both, false, 1, []⟩,
  -- TRIP_CLR
  ⟨0x6013, 0x6013, 0x01, 0x01, .u8, ⟨.rw, .rw, .rw, .rw⟩, 0, .vol, .both, true, 1, [(0, 63)]⟩,
  -- CAR_MODE
  ⟨0x6020, 0x6020, 0x00, 0x00, .u8, ⟨.no, .rw, .rw, .no⟩, 2, .stored, .cell, true, 1, [(0, 2)]⟩,
  -- CAR_XFER
  ⟨0x6020, 0x6020, 0x01, 0x01, .u8, ⟨.no, .rw, .rw, .no⟩, 0, .stored, .cell, true, 1, [(0, 1)]⟩,
  -- CAR_SHPER
  ⟨0x6020, 0x6020, 0x02, 0x02, .u32, ⟨.no, .rw, .rw, .no⟩, 25000, .vol, .cell, true, 4, []⟩,
  -- CAR_SHDUTY
  ⟨0x6020, 0x6020, 0x03, 0x03, .u32, ⟨.no, .rw, .rw, .no⟩, 0, .vol, .cell, true, 4, []⟩,
  -- SPLIT_COUNT
  ⟨0x6020, 0x6020, 0x04, 0x04, .u32, ⟨.no, .r, .r, .no⟩, 0, .vol, .cell, false, 4, []⟩,
  -- LATE_COUNT
  ⟨0x6020, 0x6020, 0x05, 0x05, .u32, ⟨.no, .r, .r, .no⟩, 0, .vol, .cell, false, 4, []⟩,
  -- TAP_PS
  ⟨0x6030, 0x6030, 0x00, 0x00, .u16, ⟨.r, .r, .r, .r⟩, 125, .vol, .both, false, 2, []⟩]

/-- The objects with index 0x6800 to 0x68FF. -/
def page68 : List DictRow := [
  -- BAT_MODE
  ⟨0x6800, 0x6800, 0x00, 0x00, .u8, ⟨.no, .rw, .rw, .no⟩, 0, .stored, .cell, true, 1, [(0, 0), (2, 2)]⟩,
  -- BAT_TEST
  ⟨0x6800, 0x6800, 0x01, 0x01, .u8, ⟨.no, .rw, .rw, .no⟩, 0, .vol, .cell, true, 1, [(0, 2)]⟩,
  -- BAT_STATE
  ⟨0x6800, 0x6800, 0x02, 0x02, .u8, ⟨.no, .r, .r, .no⟩, 0, .vol, .cell, false, 1, []⟩,
  -- BAT_CMD
  ⟨0x6800, 0x6800, 0x03, 0x03, .u8, ⟨.no, .rw, .rw, .no⟩, 0, .vol, .cell, true, 1, [(1, 1)]⟩,
  -- BAT_COMMISSIONED
  ⟨0x6800, 0x6800, 0x04, 0x04, .bool, ⟨.no, .rw, .rw, .no⟩, 0, .stored, .cell, true, 1, [(0, 1)]⟩,
  -- BAT_FLAGS
  ⟨0x6800, 0x6800, 0x05, 0x05, .u16, ⟨.no, .r, .r, .no⟩, 0, .vol, .cell, false, 2, []⟩,
  -- BAT_P_RATED
  ⟨0x6801, 0x6801, 0x00, 0x00, .f32, ⟨.no, .rw, .rw, .no⟩, 0, .stored, .cell, true, 4, []⟩,
  -- BAT_P_LOCAL
  ⟨0x6801, 0x6801, 0x01, 0x01, .f32, ⟨.no, .rw, .rw, .no⟩, 0, .vol, .cell, true, 4, []⟩,
  -- P_SLEW
  ⟨0x6801, 0x6801, 0x02, 0x02, .f32, ⟨.no, .rw, .rw, .no⟩, 1092616192, .stored, .cell, true, 4, []⟩,
  -- I_DIS_MAX
  ⟨0x6802, 0x6802, 0x00, 0x00, .f32, ⟨.no, .rw, .rw, .no⟩, 0, .stored, .cell, true, 4, []⟩,
  -- I_CHG_MAX
  ⟨0x6802, 0x6802, 0x01, 0x01, .f32, ⟨.no, .rw, .rw, .no⟩, 0, .stored, .cell, true, 4, []⟩,
  -- I_OC
  ⟨0x6802, 0x6802, 0x02, 0x02, .f32, ⟨.no, .rw, .rw, .no⟩, 0, .stored, .cell, true, 4, []⟩,
  -- BAT_I_FS
  ⟨0x6802, 0x6802, 0x03, 0x03, .f32, ⟨.no, .rw, .rw, .no⟩, 1128792064, .stored, .cell, true, 4, []⟩,
  -- BAT_VMIN
  ⟨0x6803, 0x6803, 0x00, 0x00, .f32, ⟨.no, .rw, .rw, .no⟩, 0, .stored, .cell, true, 4, []⟩,
  -- BAT_VMAX
  ⟨0x6803, 0x6803, 0x01, 0x01, .f32, ⟨.no, .rw, .rw, .no⟩, 0, .stored, .cell, true, 4, []⟩,
  -- V_DIS_TAPER
  ⟨0x6803, 0x6803, 0x02, 0x02, .f32, ⟨.no, .rw, .rw, .no⟩, 0, .stored, .cell, true, 4, []⟩,
  -- V_CHG_TAPER
  ⟨0x6803, 0x6803, 0x03, 0x03, .f32, ⟨.no, .rw, .rw, .no⟩, 0, .stored, .cell, true, 4, []⟩,
  -- VCAP_HEADROOM
  ⟨0x6803, 0x6803, 0x04, 0x04, .f32, ⟨.no, .rw, .rw, .no⟩, 1112014848, .stored, .cell, true, 4, []⟩,
  -- T_DERATE
  ⟨0x6804, 0x6804, 0x00, 0x00, .i16, ⟨.no, .rw, .rw, .no⟩, 4500, .stored, .cell, true, 2, []⟩,
  -- T_MAX
  ⟨0x6804, 0x6804, 0x01, 0x01, .i16, ⟨.no, .rw, .rw, .no⟩, 5500, .stored, .cell, true, 2, []⟩,
  -- DUTY_MIN
  ⟨0x6805, 0x6805, 0x00, 0x00, .q15, ⟨.no, .rw, .rw, .no⟩, 1638, .stored, .cell, true, 2, []⟩,
  -- DUTY_MAX
  ⟨0x6805, 0x6805, 0x01, 0x01, .q15, ⟨.no, .rw, .rw, .no⟩, 31457, .stored, .cell, true, 2, []⟩,
  -- BAT_FLT
  ⟨0x6806, 0x6806, 0x00, 0x00, .u8, ⟨.no, .rw, .rw, .no⟩, 2, .stored, .cell, true, 1, [(1, 16)]⟩,
  -- BAT_AIN_V
  ⟨0x6807, 0x6807, 0x00, 0x00, .u8, ⟨.no, .rw, .rw, .no⟩, 8, .stored, .cell, true, 1, [(0, 15)]⟩,
  -- BAT_AIN_I
  ⟨0x6807, 0x6807, 0x01, 0x01, .u8, ⟨.no, .rw, .rw, .no⟩, 9, .stored, .cell, true, 1, [(0, 15)]⟩,
  -- BAT_AIN_T
  ⟨0x6807, 0x6807, 0x02, 0x02, .u8, ⟨.no, .rw, .rw, .no⟩, 12, .stored, .cell, true, 1, [(0, 15), (255, 255)]⟩,
  -- BAT_AIN_T
  ⟨0x6807, 0x6807, 0x03, 0x03, .u8, ⟨.no, .rw, .rw, .no⟩, 13, .stored, .cell, true, 1, [(0, 15), (255, 255)]⟩,
  -- BAT_AIN_T
  ⟨0x6807, 0x6807, 0x04, 0x04, .u8, ⟨.no, .rw, .rw, .no⟩, 14, .stored, .cell, true, 1, [(0, 15), (255, 255)]⟩,
  -- BAT_AIN_T
  ⟨0x6807, 0x6807, 0x05, 0x05, .u8, ⟨.no, .rw, .rw, .no⟩, 15, .stored, .cell, true, 1, [(0, 15), (255, 255)]⟩,
  -- BAT_V_GAIN
  ⟨0x6807, 0x6807, 0x06, 0x06, .f32, ⟨.no, .rw, .rw, .no⟩, 0, .stored, .cell, true, 4, []⟩,
  -- BAT_V_OFS
  ⟨0x6807, 0x6807, 0x07, 0x07, .f32, ⟨.no, .rw, .rw, .no⟩, 0, .stored, .cell, true, 4, []⟩,
  -- BAT_I_GAIN
  ⟨0x6807, 0x6807, 0x08, 0x08, .f32, ⟨.no, .rw, .rw, .no⟩, 0, .stored, .cell, true, 4, []⟩,
  -- BAT_I_OFS
  ⟨0x6807, 0x6807, 0x09, 0x09, .f32, ⟨.no, .rw, .rw, .no⟩, 0, .stored, .cell, true, 4, []⟩,
  -- BAT_CAP
  ⟨0x6808, 0x6808, 0x00, 0x00, .f32, ⟨.no, .rw, .rw, .no⟩, 0, .stored, .cell, true, 4, []⟩,
  -- BAT_ETA
  ⟨0x6808, 0x6808, 0x01, 0x01, .q15, ⟨.no, .rw, .rw, .no⟩, 32767, .stored, .cell, true, 2, []⟩,
  -- SOC
  ⟨0x6808, 0x6808, 0x02, 0x02, .u16, ⟨.no, .r, .r, .no⟩, 0, .vol, .cell, false, 2, []⟩,
  -- SOC_SET
  ⟨0x6808, 0x6808, 0x03, 0x03, .u16, ⟨.no, .rw, .rw, .no⟩, 0, .vol, .cell, true, 2, []⟩,
  -- SOC_MIN
  ⟨0x6808, 0x6808, 0x04, 0x04, .u16, ⟨.no, .rw, .rw, .no⟩, 3277, .stored, .cell, true, 2, []⟩,
  -- SOC_MAX
  ⟨0x6808, 0x6808, 0x05, 0x05, .u16, ⟨.no, .rw, .rw, .no⟩, 62259, .stored, .cell, true, 2, []⟩,
  -- REST_I
  ⟨0x6808, 0x6808, 0x06, 0x06, .f32, ⟨.no, .rw, .rw, .no⟩, 1065353216, .stored, .cell, true, 4, []⟩,
  -- REST_T
  ⟨0x6808, 0x6808, 0x07, 0x07, .u16, ⟨.no, .rw, .rw, .no⟩, 0, .stored, .cell, true, 2, []⟩,
  -- OCV_TABLE
  ⟨0x6808, 0x6808, 0x08, 0x08, .dom, ⟨.no, .rw, .rw, .no⟩, 0, .stored, .cell, true, 34, []⟩,
  -- SOC_RESETS
  ⟨0x6808, 0x6808, 0x09, 0x09, .u32, ⟨.no, .r, .r, .no⟩, 0, .vol, .cell, false, 4, []⟩,
  -- CHECK_INTERVAL
  ⟨0x6809, 0x6809, 0x00, 0x00, .u32, ⟨.no, .rw, .rw, .no⟩, 3600, .stored, .cell, true, 4, [(0, 0), (60, 86400)]⟩,
  -- STORE_VMIN
  ⟨0x6809, 0x6809, 0x01, 0x01, .f32, ⟨.no, .rw, .rw, .no⟩, 0, .stored, .cell, true, 4, []⟩,
  -- STORE_VMAX
  ⟨0x6809, 0x6809, 0x02, 0x02, .f32, ⟨.no, .rw, .rw, .no⟩, 1148846080, .stored, .cell, true, 4, []⟩,
  -- STORE_TMAX
  ⟨0x6809, 0x6809, 0x03, 0x03, .i16, ⟨.no, .rw, .rw, .no⟩, 6000, .stored, .cell, true, 2, []⟩,
  -- STORE_ACTION
  ⟨0x6809, 0x6809, 0x04, 0x04, .u8, ⟨.no, .rw, .rw, .no⟩, 0, .stored, .cell, true, 1, [(0, 1)]⟩,
  -- CHECK_LOG
  ⟨0x680A, 0x680A, 0x00, 0x00, .dom, ⟨.no, .r, .r, .no⟩, 0, .vol, .cell, false, 256, []⟩,
  -- BAT_P_RATED_ARM
  ⟨0x6880, 0x6880, 0x01, 0x02, .f32, ⟨.rw, .rw, .rw, .rw⟩, 0, .stored, .head, true, 4, []⟩,
  -- SOC_GAIN
  ⟨0x6881, 0x6881, 0x01, 0x02, .f32, ⟨.rw, .rw, .rw, .rw⟩, 1073741824, .stored, .head, true, 4, []⟩,
  -- SHARE_LIM
  ⟨0x6882, 0x6882, 0x01, 0x02, .u16, ⟨.rw, .rw, .rw, .rw⟩, 32767, .stored, .head, true, 2, [(0, 32767)]⟩,
  -- SHARE_STATUS
  ⟨0x6883, 0x6883, 0x01, 0x02, .u32, ⟨.r, .r, .r, .r⟩, 0, .vol, .head, false, 4, []⟩,
  -- SHARE_SUM
  ⟨0x6884, 0x6884, 0x01, 0x02, .f32, ⟨.r, .r, .r, .r⟩, 0, .vol, .head, false, 4, []⟩]

/-- The objects with index 0x7000 to 0x70FF. -/
def page70 : List DictRow := [
  -- LOOP_DESC
  ⟨0x7000, 0x7000, 0x01, 0x04, .dom, ⟨.rw, .rw, .rw, .rw⟩, 0, .stored, .both, true, 64, []⟩,
  -- LOOP_DESC
  ⟨0x7000, 0x7000, 0x05, 0x20, .dom, ⟨.rw, .rw, .rw, .rw⟩, 0, .stored, .head, true, 64, []⟩,
  -- LOOP_GTAB
  ⟨0x7001, 0x7001, 0x01, 0x04, .dom, ⟨.rw, .rw, .rw, .rw⟩, 0, .stored, .both, true, 260, []⟩,
  -- LOOP_GTAB
  ⟨0x7001, 0x7001, 0x05, 0x20, .dom, ⟨.rw, .rw, .rw, .rw⟩, 0, .stored, .head, true, 260, []⟩,
  -- GTAB_POKE
  ⟨0x7002, 0x7002, 0x01, 0x04, .u64, ⟨.rw, .rw, .rw, .rw⟩, 0, .vol, .both, true, 8, []⟩,
  -- GTAB_POKE
  ⟨0x7002, 0x7002, 0x05, 0x20, .u64, ⟨.rw, .rw, .rw, .rw⟩, 0, .vol, .head, true, 8, []⟩,
  -- LOOP_FLAGS
  ⟨0x7003, 0x7003, 0x01, 0x04, .u8, ⟨.rw, .rw, .rw, .rw⟩, 0, .stored, .both, true, 1, []⟩,
  -- LOOP_FLAGS
  ⟨0x7003, 0x7003, 0x05, 0x20, .u8, ⟨.rw, .rw, .rw, .rw⟩, 0, .stored, .head, true, 1, []⟩,
  -- KP_SHIFT
  ⟨0x7004, 0x7004, 0x01, 0x04, .i16, ⟨.rw, .rw, .rw, .rw⟩, 0, .stored, .both, true, 2, [(-8, 8)]⟩,
  -- KP_SHIFT
  ⟨0x7004, 0x7004, 0x05, 0x20, .i16, ⟨.rw, .rw, .rw, .rw⟩, 0, .stored, .head, true, 2, [(-8, 8)]⟩,
  -- KI_SHIFT
  ⟨0x7005, 0x7005, 0x01, 0x04, .i16, ⟨.rw, .rw, .rw, .rw⟩, 0, .stored, .both, true, 2, [(-8, 8)]⟩,
  -- KI_SHIFT
  ⟨0x7005, 0x7005, 0x05, 0x20, .i16, ⟨.rw, .rw, .rw, .rw⟩, 0, .stored, .head, true, 2, [(-8, 8)]⟩,
  -- FF_GAIN
  ⟨0x7006, 0x7006, 0x01, 0x04, .q15, ⟨.rw, .rw, .rw, .rw⟩, 0, .stored, .both, true, 2, []⟩,
  -- FF_GAIN
  ⟨0x7006, 0x7006, 0x05, 0x20, .q15, ⟨.rw, .rw, .rw, .rw⟩, 0, .stored, .head, true, 2, []⟩,
  -- I_LO
  ⟨0x7007, 0x7007, 0x01, 0x04, .q15, ⟨.rw, .rw, .rw, .rw⟩, 32768, .stored, .both, true, 2, []⟩,
  -- I_LO
  ⟨0x7007, 0x7007, 0x05, 0x20, .q15, ⟨.rw, .rw, .rw, .rw⟩, 32768, .stored, .head, true, 2, []⟩,
  -- I_HI
  ⟨0x7008, 0x7008, 0x01, 0x04, .q15, ⟨.rw, .rw, .rw, .rw⟩, 32767, .stored, .both, true, 2, []⟩,
  -- I_HI
  ⟨0x7008, 0x7008, 0x05, 0x20, .q15, ⟨.rw, .rw, .rw, .rw⟩, 32767, .stored, .head, true, 2, []⟩,
  -- Y_LO
  ⟨0x7009, 0x7009, 0x01, 0x04, .q15, ⟨.rw, .rw, .rw, .rw⟩, 32768, .stored, .both, true, 2, []⟩,
  -- Y_LO
  ⟨0x7009, 0x7009, 0x05, 0x20, .q15, ⟨.rw, .rw, .rw, .rw⟩, 32768, .stored, .head, true, 2, []⟩,
  -- Y_HI
  ⟨0x700A, 0x700A, 0x01, 0x04, .q15, ⟨.rw, .rw, .rw, .rw⟩, 32767, .stored, .both, true, 2, []⟩,
  -- Y_HI
  ⟨0x700A, 0x700A, 0x05, 0x20, .q15, ⟨.rw, .rw, .rw, .rw⟩, 32767, .stored, .head, true, 2, []⟩,
  -- INT_SET
  ⟨0x700B, 0x700B, 0x01, 0x04, .q15, ⟨.rw, .rw, .rw, .rw⟩, 0, .vol, .both, true, 2, []⟩,
  -- INT_SET
  ⟨0x700B, 0x700B, 0x05, 0x20, .q15, ⟨.rw, .rw, .rw, .rw⟩, 0, .vol, .head, true, 2, []⟩,
  -- COEF_EPOCH
  ⟨0x7010, 0x7010, 0x01, 0x04, .u32, ⟨.r, .r, .r, .r⟩, 0, .vol, .both, false, 4, []⟩,
  -- COEF_EPOCH
  ⟨0x7010, 0x7010, 0x05, 0x20, .u32, ⟨.r, .r, .r, .r⟩, 0, .vol, .head, false, 4, []⟩,
  -- LOOP_STATUS
  ⟨0x7011, 0x7011, 0x01, 0x04, .u16, ⟨.r, .r, .r, .r⟩, 0, .vol, .both, false, 2, []⟩,
  -- LOOP_STATUS
  ⟨0x7011, 0x7011, 0x05, 0x20, .u16, ⟨.r, .r, .r, .r⟩, 0, .vol, .head, false, 2, []⟩,
  -- LOOP_Y
  ⟨0x7012, 0x7012, 0x01, 0x04, .q15, ⟨.r, .r, .r, .r⟩, 0, .vol, .both, false, 2, []⟩,
  -- LOOP_Y
  ⟨0x7012, 0x7012, 0x05, 0x20, .q15, ⟨.r, .r, .r, .r⟩, 0, .vol, .head, false, 2, []⟩,
  -- LOOP_E
  ⟨0x7013, 0x7013, 0x01, 0x04, .q15, ⟨.r, .r, .r, .r⟩, 0, .vol, .both, false, 2, []⟩,
  -- LOOP_E
  ⟨0x7013, 0x7013, 0x05, 0x20, .q15, ⟨.r, .r, .r, .r⟩, 0, .vol, .head, false, 2, []⟩,
  -- LOOP_INT
  ⟨0x7014, 0x7014, 0x01, 0x04, .q31, ⟨.r, .r, .r, .r⟩, 0, .vol, .both, false, 4, []⟩,
  -- LOOP_INT
  ⟨0x7014, 0x7014, 0x05, 0x20, .q31, ⟨.r, .r, .r, .r⟩, 0, .vol, .head, false, 4, []⟩,
  -- FB_AGE
  ⟨0x7015, 0x7015, 0x01, 0x04, .u32, ⟨.r, .r, .r, .r⟩, 0, .vol, .both, false, 4, []⟩,
  -- FB_AGE
  ⟨0x7015, 0x7015, 0x05, 0x20, .u32, ⟨.r, .r, .r, .r⟩, 0, .vol, .head, false, 4, []⟩,
  -- FALLBACK_COUNT
  ⟨0x7016, 0x7016, 0x01, 0x04, .u32, ⟨.r, .r, .r, .r⟩, 0, .vol, .both, false, 4, []⟩,
  -- FALLBACK_COUNT
  ⟨0x7016, 0x7016, 0x05, 0x20, .u32, ⟨.r, .r, .r, .r⟩, 0, .vol, .head, false, 4, []⟩,
  -- EXEC_COUNT
  ⟨0x7017, 0x7017, 0x01, 0x04, .u32, ⟨.r, .r, .r, .r⟩, 0, .vol, .both, false, 4, []⟩,
  -- EXEC_COUNT
  ⟨0x7017, 0x7017, 0x05, 0x20, .u32, ⟨.r, .r, .r, .r⟩, 0, .vol, .head, false, 4, []⟩,
  -- GROUP_SRC
  ⟨0x7020, 0x7020, 0x01, 0x01, .u8, ⟨.rw, .rw, .rw, .rw⟩, 1, .stored, .both, true, 1, [(0, 3)]⟩,
  -- GROUP_SRC
  ⟨0x7020, 0x7020, 0x02, 0x04, .u8, ⟨.rw, .rw, .rw, .rw⟩, 0, .stored, .both, true, 1, [(0, 3)]⟩,
  -- GROUP_RATE
  ⟨0x7021, 0x7021, 0x01, 0x04, .u8, ⟨.rw, .rw, .rw, .rw⟩, 4, .stored, .both, true, 1, [(1, 1), (2, 2), (4, 4), (8, 8)]⟩,
  -- GROUP_TEVT
  ⟨0x7022, 0x7022, 0x01, 0x04, .u8, ⟨.rw, .rw, .rw, .rw⟩, 0, .stored, .both, true, 1, [(0, 7)]⟩,
  -- GROUP_OVERRUN
  ⟨0x7023, 0x7023, 0x01, 0x04, .u32, ⟨.r, .r, .r, .r⟩, 0, .vol, .both, false, 4, []⟩,
  -- GROUP_SUSPEND
  ⟨0x7024, 0x7024, 0x01, 0x04, .u32, ⟨.r, .r, .r, .r⟩, 0, .vol, .head, false, 4, []⟩,
  -- LOOP_CONST
  ⟨0x7030, 0x7030, 0x01, 0x10, .f32, ⟨.rw, .rw, .rw, .rw⟩, 0, .stored, .both, true, 4, []⟩,
  -- ARM_I_SRC
  ⟨0x7040, 0x7040, 0x01, 0x02, .u16, ⟨.rw, .rw, .rw, .rw⟩, 65535, .stored, .head, true, 2, []⟩,
  -- VREF_TERM
  ⟨0x7041, 0x7041, 0x01, 0x10, .dom, ⟨.rw, .rw, .rw, .rw⟩, 0, .stored, .head, true, 16, []⟩,
  -- PBAT_SRC
  ⟨0x7042, 0x7042, 0x01, 0x02, .u16, ⟨.rw, .rw, .rw, .rw⟩, 65535, .stored, .head, true, 2, []⟩,
  -- PBAT_GAIN
  ⟨0x7043, 0x7043, 0x01, 0x02, .f32, ⟨.rw, .rw, .rw, .rw⟩, 1065353216, .stored, .head, true, 4, []⟩,
  -- ARM_CCELL
  ⟨0x7044, 0x7044, 0x01, 0x02, .f32, ⟨.rw, .rw, .rw, .rw⟩, 0, .stored, .head, true, 4, []⟩,
  -- ARM_EBAT_CELL
  ⟨0x7045, 0x7045, 0x01, 0x02, .f32, ⟨.rw, .rw, .rw, .rw⟩, 0, .stored, .head, true, 4, []⟩,
  -- REPORT_QUORUM
  ⟨0x7046, 0x7046, 0x01, 0x02, .u16, ⟨.rw, .rw, .rw, .rw⟩, 922, .stored, .head, true, 2, [(1, 1024)]⟩,
  -- ARM_OUT
  ⟨0x7047, 0x7047, 0x01, 0x02, .dom, ⟨.r, .r, .r, .r⟩, 0, .vol, .head, false, 32, []⟩,
  -- NCO_MODE
  ⟨0x7050, 0x7050, 0x01, 0x02, .u8, ⟨.rw, .rw, .rw, .rw⟩, 0, .stored, .head, true, 1, [(0, 2)]⟩,
  -- NCO_F0
  ⟨0x7051, 0x7051, 0x01, 0x02, .f32, ⟨.rw, .rw, .rw, .rw⟩, 1112014848, .stored, .head, true, 4, []⟩,
  -- NCO_FREQ_SRC
  ⟨0x7052, 0x7052, 0x01, 0x02, .u16, ⟨.rw, .rw, .rw, .rw⟩, 65535, .stored, .head, true, 2, []⟩,
  -- NCO_PHASE
  ⟨0x7053, 0x7053, 0x01, 0x02, .f32, ⟨.rw, .rw, .rw, .rw⟩, 0, .stored, .head, true, 4, []⟩,
  -- NCO_ANGLE
  ⟨0x7054, 0x7054, 0x01, 0x02, .u32, ⟨.r, .r, .r, .r⟩, 0, .vol, .head, false, 4, []⟩,
  -- NCO_STATUS
  ⟨0x7055, 0x7055, 0x00, 0x00, .u8, ⟨.r, .r, .r, .r⟩, 0, .vol, .head, false, 1, []⟩,
  -- INJ_CH
  ⟨0x7060, 0x7060, 0x00, 0x00, .u8, ⟨.rw, .rw, .rw, .rw⟩, 0, .vol, .both, true, 1, [(0, 31)]⟩,
  -- INJ_POINT
  ⟨0x7060, 0x7060, 0x01, 0x01, .u8, ⟨.rw, .rw, .rw, .rw⟩, 3, .vol, .both, true, 1, [(1, 3)]⟩,
  -- INJ_SHAPE
  ⟨0x7060, 0x7060, 0x02, 0x02, .u8, ⟨.rw, .rw, .rw, .rw⟩, 1, .vol, .both, true, 1, [(1, 4)]⟩,
  -- INJ_AMP
  ⟨0x7060, 0x7060, 0x03, 0x03, .q15, ⟨.rw, .rw, .rw, .rw⟩, 0, .vol, .both, true, 2, []⟩,
  -- INJ_PERIOD
  ⟨0x7060, 0x7060, 0x04, 0x04, .u16, ⟨.rw, .rw, .rw, .rw⟩, 64, .vol, .both, true, 2, [(2, 65535)]⟩,
  -- INJ_LEN
  ⟨0x7060, 0x7060, 0x05, 0x05, .u32, ⟨.rw, .rw, .rw, .rw⟩, 1024, .vol, .both, true, 4, [(1, 4294967295)]⟩,
  -- INJ_CMD
  ⟨0x7060, 0x7060, 0x06, 0x06, .u8, ⟨.rw, .rw, .rw, .rw⟩, 0, .vol, .both, true, 1, [(1, 2)]⟩,
  -- INJ_STATE
  ⟨0x7060, 0x7060, 0x07, 0x07, .u8, ⟨.r, .r, .r, .r⟩, 0, .vol, .both, false, 1, []⟩,
  -- RESP_BUF
  ⟨0x7061, 0x7061, 0x00, 0x00, .dom, ⟨.r, .r, .r, .r⟩, 0, .vol, .both, false, 16384, []⟩,
  -- RESP_DECIM
  ⟨0x7061, 0x7061, 0x01, 0x01, .u8, ⟨.rw, .rw, .rw, .rw⟩, 1, .vol, .both, true, 1, [(1, 255)]⟩,
  -- RESP_COUNT
  ⟨0x7061, 0x7061, 0x02, 0x02, .u16, ⟨.r, .r, .r, .r⟩, 0, .vol, .both, false, 2, []⟩]

/-- The objects with index 0x7800 to 0x78FF. -/
def page78 : List DictRow := [
  -- AIN_GAIN
  ⟨0x7800, 0x7800, 0x01, 0x10, .f32, ⟨.rw, .rw, .rw, .rw⟩, 941621248, .stored, .both, true, 4, []⟩,
  -- AIN_OFS
  ⟨0x7801, 0x7801, 0x01, 0x10, .f32, ⟨.rw, .rw, .rw, .rw⟩, 1067450368, .stored, .both, true, 4, []⟩,
  -- AIN_CONV
  ⟨0x7802, 0x7802, 0x01, 0x10, .u8, ⟨.rw, .rw, .rw, .rw⟩, 0, .stored, .both, true, 1, [(0, 4)]⟩,
  -- AIN_PULL
  ⟨0x7803, 0x7803, 0x01, 0x10, .u8, ⟨.rw, .rw, .rw, .rw⟩, 0, .stored, .both, true, 1, [(0, 3), (5, 7)]⟩,
  -- OW_LO
  ⟨0x7804, 0x7804, 0x01, 0x10, .i16, ⟨.rw, .rw, .rw, .rw⟩, 32768, .stored, .both, true, 2, []⟩,
  -- OW_HI
  ⟨0x7805, 0x7805, 0x01, 0x10, .i16, ⟨.rw, .rw, .rw, .rw⟩, 32767, .stored, .both, true, 2, []⟩,
  -- OW_COUNT
  ⟨0x7806, 0x7806, 0x00, 0x00, .u8, ⟨.rw, .rw, .rw, .rw⟩, 3, .stored, .both, true, 1, [(1, 255)]⟩,
  -- CONV_TABLE
  ⟨0x7807, 0x7807, 0x01, 0x04, .dom, ⟨.rw, .rw, .rw, .rw⟩, 0, .stored, .both, true, 68, []⟩,
  -- INT_SCALE
  ⟨0x7808, 0x7808, 0x01, 0x08, .dom, ⟨.r, .r, .r, .r⟩, 0, .factory, .both, false, 8, []⟩,
  -- SEQ_TRIG
  ⟨0x7810, 0x7810, 0x01, 0x01, .u8, ⟨.rw, .rw, .rw, .rw⟩, 0, .stored, .both, true, 1, [(0, 7)]⟩,
  -- SEQ_TRIG
  ⟨0x7810, 0x7810, 0x02, 0x02, .u8, ⟨.rw, .rw, .rw, .rw⟩, 1, .stored, .both, true, 1, [(0, 7)]⟩,
  -- SEQ_TRIG
  ⟨0x7810, 0x7810, 0x03, 0x05, .u8, ⟨.rw, .rw, .rw, .rw⟩, 0, .stored, .both, true, 1, [(0, 7)]⟩,
  -- SEQ_TRIG
  ⟨0x7810, 0x7810, 0x06, 0x07, .u8, ⟨.rw, .rw, .rw, .rw⟩, 4, .stored, .both, true, 1, [(0, 7)]⟩,
  -- SEQ_TRIG
  ⟨0x7810, 0x7810, 0x08, 0x08, .u8, ⟨.rw, .rw, .rw, .rw⟩, 0, .stored, .both, true, 1, [(0, 7)]⟩,
  -- SEQ_RANGE
  ⟨0x7811, 0x7811, 0x01, 0x01, .u16, ⟨.rw, .rw, .rw, .rw⟩, 0, .stored, .both, true, 2, []⟩,
  -- SEQ_RANGE
  ⟨0x7811, 0x7811, 0x02, 0x02, .u16, ⟨.rw, .rw, .rw, .rw⟩, 7, .stored, .both, true, 2, []⟩,
  -- SEQ_RANGE
  ⟨0x7811, 0x7811, 0x03, 0x05, .u16, ⟨.rw, .rw, .rw, .rw⟩, 0, .stored, .both, true, 2, []⟩,
  -- SEQ_RANGE
  ⟨0x7811, 0x7811, 0x06, 0x06, .u16, ⟨.rw, .rw, .rw, .rw⟩, 1, .stored, .both, true, 2, []⟩,
  -- SEQ_RANGE
  ⟨0x7811, 0x7811, 0x07, 0x07, .u16, ⟨.rw, .rw, .rw, .rw⟩, 517, .stored, .both, true, 2, []⟩,
  -- SEQ_RANGE
  ⟨0x7811, 0x7811, 0x08, 0x08, .u16, ⟨.rw, .rw, .rw, .rw⟩, 0, .stored, .both, true, 2, []⟩,
  -- SEQ_DELAY
  ⟨0x7812, 0x7812, 0x01, 0x08, .u32, ⟨.rw, .rw, .rw, .rw⟩, 0, .stored, .both, true, 4, [(0, 100000)]⟩,
  -- SEQ_PERIOD
  ⟨0x7813, 0x7813, 0x01, 0x06, .u32, ⟨.rw, .rw, .rw, .rw⟩, 1000000, .stored, .both, true, 4, [(1000, 1000000000)]⟩,
  -- SEQ_PERIOD
  ⟨0x7813, 0x7813, 0x07, 0x07, .u32, ⟨.rw, .rw, .rw, .rw⟩, 10000000, .stored, .both, true, 4, [(1000, 1000000000)]⟩,
  -- SEQ_PERIOD
  ⟨0x7813, 0x7813, 0x08, 0x08, .u32, ⟨.rw, .rw, .rw, .rw⟩, 1000000, .stored, .both, true, 4, [(1000, 1000000000)]⟩,
  -- SEQ_TEVT
  ⟨0x7814, 0x7814, 0x01, 0x08, .u8, ⟨.rw, .rw, .rw, .rw⟩, 0, .stored, .both, true, 1, [(0, 7)]⟩,
  -- SEQ_CMD
  ⟨0x7815, 0x7815, 0x01, 0x08, .u8, ⟨.rw, .rw, .rw, .rw⟩, 0, .vol, .both, true, 1, [(1, 1)]⟩,
  -- SEQ_STATS
  ⟨0x7816, 0x7816, 0x01, 0x08, .dom, ⟨.r, .r, .r, .r⟩, 0, .vol, .both, false, 16, []⟩,
  -- SEQAB_TABLE
  ⟨0x7820, 0x7820, 0x00, 0x00, .dom, ⟨.rw, .rw, .rw, .rw⟩, 0, .stored, .both, true, 256, []⟩,
  -- SEQC_TABLE
  ⟨0x7821, 0x7821, 0x00, 0x00, .dom, ⟨.rw, .rw, .rw, .rw⟩, 0, .stored, .both, true, 256, []⟩,
  -- RES_AB
  ⟨0x7830, 0x7830, 0x01, 0x40, .dom, ⟨.r, .r, .r, .r⟩, 0, .vol, .both, false, 16, []⟩,
  -- RES_C
  ⟨0x7831, 0x7831, 0x01, 0x40, .dom, ⟨.r, .r, .r, .r⟩, 0, .vol, .both, false, 16, []⟩,
  -- REF_EN
  ⟨0x7840, 0x7840, 0x00, 0x00, .bool, ⟨.rw, .rw, .rw, .rw⟩, 1, .stored, .both, true, 1, [(0, 1)]⟩,
  -- REF_READY
  ⟨0x7840, 0x7840, 0x01, 0x01, .bool, ⟨.r, .r, .r, .r⟩, 0, .vol, .both, false, 1, [(0, 1)]⟩,
  -- ADCC_MODE
  ⟨0x7841, 0x7841, 0x00, 0x00, .u8, ⟨.rw, .rw, .rw, .rw⟩, 0, .vol, .both, true, 1, [(0, 1)]⟩,
  -- CAL_CMD
  ⟨0x7842, 0x7842, 0x00, 0x00, .u8, ⟨.rw, .rw, .rw, .rw⟩, 0, .vol, .both, true, 1, [(1, 1)]⟩,
  -- CAL_STATE
  ⟨0x7842, 0x7842, 0x01, 0x01, .u8, ⟨.r, .r, .r, .r⟩, 0, .vol, .both, false, 1, []⟩,
  -- CAL_OFS
  ⟨0x7842, 0x7842, 0x02, 0x02, .dom, ⟨.r, .r, .r, .r⟩, 0, .vol, .both, false, 4, []⟩,
  -- CAL_FACTORY
  ⟨0x7842, 0x7842, 0x03, 0x03, .dom, ⟨.r, .r, .r, .r⟩, 0, .factory, .both, false, 16, []⟩,
  -- REP_VCAP
  ⟨0x7850, 0x7850, 0x00, 0x00, .u8, ⟨.no, .rw, .rw, .no⟩, 0, .stored, .cell, true, 1, []⟩,
  -- REP_TEMP
  ⟨0x7850, 0x7850, 0x01, 0x01, .u8, ⟨.no, .rw, .rw, .no⟩, 0, .stored, .cell, true, 1, []⟩,
  -- REP_TEMP
  ⟨0x7850, 0x7850, 0x02, 0x02, .u8, ⟨.no, .rw, .rw, .no⟩, 1, .stored, .cell, true, 1, []⟩,
  -- REP_TEMP
  ⟨0x7850, 0x7850, 0x03, 0x04, .u8, ⟨.no, .rw, .rw, .no⟩, 255, .stored, .cell, true, 1, []⟩,
  -- TEMP_AGE_MAX
  ⟨0x7850, 0x7850, 0x05, 0x05, .u32, ⟨.no, .rw, .rw, .no⟩, 10000, .stored, .cell, true, 4, [(100, 1000000)]⟩,
  -- OPEN_STATUS
  ⟨0x7860, 0x7860, 0x00, 0x00, .u16, ⟨.r, .r, .r, .r⟩, 0, .vol, .both, false, 2, []⟩]

/-- The objects with index 0x8000 to 0x80FF. -/
def page80 : List DictRow := [
  -- CAP_SIG
  ⟨0x8000, 0x8000, 0x01, 0x04, .dom, ⟨.rw, .rw, .rw, .rw⟩, 0, .stored, .both, false, 16, []⟩,
  -- CAP_SIG
  ⟨0x8000, 0x8000, 0x05, 0x08, .dom, ⟨.rw, .rw, .rw, .rw⟩, 0, .stored, .head, false, 16, []⟩,
  -- SAMPLE_SRC
  ⟨0x8001, 0x8001, 0x01, 0x04, .u8, ⟨.rw, .rw, .rw, .rw⟩, 1, .stored, .both, false, 1, [(0, 4)]⟩,
  -- SAMPLE_SRC
  ⟨0x8001, 0x8001, 0x05, 0x08, .u8, ⟨.rw, .rw, .rw, .rw⟩, 1, .stored, .head, false, 1, [(0, 4)]⟩,
  -- SAMPLE_ARG
  ⟨0x8002, 0x8002, 0x01, 0x04, .u8, ⟨.rw, .rw, .rw, .rw⟩, 1, .stored, .both, false, 1, []⟩,
  -- SAMPLE_ARG
  ⟨0x8002, 0x8002, 0x05, 0x08, .u8, ⟨.rw, .rw, .rw, .rw⟩, 1, .stored, .head, false, 1, []⟩,
  -- AVG_N
  ⟨0x8003, 0x8003, 0x01, 0x04, .u16, ⟨.rw, .rw, .rw, .rw⟩, 1, .stored, .both, false, 2, [(1, 1024)]⟩,
  -- AVG_N
  ⟨0x8003, 0x8003, 0x05, 0x08, .u16, ⟨.rw, .rw, .rw, .rw⟩, 1, .stored, .head, false, 2, [(1, 1024)]⟩,
  -- CAP_FMT
  ⟨0x8004, 0x8004, 0x01, 0x04, .u8, ⟨.rw, .rw, .rw, .rw⟩, 0, .stored, .both, false, 1, [(0, 1)]⟩,
  -- CAP_FMT
  ⟨0x8004, 0x8004, 0x05, 0x08, .u8, ⟨.rw, .rw, .rw, .rw⟩, 0, .stored, .head, false, 1, [(0, 1)]⟩,
  -- TRIG_SRC
  ⟨0x8005, 0x8005, 0x01, 0x04, .u8, ⟨.rw, .rw, .rw, .rw⟩, 0, .stored, .both, false, 1, [(0, 7)]⟩,
  -- TRIG_SRC
  ⟨0x8005, 0x8005, 0x05, 0x08, .u8, ⟨.rw, .rw, .rw, .rw⟩, 0, .stored, .head, false, 1, [(0, 7)]⟩,
  -- TRIG_ARG
  ⟨0x8006, 0x8006, 0x01, 0x04, .u8, ⟨.rw, .rw, .rw, .rw⟩, 0, .stored, .both, false, 1, []⟩,
  -- TRIG_ARG
  ⟨0x8006, 0x8006, 0x05, 0x08, .u8, ⟨.rw, .rw, .rw, .rw⟩, 0, .stored, .head, false, 1, []⟩,
  -- TRIG_SIG
  ⟨0x8007, 0x8007, 0x01, 0x04, .u16, ⟨.rw, .rw, .rw, .rw⟩, 65535, .stored, .both, false, 2, []⟩,
  -- TRIG_SIG
  ⟨0x8007, 0x8007, 0x05, 0x08, .u16, ⟨.rw, .rw, .rw, .rw⟩, 65535, .stored, .head, false, 2, []⟩,
  -- TRIG_LEVEL
  ⟨0x8008, 0x8008, 0x01, 0x04, .f32, ⟨.rw, .rw, .rw, .rw⟩, 0, .stored, .both, false, 4, []⟩,
  -- TRIG_LEVEL
  ⟨0x8008, 0x8008, 0x05, 0x08, .f32, ⟨.rw, .rw, .rw, .rw⟩, 0, .stored, .head, false, 4, []⟩,
  -- TRIG_HYST
  ⟨0x8009, 0x8009, 0x01, 0x04, .f32, ⟨.rw, .rw, .rw, .rw⟩, 0, .stored, .both, false, 4, []⟩,
  -- TRIG_HYST
  ⟨0x8009, 0x8009, 0x05, 0x08, .f32, ⟨.rw, .rw, .rw, .rw⟩, 0, .stored, .head, false, 4, []⟩,
  -- TRIG_EDGE
  ⟨0x800A, 0x800A, 0x01, 0x04, .u8, ⟨.rw, .rw, .rw, .rw⟩, 1, .stored, .both, false, 1, [(1, 3)]⟩,
  -- TRIG_EDGE
  ⟨0x800A, 0x800A, 0x05, 0x08, .u8, ⟨.rw, .rw, .rw, .rw⟩, 1, .stored, .head, false, 1, [(1, 3)]⟩,
  -- ARM_MODE
  ⟨0x800B, 0x800B, 0x01, 0x04, .u8, ⟨.rw, .rw, .rw, .rw⟩, 1, .stored, .both, false, 1, [(0, 1)]⟩,
  -- ARM_MODE
  ⟨0x800B, 0x800B, 0x05, 0x08, .u8, ⟨.rw, .rw, .rw, .rw⟩, 1, .stored, .head, false, 1, [(0, 1)]⟩,
  -- HOLDOFF_MODE
  ⟨0x800C, 0x800C, 0x01, 0x04, .u8, ⟨.rw, .rw, .rw, .rw⟩, 1, .stored, .both, false, 1, [(0, 3)]⟩,
  -- HOLDOFF_MODE
  ⟨0x800C, 0x800C, 0x05, 0x08, .u8, ⟨.rw, .rw, .rw, .rw⟩, 1, .stored, .head, false, 1, [(0, 3)]⟩,
  -- HOLDOFF_T
  ⟨0x800D, 0x800D, 0x01, 0x04, .u32, ⟨.rw, .rw, .rw, .rw⟩, 1000000, .stored, .both, false, 4, []⟩,
  -- HOLDOFF_T
  ⟨0x800D, 0x800D, 0x05, 0x08, .u32, ⟨.rw, .rw, .rw, .rw⟩, 1000000, .stored, .head, false, 4, []⟩,
  -- HOLDOFF_N
  ⟨0x800E, 0x800E, 0x01, 0x04, .u16, ⟨.rw, .rw, .rw, .rw⟩, 0, .stored, .both, false, 2, []⟩,
  -- HOLDOFF_N
  ⟨0x800E, 0x800E, 0x05, 0x08, .u16, ⟨.rw, .rw, .rw, .rw⟩, 0, .stored, .head, false, 2, []⟩,
  -- PRE
  ⟨0x800F, 0x800F, 0x01, 0x04, .u16, ⟨.rw, .rw, .rw, .rw⟩, 0, .stored, .both, false, 2, []⟩,
  -- PRE
  ⟨0x800F, 0x800F, 0x05, 0x08, .u16, ⟨.rw, .rw, .rw, .rw⟩, 0, .stored, .head, false, 2, []⟩,
  -- POST
  ⟨0x8010, 0x8010, 0x01, 0x04, .u32, ⟨.rw, .rw, .rw, .rw⟩, 0, .stored, .both, false, 4, [(0, 16777215)]⟩,
  -- POST
  ⟨0x8010, 0x8010, 0x05, 0x08, .u32, ⟨.rw, .rw, .rw, .rw⟩, 0, .stored, .head, false, 4, [(0, 16777215)]⟩,
  -- STREAM_SEAT
  ⟨0x8011, 0x8011, 0x01, 0x04, .u8, ⟨.rw, .rw, .rw, .rw⟩, 255, .stored, .both, false, 1, [(0, 3), (254, 255)]⟩,
  -- STREAM_SEAT
  ⟨0x8011, 0x8011, 0x05, 0x08, .u8, ⟨.rw, .rw, .rw, .rw⟩, 255, .stored, .head, false, 1, [(0, 3), (254, 255)]⟩,
  -- STAGE_SIZE
  ⟨0x8012, 0x8012, 0x01, 0x04, .u32, ⟨.rw, .rw, .rw, .rw⟩, 65536, .stored, .both, false, 4, []⟩,
  -- STAGE_SIZE
  ⟨0x8012, 0x8012, 0x05, 0x08, .u32, ⟨.rw, .rw, .rw, .rw⟩, 65536, .stored, .head, false, 4, []⟩,
  -- CAP_REMOTE
  ⟨0x8013, 0x8013, 0x01, 0x04, .u32, ⟨.r, .rw, .rw, .r⟩, 0, .stored, .head, false, 4, []⟩,
  -- CAP_REMOTE
  ⟨0x8013, 0x8013, 0x05, 0x08, .u32, ⟨.r, .rw, .rw, .r⟩, 0, .stored, .head, false, 4, []⟩,
  -- CELL_BUDGET
  ⟨0x8014, 0x8014, 0x00, 0x00, .u16, ⟨.no, .rw, .rw, .no⟩, 256, .stored, .cell, false, 2, [(64, 1024)]⟩,
  -- CAP_CMD
  ⟨0x8020, 0x8020, 0x01, 0x04, .u8, ⟨.rw, .rw, .rw, .rw⟩, 0, .vol, .both, false, 1, [(1, 4)]⟩,
  -- CAP_CMD
  ⟨0x8020, 0x8020, 0x05, 0x08, .u8, ⟨.rw, .rw, .rw, .rw⟩, 0, .vol, .head, false, 1, [(1, 4)]⟩,
  -- CAP_STATE
  ⟨0x8021, 0x8021, 0x01, 0x04, .u8, ⟨.r, .r, .r, .r⟩, 0, .vol, .both, false, 1, []⟩,
  -- CAP_STATE
  ⟨0x8021, 0x8021, 0x05, 0x08, .u8, ⟨.r, .r, .r, .r⟩, 0, .vol, .head, false, 1, []⟩,
  -- CAP_STATS
  ⟨0x8022, 0x8022, 0x01, 0x04, .dom, ⟨.r, .r, .r, .r⟩, 0, .vol, .both, false, 32, []⟩,
  -- CAP_STATS
  ⟨0x8022, 0x8022, 0x05, 0x08, .dom, ⟨.r, .r, .r, .r⟩, 0, .vol, .head, false, 32, []⟩,
  -- PANTRY_SIZE
  ⟨0x8030, 0x8030, 0x00, 0x00, .u8, ⟨.rw, .rw, .rw, .rw⟩, 16, .stored, .both, false, 1, [(1, 32)]⟩,
  -- PANTRY_FREE
  ⟨0x8031, 0x8031, 0x00, 0x00, .u64, ⟨.r, .r, .r, .r⟩, 0, .vol, .both, false, 8, []⟩,
  -- WIN_LIST
  ⟨0x8032, 0x8032, 0x00, 0x00, .dom, ⟨.r, .r, .r, .r⟩, 0, .vol, .both, false, 4096, []⟩,
  -- WIN_SEL
  ⟨0x8033, 0x8033, 0x00, 0x00, .u32, ⟨.rw, .rw, .rw, .rw⟩, 0, .vol, .both, false, 4, []⟩,
  -- WIN_OFFSET
  ⟨0x8033, 0x8033, 0x01, 0x01, .u32, ⟨.rw, .rw, .rw, .rw⟩, 0, .vol, .both, false, 4, []⟩,
  -- WIN_DATA
  ⟨0x8033, 0x8033, 0x02, 0x02, .dom, ⟨.r, .r, .r, .r⟩, 0, .vol, .both, false, 1024, []⟩,
  -- WIN_RELEASE
  ⟨0x8033, 0x8033, 0x03, 0x03, .u32, ⟨.rw, .rw, .rw, .rw⟩, 0, .vol, .both, false, 4, []⟩]

/-- The objects with index 0x9000 to 0x90FF. -/
def page90 : List DictRow := [
  -- SL_CMD
  ⟨0x9000, 0x9000, 0x00, 0x00, .u8, ⟨.rw, .rw, .rw, .rw⟩, 0, .vol, .head, true, 1, [(1, 3)]⟩,
  -- SL_STATE
  ⟨0x9000, 0x9000, 0x01, 0x01, .u8, ⟨.r, .r, .r, .r⟩, 0, .vol, .head, false, 1, []⟩,
  -- SL_CUES
  ⟨0x9001, 0x9001, 0x00, 0x00, .u16, ⟨.rw, .rw, .rw, .rw⟩, 50, .stored, .head, true, 2, [(5, 5000)]⟩,
  -- SL_WDOG
  ⟨0x9002, 0x9002, 0x00, 0x00, .u8, ⟨.rw, .rw, .rw, .rw⟩, 3, .stored, .head, true, 1, [(2, 16)]⟩,
  -- SL_STATS
  ⟨0x9003, 0x9003, 0x00, 0x00, .dom, ⟨.r, .r, .r, .r⟩, 0, .vol, .head, false, 24, []⟩,
  -- SL_STATIONS
  ⟨0x9004, 0x9004, 0x00, 0x00, .dom, ⟨.rw, .rw, .rw, .rw⟩, 0, .stored, .head, true, 144, []⟩,
  -- STN_LOST_CUES
  ⟨0x9005, 0x9005, 0x00, 0x00, .u16, ⟨.rw, .rw, .rw, .rw⟩, 150, .stored, .head, true, 2, []⟩,
  -- STN_STATUS
  ⟨0x9006, 0x9006, 0x00, 0x00, .dom, ⟨.r, .r, .r, .r⟩, 0, .vol, .head, false, 4608, []⟩,
  -- STN_INPUT
  ⟨0x9006, 0x9006, 0x01, 0x01, .dom, ⟨.r, .r, .r, .r⟩, 0, .vol, .head, false, 9216, []⟩,
  -- STN_READMIT
  ⟨0x9006, 0x9006, 0x02, 0x02, .u16, ⟨.rw, .rw, .rw, .rw⟩, 65535, .vol, .head, true, 2, []⟩,
  -- SL_LOAD
  ⟨0x9010, 0x9010, 0x00, 0x00, .dom, ⟨.rw, .rw, .rw, .rw⟩, 0, .vol, .head, false, 1024, []⟩,
  -- SL_CHANGE
  ⟨0x9010, 0x9010, 0x01, 0x01, .u8, ⟨.rw, .rw, .rw, .rw⟩, 0, .vol, .head, true, 1, [(1, 2)]⟩,
  -- SL_CHG_STATE
  ⟨0x9010, 0x9010, 0x02, 0x02, .u8, ⟨.r, .r, .r, .r⟩, 0, .vol, .head, false, 1, []⟩,
  -- SL_CHG_INFO
  ⟨0x9010, 0x9010, 0x03, 0x03, .u32, ⟨.r, .r, .r, .r⟩, 0, .vol, .head, false, 4, []⟩,
  -- SL_PROG_INFO
  ⟨0x9010, 0x9010, 0x04, 0x04, .dom, ⟨.r, .r, .r, .r⟩, 0, .vol, .head, false, 16, []⟩,
  -- FORCE_TABLE
  ⟨0x9011, 0x9011, 0x00, 0x00, .dom, ⟨.rw, .rw, .rw, .rw⟩, 0, .vol, .head, true, 1024, []⟩,
  -- M_SEL
  ⟨0x9012, 0x9012, 0x00, 0x00, .u16, ⟨.rw, .rw, .rw, .rw⟩, 0, .vol, .head, true, 2, [(0, 16320)]⟩,
  -- M_VIEW
  ⟨0x9012, 0x9012, 0x01, 0x01, .dom, ⟨.r, .r, .r, .r⟩, 0, .vol, .head, false, 256, []⟩,
  -- MODE_CLASS
  ⟨0x9020, 0x9020, 0x01, 0x0F, .u8, ⟨.rw, .rw, .rw, .rw⟩, 0, .stored, .head, true, 1, [(0, 2)]⟩,
  -- MODE_PROFILE_H
  ⟨0x9021, 0x9021, 0x01, 0x0F, .dom, ⟨.rw, .rw, .rw, .rw⟩, 0, .stored, .head, true, 64, []⟩,
  -- MODE_REQ
  ⟨0x9022, 0x9022, 0x00, 0x00, .dom, ⟨.rw, .rw, .rw, .rw⟩, 0, .vol, .head, true, 16, []⟩,
  -- MODE_LEAD
  ⟨0x9022, 0x9022, 0x01, 0x01, .u16, ⟨.rw, .rw, .rw, .rw⟩, 0, .stored, .head, true, 2, []⟩,
  -- MODE_STATUS
  ⟨0x9022, 0x9022, 0x02, 0x02, .dom, ⟨.r, .r, .r, .r⟩, 0, .vol, .head, false, 16, []⟩,
  -- MODE_ACK_PEND
  ⟨0x9022, 0x9022, 0x03, 0x03, .dom, ⟨.r, .r, .r, .r⟩, 0, .vol, .head, false, 144, []⟩,
  -- MODE_ACK_APPL
  ⟨0x9022, 0x9022, 0x04, 0x04, .dom, ⟨.r, .r, .r, .r⟩, 0, .vol, .head, false, 144, []⟩,
  -- MODE_LAG
  ⟨0x9022, 0x9022, 0x05, 0x05, .dom, ⟨.r, .r, .r, .r⟩, 0, .vol, .head, false, 144, []⟩,
  -- HEAD_MODE
  ⟨0x9023, 0x9023, 0x00, 0x00, .u8, ⟨.r, .r, .r, .r⟩, 15, .vol, .head, false, 1, []⟩,
  -- CELL_MODE
  ⟨0x9080, 0x9080, 0x00, 0x00, .u8, ⟨.no, .r, .r, .no⟩, 0, .vol, .cell, false, 1, []⟩,
  -- MODE_BOOT
  ⟨0x9080, 0x9080, 0x01, 0x01, .u8, ⟨.no, .rw, .rw, .no⟩, 0, .stored, .cell, true, 1, [(0, 14)]⟩,
  -- MODE_PROFILE
  ⟨0x9081, 0x9081, 0x01, 0x0F, .dom, ⟨.no, .rw, .rw, .no⟩, 0, .stored, .cell, true, 64, []⟩,
  -- STN_TIMEOUT
  ⟨0x9082, 0x9082, 0x00, 0x00, .u16, ⟨.no, .rw, .rw, .no⟩, 200, .stored, .cell, true, 2, [(10, 65535)]⟩,
  -- STATION_AIN
  ⟨0x9082, 0x9082, 0x01, 0x01, .u8, ⟨.no, .rw, .rw, .no⟩, 255, .stored, .cell, true, 1, [(0, 63), (255, 255)]⟩,
  -- STN_STATE
  ⟨0x9082, 0x9082, 0x02, 0x02, .u8, ⟨.no, .r, .r, .no⟩, 0, .vol, .cell, false, 1, []⟩]

/-- The objects with index 0xA000 to 0xA0FF. -/
def pageA0 : List DictRow := [
  -- SAFE_STATE
  ⟨0xA000, 0xA000, 0x00, 0x00, .u8, ⟨.r, .r, .r, .r⟩, 0, .vol, .both, false, 1, []⟩,
  -- SAFE_CMD
  ⟨0xA000, 0xA000, 0x01, 0x01, .u8, ⟨.rw, .rw, .rw, .no⟩, 0, .vol, .both, true, 1, [(1, 2)]⟩,
  -- SAFE_CRC
  ⟨0xA000, 0xA000, 0x02, 0x02, .u32, ⟨.rw, .rw, .rw, .r⟩, 0, .stored, .both, true, 4, []⟩,
  -- SAFE_CRC_NOW
  ⟨0xA000, 0xA000, 0x03, 0x03, .u32, ⟨.r, .r, .r, .r⟩, 0, .vol, .both, false, 4, []⟩,
  -- SG_CFG
  ⟨0xA001, 0xA001, 0x01, 0x08, .dom, ⟨.rw, .rw, .rw, .r⟩, 0, .stored, .both, true, 8, []⟩,
  -- PAIR_TYPE
  ⟨0xA002, 0xA002, 0x01, 0x04, .u8, ⟨.rw, .rw, .rw, .r⟩, 0, .stored, .both, true, 1, [(0, 3)]⟩,
  -- PAIR_GROUPS
  ⟨0xA003, 0xA003, 0x01, 0x04, .u8, ⟨.rw, .rw, .rw, .r⟩, 1, .stored, .both, true, 1, []⟩,
  -- DISC_T
  ⟨0xA004, 0xA004, 0x01, 0x04, .u16, ⟨.rw, .rw, .rw, .r⟩, 2000, .stored, .both, true, 2, [(100, 50000)]⟩,
  -- SI_FLT
  ⟨0xA005, 0xA005, 0x01, 0x04, .u8, ⟨.rw, .rw, .rw, .r⟩, 3, .stored, .both, true, 1, [(1, 128)]⟩,
  -- SO_MODE
  ⟨0xA010, 0xA010, 0x01, 0x04, .u8, ⟨.rw, .rw, .rw, .r⟩, 0, .stored, .both, true, 1, [(0, 1)]⟩,
  -- SO_TP_WIDTH
  ⟨0xA011, 0xA011, 0x01, 0x04, .u16, ⟨.rw, .rw, .rw, .r⟩, 200, .stored, .both, true, 2, [(50, 1000)]⟩,
  -- SO_TP_PERIOD
  ⟨0xA012, 0xA012, 0x01, 0x04, .u16, ⟨.rw, .rw, .rw, .r⟩, 100, .stored, .both, true, 2, [(10, 1000)]⟩,
  -- AOC_CFG
  ⟨0xA020, 0xA020, 0x01, 0x02, .dom, ⟨.rw, .rw, .rw, .r⟩, 0, .stored, .head, true, 12, []⟩,
  -- COV_CFG
  ⟨0xA021, 0xA021, 0x00, 0x00, .dom, ⟨.no, .rw, .rw, .no⟩, 0, .stored, .cell, true, 12, []⟩,
  -- DIAG_GROUPS
  ⟨0xA030, 0xA030, 0x00, 0x00, .u8, ⟨.rw, .rw, .rw, .r⟩, 255, .stored, .both, true, 1, []⟩,
  -- UNEXP_GROUPS
  ⟨0xA031, 0xA031, 0x01, 0x0C, .u8, ⟨.rw, .rw, .rw, .r⟩, 1, .stored, .head, true, 1, []⟩,
  -- PEER_CURT
  ⟨0xA032, 0xA032, 0x00, 0x00, .u8, ⟨.rw, .rw, .rw, .r⟩, 1, .stored, .head, true, 1, [(0, 1)]⟩,
  -- PEER_GROUPS
  ⟨0xA032, 0xA032, 0x01, 0x01, .u8, ⟨.rw, .rw, .rw, .r⟩, 0, .stored, .head, true, 1, []⟩,
  -- SCONN_CFG
  ⟨0xA040, 0xA040, 0x01, 0x10, .dom, ⟨.rw, .rw, .rw, .r⟩, 0, .stored, .head, true, 20, []⟩,
  -- SCELL_CFG
  ⟨0xA041, 0xA041, 0x00, 0x00, .dom, ⟨.rw, .rw, .rw, .r⟩, 0, .stored, .both, true, 8, []⟩,
  -- SG_STATE
  ⟨0xA050, 0xA050, 0x00, 0x00, .u16, ⟨.r, .r, .r, .r⟩, 65535, .vol, .both, false, 2, []⟩,
  -- PAIR_STATE
  ⟨0xA051, 0xA051, 0x00, 0x00, .u16, ⟨.r, .r, .r, .r⟩, 0, .vol, .both, false, 2, []⟩,
  -- SO_STATE
  ⟨0xA052, 0xA052, 0x00, 0x00, .u8, ⟨.r, .r, .r, .r⟩, 0, .vol, .both, false, 1, []⟩,
  -- SCONN_STATUS
  ⟨0xA053, 0xA053, 0x01, 0x10, .dom, ⟨.r, .r, .r, .r⟩, 0, .vol, .both, false, 16, []⟩,
  -- SAFE_STATS
  ⟨0xA054, 0xA054, 0x00, 0x00, .dom, ⟨.r, .r, .r, .r⟩, 0, .vol, .both, false, 32, []⟩,
  -- SAFE_VLOG
  ⟨0xA055, 0xA055, 0x00, 0x00, .dom, ⟨.r, .r, .r, .r⟩, 0, .vol, .both, false, 1024, []⟩,
  -- SAFE_TEST
  ⟨0xA060, 0xA060, 0x00, 0x00, .dom, ⟨.rw, .rw, .rw, .no⟩, 0, .vol, .both, true, 8, []⟩,
  -- TEST_RESULT
  ⟨0xA060, 0xA060, 0x01, 0x01, .u8, ⟨.r, .r, .r, .r⟩, 0, .vol, .both, false, 1, []⟩,
  -- SAFE_TESTLOG
  ⟨0xA061, 0xA061, 0x00, 0x00, .dom, ⟨.r, .r, .r, .r⟩, 0, .vol, .both, false, 256, []⟩]

/-- The objects with index 0xB000 to 0xB0FF. -/
def pageB0 : List DictRow := [
  -- FSTAT
  ⟨0xB000, 0xB000, 0x00, 0x00, .u64, ⟨.r, .r, .r, .r⟩, 0, .vol, .both, false, 8, []⟩,
  -- FACTIVE
  ⟨0xB000, 0xB000, 0x01, 0x01, .u64, ⟨.r, .r, .r, .r⟩, 0, .vol, .both, false, 8, []⟩,
  -- FLATCHED
  ⟨0xB000, 0xB000, 0x02, 0x02, .u64, ⟨.r, .r, .r, .r⟩, 0, .vol, .both, false, 8, []⟩,
  -- FIRST_FAULT
  ⟨0xB001, 0xB001, 0x00, 0x00, .dom, ⟨.r, .r, .r, .r⟩, 0, .vol, .both, false, 32, []⟩,
  -- FLT_CMD
  ⟨0xB001, 0xB001, 0x01, 0x01, .u8, ⟨.rw, .rw, .rw, .rw⟩, 0, .vol, .both, true, 1, [(1, 3)]⟩,
  -- FLT_CLASS
  ⟨0xB002, 0xB002, 0x01, 0x02, .u8, ⟨.rw, .rw, .rw, .rw⟩, 4, .stored, .both, true, 1, []⟩,
  -- FLT_CLASS
  ⟨0xB002, 0xB002, 0x03, 0x07, .u8, ⟨.rw, .rw, .rw, .rw⟩, 2, .stored, .both, true, 1, []⟩,
  -- FLT_CLASS
  ⟨0xB002, 0xB002, 0x08, 0x08, .u8, ⟨.rw, .rw, .rw, .rw⟩, 1, .stored, .both, true, 1, []⟩,
  -- FLT_CLASS
  ⟨0xB002, 0xB002, 0x09, 0x0C, .u8, ⟨.rw, .rw, .rw, .rw⟩, 2, .stored, .both, true, 1, []⟩,
  -- FLT_CLASS
  ⟨0xB002, 0xB002, 0x0D, 0x0D, .u8, ⟨.rw, .rw, .rw, .rw⟩, 4, .stored, .both, true, 1, []⟩,
  -- FLT_CLASS
  ⟨0xB002, 0xB002, 0x0E, 0x10, .u8, ⟨.rw, .rw, .rw, .rw⟩, 1, .stored, .both, true, 1, []⟩,
  -- FLT_CLASS
  ⟨0xB002, 0xB002, 0x11, 0x11, .u8, ⟨.rw, .rw, .rw, .rw⟩, 2, .stored, .both, true, 1, []⟩,
  -- FLT_CLASS
  ⟨0xB002, 0xB002, 0x12, 0x18, .u8, ⟨.rw, .rw, .rw, .rw⟩, 3, .stored, .both, true, 1, []⟩,
  -- FLT_CLASS
  ⟨0xB002, 0xB002, 0x19, 0x19, .u8, ⟨.rw, .rw, .rw, .rw⟩, 1, .stored, .both, true, 1, []⟩,
  -- FLT_CLASS
  ⟨0xB002, 0xB002, 0x1A, 0x1F, .u8, ⟨.rw, .rw, .rw, .rw⟩, 2, .stored, .both, true, 1, []⟩,
  -- FLT_CLASS
  ⟨0xB002, 0xB002, 0x20, 0x21, .u8, ⟨.rw, .rw, .rw, .rw⟩, 1, .stored, .both, true, 1, []⟩,
  -- FLT_CLASS
  ⟨0xB002, 0xB002, 0x22, 0x23, .u8, ⟨.rw, .rw, .rw, .rw⟩, 2, .stored, .both, true, 1, []⟩,
  -- FLT_CLASS
  ⟨0xB002, 0xB002, 0x24, 0x24, .u8, ⟨.rw, .rw, .rw, .rw⟩, 1, .stored, .both, true, 1, []⟩,
  -- FLT_CLASS
  ⟨0xB002, 0xB002, 0x25, 0x25, .u8, ⟨.rw, .rw, .rw, .rw⟩, 2, .stored, .both, true, 1, []⟩,
  -- FLT_CLASS
  ⟨0xB002, 0xB002, 0x26, 0x26, .u8, ⟨.rw, .rw, .rw, .rw⟩, 1, .stored, .both, true, 1, []⟩,
  -- FLT_CLASS
  ⟨0xB002, 0xB002, 0x27, 0x27, .u8, ⟨.rw, .rw, .rw, .rw⟩, 3, .stored, .both, true, 1, []⟩,
  -- FLT_CLASS
  ⟨0xB002, 0xB002, 0x28, 0x2A, .u8, ⟨.rw, .rw, .rw, .rw⟩, 2, .stored, .both, true, 1, []⟩,
  -- FLT_CLASS
  ⟨0xB002, 0xB002, 0x2B, 0x2B, .u8, ⟨.rw, .rw, .rw, .rw⟩, 1, .stored, .both, true, 1, []⟩,
  -- FLT_CLASS
  ⟨0xB002, 0xB002, 0x2C, 0x2D, .u8, ⟨.rw, .rw, .rw, .rw⟩, 2, .stored, .both, true, 1, []⟩,
  -- FLT_CLASS
  ⟨0xB002, 0xB002, 0x2E, 0x30, .u8, ⟨.rw, .rw, .rw, .rw⟩, 3, .stored, .both, true, 1, []⟩,
  -- FLT_CLASS
  ⟨0xB002, 0xB002, 0x31, 0x31, .u8, ⟨.rw, .rw, .rw, .rw⟩, 2, .stored, .both, true, 1, []⟩,
  -- FLT_CLASS
  ⟨0xB002, 0xB002, 0x32, 0x32, .u8, ⟨.rw, .rw, .rw, .rw⟩, 1, .stored, .both, true, 1, []⟩,
  -- FLT_CLASS
  ⟨0xB002, 0xB002, 0x33, 0x35, .u8, ⟨.rw, .rw, .rw, .rw⟩, 2, .stored, .both, true, 1, []⟩,
  -- FLT_CLASS
  ⟨0xB002, 0xB002, 0x36, 0x3A, .u8, ⟨.rw, .rw, .rw, .rw⟩, 1, .stored, .both, true, 1, []⟩,
  -- FLT_CLASS
  ⟨0xB002, 0xB002, 0x3B, 0x3B, .u8, ⟨.rw, .rw, .rw, .rw⟩, 2, .stored, .both, true, 1, []⟩,
  -- FLT_CLASS
  ⟨0xB002, 0xB002, 0x3C, 0x40, .u8, ⟨.rw, .rw, .rw, .rw⟩, 1, .stored, .both, true, 1, []⟩,
  -- FLT_QUIET
  ⟨0xB003, 0xB003, 0x01, 0x40, .u16, ⟨.rw, .rw, .rw, .rw⟩, 1000, .stored, .both, true, 2, []⟩,
  -- FLT_RLIM
  ⟨0xB004, 0xB004, 0x01, 0x40, .u8, ⟨.rw, .rw, .rw, .rw⟩, 3, .stored, .both, true, 1, [(1, 15)]⟩,
  -- FLT_RCNT
  ⟨0xB005, 0xB005, 0x01, 0x40, .u8, ⟨.r, .r, .r, .r⟩, 0, .vol, .both, false, 1, []⟩,
  -- FLT_BYP
  ⟨0xB006, 0xB006, 0x01, 0x26, .bool, ⟨.rw, .rw, .rw, .rw⟩, 0, .stored, .head, true, 1, [(0, 1)]⟩,
  -- FLT_BYP
  ⟨0xB006, 0xB006, 0x27, 0x27, .bool, ⟨.rw, .rw, .rw, .rw⟩, 1, .stored, .head, true, 1, [(0, 1)]⟩,
  -- FLT_BYP
  ⟨0xB006, 0xB006, 0x28, 0x2D, .bool, ⟨.rw, .rw, .rw, .rw⟩, 0, .stored, .head, true, 1, [(0, 1)]⟩,
  -- FLT_BYP
  ⟨0xB006, 0xB006, 0x2E, 0x30, .bool, ⟨.rw, .rw, .rw, .rw⟩, 1, .stored, .head, true, 1, [(0, 1)]⟩,
  -- FLT_BYP
  ⟨0xB006, 0xB006, 0x31, 0x40, .bool, ⟨.rw, .rw, .rw, .rw⟩, 0, .stored, .head, true, 1, [(0, 1)]⟩,
  -- FLT_FORGIVE
  ⟨0xB007, 0xB007, 0x00, 0x00, .u32, ⟨.rw, .rw, .rw, .rw⟩, 86400, .stored, .both, true, 4, []⟩,
  -- FLT_ILOG
  ⟨0xB008, 0xB008, 0x00, 0x00, .dom, ⟨.r, .r, .r, .r⟩, 0, .vol, .both, false, 1024, []⟩,
  -- T_DIE_WARN
  ⟨0xB009, 0xB009, 0x00, 0x00, .i16, ⟨.rw, .rw, .rw, .rw⟩, 11500, .stored, .both, true, 2, []⟩,
  -- FLT_SELF
  ⟨0xB00A, 0xB00A, 0x00, 0x00, .u8, ⟨.r, .r, .r, .r⟩, 0, .vol, .both, false, 1, []⟩,
  -- FENCE_MAP
  ⟨0xB010, 0xB010, 0x00, 0x00, .dom, ⟨.r, .r, .r, .r⟩, 0, .vol, .head, false, 144, []⟩,
  -- FENCE_INFO
  ⟨0xB010, 0xB010, 0x01, 0x01, .dom, ⟨.r, .r, .r, .r⟩, 0, .vol, .head, false, 1152, []⟩,
  -- FENCE_CMD
  ⟨0xB010, 0xB010, 0x02, 0x02, .u32, ⟨.rw, .rw, .rw, .rw⟩, 0, .vol, .head, true, 4, []⟩,
  -- CELL_MISS_LIMIT
  ⟨0xB011, 0xB011, 0x00, 0x00, .u16, ⟨.rw, .rw, .rw, .rw⟩, 8, .stored, .head, true, 2, [(1, 1000)]⟩,
  -- CELL_UNAVAIL_LIMIT
  ⟨0xB011, 0xB011, 0x01, 0x01, .u16, ⟨.rw, .rw, .rw, .rw⟩, 50, .stored, .head, true, 2, [(1, 65535)]⟩,
  -- ARM_MIN_CELLS
  ⟨0xB012, 0xB012, 0x01, 0x02, .u16, ⟨.rw, .rw, .rw, .rw⟩, 0, .stored, .head, true, 2, []⟩,
  -- TAKEOVER_CMD
  ⟨0xB020, 0xB020, 0x00, 0x00, .u8, ⟨.rw, .rw, .rw, .rw⟩, 0, .vol, .head, true, 1, [(1, 1)]⟩,
  -- LOSS_CUES
  ⟨0xB020, 0xB020, 0x01, 0x01, .u8, ⟨.rw, .rw, .rw, .rw⟩, 2, .stored, .head, true, 1, [(1, 2)]⟩,
  -- SNAP_AGE_MAX
  ⟨0xB020, 0xB020, 0x02, 0x02, .u16, ⟨.rw, .rw, .rw, .rw⟩, 64, .stored, .head, true, 2, [(2, 4096)]⟩,
  -- TAKEOVER_UNFIT
  ⟨0xB020, 0xB020, 0x03, 0x03, .u8, ⟨.rw, .rw, .rw, .rw⟩, 0, .stored, .head, true, 1, [(0, 1)]⟩,
  -- HEALTH
  ⟨0xB021, 0xB021, 0x00, 0x00, .dom, ⟨.r, .r, .r, .r⟩, 0, .vol, .head, false, 64, []⟩,
  -- TAKEOVER_LOG
  ⟨0xB022, 0xB022, 0x00, 0x00, .dom, ⟨.r, .r, .r, .r⟩, 0, .stored, .head, false, 256, []⟩]

/-- The objects with index 0xC000 to 0xC0FF. -/
def pageC0 : List DictRow := [
  -- IRQ_ROUTE
  ⟨0xC000, 0xC000, 0x01, 0x20, .u8, ⟨.rw, .rw, .rw, .rw⟩, 0, .stored, .both, false, 1, []⟩,
  -- IRQ_PRIO
  ⟨0xC001, 0xC001, 0x01, 0x20, .u8, ⟨.rw, .rw, .rw, .rw⟩, 8, .stored, .both, false, 1, [(0, 15)]⟩,
  -- IRQ_COAL_N
  ⟨0xC002, 0xC002, 0x01, 0x20, .u8, ⟨.rw, .rw, .rw, .rw⟩, 1, .stored, .both, false, 1, [(1, 255)]⟩,
  -- IRQ_COAL_T
  ⟨0xC003, 0xC003, 0x01, 0x20, .u16, ⟨.rw, .rw, .rw, .rw⟩, 0, .stored, .both, false, 2, [(0, 4095)]⟩,
  -- IRQ_HMODE
  ⟨0xC004, 0xC004, 0x01, 0x20, .u8, ⟨.rw, .rw, .rw, .rw⟩, 2, .stored, .both, false, 1, [(0, 2)]⟩,
  -- IRQ_HOLDOFF_T
  ⟨0xC005, 0xC005, 0x01, 0x20, .u32, ⟨.rw, .rw, .rw, .rw⟩, 1000, .stored, .both, false, 4, [(1, 1000000)]⟩,
  -- IRQ_DMODE
  ⟨0xC006, 0xC006, 0x01, 0x20, .u8, ⟨.rw, .rw, .rw, .rw⟩, 0, .stored, .both, false, 1, [(0, 1)]⟩,
  -- IRQ_FLOW
  ⟨0xC007, 0xC007, 0x01, 0x20, .u16, ⟨.rw, .rw, .rw, .rw⟩, 65535, .stored, .both, false, 2, []⟩,
  -- IRQ_ENABLE
  ⟨0xC008, 0xC008, 0x01, 0x08, .u32, ⟨.rw, .rw, .rw, .rw⟩, 0, .vol, .both, false, 4, []⟩,
  -- IRQ_PENDING
  ⟨0xC009, 0xC009, 0x01, 0x08, .u32, ⟨.r, .r, .r, .r⟩, 0, .vol, .both, false, 4, []⟩,
  -- IRQ_FALLBACK
  ⟨0xC00A, 0xC00A, 0x01, 0x04, .u8, ⟨.rw, .rw, .rw, .rw⟩, 255, .stored, .both, false, 1, []⟩,
  -- IRQ_TSTAT
  ⟨0xC00B, 0xC00B, 0x00, 0x00, .u16, ⟨.r, .r, .r, .r⟩, 0, .vol, .both, false, 2, []⟩,
  -- IRQ_PHASE
  ⟨0xC00C, 0xC00C, 0x00, 0x00, .u8, ⟨.r, .r, .r, .r⟩, 1, .vol, .both, false, 1, []⟩,
  -- IRQ_GSTATS
  ⟨0xC00D, 0xC00D, 0x01, 0x20, .dom, ⟨.r, .r, .r, .r⟩, 0, .vol, .both, false, 24, []⟩,
  -- IRQ_CLAIM
  ⟨0xC010, 0xC010, 0x00, 0x00, .u32, ⟨.r, .r, .r, .r⟩, 0, .vol, .both, false, 4, []⟩,
  -- IRQ_EOI
  ⟨0xC010, 0xC010, 0x01, 0x01, .u8, ⟨.rw, .rw, .rw, .rw⟩, 255, .vol, .both, false, 1, []⟩,
  -- IRQ_RPRIO
  ⟨0xC010, 0xC010, 0x02, 0x02, .u8, ⟨.r, .r, .r, .r⟩, 16, .vol, .both, false, 1, []⟩,
  -- DSP_PUSH
  ⟨0xC020, 0xC020, 0x00, 0x00, .dom, ⟨.rw, .rw, .rw, .rw⟩, 0, .vol, .both, false, 24, []⟩,
  -- DSP_PUSHST
  ⟨0xC020, 0xC020, 0x01, 0x01, .u8, ⟨.r, .r, .r, .r⟩, 0, .vol, .both, false, 1, []⟩,
  -- DSP_POP
  ⟨0xC020, 0xC020, 0x02, 0x02, .dom, ⟨.r, .r, .r, .r⟩, 0, .vol, .both, false, 16, []⟩,
  -- DSP_DONE
  ⟨0xC020, 0xC020, 0x03, 0x03, .u16, ⟨.rw, .rw, .rw, .rw⟩, 65535, .vol, .both, false, 2, []⟩,
  -- DSP_CMD
  ⟨0xC020, 0xC020, 0x04, 0x04, .u8, ⟨.rw, .rw, .rw, .rw⟩, 0, .vol, .both, false, 1, [(1, 3)]⟩,
  -- DSP_QSTAT
  ⟨0xC030, 0xC030, 0x01, 0x10, .dom, ⟨.r, .r, .r, .r⟩, 0, .vol, .both, false, 16, []⟩,
  -- DSP_DEPTH_WM
  ⟨0xC031, 0xC031, 0x01, 0x10, .u16, ⟨.rw, .rw, .rw, .rw⟩, 256, .stored, .both, false, 2, [(1, 16384)]⟩,
  -- DSP_WAIT_WM
  ⟨0xC032, 0xC032, 0x01, 0x10, .u32, ⟨.rw, .rw, .rw, .rw⟩, 1000, .stored, .both, false, 4, [(1, 1000000)]⟩,
  -- DSP_STORE
  ⟨0xC033, 0xC033, 0x00, 0x00, .dom, ⟨.r, .r, .r, .r⟩, 0, .vol, .both, false, 24, []⟩,
  -- IRQ_VLOG
  ⟨0xC040, 0xC040, 0x00, 0x00, .dom, ⟨.r, .r, .r, .r⟩, 0, .vol, .both, false, 1024, []⟩,
  -- IRQ_VLOG_CMD
  ⟨0xC040, 0xC040, 0x01, 0x01, .u8, ⟨.rw, .rw, .rw, .rw⟩, 0, .vol, .both, false, 1, [(1, 1)]⟩]

/-- The objects with index 0xD000 to 0xD0FF. -/
def pageD0 : List DictRow := [
  -- SCRUB_HOURS
  ⟨0xD000, 0xD000, 0x01, 0x01, .u16, ⟨.rw, .rw, .rw, .rw⟩, 24, .stored, .both, false, 2, [(1, 168)]⟩,
  -- SCRUB_PROGRESS
  ⟨0xD000, 0xD000, 0x02, 0x02, .u32, ⟨.r, .r, .r, .r⟩, 0, .vol, .both, false, 4, []⟩,
  -- MEM_CORR_COUNT
  ⟨0xD000, 0xD000, 0x03, 0x03, .u32, ⟨.r, .r, .r, .r⟩, 0, .vol, .both, false, 4, []⟩,
  -- MEM_UNCORR_COUNT
  ⟨0xD000, 0xD000, 0x04, 0x04, .u32, ⟨.r, .r, .r, .r⟩, 0, .vol, .both, false, 4, []⟩,
  -- MEM_ERR_LOG
  ⟨0xD000, 0xD000, 0x05, 0x05, .dom, ⟨.r, .r, .r, .r⟩, 0, .vol, .both, false, 512, []⟩,
  -- MEM_INJ
  ⟨0xD000, 0xD000, 0x06, 0x06, .u64, ⟨.rw, .rw, .rw, .rw⟩, 0, .vol, .both, false, 8, []⟩,
  -- SLOT_INFO
  ⟨0xD010, 0xD010, 0x00, 0x00, .dom, ⟨.r, .r, .r, .r⟩, 0, .vol, .both, false, 128, []⟩,
  -- FLASH_ERR
  ⟨0xD010, 0xD010, 0x01, 0x01, .u32, ⟨.r, .r, .r, .r⟩, 0, .vol, .both, false, 4, []⟩,
  -- UPD_STATE
  ⟨0xD020, 0xD020, 0x00, 0x00, .u8, ⟨.r, .r, .r, .r⟩, 0, .vol, .both, false, 1, []⟩,
  -- UPD_CMD
  ⟨0xD020, 0xD020, 0x01, 0x01, .u8, ⟨.rw, .rw, .rw, .rw⟩, 0, .vol, .both, false, 1, [(2, 5)]⟩,
  -- UPD_TARGET
  ⟨0xD020, 0xD020, 0x02, 0x02, .u8, ⟨.rw, .rw, .rw, .rw⟩, 1, .vol, .both, false, 1, []⟩,
  -- UPD_DATA
  ⟨0xD020, 0xD020, 0x03, 0x03, .dom, ⟨.rw, .rw, .rw, .rw⟩, 0, .vol, .both, false, 1024, []⟩,
  -- UPD_REASON
  ⟨0xD020, 0xD020, 0x04, 0x04, .u8, ⟨.r, .r, .r, .r⟩, 0, .vol, .both, false, 1, []⟩,
  -- UPD_PROGRESS
  ⟨0xD020, 0xD020, 0x05, 0x05, .u32, ⟨.r, .r, .r, .r⟩, 0, .vol, .both, false, 4, []⟩,
  -- TRIAL_STARTS
  ⟨0xD020, 0xD020, 0x06, 0x06, .u8, ⟨.r, .r, .r, .r⟩, 0, .vol, .both, false, 1, []⟩,
  -- TRIAL_MAX
  ⟨0xD020, 0xD020, 0x07, 0x07, .u8, ⟨.rw, .rw, .rw, .rw⟩, 3, .stored, .both, false, 1, [(1, 7)]⟩,
  -- UPD_LOG
  ⟨0xD020, 0xD020, 0x08, 0x08, .dom, ⟨.r, .r, .r, .r⟩, 0, .vol, .both, false, 512, []⟩,
  -- PASS_CMD
  ⟨0xD021, 0xD021, 0x00, 0x00, .u16, ⟨.rw, .rw, .rw, .no⟩, 0, .vol, .head, false, 2, [(0, 4095)]⟩,
  -- PASS_RATE
  ⟨0xD021, 0xD021, 0x01, 0x01, .u8, ⟨.rw, .rw, .rw, .rw⟩, 1, .stored, .head, false, 1, [(1, 4)]⟩,
  -- PASS_STATUS
  ⟨0xD021, 0xD021, 0x02, 0x02, .dom, ⟨.r, .r, .r, .r⟩, 0, .vol, .head, false, 192, []⟩,
  -- PASS_RELAY
  ⟨0xD022, 0xD022, 0x00, 0x00, .dom, ⟨.no, .r, .r, .no⟩, 0, .vol, .cell, false, 16, []⟩,
  -- UPD_KEYS
  ⟨0xD030, 0xD030, 0x01, 0x04, .dom, ⟨.r, .r, .r, .r⟩, 0, .factory, .both, false, 97, []⟩,
  -- MIG_REPORT
  ⟨0xD040, 0xD040, 0x00, 0x00, .dom, ⟨.r, .r, .r, .r⟩, 0, .vol, .both, false, 16, []⟩]

/-- The objects with index 0xE000 to 0xE0FF. -/
def pageE0 : List DictRow := [
  -- PWR_STATE
  ⟨0xE000, 0xE000, 0x00, 0x00, .u8, ⟨.r, .r, .r, .r⟩, 2, .vol, .both, false, 1, []⟩,
  -- PWR_CMD
  ⟨0xE000, 0xE000, 0x01, 0x01, .u8, ⟨.rw, .rw, .rw, .rw⟩, 0, .vol, .both, true, 1, [(1, 2)]⟩,
  -- STBY_IDLE
  ⟨0xE000, 0xE000, 0x02, 0x02, .u32, ⟨.no, .rw, .rw, .no⟩, 900, .stored, .cell, true, 4, [(0, 0), (60, 86400)]⟩,
  -- WAKE_POL
  ⟨0xE000, 0xE000, 0x03, 0x03, .u8, ⟨.rw, .rw, .rw, .rw⟩, 1, .stored, .both, false, 1, [(0, 2)]⟩,
  -- WAKE_TIMER
  ⟨0xE000, 0xE000, 0x04, 0x04, .u32, ⟨.rw, .rw, .rw, .rw⟩, 0, .stored, .both, false, 4, [(0, 31536000)]⟩,
  -- WAKE_CAUSE
  ⟨0xE000, 0xE000, 0x05, 0x05, .u8, ⟨.r, .r, .r, .r⟩, 0, .vol, .both, false, 1, []⟩,
  -- RESET_CAUSE
  ⟨0xE001, 0xE001, 0x00, 0x00, .u8, ⟨.r, .r, .r, .r⟩, 1, .vol, .both, false, 1, []⟩,
  -- RESET_COUNT
  ⟨0xE001, 0xE001, 0x01, 0x01, .dom, ⟨.r, .r, .r, .r⟩, 0, .vol, .both, false, 28, []⟩,
  -- AUX_EN
  ⟨0xE002, 0xE002, 0x00, 0x00, .bool, ⟨.rw, .rw, .rw, .rw⟩, 1, .stored, .both, true, 1, [(0, 1)]⟩,
  -- AUX_STATUS
  ⟨0xE002, 0xE002, 0x01, 0x01, .u8, ⟨.r, .r, .r, .r⟩, 0, .vol, .both, false, 1, []⟩,
  -- VIN_NOW
  ⟨0xE003, 0xE003, 0x00, 0x00, .f32, ⟨.r, .r, .r, .r⟩, 0, .vol, .both, false, 4, []⟩,
  -- VIN_LO
  ⟨0xE003, 0xE003, 0x01, 0x01, .f32, ⟨.rw, .rw, .rw, .rw⟩, 1088421888, .stored, .both, false, 4, []⟩,
  -- VIN_HI
  ⟨0xE003, 0xE003, 0x02, 0x02, .f32, ⟨.rw, .rw, .rw, .rw⟩, 1109917696, .stored, .both, false, 4, []⟩,
  -- T_DIE
  ⟨0xE004, 0xE004, 0x00, 0x00, .i16, ⟨.r, .r, .r, .r⟩, 0, .vol, .both, false, 2, []⟩,
  -- T_DIE_MAX
  ⟨0xE004, 0xE004, 0x01, 0x01, .i16, ⟨.r, .r, .r, .r⟩, 0, .vol, .both, false, 2, []⟩,
  -- CLK_STATUS
  ⟨0xE005, 0xE005, 0x00, 0x00, .u16, ⟨.r, .r, .r, .r⟩, 0, .vol, .both, false, 2, []⟩,
  -- AON_CAL_PPM
  ⟨0xE005, 0xE005, 0x01, 0x01, .i32, ⟨.r, .r, .r, .r⟩, 0, .vol, .both, false, 4, []⟩,
  -- XTAL_CL
  ⟨0xE005, 0xE005, 0x02, 0x02, .u8, ⟨.rw, .rw, .rw, .rw⟩, 10, .stored, .both, false, 1, [(8, 12)]⟩]

/-- The page of an index. -/
def page (p : Nat) : List DictRow :=
  match p with
  | 0x10 => page10
  | 0x20 => page20
  | 0x30 => page30
  | 0x38 => page38
  | 0x40 => page40
  | 0x50 => page50
  | 0x60 => page60
  | 0x68 => page68
  | 0x70 => page70
  | 0x78 => page78
  | 0x80 => page80
  | 0x90 => page90
  | 0xA0 => pageA0
  | 0xB0 => pageB0
  | 0xC0 => pageC0
  | 0xD0 => pageD0
  | 0xE0 => pageE0
  | _ => []

end Sys2Proof.Machine.Dict
end

