-- ==== Sys2Proof/Machine/Num.lean ====
section
/-! DEFINITION. Numbers as the manual writes them: bit fields, two's complement, little-endian bytes (Table 00-4),
the CRCs (R83 and its companions), and IEEE 754 binary32 as exact rationals with rounding to nearest even. -/

namespace Sys2Proof.Machine

/-! ### Bits and fields -/

/-- Field [hi:lo] of a word. -/
def fld (n hi lo : Nat) : Nat := n / 2 ^ lo % 2 ^ (hi + 1 - lo)

/-- A word with field [hi:lo] replaced. -/
def putFld (n hi lo v : Nat) : Nat :=
  n - fld n hi lo * 2 ^ lo + v % 2 ^ (hi + 1 - lo) * 2 ^ lo

/-- Bit i as a number. -/
def bitN (n i : Nat) : Nat := n / 2 ^ i % 2

/-- Whether bit i is set. -/
def hasBit (n i : Nat) : Bool := bitN n i == 1

/-- A word with bit i set. -/
def setBit (n i : Nat) : Nat := if hasBit n i then n else n + 2 ^ i

/-- A word with bit i cleared. -/
def clrBit (n i : Nat) : Nat := if hasBit n i then n - 2 ^ i else n

/-- A word with bit i set to a level. -/
def putBit (n i : Nat) (b : Bool) : Nat := if b then setBit n i else clrBit n i

/-- `n AND NOT m`. -/
def andNot (n m : Nat) : Nat := n ^^^ (n &&& m)

/-- A flag as a bit. -/
def b2n (b : Bool) : Nat := if b then 1 else 0

/-- A word made from a list of flags, bit 0 first. -/
def packBits : List Bool → Nat
  | [] => 0
  | b :: t => b2n b + 2 * packBits t

/-- Number of set bits among the low w bits. -/
def popCount (n : Nat) : Nat → Nat
  | 0 => 0
  | w + 1 => bitN n w + popCount n w

/-- Lowest set bit among the low w bits, else none. -/
def lowestBit (n w : Nat) : Option Nat := (List.range w).find? (fun i => hasBit n i)

/-- Two's complement reading of the low w bits. -/
def toI (w n : Nat) : Int :=
  let m := n % 2 ^ w
  if 2 * m < 2 ^ w then (m : Int) else (m : Int) - (2 : Int) ^ w

/-- Two's complement image in w bits. -/
def ofI (w : Nat) (z : Int) : Nat := (z % (2 : Int) ^ w).toNat

/-- Saturate to a range. -/
def satI (lo hi z : Int) : Int := if z < lo then lo else if hi < z then hi else z

/-- Saturate to the signed range of w bits. -/
def satS (w : Nat) (z : Int) : Int := satI (-(2 : Int) ^ (w - 1)) ((2 : Int) ^ (w - 1) - 1) z

/-- Saturate to the unsigned range of w bits. -/
def satU (w n : Nat) : Nat := min n (2 ^ w - 1)

/-- The next value of a w-bit count, modulo 2 to the w. -/
def inc (w n : Nat) : Nat := (n + 1) % 2 ^ w

/-- Time from b to a in TB0 units, signed. -/
def since (a b : Nat) : Int := toI 64 (a + 2 ^ 64 - b % 2 ^ 64)

/-- Difference of two w-bit stamps, modulo 2 to the w (R48). -/
def subMod (w a b : Nat) : Nat := (a + 2 ^ w - b % 2 ^ w) % 2 ^ w

/-! ### Bytes -/

/-- The low n bytes of a value, least significant first. -/
def leBytes : Nat → Nat → Bytes
  | 0, _ => []
  | n + 1, v => BitVec.ofNat 8 v :: leBytes n (v / 256)

/-- The value of a byte string, least significant byte first. -/
def leNat : Bytes → Nat
  | [] => 0
  | b :: t => b.toNat + 256 * leNat t

/-- n zero bytes. -/
def zeros (n : Nat) : Bytes := List.replicate n 0#8

/-- Bytes off to off + n − 1. -/
def slice (b : Bytes) (off n : Nat) : Bytes := (b.drop off).take n

/-- Little-endian value of n bytes at an offset. -/
def rd (b : Bytes) (off n : Nat) : Nat := leNat (slice b off n)

/-- A byte string with the bytes from an offset replaced, length unchanged. -/
def patch (b : Bytes) (off : Nat) (v : Bytes) : Bytes :=
  (b.take off ++ v ++ b.drop (off + v.length)).take b.length

/-- Pad with zero bytes, or cut, to length n. -/
def fit (n : Nat) (b : Bytes) : Bytes := (b ++ zeros n).take n

/-- Text as bytes. -/
def ascii (s : String) : Bytes := s.toList.map (fun c => BitVec.ofNat 8 c.toNat)

/-! ### CRCs -/

/-- One bit of a reflected 32-bit CRC. -/
def crcRefBit (poly c : Nat) : Nat := if c % 2 = 1 then (c / 2) ^^^ poly else c / 2

/-- One byte of a reflected 32-bit CRC. -/
def crcRefByte (poly : Nat) (c : Nat) (b : Byte) : Nat :=
  (List.range 8).foldl (fun c _ => crcRefBit poly c) (c ^^^ b.toNat)

/-- CRC-32 of IEEE 802.3 (R83): check value 0xCBF4_3926 over "123456789". -/
def crc32 (b : Bytes) : Nat := b.foldl (crcRefByte 0xEDB88320) 0xFFFFFFFF ^^^ 0xFFFFFFFF

/-- CRC-32C (Castagnoli), reflected, initial value and final XOR all ones: check value 0xE306_9283. -/
def crc32c (b : Bytes) : Nat := b.foldl (crcRefByte 0x82F63B78) 0xFFFFFFFF ^^^ 0xFFFFFFFF

/-- One byte of the CRC-8 of the CUE SHEET record (polynomial 0x2F, most significant bit first). -/
def crc8Byte (c : Nat) (b : Byte) : Nat :=
  (List.range 8).foldl (fun c _ => if 128 ≤ c then (2 * c % 256) ^^^ 0x2F else 2 * c % 256) (c ^^^ b.toNat)

/-- CRC-8 with polynomial 0x2F, initial value and final XOR 0xFF: check value 0xDF. -/
def crc8 (b : Bytes) : Nat := b.foldl crc8Byte 0xFF ^^^ 0xFF

/-! ### Rounding and binary32 -/

/-- Integer part towards minus infinity. -/
def floorQ (q : Rat) : Int := q.num / (q.den : Int)

/-- Nearest integer, ties to even. -/
def roundEven (q : Rat) : Int :=
  let n := q.num
  let d : Int := q.den
  let f := n / d
  let r2 := 2 * (n % d)
  if r2 < d then f else if d < r2 then f + 1 else if f % 2 = 0 then f else f + 1

/-- Nearest integer, ties away from zero. -/
def roundAway (q : Rat) : Int :=
  let n := q.num.natAbs
  let d := q.den
  let m : Int := ((2 * n + d) / (2 * d) : Nat)
  if q.num < 0 then -m else m

/-- Towards zero. -/
def truncQ (q : Rat) : Int :=
  let m : Int := (q.num.natAbs / q.den : Nat)
  if q.num < 0 then -m else m

/-- Two to an integer power. -/
def pow2 (e : Int) : Rat := if 0 ≤ e then ((2 ^ e.toNat : Nat) : Rat) else 1 / ((2 ^ (-e).toNat : Nat) : Rat)

/-- A quotient; a free value where the divisor is 0. -/
def divQ (tag : Nat) (a b : Rat) : Rat := if b = 0 then (Config.divZero tag : Rat) else a / b

namespace F32

/-- Exponent field of a binary32 word. -/
def expo (b : Nat) : Nat := fld b 30 23
/-- Fraction field. -/
def frac (b : Nat) : Nat := fld b 22 0
/-- Sign bit. -/
def neg (b : Nat) : Bool := hasBit b 31
/-- Not a number. -/
def isNaN (b : Nat) : Bool := expo b == 255 && frac b != 0
/-- Infinity of either sign. -/
def isInf (b : Nat) : Bool := expo b == 255 && frac b == 0
/-- A finite value. -/
def finite (b : Nat) : Bool := expo b != 255

/-- The exact value of a finite word; a free value for a word that is not finite. -/
def val (b : Nat) : Rat :=
  let m : Rat :=
    if expo b = 0 then (frac b : Rat) * pow2 (-149)
    else ((frac b + 2 ^ 23 : Nat) : Rat) * pow2 ((expo b : Int) - 150)
  if expo b = 255 then (Config.nonFinite b : Rat) else if neg b then -m else m

/-- floor of log2 of a positive rational n / d. -/
def ilog2 (n d : Nat) : Int :=
  let e : Int := (Nat.log2 n : Int) - (Nat.log2 d : Int)
  let le : Bool := if 0 ≤ e then decide (d * 2 ^ e.toNat ≤ n) else decide (d ≤ n * 2 ^ (-e).toNat)
  if le then e else e - 1

/-- The binary32 word nearest to a rational, ties to even, overflow to infinity, gradual underflow. -/
def ofRat (q : Rat) : Nat :=
  if q.num = 0 then 0
  else
    let n := q.num.natAbs
    let d := q.den
    let e0 := ilog2 n d
    let e : Int := if e0 < -126 then -126 else e0
    let sh : Int := 23 - e
    let m := if 0 ≤ sh then roundEven (((n * 2 ^ sh.toNat : Nat) : Rat) / (d : Rat))
             else roundEven ((n : Rat) / ((d * 2 ^ (-sh).toNat : Nat) : Rat))
    let w := ((e + 126).toNat * 2 ^ 23 + m.toNat)
    let w := if 0x7F800000 ≤ w then 0x7F800000 else w
    if q.num < 0 then w + 0x80000000 else w

/-- A word is at or above a finite value: an infinity by its sign. -/
def above (b : Nat) (q : Rat) : Bool := if isInf b then !neg b else decide (q ≤ val b)
/-- A word is at or below a finite value. -/
def below (b : Nat) (q : Rat) : Bool := if isInf b then neg b else decide (val b ≤ q)

/-- A finite word rounded to nearest even of an exact integer. -/
def ofInt (z : Int) : Nat := ofRat (z : Rat)

end F32

/-- A rational rounded to the 53-bit significand of binary64, ties to even (no stated sum leaves its range). -/
def round64 (q : Rat) : Rat :=
  if q.num = 0 then 0
  else
    let sh : Int := 52 - F32.ilog2 q.num.natAbs q.den
    (roundEven (q * pow2 sh) : Rat) * pow2 (-sh)

/-! ### Cosine and sine -/

/-- 2 pi in units of 2^-96. -/
def twoPiFix : Int := 497805226624462170461043889244

/-- The terms of the cosine series from the n-th on, in units of 2^-96: `t` is the present term, `x2` the square. -/
def cosSeries (x2 : Int) : Nat → Nat → Int → Int
  | 0, _, _ => 0
  | fuel + 1, n, t => t + cosSeries x2 fuel (n + 1) (-(t * x2 / 2 ^ 96) / ((2 * (n : Int) + 1) * (2 * n + 2)))

/-- The cosine of an angle in turns, rounded to a multiple of 2^-48. -/
def cosTurns (q : Rat) : Rat :=
  let f := q - (roundEven q : Rat)
  let x := roundEven (f * (twoPiFix : Rat))
  let c := cosSeries (x * x / 2 ^ 96) 32 0 (2 ^ 96)
  (roundEven ((c : Rat) / ((2 ^ 48 : Nat) : Rat)) : Rat) / ((2 ^ 48 : Nat) : Rat)

/-- The sine of an angle in turns. -/
def sinTurns (q : Rat) : Rat := cosTurns (q - 1 / 4)

/-- The value of a 16-bit fraction (Q15). -/
def q15 (n : Nat) : Rat := (toI 16 n : Rat) / 32768

end Sys2Proof.Machine
end

