-- ==== Sys2Proof/Machine/DictOps.lean ====
section
/-! DEFINITION. Reading the object dictionary: the row of a key, what an unlisted object reads as, sizes and ranges. -/

namespace Sys2Proof.Machine.Dict

/-- The key of index:subindex. -/
def key (idx sub : Nat) : Nat := idx * 256 + sub

/-- Whether a row covers a key. -/
def covers (k : Nat) (r : DictRow) : Bool :=
  decide (r.ilo ≤ k / 256) && decide (k / 256 ≤ r.ihi) && decide (r.slo ≤ k % 256) && decide (k % 256 ≤ r.shi)

/-- The row of a key, none for an object that is not in the dictionary. -/
def lookup (k : Nat) : Option DictRow := (page (k / 65536)).find? (covers k)

/-- Default of a fixed-size object: the table's value, but the unit's own factory values (Table 16-13) and the
default routes, g modulo 4 (Table 15-7). -/
def dflt (k : Nat) : Nat :=
  if k / 256 = 0xC000 then (k % 256 - 1) % 4
  else if k = 0x100005 then Config.unitSerial.toNat
  else if k = 0x100006 then Config.hwType.toNat
  else if k = 0x100007 then Config.firmwareVersion.toNat
  else if k = 0x10000C then Config.macAddr.toNat
  else match lookup k with
    | some r => r.dflt
    | none => 0

/-- Bytes of a fixed-size type. -/
def tySize : ObjType → Nat
  | .bool | .u8 => 1
  | .u16 | .i16 | .q15 => 2
  | .u32 | .i32 | .q31 | .f32 => 4
  | .u64 => 8
  | .str | .dom => 0
/-- Bytes of the object at a key; 1 where no row describes it. -/
def width (k : Nat) : Nat := match lookup k with | some r => tySize r.ty | none => 1

/-- Whether the type holds a two's-complement number. -/
def signed : ObjType → Bool
  | .i16 | .i32 | .q15 | .q31 => true
  | _ => false

/-- The number a raw value of a type stands for, as ranges are stated. -/
def asInt (t : ObjType) (v : Nat) : Int := if signed t then toI (8 * tySize t) v else (v : Int)

/-- Whether a value lies in one of the stated ranges (no stated range: any). -/
def inRange (r : DictRow) (v : Nat) : Bool :=
  r.rng.isEmpty || r.rng.any (fun p => decide (p.1 ≤ asInt r.ty v) && decide (asInt r.ty v ≤ p.2))

/-- Default of LOOP_DESC (Tables 09-7 and 09-13): FS 1.0, I_HI and Y_HI 0x7FFF, I_LO and Y_LO 0x8000, FB_REACT 0x01,
FB_RAMP 1, FB_RECOVER 1, every other field 0, and a valid DCRC. -/
def loopDescBody : Bytes :=
  zeros 8 ++ leBytes 4 0x3F800000 ++ leBytes 4 0x3F800000 ++ leBytes 4 0x3F800000 ++ zeros 6 ++
    leBytes 2 0x8000 ++ leBytes 2 0x7FFF ++ leBytes 2 0x8000 ++ leBytes 2 0x7FFF ++ leBytes 2 0 ++ leBytes 2 1 ++
    leBytes 1 1 ++ leBytes 1 0 ++ leBytes 4 0 ++ leBytes 1 1 ++ zeros 15

/-- Default content of a block or string object. -/
def domDflt (k : Nat) : Bytes :=
  let n := match lookup k with | some r => r.len | none => 0
  match k / 256 with
  | 0x1000 =>
    match k % 256 with
    | 1 => fit n (ascii "Lomette Semiconductor")
    | 2 => fit n (ascii "QSH7256")
    | 3 => fit n (ascii (if Config.orderedEt then "QSH7256-ET" else "QSH7256-IT"))
    | _ => zeros n
  | 0x7000 => loopDescBody ++ leBytes 4 (crc32 loopDescBody)
  | 0x7001 => zeros 256 ++ leBytes 4 (crc32 (zeros 256))
  | 0x7808 | 0xD030 => (List.range n).map (Config.factoryByte k)
  | 0x7842 => if k % 256 = 3 then (List.range n).map (fun i => if i % 8 < 6 then Config.factoryByte k i else 0#8) else zeros n
  | 0x7820 =>
    (List.range 64).flatMap (fun i =>
      leBytes 4 (if 8 ≤ i then 0 else if i % 2 = 0 then i * 0x800000 else 0xC0000000 + i * 0x800000))
  | 0x7821 =>
    (List.range 64).flatMap (fun i =>
      leBytes 4 (if 6 ≤ i then 0 else if i < 2 then 0x5000000 + i * 0x800000 else 0x8000000 + (i - 2) * 0x800000))
  | 0x8000 => List.replicate 16 0xFF#8
  | 0xB022 => []
  | 0xA001 =>
    if k % 256 = 1 then [0xFF#8, 0x0F#8, 0x0F#8, 0x07#8, 0x02#8, 0x00#8, 0x00#8, 0x00#8]
    else [0x00#8, 0x00#8, 0x00#8, 0x00#8, 0x02#8, 0x00#8, 0x00#8, 0x00#8]
  | 0xA021 => patch (zeros 12) 3 [0x01#8]
  | 0xA041 => leBytes 2 64 ++ leBytes 2 256 ++ [0x01#8, 0x01#8, 0x01#8, 0x00#8]
  | _ => zeros n

/-- Whether the object is saved by a store command (R460). -/
def stored (k : Nat) : Bool :=
  match lookup k with
  | some r => r.pers == .stored
  | none => false

end Sys2Proof.Machine.Dict
end

