-- ==== Sys2Proof/Machine/Kv.lean ====
section
/-! DEFINITION. Sparse tables in canonical form. `d` is what an unlisted key reads as. -/

namespace Sys2Proof.Machine.Kv

variable {α : Type}

/-- The value at a key: the listed one, else what an unlisted key reads as. -/
def get (d : Nat → α) : Kv α → Nat → α
  | [], k => d k
  | (j, v) :: t, k => if k = j then v else if k < j then d k else get d t k

/-- Write one key, keeping the canonical form: writing what an unlisted key reads as removes the entry. -/
def put [DecidableEq α] (d : Nat → α) (k : Nat) (v : α) : Kv α → Kv α
  | [] => if v = d k then [] else [(k, v)]
  | (j, w) :: t =>
    if k < j then (if v = d k then (j, w) :: t else (k, v) :: (j, w) :: t)
    else if k = j then (if v = d k then t else (k, v) :: t)
    else (j, w) :: put d k v t

/-- All keys of the table lie at or above `lo`, rise strictly, and no entry holds the unlisted value. -/
def wfFrom [DecidableEq α] (d : Nat → α) : Nat → Kv α → Bool
  | _, [] => true
  | lo, (j, v) :: t => decide (lo ≤ j) && decide (v ≠ d j) && wfFrom d (j + 1) t

/-- The canonical form. -/
def wf [DecidableEq α] (d : Nat → α) (m : Kv α) : Bool := wfFrom d 0 m

/-- Keep the entries whose key passes a test. -/
def keep (p : Nat → Bool) : Kv α → Kv α
  | [] => []
  | (j, v) :: t => if p j then (j, v) :: keep p t else keep p t

/-- Write every entry of a list, first to last. -/
def putAll [DecidableEq α] (d : Nat → α) : List (Nat × α) → Kv α → Kv α
  | [], m => m
  | (k, v) :: t, m => putAll d t (put d k v m)

end Sys2Proof.Machine.Kv
end

