-- ==== Sys2Proof/Machine/Names.lean ====
section
/-! DEFINITION. The dictionary keys of the objects: one name per object of the spec's object tables, key = index × 256 + subindex (R438). -/

namespace Sys2Proof.Machine.Obj

/-- ROLE, 0x1010:00 -/
abbrev role : Nat := 0x101000
/-- ROLE_UNSTABLE, 0x1010:01 -/
abbrev roleUnstable : Nat := 0x101001
/-- HEAD_STANDING, 0x1011:00 -/
abbrev headStanding : Nat := 0x101100
/-- PAIR_ID, 0x1011:01 -/
abbrev pairId : Nat := 0x101101
/-- STANDING_NOW, 0x1011:02 -/
abbrev standingNow : Nat := 0x101102
/-- CADDR, 0x1012:00 -/
abbrev caddr : Nat := 0x101200
/-- RING_MODE, 0x3001:00 -/
abbrev ringMode : Nat := 0x300100
/-- RING_ARM, 0x3010:01 + n -/
abbrev ringArm (n : Nat) : Nat := 0x301001 + n
/-- RING_EXPECT, 0x3011:01 + n -/
abbrev ringExpect (n : Nat) : Nat := 0x301101 + n
/-- RING_FOUND, 0x3012:01 + n -/
abbrev ringFound (n : Nat) : Nat := 0x301201 + n
/-- CELL_TABLE, 0x3020:01 + n -/
abbrev cellTable (n : Nat) : Nat := 0x302001 + n
/-- ENUM_CMD, 0x3021:00 -/
abbrev enumCmd : Nat := 0x302100
/-- ARM_BRIDGE, 0x4001:01 + n -/
abbrev armBridge (n : Nat) : Nat := 0x400101 + n
/-- SM_TYPE, 0x6000:01 -/
abbrev smType : Nat := 0x600001
/-- PORT_ORIENT, 0x6000:02 -/
abbrev portOrient : Nat := 0x600002
/-- CUE_PERIOD, 0x2000:00 -/
abbrev cuePeriod : Nat := 0x200000
/-- CUE_PERIOD_NOW, 0x2000:01 -/
abbrev cuePeriodNow : Nat := 0x200001
/-- CUE_COUNT, 0x2000:02 -/
abbrev cueCount : Nat := 0x200002
/-- REPORT_CUTOFF, 0x2001:00 -/
abbrev reportCutoff : Nat := 0x200100
/-- CUTOFF_NOW, 0x2001:01 -/
abbrev cutoffNow : Nat := 0x200101
/-- PIPE_MARGIN, 0x2002:01 + n -/
abbrev pipeMargin (n : Nat) : Nat := 0x200201 + n
/-- PIPE_MARGIN_1P, 0x2003:01 + n -/
abbrev pipeMargin1p (n : Nat) : Nat := 0x200301 + n
/-- SHEET_LATE, 0x2004:00 -/
abbrev sheetLate : Nat := 0x200400
/-- TB0, 0x2010:00 -/
abbrev tb0 : Nat := 0x201000
/-- TB0_STATE, 0x2010:01 -/
abbrev tb0State : Nat := 0x201001
/-- TB0_OFFSET, 0x2010:02 -/
abbrev tb0Offset : Nat := 0x201002
/-- TB0_STEP_MAX, 0x2010:03 -/
abbrev tb0StepMax : Nat := 0x201003
/-- HOLDOVER_LIMIT, 0x2010:04 -/
abbrev holdoverLimit : Nat := 0x201004
/-- DELAY_AVG, 0x2010:05 -/
abbrev delayAvg : Nat := 0x201005
/-- STEP_REFUSED, 0x2010:06 -/
abbrev stepRefused : Nat := 0x201006
/-- TB0_DISC, 0x2010:07 -/
abbrev tb0Disc : Nat := 0x201007
/-- PORT_ASYM, 0x2011:01 + n -/
abbrev portAsym (n : Nat) : Nat := 0x201101 + n
/-- HOP_DELAY, 0x2012:01 + n -/
abbrev hopDelay (n : Nat) : Nat := 0x201201 + n
/-- RE_ANCHOR, 0x2013:00 -/
abbrev reAnchor : Nat := 0x201300
/-- TB1, 0x2020:00 -/
abbrev tb1 : Nat := 0x202000
/-- TB1_STATE, 0x2020:01 -/
abbrev tb1State : Nat := 0x202001
/-- TB1_OFFSET, 0x2020:02 -/
abbrev tb1Offset : Nat := 0x202002
/-- TB1_STEP_MAX, 0x2020:03 -/
abbrev tb1StepMax : Nat := 0x202003
/-- PTP_DOMAIN, 0x2020:04 -/
abbrev ptpDomain : Nat := 0x202004
/-- TB1_CMD, 0x2020:05 -/
abbrev tb1Cmd : Nat := 0x202005
/-- PTP_PORT, 0x2020:06 -/
abbrev ptpPort : Nat := 0x202006
/-- UTC_OFFSET, 0x2020:07 -/
abbrev utcOffset : Nat := 0x202007
/-- TB2, 0x2030:00 -/
abbrev tb2 : Nat := 0x203000
/-- TB3, 0x2031:00 -/
abbrev tb3 : Nat := 0x203100
/-- TB3_RATE, 0x2031:01 -/
abbrev tb3Rate : Nat := 0x203101
/-- SYNC_MODE, 0x2040:00 -/
abbrev syncMode : Nat := 0x204000
/-- SYNC_DIV, 0x2040:01 -/
abbrev syncDiv : Nat := 0x204001
/-- SYNC_OFFSET, 0x2040:02 -/
abbrev syncOffset : Nat := 0x204002
/-- SYNC_WINDOW, 0x2040:03 -/
abbrev syncWindow : Nat := 0x204003
/-- SYNC_SLEW, 0x2040:04 -/
abbrev syncSlew : Nat := 0x204004
/-- SYNC_MISS_LIMIT, 0x2040:05 -/
abbrev syncMissLimit : Nat := 0x204005
/-- SYNC_STATE, 0x2040:06 -/
abbrev syncState : Nat := 0x204006
/-- SYNC_ERROR, 0x2040:07 -/
abbrev syncError : Nat := 0x204007
/-- SYNC_OUTSIDE, 0x2040:08 -/
abbrev syncOutside : Nat := 0x204008
/-- SYNC_CMD, 0x2040:09 -/
abbrev syncCmd : Nat := 0x204009
/-- TB_SEL, (0x2050 + n):01 -/
abbrev tevtTbSel (n : Nat) : Nat := 0x205001 + 256 * n
/-- MODE, (0x2050 + n):02 -/
abbrev tevtMode (n : Nat) : Nat := 0x205002 + 256 * n
/-- COMPARE, (0x2050 + n):03 -/
abbrev tevtCompare (n : Nat) : Nat := 0x205003 + 256 * n
/-- PERIOD, (0x2050 + n):04 -/
abbrev tevtPeriod (n : Nat) : Nat := 0x205004 + 256 * n
/-- ACTION, (0x2050 + n):05 -/
abbrev tevtAction (n : Nat) : Nat := 0x205005 + 256 * n
/-- ARM, (0x2050 + n):06 -/
abbrev tevtArm (n : Nat) : Nat := 0x205006 + 256 * n
/-- TEVT_STATUS, (0x2050 + n):07 -/
abbrev tevtStatus (n : Nat) : Nat := 0x205007 + 256 * n
/-- EDGE, (0x2060 + n):01 -/
abbrev edgeSel (n : Nat) : Nat := 0x206001 + 256 * n
/-- ENTRY, (0x2060 + n):02 -/
abbrev edgeEntry (n : Nat) : Nat := 0x206002 + 256 * n
/-- COUNT, (0x2060 + n):03 -/
abbrev edgeCount (n : Nat) : Nat := 0x206003 + 256 * n
/-- OVERRUN, (0x2060 + n):04 -/
abbrev edgeOverrun (n : Nat) : Nat := 0x206004 + 256 * n
/-- RATE_MAX, 0x3030:01 + n -/
abbrev rateMax (n : Nat) : Nat := 0x303001 + n
/-- RATE_NOW, 0x3031:01 + n -/
abbrev rateNow (n : Nat) : Nat := 0x303101 + n
/-- PORT_STATE, 0x3032:01 + n -/
abbrev portState (n : Nat) : Nat := 0x303201 + n
/-- RING_STATUS, 0x3033:01 + n -/
abbrev ringStatus (n : Nat) : Nat := 0x303301 + n
/-- SPLIT_HOP, 0x3034:01 + n -/
abbrev splitHop (n : Nat) : Nat := 0x303401 + n
/-- PATH_MODE, 0x3035:00 -/
abbrev pathMode : Nat := 0x303500
/-- HEAL_HOLD, 0x3036:00 -/
abbrev healHold : Nat := 0x303600
/-- BG_GUARD, 0x3037:00 -/
abbrev bgGuard : Nat := 0x303700
/-- TRAIN_GRACE, 0x3038:00 -/
abbrev trainGrace : Nat := 0x303800
/-- RING_VIOL, (0x3040 + m):(01 + n) -/
abbrev ringViol (m n : Nat) : Nat := 0x304001 + 256 * m + n
/-- RING_VLOG, 0x3050:00 -/
abbrev ringVlog : Nat := 0x305000
/-- VLOG_COUNT, 0x3051:00 -/
abbrev vlogCount : Nat := 0x305100
/-- VLOG_CMD, 0x3052:00 -/
abbrev vlogCmd : Nat := 0x305200
/-- CURTAIN_ECHO, 0x3053:01 + n -/
abbrev curtainEcho (n : Nat) : Nat := 0x305301 + n
/-- XL_STATE, 0x3800:01 + n -/
abbrev xlState (n : Nat) : Nat := 0x380001 + n
/-- XL_WIDTH, 0x3801:01 + n -/
abbrev xlWidth (n : Nat) : Nat := 0x380101 + n
/-- XL_PEER, 0x3802:01 + n -/
abbrev xlPeer (n : Nat) : Nat := 0x380201 + n
/-- XL_PEER_SERIAL, 0x3803:01 + n -/
abbrev xlPeerSerial (n : Nat) : Nat := 0x380301 + n
/-- ONE_LANE_ACTION, 0x3804:00 -/
abbrev oneLaneAction : Nat := 0x380400
/-- REJOIN_HOLD, 0x3805:00 -/
abbrev rejoinHold : Nat := 0x380500
/-- SNAP_LATE, 0x3806:00 -/
abbrev snapLate : Nat := 0x380600
/-- XL_LOST, 0x3807:01 + n -/
abbrev xlLost (n : Nat) : Nat := 0x380701 + n
/-- XL_VIOL, (0x3810 + m):(01 + n) -/
abbrev xlViol (m n : Nat) : Nat := 0x381001 + 256 * m + n
/-- XL_VLOG, 0x3820:00 -/
abbrev xlVlog : Nat := 0x382000
/-- XL_VLOG_CMD, 0x3821:00 -/
abbrev xlVlogCmd : Nat := 0x382100
/-- MOD_MODE, 0x4002:01 + n -/
abbrev modMode (n : Nat) : Nat := 0x400201 + n
/-- PREDICT, 0x4003:01 + n -/
abbrev predict (n : Nat) : Nat := 0x400301 + n
/-- LC_HYST, 0x4004:01 + n -/
abbrev lcHyst (n : Nat) : Nat := 0x400401 + n
/-- MIN_DWELL, 0x4005:01 + n -/
abbrev minDwell (n : Nat) : Nat := 0x400501 + n
/-- SWAP_MAX, 0x4006:01 + n -/
abbrev swapMax (n : Nat) : Nat := 0x400601 + n
/-- SWAP_AT, 0x4007:01 + n -/
abbrev swapAt (n : Nat) : Nat := 0x400701 + n
/-- SWAP_KEY_MIN, 0x4008:01 + n -/
abbrev swapKeyMin (n : Nat) : Nat := 0x400801 + n
/-- NLM_TICKS, 0x4009:01 + n -/
abbrev nlmTicks (n : Nat) : Nat := 0x400901 + n
/-- CAR_RATIO, 0x400A:01 + n -/
abbrev carRatio (n : Nat) : Nat := 0x400A01 + n
/-- INS_MAX, 0x400B:01 + n -/
abbrev insMax (n : Nat) : Nat := 0x400B01 + n
/-- MOD_COUNT, 0x4010:01 + n -/
abbrev modCount (n : Nat) : Nat := 0x401001 + n
/-- MOD_NAV, 0x4011:01 + n -/
abbrev modNav (n : Nat) : Nat := 0x401101 + n
/-- MOD_VS, 0x4012:01 + n -/
abbrev modVs (n : Nat) : Nat := 0x401201 + n
/-- MOD_TRANS, 0x4013:01 + n -/
abbrev modTrans (n : Nat) : Nat := 0x401301 + n
/-- MOD_FLAGS, 0x4014:01 + n -/
abbrev modFlags (n : Nat) : Nat := 0x401401 + n
/-- CLIP_COUNT, 0x4015:01 + n -/
abbrev clipCount (n : Nat) : Nat := 0x401501 + n
/-- NOCELL_COUNT, 0x4016:01 + n -/
abbrev nocellCount (n : Nat) : Nat := 0x401601 + n
/-- SAT_COUNT, 0x4017:01 + n -/
abbrev satCount (n : Nat) : Nat := 0x401701 + n
/-- STATE_ASSUMED, 0x4018:01 + n -/
abbrev stateAssumed (n : Nat) : Nat := 0x401801 + n
/-- TRACE_SLOT, 0x4020:01 + n -/
abbrev traceSlot (n : Nat) : Nat := 0x402001 + n
/-- TRACE_REC, 0x4021:01 + n -/
abbrev traceRec (n : Nat) : Nat := 0x402101 + n
/-- W_V, 0x5001:01 + n -/
abbrev wV (n : Nat) : Nat := 0x500101 + n
/-- W_S, 0x5002:01 + n -/
abbrev wS (n : Nat) : Nat := 0x500201 + n
/-- W_T, 0x5003:01 + n -/
abbrev wT (n : Nat) : Nat := 0x500301 + n
/-- W_W, 0x5004:01 + n -/
abbrev wW (n : Nat) : Nat := 0x500401 + n
/-- KEY_SHIFT, 0x5005:01 + n -/
abbrev keyShift (n : Nat) : Nat := 0x500501 + n
/-- IDIR_DEAD, 0x5006:01 + n -/
abbrev idirDead (n : Nat) : Nat := 0x500601 + n
/-- IDIR_INVERT, 0x5007:01 + n -/
abbrev idirInvert (n : Nat) : Nat := 0x500701 + n
/-- KEY_AGE_MAX, 0x5008:01 + n -/
abbrev keyAgeMax (n : Nat) : Nat := 0x500801 + n
/-- INC_PASSES, 0x5009:01 + n -/
abbrev incPasses (n : Nat) : Nat := 0x500901 + n
/-- SORT_MODE, 0x500A:01 + n -/
abbrev sortMode (n : Nat) : Nat := 0x500A01 + n
/-- WEAR_ADOPT, 0x500B:00 -/
abbrev wearAdopt : Nat := 0x500B00
/-- KEY_GATE, 0x500C:01 + n -/
abbrev keyGate (n : Nat) : Nat := 0x500C01 + n
/-- SORT_CMD, 0x500D:01 + n -/
abbrev sortCmd (n : Nat) : Nat := 0x500D01 + n
/-- ORDER_HOLD, 0x500E:01 + n -/
abbrev orderHold (n : Nat) : Nat := 0x500E01 + n
/-- SIEVE_STATUS, 0x5010:01 + n -/
abbrev sieveStatus (n : Nat) : Nat := 0x501001 + n
/-- PASSES_USED, 0x5011:01 + n -/
abbrev passesUsed (n : Nat) : Nat := 0x501101 + n
/-- FULL_COUNT, 0x5012:01 + n -/
abbrev fullCount (n : Nat) : Nat := 0x501201 + n
/-- UNSETTLED_COUNT, 0x5013:01 + n -/
abbrev unsettledCount (n : Nat) : Nat := 0x501301 + n
/-- KEY_EPOCH, 0x5014:01 + n -/
abbrev keyEpoch (n : Nat) : Nat := 0x501401 + n
/-- PARKED_NOW, 0x5015:01 + n -/
abbrev parkedNow (n : Nat) : Nat := 0x501501 + n
/-- AGED_NOW, 0x5016:01 + n -/
abbrev agedNow (n : Nat) : Nat := 0x501601 + n
/-- STALE_KEYED, 0x5017:01 + n -/
abbrev staleKeyed (n : Nat) : Nat := 0x501701 + n
/-- RANK_TABLE, 0x5020:01 + n -/
abbrev rankTable (n : Nat) : Nat := 0x502001 + n
/-- SIEVE_REF, 0x5021:01 + n -/
abbrev sieveRef (n : Nat) : Nat := 0x502101 + n
/-- KEY_PROBE_SLOT, 0x5022:01 + n -/
abbrev keyProbeSlot (n : Nat) : Nat := 0x502201 + n
/-- KEY_PROBE, 0x5023:01 + n -/
abbrev keyProbe (n : Nat) : Nat := 0x502301 + n
/-- WEAR_OFS, 0x5030:00 -/
abbrev wearOfs : Nat := 0x503000
/-- ZERO_MODE, 0x6001:00 -/
abbrev zeroMode : Nat := 0x600100
/-- DT_BR, 0x6002:00 -/
abbrev dtBr : Nat := 0x600200
/-- DT_BAT, 0x6002:01 -/
abbrev dtBat : Nat := 0x600201
/-- EDGE_TRIM, 0x6003:01 + n -/
abbrev edgeTrim (n : Nat) : Nat := 0x600301 + n
/-- BYP_DELAY, 0x6004:00 -/
abbrev bypDelay : Nat := 0x600400
/-- BYP_PULSE, 0x6004:01 -/
abbrev bypPulse : Nat := 0x600401
/-- BYP_SENSE, 0x6004:02 -/
abbrev bypSense : Nat := 0x600402
/-- BYP_CONFIRM, 0x6004:03 -/
abbrev bypConfirm : Nat := 0x600403
/-- BYP_RETRY, 0x6004:04 -/
abbrev bypRetry : Nat := 0x600404
/-- BYP_CMD, 0x6004:05 -/
abbrev bypCmd : Nat := 0x600405
/-- COAST_HOLD, 0x6005:00 -/
abbrev coastHold : Nat := 0x600500
/-- COAST_LIMIT, 0x6005:01 -/
abbrev coastLimit : Nat := 0x600501
/-- COAST_STATE, 0x6005:02 -/
abbrev coastState : Nat := 0x600502
/-- DBG_HALT_ACTION, 0x6006:00 -/
abbrev dbgHaltAction : Nat := 0x600600
/-- EV_CARRIED, 0x6007:00 -/
abbrev evCarried : Nat := 0x600700
/-- SHEETS_EXEC, 0x6007:01 -/
abbrev sheetsExec : Nat := 0x600701
/-- COAST_CUES, 0x6007:02 -/
abbrev coastCues : Nat := 0x600702
/-- FORCE_CAUSE, 0x6008:00 -/
abbrev forceCause : Nat := 0x600800
/-- TRIP_FLT, 0x6010:01 + n -/
abbrev tripFlt (n : Nat) : Nat := 0x601001 + n
/-- TRIP_POL, 0x6011:01 + n -/
abbrev tripPol (n : Nat) : Nat := 0x601101 + n
/-- TRIP_ACT, 0x6012:01 + n -/
abbrev tripAct (n : Nat) : Nat := 0x601201 + n
/-- TRIP_LATCHED, 0x6013:00 -/
abbrev tripLatched : Nat := 0x601300
/-- TRIP_CLR, 0x6013:01 -/
abbrev tripClr : Nat := 0x601301
/-- CAR_MODE, 0x6020:00 -/
abbrev carMode : Nat := 0x602000
/-- CAR_XFER, 0x6020:01 -/
abbrev carXfer : Nat := 0x602001
/-- CAR_SHPER, 0x6020:02 -/
abbrev carShper : Nat := 0x602002
/-- CAR_SHDUTY, 0x6020:03 -/
abbrev carShduty : Nat := 0x602003
/-- SPLIT_COUNT, 0x6020:04 -/
abbrev splitCount : Nat := 0x602004
/-- LATE_COUNT, 0x6020:05 -/
abbrev lateCount : Nat := 0x602005
/-- TAP_PS, 0x6030:00 -/
abbrev tapPs : Nat := 0x603000
/-- BAT_MODE, 0x6800:00 -/
abbrev batMode : Nat := 0x680000
/-- BAT_TEST, 0x6800:01 -/
abbrev batTest : Nat := 0x680001
/-- BAT_STATE, 0x6800:02 -/
abbrev batState : Nat := 0x680002
/-- BAT_CMD, 0x6800:03 -/
abbrev batCmd : Nat := 0x680003
/-- BAT_COMMISSIONED, 0x6800:04 -/
abbrev batCommissioned : Nat := 0x680004
/-- BAT_FLAGS, 0x6800:05 -/
abbrev batFlags : Nat := 0x680005
/-- BAT_P_RATED, 0x6801:00 -/
abbrev batPRated : Nat := 0x680100
/-- BAT_P_LOCAL, 0x6801:01 -/
abbrev batPLocal : Nat := 0x680101
/-- P_SLEW, 0x6801:02 -/
abbrev pSlew : Nat := 0x680102
/-- I_DIS_MAX, 0x6802:00 -/
abbrev iDisMax : Nat := 0x680200
/-- I_CHG_MAX, 0x6802:01 -/
abbrev iChgMax : Nat := 0x680201
/-- I_OC, 0x6802:02 -/
abbrev iOc : Nat := 0x680202
/-- BAT_I_FS, 0x6802:03 -/
abbrev batIFs : Nat := 0x680203
/-- BAT_VMIN, 0x6803:00 -/
abbrev batVmin : Nat := 0x680300
/-- BAT_VMAX, 0x6803:01 -/
abbrev batVmax : Nat := 0x680301
/-- V_DIS_TAPER, 0x6803:02 -/
abbrev vDisTaper : Nat := 0x680302
/-- V_CHG_TAPER, 0x6803:03 -/
abbrev vChgTaper : Nat := 0x680303
/-- VCAP_HEADROOM, 0x6803:04 -/
abbrev vcapHeadroom : Nat := 0x680304
/-- T_DERATE, 0x6804:00 -/
abbrev tDerate : Nat := 0x680400
/-- T_MAX, 0x6804:01 -/
abbrev tMax : Nat := 0x680401
/-- DUTY_MIN, 0x6805:00 -/
abbrev dutyMin : Nat := 0x680500
/-- DUTY_MAX, 0x6805:01 -/
abbrev dutyMax : Nat := 0x680501
/-- BAT_FLT, 0x6806:00 -/
abbrev batFlt : Nat := 0x680600
/-- BAT_AIN_V, 0x6807:00 -/
abbrev batAinV : Nat := 0x680700
/-- BAT_AIN_I, 0x6807:01 -/
abbrev batAinI : Nat := 0x680701
/-- BAT_AIN_T, 0x6807:02 + n -/
abbrev batAinT (n : Nat) : Nat := 0x680702 + n
/-- BAT_V_GAIN, 0x6807:06 -/
abbrev batVGain : Nat := 0x680706
/-- BAT_V_OFS, 0x6807:07 -/
abbrev batVOfs : Nat := 0x680707
/-- BAT_I_GAIN, 0x6807:08 -/
abbrev batIGain : Nat := 0x680708
/-- BAT_I_OFS, 0x6807:09 -/
abbrev batIOfs : Nat := 0x680709
/-- BAT_CAP, 0x6808:00 -/
abbrev batCap : Nat := 0x680800
/-- BAT_ETA, 0x6808:01 -/
abbrev batEta : Nat := 0x680801
/-- SOC, 0x6808:02 -/
abbrev soc : Nat := 0x680802
/-- SOC_SET, 0x6808:03 -/
abbrev socSet : Nat := 0x680803
/-- SOC_MIN, 0x6808:04 -/
abbrev socMin : Nat := 0x680804
/-- SOC_MAX, 0x6808:05 -/
abbrev socMax : Nat := 0x680805
/-- REST_I, 0x6808:06 -/
abbrev restI : Nat := 0x680806
/-- REST_T, 0x6808:07 -/
abbrev restT : Nat := 0x680807
/-- OCV_TABLE, 0x6808:08 -/
abbrev ocvTable : Nat := 0x680808
/-- SOC_RESETS, 0x6808:09 -/
abbrev socResets : Nat := 0x680809
/-- CHECK_INTERVAL, 0x6809:00 -/
abbrev checkInterval : Nat := 0x680900
/-- STORE_VMIN, 0x6809:01 -/
abbrev storeVmin : Nat := 0x680901
/-- STORE_VMAX, 0x6809:02 -/
abbrev storeVmax : Nat := 0x680902
/-- STORE_TMAX, 0x6809:03 -/
abbrev storeTmax : Nat := 0x680903
/-- STORE_ACTION, 0x6809:04 -/
abbrev storeAction : Nat := 0x680904
/-- CHECK_LOG, 0x680A:00 -/
abbrev checkLog : Nat := 0x680A00
/-- BAT_P_RATED_ARM, 0x6880:01 + n -/
abbrev batPRatedArm (n : Nat) : Nat := 0x688001 + n
/-- SOC_GAIN, 0x6881:01 + n -/
abbrev socGain (n : Nat) : Nat := 0x688101 + n
/-- SHARE_LIM, 0x6882:01 + n -/
abbrev shareLim (n : Nat) : Nat := 0x688201 + n
/-- SHARE_STATUS, 0x6883:01 + n -/
abbrev shareStatus (n : Nat) : Nat := 0x688301 + n
/-- SHARE_SUM, 0x6884:01 + n -/
abbrev shareSum (n : Nat) : Nat := 0x688401 + n
/-- LOOP_DESC, 0x7000:01 + n -/
abbrev loopDesc (n : Nat) : Nat := 0x700001 + n
/-- LOOP_GTAB, 0x7001:01 + n -/
abbrev loopGtab (n : Nat) : Nat := 0x700101 + n
/-- GTAB_POKE, 0x7002:01 + n -/
abbrev gtabPoke (n : Nat) : Nat := 0x700201 + n
/-- LOOP_FLAGS, 0x7003:01 + n -/
abbrev loopFlags (n : Nat) : Nat := 0x700301 + n
/-- KP_SHIFT, 0x7004:01 + n -/
abbrev kpShift (n : Nat) : Nat := 0x700401 + n
/-- KI_SHIFT, 0x7005:01 + n -/
abbrev kiShift (n : Nat) : Nat := 0x700501 + n
/-- FF_GAIN, 0x7006:01 + n -/
abbrev ffGain (n : Nat) : Nat := 0x700601 + n
/-- I_LO, 0x7007:01 + n -/
abbrev iLo (n : Nat) : Nat := 0x700701 + n
/-- I_HI, 0x7008:01 + n -/
abbrev iHi (n : Nat) : Nat := 0x700801 + n
/-- Y_LO, 0x7009:01 + n -/
abbrev yLo (n : Nat) : Nat := 0x700901 + n
/-- Y_HI, 0x700A:01 + n -/
abbrev yHi (n : Nat) : Nat := 0x700A01 + n
/-- INT_SET, 0x700B:01 + n -/
abbrev intSet (n : Nat) : Nat := 0x700B01 + n
/-- COEF_EPOCH, 0x7010:01 + n -/
abbrev coefEpoch (n : Nat) : Nat := 0x701001 + n
/-- LOOP_STATUS, 0x7011:01 + n -/
abbrev loopStatus (n : Nat) : Nat := 0x701101 + n
/-- LOOP_Y, 0x7012:01 + n -/
abbrev loopY (n : Nat) : Nat := 0x701201 + n
/-- LOOP_E, 0x7013:01 + n -/
abbrev loopE (n : Nat) : Nat := 0x701301 + n
/-- LOOP_INT, 0x7014:01 + n -/
abbrev loopInt (n : Nat) : Nat := 0x701401 + n
/-- FB_AGE, 0x7015:01 + n -/
abbrev fbAge (n : Nat) : Nat := 0x701501 + n
/-- FALLBACK_COUNT, 0x7016:01 + n -/
abbrev fallbackCount (n : Nat) : Nat := 0x701601 + n
/-- EXEC_COUNT, 0x7017:01 + n -/
abbrev execCount (n : Nat) : Nat := 0x701701 + n
/-- GROUP_SRC, 0x7020:01 + n -/
abbrev groupSrc (n : Nat) : Nat := 0x702001 + n
/-- GROUP_RATE, 0x7021:01 + n -/
abbrev groupRate (n : Nat) : Nat := 0x702101 + n
/-- GROUP_TEVT, 0x7022:01 + n -/
abbrev groupTevt (n : Nat) : Nat := 0x702201 + n
/-- GROUP_OVERRUN, 0x7023:01 + n -/
abbrev groupOverrun (n : Nat) : Nat := 0x702301 + n
/-- GROUP_SUSPEND, 0x7024:01 + n -/
abbrev groupSuspend (n : Nat) : Nat := 0x702401 + n
/-- LOOP_CONST, 0x7030:01 + n -/
abbrev loopConst (n : Nat) : Nat := 0x703001 + n
/-- ARM_I_SRC, 0x7040:01 + n -/
abbrev armISrc (n : Nat) : Nat := 0x704001 + n
/-- VREF_TERM, 0x7041:01 + n -/
abbrev vrefTerm (n : Nat) : Nat := 0x704101 + n
/-- PBAT_SRC, 0x7042:01 + n -/
abbrev pbatSrc (n : Nat) : Nat := 0x704201 + n
/-- PBAT_GAIN, 0x7043:01 + n -/
abbrev pbatGain (n : Nat) : Nat := 0x704301 + n
/-- ARM_CCELL, 0x7044:01 + n -/
abbrev armCcell (n : Nat) : Nat := 0x704401 + n
/-- ARM_EBAT_CELL, 0x7045:01 + n -/
abbrev armEbatCell (n : Nat) : Nat := 0x704501 + n
/-- REPORT_QUORUM, 0x7046:01 + n -/
abbrev reportQuorum (n : Nat) : Nat := 0x704601 + n
/-- ARM_OUT, 0x7047:01 + n -/
abbrev armOut (n : Nat) : Nat := 0x704701 + n
/-- NCO_MODE, 0x7050:01 + n -/
abbrev ncoMode (n : Nat) : Nat := 0x705001 + n
/-- NCO_F0, 0x7051:01 + n -/
abbrev ncoF0 (n : Nat) : Nat := 0x705101 + n
/-- NCO_FREQ_SRC, 0x7052:01 + n -/
abbrev ncoFreqSrc (n : Nat) : Nat := 0x705201 + n
/-- NCO_PHASE, 0x7053:01 + n -/
abbrev ncoPhase (n : Nat) : Nat := 0x705301 + n
/-- NCO_ANGLE, 0x7054:01 + n -/
abbrev ncoAngle (n : Nat) : Nat := 0x705401 + n
/-- NCO_STATUS, 0x7055:00 -/
abbrev ncoStatus : Nat := 0x705500
/-- INJ_CH, 0x7060:00 -/
abbrev injCh : Nat := 0x706000
/-- INJ_POINT, 0x7060:01 -/
abbrev injPoint : Nat := 0x706001
/-- INJ_SHAPE, 0x7060:02 -/
abbrev injShape : Nat := 0x706002
/-- INJ_AMP, 0x7060:03 -/
abbrev injAmp : Nat := 0x706003
/-- INJ_PERIOD, 0x7060:04 -/
abbrev injPeriod : Nat := 0x706004
/-- INJ_LEN, 0x7060:05 -/
abbrev injLen : Nat := 0x706005
/-- INJ_CMD, 0x7060:06 -/
abbrev injCmd : Nat := 0x706006
/-- INJ_STATE, 0x7060:07 -/
abbrev injState : Nat := 0x706007
/-- RESP_BUF, 0x7061:00 -/
abbrev respBuf : Nat := 0x706100
/-- RESP_DECIM, 0x7061:01 -/
abbrev respDecim : Nat := 0x706101
/-- RESP_COUNT, 0x7061:02 -/
abbrev respCount : Nat := 0x706102
/-- AIN_GAIN, 0x7800:01 + n -/
abbrev ainGain (n : Nat) : Nat := 0x780001 + n
/-- AIN_OFS, 0x7801:01 + n -/
abbrev ainOfs (n : Nat) : Nat := 0x780101 + n
/-- AIN_CONV, 0x7802:01 + n -/
abbrev ainConv (n : Nat) : Nat := 0x780201 + n
/-- AIN_PULL, 0x7803:01 + n -/
abbrev ainPull (n : Nat) : Nat := 0x780301 + n
/-- OW_LO, 0x7804:01 + n -/
abbrev owLo (n : Nat) : Nat := 0x780401 + n
/-- OW_HI, 0x7805:01 + n -/
abbrev owHi (n : Nat) : Nat := 0x780501 + n
/-- OW_COUNT, 0x7806:00 -/
abbrev owCount : Nat := 0x780600
/-- CONV_TABLE, 0x7807:01 + n -/
abbrev convTable (n : Nat) : Nat := 0x780701 + n
/-- INT_SCALE, 0x7808:01 + n -/
abbrev intScale (n : Nat) : Nat := 0x780801 + n
/-- SEQ_TRIG, 0x7810:01 + n -/
abbrev seqTrig (n : Nat) : Nat := 0x781001 + n
/-- SEQ_RANGE, 0x7811:01 + n -/
abbrev seqRange (n : Nat) : Nat := 0x781101 + n
/-- SEQ_DELAY, 0x7812:01 + n -/
abbrev seqDelay (n : Nat) : Nat := 0x781201 + n
/-- SEQ_PERIOD, 0x7813:01 + n -/
abbrev seqPeriod (n : Nat) : Nat := 0x781301 + n
/-- SEQ_TEVT, 0x7814:01 + n -/
abbrev seqTevt (n : Nat) : Nat := 0x781401 + n
/-- SEQ_CMD, 0x7815:01 + n -/
abbrev seqCmd (n : Nat) : Nat := 0x781501 + n
/-- SEQ_STATS, 0x7816:01 + n -/
abbrev seqStats (n : Nat) : Nat := 0x781601 + n
/-- SEQAB_TABLE, 0x7820:00 -/
abbrev seqabTable : Nat := 0x782000
/-- SEQC_TABLE, 0x7821:00 -/
abbrev seqcTable : Nat := 0x782100
/-- RES_AB, 0x7830:01 + n -/
abbrev resAb (n : Nat) : Nat := 0x783001 + n
/-- RES_C, 0x7831:01 + n -/
abbrev resC (n : Nat) : Nat := 0x783101 + n
/-- REF_EN, 0x7840:00 -/
abbrev refEn : Nat := 0x784000
/-- REF_READY, 0x7840:01 -/
abbrev refReady : Nat := 0x784001
/-- ADCC_MODE, 0x7841:00 -/
abbrev adccMode : Nat := 0x784100
/-- CAL_CMD, 0x7842:00 -/
abbrev calCmd : Nat := 0x784200
/-- CAL_STATE, 0x7842:01 -/
abbrev calState : Nat := 0x784201
/-- CAL_OFS, 0x7842:02 -/
abbrev calOfs : Nat := 0x784202
/-- CAL_FACTORY, 0x7842:03 -/
abbrev calFactory : Nat := 0x784203
/-- REP_VCAP, 0x7850:00 -/
abbrev repVcap : Nat := 0x785000
/-- REP_TEMP, 0x7850:01 + n -/
abbrev repTemp (n : Nat) : Nat := 0x785001 + n
/-- TEMP_AGE_MAX, 0x7850:05 -/
abbrev tempAgeMax : Nat := 0x785005
/-- OPEN_STATUS, 0x7860:00 -/
abbrev openStatus : Nat := 0x786000
/-- CAP_SIG, 0x8000:01 + n -/
abbrev capSig (n : Nat) : Nat := 0x800001 + n
/-- SAMPLE_SRC, 0x8001:01 + n -/
abbrev sampleSrc (n : Nat) : Nat := 0x800101 + n
/-- SAMPLE_ARG, 0x8002:01 + n -/
abbrev sampleArg (n : Nat) : Nat := 0x800201 + n
/-- AVG_N, 0x8003:01 + n -/
abbrev avgN (n : Nat) : Nat := 0x800301 + n
/-- CAP_FMT, 0x8004:01 + n -/
abbrev capFmt (n : Nat) : Nat := 0x800401 + n
/-- TRIG_SRC, 0x8005:01 + n -/
abbrev trigSrc (n : Nat) : Nat := 0x800501 + n
/-- TRIG_ARG, 0x8006:01 + n -/
abbrev trigArg (n : Nat) : Nat := 0x800601 + n
/-- TRIG_SIG, 0x8007:01 + n -/
abbrev trigSig (n : Nat) : Nat := 0x800701 + n
/-- TRIG_LEVEL, 0x8008:01 + n -/
abbrev trigLevel (n : Nat) : Nat := 0x800801 + n
/-- TRIG_HYST, 0x8009:01 + n -/
abbrev trigHyst (n : Nat) : Nat := 0x800901 + n
/-- TRIG_EDGE, 0x800A:01 + n -/
abbrev trigEdge (n : Nat) : Nat := 0x800A01 + n
/-- ARM_MODE, 0x800B:01 + n -/
abbrev armMode (n : Nat) : Nat := 0x800B01 + n
/-- HOLDOFF_MODE, 0x800C:01 + n -/
abbrev holdoffMode (n : Nat) : Nat := 0x800C01 + n
/-- HOLDOFF_T, 0x800D:01 + n -/
abbrev holdoffT (n : Nat) : Nat := 0x800D01 + n
/-- HOLDOFF_N, 0x800E:01 + n -/
abbrev holdoffN (n : Nat) : Nat := 0x800E01 + n
/-- PRE, 0x800F:01 + n -/
abbrev capPre (n : Nat) : Nat := 0x800F01 + n
/-- POST, 0x8010:01 + n -/
abbrev capPost (n : Nat) : Nat := 0x801001 + n
/-- STREAM_SEAT, 0x8011:01 + n -/
abbrev streamSeat (n : Nat) : Nat := 0x801101 + n
/-- STAGE_SIZE, 0x8012:01 + n -/
abbrev stageSize (n : Nat) : Nat := 0x801201 + n
/-- CAP_REMOTE, 0x8013:01 + n -/
abbrev capRemote (n : Nat) : Nat := 0x801301 + n
/-- CELL_BUDGET, 0x8014:00 -/
abbrev cellBudget : Nat := 0x801400
/-- CAP_CMD, 0x8020:01 + n -/
abbrev capCmd (n : Nat) : Nat := 0x802001 + n
/-- CAP_STATE, 0x8021:01 + n -/
abbrev capState (n : Nat) : Nat := 0x802101 + n
/-- CAP_STATS, 0x8022:01 + n -/
abbrev capStats (n : Nat) : Nat := 0x802201 + n
/-- PANTRY_SIZE, 0x8030:00 -/
abbrev pantrySize : Nat := 0x803000
/-- PANTRY_FREE, 0x8031:00 -/
abbrev pantryFree : Nat := 0x803100
/-- WIN_LIST, 0x8032:00 -/
abbrev winList : Nat := 0x803200
/-- WIN_SEL, 0x8033:00 -/
abbrev winSel : Nat := 0x803300
/-- WIN_OFFSET, 0x8033:01 -/
abbrev winOffset : Nat := 0x803301
/-- WIN_DATA, 0x8033:02 -/
abbrev winData : Nat := 0x803302
/-- WIN_RELEASE, 0x8033:03 -/
abbrev winRelease : Nat := 0x803303
/-- SL_CMD, 0x9000:00 -/
abbrev slCmd : Nat := 0x900000
/-- SL_STATE, 0x9000:01 -/
abbrev slState : Nat := 0x900001
/-- SL_CUES, 0x9001:00 -/
abbrev slCues : Nat := 0x900100
/-- SL_WDOG, 0x9002:00 -/
abbrev slWdog : Nat := 0x900200
/-- SL_STATS, 0x9003:00 -/
abbrev slStats : Nat := 0x900300
/-- SL_STATIONS, 0x9004:00 -/
abbrev slStations : Nat := 0x900400
/-- STN_LOST_CUES, 0x9005:00 -/
abbrev stnLostCues : Nat := 0x900500
/-- STN_STATUS, 0x9006:00 -/
abbrev stnStatus : Nat := 0x900600
/-- STN_INPUT, 0x9006:01 -/
abbrev stnInput : Nat := 0x900601
/-- STN_READMIT, 0x9006:02 -/
abbrev stnReadmit : Nat := 0x900602
/-- SL_LOAD, 0x9010:00 -/
abbrev slLoad : Nat := 0x901000
/-- SL_CHANGE, 0x9010:01 -/
abbrev slChange : Nat := 0x901001
/-- SL_CHG_STATE, 0x9010:02 -/
abbrev slChgState : Nat := 0x901002
/-- SL_CHG_INFO, 0x9010:03 -/
abbrev slChgInfo : Nat := 0x901003
/-- SL_PROG_INFO, 0x9010:04 -/
abbrev slProgInfo : Nat := 0x901004
/-- FORCE_TABLE, 0x9011:00 -/
abbrev forceTable : Nat := 0x901100
/-- M_SEL, 0x9012:00 -/
abbrev mSel : Nat := 0x901200
/-- M_VIEW, 0x9012:01 -/
abbrev mView : Nat := 0x901201
/-- MODE_CLASS, 0x9020:01 + n -/
abbrev modeClass (n : Nat) : Nat := 0x902001 + n
/-- MODE_PROFILE_H, 0x9021:01 + n -/
abbrev modeProfileH (n : Nat) : Nat := 0x902101 + n
/-- MODE_REQ, 0x9022:00 -/
abbrev modeReq : Nat := 0x902200
/-- MODE_LEAD, 0x9022:01 -/
abbrev modeLead : Nat := 0x902201
/-- MODE_STATUS, 0x9022:02 -/
abbrev modeStatus : Nat := 0x902202
/-- MODE_ACK_PEND, 0x9022:03 -/
abbrev modeAckPend : Nat := 0x902203
/-- MODE_ACK_APPL, 0x9022:04 -/
abbrev modeAckAppl : Nat := 0x902204
/-- MODE_LAG, 0x9022:05 -/
abbrev modeLag : Nat := 0x902205
/-- HEAD_MODE, 0x9023:00 -/
abbrev headMode : Nat := 0x902300
/-- CELL_MODE, 0x9080:00 -/
abbrev cellMode : Nat := 0x908000
/-- MODE_BOOT, 0x9080:01 -/
abbrev modeBoot : Nat := 0x908001
/-- MODE_PROFILE, 0x9081:01 + n -/
abbrev modeProfile (n : Nat) : Nat := 0x908101 + n
/-- STN_TIMEOUT, 0x9082:00 -/
abbrev stnTimeout : Nat := 0x908200
/-- STATION_AIN, 0x9082:01 -/
abbrev stationAin : Nat := 0x908201
/-- STN_STATE, 0x9082:02 -/
abbrev stnState : Nat := 0x908202
/-- SAFE_STATE, 0xA000:00 -/
abbrev safeState : Nat := 0xA00000
/-- SAFE_CMD, 0xA000:01 -/
abbrev safeCmd : Nat := 0xA00001
/-- SAFE_CRC, 0xA000:02 -/
abbrev safeCrc : Nat := 0xA00002
/-- SAFE_CRC_NOW, 0xA000:03 -/
abbrev safeCrcNow : Nat := 0xA00003
/-- SG_CFG, 0xA001:01 + n -/
abbrev sgCfg (n : Nat) : Nat := 0xA00101 + n
/-- PAIR_TYPE, 0xA002:01 + n -/
abbrev pairType (n : Nat) : Nat := 0xA00201 + n
/-- PAIR_GROUPS, 0xA003:01 + n -/
abbrev pairGroups (n : Nat) : Nat := 0xA00301 + n
/-- DISC_T, 0xA004:01 + n -/
abbrev discT (n : Nat) : Nat := 0xA00401 + n
/-- SI_FLT, 0xA005:01 + n -/
abbrev siFlt (n : Nat) : Nat := 0xA00501 + n
/-- SO_MODE, 0xA010:01 + n -/
abbrev soMode (n : Nat) : Nat := 0xA01001 + n
/-- SO_TP_WIDTH, 0xA011:01 + n -/
abbrev soTpWidth (n : Nat) : Nat := 0xA01101 + n
/-- SO_TP_PERIOD, 0xA012:01 + n -/
abbrev soTpPeriod (n : Nat) : Nat := 0xA01201 + n
/-- AOC_CFG, 0xA020:01 + n -/
abbrev aocCfg (n : Nat) : Nat := 0xA02001 + n
/-- COV_CFG, 0xA021:00 -/
abbrev covCfg : Nat := 0xA02100
/-- DIAG_GROUPS, 0xA030:00 -/
abbrev diagGroups : Nat := 0xA03000
/-- UNEXP_GROUPS, 0xA031:01 + n -/
abbrev unexpGroups (n : Nat) : Nat := 0xA03101 + n
/-- PEER_CURT, 0xA032:00 -/
abbrev peerCurt : Nat := 0xA03200
/-- PEER_GROUPS, 0xA032:01 -/
abbrev peerGroups : Nat := 0xA03201
/-- SCONN_CFG, 0xA040:01 + n -/
abbrev sconnCfg (n : Nat) : Nat := 0xA04001 + n
/-- SCELL_CFG, 0xA041:00 -/
abbrev scellCfg : Nat := 0xA04100
/-- SG_STATE, 0xA050:00 -/
abbrev sgState : Nat := 0xA05000
/-- PAIR_STATE, 0xA051:00 -/
abbrev pairState : Nat := 0xA05100
/-- SO_STATE, 0xA052:00 -/
abbrev soState : Nat := 0xA05200
/-- SCONN_STATUS, 0xA053:01 + n -/
abbrev sconnStatus (n : Nat) : Nat := 0xA05301 + n
/-- SAFE_STATS, 0xA054:00 -/
abbrev safeStats : Nat := 0xA05400
/-- SAFE_VLOG, 0xA055:00 -/
abbrev safeVlog : Nat := 0xA05500
/-- SAFE_TEST, 0xA060:00 -/
abbrev safeTest : Nat := 0xA06000
/-- TEST_RESULT, 0xA060:01 -/
abbrev testResult : Nat := 0xA06001
/-- SAFE_TESTLOG, 0xA061:00 -/
abbrev safeTestlog : Nat := 0xA06100
/-- FSTAT, 0xB000:00 -/
abbrev fstat : Nat := 0xB00000
/-- FACTIVE, 0xB000:01 -/
abbrev factive : Nat := 0xB00001
/-- FLATCHED, 0xB000:02 -/
abbrev flatched : Nat := 0xB00002
/-- FIRST_FAULT, 0xB001:00 -/
abbrev firstFault : Nat := 0xB00100
/-- FLT_CMD, 0xB001:01 -/
abbrev fltCmd : Nat := 0xB00101
/-- FLT_CLASS, 0xB002:01 + n -/
abbrev fltClass (n : Nat) : Nat := 0xB00201 + n
/-- FLT_QUIET, 0xB003:01 + n -/
abbrev fltQuiet (n : Nat) : Nat := 0xB00301 + n
/-- FLT_RLIM, 0xB004:01 + n -/
abbrev fltRlim (n : Nat) : Nat := 0xB00401 + n
/-- FLT_RCNT, 0xB005:01 + n -/
abbrev fltRcnt (n : Nat) : Nat := 0xB00501 + n
/-- FLT_BYP, 0xB006:01 + n -/
abbrev fltByp (n : Nat) : Nat := 0xB00601 + n
/-- FLT_FORGIVE, 0xB007:00 -/
abbrev fltForgive : Nat := 0xB00700
/-- FLT_ILOG, 0xB008:00 -/
abbrev fltIlog : Nat := 0xB00800
/-- T_DIE_WARN, 0xB009:00 -/
abbrev tDieWarn : Nat := 0xB00900
/-- FLT_SELF, 0xB00A:00 -/
abbrev fltSelf : Nat := 0xB00A00
/-- FENCE_MAP, 0xB010:00 -/
abbrev fenceMap : Nat := 0xB01000
/-- FENCE_INFO, 0xB010:01 -/
abbrev fenceInfo : Nat := 0xB01001
/-- FENCE_CMD, 0xB010:02 -/
abbrev fenceCmd : Nat := 0xB01002
/-- CELL_MISS_LIMIT, 0xB011:00 -/
abbrev cellMissLimit : Nat := 0xB01100
/-- CELL_UNAVAIL_LIMIT, 0xB011:01 -/
abbrev cellUnavailLimit : Nat := 0xB01101
/-- ARM_MIN_CELLS, 0xB012:01 + n -/
abbrev armMinCells (n : Nat) : Nat := 0xB01201 + n
/-- TAKEOVER_CMD, 0xB020:00 -/
abbrev takeoverCmd : Nat := 0xB02000
/-- LOSS_CUES, 0xB020:01 -/
abbrev lossCues : Nat := 0xB02001
/-- SNAP_AGE_MAX, 0xB020:02 -/
abbrev snapAgeMax : Nat := 0xB02002
/-- TAKEOVER_UNFIT, 0xB020:03 -/
abbrev takeoverUnfit : Nat := 0xB02003
/-- HEALTH, 0xB021:00 -/
abbrev health : Nat := 0xB02100
/-- TAKEOVER_LOG, 0xB022:00 -/
abbrev takeoverLog : Nat := 0xB02200
/-- IRQ_ROUTE, 0xC000:01 + n -/
abbrev irqRoute (n : Nat) : Nat := 0xC00001 + n
/-- IRQ_PRIO, 0xC001:01 + n -/
abbrev irqPrio (n : Nat) : Nat := 0xC00101 + n
/-- IRQ_COAL_N, 0xC002:01 + n -/
abbrev irqCoalN (n : Nat) : Nat := 0xC00201 + n
/-- IRQ_COAL_T, 0xC003:01 + n -/
abbrev irqCoalT (n : Nat) : Nat := 0xC00301 + n
/-- IRQ_HMODE, 0xC004:01 + n -/
abbrev irqHmode (n : Nat) : Nat := 0xC00401 + n
/-- IRQ_HOLDOFF_T, 0xC005:01 + n -/
abbrev irqHoldoffT (n : Nat) : Nat := 0xC00501 + n
/-- IRQ_DMODE, 0xC006:01 + n -/
abbrev irqDmode (n : Nat) : Nat := 0xC00601 + n
/-- IRQ_FLOW, 0xC007:01 + n -/
abbrev irqFlow (n : Nat) : Nat := 0xC00701 + n
/-- IRQ_ENABLE, 0xC008:01 + n -/
abbrev irqEnable (n : Nat) : Nat := 0xC00801 + n
/-- IRQ_PENDING, 0xC009:01 + n -/
abbrev irqPending (n : Nat) : Nat := 0xC00901 + n
/-- IRQ_FALLBACK, 0xC00A:01 + n -/
abbrev irqFallback (n : Nat) : Nat := 0xC00A01 + n
/-- IRQ_TSTAT, 0xC00B:00 -/
abbrev irqTstat : Nat := 0xC00B00
/-- IRQ_PHASE, 0xC00C:00 -/
abbrev irqPhase : Nat := 0xC00C00
/-- IRQ_GSTATS, 0xC00D:01 + n -/
abbrev irqGstats (n : Nat) : Nat := 0xC00D01 + n
/-- IRQ_CLAIM, 0xC010:00 -/
abbrev irqClaim : Nat := 0xC01000
/-- IRQ_EOI, 0xC010:01 -/
abbrev irqEoi : Nat := 0xC01001
/-- IRQ_RPRIO, 0xC010:02 -/
abbrev irqRprio : Nat := 0xC01002
/-- DSP_PUSH, 0xC020:00 -/
abbrev dspPush : Nat := 0xC02000
/-- DSP_PUSHST, 0xC020:01 -/
abbrev dspPushst : Nat := 0xC02001
/-- DSP_POP, 0xC020:02 -/
abbrev dspPop : Nat := 0xC02002
/-- DSP_DONE, 0xC020:03 -/
abbrev dspDone : Nat := 0xC02003
/-- DSP_CMD, 0xC020:04 -/
abbrev dspCmd : Nat := 0xC02004
/-- DSP_QSTAT, 0xC030:01 + n -/
abbrev dspQstat (n : Nat) : Nat := 0xC03001 + n
/-- DSP_DEPTH_WM, 0xC031:01 + n -/
abbrev dspDepthWm (n : Nat) : Nat := 0xC03101 + n
/-- DSP_WAIT_WM, 0xC032:01 + n -/
abbrev dspWaitWm (n : Nat) : Nat := 0xC03201 + n
/-- DSP_STORE, 0xC033:00 -/
abbrev dspStore : Nat := 0xC03300
/-- IRQ_VLOG, 0xC040:00 -/
abbrev irqVlog : Nat := 0xC04000
/-- IRQ_VLOG_CMD, 0xC040:01 -/
abbrev irqVlogCmd : Nat := 0xC04001
/-- VENDOR, 0x1000:01 -/
abbrev vendor : Nat := 0x100001
/-- PART, 0x1000:02 -/
abbrev partName : Nat := 0x100002
/-- ORDER_CODE, 0x1000:03 -/
abbrev orderCode : Nat := 0x100003
/-- SI_REV, 0x1000:04 -/
abbrev siRev : Nat := 0x100004
/-- UNIT_SERIAL, 0x1000:05 -/
abbrev unitSerial : Nat := 0x100005
/-- HW_TYPE, 0x1000:06 -/
abbrev hwType : Nat := 0x100006
/-- FW_VERSION, 0x1000:07 -/
abbrev fwVersion : Nat := 0x100007
/-- DICT_VERSION, 0x1000:08 -/
abbrev dictVersion : Nat := 0x100008
/-- PCI_VID, 0x1000:09 -/
abbrev pciVid : Nat := 0x100009
/-- PCI_SSVID, 0x1000:0A -/
abbrev pciSsvid : Nat := 0x10000A
/-- PCI_SSID, 0x1000:0B -/
abbrev pciSsid : Nat := 0x10000B
/-- MAC_ADDR, 0x1000:0C -/
abbrev macAddr : Nat := 0x10000C
/-- TOKEN_HOLDER, 0x1020:00 -/
abbrev tokenHolder : Nat := 0x102000
/-- TOKEN_CMD, 0x1020:01 -/
abbrev tokenCmd : Nat := 0x102001
/-- TOKEN_LEASE, 0x1020:02 -/
abbrev tokenLease : Nat := 0x102002
/-- TOKEN_FORCE, 0x1020:03 -/
abbrev tokenForce : Nat := 0x102003
/-- TOKEN_REQ, 0x1020:04 -/
abbrev tokenReq : Nat := 0x102004
/-- TOKEN_SESSION, 0x1020:05 -/
abbrev tokenSession : Nat := 0x102005
/-- STORE_CMD, 0x1030:00 -/
abbrev storeCmd : Nat := 0x103000
/-- STORE_STATE, 0x1030:01 -/
abbrev storeState : Nat := 0x103001
/-- STORE_GEN, 0x1030:02 -/
abbrev storeGen : Nat := 0x103002
/-- STORE_SLOT, 0x1030:03 -/
abbrev storeSlot : Nat := 0x103003
/-- IP_ADDR, 0x1040:01 -/
abbrev ipAddr : Nat := 0x104001
/-- IP_MASK, 0x1040:02 -/
abbrev ipMask : Nat := 0x104002
/-- IP_GW, 0x1040:03 -/
abbrev ipGw : Nat := 0x104003
/-- HOP_PORT, 0x1040:04 -/
abbrev hopPort : Nat := 0x104004
/-- HOP_TIMEOUT, 0x1040:05 -/
abbrev hopTimeout : Nat := 0x104005
/-- HOP_ALLOW, 0x1040:06 -/
abbrev hopAllow : Nat := 0x104006
/-- HOP_SESSIONS, 0x1040:07 -/
abbrev hopSessions : Nat := 0x104007
/-- NET_DROPPED, 0x1040:08 -/
abbrev netDropped : Nat := 0x104008
/-- QSPI_DUMMY, 0x1050:01 + n -/
abbrev qspiDummy (n : Nat) : Nat := 0x105001 + n
/-- CELL_OBJ_TIMEOUT, 0x1060:00 -/
abbrev cellObjTimeout : Nat := 0x106000
/-- SEAT_VLOG, 0x1070:00 -/
abbrev seatVlog : Nat := 0x107000
/-- SEAT_VCOUNT, 0x1070:01 -/
abbrev seatVcount : Nat := 0x107001
/-- SEAT_VLOG_CMD, 0x1070:02 -/
abbrev seatVlogCmd : Nat := 0x107002
/-- SCRUB_HOURS, 0xD000:01 -/
abbrev scrubHours : Nat := 0xD00001
/-- SCRUB_PROGRESS, 0xD000:02 -/
abbrev scrubProgress : Nat := 0xD00002
/-- MEM_CORR_COUNT, 0xD000:03 -/
abbrev memCorrCount : Nat := 0xD00003
/-- MEM_UNCORR_COUNT, 0xD000:04 -/
abbrev memUncorrCount : Nat := 0xD00004
/-- MEM_ERR_LOG, 0xD000:05 -/
abbrev memErrLog : Nat := 0xD00005
/-- MEM_INJ, 0xD000:06 -/
abbrev memInj : Nat := 0xD00006
/-- SLOT_INFO, 0xD010:00 -/
abbrev slotInfo : Nat := 0xD01000
/-- FLASH_ERR, 0xD010:01 -/
abbrev flashErr : Nat := 0xD01001
/-- UPD_STATE, 0xD020:00 -/
abbrev updState : Nat := 0xD02000
/-- UPD_CMD, 0xD020:01 -/
abbrev updCmd : Nat := 0xD02001
/-- UPD_TARGET, 0xD020:02 -/
abbrev updTarget : Nat := 0xD02002
/-- UPD_DATA, 0xD020:03 -/
abbrev updData : Nat := 0xD02003
/-- UPD_REASON, 0xD020:04 -/
abbrev updReason : Nat := 0xD02004
/-- UPD_PROGRESS, 0xD020:05 -/
abbrev updProgress : Nat := 0xD02005
/-- TRIAL_STARTS, 0xD020:06 -/
abbrev trialStarts : Nat := 0xD02006
/-- TRIAL_MAX, 0xD020:07 -/
abbrev trialMax : Nat := 0xD02007
/-- UPD_LOG, 0xD020:08 -/
abbrev updLog : Nat := 0xD02008
/-- PASS_CMD, 0xD021:00 -/
abbrev passCmd : Nat := 0xD02100
/-- PASS_RATE, 0xD021:01 -/
abbrev passRate : Nat := 0xD02101
/-- PASS_STATUS, 0xD021:02 -/
abbrev passStatus : Nat := 0xD02102
/-- PASS_RELAY, 0xD022:00 -/
abbrev passRelay : Nat := 0xD02200
/-- UPD_KEYS, 0xD030:01 + n -/
abbrev updKeys (n : Nat) : Nat := 0xD03001 + n
/-- MIG_REPORT, 0xD040:00 -/
abbrev migReport : Nat := 0xD04000
/-- PWR_STATE, 0xE000:00 -/
abbrev pwrState : Nat := 0xE00000
/-- PWR_CMD, 0xE000:01 -/
abbrev pwrCmd : Nat := 0xE00001
/-- STBY_IDLE, 0xE000:02 -/
abbrev stbyIdle : Nat := 0xE00002
/-- WAKE_POL, 0xE000:03 -/
abbrev wakePol : Nat := 0xE00003
/-- WAKE_TIMER, 0xE000:04 -/
abbrev wakeTimer : Nat := 0xE00004
/-- WAKE_CAUSE, 0xE000:05 -/
abbrev wakeCause : Nat := 0xE00005
/-- RESET_CAUSE, 0xE001:00 -/
abbrev resetCause : Nat := 0xE00100
/-- RESET_COUNT, 0xE001:01 -/
abbrev resetCount : Nat := 0xE00101
/-- AUX_EN, 0xE002:00 -/
abbrev auxEn : Nat := 0xE00200
/-- AUX_STATUS, 0xE002:01 -/
abbrev auxStatus : Nat := 0xE00201
/-- VIN_NOW, 0xE003:00 -/
abbrev vinNow : Nat := 0xE00300
/-- VIN_LO, 0xE003:01 -/
abbrev vinLo : Nat := 0xE00301
/-- VIN_HI, 0xE003:02 -/
abbrev vinHi : Nat := 0xE00302
/-- T_DIE, 0xE004:00 -/
abbrev tDie : Nat := 0xE00400
/-- T_DIE_MAX, 0xE004:01 -/
abbrev tDieMax : Nat := 0xE00401
/-- CLK_STATUS, 0xE005:00 -/
abbrev clkStatus : Nat := 0xE00500
/-- AON_CAL_PPM, 0xE005:01 -/
abbrev aonCalPpm : Nat := 0xE00501
/-- XTAL_CL, 0xE005:02 -/
abbrev xtalCl : Nat := 0xE00502

end Sys2Proof.Machine.Obj
end

