-- ==== Sys2Proof/Machine/RegReset.lean ====
section
/-! DEFINITION. Reset values of the raw registers that hold state of their own (Tables 03-13, 04-10, 07-12, 10-10,
14-13, 15-9, 16-14 and 16-15). Registers that mirror an object or show the machine's state hold nothing here. -/

namespace Sys2Proof.Machine

/-- Base addresses of the register blocks (Table 16-4). -/
abbrev Blk.id : Nat := 0x0000
abbrev Blk.obj : Nat := 0x1000
abbrev Blk.rng : Nat := 0x2000
abbrev Blk.xl : Nat := 0x3000
abbrev Blk.pwm : Nat := 0x4000
abbrev Blk.adc : Nat := 0x5000
abbrev Blk.flt : Nat := 0x6000
abbrev Blk.irq : Nat := 0x7000
abbrev Blk.dsp : Nat := 0x8000
abbrev Blk.capq : Nat := 0x9000
abbrev Blk.msix : Nat := 0x10000
abbrev Blk.pba : Nat := 0x18000

/-- The key of a register that exists once per path. -/
def pathReg (path addr : Nat) : Nat := 0x10000000 * (path + 1) + addr

/-- Reset value of a stored register. -/
def regReset (a : Nat) : Nat :=
  if 0x2000 ≤ a ∧ a < 0x2C00 then
    match (a - 0x2000) % 0x100 with
    | 0x00 => 0x01
    | 0x0C => 0x28
    | 0x10 => 0x10
    | 0x38 => 0x100
    | _ => 0
  else if 0x3000 ≤ a ∧ a < 0x3300 then
    match (a - 0x3000) % 0x100 with
    | 0x00 => 0x61
    | 0x0C => 0x28
    | 0x10 => 0x10
    | 0x14 => 0x10
    | 0x50 => 0x100
    | 0x90 => 0x100
    | _ => 0
  else if 0x10000 ≤ a ∧ a < 0x10200 then (if a % 16 = 12 then 1 else 0)
  else 0

end Sys2Proof.Machine
end

