-- ==== Sys2Proof/Machine/State.lean ====
section
/-! DEFINITION. Everything the spec gives the machine, as plain data. Configuration objects and plain counts stand in
the object stores (`objs`, `doms`) under the dictionary's keys, raw registers in `regs`; what the machine keeps beside
them stands in one structure per block. -/

namespace Sys2Proof.Machine

/-! ### What leaves the block -/

/-- One thing the block sends or answers, in the order it leaves. -/
inductive Emit where
  /-- An access answered with a code of Table 16-2. -/
  | answer (acc : Accessor) (key : Nat) (code : Nat)
  /-- Data returned by an object read: total object length and the bytes. -/
  | data (acc : Accessor) (key : Nat) (total : Nat) (bytes : Bytes)
  /-- A register word returned on a path. -/
  | word (path : Nat) (value : Nat)
  /-- A frame (header, payload and check) launched on a ring port. -/
  | ring (port : Nat) (frame : Bytes)
  /-- A report train of whole records launched on a ring port. -/
  | train (port : Nat) (records : List Bytes)
  /-- So many further /C/ have left a ring port, one in every 64 code-group slots (R94). -/
  | curtains (port : Nat) (n : Nat)
  /-- So many further CURTAIN sets have left a cross-link, one in every 64 code groups of each lane (R131). -/
  | xlSets (link : Nat) (mask : Nat) (n : Nat)
  /-- A control symbol or ordered set sent on a ring port, with its data bytes. -/
  | symbol (port : Nat) (name : Nat) (data : Bytes)
  /-- A frame placed on a cross-link lane. -/
  | xl (link : Nat) (lane : Nat) (frame : Bytes)
  /-- The frame in progress on a cross-link lane ended with /E/. -/
  | xlAbort (link : Nat) (lane : Nat)
  /-- A lane or link left silent (true) or given training (false). -/
  | xlTrain (link : Nat) (lane : Nat) (silent : Bool)
  /-- Code groups of a lane spoiled by the injector: mode and count; mode 5 is electrical idle for count × 10 µs (R143). -/
  | xlSpoil (link : Nat) (lane : Nat) (mode : Nat) (count : Nat)
  /-- /I/ sent on a lane at a frame boundary (R121). -/
  | xlIdle (link : Nat) (lane : Nat)
  /-- A CURTAIN set sent on a cross-link. -/
  | xlSet (link : Nat) (mask : Nat)
  /-- A /L/ symbol sent on a cross-link with the lane mask. -/
  | xlLanes (link : Nat) (mask : Nat)
  /-- An MSI-X message. -/
  | msi (vector : Nat)
  /-- A HOP frame to an IPv4 address and UDP port, on both network ports: the address it is handed to on the link and the sequence
  number of its PRP trailer (R450). -/
  | hop (ip : Nat) (port : Nat) (via : Nat) (rct : Nat) (frame : Bytes)
  /-- A safe-channel message of a connection on network port 1 (A) or 2 (B), without the PRP trailer, to UDP port SPORT of the
  peer's IPv4 address (R369). -/
  | safe (conn port ip sport : Nat) (message : Bytes)
  /-- A frame on one network port (1 A, 2 B): ARP, ICMP and PTP answers. -/
  | net (port : Nat) (kind : Nat) (frame : Bytes)
  /-- A PCI Express completion with Unsupported Request status. -/
  | unsupported
  /-- The completion of the words before it carries the EP bit (R469). -/
  | poisoned
  /-- A non-fatal Poisoned TLP Received reported through Advanced Error Reporting (R446). -/
  | aerPoisoned
  /-- A gate ball changes level at a TB0 instant (R188, R192). -/
  | edge (gate : Nat) (high : Bool) (at0 : Nat)
  /-- A 10 µs high pulse on PPS (R79). -/
  | pps
  deriving DecidableEq, Repr

/-! ### Power, role and start-up (Roles, rings and converter topology; Power, clocks, package and electrical data) -/

/-- The two roles (R1). -/
inductive Role where
  | head | cell
  deriving DecidableEq, Repr

/-- Power states of Table 18-3. -/
inductive PwrState where
  | off | start | run | standby | check
  deriving DecidableEq, Repr

/-- How far start-up has come (Tables 01-1 and 18-7). `waitRole` also covers the 1 ms repeats of R19. -/
inductive BootStage where
  | heldReset | waitRole | roleLatched | firmware | ready
  deriving DecidableEq, Repr

/-- Standing in effect, STANDING_NOW (Table 01-6). -/
inductive Standing where
  | waiting | active | understudy | conflict
  deriving DecidableEq, Repr

/-- Role selection, power state, reset bookkeeping and clocks. -/
structure PowerBlock where
  /-- Power state (R497). -/
  pwr : PwrState
  /-- Start-up stage (R18, R508). -/
  stage : BootStage
  /-- FAULT_HOLD (R392). -/
  faultHold : Bool
  /-- The part restarts into FAULT_HOLD at its next start (R392). -/
  holdNext : Bool
  /-- Role latched by R18; none before the first agreeing samples. -/
  role : Option Role
  /-- Whether the present start samples ROLE (R16: power-on and RST_N only). -/
  sampling : Bool
  /-- Samples of ROLE taken so far in this start, oldest first (Table 01-1). -/
  samples : List Bool
  /-- ROLE_UNSTABLE of the always-on status (R19). -/
  roleUnstable : Bool
  /-- TB2 of the latest reset, and its sources met in that SYS cycle so far give RESET_CAUSE (R505). -/
  resetAt : Nat
  /-- RESET_CAUSE (R505). -/
  resetCause : Nat
  /-- RESET_COUNT, codes 0x01 to 0x07 in order (always-on). -/
  resetCount : List Nat
  /-- WAKE_CAUSE of the last wake (R500). -/
  wakeCause : Nat
  /-- The present start is a wake start whose cause is reported at its end (R500). -/
  wakeStart : Bool
  /-- Thermal-limit reset held until 120 °C (R518). -/
  thermalHold : Bool
  /-- REF good (R503). -/
  refGood : Bool
  /-- PLL0 to PLL4 locked, bits 0 to 4 (CLK_STATUS). -/
  pll : Nat
  /-- AON trimmed (CLK_STATUS bit 7). -/
  aonTrimmed : Bool
  /-- Last measured AON error, ppm (R504). -/
  aonPpm : Int
  /-- AUX33 on (R495). -/
  auxOn : Bool
  /-- AUX33 in current limit (R495). -/
  auxLimit : Bool
  /-- TB2 at the start of the running STBY_IDLE count, none while a break holds (R498). -/
  idleSince : Option Nat
  /-- TB2 at standby entry (R497, R499). -/
  standbyAt : Nat
  /-- WAKE_POL as a wake by WAKE_TIMER found it, for an edge of the same AON cycle (Table 18-15); else 0. -/
  wakePol : Nat
  /-- VIN lies outside VIN_LO to VIN_HI (group 30 source 0, on entry). -/
  vinOut : Bool
  /-- Service cores halted by debug (R207). -/
  debugHalt : Bool
  /-- PWM clock present (R210). -/
  pwmClock : Bool
  /-- SM_TYPE in effect since the last reset (R35). -/
  smType : Nat
  /-- RING_MODE in effect since the last reset (Table 01-8). -/
  ringMode : Nat
  /-- Standing in effect (R37). -/
  standing : Standing
  /-- STANDING_CONFLICT (Table 01-6). -/
  standingConflict : Bool
  /-- PARTNER_ABSENT (Table 01-6). -/
  partnerAbsent : Bool
  /-- Service core whose watchdog made the present reset: source 15 is raised at the next start. -/
  wdogCore : Option Nat
  /-- The present start follows a fault-collector reset (SAFE_SEEN). -/
  safeSeen : Bool
  /-- IP_ADDR, IP_MASK and IP_GW in effect since the last reset (R450). -/
  ip : Nat
  ipMask : Nat
  ipGw : Nat
  /-- PCI_SSVID and PCI_SSID in effect since the last reset (R445), the SSVID in the low half. -/
  pciSs : Nat
  deriving DecidableEq, Repr

/-! ### Time (The CUE and the time bases) -/

/-- Time base states of Table 02-5. -/
inductive TbState where
  | unsync | acquire | locked | holdover | lost
  deriving DecidableEq, Repr

/-- SYNC states of Table 02-7. -/
inductive SyncState where
  | off | acquire | track | free
  deriving DecidableEq, Repr

/-- One queued edge entry (R81): TB0 to TB3 and the flag byte. -/
structure EdgeEntry where
  tb0 : Nat
  tb1 : Nat
  tb2 : Nat
  tb3 : Nat
  flags : Nat
  deriving DecidableEq, Repr

/-- The hidden state of one time event (R79, R80). -/
structure Tevt where
  /-- COMPARE had passed when the event was armed. -/
  late : Bool
  /-- A forward step of the time base passed COMPARE. -/
  stepped : Bool
  /-- It has fired at its present COMPARE (R80, last sentence). -/
  done : Bool
  deriving DecidableEq, Repr

/-- A PTP master heard on a network port (R71): the data-set comparison fields, most significant first. -/
structure PtpMaster where
  rank : List Nat
  utc : Int
  deriving DecidableEq, Repr

/-- The time bases and everything the CUE keeps. -/
structure TimeBlock where
  /-- TB0, 125 ps units (64 bits). -/
  tb0 : Nat
  /-- Rate trim of TB0, 0.001 ppm units (R67, R69). -/
  tb0Rate : Int
  /-- Fraction carried by TB0's rate accumulator. -/
  tb0Acc : Nat
  /-- TB0 state (R67). -/
  tb0State : TbState
  /-- ACQUIRE count (R67). -/
  acqCount : Nat
  /-- Holdover count (R67). -/
  holdCount : Nat
  /-- A valid time frame has arrived on the time port in the present CUE. -/
  frameSeen : Bool
  /-- A valid time frame has arrived in the present CUE on the other port (R65). -/
  otherSeen : Bool
  /-- Consecutive CUEs without a valid time frame on the time port. -/
  noFrame : Nat
  /-- The time port is the port away from the upstream port (R65). -/
  timeFar : Bool
  /-- A re-anchor has been accepted and waits for its frame (R68). -/
  reanchor : Bool
  /-- d_in samples per port since UP, ps × 2, newest first (R63). -/
  probes : Kv (List Int)
  /-- Last probe received per port (12 + l for cross-link l): its arrival stamp and its transmit stamp (Table 03-6). -/
  probeIn : Kv (Nat × Nat)
  /-- TB1, ns (64 bits). -/
  tb1 : Nat
  /-- TB1 state (R72). -/
  tb1State : TbState
  /-- Rate trim of TB1, 0.001 ppm units, and its accumulator (R72). -/
  tb1Rate : Int
  tb1Acc : Nat
  /-- TB2 of the last change of TB0's trim towards TB1 (R69). -/
  discAt : Nat
  acq1 : Nat

  /-- TB1_CMD re-anchor waits for the next Sync (R72). -/
  reanchor1 : Bool
  /-- Followed network port: 0 none, 1 A, 2 B (PTP_PORT). -/
  ptpPort : Nat
  /-- Masters heard on port A and port B. -/
  masterA : Option PtpMaster
  masterB : Option PtpMaster
  /-- TB2, ns (64 bits), and the 125 ps units below one ns. -/
  tb2 : Nat
  tb2Sub : Nat
  /-- TB3, 125 ps units (64 bits), its accumulator and a write that waits for the next PWM cycle (R75). -/
  tb3 : Nat
  tb3Acc : Nat
  tb3Step : Option Nat
  /-- TB2 at the last step of TB0, TB1 and TB3 (edge entries note a step in the same cycle, R81). -/
  stepAt : Option Nat
  /-- TB0 at the start of the current CUE. -/
  cueStart : Nat
  /-- Current CUE count (R47). -/
  cue : Nat
  /-- Length of the current CUE in ns (CUE_PERIOD_NOW). -/
  cueLen : Nat
  /-- HEAD: the computation of the present CUE has started; it has ended and its records are sent; TB2 of its start
  (R53, R166). -/
  compDone : Bool
  compSent : Bool
  compAt : Nat
  /-- HEAD: the period in force, before SYNC correction. -/
  period : Nat
  /-- HEAD: accepted period writes, each with the CUE it takes effect from (R49). -/
  periodNext : List (Nat × Nat)
  /-- CELL: the CUE mark held for the next CUE: count and TB0 start (R50). -/
  mark : Option (Nat × Nat)
  /-- CELL: a CUE mark has been taken since reset, so that the count is the HEAD's (R48, R51). -/
  cueKnown : Bool
  /-- CELL: the last announced length in ns (R51). -/
  markLen : Nat
  /-- SYNC state (R78), miss count, outstanding correction in ns, and whether the last expected boundary had an
  accepted edge. -/
  sync : SyncState
  syncMiss : Nat
  syncCorr : Int
  /-- The edge accepted in the present CUE corrects from the next one (R77). -/
  syncNew : Option Int
  /-- The last expected boundary: its TB0 instant and the length in ns of the CUE that ended there (R76). -/
  syncAt : Option (Nat × Nat)
  tevts : Kv Tevt
  /-- Edge queues of CAP0, CAP1, SYNC, oldest first (R81). -/
  edges0 : List EdgeEntry
  edges1 : List EdgeEntry
  edges2 : List EdgeEntry
  deriving DecidableEq, Repr

/-! ### Logs (R116 and the chapters that use its format) -/

/-- One 16-byte log entry (R116). -/
structure VEntry where
  tb2 : Nat
  port : Nat
  code : Nat
  src : Nat
  detail : Nat
  deriving DecidableEq, Repr

/-! ### Faults (Faults, degradation and the UNDERSTUDY) -/

/-- Source states of Table 14-3. -/
inductive FltState where
  | idle | active | quiet | latched
  deriving DecidableEq, Repr

/-- The first-fault record (R388). -/
structure FirstFault where
  src : Nat
  cls : Nat
  inst : Nat
  cue : Nat
  tb2 : Nat
  /-- Mask of every source that left IDLE in the same SYS cycle. -/
  co : Nat
  deriving DecidableEq, Repr

/-- A source as a quiet expiry or a clear found it, which an assertion in the same SYS cycle undoes (R391, Table 14-11): TB2 of
it, state, RCNT, recorded instances and the first-fault record before it. -/
structure FltUndo where
  at2 : Nat
  st : FltState
  rcnt : Nat
  insts : List Nat
  ff : Option FirstFault
  deriving DecidableEq, Repr

/-- One fault source. -/
structure FltSrc where
  st : FltState
  /-- Instances that assert the pin now, ascending; the pin is asserted while there is one (FACTIVE). -/
  on : List Nat
  /-- RCNT. -/
  rcnt : Nat
  /-- TB2 at which the quiet timer started. -/
  quietAt : Nat
  /-- TB2 of the last assertion or forgiveness (FLT_FORGIVE). -/
  lastAt : Nat
  /-- Instances recorded since the source last left IDLE (R387). -/
  insts : List Nat
  /-- What an assertion in the SYS cycle of its last quiet expiry or clear restores. -/
  undo : Option FltUndo
  deriving DecidableEq, Repr


/-- One FLT_ILOG entry. -/
structure ILogEntry where
  tb2 : Nat
  cue : Nat
  src : Nat
  what : Nat
  inst : Nat
  /-- The detection of an injected fault (R377). -/
  test : Bool
  deriving DecidableEq, Repr

/-- What the collector copies into the always-on domain before its reset (R389). -/
structure AonCopy where
  ff : Option FirstFault
  fstat : Nat
  rcnt : Kv Nat
  fence : Kv Nat
  byp : Kv Bool
  deriving DecidableEq, Repr

/-- A 64-byte entry of the fault and update log (Table 17-1): a part of a fault copy (R389), or a change of UPD_STATE with its
TB2, reason and campaign. -/
inductive LogEntry where
  | fault (copy : AonCopy) (part : Nat)
  | update (tb2 state reason campaign : Nat)
  deriving DecidableEq, Repr

/-- The fault collector. -/
structure FaultBlock where
  srcs : Kv FltSrc
  ff : Option FirstFault
  /-- FLT_ILOG, oldest first, at most 64. -/
  ilog : List ILogEntry
  /-- FENCE_INFO: fencing source per station slot, default 0xFF; FENCE_MAP holds the listed slots. -/
  fence : Kv Nat
  /-- Bypass-pending bits per station slot (R386). -/
  byp : Kv Bool
  /-- TB2 at which each fence was made: it takes effect at the first computation start after that cycle (R386). -/
  fenceAt : Kv Nat
  /-- A fault-collector reset is asserted and has not yet taken effect (R389). -/
  resetDue : Bool
  /-- SAFE sources that left IDLE since it was asserted (R392). -/
  causers : List Nat
  /-- FLT_SELF (kept through fault-collector resets). -/
  self : Nat
  /-- The always-on copy (R389). -/
  aon : Option AonCopy
  /-- Fault and update log of the LOG slot (R389, R472), oldest entry first: 30 sectors of 1,024 entries. -/
  logSlot : List LogEntry
  deriving DecidableEq, Repr

/-! ### Interrupts and dispatch -/

/-- One interrupt group (R418 to R424) with its statistics. -/
structure IrqGroup where
  /-- COUNT (R418). -/
  count : Nat
  /-- TB2 of the first event counted after the last claim. -/
  firstAt : Option Nat
  /-- TB2 of the last claim (R419). -/
  claimAt : Option Nat
  /-- Target delivered to, unclaimed. -/
  deliv : Option Nat
  /-- Target that holds the group in service. -/
  held : Option Nat
  /-- Claimed for a work item: does not count towards the running priority (R425). -/
  viaItem : Bool
  /-- A re-fire waits: the delivery test is met whatever COUNT gives (R423). -/
  refire : Nat
  /-- IRQ_GSTATS. -/
  deliveries : Nat
  claims : Nat
  refires : Nat
  holdWaits : Nat
  fallbacks : Nat
  withdrawals : Nat
  deriving DecidableEq, Repr

/-- The interrupt controller. -/
structure IrqBlock where
  /-- Pending, enable and in-service bits: source i of group g is bit 8g + i (R410). -/
  pend : Nat
  en : Nat
  insv : Nat
  groups : Kv IrqGroup
  /-- The value each accessor's last raw read returned: key 16 × target + register (R412). -/
  seen : Kv Nat
  /-- Targets asleep by their own condition, bits 0 to 6 (R416; bit 7 is computed from the sessions). -/
  asleep : Nat
  /-- START phase of IRQ_PHASE (R419). -/
  startPhase : Bool
  /-- TB2 at which SAFE_STATE first entered RUN. -/
  safeRunAt : Option Nat
  /-- CUE of the last takeover (RECOVERY phase). -/
  takeoverCue : Option Nat
  /-- MSI-X pending bit array. -/
  pba : Nat
  vlog : List VEntry
  /-- Violation counts by code. -/
  vcount : Kv Nat
  deriving DecidableEq, Repr

/-- A work item (Table 15-4) with the TB2 at which it became ready and its release time while it is delayed. -/
structure WorkItem where
  flow : Nat
  kind : Nat
  flags : Nat
  tag : Nat
  a : Nat
  b : Nat
  readyAt : Nat
  /-- The word of working memory that its pool entry is (R426): the spec does not say which. -/
  word : Nat
  deriving DecidableEq, Repr

/-- One flow: ready items in order and the item in service. -/
structure DspFlow where
  items : List WorkItem
  busy : Option WorkItem
  deriving DecidableEq, Repr

/-- An operand waiting in the matching store (R430). -/
structure DspOperand where
  flow : Nat
  tag : Nat
  slot : Nat
  value : Nat
  deriving DecidableEq, Repr

/-- A delayed item: release time, whether its time had passed at the push, and the item (R431). -/
structure DelayedItem where
  time : Nat
  /-- The time had already passed at the push, or a forward step of the time base passed it. -/
  late : Bool
  stepped : Bool
  item : WorkItem
  deriving DecidableEq, Repr

/-- Statistics of one queue (R432). -/
structure DspQueue where
  maxDepth : Nat
  lastWait : Nat
  maxWait : Nat
  /-- Flow after the one served last, where the round robin starts (R428). -/
  nextFlow : Nat
  /-- Busy time, ns, in the present ms of TB2, the ms it belongs to, and LOAD of the last whole ms. -/
  busyNs : Nat
  msIndex : Nat
  busyFrom : Option Nat
  load : Nat
  deriving DecidableEq, Repr

/-- The dispatcher. -/
structure DspBlock where
  flows : Kv DspFlow
  ops : List DspOperand
  maxOps : Nat
  purged : Nat
  lists : Kv (List DelayedItem)
  maxList : Kv Nat
  queues : Kv DspQueue
  /-- The microsecond of TB2 of the last tick of the delay lists (R431). -/
  lastTick : Nat
  /-- DSP_PUSHST and DSP_POPD1 to DSP_POPD3 per path: key 4 × target + word. -/
  path : Kv Nat
  deriving DecidableEq, Repr

/-! ### Seats, HOP and the token -/

/-- One HOP session (R452 to R454). -/
structure HopSession where
  ip : Nat
  port : Nat
  /-- SEQ of the last executed request. -/
  a : Nat
  /-- A request is executing (a cell access is open). -/
  busy : Bool
  /-- Copies of the executing request that wait for its answer (R453). -/
  copies : Nat
  /-- The stored response of `a`. -/
  resp : Bytes
  /-- Subscribed groups and streams. -/
  groups : Nat
  streams : Nat
  /-- TB2 of the last valid request. -/
  seenAt : Nat
  /-- SEQ of the next NOTIFY or STREAM frame. -/
  txSeq : Nat
  deriving DecidableEq, Repr

/-- A copy buffer (R442): object, content, TB2 of the copy. -/
structure CopyBuf where
  key : Nat
  data : Bytes
  at2 : Nat
  deriving DecidableEq, Repr

/-- An open cell request of the HEAD (R458, R459). -/
structure CellReq where
  id : Nat
  caddr : Nat
  write : Bool
  key : Nat
  acc : Accessor
  /-- CUE in which it was sent. -/
  cue : Nat
  /-- HOP request it answers: access block head and SEQ. -/
  head : Bytes
  seq : Nat
  deriving DecidableEq, Repr

/-- Seats, transports, the token and the store job. -/
structure SeatBlock where
  /-- Seat that holds the token (TOKEN_HOLDER), none when FREE. -/
  holder : Option Nat
  /-- TOKEN_SESSION when Seat 3 holds it, else 0. -/
  session : Nat
  /-- REQ bits of Seats 0 to 2 (bit 3 is derived from `reqSess`). -/
  req : Nat
  /-- Sessions of Seat 3 recorded as requesting (R524). -/
  reqSess : List Nat
  /-- TB2 at which the lease last started. -/
  leaseAt : Nat
  sessions : Kv HopSession
  copies : Kv CopyBuf
  cellReqs : List CellReq
  nextReq : Nat
  /-- Cell requests that timed out last, oldest first, at most 64 (R459: a late response is logged). -/
  late : List CellReq
  /-- QSPI: a violation logged for Seats 1 and 2 since the last STATUS, bits 1 and 2. -/
  viol : Nat
  vlog : List VEntry
  vcount : Kv Nat
  /-- Mailbox BUSY and DONE, OVER, RLEN, ACODE, TOTAL per path: key 8 × path + word. -/
  mbox : Kv Nat
  /-- The store job of R460: the copied objects and block objects. -/
  store : Option (List (Nat × Nat) × List (Nat × Bytes))
  /-- Seat 0 function: PERST_N high (R446, R509). -/
  perst : Bool
  /-- Station network ports whose link is up: bit 0 port A, bit 1 port B. -/
  netUp : Nat
  /-- Sequence number of the next PRP trailer; the trailers received of late: sender, sequence number, LAN and TB2 (R450). -/
  prpSeq : Nat
  prpSeen : List (Nat × Nat × Nat × Nat)
  deriving DecidableEq, Repr

/-! ### Cell rings -/

/-- Port states of Table 03-3. -/
inductive PortState where
  | off | detect | offer | train | up | test
  deriving DecidableEq, Repr

/-- Something that waits for a port's transmitter to become free (R108): its rank in Table 03-9, the instant it was ready
in 12.5 ps units of TB2, its code groups, and whether the node originates it. -/
structure TxItem where
  rank : Nat
  at12 : Nat
  n : Nat
  own : Bool
  what : Emit
  deriving DecidableEq, Repr

/-- The pattern generator and checker of one lane (R117): shift registers of the generator and of the checker, the
checker's run of error-free bits while it is out of lock, positions of the newest errors since lock, bits checked in the
present unit of 1,024, locked. -/
structure PatRec where
  gen : Nat
  chk : Nat
  run : Nat
  pos : Nat
  errs : List Nat
  bits : Nat
  lock : Bool
  deriving DecidableEq, Repr

/-- One ring port: bring-up, sequence numbers, transmitter and injector. -/
structure PortRec where
  st : PortState
  /-- Lane silence in progress: 0 none, 1 the 100 µs after a link down, 2 the 10 ms after a failed training. -/
  silent : Nat
  /-- Signal present and comma alignment held (RNG_STAT). -/
  sig : Bool
  align : Bool
  /-- The last offer received and how many identical ones in a row. -/
  offer : Bytes
  offers : Nat
  /-- Accepts received from the neighbour, and the neighbour's role byte. -/
  accepts : Nat
  nbr : Nat
  /-- Agreed or current RATE code; TRAIN has switched to it. -/
  rate : Nat
  training : Bool
  /-- RATE_MAX latched at the present bring-up (Table 03-12). -/
  rateMax : Nat
  /-- RATE_CAP held: a CELL's as set by its last RATE_CAP frame, a HEAD's as it last sent on the ring (R86, R89). -/
  rateCap : Nat
  /-- Next SEQ per TYPE originated, and previous SEQ + 1 per TYPE and source tracked (R99). -/
  txSeq : Kv Nat
  rxSeq : Kv Nat
  /-- End of the transmission under way, in 12.5 ps units of TB2, and what waits for it (R108). -/
  busy : Nat
  txq : List TxItem
  /-- Background frames that wait, oldest first (Table 03-9, ranks 5 to 7). -/
  bg : List TxItem
  /-- CUE whose background window is open, and the instant of its opening in 12.5 ps units of TB2 (R109). -/
  bgCue : Option Nat
  bgAt : Nat
  /-- TB2 and CUE of the last /C/ sent and received (R95, R96). -/
  sentC : Option Nat
  gotC : Option Nat
  /-- Injection in progress: MODE, repetitions left, CUE of the last one in modes 3 to 5 (R119). -/
  injMode : Nat
  injLeft : Nat
  injCue : Option Nat
  /-- A BREAK has been sent for this port and no HEAL since (R112). -/
  broke : Bool
  deriving DecidableEq, Repr

/-- How the HEAD sees one cell: not numbered, numbered and unadmitted, admitted, NEW_SERIAL, wrong type (R33, R43). -/
inductive CellSt where
  | none | unadmitted | admitted | newSerial | wrongType
  deriving DecidableEq, Repr

/-- Measured fields of a report (Table 03-7). -/
structure RepRec where
  caddr : Nat
  shseq : Nat
  cue : Nat
  rstat : Nat
  vcap : Nat
  vbat : Nat
  ibat : Nat
  soc : Nat
  temp : Nat
  swcnt : Nat
  toff : Nat
  fltsrc : Nat
  deriving DecidableEq, Repr

/-- What the HEAD keeps of one station slot 96 × p + h − 1. -/
structure CellRec where
  st : CellSt
  /-- Factory serial and SM_TYPE read at the last enumeration. -/
  serial : Nat
  smType : Nat
  /-- Lost its admission by its own reset; regains it on TB0 LOCKED (R523). -/
  waitLock : Bool
  /-- TB0_STATE as last reported, at an enumeration or by a read (R67). -/
  tb0Seen : Nat
  /-- The last report received. -/
  last : Option RepRec
  /-- The report of the CUE being collected has arrived (R54). -/
  have_ : Bool
  /-- Consecutive missing reports and consecutive unavailable reports (sources 45 and 47). -/
  missRun : Nat
  unavRun : Nat
  deriving DecidableEq, Repr

/-- How the ends of a ring serve its hops in one computation (R110, R113, R140): the split, the break with its bounds, the
other end reachable, every hop from the near end. -/
structure ServePlan where
  split : Nat
  lo : Nat
  hi : Nat
  broken : Bool
  far : Bool
  near : Bool
  deriving DecidableEq, Repr

/-- What the HEAD keeps of one ring, named by its port. -/
structure RingRec where
  enumerated : Bool
  admitted : Bool
  /-- Passed the admission tests; admitted at the next computation start (R29). -/
  admitNext : Bool
  /-- RING_FOUND at admission (R32). -/
  foundAdm : Nat
  /-- Arm at admission, 1 or 2. -/
  arm : Nat
  /-- Count carried back by the forward frame of the enumeration in progress (R40, R44). -/
  fwdCount : Option Nat
  /-- The ring was broken at its enumeration (R44). -/
  broken : Bool
  /-- BREAK_LO and BREAK_HI (R112), and whether each was set by a notice of its own side. -/
  breakLo : Nat
  breakHi : Nat
  loOwn : Bool
  hiOwn : Bool
  /-- The failed port that the BREAK notice of the bound's own cell named, 1 WEST or 2 EAST, 0 without such a notice (R112,
  R114). -/
  loPort : Nat
  hiPort : Nat
  /-- The forward and the reverse count of the last enumeration agree, so that no cell fails the check h + g = N + 1 (R40). -/
  checkOk : Bool
  /-- Consecutive CUEs counted towards HEAL_HOLD, none without a HEAL (R114). -/
  heal : Option Nat
  /-- The service of the ring as the last computation start found it (R110, R113). -/
  plan : ServePlan
  slow : Bool
  hopSlow : Bool
  /-- Operating rate, none before it is reached, and the RATE_CAP last sent (R89). -/
  opRate : Option Nat
  cap : Nat
  /-- A removal by ENUM_CMD 0x03 is under way: it ends when every cell of the ring shows BYP (R30). -/
  removing : Bool
  /-- Ring-count note (R523, RING_EXPECT) and SINGLE_PATH_SHORT (R60). -/
  countNote : Bool
  shortNote : Bool
  /-- An ENUM frame is due in the background window of the next CUE (R523); an enumeration is under way. -/
  enumDue : Bool
  enumBusy : Bool
  /-- The HEAD holds the CURTAIN raised on the ring (R94), its relay side too. -/
  curtain : Bool
  deriving DecidableEq, Repr

/-- What a CELL keeps of its ring. -/
structure NodeRec where
  /-- HOP 0: not numbered (R523). CADDR, PORT_ORIENT. -/
  caddr : Nat
  orient : Nat
  /-- The check h + g = N + 1 of the last reverse count holds (R40). -/
  checked : Bool
  /-- Admitted, as the HEAD's sheets show it: a SHEET frame has held a record of this cell since numbering (R45); a sheet of
  the present CUE has shown that it is admitted no longer; one has held a record for it. -/
  admitted : Bool
  gone : Bool
  covered : Bool
  /-- A frame other than ENUM, RATE_CAP and LINK has come since the last RATE_CAP: the ring runs at its operating rate
  (R89). -/
  opRate : Bool
  /-- Port on which the last SHEET frame with this cell's record arrived, and the last TIME frame port. -/
  servedBy : Nat
  /-- The cell's index i in that SHEET frame (R103). -/
  index : Nat
  /-- CURTAIN held (R95), the internal CURTAIN line, the lift CUE. -/
  curtain : Bool
  lift : Option Nat
  /-- Report record assembled for this CUE and not yet launched; report train held or passed in this CUE. -/
  report : Option Bytes
  trainSeen : Bool
  sentOwn : Bool
  /-- Records of a passing train held until the launch instant (R104). -/
  held : List Bytes
  /-- The port the present report leaves by, decided at its launch (R111). -/
  repPort : Nat
  deriving DecidableEq, Repr

/-- The ring ports, the rings and their log. -/
structure RingBlock where
  ports : Kv PortRec
  rings : Kv RingRec
  cells : Kv CellRec
  node : NodeRec
  vlog : List VEntry
  /-- Lane test per lane: ring port p at p, lane n of cross-link l at 12 + 2 l + n (R117, R143). -/
  pats : Kv PatRec
  deriving DecidableEq, Repr

/-! ### Cross-links -/

/-- A frame that waits for a lane of a cross-link (R126, Table 04-5): rank, the instant it was ready in 12.5 ps units of
TB2, whether it keeps to lane 0 (R127), whether it may begin ahead of that instant (R134), TYPE, CHAN and payload. -/
structure XlItem where
  rank : Nat
  at12 : Nat
  low : Bool
  lead : Bool
  /-- The one lane it must leave on, if any (R369). -/
  only : Option Nat
  ty : Nat
  chan : Nat
  pl : Bytes
  deriving DecidableEq, Repr

/-- The transmitter of one lane: end of the frame under way in 12.5 ps units of TB2, that frame, and code groups sent
since the last /I/ (R121). -/
structure LaneTx where
  busy : Nat
  cur : Option XlItem
  run : Nat
  deriving DecidableEq, Repr

/-- Link states of Table 04-1. -/
inductive XlState where
  | off | clock | align | hello | up2 | up1 | test
  deriving DecidableEq, Repr

/-- One cross-link. -/
structure XlLink where
  st : XlState
  /-- Lane silence in progress: 0 none, 1 the 1 ms after failed alignment, 2 the 100 µs after a link down; TB2 of its
  start. -/
  silent : Nat
  silentAt : Nat
  /-- Forwarded clock present. -/
  clk : Bool
  /-- Transmit mask and receive good-lane mask. -/
  tx : Nat
  rx : Nat
  /-- Failed alignments of each lane in this bring-up, 0 to 2 (Table 04-1). -/
  failA : Nat
  failB : Nat
  /-- HELLO frames received since HELLO state was entered, and the lane mask of the partner's last /L/. -/
  hellos : Nat
  lmask : Option Nat
  /-- A transmit mask that takes effect at the next CUE start (R141). -/
  txNext : Option Nat
  /-- CUEs counted towards REJOIN_HOLD on a lost lane, per lane (R141). -/
  rejoinA : Option Nat
  rejoinB : Option Nat
  /-- A lane has rejoined the receive mask that the partner uses from the next CUE start on (R141). -/
  rxWait : Bool
  /-- Partner's HELLO: XL_PEER and XL_PEER_SERIAL; heard in this bring-up. -/
  peer : Nat
  serial : Nat
  heard : Bool
  /-- PAIR_WIRING found: kept in HELLO (Table 04-8). -/
  wiring : Bool
  /-- Lane locked (XL_LSTAT), and the last 64 words K28.5 (COMMA_OK), per lane. -/
  lock : Nat
  comma : Nat
  /-- XSEQ of the next frame sent, and of the frame expected (+ 1; 0 none yet). -/
  xseqTx : Nat
  xseqRx : Nat
  /-- TB2 of the last CURTAIN set received, and its mask (R132); TB2 of the last one sent while one stands (R131). -/
  curtAt : Option Nat
  curtMask : Nat
  setAt : Option Nat
  /-- The eye of each lane as its last alignment procedure found it: per delay tap the 20-bit windows that differed, and the
  SLIP values at which the last 64 words are K28.5 (R123). -/
  eyeA : List Nat × Nat
  eyeB : List Nat × Nat
  /-- Injection per lane: MODE, repetitions left, CUE of the last one (R143). -/
  injA : Nat × Nat × Option Nat
  injB : Nat × Nat × Option Nat
  /-- The lanes' transmitters, and the frames that wait. -/
  laneA : LaneTx
  laneB : LaneTx
  txq : List XlItem
  deriving DecidableEq, Repr

/-- A peer's last values (R128, Table 04-4). -/
structure PeerRec where
  cue : Nat
  flags : Nat
  a : List Nat
  b : List Nat
  /-- TB0 of the frame's completion, and consecutive CUEs without a frame since link-up (source 54). -/
  at0 : Nat
  missing : Nat
  /-- Arrived since the last computation start. -/
  fresh : Bool
  /-- CUE counts of the last frames taken and forwarded (R39), newest first. -/
  taken : List Nat
  fwd : List Nat
  deriving DecidableEq, Repr

/-- The cross-links. -/
structure XlBlock where
  links : Kv XlLink
  /-- Newest peer values per PAIR_ID. -/
  peers : Kv PeerRec
  vlog : List VEntry
  deriving DecidableEq, Repr

/-! ### The pair: snapshots, health, takeover -/

/-- A snapshot or slice being received. -/
structure SnapIn where
  cue : Nat
  len : Nat
  count : Nat
  crc : Nat
  /-- Fragment index and data, ascending. -/
  parts : List (Nat × Bytes)
  deriving DecidableEq, Repr

/-- What both HEADs of a pair keep for takeover. -/
structure PairBlock where
  /-- Active HEAD: variable-part records that wait (R394, R395), oldest first. -/
  mirror : List Bytes
  /-- Active HEAD: M lines queued at write points (line, its 64 bytes, and on the last line of a cycle that cycle), and
  marked lines of the running cycle (R395). -/
  mlines : List (Nat × Bytes × Option Nat)
  marked : List Nat
  /-- Sequence cycle count of the M lines queued last, and of the synced M. -/
  mCycle : Nat
  /-- Active HEAD: slow slice sent next, and the width it was started with. -/
  slice : Nat
  wide : Bool
  /-- Active HEAD: a handover has been requested; the FINAL snapshot sent for this CUE (R403). -/
  handover : Bool
  finalCue : Option Nat
  /-- Active HEAD: the UNDERSTUDY's DCRC differs (R398). -/
  dcrcDiff : Bool
  /-- Active HEAD: partner's last HEALTH report, CUEs without one. -/
  health : Bytes
  healthMiss : Nat
  /-- This HEAD's ring ports are the far ends of the numbering (R401): the ends are exchanged. -/
  tookOver : Bool
  /-- ACTIVE after a takeover and the split not yet restored; CUEs in which the partner has been fit to restore it (R401). -/
  alone : Bool
  restore : Nat
  /-- UNDERSTUDY: fast snapshots being received, oldest first, newest complete one and its CUE, CUE of the last one
  counted as late (R137). -/
  fastIn : List SnapIn
  lateCue : Option Nat
  fast : Option Bytes
  fastCue : Nat
  /-- UNDERSTUDY: slices of the present roll, complete roll, CUE of its last slice. -/
  slowIn : Option SnapIn
  slowParts : List (Nat × Bytes)
  slow : Option Bytes
  slowCue : Nat
  /-- UNDERSTUDY: M lines received of a cycle not yet whole; M synced since pair-up and its cycle. -/
  mHeld : List (Nat × Bytes)
  mSynced : Bool
  /-- UNDERSTUDY: no fast snapshot lost since M was last whole: until every line has come again the lines held wait (R395). -/
  mWhole : Bool
  mSyncCycle : Nat
  /-- UNDERSTUDY: a HEALTH frame has left in this CUE (R398). -/
  healthSent : Bool
  /-- UNDERSTUDY: a SNAP_FAST fragment arrived in this CUE; a near-end SHEET frame for the next CUE arrived in this
  CUE (R399). -/
  fragSeen : Bool
  sheetSeen : Bool
  lossRun : Nat
  /-- A refused takeover has been reported for this loss. -/
  lossTold : Bool
  /-- UNDERSTUDY: number of the next test, tests passed, number of the last failed one, tests failed in their last
  run (R397). -/
  test : Nat
  tests : Nat
  lastFail : Nat
  testBad : List Nat
  /-- UNDERSTUDY: DCRC differs flag of the last snapshot (REASONS bit 5). -/
  diffSeen : Bool
  deriving DecidableEq, Repr

/-! ### Cell switching and PWM -/

/-- A CUE SHEET record as the cell holds it (Table 05-5): its CUE, the used slots as STATE and OFFSET, and RCTL. -/
structure SheetRec where
  cue : Nat
  evs : List (Nat × Nat)
  share : Nat
  fire : Bool
  psv : Bool
  /-- The port its SHEET frame came by, and its index i there (R103, R111). -/
  port : Nat
  idx : Nat
  deriving DecidableEq, Repr

/-- Stages of a bypass sequence (R211 to R213). -/
inductive BypSt where
  | idle | delay | pulse | confirm | cut | done
  deriving DecidableEq, Repr

/-- Gates, carrier, trips, bypass and coasting. -/
structure PwmBlock where
  /-- Record held for the next CUE, and the record of the present CUE (R187). -/
  next : Option SheetRec
  cur : Option SheetRec
  /-- The record executed in the present CUE (R190). -/
  done : Option SheetRec
  /-- Events of the present record not yet applied: STATE and TB0 instant. -/
  todo : List (Nat × Nat)
  /-- Events carried to the next CUE start (R189). -/
  carried : List Nat
  /-- Bridge state (Table 05-6 code), and the lost mark (R191). -/
  bridge : Nat
  lost : Bool
  /-- ZERO stands on the upper pair; the pair of the last entry from POS or NEG (R194). -/
  upper : Bool
  lastUpper : Option Bool
  /-- Ball levels G0 to G7, pending rises (gate, TB0 instant), TB0 of the last fall per gate (0 none). -/
  level : Nat
  rises : List (Nat × Nat)
  falls : Kv Nat
  /-- Dead times, ZERO_MODE and EDGE_TRIM in effect since the last CUE start (R194, R196, R197). -/
  dtBr : Nat
  dtBat : Nat
  zeroMode : Nat
  trims : List Nat
  /-- SHSEQ, MISS of the present CUE, a record of the present and of the next CUE discarded by R57. -/
  shseq : Nat
  miss : Bool
  late : Bool
  lateNext : Bool
  /-- Miss count and coasting state (R214, R215): 0 RUN, 1 HOLD, 2 QUIET, 3 CURTAIN. -/
  m : Nat
  coast : Nat
  /-- Outputs held safe, as a mask of G0 to G7: released at a CUE start only (R209). -/
  held : Nat
  /-- Unadmitted, or not yet past its first executed record since (Table 07-5, last row). -/
  notAdm : Bool
  /-- Safe pulse block (Safety functions). -/
  pulseBlock : Bool
  /-- Battery carrier: shadows, active values, pending flags, HOLD, commit cycles (TB2 / 2 ns) of PER, DUTY and of the
  last clear of HOLD, what the preceding boundary transferred (1 PER only, 2 DUTY only), running. -/
  shPer : Nat
  shDuty : Nat
  per : Nat
  duty : Nat
  pendPer : Bool
  pendDuty : Bool
  hold : Bool
  perAt : Nat
  dutyAt : Nat
  clearAt : Nat
  lastX : Nat
  /-- PWM cycle (TB2 / 2 ns) of the last period boundary, and whether LATE has been set at it (Table 07-2). -/
  boundAt : Option Nat
  boundLate : Bool
  carRun : Bool
  /-- TB0 of the carrier's last boundary (valley) while it runs, and G4 edges done since. -/
  carAt : Option Nat
  carEdges : Nat
  /-- Consecutive samples of TRIP0 to TRIP5 against the filtered level, filtered active levels, latched trips (R204 to
  R206). -/
  tripCnt : List Nat
  tripLvl : Nat
  tripLatch : Nat
  /-- Bypass sequence: stage, pulses that count, TB2 of its start and of the last rise of G6; BYP; BYP_CMD waits. -/
  bypSt : BypSt
  pulses : Nat
  bypAt : Nat
  riseAt : Nat
  byp : Bool
  bypCmd : Bool
  /-- CUE of the record that started the sequence, none where a trip or BYP_CMD did. -/
  bypCue : Option Nat
  /-- A tap update that waits for a PWM cycle without a near edge; consecutive calibrations outside the trim range, COARSE
  (R198). -/
  calPend : Option Nat
  calBad : Nat
  coarse : Bool
  /-- SWCNT: transitions of the bridge outputs since manufacture, kept over every reset (R175). -/
  swcnt : Nat
  deriving DecidableEq, Repr

/-! ### Battery interface -/

/-- Battery stage states (Table 08-1). -/
inductive BatSt where
  | off | ready | run | fault
  deriving DecidableEq, Repr

/-- The battery stage. Quantities are exact: the spec states no arithmetic width for them. -/
structure BatBlock where
  st : BatSt
  /-- A record with PSV 1 has been executed since READY was last entered (R219). -/
  psv : Bool
  /-- Share target and setpoint, in units of rated power (R224). -/
  sT : Rat
  sP : Rat
  /-- The share target before the record in progress, to which a cut record returns it (R224). -/
  sBack : Option Rat
  /-- Newest battery sample: V, A, V, and its TB0 stamp (R229). -/
  vbat : Rat
  ibat : Rat
  vcap : Rat
  sampleAt : Option Nat
  /-- Sum and number of the IBAT samples whose instants lie in the present CUE (R232). -/
  sumNow : Rat
  numNow : Nat
  /-- Report fields latched at the CUE start: VBAT, IBAT, SOC raw and STALE (R232). -/
  repV : Nat
  repI : Nat
  repSoc : Nat
  repStale : Bool
  /-- Charge in A·s (kept through standby), and a SOC_SET that waits (R230). -/
  q : Rat
  socPend : Option Nat
  /-- Consecutive results beyond the threshold (R233): OV, UV, OC, an open wire, f_Vd or f_Vc below 0.5; per sensor, above
  T_MAX; per sensor, f_T below 0.5. -/
  overs : List Nat
  hots : List Nat
  warms : List Nat
  /-- Consecutive loop executions with DUTY_LIM (BAT_SAT). -/
  satRun : Nat
  /-- Rest band: TB2 since which the mean of every CUE has stayed within it, SOC set since it was entered (R231). -/
  restAt : Option Nat
  restDone : Bool
  /-- Temperature of each used sensor in its order, 0.01 °C, none before a result. -/
  temps : List (Option Rat)
  /-- A battery input's open-wire source is raised (BAT_SENSE). -/
  sense : Bool
  /-- TB0 of the last loop execution. -/
  loopAt : Option Nat
  /-- Last storage checks, oldest first, 16-byte records (R236). -/
  checks : List Bytes
  deriving DecidableEq, Repr

/-! ### Measurement -/

/-- The content of a result register before its last write (Table 10-6). -/
structure AdcOld where
  code : Nat
  range : Bool
  open_ : Bool
  refnr : Bool
  stale : Bool
  scnt : Nat
  new_ : Nat
  over_ : Nat
  value : Nat
  stamp : Nat
  deriving DecidableEq, Repr

/-- One result register (Table 10-5). NEW and OVERRUN are masks over the four seats. -/
structure AdcRes where
  /-- The ADC cycle of the last write, and the content before it, which a read in that cycle returns (Table 10-6). -/
  wrote : Option Nat
  old : AdcOld
  written : Bool
  code : Nat
  range : Bool
  open_ : Bool
  refnr : Bool
  stale : Bool
  scnt : Nat
  new_ : Nat
  over_ : Nat
  /-- Engineering value as a binary32 word, and the TB0 stamp. -/
  value : Nat
  stamp : Nat
  /-- The stamp latched by each seat's last read (R290). -/
  latched : List Nat
  deriving DecidableEq, Repr

/-- One sequence: SQ0 to SQ3 are 0 to 3, SQC0 to SQC3 are 4 to 7. -/
structure AdcSeq where
  running : Bool
  /-- ADC cycle of the last accepted start. -/
  startAt : Nat
  starts : Nat
  drops : Nat
  waits : Nat
  /-- Descriptors, first and last entry in force at the start (R279). -/
  descs : List Nat
  first : Nat
  last : Nat
  /-- Entry that samples next, its earliest instant in 125 ps units of TB2, whether its wait has been counted. -/
  next : Nat
  due : Nat
  waited : Bool
  /-- Entry sampled and not yet written: TB0 stamp, end of its slots in 125 ps units of TB2, REF_READY and pull at the
  first sample. -/
  open_ : List (Nat × Nat × Nat × Bool × Nat)
  /-- TB2 of the next TIMER start. -/
  timer : Option Nat
  /-- End of the slots each converter has spent on this start's entries, 125 ps of TB2: waiting behind them is no wait (R282). -/
  mine : List Nat
  /-- A start accepted in the ADC cycle in which the last result is written, and its Table 10-4 instant (R283). -/
  again : Option Nat
  deriving DecidableEq, Repr

/-- The converters. -/
structure AdcBlock where
  /-- Results: entry n of ADC A and B at key n, of ADC C at key 64 + n. -/
  res : Kv AdcRes
  seqs : Kv AdcSeq
  /-- End of the slots of ADC A, B and C in 125 ps units of TB2. -/
  free : List Nat
  /-- Consecutive results with and without OPEN per input (R288). -/
  opens : Kv Nat
  goods : Kv Nat
  /-- OPEN_STATUS. -/
  openSt : Nat
  /-- TB2 at which the reference buffer was enabled, REF_READY, a self-calibration has run since reset. -/
  refAt : Option Nat
  refReady : Bool
  calOnce : Bool
  /-- Self-calibration: 0 idle, 1 running, 2 done, 3 failed; offsets of ADC A and B. -/
  cal : Nat
  calAt : Nat
  ofsA : Int
  ofsB : Int
  /-- Last VCAP and TEMP reported, raw, with STALE and VALID (R292, R293). -/
  repVcap : Nat
  repTemp : Nat
  repStale : Bool
  repValid : Bool
  deriving DecidableEq, Repr

/-! ### Loops -/

/-- A coefficient write that waits for the next execution (R259). -/
inductive LoopW where
  | desc (b : Bytes)
  | gtab (b : Bytes)
  | field (off len v : Nat)
  | poke (entry kp ki : Nat)
  deriving DecidableEq, Repr

/-- One loop channel. -/
structure LoopCh where
  /-- Descriptor and gain table in force. -/
  desc : Bytes
  gtab : Bytes
  /-- Coefficient writes and the INT_SET that wait, each with the CTL cycle of its acceptance (R259, R263, Table 09-4). -/
  pend : List (Nat × LoopW)
  intSet : Option (Nat × Int)
  /-- Integrator, Q30; y of the previous execution, Q15. -/
  i : Int
  y : Int
  /-- Last good setpoint value (binary32). -/
  sp : Option Nat
  fallback : Bool
  freeze : Nat
  recov : Nat
  /-- Feedback stamp and raw value used at the previous execution. -/
  fbStamp : Option Nat
  fbRaw : Nat
  /-- Enabled at its last execution; the integrator equalled a limit at its end. -/
  enabled : Bool
  atLimit : Bool
  /-- Published output (binary32) and stamp. -/
  out : Nat
  outAt : Nat
  /-- The output and stamp published before them, and the TB2 instant (125 ps) from which the new ones stand: the last of the
  five CTL cycles of the execution (R250). -/
  before : Nat × Nat
  outFrom : Nat
  deriving DecidableEq, Repr

/-- Arm quantities the loop engine composes and the aggregates of Table 09-2: value and stamp per field 0 to 6. -/
structure ArmOut where
  agg : List Nat
  aggAt : List Nat
  aggOk : List Bool
  i : Rat
  iBad : Bool
  v0 : Rat
  v1 : Rat
  v2 : Rat
  pb : Rat
  flags : Nat
  cue : Nat
  /-- Last good value of each VREF_TERM's a and b (binary32). -/
  terms : List (Nat × Nat)
  deriving DecidableEq, Repr

/-- One NCO (R256): angles at the start of the present and of the next CUE in 2^-32 turns, the frequencies over them, the
mode and phase in force over them (R144, R257), and the last good source value. -/
structure NcoRec where
  now : Nat
  next : Nat
  fNow : Rat
  fNext : Rat
  modeNow : Nat
  mode : Nat
  phaseNow : Rat
  phase : Rat
  last : Option Nat
  /-- In plant mode TB1 has left LOCKED, or was not LOCKED on entry, since the NCO last took the plant angle. -/
  lost : Bool
  stepped : Bool
  held : Bool
  deriving DecidableEq, Repr

/-- A loop group's schedule (R249 to R252): the CUE and the next instant of a SUBTICK group; the channels of the execution in
progress that are still to start, its start and the earliest start of the next of them (TB2, 125 ps), whether one has started,
whether a computation has suspended it, and a start that waits. -/
structure LoopGroup where
  cue : Option Nat
  j : Nat
  todo : List Nat
  startAt : Nat
  nextAt : Nat
  begun : Bool
  susp : Bool
  pend : Bool
  /-- TB2 (125 ps) at which the last channel started ends: until then the execution is in progress (R252). -/
  endAt : Nat
  deriving DecidableEq, Repr

/-- The loop engine. -/
structure LoopBlock where
  ch : Kv LoopCh
  groups : Kv LoopGroup
  /-- TB2 in 125 ps units from which the engine can start a channel (R250). -/
  freeAt : Nat
  /-- Injection: running, its channel, executions since its start, PRBS register, recording (R269 to R271). -/
  injOn : Bool
  injCh : Nat
  injN : Nat
  prbs : Nat
  injRec : Bool
  /-- RESP_BUF records, oldest first (R271). -/
  resp : List Bytes
  /-- Per arm outputs and aggregates. -/
  armA : ArmOut
  armB : ArmOut
  nco0 : NcoRec
  nco1 : NcoRec
  deriving DecidableEq, Repr

/-! ### Capture -/

/-- Stream states (Table 11-6). -/
inductive CapSt where
  | stopped | armed | holdoff | disarmed
  deriving DecidableEq, Repr

/-- A trigger that waits for the record of its sample: instant, source code, whether its sample has been taken. -/
structure TrigRec where
  at0 : Nat
  src : Nat
  inside : Bool
  /-- MARK flags of its window and the window's WIN_ID. -/
  flags : Nat
  win : Nat
  deriving DecidableEq, Repr

/-- A sum in binary64: a finite value, an infinity by its sign, or a NaN (R298). -/
inductive Sum64 where
  | fin (x : Rat)
  | inf (neg : Bool)
  | nan
  deriving DecidableEq, Repr

/-- What an accepted trigger found, for a CAP_CMD 0x02 of the same SYS cycle (Table 11-8): the TB2 of it, the stream that
chained it, the stream's state, hold-off, CAP_STATS and window before it, the WIN_ID it took, and the interrupt source's pending
bit and its group's count and first event. -/
structure CapUndo where
  at2 : Nat
  by_ : Option Nat
  st : CapSt
  holdAt : Nat
  holdN : Nat
  stats : List Nat
  win : Option Nat
  took : Nat
  pend : Bool
  first : Option Nat
  deriving DecidableEq, Repr

/-- One stream. -/
structure CapStream where
  st : CapSt
  /-- The last accepted trigger, while a stop of its SYS cycle may still come. -/
  undo : Option CapUndo
  /-- The level test of the next base sample has run ahead, with another stream's sample of the same instant. -/
  tested : Bool
  /-- TB0 of the last base sample. -/
  lastAt : Option Nat
  /-- SEQ of the next record. -/
  seq : Nat
  /-- Interval in progress: base samples, stamp of the first, quality mask, sums of the values and of the codes. -/
  n : Nat
  at0 : Nat
  bad : Nat
  sums : List Sum64
  codes : List Int
  /-- Level test: a sample at or below, or at or above, the hysteresis band has been seen since arming (R304). -/
  low : Bool
  high : Bool
  /-- Accepted triggers whose MARK is not yet written, oldest first. -/
  trigs : List TrigRec
  /-- Hold-off: TB2 of the accepted trigger, triggers held off since (R306). -/
  holdAt : Nat
  holdN : Nat
  /-- CAP_STATS: records, dropped, gaps, triggers accepted, held off, windows refused, clips, marks lost. -/
  stats : List Nat
  /-- Drop run: records lost, marks lost, stamp of the first (R301). -/
  lost : Nat
  lostMarks : Nat
  lostAt : Nat
  /-- Staging buffer: unread bytes by record, each with the TB2 of its writing, and the offset of the first (R465). -/
  stage : List (Nat × Bytes)
  rd : Nat
  /-- Pre-trigger ring: newest DATA records, oldest first, and its block in the PANTRY. -/
  ring : List Bytes
  block : Option (Nat × Nat)
  /-- WIN_ID of the window being filled. -/
  win : Option Nat
  /-- SUBTICK: the CUE and the next instant in it. -/
  cue : Option Nat
  j : Nat
  /-- Remote: SEQ expected of the cell, none before the first record. -/
  rseq : Option Nat
  deriving DecidableEq, Repr

/-- One window of the PANTRY (Table 11-7). -/
structure PantryWin where
  id : Nat
  stream : Nat
  flags : Nat
  recSize : Nat
  preHeld : Nat
  postReq : Nat
  postHeld : Nat
  seq0 : Nat
  tb0 : Nat
  tb2 : Nat
  tsrc : Nat
  ready : Bool
  caddr : Nat
  cstream : Nat
  base : Nat
  len : Nat
  data : List Bytes
  deriving DecidableEq, Repr

/-- Streams, windows, WIN_ID of the next window, and the PANTRY's size in bytes since the last power-on or RST_N. -/
structure CapBlock where
  streams : Kv CapStream
  wins : List PantryWin
  nextWin : Nat
  size : Nat
  /-- Blocks released, each with its SYS cycle: an allocation in that cycle does not see the space (Table 11-8). -/
  freed : List (Nat × Nat × Nat)
  deriving DecidableEq, Repr

/-! ### Sequence logic -/

/-- Engine states (SL_STATE). -/
inductive SlSt where
  | stop | run | halted
  deriving DecidableEq, Repr

/-- Station states of Table 12-6. -/
inductive StnSt where
  | active | missing | lost | returning
  deriving DecidableEq, Repr

/-- A station as the HEAD keeps it (R327, R328). -/
structure StnRec where
  st : StnSt
  q : Bool
  w0 : Nat
  w1 : Nat
  miss : Nat
  ack : Nat
  ackId : Nat
  seenP : Bool
  seenA : Bool
  seenR : Bool
  /-- The response that has arrived for the current cycle: input words, MREQ_ID and acknowledgement. -/
  resp : Option (Nat × Nat × Nat × Nat)
  /-- Re-admission asked for, and granted at the present write point; the last write point marked the outputs SAFE (Table 12-6). -/
  readmit : Bool
  granted : Bool
  outSafe : Bool
  deriving DecidableEq, Repr

/-- An online change under way (R329, R330). -/
inductive ChgSt where
  | none | verifying | armed | switched | rejected
  deriving DecidableEq, Repr

/-- States of a mode request (Table 12-8). -/
inductive ModeSt where
  | idle | opened | committed | applied
  deriving DecidableEq, Repr

/-- The engine of a HEAD, its stations and mode request, and the station part of a CELL. -/
structure SlBlock where
  st : SlSt
  /-- CUE of the next cycle start, none while no cycle runs; the last one; cycle count. -/
  nextAt : Option Nat
  lastAt : Nat
  cycle : Nat
  /-- A cycle executes; its program counter, RLO, ACC, SYS cycles used, cycle starts passed since its own. -/
  busy : Bool
  pc : Nat
  rlo : Bool
  acc : Nat
  used : Nat
  passed : Nat
  /-- A cycle has ended whose write point is due. -/
  ended : Bool
  /-- Image: LI, SYS and SIG words, SI and SS words (R319). -/
  li : List Nat
  sys : List Nat
  sigs : List Nat
  si : Kv Nat
  ss : Kv Nat
  /-- Program values of LQ, SQ and M. -/
  lq : Nat
  sq : Kv Nat
  m : Kv Nat
  /-- Local outputs (a CELL: G7 at bit 7) and station bits as last written, station bytes SAFE (R323, R326). -/
  lqOut : Nat
  sqOut : Kv Nat
  safe : Bool
  /-- Queued object writes, mode requests, and acknowledged stations of the running cycle. -/
  writes : List (Nat × Nat)
  wantModes : List Nat
  sacks : List Nat
  /-- SYS word 2 bits 0, 2 and 3 for the next cycle. -/
  first : Bool
  objRef : Bool
  modeRef : Bool
  /-- SL_CMD 0x01 or 0x02 waits for the next cycle start; SL_CMD 0x03 waits. -/
  cmd : Option Nat
  revert : Bool
  /-- Program images of the two banks; the active one; which hold a verified image. -/
  bank0 : Bytes
  bank1 : Bytes
  act : Nat
  ok0 : Bool
  ok1 : Bool
  chg : ChgSt
  chgClear : Bool
  armedAt : Nat
  chgInfo : Nat
  /-- Forces in force (R333); FORCE_TABLE as it stood before a write of a SYS cycle, which a read point of that cycle still takes
  (Table 12-11). -/
  forces : Bytes
  forceOld : Option (Nat × Bytes)
  /-- SL_STATS: cycles, SL_OVERRUN, refused object writes, STN_LATE, last and longest execution. -/
  stats : List Nat
  stns : Kv StnRec
  /-- Mode request: state, mode, class, MREQ_ID, L, scope, acknowledged PENDING and APPLIED, laggards (slots). -/
  mode : ModeSt
  modeNo : Nat
  modeCls : Nat
  modeId : Nat
  modeL : Nat
  scope : List Nat
  ackP : List Nat
  ackA : List Nat
  lag : List Nat
  /-- CELL: cycle last taken, station byte that waits for the next CUE start, CUEs since the last copy, input image
  latched at the CUE start, request held (mode, L, id), acknowledgement. -/
  cLast : Option Nat
  cByte : Option Nat
  cAge : Nat
  cW0 : Nat
  cW1 : Nat
  /-- The input image of the CUE before. -/
  cP0 : Nat
  cP1 : Nat
  cReq : Option (Nat × Nat × Nat)
  cAckId : Nat
  cAck : Nat
  deriving DecidableEq, Repr

/-! ### Safety -/

/-- Safety block states (Table 13-2). -/
inductive SafSt where
  | config | verify | run | lockout
  deriving DecidableEq, Repr

/-- One input pair (R356 to R360): type in use, filtered levels and the run of samples at the other level, discrepancy
count, latch (0 none, 1 latched, 2 both have been demand), samples of the present run with both high, length of the last
such run, a reset pair's pulse spoilt by a discrepancy, source 3 asserted. -/
structure SiPair where
  ty : Nat
  f1 : Bool
  f2 : Bool
  n1 : Nat
  n2 : Nat
  disc : Nat
  lat : Nat
  hi : Nat
  pend : Nat
  bad : Bool
  fail : Bool
  deriving DecidableEq, Repr

/-- One measured function (R365 to R367): consecutive results over and within the limit per entry, demand, consecutive
pairs apart, failing, newest code and stamp per entry. -/
structure MeasRec where
  overP : Nat
  overC : Nat
  inP : Nat
  inC : Nat
  dem : Bool
  diff : Nat
  fail : Bool
  codeP : Option (Int × Nat)
  codeC : Option (Int × Nat)
  /-- The newest result of the primary and of the check entry is bad or too late (R367). -/
  badP : Bool
  badC : Bool
  deriving DecidableEq, Repr

/-- One safe output (R361 to R363): on, fault latched, consecutive low and high readings, TB2 of the running pulse, been
low in it, TB2 of the last pulse's start, TB2 since which the readback has followed. -/
structure SoRec where
  on : Bool
  fault : Bool
  lows : Nat
  highs : Nat
  pulse : Option Nat
  lowSeen : Bool
  lastPulse : Option Nat
  followAt : Option Nat
  sampleAt : Option Nat
  deriving DecidableEq, Repr

/-- One safe connection (R368 to R372): state 0 idle, 1 run, 2 TIMEOUT; last accepted message, whether it is confirmed,
which paths have carried it; messages confirmed; TB2 of the last new one; own SCOUNT; stop request in force; consecutive
messages missed per path and paths lost; TB2 since which the echo lags; TB2 and CUE of the last one sent; the data bytes
last sent. -/
structure SconnRec where
  st : Nat
  last : Option Bytes
  conf : Bool
  gotA : Bool
  gotB : Bool
  confirmed : Nat
  at2 : Nat
  tx : Nat
  stop : Nat
  missA : Nat
  missB : Nat
  lostA : Bool
  lostB : Bool
  lagAt : Option Nat
  sentAt : Nat
  sentCue : Nat
  sentData : Bytes
  /-- Violations of codes 0x01 to 0x07 (R373). -/
  viols : List Nat
  deriving DecidableEq, Repr

/-- A running injection (R376): point, index, SPAN, start, detection time, and the test plane's copies. -/
structure SafTest where
  point : Nat
  index : Nat
  span : Nat
  at2 : Nat
  det : Option Nat
  pair : SiPair
  meas : MeasRec
  so : SoRec
  /-- Copies spoiled, check results taken or net tests failed on the test plane (Table 13-10). -/
  miss : Nat
  /-- TB2 at which the test plane's pair reaches DISC_N. -/
  disc : Option Nat
  deriving DecidableEq, Repr

/-- The safety block. -/
structure SafBlock where
  st : SafSt
  /-- Start-up tests of Table 13-7 have passed. -/
  testsOk : Bool
  /-- Manual-reset latches, groups latched by a diagnostic (R375), groups that reacted after the last change. -/
  latch : Nat
  diag : Nat
  active : Nat
  pairs : Kv SiPair
  /-- TB2 of the last sample. -/
  siAt : Option Nat
  meas : Kv MeasRec
  sos : Kv SoRec
  /-- Connections: 0 to 15 of the network (a CELL's one is 0), 0x100 + slot of the HEAD's cells, 0x1000 + p of ring p's
  UNDERSTUDY port, 0x2000 + p of what the HEAD sends on ring p. -/
  conns : Kv SconnRec
  /-- Ring ports with an unexpected CURTAIN, links with a peer CURTAIN, last /C/ per port. -/
  unexp : Nat
  peer : Nat
  unexpAt : Kv Nat
  /-- LOCAL and RAISE react now; the net test fails; supply inputs out of their window. -/
  local_ : Bool
  raising : Bool
  netFail : Bool
  supply : Nat
  /-- Per ring: LIFT_LEAD at its last release, TB2 of it, awaited lift CUE. -/
  lead : Kv Nat
  relAt : Kv (Option Nat)
  lift : Kv (Option Nat)
  test : Option SafTest
  result : Nat
  /-- Codes 0x01 to 0x07 and resets ignored. -/
  stats : List Nat
  vlog : List VEntry
  /-- Last 16 tests: TB2, point, index, result, detection time in µs. -/
  tlog : List (Nat × Nat × Nat × Nat × Nat)
  deriving DecidableEq, Repr

/-! ### Arm modulation and SIEVE -/

/-- What SIEVE stores of a cell (R170, R171): values of the last keyed report, whether there are any, age, keyed since
it entered the order. -/
structure SvCell where
  vcap : Nat
  soc : Nat
  temp : Int
  swcnt : Nat
  has : Bool
  age : Nat
  entered : Bool
  deriving DecidableEq, Repr

/-- One entry of a publication: arm slot, flags of RANK_TABLE, key, the terms of Table 06-1, S, age. -/
structure SvEntry where
  slot : Nat
  flags : Nat
  key : Int
  ev : Int
  es : Int
  et : Int
  ew : Int
  sum : Int
  age : Nat
  deriving DecidableEq, Repr

/-- A publication (R182, R183). -/
structure SvPub where
  cue : Nat
  status : Nat
  passes : Nat
  entries : List SvEntry
  refs : List Int
  deriving DecidableEq, Repr

/-- A record as the HEAD schedules it for the next CUE (R159, R161): events, PSHARE, PSV, FIRE_BYP; `void` for VOID. -/
structure SchedRec where
  evs : List (Nat × Nat)
  share : Nat
  psv : Bool
  fire : Bool
  void : Bool
  deriving DecidableEq, Repr

/-- The HEAD's state table of one cell (R149): CUE and final state of the last four records sent, newest first, and the
CUE and events of the newest. -/
structure ModCell where
  kept : List (Nat × Nat)
  cue : Nat
  evs : List (Nat × Nat)
  deriving DecidableEq, Repr

/-- One arm's SIEVE engine and modulation. -/
structure ArmMod where
  /-- Published order, as station slots; arm slots of the previous computation; parked cells then. -/
  order : List Nat
  slots : List Nat
  parked : List Nat
  pub : Option SvPub
  /-- Arm references, none without a previous value (R172). -/
  refs : List (Option Int)
  /-- σ = −1, τ = −1 (R173). -/
  sigNeg : Bool
  tauNeg : Bool
  /-- Weights and KEY_SHIFT in effect (R177), none before the first computation. -/
  weights : Option (List Nat)
  /-- Full re-sort conditions that wait (Table 06-2). -/
  first : Bool
  unsettled : Bool
  sortReq : Bool
  holdRel : Bool
  kept : Bool
  /-- Last Vs, in volts (R147). -/
  vs : Option Rat
  /-- Stations available in the present computation, with their state at the end of the CUE. -/
  avail : List (Nat × Nat)
  /-- N_av of the present computation, counted from the reports (R148). -/
  nav : Nat
  /-- Fenced stations at the start of the present computation, with their bypass commands; TRACE_SLOT there (R144). -/
  fences : List (Nat × Bool)
  trace : Nat
  /-- Weights and KEY_SHIFT as they stood when KEY_GATE was written 1 (R177). -/
  keyHeld : List Nat
  deriving DecidableEq, Repr

/-- Modulation and SIEVE. -/
structure ModBlock where
  a : ArmMod
  b : ArmMod
  sv : Kv SvCell
  /-- Station slots marked ADOPT_PENDING (R176). -/
  adopt : List Nat
  cells : Kv ModCell
  /-- Records of the next CUE per station slot. -/
  sched : Kv SchedRec
  deriving DecidableEq, Repr

/-! ### Memory, flash and update (Memory, flash and firmware update) -/

/-- One image slot of the flash (R472, R474): the 512-byte header (empty: erased), the copy blocks of the body (an empty
or missing one is erased), and erase counts by 64 KiB sector of the slot. -/
structure ImgSlot where
  head : Bytes
  blocks : List Bytes
  erases : Kv Nat
  /-- What the flash's own code can no longer correct in it (R473): 0 the header, i + 1 block i. -/
  spoilt : List Nat
  deriving DecidableEq, Repr

/-- One journal record (Table 17-7). -/
structure JRec where
  op : Nat
  src : Nat
  dst : Nat
  block : Nat
  seq : Nat
  campaign : Nat
  image : Nat
  deriving DecidableEq, Repr

/-- One entry of a PARAM record (R487): index, subindex, type code, value. -/
structure ParamEntry where
  idx : Nat
  sub : Nat
  ty : Nat
  value : Bytes
  deriving DecidableEq, Repr

/-- A valid PARAM record (R487): DICT_VERSION, FW_VERSION of the writer, generation and entries; the active bank's
program image (R332) is the entry of SL_LOAD. -/
structure ParamRec where
  dict : Nat
  fw : Nat
  gen : Nat
  entries : List ParamEntry
  deriving DecidableEq, Repr

/-- Instructions of the JTAG port's TAP (R516). -/
inductive TapInstr where
  | bypass | sample | extest | idcode
  deriving DecidableEq, Repr

/-- The TAP: the instruction in force and the boundary register's held content (R516). -/
structure TapBlock where
  instr : TapInstr
  bound : List Bool
  deriving DecidableEq, Repr

/-- UPD_STATE (Table 17-3). -/
inductive UpdSt where
  | idle | receiving | verifying | verified | armed | trial | rejected
  deriving DecidableEq, Repr

/-- A PASS sender towards one neighbour (R481, R482): running, LAST, PASS_RATE, the neighbour's last ACK, chunk sent
next, CUE of the last advance, sends again, and PASS_STATUS's state code. -/
structure PassSend where
  on : Bool
  last : Nat
  rate : Nat
  ack : Option Nat
  next : Nat
  ackCue : Nat
  resends : Nat
  st : Nat
  deriving DecidableEq, Repr

/-- The relay stream a CELL holds (R482, R483): campaign and IMAGE_ID of its chunk 0, chunks by number with the CUE of
their storing, chunks sent on, sends again, and a conflict: its campaign and the images it stopped. -/
structure RelayRec where
  on : Bool
  campaign : Nat
  image : Nat
  chunks : Kv (Nat × Bytes)
  relayed : Nat
  resends : Nat
  stopped : Option (Nat × List Nat)
  deriving DecidableEq, Repr

/-- Working memory's code and scrubber; what the words hold stands with the block that wrote them. -/
structure WorkBlock where
  /-- Error pattern over the 144 bits of each stored word that is not a code word as written (R466, R467). -/
  bad : Kv Nat
  /-- Words that are code words but not the ones written, by an error that was corrected wrongly or not detected (R467): the bits
  in which they differ. -/
  wrong : Kv Nat
  /-- Next word index of the scrubber and TB2 of the start of its pass (R470). -/
  scrub : Nat
  scrubAt : Nat
  /-- MEM_ERR_LOG: TB2, word index, kind, symbol, agent; oldest first, at most 32. -/
  elog : List (Nat × Nat × Nat × Nat × Nat)
  deriving DecidableEq, Repr

/-- The flash, the update and PASS. -/
structure MemBlock where
  active : ImgSlot
  staging : ImgSlot
  previous : ImgSlot
  golden : ImgSlot
  paramA : Option ParamRec
  paramB : Option ParamRec
  /-- PARAM slots (4, 5) and journal records (JSEQ) that the flash's own code can no longer correct (R473). -/
  paramSpoilt : List Nat
  journalSpoilt : List Nat
  /-- The journal, oldest first, and JSEQ of the next record. -/
  journal : List JRec
  jseq : Nat
  /-- Header of the running image (empty before it runs). -/
  run : Bytes
  st : UpdSt
  reason : Nat
  /-- Header of the image being received or staged, the bytes a seat has written of it, its chunks that came by PASS,
  and a conflict, its campaign and both BODY_HASHes, that holds until an offer with a higher campaign (R478). -/
  head : Bytes
  seat : Bytes
  chunks : Kv Bytes
  conflict : Option (Nat × List Bytes)
  /-- The PASS store's stream (R479). -/
  store : Bytes
  /-- PASS senders: of a HEAD at 2 × ring + (0 near, 1 far), of a CELL at its port. -/
  sends : Kv PassSend
  relay : RelayRec
  /-- MIG_REPORT: from, to, kept, converted, defaulted, dropped. -/
  mig : List Nat
  deriving DecidableEq, Repr

/-! ### The machine -/

/-- The whole machine. -/
structure State where
  /-- Fixed-size objects by key index × 256 + subindex; unlisted: the dictionary's default. -/
  objs : Kv Nat
  /-- Byte-block and string objects; unlisted: the dictionary's default content. -/
  doms : Kv Bytes
  /-- Raw registers by address (Table 16-4), path registers at address + 2^28 × (path + 1); unlisted: the reset value of
  the register maps. -/
  regs : Kv Nat
  pw : PowerBlock
  tm : TimeBlock
  flt : FaultBlock
  irq : IrqBlock
  dsp : DspBlock
  seat : SeatBlock
  ring : RingBlock
  xl : XlBlock
  pair : PairBlock
  pwm : PwmBlock
  bat : BatBlock
  adc : AdcBlock
  loop : LoopBlock
  cap : CapBlock
  sl : SlBlock
  saf : SafBlock
  mod : ModBlock
  work : WorkBlock
  mem : MemBlock
  tap : TapBlock
  /-- How many free values have been drawn (the model's own field). -/
  freeCtr : Nat
  /-- What has left the block, oldest first (the model's own field). -/
  out : List Emit
  /-- The commands that wait, first in, first out. -/
  pending : List Instr
  deriving DecidableEq, Repr

/-- Why the machine stops. -/
inductive Fault where
  /-- A sequence-logic operand lies outside its image area (R320): raised by the sequence-logic commands. Safe: a
  verified program holds no such operand. -/
  | noSuchOperand
  deriving DecidableEq, Repr

/-- Why a command has no meaning. -/
inductive Refusal where
  /-- Raised by exec for a command that has no meaning yet. Safe. -/
  | notModelled (mnemonic : String)
  deriving DecidableEq, Repr

/-! ### The machine right after power-on reset -/

/-- Power block after power-on (Tables 18-6 and 18-7, first row). -/
def PowerBlock.reset : PowerBlock :=
  { pwr := .start, stage := .heldReset, faultHold := false, holdNext := false, role := none, sampling := true,
    samples := [], roleUnstable := false, resetAt := 0, resetCause := 1, resetCount := [1, 0, 0, 0, 0, 0, 0],
    wakeCause := 0, wakeStart := false, thermalHold := false, refGood := true, pll := 0, aonTrimmed := false,
    aonPpm := 0, auxOn := false, auxLimit := false, idleSince := none, standbyAt := 0, wakePol := 0,
    vinOut := false, debugHalt := false, pwmClock := true, smType := 0, ringMode := 1, standing := .waiting,
    standingConflict := false, partnerAbsent := false, wdogCore := none, safeSeen := false, ip := 0, ipMask := 0, ipGw := 0,
    pciSs := 0 }

/-- Time bases after power-on (R74, Table 02-8 defaults). -/
def TimeBlock.reset : TimeBlock :=
  { tb0 := 0, tb0Rate := 0, tb0Acc := 0, tb0State := .unsync, acqCount := 0, holdCount := 0, frameSeen := false,
    otherSeen := false, noFrame := 0, timeFar := false, reanchor := false, probes := [], probeIn := [], tb1 := 0,
    tb1State := .unsync, tb1Rate := 0, tb1Acc := 0, discAt := 0, acq1 := 0, reanchor1 := false, ptpPort := 0, masterA := none, masterB := none,
    tb2 := 0, tb2Sub := 0, tb3 := 0, tb3Acc := 0, tb3Step := none, stepAt := none, cueStart := 0, cue := 0,
    cueLen := 20000, compDone := false, compSent := true, compAt := 0, period := 20000, periodNext := [], mark := none, cueKnown := false, markLen := 20000, sync := .off, syncMiss := 0,
    syncCorr := 0, syncNew := none, syncAt := none, tevts := [], edges0 := [], edges1 := [], edges2 := [] }

/-- Fault collector after power-on. -/
def FaultBlock.reset : FaultBlock :=
  { srcs := [], ff := none, ilog := [], fence := [], byp := [], fenceAt := [], resetDue := false, causers := [],
    self := 0, aon := none, logSlot := [] }

/-- Interrupt controller after power-on (R419: the START phase begins at the end of reset). -/
def IrqBlock.reset : IrqBlock :=
  { pend := 0, en := 0, insv := 0, groups := [], seen := [], asleep := 0, startPhase := true, safeRunAt := none,
    takeoverCue := none, pba := 0, vlog := [], vcount := [] }

/-- Dispatcher after power-on. -/
def DspBlock.reset : DspBlock :=
  { flows := [], ops := [], maxOps := 0, purged := 0, lists := [], maxList := [], queues := [], lastTick := 0,
    path := [] }

/-- Seats after power-on: the token is FREE (R456). -/
def SeatBlock.reset : SeatBlock :=
  { holder := none, session := 0, req := 0, reqSess := [], leaseAt := 0, sessions := [], copies := [],
    cellReqs := [], nextReq := 0, late := [], viol := 0, vlog := [], vcount := [], mbox := [], store := none, perst := false, netUp := 0,
    prpSeq := 0, prpSeen := [] }

/-- A port at reset: EN is 1 at reset and the port is OFF until start-up completes (Table 03-12). -/
def PortRec.reset : PortRec :=
  { st := .off, silent := 0, sig := false, align := false, offer := [], offers := 0, accepts := 0, nbr := 0, rate := 0,
    training := false, rateMax := 3, rateCap := 3, txSeq := [], rxSeq := [], busy := 0, txq := [], bg := [], bgCue := none,
    bgAt := 0, sentC := none, gotC := none, injMode := 0, injLeft := 0, injCue := none, broke := false }
/-- The lane test at reset: registers at all ones, out of lock. -/
def PatRec.reset : PatRec := { gen := 0x7FFFFFFF, chk := 0, run := 0, pos := 0, errs := [], bits := 0, lock := false }
def ServePlan.reset : ServePlan := { split := 0, lo := 0, hi := 0, broken := false, far := false, near := false }
def CellRec.reset : CellRec :=
  { st := .none, serial := 0, smType := 0, waitLock := false, tb0Seen := 0, last := none, have_ := false, missRun := 0, unavRun := 0 }
def RingRec.reset : RingRec :=
  { enumerated := false, admitted := false, admitNext := false, foundAdm := 0, arm := 0, fwdCount := none,
    broken := false, breakLo := 0, breakHi := 0, loOwn := false, hiOwn := false, loPort := 0, hiPort := 0,
    checkOk := true, heal := none,
    plan := .reset, slow := false, hopSlow := false, opRate := none, cap := 3, removing := false, countNote := false,
    shortNote := false, enumDue := false, enumBusy := false, curtain := false }
def NodeRec.reset : NodeRec :=
  { caddr := 0, orient := 0, checked := true, admitted := false, gone := false, covered := false, opRate := false,
    servedBy := 0, index := 0, curtain := false,
    lift := none, report := none, trainSeen := false, sentOwn := false, held := [], repPort := 0 }
def RingBlock.reset : RingBlock :=
  { ports := [], rings := [], cells := [], node := .reset, vlog := [], pats := [] }

def LaneTx.reset : LaneTx := { busy := 0, cur := none, run := 0 }
def XlLink.reset : XlLink :=
  { st := .off, silent := 0, silentAt := 0, clk := false, tx := 0, rx := 0, failA := 0, failB := 0, hellos := 0, lmask := none,
    txNext := none, rejoinA := none, rejoinB := none, rxWait := false, peer := 0, serial := 0, heard := false, wiring := false,
    lock := 0, comma := 0, xseqTx := 0, xseqRx := 0, curtAt := none, curtMask := 0, setAt := none, eyeA := ([], 0), eyeB := ([], 0), injA := (0, 0, none),
    injB := (0, 0, none), laneA := .reset, laneB := .reset, txq := [] }
def PeerRec.reset : PeerRec := { cue := 0, flags := 0, a := [], b := [], at0 := 0, missing := 0, fresh := false, taken := [], fwd := [] }
def XlBlock.reset : XlBlock := { links := [], peers := [], vlog := [] }
def PairBlock.reset : PairBlock :=
  { mirror := [], mlines := [], marked := [], mCycle := 0, slice := 0, wide := true, handover := false,
    finalCue := none, dcrcDiff := false, health := [], healthMiss := 0, tookOver := false, alone := false, restore := 0,
    fastIn := [], lateCue := none, fast := none, fastCue := 0, slowIn := none, slowParts := [], slow := none, slowCue := 0,
    mHeld := [], mSynced := false, mWhole := false, mSyncCycle := 0, healthSent := false, fragSeen := false, sheetSeen := false, lossRun := 0,
    lossTold := false, test := 0, tests := 0, lastFail := 0xFFFF, testBad := [], 
    diffSeen := false }

def PwmBlock.reset : PwmBlock :=
  { next := none, cur := none, todo := [], carried := [], bridge := 3, lost := false, upper := false,
    lastUpper := none, level := 0, rises := [], falls := [], dtBr := 500, dtBat := 250, zeroMode := 2, done := none,
    boundAt := none, boundLate := false, tripCnt := [0, 0, 0, 0, 0, 0], bypCue := none, calPend := none,
    trims := [0, 0, 0, 0, 0, 0, 0, 0], shseq := 0, miss := true, late := false, lateNext := false,
    m := 0, coast := 0, held := 0xFF, notAdm := true, pulseBlock := false, shPer := 25000, shDuty := 0, per := 25000,
    duty := 0, pendPer := false, pendDuty := false, hold := false, perAt := 0, dutyAt := 0, clearAt := 0, lastX := 0,
    carRun := false, carAt := none, carEdges := 0, tripLvl := 0, tripLatch := 0, bypSt := .idle, pulses := 0, bypAt := 0, riseAt := 0, byp := false,
    bypCmd := false, calBad := 0, coarse := false, swcnt := 0 }

def BatBlock.reset : BatBlock :=
  { st := .off, psv := false, sT := 0, sP := 0, vbat := 0, ibat := 0, vcap := 0, sampleAt := none, sumNow := 0,
    numNow := 0, repV := 0, repI := 0, repSoc := 0, repStale := false, q := 0,
    socPend := none, overs := [0, 0, 0, 0, 0], hots := [0, 0, 0, 0], warms := [0, 0, 0, 0], sBack := none, satRun := 0,
    restAt := none, restDone := false, temps := [none, none, none, none], sense := false, loopAt := none, checks := [] }

def AdcOld.reset : AdcOld :=
  { code := 0, range := false, open_ := false, refnr := false, stale := false, scnt := 0, new_ := 0, over_ := 0, value := 0, stamp := 0 }
def AdcRes.reset : AdcRes :=
  { wrote := none, old := .reset, written := false, code := 0, range := false, open_ := false, refnr := false, stale := false, scnt := 0, new_ := 0,
    over_ := 0, value := 0, stamp := 0, latched := [0, 0, 0, 0] }
def AdcSeq.reset : AdcSeq :=
  { running := false, startAt := 0, starts := 0, drops := 0, waits := 0, descs := [], first := 0, last := 0, next := 0, due := 0,
    waited := false, open_ := [], timer := none, mine := [], again := none }
def AdcBlock.reset : AdcBlock :=
  { res := [], seqs := [], free := [0, 0, 0], opens := [], goods := [], openSt := 0, refAt := none, refReady := false,
    calOnce := false, cal := 0, calAt := 0, ofsA := 0, ofsB := 0, repVcap := 0, repTemp := 0, repStale := false,
    repValid := false }
def LoopCh.reset : LoopCh :=
  { desc := [], gtab := [], pend := [], intSet := none, i := 0, y := 0, sp := none, fallback := false, freeze := 0,
    recov := 0, fbStamp := none, fbRaw := 0, enabled := false, atLimit := false, out := 0, outAt := 0,
    before := (0, 0), outFrom := 0 }
def ArmOut.reset : ArmOut :=
  { agg := [0, 0, 0, 0, 0, 0, 0], aggAt := [0, 0, 0, 0, 0, 0, 0],
    aggOk := [false, false, false, false, false, true, false], i := 0, iBad := true, v0 := 0, v1 := 0, v2 := 0,
    pb := 0, flags := 0, cue := 0, terms := List.replicate 8 (0, 0) }
def NcoRec.reset : NcoRec :=
  { now := 0, next := 0, fNow := 0, fNext := 0, modeNow := 0, mode := 0, phaseNow := 0, phase := 0, last := none, lost := false,
    stepped := false, held := false }
def LoopGroup.reset : LoopGroup :=
  { cue := none, j := 0, todo := [], startAt := 0, nextAt := 0, begun := false, susp := false, pend := false, endAt := 0 }
def LoopBlock.reset : LoopBlock :=
  { ch := [], groups := [], freeAt := 0, injOn := false, injCh := 0, injN := 0, prbs := 0x7FFF, injRec := false, resp := [],
    armA := .reset, armB := .reset, nco0 := .reset, nco1 := .reset }

def CapStream.reset : CapStream :=
  { st := .stopped, undo := none, tested := false, lastAt := none, seq := 0, n := 0, at0 := 0, bad := 0, sums := [],
    codes := [], low := false, high := false, trigs := [], holdAt := 0, holdN := 0, stats := [0, 0, 0, 0, 0, 0, 0, 0], lost := 0, lostMarks := 0, lostAt := 0,
    stage := [], rd := 0, ring := [], block := none, win := none, cue := none, j := 0, rseq := none }
def CapBlock.reset : CapBlock := { streams := [], wins := [], nextWin := 1, size := 0, freed := [] }

def StnRec.reset : StnRec :=
  { st := .active, q := false, w0 := 0, w1 := 0, miss := 0, ack := 0, ackId := 0, seenP := false, seenA := false,
    seenR := false, resp := none, readmit := false, granted := false, outSafe := false }
def SlBlock.reset : SlBlock :=
  { st := .stop, nextAt := none, lastAt := 0, cycle := 0, busy := false, pc := 0, rlo := false, acc := 0, used := 0,
    passed := 0, ended := false, li := [0, 0, 0, 0], sys := [0, 0, 0, 0, 0, 0, 0, 0], sigs := List.replicate 32 0,
    si := [], ss := [], lq := 0, sq := [], m := [], lqOut := 0, sqOut := [], safe := true, writes := [],
    wantModes := [], sacks := [], first := false, objRef := false, modeRef := false, cmd := none, revert := false,
    bank0 := [], bank1 := [], act := 0, ok0 := false, ok1 := false, chg := .none, chgClear := false, armedAt := 0,
    chgInfo := 0, forces := [], forceOld := none, stats := [0, 0, 0, 0, 0, 0], stns := [], mode := .idle, modeNo := 0, modeCls := 0,
    modeId := 0, modeL := 0, scope := [], ackP := [], ackA := [], lag := [], cLast := none, cByte := none, cAge := 0,
    cW0 := 0, cW1 := 0, cP0 := 0, cP1 := 0, cReq := none, cAckId := 0, cAck := 0 }

def SiPair.reset : SiPair :=
  { ty := 0, f1 := false, f2 := false, n1 := 0, n2 := 0, disc := 0, lat := 0, hi := 0, pend := 0, bad := false,
    fail := false }
def MeasRec.reset : MeasRec :=
  { overP := 0, overC := 0, inP := 0, inC := 0, dem := false, diff := 0, fail := false, codeP := none, codeC := none,
    badP := false, badC := false }
def SoRec.reset : SoRec :=
  { on := false, fault := false, lows := 0, highs := 0, pulse := none, lowSeen := false, lastPulse := none,
    followAt := none, sampleAt := none }
def SconnRec.reset : SconnRec :=
  { st := 0, last := none, conf := false, gotA := false, gotB := false, confirmed := 0, at2 := 0, tx := 0, stop := 0,
    missA := 0, missB := 0, lostA := false, lostB := false, lagAt := none, sentAt := 0, sentCue := 0, sentData := [], viols := List.replicate 7 0 }
def SafBlock.reset : SafBlock :=
  { st := .config, testsOk := false, latch := 0xFF, diag := 0, active := 0xFF, pairs := [], siAt := none,
    meas := [], sos := [], conns := [], unexp := 0, peer := 0, unexpAt := [], local_ := false, raising := false,
    netFail := false, supply := 0, lead := [], relAt := [], lift := [], test := none, result := 0,
    stats := [0, 0, 0, 0, 0, 0, 0, 0], vlog := [], tlog := [] }

def SvCell.reset : SvCell := { vcap := 0, soc := 0, temp := 0, swcnt := 0, has := false, age := 0, entered := false }
def SchedRec.reset : SchedRec := { evs := [], share := 0, psv := false, fire := false, void := true }
def ModCell.reset : ModCell := { kept := [], cue := 0, evs := [] }
def ArmMod.reset : ArmMod :=
  { order := [], slots := [], parked := [], pub := none, refs := [none, none, none, none], sigNeg := false,
    tauNeg := false, weights := none, first := true, unsettled := false, sortReq := false, holdRel := false,
    kept := false, vs := none, avail := [], nav := 0, fences := [], trace := 0xFFFF, keyHeld := [] }
def ModBlock.reset : ModBlock := { a := .reset, b := .reset, sv := [], adopt := [], cells := [], sched := [] }

/-- The image slot a stream programs. -/
def ImgSlot.ofStream (b : Bytes) : ImgSlot :=
  { head := b.take 512,
    blocks := (List.range ((b.length - 512 + 131071) / 131072)).map (fun i => (b.drop (512 + 131072 * i)).take 131072),
    erases := [], spoilt := [] }
/-- An erased slot. -/
def ImgSlot.empty : ImgSlot := { head := [], blocks := [], erases := [], spoilt := [] }
def PassSend.reset : PassSend :=
  { on := false, last := 0, rate := 1, ack := none, next := 0, ackCue := 0, resends := 0, st := 0 }
def RelayRec.reset : RelayRec :=
  { on := false, campaign := 0, image := 0, chunks := [], relayed := 0, resends := 0, stopped := none }
/-- Working memory without an error, the scrubber at word 0. -/
def WorkBlock.reset : WorkBlock := { bad := [], wrong := [], scrub := 0, scrubAt := 0, elog := [] }

/-- Flash of a part as delivered: ACTIVE and GOLDEN hold their factory images, the rest is erased. -/
def MemBlock.reset : MemBlock :=
  { active := .ofStream Config.deliveredImage, staging := .empty, previous := .empty,
    golden := .ofStream Config.goldenImage, paramA := none, paramB := none, paramSpoilt := [],
    journalSpoilt := [], journal := [], jseq := 0, run := [],
    st := .idle, reason := 0, head := [], seat := [], chunks := [], conflict := none, store := [],
    sends := [], relay := .reset, mig := [0, 0, 0, 0, 0, 0] }
/-- The TAP in Test-Logic-Reset: IEEE 1149.1 selects IDCODE. -/
def TapBlock.reset : TapBlock := { instr := .idcode, bound := [] }

/-- The machine right after power-on reset: every object at its dictionary default, every register at the reset value
of its map, the role not yet latched, no command waiting. -/
def State.reset : State :=
  { objs := [], doms := [], regs := [], pw := .reset, tm := .reset, flt := .reset, irq := .reset, dsp := .reset,
    seat := .reset,
    ring := .reset,
    xl := .reset,
    pair := .reset,
    pwm := .reset,
    bat := .reset,
    adc := .reset,
    loop := .reset,
    cap := .reset,
    sl := .reset,
    saf := .reset,
    mod := .reset,
    work := .reset,
    mem := .reset,
    tap := .reset,
    freeCtr := 0, out := [], pending := [] }

end Sys2Proof.Machine
end

