-- ==== Sys2Proof/Machine/Setters.lean ====
section
/-! DEFINITION. One update per block of the state. -/

namespace Sys2Proof.Machine.State

/-- Update the block `pw`. -/
def pwSet (f : PowerBlock → PowerBlock) (s : State) : State := { s with pw := f s.pw }
/-- Update the block `tm`. -/
def tmSet (f : TimeBlock → TimeBlock) (s : State) : State := { s with tm := f s.tm }
/-- Update the block `flt`. -/
def fltSet (f : FaultBlock → FaultBlock) (s : State) : State := { s with flt := f s.flt }
/-- Update the block `irq`. -/
def irqSet (f : IrqBlock → IrqBlock) (s : State) : State := { s with irq := f s.irq }
/-- Update the block `dsp`. -/
def dspSet (f : DspBlock → DspBlock) (s : State) : State := { s with dsp := f s.dsp }
/-- Update the block `seat`. -/
def seatSet (f : SeatBlock → SeatBlock) (s : State) : State := { s with seat := f s.seat }
/-- Update the block `ring`. -/
def ringSet (f : RingBlock → RingBlock) (s : State) : State := { s with ring := f s.ring }
/-- Update the block `xl`. -/
def xlSet (f : XlBlock → XlBlock) (s : State) : State := { s with xl := f s.xl }
/-- Update the block `pair`. -/
def pairSet (f : PairBlock → PairBlock) (s : State) : State := { s with pair := f s.pair }
/-- Update the block `pwm`. -/
def pwmSet (f : PwmBlock → PwmBlock) (s : State) : State := { s with pwm := f s.pwm }
/-- Update the block `bat`. -/
def batSet (f : BatBlock → BatBlock) (s : State) : State := { s with bat := f s.bat }
/-- Update the block `adc`. -/
def adcSet (f : AdcBlock → AdcBlock) (s : State) : State := { s with adc := f s.adc }
/-- Update the block `loop`. -/
def loopSet (f : LoopBlock → LoopBlock) (s : State) : State := { s with loop := f s.loop }
/-- Update the block `cap`. -/
def capSet (f : CapBlock → CapBlock) (s : State) : State := { s with cap := f s.cap }
/-- Update the block `sl`. -/
def slSet (f : SlBlock → SlBlock) (s : State) : State := { s with sl := f s.sl }
/-- Update the block `saf`. -/
def safSet (f : SafBlock → SafBlock) (s : State) : State := { s with saf := f s.saf }
/-- Update the block `mod`. -/
def modSet (f : ModBlock → ModBlock) (s : State) : State := { s with mod := f s.mod }
/-- Update the block `mem`. -/
def workSet (f : WorkBlock → WorkBlock) (s : State) : State := { s with work := f s.work }
def memSet (f : MemBlock → MemBlock) (s : State) : State := { s with mem := f s.mem }

end Sys2Proof.Machine.State
end

