-- ==== Sys2Proof/Machine/Ops.lean ====
section
/-! DEFINITION. The named operations over the stores, the outputs, the free values and the time bases. -/

namespace Sys2Proof.Machine

/-- What a command answers. -/
abbrev Res := Host.Outcome State Fault Refusal

namespace State

/-! ### Stores -/

/-- Value of a fixed-size object. -/
def og (s : State) (k : Nat) : Nat := Kv.get Dict.dflt s.objs k
/-- Set a fixed-size object. -/
def oset (s : State) (k v : Nat) : State := { s with objs := Kv.put Dict.dflt k v s.objs }
/-- Signed value of an object of w bits. -/
def oi (s : State) (w k : Nat) : Int := toI w (s.og k)
/-- Exact value of a binary32 object. -/
def oq (s : State) (k : Nat) : Rat := F32.val (s.og k)
/-- Content of a block object. -/
def dg (s : State) (k : Nat) : Bytes := Kv.get Dict.domDflt s.doms k
/-- Set the content of a block object. -/
def dset (s : State) (k : Nat) (v : Bytes) : State := { s with doms := Kv.put Dict.domDflt k v s.doms }
/-- Value of a stored register. -/
def rg (s : State) (a : Nat) : Nat := Kv.get regReset s.regs a
/-- Set a stored register. -/
def rset (s : State) (a v : Nat) : State := { s with regs := Kv.put regReset a v s.regs }
/-- Count up a U32 object, modulo 2 to the 32. -/
def bump (s : State) (k : Nat) : State := s.oset k (inc 32 (s.og k))
/-- Add to a U32 object, modulo 2 to the 32. -/
def addTo (s : State) (k n : Nat) : State := s.oset k ((s.og k + n) % 2 ^ 32)
/-- Set bits of a stored event register (R408: the set is never lost). -/
def evt (s : State) (a mask : Nat) : State := s.rset a (s.rg a ||| mask)

/-- A break of the idle count of STBY_IDLE (R498). -/
def idleBreak (s : State) : State := s.pwSet fun w => { w with idleSince := some s.tm.tb2 }

/-! ### Outputs and free values -/

/-- Send something. -/
def emit (e : Emit) (s : State) : State := { s with out := s.out ++ [e] }

/-- The next free value. -/
def freeNow (s : State) : Nat := Config.freeValue s.freeCtr
/-- Count one free value as drawn. -/
def drawn (s : State) : State := { s with freeCtr := s.freeCtr + 1 }

/-! ### Roles -/

def isHead (s : State) : Bool := s.pw.role == some .head
def isCell (s : State) : Bool := s.pw.role == some .cell
/-- The part runs (PWR_STATE RUN or FAULT_HOLD). -/
def running (s : State) : Bool := s.pw.pwr == .run
/-- The blocks work: RUN outside FAULT_HOLD (R392 keeps lanes idle and outputs safe there). -/
def working (s : State) : Bool := s.running && !s.pw.faultHold
def headOn (s : State) : Bool := s.working && s.isHead
def cellOn (s : State) : Bool := s.working && s.isCell
/-- An active HEAD (R37). -/
def activeHead (s : State) : Bool := s.headOn && s.pw.standing == .active
/-- An UNDERSTUDY. -/
def understudy (s : State) : Bool := s.headOn && s.pw.standing == .understudy

/-! ### Time -/

/-- A trimmed 64-bit count when u nominal units pass: the trim, in 0.001 ppm, is carried through a fractional
accumulator of 32 bits to the PWM cycle (R62). Answers the count and the accumulator after. -/
def trimmed (count acc u : Nat) (rate : Int) : Nat × Nat :=
  let perCycle : Int := rate * 16 * 4294967296 / 1000000000
  let a : Int := (acc : Int) + (u : Int) * perCycle
  let w : Int := a / 68719476736
  (ofI 64 ((count : Int) + (u : Int) + w), (a % 68719476736).toNat)

/-- TB2 and TB1 after u units of 125 ps. -/
def nsAfter (sub u : Nat) : Nat := (sub + u) / 8

/-- TB3 after u units of 125 ps: a waiting write takes effect at the next PWM cycle (R75), 16 units, and TB3 runs on from
it. -/
def tb3After (t : TimeBlock) (rate3 : Int) (u : Nat) : TimeBlock :=
  let toCycle := 16 - (t.tb2 * 8 + t.tb2Sub) % 16
  match t.tb3Step with
  | some v =>
    if toCycle ≤ u then
      let q := trimmed v t.tb3Acc (u - toCycle) rate3
      { t with tb3 := q.1, tb3Acc := q.2, tb3Step := none, stepAt := some (t.tb2 + nsAfter t.tb2Sub toCycle) }
    else
      let q := trimmed t.tb3 t.tb3Acc u rate3
      { t with tb3 := q.1, tb3Acc := q.2 }
  | none =>
    let q := trimmed t.tb3 t.tb3Acc u rate3
    { t with tb3 := q.1, tb3Acc := q.2 }

/-- u units of 125 ps pass. Without REF, TB0 and TB3 stand still (R503). -/
def elapseTm (t : TimeBlock) (ref : Bool) (rate3 : Int) (u : Nat) : TimeBlock :=
  let n := nsAfter t.tb2Sub u
  let r := trimmed t.tb1 t.tb1Acc n t.tb1Rate
  let t2 := if ref then tb3After t rate3 u else t
  let p := if ref then trimmed t.tb0 t.tb0Acc u t.tb0Rate else (t.tb0, t.tb0Acc)
  { t2 with tb2 := (t.tb2 + n) % 2 ^ 64, tb2Sub := (t.tb2Sub + u) % 8, tb1 := r.1, tb1Acc := r.2, tb0 := p.1, tb0Acc := p.2 }

/-- u units of 125 ps pass. -/
def elapse (s : State) (u : Nat) : State :=
  { s with tm := elapseTm s.tm s.pw.refGood (s.oi 32 Obj.tb3Rate) u }

/-- Time passes until TB2 reaches an instant (it never goes back). -/
def toTb2 (s : State) (t : Nat) : State :=
  if s.tm.tb2 < t then s.elapse (8 * (t - s.tm.tb2) - s.tm.tb2Sub) else s

/-- Time passes until TB0 reaches an instant (it never goes back): TB0 then stands at it. -/
def toTb0 (s : State) (t : Nat) : State :=
  let d := toI 64 (t + 2 ^ 64 - s.tm.tb0 % 2 ^ 64)
  if 0 < d then
    let s1 := s.elapse d.toNat
    { s1 with tm := { s1.tm with tb0 := if s.pw.refGood then t % 2 ^ 64 else s1.tm.tb0 } }
  else s

/-- TB0 now, ns from the start of the current CUE. -/
def inCueNs (s : State) : Int := toI 64 (s.tm.tb0 + 2 ^ 64 - s.tm.cueStart % 2 ^ 64) / 8

/-- The start of the next CUE in TB0: for a CELL the mark's instant where it holds one (R50, R51). -/
def nextStart (s : State) : Nat := (s.tm.cueStart + 8 * s.tm.cueLen) % 2 ^ 64

/-- Whether CUE stamp a lies in the future of b (R48). -/
def cueAfter (a b : Nat) : Bool := let d := subMod 32 a b; decide (1 ≤ d) && decide (d < 2 ^ 31)
/-- Whether CUE stamp a is b or lies in its future. -/
def cueFrom (a b : Nat) : Bool := decide (subMod 32 a b < 2 ^ 31)

/-- The CUE period in force for CUE k, by the writes accepted so far (R49). -/
def periodAt (s : State) (k : Nat) : Nat :=
  match (s.tm.periodNext.filter (fun e => cueFrom k e.1)).getLast? with
  | some e => e.2
  | none => s.tm.period

end State

end Sys2Proof.Machine
end

