-- ==== Sys2Proof/Machine/Irq.lean ====
section
/-! DEFINITION. The interrupt controller's shared operations: source events, targets, the delivery test, arbitration,
claim and completion (R408 to R425). -/

namespace Sys2Proof.Machine

/-- An interrupt group at reset. -/
def IrqGroup.idle : IrqGroup :=
  { count := 0, firstAt := none, claimAt := none, deliv := none, held := none, viaItem := false, refire := 0,
    deliveries := 0, claims := 0, refires := 0, holdWaits := 0, fallbacks := 0, withdrawals := 0 }

/-- Sources of a group that Table 15-1 lists for the HEAD role, as a mask. -/
def irqHeadMask (g : Nat) : Nat :=
  match g with
  | 2 => 0x3F | 5 => 0x3F | 8 => 0 | 9 => 0x1F | 16 => 0x1F | 23 => 0x1F | 24 => 0x0F | 25 => 0x3F | 27 => 0x0F
  | 29 => 0 | 30 => 0x1F | 31 => 0
  | _ => if g < 32 then 0xFF else 0

/-- Sources of a group that Table 15-1 lists for the CELL role, as a mask. -/
def irqCellMask (g : Nat) : Nat :=
  match g with
  | 0 => 0x6D | 2 => 0x3F | 3 => 0x03 | 4 => 0 | 5 => 0 | 6 => 0 | 7 => 0 | 9 => 0x0F | 16 => 0x1F | 20 => 0
  | 23 => 0 | 24 => 0x0F | 25 => 0x3F | 27 => 0 | 29 => 0 | 30 => 0x1F | 31 => 0
  | _ => if g < 32 then 0xFF else 0

/-- The target an accessor acts for: 0 to 3 the cores, 4 to 7 Seats 0 to 3 (Table 15-2). -/
def accTarget : Accessor → Nat
  | .core c => c.val
  | .path s => 4 + s.val
  | .hop _ => 7
  | .ring _ _ => 5
  | .engine => 0
  | .mirror s => 4 + s

namespace State

/-- The state of a group. -/
def grp (s : State) (g : Nat) : IrqGroup := Kv.get (fun _ => IrqGroup.idle) s.irq.groups g
/-- Replace the state of a group. -/
def setGrp (s : State) (g : Nat) (v : IrqGroup) : State :=
  { s with irq := { s.irq with groups := Kv.put (fun _ => IrqGroup.idle) g v s.irq.groups } }

/-- The 8 bits of group g in a source bit word. -/
def grpBits (w g : Nat) : Nat := w / 2 ^ (8 * g) % 256

/-- One source event (R410, R411): the pending bit is set; an enabled source counts towards COUNT (R418). -/
def irqEvent (g i : Nat) (s : State) : State :=
  let n := 8 * g + i
  let s1 := { s with irq := { s.irq with pend := setBit s.irq.pend n } }
  if hasBit s.irq.en n then
    let r := s.grp g
    s1.setGrp g { r with count := min 255 (r.count + 1),
                         firstAt := match r.firstAt with | none => some s.tm.tb2 | x => x }
  else s1

/-- A hardware source event: only the sources Table 15-1 lists for the role are ever set (R410). -/
def irqPost (g i : Nat) (s : State) : State :=
  let m := if s.isHead then irqHeadMask g else if s.isCell then irqCellMask g else 0
  if hasBit m i then s.irqEvent g i else s

/-- Every source of a mask of group g. -/
def irqPostMask (g mask : Nat) (s : State) : State :=
  (List.range 8).foldl (fun s i => if hasBit mask i then s.irqPost g i else s) s

/-- Enable a source: one whose pending bit is set counts as one event in the enabling cycle (R411). -/
def irqEnable (n : Nat) (s : State) : State :=
  if hasBit s.irq.en n then s
  else
    let s1 := { s with irq := { s.irq with en := setBit s.irq.en n } }
    if hasBit s.irq.pend n then s1.irqEvent (n / 8) (n % 8) else s1

/-- A source has nothing to re-fire any more. -/
def irqCalm (n : Nat) (s : State) : State :=
  let r := s.grp (n / 8)
  if hasBit r.refire (n % 8) then s.setGrp (n / 8) { r with refire := clrBit r.refire (n % 8) } else s

/-- Disable a source. -/
def irqDisable (n : Nat) (s : State) : State := State.irqCalm n { s with irq := { s.irq with en := clrBit s.irq.en n } }

/-- Discard a pending bit (R413). -/
def irqDiscard (n : Nat) (s : State) : State := State.irqCalm n { s with irq := { s.irq with pend := clrBit s.irq.pend n } }

/-! ### Targets -/

/-- Targets present in the role (Table 15-2): Seats 0 and 3 exist in a HEAD only. -/
def targetPresent (s : State) (t : Nat) : Bool :=
  decide (t < 8) && (s.isHead || (t != 4 && t != 7))

/-- A HOP session holds an event subscription (R416, Seat 3). -/
def anySubscribed (s : State) : Bool := s.seat.sessions.any (fun e => e.2.groups != 0)

/-- Whether a target is asleep (R416). -/
def targetAsleep (s : State) (t : Nat) : Bool :=
  if t = 7 then !s.anySubscribed else hasBit s.irq.asleep t || (decide (t < 4) && s.pw.debugHalt)

/-- The target a group is treated as routed to (R416): the fallback of a sleeping seat when it is awake, the next core
of a sleeping core; none when the group is held. -/
def effTarget (s : State) (g : Nat) : Option Nat :=
  let t := s.og (Obj.irqRoute g)
  if t < 4 then
    if s.targetAsleep t then
      (if s.targetAsleep ((t + 1) % 4) then none else some ((t + 1) % 4))
    else some t
  else if s.targetAsleep t then
    let f := s.og (Obj.irqFallback (t - 4))
    if f = 0xFF ∨ s.targetAsleep f then none else some f
  else some t

/-! ### The delivery test -/

/-- Any ring port or cross-link in TEST, a SAFE_TEST running, or a loop injection running (R419). -/
def testActive (s : State) : Bool :=
  s.ring.ports.any (fun e => e.2.st == .test) || s.xl.links.any (fun e => e.2.st == .test) || s.saf.test.isSome || s.loop.injOn

/-- Any fault source ACTIVE or QUIET, or within 100 CUEs of a takeover (R419). -/
def recoveryActive (s : State) : Bool :=
  s.flt.srcs.any (fun e => e.2.st == .active || e.2.st == .quiet) ||
  (match s.irq.takeoverCue with
   | none => false
   | some c => decide (subMod 32 s.tm.cue c < 100))

/-- The 100 CUEs after a takeover have passed (R419). -/
def recoveryEnds (s : State) : State :=
  match s.irq.takeoverCue with
  | some c => if subMod 32 s.tm.cue c < 100 then s else { s with irq := { s.irq with takeoverCue := none } }
  | none => s

/-- IRQ_PHASE (R419). -/
def irqPhase (s : State) : Nat := packBits [s.irq.startPhase, s.testActive, s.recoveryActive]

/-- Hold-off replaces coalescing for the group (R419). -/
def holdOff (s : State) (g : Nat) : Bool :=
  let m := s.og (Obj.irqHmode g)
  m == 1 || (m == 2 && s.irqPhase != 0)

/-- The group has an enabled pending source. -/
def grpPending (s : State) (g : Nat) : Nat := grpBits (s.irq.pend &&& s.irq.en) g

/-- The test of the group's delivery mode (R417): coalescing, hold-off, or the re-fire of R423. -/
def modeTest (s : State) (g : Nat) : Bool :=
  let r := s.grp g
  if s.holdOff g then
    match r.claimAt with
    | none => true
    | some t => decide (s.og (Obj.irqHoldoffT g) * 1000 ≤ s.tm.tb2 - t)
  else
    r.refire &&& s.grpPending g != 0 || decide (s.og (Obj.irqCoalN g) ≤ r.count) ||
    (s.og (Obj.irqCoalT g) != 0 &&
      match r.firstAt with
      | none => false
      | some t => decide (s.og (Obj.irqCoalT g) * 1000 ≤ s.tm.tb2 - t))

/-- A group is deliverable (R417). -/
def deliverable (s : State) (g : Nat) : Bool :=
  s.grpPending g != 0 && grpBits s.irq.insv g == 0 && s.modeTest g

/-- Running priority of a target: the lowest PRIO among the groups it holds in service, 16 when none (R420). -/
def runPrio (s : State) (t : Nat) : Nat :=
  (List.range 32).foldl (fun p g =>
    let r := s.grp g
    if r.held = some t ∧ !r.viaItem then min p (s.og (Obj.irqPrio g)) else p) 16

/-- Number of groups a target holds in service. -/
def svcDepth (s : State) (t : Nat) : Nat :=
  ((List.range 32).filter (fun g => decide ((s.grp g).held = some t))).length

/-- The group that wins arbitration for a target (R420): lowest PRIO, then lowest number. -/
def winner (s : State) (t : Nat) : Option Nat :=
  (List.range 32).foldl (fun b g =>
    if s.deliverable g && s.effTarget g == some t && decide (s.og (Obj.irqPrio g) < s.runPrio t) then
      match b with
      | none => some g
      | some w => if s.og (Obj.irqPrio g) < s.og (Obj.irqPrio w) then some g else some w
    else b) none

/-! ### Withdrawal, delivery, claim, completion -/

/-- Withdraw the delivered, unclaimed groups that arbitration finds routed elsewhere (R424). -/
def withdraw (s : State) : State :=
  (List.range 32).foldl (fun s g =>
    let r := s.grp g
    match r.deliv with
    | none => s
    | some t =>
      if s.effTarget g == some t then s
      else s.setGrp g { r with deliv := none, withdrawals := inc 32 r.withdrawals }) s

/-- The layout of IRQ_CLAIM (Table 15-8). -/
def claimWord (prio g mask : Nat) : Nat := 0x80000000 + prio % 16 * 65536 + g % 32 * 256 + mask % 256

/-- Claim a group for a target: pending bits cleared, in-service bits set, COUNT 0, hold-off started (R421). -/
def claimGroup (g t : Nat) (via : Bool) (s : State) : State :=
  let m := s.grpPending g
  let r := s.grp g
  let s1 := { s with irq := { s.irq with pend := andNot s.irq.pend (m * 2 ^ (8 * g)),
                                         insv := s.irq.insv ||| (m * 2 ^ (8 * g)) } }
  s1.setGrp g { r with count := 0, firstAt := none, claimAt := some s.tm.tb2, deliv := none, held := some t,
                       viaItem := via, refire := 0, claims := inc 32 r.claims }

/-- Complete a group in service (R422, R423): a source in service that is pending again makes the group meet the delivery
test at once. -/
def completeGroup (g : Nat) (s : State) : State :=
  let r := s.grp g
  if grpBits s.irq.insv g = 0 then s
  else
    let again := s.grpPending g &&& grpBits s.irq.insv g
    let s1 := { s with irq := { s.irq with insv := andNot s.irq.insv (255 * 2 ^ (8 * g)) } }
    s1.setGrp g { r with held := none, viaItem := false, refire := again,
                         refires := if again = 0 then r.refires else inc 32 r.refires }

end State

end Sys2Proof.Machine
end

