-- ==== Sys2Proof/Machine/CapCore.lean ====
section
/-! DEFINITION. Capture operations that read no signal: records and the staging buffer, the PANTRY, triggers
(R299 to R309, R311). -/

namespace Sys2Proof.Machine

/-- Record kinds (Table 11-3). -/
abbrev kindData : Nat := 1
abbrev kindMark : Nat := 2
abbrev kindGap : Nat := 3

/-- A record with its header. -/
def capRecord (kind stream seq : Nat) (body : Bytes) : Bytes :=
  leBytes 1 kind ++ leBytes 1 stream ++ leBytes 2 (8 + body.length) ++ leBytes 4 seq ++ body

/-- The first free block of at least n bytes, lowest address first, given the blocks in use (R308). -/
def firstFit (size n : Nat) (used : List (Nat × Nat)) : Option (Nat × Nat) :=
  let starts := 0 :: used.map (fun b => b.1 + b.2)
  let ends (a : Nat) : Nat := used.foldl (fun m b => if a ≤ b.1 then min m b.1 else m) size
  let inside (a : Nat) : Bool := used.any (fun b => decide (b.1 ≤ a) && decide (a < b.1 + b.2))
  let holes := (starts.filter (fun a => !inside a && decide (a < size))).map (fun a => (a, ends a - a))
  (holes.filter (fun h => decide (n ≤ h.2))).foldl (fun (m : Option (Nat × Nat)) h =>
    match m with | none => some h | some x => if h.1 < x.1 then some h else some x) none

/-- The header of a window (Table 11-7). -/
def winHeader (w : PantryWin) : Bytes :=
  let b := leBytes 4 w.id ++ leBytes 1 w.stream ++ leBytes 1 w.flags ++ leBytes 2 w.recSize ++ leBytes 4 w.preHeld ++
    leBytes 4 w.postReq ++ leBytes 4 w.postHeld ++ leBytes 4 w.seq0 ++ leBytes 8 w.tb0 ++ leBytes 8 w.tb2 ++
    leBytes 1 w.tsrc ++ leBytes 1 (if w.ready then 2 else 1) ++ leBytes 2 0 ++ leBytes 2 w.caddr ++ leBytes 1 w.cstream ++
    zeros 13
  b ++ leBytes 4 (crc32 b)

/-- A window's bytes: header and the records written so far. -/
def winBytes (w : PantryWin) : Bytes := winHeader w ++ w.data.flatten

namespace State

/-- Streams of the role (R296). -/
def capCount (s : State) : Nat := if s.isHead then 8 else 4
def stream (s : State) (n : Nat) : CapStream := Kv.get (fun _ => CapStream.reset) s.cap.streams n
def setStream (s : State) (n : Nat) (v : CapStream) : State :=
  s.capSet fun c => { c with streams := Kv.put (fun _ => CapStream.reset) n v c.streams }
/-- Count one of CAP_STATS. -/
def capStat (n i : Nat) (s : State) : State :=
  let r := s.stream n
  s.setStream n { r with stats := r.stats.set i (inc 32 (r.stats.getD i 0)) }

/-- NSIG of a stream. -/
def nsig (s : State) (n : Nat) : Nat :=
  let d := s.dg (Obj.capSig n)
  ((List.range 8).takeWhile (fun i => rd d (2 * i) 2 != 0xFFFF)).length
/-- RECSIZE of a stream's DATA records (Table 11-4). -/
def recSize (s : State) (n : Nat) : Nat := 20 + 4 * s.nsig n

/-! ### The PANTRY (R308) -/

/-- Blocks in use: rings and windows. -/
def pantryUsed (s : State) : List (Nat × Nat) :=
  s.cap.streams.filterMap (fun e => e.2.block) ++ s.cap.wins.map (fun w => (w.base, w.len))
/-- The block an allocation takes: it sees the space before the releases of its own SYS cycle (Table 11-8). -/
def pantryFit (s : State) (n : Nat) : Option (Nat × Nat) :=
  firstFit s.cap.size n (s.pantryUsed ++
    (s.cap.freed.filter (fun b => b.2.2 == s.tm.tb2 / 2)).map (fun b => (b.1, b.2.1)))
/-- A block of the PANTRY is released. -/
def pantryRelease (b : Option (Nat × Nat)) (s : State) : State :=
  s.capSet fun c => { c with freed := c.freed.filter (fun x => x.2.2 == s.tm.tb2 / 2) ++
    (match b with | some x => [(x.1, x.2, s.tm.tb2 / 2)] | none => []) }

/-- PANTRY_FREE. -/
def pantryFree (s : State) : Nat :=
  let used := s.pantryUsed
  let total := s.cap.size - used.foldl (fun n b => n + b.2) 0
  let starts := 0 :: used.map (fun b => b.1 + b.2)
  let ends (a : Nat) : Nat := used.foldl (fun m b => if a ≤ b.1 then min m b.1 else m) s.cap.size
  let inside (a : Nat) : Bool := used.any (fun b => decide (b.1 ≤ a) && decide (a < b.1 + b.2))
  let big := starts.foldl (fun m a => if inside a then m else max m (ends a - a)) 0
  total * 2 ^ 32 + big

/-- A write of `len` bytes at positions `pos 0`, `pos 1`, … counted in bytes from word `base` of working memory: the words they lie in
hold what is written, whatever errors they held before (R490). -/
def memStore (base : Nat) (pos : Nat → Nat) (len : Nat) (s : State) : State :=
  let hit (w : Nat) : Bool := (List.range len).any (fun i => w == base + pos i / 16)
  s.workSet fun m => { m with bad := if m.bad.isEmpty then [] else Kv.keep (fun w => !hit w) m.bad,
                              wrong := if m.wrong.isEmpty then [] else Kv.keep (fun w => !hit w) m.wrong }
/-- Bytes of a window written: the header at offset 0, a record behind it. -/
def winStore (w : PantryWin) (off len : Nat) (s : State) : State := s.memStore Config.pantryWord (fun i => w.base + off + i) len

/-- Update a window. -/
def setWin (id : Nat) (f : PantryWin → PantryWin) (s : State) : State :=
  s.capSet fun c => { c with wins := c.wins.map (fun w => if w.id = id then f w else w) }

/-- The header of a window is rewritten (Table 11-7). -/
def winHead (id : Nat) (s : State) : State :=
  match s.cap.wins.find? (fun w => w.id == id) with
  | some w => s.winStore w 0 64
  | none => s

/-- A window becomes READY (R309). -/
def winReady (n : Nat) (s : State) : State :=
  match (s.stream n).win with
  | none => s
  | some id =>
    (((s.setWin id fun w => { w with ready := true }).setStream n { s.stream n with win := none }).irqPost 18 n).winHead id

/-- A DATA record joins the window being filled; one that is older than the trigger record moves its pre part on, of
PRE_HELD records. SEQ0 names the first held record. -/
def winAdd (n : Nat) (older : Bool) (r : Bytes) (s : State) : State :=
  match (s.stream n).win with
  | none => s
  | some id =>
    let s1 := s.setWin id fun w =>
      let l := w.data ++ [r]
      let d := if older then l.drop (l.length - w.preHeld) else l
      { w with data := d, seq0 := match d with | [] => w.seq0 | x :: _ => rd x 4 4 }
    match s1.cap.wins.find? (fun w => w.id == id) with
    | some w =>
      let s2 := s1.winStore w (64 + (w.data.length - 1) * w.recSize) w.recSize
      if w.preHeld + 1 + w.postHeld ≤ w.data.length then s2.winReady n else s2
    | none => s1

/-- A FILLING window ends early with TRUNC (R309, R311). -/
def winTrunc (n : Nat) (s : State) : State :=
  match (s.stream n).win with
  | none => s
  | some id =>
    (s.setWin id fun w => { w with flags := setBit w.flags 2, postHeld := w.data.length - (w.preHeld + 1) }).winReady n

/-! ### Records (R299 to R302) -/

/-- Bytes a staging buffer holds. -/
def stageUsed (r : CapStream) : Nat := r.stage.foldl (fun n e => n + e.2.length) 0

/-- Position of byte i from an offset on in a staging buffer, which wraps. -/
def stagePos (s : State) (n off i : Nat) : Nat := (off + i) % s.og (Obj.stageSize n)
/-- Bytes written to a staging buffer. -/
def stageWrite (n off len : Nat) (s : State) : State := s.memStore (Config.stagingWord n) (s.stagePos n off) len
/-- A record goes to the stream's seat (R301): dropped where less than 24 bytes would stay free; the first one after a
run of drops is preceded by a GAP. `mk` builds the record from its SEQ; the SEQ used is answered. -/
def capProduce (n : Nat) (mark : Bool) (at0 : Nat) (mk : Nat → Bytes) (s : State) : Nat × State :=
  let r := s.stream n
  let size := s.og (Obj.stageSize n)
  let len := (mk 0).length
  let s0 := s.capStat n 0
  let r0 := s0.stream n
  if s.og (Obj.streamSeat n) = 0xFF then (r.seq, s0.setStream n { r0 with seq := inc 32 r.seq })
  else if stageUsed r + len + 24 ≤ size then
    let s0 := s0.stageWrite n (r.rd + stageUsed r) (len + (if r.lost = 0 then 0 else 24))
    if r.lost = 0 then
      (r.seq, s0.setStream n { r0 with seq := inc 32 r.seq, stage := r.stage ++ [(s.tm.tb2, mk r.seq)] })
    else
      let gap := capRecord kindGap n r.seq (leBytes 4 r.lost ++ leBytes 2 r.lostMarks ++ leBytes 2 0 ++ leBytes 8 r.lostAt)
      let sq := inc 32 r.seq
      let s1 := s0.setStream n
        { r0 with seq := inc 32 sq, stage := r.stage ++ [(s.tm.tb2, gap), (s.tm.tb2, mk sq)], lost := 0, lostMarks := 0 }
      (sq, ((s1.capStat n 0).capStat n 2).irqPost 19 n)
  else
    let s1 := s0.setStream n
      { r0 with seq := inc 32 r.seq, lost := r.lost + 1, lostMarks := r.lostMarks + b2n mark,
                lostAt := if r.lost = 0 then at0 else r.lostAt }
    let s2 := s1.capStat n 1
    (r.seq, if mark then s2.capStat n 7 else s2)

/-- A DATA record joins the pre-trigger ring and the window being filled, where `older` says that it is older than the
window's trigger record. -/
def capKeep (n : Nat) (older : Bool) (rec_ : Bytes) (s : State) : State :=
  let r := s.stream n
  let pre := s.og (Obj.capPre n)
  let ring := r.ring ++ [rec_]
  (s.setStream n { r with ring := if r.block.isSome then ring.drop (ring.length - pre) else [] }).winAdd n older rec_

/-- The MARK of a trigger (Table 11-4); `dataSeq` gives the SEQ of the trigger's DATA record from the MARK's own. -/
def capMark (n : Nat) (dataSeq : Nat → Nat) (t : TrigRec) (s : State) : State :=
  (s.capProduce n true t.at0 (fun q => capRecord kindMark n q
    (leBytes 8 t.at0 ++ leBytes 1 t.src ++ leBytes 1 t.flags ++ leBytes 2 0 ++ leBytes 4 t.win ++ leBytes 4 (dataSeq q) ++
      leBytes 4 0))).2

/-- The MARKs of the triggers of one DATA record, oldest first, before that record takes its SEQ (R300). -/
def capMarks (n : Nat) : List TrigRec → State → State
  | [], s => s
  | t :: rest, s => capMarks n rest (s.capMark n (fun q => (q + 1 + rest.length) % 2 ^ 32) t)

/-- Bytes leave the front of a staging buffer. -/
def dropStage (k : Nat) : List (Nat × Bytes) → List (Nat × Bytes)
  | [] => []
  | (t, b) :: rest => if b.length ≤ k then dropStage (k - b.length) rest else (t, b.drop k) :: rest
def stageFree (n k : Nat) (s : State) : State :=
  let r := s.stream n
  s.setStream n { r with stage := dropStage k r.stage, rd := (r.rd + k) % s.og (Obj.stageSize n) }

/-! ### Triggers (R303, R305 to R309) -/

/-- The window of an accepted trigger (R308, R309): MARK flags and WIN_ID. -/
def winStart (n src at0 : Nat) (s : State) : Nat × Nat × State :=
  let r := s.stream n
  let pre := s.og (Obj.capPre n)
  let post := s.og (Obj.capPost n)
  let size := s.recSize n
  if pre = 0 ∧ post = 0 then (0, 0, s)
  else
    let held := r.ring.length
    let need := 64 + (held + 1) * size
    let mine := (s.cap.wins.filter (fun w => w.stream == n)).length
    match (if r.win.isSome ∨ 64 ≤ mine then none else s.pantryFit need) with
    | none => (2, 0, s.capStat n 5)
    | some (base, b) =>
      let postHeld := min post ((b - need) / size)
      let clip := decide (postHeld < post)
      let remote := s.og (Obj.sampleSrc n) == 0
      let rem := s.og (Obj.capRemote n)
      let id := s.cap.nextWin
      let w : PantryWin :=
        { id := id, stream := n, flags := packBits [clip, decide (held < pre), false, remote], recSize := size,
          preHeld := held, postReq := post, postHeld := postHeld,
          seq0 := match r.ring.head? with | some b => rd b 4 4 | none => inc 32 r.seq,
          tb0 := at0, tb2 := s.tm.tb2, tsrc := src, ready := false,
          caddr := if remote then rem / 65536 else 0, cstream := if remote then rem % 256 else 0,
          base := base, len := need + postHeld * size, data := r.ring }
      let s1 := (s.capSet fun c =>
        { c with wins := c.wins ++ [w], nextWin := if id + 1 = 2 ^ 32 then 1 else id + 1 }).setStream n { r with win := some id }
      let s2 := s1.winStore w 0 (64 + held * size)
      (if clip then 5 else 1, id, if clip then s2.capStat n 6 else s2)

/-- Hold-off is met (R306). -/
def holdMet (s : State) (n : Nat) : Bool :=
  let r := s.stream n
  let t := decide (r.holdAt + 1000 * s.og (Obj.holdoffT n) ≤ s.tm.tb2)
  let c := decide (s.og (Obj.holdoffN n) ≤ r.holdN)
  match s.og (Obj.holdoffMode n) with
  | 0 => true
  | 1 => t
  | 2 => c
  | _ => t && c

/-- A stream returns to ARMED and its level test restarts. -/
def capArm (n : Nat) (s : State) : State :=
  s.setStream n { s.stream n with st := .armed, low := false, high := false, holdN := 0 }

/-- Hold-off that is met ends (Table 11-6). -/
def holdEnd (n : Nat) (s : State) : State :=
  if (s.stream n).st = .holdoff ∧ s.holdMet n then s.capArm n else s

/-- A trigger that has no MARK of its own is held off (R305, R306). -/
def capHeldOff (n : Nat) (s : State) : State :=
  ((s.setStream n { s.stream n with holdN := (s.stream n).holdN + 1 }).capStat n 4).holdEnd n

/-- A forced trigger and a source trigger before one base sample are one trigger with the source's code (Table 11-8). -/
def trigMeets (src : Nat) (t : TrigRec) : Bool := !t.inside && ((t.src == 7) != (src == 7))
/-- The source's code replaces the forced one, in the MARK and in the window. -/
def trigMerge (n src : Nat) (s : State) : State :=
  let r := s.stream n
  if src = 7 then s
  else
    let ids := (r.trigs.filter (trigMeets src)).map (fun t => t.win)
    (s.setStream n { r with trigs := r.trigs.map (fun t => if trigMeets src t then { t with src := src } else t) }).capSet
      fun c => { c with wins := c.wins.map (fun w => if ids.contains w.id then { w with tsrc := src } else w) }

/-- A trigger of stream n at an instant, and the streams it chains to (R303, R305, Table 11-8); `fuel` bounds the
chain, `by_` is the stream that chained it. Its trigger sample is the first base sample at or after the instant: the one of
this very instant where the stream has taken it. Also: R314. -/
def capTriggerBy : Nat → Option Nat → Nat → Nat → Nat → State → State
  | 0, _, _, _, _, s => s
  | fuel + 1, by_, n, src, at0, s =>
    let s0 := s.holdEnd n
    let r := s0.stream n
    if r.trigs.any (trigMeets src) then s0.trigMerge n src
    else if r.st ≠ .armed then s0.capHeldOff n
    else
      let s1 := (s0.capStat n 3).irqPost 17 n
      let (flags, id, s2) := s1.winStart n src at0
      let r2 := s2.stream n
      let now := decide (0 < r2.n) && r2.lastAt == some at0
      let s3 := s2.setStream n
        { r2 with trigs := r2.trigs ++ [{ at0 := at0, src := src, inside := now, flags := flags, win := id }],
                  st := if s.og (Obj.armMode n) = 1 then .holdoff else .disarmed, holdAt := s.tm.tb2, holdN := 0,
                  undo := some { at2 := s.tm.tb2, by_ := by_, st := r.st, holdAt := r.holdAt, holdN := r.holdN,
                                 stats := r.stats, win := r.win, took := id, pend := hasBit s0.irq.pend (8 * 17 + n),
                                 first := (s0.grp 17).firstAt } }
      let s4 := s3.holdEnd n
      (List.range s.capCount).foldl (fun s k =>
        if s.og (Obj.trigSrc k) = 6 ∧ s.og (Obj.trigArg k) = n ∧ k ≠ n then capTriggerBy fuel (some n) k 6 at0 s else s) s4

/-- A trigger of stream n that no other stream chains. -/
def capTrigger (fuel n src at0 : Nat) (s : State) : State := capTriggerBy fuel none n src at0 s

/-- An event of an interrupt source that did not happen, posted in this SYS cycle: its pending bit and its group's count as
before, unless a target has claimed it. -/
def irqUnpost (g i : Nat) (pend : Bool) (first : Option Nat) (s : State) : State :=
  let r := s.grp g
  if !hasBit s.irq.pend (8 * g + i) then s
  else
    let s1 := if pend then s else { s with irq := { s.irq with pend := clrBit s.irq.pend (8 * g + i) } }
    if hasBit s.irq.en (8 * g + i) then s1.setGrp g { r with count := r.count - 1, firstAt := if r.count ≤ 1 then first else r.firstAt }
    else s1

/-- A stream is stopped in the SYS cycle of an accepted trigger: the stop comes first, so the trigger and those it chained were
not accepted (Table 11-8). -/
def capUntrigger : Nat → Nat → State → State
  | 0, _, s => s
  | fuel + 1, n, s =>
    let r := s.stream n
    match r.undo with
    | none => s
    | some u =>
      if u.at2 / 2 ≠ s.tm.tb2 / 2 then s
      else
        let s1 := (s.setStream n { r with st := u.st, holdAt := u.holdAt, holdN := u.holdN, stats := u.stats, win := u.win,
                                          trigs := r.trigs.dropLast, undo := none }).capStat n 4
        let s2 := s1.capSet fun c => if u.took = 0 then c else
          { c with wins := c.wins.filter (fun w => w.id != u.took), nextWin := u.took }
        (List.range s.capCount).foldl (fun s k =>
          if ((s.stream k).undo.map (fun x => x.by_)) = some (some n) ∧ k ≠ n then capUntrigger fuel k s else s)
          (s2.irqUnpost 17 n u.pend u.first)

/-- A happening of a trigger source, with a test of TRIG_ARG (Table 11-5). -/
def capHappen (src : Nat) (arg : Nat → Bool) (s : State) : State :=
  (List.range s.capCount).foldl (fun s n =>
    if s.og (Obj.trigSrc n) = src ∧ arg (s.og (Obj.trigArg n)) then capTrigger 9 n src s.tm.tb0 s else s) s

/-- A stream stops: the open interval is discarded, a FILLING window completes, the ring is freed (Table 11-6). -/
def capStop (n : Nat) (s : State) : State :=
  let s1 := (s.capUntrigger 9 n).winTrunc n
  (s1.setStream n { s1.stream n with st := .stopped, n := 0, trigs := [], ring := [], block := none }).pantryRelease (s1.stream n).block

/-- What a reset leaves of the capture block: READY windows, FILLING ones truncated (R311). -/
def capReset (s : State) : State :=
  let s1 := (List.range 8).foldl (fun s n => s.winTrunc n) s
  s1.capSet fun c => { c with streams := [] }

/-! ### Cells (R312) -/

/-- Whole records from the front of a staging buffer, as many as fit. -/
def wholeRecords : Nat → List (Nat × Bytes) → List Bytes
  | _, [] => []
  | room, (_, b) :: t => if b.length ≤ room then b :: wholeRecords (room - b.length) t else []

/-- The payloads of a cell's own CAPTURE frames that still wait at its ports. -/
def capWaiting (s : State) : List Bytes :=
  (s.ring.ports.flatMap (fun e => e.2.bg)).filterMap (fun x =>
    match x.what with
    | .ring _ f => if x.own && rd f 0 1 == 0x50 then some (slice f 20 (rd f 8 2)) else none
    | _ => none)

/-- The bytes of a stream's staging buffer that a CAPTURE frame has carried leave it with the frame (R301, R312). -/
def capSent (pl : Bytes) (s : State) : State := s.stageFree (rd pl 0 1) (pl.length - 4)

/-- What the CAPTURE frames that join the ports in this CUE carry: the stream, the offset in its staging buffer and whole records,
one frame per stream that sends to the ring; with the frames that wait from the last CUE at most CELL_BUDGET payload bytes in all
(R312). -/
def capCellFrames (s : State) : List (Nat × Nat × List Bytes) :=
  let waiting := s.capWaiting
  let held (n : Nat) : Nat := (waiting.filter (fun b => rd b 0 1 == n)).foldl (fun k b => k + (b.length - 4)) 0
  (List.range 4).foldl (fun (a : List (Nat × Nat × List Bytes)) n =>
    let used := waiting.foldl (fun k b => k + b.length) 0 + a.foldl (fun k x => k + 4 + x.2.2.flatten.length) 0
    let room := s.og Obj.cellBudget - used
    let recs := wholeRecords (min 1036 (room - 4)) (dropStage (held n) (s.stream n).stage)
    if s.og (Obj.streamSeat n) ≠ 0xFE ∨ recs.isEmpty ∨ room < 5 then a
    else a ++ [(n, (s.stream n).rd + held n, recs)]) []

/-- The waiting CAPTURE frames of a stream whose staging buffer is emptied go with it. -/
def capForget (n : Nat) (s : State) : State :=
  let keep (x : TxItem) : Bool := match x.what with
    | .ring _ f => !(x.own && rd f 0 1 == 0x50 && rd f 20 1 == n)
    | _ => true
  { s with ring := { s.ring with ports := s.ring.ports.map (fun e => (e.1, { e.2 with bg := e.2.bg.filter keep })) } }

end State

end Sys2Proof.Machine
end

