-- ==== Sys2Proof/Machine/FaultOps.lean ====
section
/-! DEFINITION. The fault collector's shared operations: raising and releasing a source, fencing, the first-fault
record and the violation logs that feed source 57 (R383 to R392). -/

namespace Sys2Proof.Machine

/-- A fault source at rest. -/
def FltSrc.idle : FltSrc := { st := .idle, on := [], rcnt := 0, quietAt := 0, lastAt := 0, insts := [], undo := none }

/-- What the instance code of a source names (Table 14-1). -/
inductive InstKind where
  | none | cell | port | other
  deriving DecidableEq, Repr

/-- The kind of instance of a source: cells for 37, 38, 42, 45, 46 and 47, ports for 39, 40, 44, 55 and 56. -/
def instKind (src : Nat) : InstKind :=
  match src with
  | 37 | 38 | 42 | 45 | 46 | 47 => .cell
  | 39 | 40 | 44 | 55 | 56 => .port
  | 3 | 4 | 5 | 6 | 7 | 8 | 9 | 11 | 14 | 15 | 33 | 34 | 41 | 48 | 49 | 53 | 54 | 59 => .other
  | _ => .none

/-- Whether Table 14-1 lists the source for the part's role. -/
def fltListed (s : State) (src : Nat) : Bool :=
  match src with
  | 16 | 23 | 24 | 26 | 27 | 28 | 29 | 30 | 31 | 32 => s.isCell
  | _ =>
    if 36 ≤ src ∧ src ≤ 56 ∨ src = 59 then s.isHead
    else decide (src ≤ 60) && (s.isHead || s.isCell)

/-- Insert a number into an ascending list without repeats. -/
def insertNat (n : Nat) : List Nat → List Nat
  | [] => [n]
  | x :: t => if n < x then n :: x :: t else if n = x then x :: t else x :: insertNat n t

namespace State

/-- The state of a source. -/
def fsrc (s : State) (n : Nat) : FltSrc := Kv.get (fun _ => FltSrc.idle) s.flt.srcs n
/-- Replace the state of a source. -/
def setFsrc (s : State) (n : Nat) (v : FltSrc) : State :=
  { s with flt := { s.flt with srcs := Kv.put (fun _ => FltSrc.idle) n v s.flt.srcs } }

/-- Class of a source (R385). -/
def fltClass (s : State) (src : Nat) : Nat := s.og (Obj.fltClass src)

/-- FSTAT: bit n set while source n is not IDLE (R391). -/
def fstat (s : State) : Nat :=
  s.flt.srcs.foldl (fun m e => if e.2.st = .idle then m else m + 2 ^ e.1) 0
/-- FACTIVE: pins asserted. -/
def factive (s : State) : Nat :=
  s.flt.srcs.foldl (fun m e => if e.2.on.isEmpty then m else m + 2 ^ e.1) 0
/-- FLATCHED. -/
def flatched (s : State) : Nat :=
  s.flt.srcs.foldl (fun m e => if e.2.st = .latched then m + 2 ^ e.1 else m) 0

/-- FCLASS of RSTAT: the highest class among the sources that are not IDLE, 0 with none (Table 14-2). -/
def fclass (s : State) : Nat :=
  s.flt.srcs.foldl (fun m e => if e.2.st = .idle then m else max m (s.fltClass e.1)) 0
/-- FLTSRC: the source of the first-fault record, 0xFF with none. -/
def fltsrc (s : State) : Nat := match s.flt.ff with | none => 0xFF | some f => f.src

/-- Append to FLT_ILOG, which keeps its last 64 entries. -/
def ilog (src what inst : Nat) (s : State) : State :=
  let e : ILogEntry := { tb2 := s.tm.tb2, cue := s.tm.cue, src := src, what := what, inst := inst,
                          test := false }
  { s with flt := { s.flt with ilog := (s.flt.ilog ++ [e]).drop (s.flt.ilog.length - 63) } }

/-- A detection of an injected fault is entered with its test flag, without any other reaction of the collector (R377). -/
def ilogTest (src inst : Nat) (s : State) : State :=
  let e : ILogEntry := { tb2 := s.tm.tb2, cue := s.tm.cue, src := src, what := 1, inst := inst, test := true }
  { s with flt := { s.flt with ilog := (s.flt.ilog ++ [e]).drop (s.flt.ilog.length - 63) } }

/-- Set a bit of FLT_EVT. -/
def fltEvt (b : Nat) (s : State) : State := s.evt (Blk.flt + 0x48) (2 ^ b)

/-- Record (Table 14-2): the instance log and the interrupt source of the class. -/
def record (src inst : Nat) (s : State) : State :=
  let c := s.fltClass src
  let s1 := s.ilog src 1 inst
  if 1 ≤ c ∧ c ≤ 3 then s1.irqPost 22 (c - 1) else s1

/-- The first-fault record (R388): written while empty; sources that leave IDLE in the same SYS cycle join its mask,
and the record takes the higher class, then the lower source. -/
def firstFault (src inst : Nat) (s : State) : State :=
  let c := s.fltClass src
  match s.flt.ff with
  | none =>
    let f : FirstFault := { src := src, cls := c, inst := inst, cue := s.tm.cue, tb2 := s.tm.tb2, co := 2 ^ src }
    ({ s with flt := { s.flt with ff := some f } }.fltEvt 0).irqPost 22 4
  | some f =>
    if f.tb2 / 2 = s.tm.tb2 / 2 then
      let co := setBit f.co src
      let f' := if f.cls < c ∨ (c = f.cls ∧ src < f.src) then { f with src := src, cls := c, inst := inst, co := co }
                else { f with co := co }
      { s with flt := { s.flt with ff := some f' } }
    else s

/-! ### Fencing -/

/-- The fencing source of a station slot, 0xFF with none (FENCE_INFO). -/
def fenceInfo (s : State) (slot : Nat) : Nat := Kv.get (fun _ => 0xFF) s.flt.fence slot
/-- The cell's bit in FENCE_MAP. -/
def fenced (s : State) (slot : Nat) : Bool := s.fenceInfo slot != 0xFF
/-- The cell's bypass-pending bit. -/
def bypPending (s : State) (slot : Nat) : Bool := Kv.get (fun _ => false) s.flt.byp slot
/-- The fence is in effect: it was made before the CTL cycle of the present instant (R386, Table 14-11). -/
def fenceActs (s : State) (slot : Nat) : Bool :=
  s.fenced slot && decide (Kv.get (fun _ => 0) s.flt.fenceAt slot / 4 < s.tm.tb2 / 4 ∨ s.tm.tb2 = 0)

/-- Fence a cell under a source (R386). -/
def fence (slot src : Nat) (byp : Bool) (s : State) : State :=
  let f := s.flt
  let was := s.fenced slot
  let s1 := { s with flt := { f with
    fence := Kv.put (fun _ => 0xFF) slot src f.fence,
    fenceAt := if was then f.fenceAt else Kv.put (fun _ => 0) slot s.tm.tb2 f.fenceAt,
    byp := if byp then Kv.put (fun _ => false) slot true f.byp else f.byp } }
  (s1.fltEvt 1).irqPost 22 6

/-- End a fence (R386, R387). -/
def unfence (slot : Nat) (s : State) : State :=
  let f := s.flt
  { s with flt := { f with
    fence := Kv.put (fun _ => 0xFF) slot 0xFF f.fence,
    fenceAt := Kv.put (fun _ => 0) slot 0 f.fenceAt,
    byp := Kv.put (fun _ => false) slot false f.byp } }

/-- The HEAD's record of a cell by station slot. -/
def cellRec (s : State) (slot : Nat) : CellRec := Kv.get (fun _ => CellRec.reset) s.ring.cells slot
def setCellRec (s : State) (slot : Nat) (v : CellRec) : State :=
  { s with ring := { s.ring with cells := Kv.put (fun _ => CellRec.reset) slot v s.ring.cells } }
/-- A cell the HEAD has admitted (R43, R67). -/
def cellAdmitted (s : State) (slot : Nat) : Bool := (s.cellRec slot).st == .admitted
/-- The station slots of ring port p. -/
def ringSlots (p : Nat) : List Nat := (List.range 96).map (fun i => 96 * p + i)

/-- The reaction of a source's class (Table 14-2). Also: R384. -/
def react (src inst : Nat) (s : State) : State :=
  let byp := s.og (Obj.fltByp src) == 1
  match s.fltClass src with
  | 3 =>
    if s.isHead then
      match instKind src with
      | .cell => s.fence inst src byp
      | .port => (ringSlots inst).foldl (fun s n => if s.cellAdmitted n then s.fence n src byp else s) s
      | _ => s
    else s
  | 4 =>
    if s.pw.faultHold then s
    else { s with flt := { s.flt with resetDue := true, causers := insertNat src s.flt.causers } }
  | _ => s

/-- A source becomes ACTIVE: trigger source 0x03 of the capture streams (Table 11-5). -/
def capFault (src : Nat) (s : State) : State := s.capHappen 3 (fun a => decide (a ≤ s.fltClass src))

/-- An assertion in the SYS cycle in which the source's quiet timer has expired or the source has been cleared wins (R391,
R406): the source is as it was before. -/
def undoIdle (src : Nat) (s : State) : State :=
  let r := s.fsrc src
  match r.undo with
  | some u =>
    if u.at2 / 2 = s.tm.tb2 / 2 then
      let s1 := s.setFsrc src { r with st := u.st, rcnt := u.rcnt, insts := u.insts, undo := none }
      if s1.flt.ff.isNone then { s1 with flt := { s1.flt with ff := u.ff } } else s1
    else s
  | none => s

/-- A source's pin is asserted for an instance (R391, Table 14-3). -/
def raise (src inst : Nat) (s0 : State) : State :=
  if !fltListed s0 src then s0
  else
    let s := s0.undoIdle src
    let r := s.fsrc src
    let fresh := !r.insts.contains inst
    let r1 := { r with on := insertNat inst r.on, insts := insertNat inst r.insts, lastAt := s.tm.tb2 }
    match r.st with
    | .idle => ((((s.setFsrc src { r1 with st := .active }).record src inst).firstFault src inst).react src inst).capFault src
    | .quiet => (((s.setFsrc src { r1 with st := .active }).record src inst).react src inst).capFault src
    | .active | .latched =>
      let s1 := s.setFsrc src r1
      if fresh then (s1.record src inst).react src inst else s1

/-- A source's pin is released for an instance; the quiet timer starts when the pin falls (Table 14-3). -/
def release (src inst : Nat) (s : State) : State :=
  let r := s.fsrc src
  if !r.on.contains inst then s
  else
    let on := r.on.filter (fun x => x != inst)
    let s1 := s.setFsrc src
      { r with on := on, lastAt := if on.isEmpty then s.tm.tb2 else r.lastAt,
               st := if on.isEmpty ∧ r.st = .active then .quiet else r.st,
               quietAt := if on.isEmpty ∧ r.st = .active then s.tm.tb2 else r.quietAt }
    s1.ilog src 2 inst

/-- Raise or release by a condition. -/
def raiseIf (c : Bool) (src inst : Nat) (s : State) : State := if c then s.raise src inst else s.release src inst

/-- A condition that lasts for one moment: the pin is asserted and released. -/
def pulse (src inst : Nat) (s : State) : State := (s.raise src inst).release src inst

/-- The source as it stands, for an assertion in this SYS cycle. -/
def undoOf (s : State) (r : FltSrc) : Option FltUndo :=
  some { at2 := s.tm.tb2, st := r.st, rcnt := r.rcnt, insts := r.insts, ff := s.flt.ff }

/-- A source returns to IDLE: its instance set empties, and the first-fault record empties with the last one (R387,
R388). -/
def goIdle (src rcnt : Nat) (s : State) : State :=
  let r := s.fsrc src
  let s1 := s.setFsrc src { r with st := .idle, rcnt := rcnt, insts := [], undo := s.undoOf r }
  if s1.fstat = 0 then { s1 with flt := { s1.flt with ff := none } } else s1

/-- Whether the quiet period of a source has passed. -/
def quietOver (s : State) (src : Nat) : Bool :=
  let r := s.fsrc src
  r.st == .quiet && decide (r.quietAt + s.og (Obj.fltQuiet src) * 1000000 ≤ s.tm.tb2)

/-- The quiet timer reaches FLT_QUIET (Table 14-3). With FLT_RLIM written below RCNT + 1 no row holds, and the source stays
as it is (R12). In FAULT_HOLD the RCNT of a SAFE source does not rise (R392). -/
def quietEnd (src : Nat) (s : State) : State :=
  let r := s.fsrc src
  let lim := s.og (Obj.fltRlim src)
  if s.pw.faultHold ∧ s.fltClass src = 4 then s.goIdle src r.rcnt
  else if r.rcnt + 1 < lim then s.goIdle src (r.rcnt + 1)
  else if r.rcnt + 1 = lim then
    ((s.setFsrc src { r with st := .latched, rcnt := lim, undo := s.undoOf r }).fltEvt 2).irqPost 22 5
  else s

/-- A clear of a LATCHED source: ignored while its pin is asserted (Table 14-3). -/
def clearLatched (src : Nat) (s : State) : State :=
  let r := s.fsrc src
  if r.st = .latched ∧ r.on.isEmpty then s.goIdle src 0 else s

/-! ### Violation logs -/

/-- The violation logs of all chapters. Each keeps one entry more than a read shows, so that more than 64 entries in
one second are seen. -/
def vlogs (s : State) : List (List VEntry) := [s.ring.vlog, s.xl.vlog, s.irq.vlog, s.seat.vlog, s.saf.vlog]

/-- More than 64 entries within one second of TB2 (source 57). -/
def logRate (s : State) (l : List VEntry) : Bool :=
  decide (64 < l.length) &&
    match l.head? with
    | none => false
    | some e => decide (s.tm.tb2 < e.tb2 + 1000000000)

/-- Source 57 follows the logs (Table 14-1). -/
def rateCheck (s : State) : State := s.raiseIf (s.vlogs.any s.logRate) 57 0

/-- Append to a log of 65 kept entries. -/
def logAdd (l : List VEntry) (e : VEntry) : List VEntry := (l ++ [e]).drop (l.length - 64)
/-- What a read of a log shows: its last 64 entries (R116). -/
def logShown (l : List VEntry) : List VEntry := l.drop (l.length - 64)

/-- An IRQ_VLOG entry with its count (R435). -/
def irqLog (code who detail : Nat) (s : State) : State :=
  let e : VEntry := { tb2 := s.tm.tb2, port := who, code := code, src := 0xFFFF, detail := detail }
  ({ s with irq := { s.irq with
      vlog := logAdd s.irq.vlog e,
      vcount := Kv.put (fun _ => 0) code (inc 32 (Kv.get (fun _ => 0) s.irq.vcount code)) s.irq.vcount } }).rateCheck

end State

end Sys2Proof.Machine
end

