-- ==== Sys2Proof/Machine/Dsp.lean ====
section
/-! DEFINITION. The dispatcher's shared operations: flows and queues, the pool, pushes, pops and the delay lists
(R426 to R433). -/

namespace Sys2Proof.Machine

def DspFlow.empty : DspFlow := { items := [], busy := none }

def DspQueue.idle : DspQueue :=
  { maxDepth := 0, lastWait := 0, maxWait := 0, nextFlow := 0, busyNs := 0, msIndex := 0, busyFrom := none, load := 0 }

namespace State

def flow (s : State) (f : Nat) : DspFlow := Kv.get (fun _ => DspFlow.empty) s.dsp.flows f
def setFlow (s : State) (f : Nat) (v : DspFlow) : State :=
  { s with dsp := { s.dsp with flows := Kv.put (fun _ => DspFlow.empty) f v s.dsp.flows } }
def queue (s : State) (q : Nat) : DspQueue := Kv.get (fun _ => DspQueue.idle) s.dsp.queues q
def setQueue (s : State) (q : Nat) (v : DspQueue) : State :=
  { s with dsp := { s.dsp with queues := Kv.put (fun _ => DspQueue.idle) q v s.dsp.queues } }
def delayList (s : State) (n : Nat) : List DelayedItem := Kv.get (fun _ => []) s.dsp.lists n
def setDelayList (s : State) (n : Nat) (v : List DelayedItem) : State :=
  let m := Kv.get (fun _ => 0) s.dsp.maxList n
  { s with dsp := { s.dsp with lists := Kv.put (fun _ => []) n v s.dsp.lists,
                               maxList := Kv.put (fun _ => 0) n (max m v.length) s.dsp.maxList } }
/-- A per-path word of the dispatcher: 0 DSP_PUSHST, 1 to 3 the popped words. -/
def dspPath (s : State) (t w : Nat) : Nat := Kv.get (fun _ => 0) s.dsp.path (4 * t + w)
def setDspPath (s : State) (t w v : Nat) : State :=
  { s with dsp := { s.dsp with path := Kv.put (fun _ => 0) (4 * t + w) v s.dsp.path } }

/-- The queue a flow feeds (R427): Seat s's flows 768 + 64s to 831 + 64s feed Q12 + s, and firmware flows 0 to 767 feed
Q0 to Q11, 64 flows a queue. -/
def flowQueue (f : Nat) : Nat := f / 64

/-- The target that owns a flow: Seat s owns 768 + 64s to 831 + 64s, the firmware (any core) the rest; a flow of a seat
absent in the role does not exist (R427). -/
def ownsFlow (s : State) (t f : Nat) : Bool :=
  if f < 768 then decide (t < 4)
  else decide (f < 1024) && t == 4 + (f - 768) / 64 && s.targetPresent t

/-- The flows of queue q, in ascending order. -/
def queueFlows (q : Nat) : List Nat := (List.range 64).map (fun i => 64 * q + i)

/-- Items of a queue that wait (not in service). -/
def queueDepth (s : State) (q : Nat) : Nat :=
  (queueFlows q).foldl (fun n f => n + (s.flow f).items.length) 0

/-- Whether the queue has an item in service. -/
def queueBusy (s : State) (q : Nat) : Bool := (queueFlows q).any (fun f => (s.flow f).busy.isSome)

/-- Pool entries used by the flows of a test: ready, in-service, delayed items and waiting operands (R426). -/
def poolUsed (s : State) (p : Nat → Bool) : Nat :=
  s.dsp.flows.foldl (fun n e =>
    if p e.1 then n + e.2.items.length + (if e.2.busy.isSome then 1 else 0) else n) 0 +
  (s.dsp.ops.filter (fun o => p o.flow)).length +
  s.dsp.lists.foldl (fun n e => n + (e.2.filter (fun d => p d.item.flow)).length) 0

/-- Whether one more entry fits the pool of 16,384 and the seat quota of 1,024. -/
def poolFits (s : State) (t : Nat) : Bool :=
  decide (s.poolUsed (fun _ => true) < 16384) &&
  (decide (t < 4) || decide (s.poolUsed (fun f => f / 64 == 12 + (t - 4)) < 1024))

/-- Account the busy time of a queue up to now, closing whole milliseconds of TB2 (R432). -/
def loadTick (q : Nat) (s : State) : State :=
  let r := s.queue q
  let ms := s.tm.tb2 / 1000000
  let from_ := match r.busyFrom with | none => s.tm.tb2 | some t => t
  if ms = r.msIndex then
    s.setQueue q { r with busyNs := r.busyNs + (s.tm.tb2 - from_),
                          busyFrom := r.busyFrom.map (fun _ => s.tm.tb2) }
  else
    let inLast := -- busy time inside the last whole millisecond
      let lo := (ms - 1) * 1000000
      let part := if r.busyFrom.isSome then ms * 1000000 - max lo from_ else 0
      if r.msIndex + 1 = ms then r.busyNs + part else part
    let now := if r.busyFrom.isSome then s.tm.tb2 - max from_ (ms * 1000000) else 0
    s.setQueue q { r with load := inLast * 1024 / 1000000, msIndex := ms, busyNs := now,
                          busyFrom := r.busyFrom.map (fun _ => s.tm.tb2) }

/-- The depth of a queue has risen by one: the largest depth, the not-empty source and the watermark follow (R432). -/
def depthRise (q : Nat) (s : State) : State :=
  let d := s.queueDepth q
  let r := s.queue q
  let s1 := s.setQueue q { r with maxDepth := max r.maxDepth d }
  let s2 := if d = 1 ∧ 12 ≤ q then s1.irqPost 28 (q - 12) else s1
  if s.og (Obj.dspDepthWm q) = d then (s2.irqPost 28 4).evt (Blk.dsp + 0x120) 1 else s2

/-- Append an item to its flow: it is ready, in a free entry of the pool; depth and watermark are kept (R426, R428, R432). Which
entry that is, the spec does not say: a free value (notes/assumptions/69.md, DESIGN CHOICE). -/
def enqueue (it : WorkItem) (s0 : State) : State :=
  let w := s0.freeNow % 4194304
  let s := s0.drawn.memStore w id 16
  let fl := s.flow it.flow
  (s.setFlow it.flow { fl with items := fl.items ++ [{ it with readyAt := s.tm.tb2, word := w }] }).depthRise (flowQueue it.flow)

/-- The flow a queue offers next: round robin, starting after the flow served last, over the flows with a ready item
and none in service (R428). -/
def offered (s : State) (q : Nat) : Option Nat :=
  let ready := (queueFlows q).filter (fun f => !(s.flow f).items.isEmpty && (s.flow f).busy.isNone)
  match ready.find? (fun f => decide ((s.queue q).nextFlow ≤ f)) with
  | some f => some f
  | none => ready.head?

/-- Pop one item of a queue (R428): it goes into service, its wait is recorded. -/
def popQueue (q : Nat) (s : State) : Option (WorkItem × State) :=
  match s.offered q with
  | none => none
  | some f =>
    match (s.flow f).items with
    | [] => none
    | it :: rest =>
      let wait := s.tm.tb2 - it.readyAt
      let s0 := s.loadTick q
      let s1 := s0.setFlow f { items := rest, busy := some it }
      let r := s1.queue q
      let s2 := s1.setQueue q { r with lastWait := wait, maxWait := max r.maxWait wait, nextFlow := f + 1,
                                       busyFrom := match r.busyFrom with | none => some s.tm.tb2 | x => x }
      let s3 := if s.og (Obj.dspWaitWm q) * 1000 ≤ wait then (s2.irqPost 28 5).evt (Blk.dsp + 0x120) 2 else s2
      some (it, s3)

/-- End a flow's item in service (R428); an item of kind 0x04 completes its group (R425). -/
def endItem (f : Nat) (s : State) : State :=
  match (s.flow f).busy with
  | none => s
  | some it =>
    let q := flowQueue f
    let s0 := s.loadTick q
    let s1 := s0.setFlow f { (s.flow f) with busy := none }
    let r := s1.queue q
    let s2 := if s1.queueBusy q then s1 else s1.setQueue q { r with busyFrom := none }
    if it.kind = 4 then s2.completeGroup it.tag else s2

/-- Insert a delayed item by release time, ties behind (R431). -/
def insertDelayed (d : DelayedItem) : List DelayedItem → List DelayedItem
  | [] => [d]
  | x :: t => if d.time < x.time then d :: x :: t else x :: insertDelayed d t

/-- The value of a time base 0 to 3. -/
def timeBase (s : State) (n : Nat) : Nat :=
  match n with
  | 0 => s.tm.tb0
  | 1 => s.tm.tb1
  | 2 => s.tm.tb2
  | _ => s.tm.tb3

/-- A push (R429): answers the result code of Table 15-5 and the state after. -/
def push (s : State) (t flow mode list tag a b time : Nat) : Nat × State :=
  if !s.ownsFlow t flow then (1, s.irqLog 4 t flow)
  else
    let item : WorkItem := { flow := flow, kind := 1, flags := 0, tag := tag, a := a, b := b, readyAt := s.tm.tb2, word := 0 }
    match mode with
    | 0 =>
      if !s.poolFits t then (2, s.evt (Blk.dsp + 0x120) 16) else (0, s.enqueue item)
    | 3 =>
      if list = 1 ∧ s.isCell then (6, s)
      else if 512 ≤ (s.delayList list).length then (5, (s.evt (Blk.dsp + 0x120) 8).irqPost 28 7)
      else if !s.poolFits t then (2, s.evt (Blk.dsp + 0x120) 16)
      else
        let d : DelayedItem := { time := time, late := decide (time < s.timeBase list), stepped := false, item := { item with kind := 3 } }
        (0, s.setDelayList list (insertDelayed d (s.delayList list)))
    | m =>
      let slot := m - 1
      let same := s.dsp.ops.any (fun o => o.flow == flow && o.tag == tag && o.slot == slot)
      let other := s.dsp.ops.find? (fun o => o.flow == flow && o.tag == tag && o.slot != slot)
      if same then (4, s.irqLog 5 t flow)
      else
        match other with
        | some o =>
          let rest := s.dsp.ops.filter (fun x => x != o)
          let a' := if slot = 0 then a else o.value
          let b' := if slot = 0 then o.value else a
          let s1 := { s with dsp := { s.dsp with ops := rest } }
          (0, s1.enqueue { item with kind := 2, a := a', b := b' })
        | none =>
          if 256 ≤ s.dsp.ops.length then (3, (s.evt (Blk.dsp + 0x120) 4).irqPost 28 6)
          else if !s.poolFits t then (2, s.evt (Blk.dsp + 0x120) 16)
          else
            let ops := s.dsp.ops ++ [{ flow := flow, tag := tag, slot := slot, value := a }]
            (0, { s with dsp := { s.dsp with ops := ops, maxOps := max s.dsp.maxOps ops.length } })

/-- A step of a time base marks the items it passes, which only a forward one does (R431, STEPPED). -/
def noteStep (n old new_ : Nat) (s : State) : State :=
  s.setDelayList n ((s.delayList n).map fun d => { d with stepped := d.stepped || (decide (old < d.time) && decide (d.time ≤ new_)) })

/-- Release the due items of one delay list (R431). -/
def releaseList (n : Nat) (s : State) : State :=
  let now := s.timeBase n
  let due := (s.delayList n).filter (fun d => decide (d.time ≤ now))
  let keep := (s.delayList n).filter (fun d => !decide (d.time ≤ now))
  due.foldl (fun s d => s.enqueue { d.item with flags := packBits [d.late, d.stepped] }) (s.setDelayList n keep)

end State

end Sys2Proof.Machine
end

