-- ==== Sys2Proof/Machine/WorkMem.lean ====
section
/-! DEFINITION. Working memory and its code (R466 to R471): the words' errors, what a read finds and delivers, the scrubber. -/

namespace Sys2Proof.Machine

namespace State

/-- Symbols of a word that its error pattern touches (R466). -/
def symsOf (m : Nat) : List Nat := (List.range 36).filter (fun i => m / 16 ^ i % 16 != 0)
/-- Error pattern of a word. -/
def wordErr (s : State) (w : Nat) : Nat := Kv.get (fun _ => 0) s.work.bad w
def setWordErr (w m : Nat) (s : State) : State :=
  s.workSet fun x => { x with bad := Kv.put (fun _ => 0) w m x.bad }
/-- What a word holds instead of the data written, as a code word that no read finds in error (R467). -/
def wordWrong (s : State) (w : Nat) : Nat := Kv.get (fun _ => 0) s.work.wrong w
def setWordWrong (w m : Nat) (s : State) : State :=
  s.workSet fun x => { x with wrong := Kv.put (fun _ => 0) w m x.wrong }

/-- A MEM_ERR_LOG entry: kind 1 corrected, 2 uncorrectable. -/
def memLog (w kind sym agent : Nat) (s : State) : State :=
  let e := (s.tm.tb2, w, kind, sym, agent)
  s.workSet fun x => { x with elog := (x.elog ++ [e]).drop (x.elog.length - 31) }

/-- A correctable error (R468): the corrected word is written back. -/
def memCorrected (w sym agent : Nat) (s : State) : State :=
  ((((s.setWordErr w 0).bump Obj.memCorrCount).memLog w 1 sym agent).pulse 13 0).irqPost 24 0

/-- An uncorrectable error (R469): the word stays as stored. -/
def memUncorrectable (w agent : Nat) (s : State) : State :=
  (((s.bump Obj.memUncorrCount).memLog w 2 0xFF agent).pulse 12 0).irqPost 24 1

/-- What a read of a word finds. -/
structure WordRead where
  /-- The data are uncorrectable. -/
  lost : Bool
  /-- The bits of the data delivered that differ from the data written. -/
  diff : Nat
  st : State

/-- A read of a word by an agent (R467 to R469). An error of three or more symbols may be found, be corrected wrongly, which
leaves another code word in its place, or go undetected: which is a free value. -/
def readWord (w agent : Nat) (s : State) : WordRead :=
  let m := s.wordErr w
  let x := s.wordWrong w
  match symsOf m with
  | [] => { lost := false, diff := x, st := s }
  | [i] => { lost := false, diff := x, st := s.memCorrected w i agent }
  | [_, _] => { lost := true, diff := Nat.xor x m, st := s.memUncorrectable w agent }
  | _ =>
    let f := s.freeNow
    let s1 := s.drawn
    if f % 3 = 0 then { lost := true, diff := Nat.xor x m, st := s1.memUncorrectable w agent }
    else if f % 3 = 1 then
      let i := f / 3 % 36
      let y := Nat.xor (Nat.xor x m) ((1 + f / 108 % 15) * 16 ^ i)
      { lost := false, diff := y, st := (s1.setWordWrong w y).memCorrected w i agent }
    else { lost := false, diff := Nat.xor x m, st := (s1.setWordWrong w (Nat.xor x m)).setWordErr w 0 }

/-- The words of a list in turn: what each read found, and the state after. -/
def readWords (agent : Nat) : List Nat → State → List (Nat × WordRead) × State
  | [], s => ([], s)
  | w :: t, s =>
    let x := s.readWord w agent
    let r := readWords agent t x.st
    ((w, x) :: r.1, r.2)

/-- A byte as a consumer receives it, by what the read of its word found: a seat reads 0xFF where the word is uncorrectable
(R469). -/
def readByte (agent k : Nat) (x : WordRead) (b : Byte) : Byte :=
  if x.lost ∧ agent = 2 then 0xFF#8 else b ^^^ BitVec.ofNat 8 (x.diff / 256 ^ (k % 16))

/-- What a consumer receives of bytes that the part wrote at positions `pos 0`, `pos 1`, … of working memory, counted in bytes
from word `base` on; whether a word was uncorrectable. Agents: 0 core, 1 CTL, 2 seat, 4 capture, 5 dispatcher. -/
def memLoad (agent base : Nat) (pos : Nat → Nat) (d : Bytes) (s : State) : Bytes × Bool × State :=
  if s.work.bad.isEmpty && s.work.wrong.isEmpty then (d, false, s)
  else
    let r := s.readWords agent ((List.range d.length).map (fun i => base + pos i / 16)).eraseDups
    let find (i : Nat) : Option WordRead := (r.1.find? (fun e => e.1 == base + pos i / 16)).map (fun e => e.2)
    (d.mapIdx (fun i b => match find i with | some x => readByte agent (pos i) x b | none => b),
      r.1.any (fun e => e.2.lost), r.2)

/-- TB2 at which the scrubber reads its next word: the words of a pass lie evenly in SCRUB_HOURS hours (R470). DESIGN CHOICE
(notes/assumptions/69.md): a write of SCRUB_HOURS moves the reads of the pass under way. -/
def scrubDue (s : State) : Nat := s.work.scrubAt + s.work.scrub * (s.og Obj.scrubHours * 3600000000000) / 4194304

/-- The scrubber's read of its next word, when it is due (R470). -/
def scrubRead (s0 : State) : State :=
  let s := s0.toTb2 s0.scrubDue
  let s1 := (s.readWord s.work.scrub 3).st
  let n := s.work.scrub + 1
  if n < 4194304 then s1.workSet fun x => { x with scrub := n }
  else (s1.workSet fun x => { x with scrub := 0, scrubAt := s.tm.tb2 }).irqPost 24 2

/-- MEM_INJ (R471): inverts all four bits of the named symbols of one word. -/
def applyMemInj (v : Nat) (s : State) : Except Nat State :=
  let a := fld v 29 24
  let b := fld v 37 32
  if 35 < a ∨ (35 < b ∧ b ≠ 0x3F) then .error 5
  else if (s.isHead && (s.og (Obj.modMode 0) != 0 || s.og (Obj.modMode 1) != 0)) || (s.isCell && s.ring.node.admitted) then
    .error 6
  else if !hasBit v 40 then .ok s
  else
    let w := fld v 21 0
    let m := Nat.xor (s.wordErr w) (15 * 16 ^ a)
    .ok (s.setWordErr w (if b = 0x3F ∨ b = a then m else Nat.xor m (15 * 16 ^ b)))

end State

end Sys2Proof.Machine
end

