-- ==== Sys2Proof/Machine/Access.lean ====
section
/-! DEFINITION. Object accesses: the tests of R440 in their order, answers, the seat log, the control-authority token
and the mirror queue (R438 to R443, R455 to R457, R463, R394). -/

namespace Sys2Proof.Machine

namespace State

/-! ### Accessors -/

/-- Seat whose rights an accessor has: a ring request has the Seat 1 column (R459). -/
def accSeat : Accessor → Option Nat
  | .path p => some p.val
  | .hop _ => some 3
  | .ring _ _ => some 1
  | _ => none

/-- The seat and session byte of a SEAT_VLOG entry (R463), none for an accessor that is no seat. -/
def accPort : Accessor → Option Nat
  | .path p => some (16 * p.val)
  | .hop n => some (0x30 + n % 16)
  | .ring _ st => some (16 * st.val)
  | _ => none

/-- Transport byte of the detail word: HOP TYPE or QSPI opcode. -/
def accOp (a : Accessor) (write : Bool) : Nat :=
  match a with
  | .hop _ => if write then 0x11 else 0x10
  | .path p => if p.val = 0 then 0 else 0x32
  | _ => 0

/-- Column of a seat in a row. -/
def colOf (c : Cols) : Nat → Col
  | 0 => c.s0
  | 1 => c.s1
  | 2 => c.s2
  | _ => c.s3

/-- The accessor's rights on a row: cores, the sequence engine and the mirror act beside the seat columns. -/
def rights (r : DictRow) (a : Accessor) : Col :=
  match accSeat a with
  | some n => colOf r.cols n
  | none => .rw

/-- Whether the accessor's path exists in the role (R20): Seats 0 and 3 in a HEAD, ring requests in a CELL. -/
def accPresent (s : State) : Accessor → Bool
  | .path p => s.isHead || p.val != 0
  | .hop n => s.isHead && decide (1 ≤ n) && decide (n ≤ 8)
  | .ring _ _ => s.isCell
  | .engine => s.isHead
  | .mirror _ => s.isHead
  | .core _ => true

/-- Whether the accessor holds the token, or needs none (R455, R457, R524). -/
def holdsToken (s : State) : Accessor → Bool
  | .path p => s.seat.holder == some p.val
  | .hop n => s.seat.holder == some 3 && s.seat.session == n
  | .ring auth _ => auth
  | _ => true

/-- Served in FAULT_HOLD: the identity, token and fault objects (R392, R443). -/
def servedInHold (k : Nat) : Bool :=
  (decide (0x100001 ≤ k) && decide (k ≤ 0x10000C)) || k == 0x101000 || k == 0x101001 ||
  (decide (0x102000 ≤ k) && decide (k ≤ 0x102005)) || (decide (0xB00000 ≤ k) && decide (k < 0xB02300))

/-- The row's block is on in the role (R20); the battery stage's block is on where the sub-module type has a stage. -/
def rowPresent (s : State) (r : DictRow) : Bool :=
  match r.roles with
  | .both => true
  | .head => s.isHead
  | .cell => s.isCell && (r.ilo / 256 != 0x68 || s.pw.smType == 3 || s.pw.smType == 4)

/-- Length test of a write (R441). SL_LOAD and UPD_DATA take a U32 offset and 1 to 1,020 bytes. -/
def writeLenOk (k : Nat) (r : DictRow) (n : Nat) : Bool :=
  match r.ty with
  | .dom =>
    if k = Obj.slLoad ∨ k = Obj.updData then decide (5 ≤ n) && decide (n ≤ 1024) else n == r.len
  | .str => decide (n ≤ r.len)
  | t => n == Dict.tySize t

/-- Bytes of the mirror queue (R394). -/
def mirrorBytes (s : State) : Nat := s.pair.mirror.foldl (fun n b => n + b.length) 0

/-- The HEAD is active and its partner follows it over XL0. -/
def paired (s : State) : Bool :=
  let l := Kv.get (fun _ => XlLink.reset) s.xl.links 0
  s.activeHead && (l.st == .up2 || l.st == .up1) && l.peer / 256 % 256 == 2

/-- Queue one record for the snapshot's variable part. -/
def mirrorAdd (b : Bytes) (s : State) : State :=
  if s.paired then { s with pair := { s.pair with mirror := s.pair.mirror ++ [b] } } else s

/-- The variable-part record of an object write: bytes padded to a multiple of 4 (Table 14-4). -/
def mirrorRec (k seat : Nat) (d : Bytes) : Bytes :=
  leBytes 1 2 ++ leBytes 1 (k % 256) ++ leBytes 2 (k / 256) ++ leBytes 2 d.length ++ leBytes 2 seat ++
    fit ((d.length + 3) / 4 * 4) d

/-! ### Answers and the seat log -/

/-- A SEAT_VLOG entry with its count (R463). -/
def seatLogAdd (port code detail : Nat) (s : State) : State :=
  let e : VEntry := { tb2 := s.tm.tb2, port := port, code := code, src := 0xFFFF, detail := detail }
  { s with seat := { s.seat with
      vlog := logAdd s.seat.vlog e,
      vcount := Kv.put (fun _ => 0) code (inc 32 (Kv.get (fun _ => 0) s.seat.vcount code)) s.seat.vcount } }

/-- A SEAT_VLOG entry of a seat's transport: the entry, its source of group 26, and the mark a QSPI STATUS reads (R447,
R463). -/
def seatLogEntry (port code detail : Nat) (s : State) : State :=
  let seat := port / 16
  let s1 := s.seatLogAdd port code detail
  let s2 := { s1 with seat := { s1.seat with viol := if seat = 1 ∨ seat = 2 then setBit s1.seat.viol seat else s1.seat.viol } }
  (s2.irqPost 26 (if seat = 3 then 4 else if seat = 0 then 6 else 5)).rateCheck

/-- Answer an access; a code other than 0x00 is logged, at a cell with no transport of its own for a ring's request; an
accepted seat access restarts the idle count (R498). -/
def answer (a : Accessor) (k code : Nat) (write : Bool) (s : State) : State :=
  let s1 := s.emit (.answer a k code)
  if code = 0 then
    (if (accPort a).isSome ∧ s1.isCell then s1.idleBreak else s1)
  else
    let detail := k / 256 * 65536 + k % 256 * 256 + accOp a write
    match a, accPort a with
    | .ring _ _, some p => (s1.seatLogAdd p code detail).rateCheck
    | _, some p => s1.seatLogEntry p code detail
    | _, none => s1

/-! ### The token -/

/-- Lowest requesting seat; Seat 3 requests while a session is recorded (R456, R524). -/
def tokenReq (s : State) : Nat := s.seat.req % 8 + (if s.seat.reqSess.isEmpty then 0 else 8)

/-- Give the token to a seat and session: its request is cleared, its lease starts, source 0 of group 26 is raised. -/
def tokenGive (t sess : Nat) (s : State) : State :=
  ({ s with seat := { s.seat with
      holder := some t, session := if t = 3 then sess else 0,
      req := if t = 3 then s.seat.req else clrBit s.seat.req t,
      reqSess := if t = 3 then s.seat.reqSess.filter (fun x => x != sess) else s.seat.reqSess,
      leaseAt := s.tm.tb2 } }).irqPost 26 0

/-- The holder gives the token up: it passes to the lowest requesting seat, of Seat 3 to its lowest requesting
session, or becomes FREE (Table 16-8, R524). -/
def tokenPass (s : State) : State :=
  match lowestBit s.tokenReq 4 with
  | none => { s with seat := { s.seat with holder := none, session := 0 } }
  | some 3 => s.tokenGive 3 (s.seat.reqSess.foldl min 8)
  | some t => s.tokenGive t 0

/-- The token becomes FREE and the requests are cleared (Table 16-8, last row; R457). -/
def tokenReset (s : State) : State :=
  { s with seat := { s.seat with holder := none, session := 0, req := 0, reqSess := [] } }

/-- The lease restarts. -/
def leaseRestart (s : State) : State := { s with seat := { s.seat with leaseAt := s.tm.tb2 } }

/-! ### The guarded write -/

/-- A write of a capture stream's object by a seat that its STREAM_SEAT excludes (R307). -/
def capDenied (s : State) (a : Accessor) (k : Nat) : Bool :=
  let i := k / 256
  ((decide (0x8000 ≤ i) && decide (i ≤ 0x8013)) || i == 0x8020) && decide (1 ≤ k % 256) &&
    (match accSeat a with
     | some seat =>
       let own := s.og (Obj.streamSeat (k % 256 - 1))
       decide (own < 4) && own != seat
     | none => false)

/-- The tests of R440 up to the token, for a write of n bytes: 0 when all pass. -/
def writeTests (a : Accessor) (k n : Nat) (s : State) : Nat :=
  if s.pw.faultHold && !servedInHold k then 0x0C
  else
    match Dict.lookup k with
    | none => 0x01
    | some r =>
      if !s.rowPresent r then 0x02
      else if rights r a != .rw || s.capDenied a k then 0x03
      else if !writeLenOk k r n then 0x07
      else if r.ctl && (accSeat a).isSome && s.understudy && s.isHead then 0x06
      else if r.ctl && !s.holdsToken a then 0x04
      else 0

/-- The mirror queue is full, so that the active HEAD refuses control-writing writes (R394). -/
def mirrorFull (s : State) (a : Accessor) (k : Nat) : Bool :=
  (match Dict.lookup k with | some r => r.ctl | none => false) && !(match a with | .mirror _ => true | _ => false) && s.paired &&
    decide (65536 ≤ s.mirrorBytes)

/-- After an accepted write: the lease of a control-writing write, the mirror record (R394, R455), the answer. -/
def accepted (a : Accessor) (k : Nat) (d : Bytes) (s : State) : State :=
  let ctl := match Dict.lookup k with | some r => r.ctl | none => false
  let s1 := if ctl && (accSeat a).isSome && s.holdsToken a then s.leaseRestart else s
  let s2 := if (ctl || k == Obj.slLoad || k == Obj.storeCmd) && !(match a with | .mirror _ => true | _ => false)
            then s1.mirrorAdd (if k = Obj.storeCmd then 0x03#8 :: d ++ zeros 2 else mirrorRec k ((accSeat a).getD 0) d) else s1
  s2.answer a k 0 true

/-- A write by an accessor: the tests in their order, then the object's own range and state tests and its effect
(`h`, which answers a code of Table 16-2 to refuse). An access before start-up completes, or by a path absent in the
role, has no effect. -/
def guardedWrite (a : Accessor) (k : Nat) (d : Bytes) (h : State → Except Nat State) (s : State) : State :=
  if !s.running || !s.accPresent a then s
  else
    match s.writeTests a k d.length with
    | 0 =>
      match h s with
      | .ok t => if s.mirrorFull a k then (s.answer a k 6 true).irqPost 23 4 else t.accepted a k d
      | .error c => s.answer a k c true
    | c => s.answer a k c true

/-- A write of a fixed-size object: the value as the bytes of its type. -/
def guardedValue (a : Accessor) (k v : Nat) (h : Nat → State → Except Nat State) (s : State) : State :=
  s.guardedWrite a k (leBytes (Dict.width k) v) (h (v % 2 ^ (8 * Dict.width k)))

/-- A read of an object: the tests of R440 that a read can fail, the zero value of an object absent in the role, then
the data and what the read does (R290 and the like). -/
def guardedRead (a : Accessor) (k : Nat) (d : State → Bytes) (after : State → State) (s : State) : State :=
  if !s.running || !s.accPresent a then s
  else if s.pw.faultHold && !servedInHold k then s.answer a k 0x0C false
  else
    match Dict.lookup k with
    | none => s.answer a k 1 false
    | some r =>
      let n := if r.len = 0 then Dict.tySize r.ty else r.len
      if !s.rowPresent r then (s.answer a k 0 false).emit (.data a k n (zeros n))
      else if rights r a == .no then s.answer a k 3 false
      else (after (s.answer a k 0 false)).emit (.data a k (d s).length (d s))

/-- The plain effect of a write: the value must lie in the row's range, and is stored. -/
def plainWrite (k v : Nat) (s : State) : Except Nat State :=
  match Dict.lookup k with
  | none => .error 1
  | some r => if Dict.inRange r v then .ok (s.oset k v) else .error 5

/-- The row's range holds for a value. -/
def rangeOk (k v : Nat) : Bool :=
  match Dict.lookup k with
  | none => false
  | some r => Dict.inRange r v

end State

end Sys2Proof.Machine
end

