-- ==== Sys2Proof/Machine/LinkOps.lean ====
section
/-! DEFINITION. What the rings and the cross-links share: ports and links, frames (R97 to R99, R126), violation logs
(R116, R142), forwarding (R106 to R108) and what a receiver checks. -/

namespace Sys2Proof.Machine

/-! ### Frames -/

/-- Fields of a ring frame header (Table 03-5). -/
structure Hdr where
  ty : Nat
  flags : Nat
  dst : Nat
  src : Nat
  seq : Nat
  len : Nat
  aux : Nat
  cue : Nat
  deriving DecidableEq, Repr

/-- Read a header. -/
def Hdr.read (f : Bytes) : Hdr :=
  { ty := rd f 0 1, flags := rd f 1 1, dst := rd f 2 2, src := rd f 4 2, seq := rd f 6 2, len := rd f 8 2,
    aux := rd f 10 2, cue := rd f 12 4 }

/-- A whole frame: header with its HCRC, payload, FCRC when there is a payload (R97). -/
def mkFrame (ty flags dst src seq aux cue : Nat) (pl : Bytes) : Bytes :=
  let h := leBytes 1 ty ++ leBytes 1 flags ++ leBytes 2 dst ++ leBytes 2 src ++ leBytes 2 seq ++
    leBytes 2 pl.length ++ leBytes 2 aux ++ leBytes 4 cue
  h ++ leBytes 4 (crc32 h) ++ (if pl.isEmpty then [] else pl ++ leBytes 4 (crc32 pl))

/-- HCRC of a received frame holds. -/
def hcrcOk (f : Bytes) : Bool := decide (20 ≤ f.length) && rd f 16 4 == crc32 (f.take 16)
/-- /T/ stands where LEN puts it, and LEN is within R97. -/
def lenOk (f : Bytes) : Bool :=
  let n := rd f 8 2
  (if rd f 0 1 = 0x10 then decide (n ≤ 1548) else decide (n ≤ 1024)) &&
    f.length == 20 + (if n = 0 then 0 else n + 4)
/-- The payload of a frame. -/
def payload (f : Bytes) : Bytes := slice f 20 (rd f 8 2)
/-- FCRC of a received frame holds. -/
def fcrcOk (f : Bytes) : Bool := rd f 8 2 == 0 || rd f (20 + rd f 8 2) 4 == crc32 (payload f)

/-- The cell address of a pair, ring and hop (R42). -/
def caddrOf (pair ring hop : Nat) : Nat := pair * 2048 + ring * 128 + hop
/-- HOP field of a CADDR. -/
def hopOf (a : Nat) : Nat := a % 128
/-- RING field of a CADDR. -/
def ringOf (a : Nat) : Nat := a / 128 % 16
/-- PAIR field of a CADDR. -/
def pairOf (a : Nat) : Nat := a / 2048 % 16

/-- Types Table 03-6 lists. -/
def knownType (t : Nat) : Bool :=
  [0x01, 0x02, 0x03, 0x04, 0x05, 0x06, 0x07, 0x10, 0x20, 0x30, 0x31, 0x40, 0x50].contains t
/-- Types whose SEQ is tracked (R99). -/
def seqTracked (t : Nat) : Bool := [0x10, 0x20, 0x30, 0x31, 0x40, 0x50].contains t

/-- Control symbols by number (Table 03-2): 0 /I/, 1 /O/, 2 /S/, 3 /R/, 4 /T/, 5 /E/, 6 /F/, 7 /C/; 8 stands for code
groups spoiled by the injector (R119), 9 for a training pattern, 10 for a silent lane, 11 for received bits sent on, 12 for
the pattern generator's stream (R118; the port number then counts lanes as `patReg` does). -/
abbrev symEnd : Nat := 4
abbrev symAbort : Nat := 5
abbrev symCurtain : Nat := 7

/-- Symbol time in 12.5 ps units by RATE code (Table 03-1). -/
def symTime (rate : Nat) : Nat :=
  match rate with
  | 0 => 640
  | 1 => 320
  | 2 => 160
  | _ => 128

namespace State

/-- TB2 in 12.5 ps units. -/
def now12 (s : State) : Nat := (s.tm.tb2 * 8 + s.tm.tb2Sub) * 10

/-! ### Ring ports -/

def rport (s : State) (p : Nat) : PortRec := Kv.get (fun _ => PortRec.reset) s.ring.ports p
def setPort (s : State) (p : Nat) (v : PortRec) : State :=
  { s with ring := { s.ring with ports := Kv.put (fun _ => PortRec.reset) p v s.ring.ports } }
def ringRec (s : State) (p : Nat) : RingRec := Kv.get (fun _ => RingRec.reset) s.ring.rings p
def setRing (s : State) (p : Nat) (v : RingRec) : State :=
  { s with ring := { s.ring with rings := Kv.put (fun _ => RingRec.reset) p v s.ring.rings } }
def setNode (s : State) (v : NodeRec) : State := { s with ring := { s.ring with node := v } }

/-- Ports the role has (Table 01-2). -/
def portCount (s : State) : Nat := if s.isHead then 12 else 2
def portUp (s : State) (p : Nat) : Bool := decide (p < s.portCount) && (s.rport p).st == .up
/-- The other port of a CELL. -/
def otherPort (p : Nat) : Nat := 1 - p
/-- The far end of ring p on this HEAD: the odd port in DUAL_PAIRED (R21). -/
def farPort (s : State) (p : Nat) : Option Nat := if s.pw.ringMode = 2 then some (p + 1) else none
/-- The ring a HEAD port belongs to (R22). -/
def ringOfPort (s : State) (p : Nat) : Nat := if s.pw.ringMode = 2 then p / 2 * 2 else p
/-- The port carries a ring of its own. -/
def namesRing (s : State) (p : Nat) : Bool := decide (p < 12) && (s.pw.ringMode != 2 || p % 2 == 0)
/-- The ring ports that name a ring. -/
def ringPorts (s : State) : List Nat := (List.range 12).filter (s.namesRing)

/-- Set RNG_EVT bits of port p: source p of group 3, or of group 4 for RP8 to RP11 (Table 15-1). -/
def rngEvt (p bit : Nat) (s : State) : State :=
  let s1 := s.evt (Blk.rng + 0x100 * p + 8) (2 ^ bit)
  if p < 8 then s1.irqPost 3 p else s1.irqPost 4 (p - 8)

/-- Count and log a ring violation (R115, R116). -/
def ringLog (p code caddr detail : Nat) (s : State) : State :=
  let e : VEntry := { tb2 := s.tm.tb2, port := p, code := code, src := caddr, detail := detail }
  let s1 := (s.bump (Obj.ringViol (code - 1) p)).bump Obj.vlogCount
  (({ s1 with ring := { s1.ring with vlog := logAdd s1.ring.vlog e } }).rngEvt p 2).rateCheck

/-- Detail word of R116. -/
def vdetail (ty seq : Nat) : Nat := ty * 0x1000000 + seq % 65536

/-! ### Transmission -/

/-- Launch a symbol with data. -/
def sendSym (p name : Nat) (d : Bytes) (s : State) : State := s.emit (.symbol p name d)

/-- TB0 at an instant given in 12.5 ps units of TB2. -/
def tb0At (s : State) (t12 : Nat) : Nat := ofI 64 ((s.tm.tb0 : Int) + ((t12 : Int) - s.now12) / 10)

/-- A check word with one bit inverted, as the injector spoils it (R119). -/
def spoil (f : Bytes) (off : Nat) : Bytes := patch f off [(f.getD off 0#8) ^^^ 0x01#8]

/-- One injection of modes 3 to 5 spent (R119). -/
def spendInj (p : Nat) (s : State) : State :=
  let r := s.rport p
  let s1 := s.setPort p { r with injLeft := r.injLeft - 1, injMode := if r.injLeft = 1 then 0 else r.injMode,
                                 injCue := some s.tm.cue }
  let a := Blk.rng + 0x100 * p + 0x3C
  s1.rset a (inc 32 (s1.rg a))

/-- Whether the injector acts on this frame in the given mode. -/
def injActs (s : State) (p mode : Nat) : Bool :=
  let r := s.rport p
  r.injMode == mode && decide (0 < r.injLeft) && r.injCue != some s.tm.cue

/-- A whole frame with another payload of the same length. -/
def reframe (f pl : Bytes) : Bytes := f.take 20 ++ pl ++ leBytes 4 (crc32 pl)

/-- The node's own stamp as the frame leaves (R98): the transmit stamp of a TIME or PROBE it originates; a TIME frame it
forwards has its correction raised by the residence time, 9 LTX cycles and the wait at the port (R64, R106). -/
def stamped (own : Bool) (ready start tb0 : Nat) (f : Bytes) : Bytes :=
  let ty := rd f 0 1
  if own ∧ (ty = 2 ∨ ty = 3) ∧ 28 ≤ f.length then reframe f (leBytes 8 tb0 ++ (payload f).drop 8)
  else if !own ∧ ty = 2 ∧ 40 ≤ f.length then
    let pl := payload f
    reframe f (pl.take 8 ++ leBytes 8 (ofI 64 (toI 64 (rd pl 8 8) + ((230 + (start - ready) / 10) * 1024 : Nat))))
  else f

/-- A frame leaves: the injector's modes 0x3 and 0x4 act on one the node originates (R119). -/
def leave (p : Nat) (own : Bool) (f : Bytes) (s : State) : State :=
  if own ∧ s.injActs p 3 then (s.spendInj p).emit (.ring p (spoil f 16))
  else if own ∧ s.injActs p 4 ∧ 24 < f.length then (s.spendInj p).emit (.ring p (spoil f (f.length - 4)))
  else s.emit (.ring p f)

/-- A port's transmitter starts an item at an instant. -/
def txStart (p t0 : Nat) (x : TxItem) (s : State) : State :=
  let r := s.rport p
  let s1 := s.setPort p { r with busy := t0 + (x.n + 2) * symTime r.rate }
  match x.what with
  | .ring q f =>
    let s2 := s1.leave q x.own (stamped x.own x.at12 t0 (s.tb0At t0) f)
    if x.own ∧ rd f 0 1 = 0x50 then s2.capSent (payload f) else s2
  | e => s1.emit e

/-- Before a ring reaches its operating rate only ENUM, RATE_CAP and LINK frames are sent on it (R89): a HEAD knows it
from its enumeration, an UNDERSTUDY from the SHEET frames that pass, a CELL from the frames it has received. -/
def mayStart (s : State) (p : Nat) (e : Emit) : Bool :=
  match e with
  | .ring _ f =>
    [1, 4, 5].contains (rd f 0 1) ||
      (if s.isHead then (s.ringRec (s.ringOfPort p)).opRate.isSome else s.ring.node.opRate)
  | _ => true

/-- The start of the next CUE as the node knows it: the mark's instant where a CELL holds one (R50, R51). -/
def cueEndAt (s : State) : Nat :=
  match s.tm.mark with
  | some m => if m.1 = inc 32 s.tm.cue then m.2 else s.nextStart
  | none => s.nextStart

/-- The instant at which a waiting background item would start, if it may (R109): the port's window is open and the item
ends BG_GUARD before the start of the next CUE. -/
def bgStart (s : State) (p : Nat) (x : TxItem) : Option Nat :=
  let r := s.rport p
  let t0 := max r.busy (max x.at12 r.bgAt)
  let tEnd := t0 + (x.n + 2) * symTime r.rate
  let left := since s.cueEndAt (s.tb0At tEnd) / 8
  if r.bgCue = some s.tm.cue ∧ s.mayStart p x.what ∧ (s.og Obj.bgGuard : Int) ≤ left then some t0 else none

/-- The waiting background item of the highest rank, oldest first, that may start. -/
def bgPick (s : State) (p : Nat) : Option (Nat × TxItem) :=
  let l := (s.rport p).bg.filter (fun x => (s.bgStart p x).isSome)
  let rank := l.foldl (fun m x => min m x.rank) 8
  match l.find? (fun x => x.rank == rank) with
  | some x => (s.bgStart p x).map (fun t => (t, x))
  | none => none

/-- The scheduled item of the highest rank, oldest first. -/
def txPick (l : List TxItem) : Option TxItem :=
  let rank := l.foldl (fun m x => min m x.rank) 8
  l.find? (fun x => x.rank == rank)

/-- TB2 up to which the node raises the CURTAIN on a port (R94, R132, R348): a HEAD that holds it on the ring and a cell with
RAISE until now, an UNDERSTUDY for 256 XLK cycles after the last set that named the port. -/
def raisesC (s : State) (p : Nat) : Option Nat :=
  if s.isCell then (if s.saf.raising then some s.tm.tb2 else none)
  else if (s.ringRec (s.ringOfPort p)).curtain then some s.tm.tb2
  else
    match (Kv.get (fun _ => XlLink.reset) s.xl.links 0).curtAt with
    | some t => if s.understudy ∧ hasBit (Kv.get (fun _ => XlLink.reset) s.xl.links 0).curtMask p then
        some (min s.tm.tb2 (t + 410)) else none
    | none => none

/-- The /C/ a port has sent again by now while the CURTAIN is raised on it: one in every 64 code-group slots (R94). -/
def repeatC (p : Nat) (s : State) : State :=
  let r := s.rport p
  match s.raisesC p, r.sentC with
  | some e, some t =>
    let per := 64 * symTime r.rate / 80
    let n := (e - t) / per
    if n = 0 ∨ !s.portUp p then s else (s.setPort p { r with sentC := some (t + n * per) }).emit (.curtains p n)
  | _, _ => s
/-- On every port of the node. -/
def repeatCs (s : State) : State := (List.range s.portCount).foldl (fun s p => s.repeatC p) s

/-- Everything a port's transmitter has started by now, in the order of Table 03-9 (at most `n` items): a frame in progress
is never interrupted. -/
def pumpN (p : Nat) : Nat → State → State
  | 0, s => s
  | n + 1, s =>
    let r := s.rport p
    if s.now12 < r.busy then s
    else
      match txPick r.txq with
      | some x => pumpN p n ((s.setPort p { r with txq := r.txq.erase x }).txStart p (max r.busy x.at12) x)
      | none =>
        match s.bgPick p with
        | some (t, x) => pumpN p n ((s.setPort p { r with bg := r.bg.erase x }).txStart p t x)
        | none => s
def pump (p : Nat) (s0 : State) : State :=
  let s := s0.repeatC p
  let r := s.rport p
  if s.portUp p then s.pumpN p (r.txq.length + r.bg.length) else s
/-- Every port's transmitter. -/
def pumpPorts (s : State) : State := (List.range s.portCount).foldl (fun s p => s.pump p) s

/-- An item joins a port's schedule. -/
def txAdd (p rank n : Nat) (own : Bool) (e : Emit) (s : State) : State :=
  let s1 := s.pump p
  let r := s1.rport p
  (s1.setPort p { r with txq := r.txq ++ [{ rank := rank, at12 := s1.now12, n := n, own := own, what := e }] }).pump p

/-- Bytes of forwarded frames and trains that wait at a port. -/
def fwdBytes (s : State) (p : Nat) : Nat :=
  (s.rport p).txq.foldl (fun n x => if x.rank = 2 ∧ !x.own then n + x.n else n) 0

/-- A frame or train that arrives is forwarded out of a port cut-through (R106); one that would overflow the 2,048 bytes of
the buffer is dropped with /E/ and counted FWD_OVF at the port it would leave (R108). -/
def txForward (p n src detail : Nat) (e : Emit) (s : State) : State :=
  let s1 := s.pump p
  if !s1.portUp p then s1
  else if s1.now12 < (s1.rport p).busy ∧ 2048 < s1.fwdBytes p + n then
    (s1.sendSym p symAbort []).ringLog p 8 src detail
  else s1.txAdd p 2 n false e

/-- Forward a received frame. -/
def forwardOut (p : Nat) (f : Bytes) (s : State) : State :=
  s.txForward p f.length (rd f 4 2) (vdetail (rd f 0 1) (rd f 6 2)) (.ring p f)

/-- Forward a frame that failed: what has been sent of it, ended with /E/ (R107). -/
def forwardBad (p : Nat) (f : Bytes) (s : State) : State :=
  s.txForward p f.length (rd f 4 2) (vdetail (rd f 0 1) (rd f 6 2)) (.symbol p symAbort f)

/-- The port whose record holds the SEQ counts of a port's source: each end of a ring is an originator of its own, the ports of
one cell are not (Table 03-5). DESIGN CHOICE (notes/assumptions/52.md). -/
def seqPort (s : State) (p : Nat) : Nat := if s.isHead then p else 0
/-- Key of a TYPE's count at the far end that an UNDERSTUDY's ports are, in the record of the HEAD's port. -/
abbrev farSeq (ty : Nat) : Nat := 256 + ty
/-- The SEQ of the next frame of a TYPE out of a port, and its count. -/
def nextSeq (p ty : Nat) (s : State) : Nat × State :=
  let q := s.seqPort p
  let r := s.rport q
  let n := Kv.get (fun _ => 0) r.txSeq ty
  (n, s.setPort q { r with txSeq := Kv.put (fun _ => 0) ty (inc 16 n) r.txSeq })

/-- Originate a frame on a port outside the background window, with its rank. `lead`: code groups sent ahead of this
instant (R101). -/
def originate (p rank lead ty flags dst src aux cue : Nat) (pl : Bytes) (s : State) : State :=
  let x := s.nextSeq p ty
  let f := mkFrame ty flags dst src x.1 aux cue pl
  x.2.txAdd p rank (f.length - lead) true (.ring p f)

/-- Send /C/ on a port in UP (R85, R92). -/
def sendC (p : Nat) (s : State) : State :=
  if s.portUp p then
    (s.sendSym p symCurtain []).setPort p { s.rport p with sentC := some s.tm.tb2 }
  else s

/-- A background item waits on a port with its rank in Table 03-9; it starts in the port's background window. -/
def bgAdd (p rank : Nat) (own : Bool) (f : Bytes) (s : State) : State :=
  let r := s.rport p
  (s.setPort p { r with bg := r.bg ++ [{ rank := rank, at12 := s.now12, n := f.length, own := own, what := .ring p f }] }).pump p

/-- The node originates a background frame. -/
def queueBg (p rank ty flags dst aux cue : Nat) (pl : Bytes) (s : State) : State :=
  let src := if s.isHead then caddrOf (s.og Obj.pairId) (s.ringOfPort p) 0 else s.ring.node.caddr
  let x := s.nextSeq p ty
  x.2.bgAdd p rank true (mkFrame ty flags dst src x.1 aux cue pl)

/-! ### Cross-links -/

def xlink (s : State) (l : Nat) : XlLink := Kv.get (fun _ => XlLink.reset) s.xl.links l
def setXl (s : State) (l : Nat) (v : XlLink) : State :=
  { s with xl := { s.xl with links := Kv.put (fun _ => XlLink.reset) l v s.xl.links } }
def xlUp (s : State) (l : Nat) : Bool := (s.xlink l).st == .up2 || (s.xlink l).st == .up1

/-- Set XL_EVT bits of a link: source l of group 5. -/
def xlEvt (l bit : Nat) (s : State) : State := (s.evt (Blk.xl + 0x100 * l + 8) (2 ^ bit)).irqPost 5 l

/-- Count and log a cross-link violation (R142): lane 0xF for a link-level entry. -/
def xlLog (l lane code detail : Nat) (s : State) : State :=
  let e : VEntry := { tb2 := s.tm.tb2, port := 16 * l + lane, code := code, src := 0xFFFF, detail := detail }
  let s1 := s.bump (Obj.xlViol (code - 1) l)
  (({ s1 with xl := { s1.xl with vlog := logAdd s1.xl.vlog e } }).xlEvt l 3).rateCheck

/-- The injector's modes 0x3 and 0x4 act on a frame a lane originates, at most once per CUE (R143): the frame as it is
sent, and the injector after it. -/
def xlInject (s : State) (i : Nat × Nat × Option Nat) (f : Bytes) : Bytes × (Nat × Nat × Option Nat) × Bool :=
  if (i.1 = 3 ∨ i.1 = 4) ∧ 0 < i.2.1 ∧ i.2.2 ≠ some s.tm.cue then
    (spoil f (if i.1 = 3 then 6 else f.length - 4), (if i.2.1 = 1 then 0 else i.1, i.2.1 - 1, some s.tm.cue), true)
  else (f, i, false)

/-- XL_INJCNT of a lane. -/
def xlInjCnt (l lane : Nat) : Nat := Blk.xl + 0x100 * l + 0x54 + 0x40 * lane

/-- Rank of a frame in Table 04-5 by its TYPE and, of a relay, the TYPE of the ring frame it carries. -/
def xlRank (ty carried : Nat) : Nat :=
  match ty with
  | 0x10 => if carried = 0x10 then 2 else if carried = 0x20 then 4 else 7
  | 0x11 => if carried = 0x20 then 4 else 7
  | 0x12 => 2
  | 0x02 | 0x03 => 3
  | 0x40 => 4
  | 0x20 | 0x30 => 5
  | 0x21 => 6
  | _ => 7

def xlLane (k : XlLink) (lane : Nat) : LaneTx := if lane = 0 then k.laneA else k.laneB
def setXlLane (k : XlLink) (lane : Nat) (x : LaneTx) : XlLink := if lane = 0 then { k with laneA := x } else { k with laneB := x }

/-- The lanes a link sends frames on: the transmit mask; lane 0 in HELLO, before there is one. DESIGN CHOICE
(notes/assumptions/47.md): the spec names no lane for the HELLO frames of HELLO state. -/
def xlTxLanes (k : XlLink) : Nat := if k.st = .hello ∧ k.tx = 0 then 1 else k.tx
/-- TIME and PROBE keep to lane 0, or to the only lane (R127); an item may name its lane. -/
def xlFits (k : XlLink) (lane : Nat) (x : XlItem) : Bool :=
  (!x.low || lane == 0 || !hasBit (xlTxLanes k) 0) && x.only.getD lane == lane

/-- Code groups of a symbol that may stand at any position, also inside a frame, leave every lane of the transmit mask: they
delay what follows and count towards R121's 1,024. -/
def xlMark (l n : Nat) (s : State) : State :=
  let k := s.xlink l
  let put (a : LaneTx) : LaneTx :=
    if a.busy ≤ s.now12 then { a with busy := s.now12 + n * 128, cur := none, run := n }
    else { a with busy := a.busy + n * 128, run := a.run + n }
  s.setXl l { k with laneA := if hasBit (xlTxLanes k) 0 then put k.laneA else k.laneA,
                     laneB := if hasBit (xlTxLanes k) 1 then put k.laneB else k.laneB }

/-- Mask of the rings the HEAD holds under the CURTAIN (R130). -/
def curtainMask (s : State) : Nat := s.ringPorts.foldl (fun m p => if (s.ringRec p).curtain then setBit m p else m) 0
/-- CURTAIN sets leave on a link: an active HEAD raises a CURTAIN, and the link is in service (R131), XL1 and XL2 under PEER_CURT
(R354). -/
def setsOn (s : State) (l : Nat) : Bool :=
  s.activeHead && s.curtainMask != 0 && s.xlUp l && (l == 0 || hasBit (s.og Obj.peerCurt) 0)
/-- A CURTAIN set leaves on every lane of a link's transmit mask with the mask of the rings held; without one to send the
link's repeats end. -/
def sendCurtainSet (l : Nat) (s : State) : State :=
  if s.setsOn l then
    let s1 := s.xlMark l 5
    (s1.setXl l { s1.xlink l with setAt := some s1.tm.tb2 }).emit (.xlSet l s1.curtainMask)
  else if (s.xlink l).setAt.isNone then s
  else s.setXl l { s.xlink l with setAt := none }
/-- CURTAIN sets leave with the mask of the rings held. -/
def sendCurtainSets (s : State) : State := [0, 1, 2].foldl (fun s l => s.sendCurtainSet l) s

/-- The CURTAIN sets a link has sent again by now while a CURTAIN is raised: one in every 64 code groups per lane (R131,
R354). A set that falls into the frame under way on a lane delays its end by five code groups; between frames it takes the place
of idle ones. -/
def repeatSet (l : Nat) (s : State) : State :=
  match s.setsOn l, (s.xlink l).setAt with
  | true, some t =>
    let n := (s.tm.tb2 - t) / 102
    let k := s.xlink l
    let put (a : LaneTx) : LaneTx :=
      let j := min n ((a.busy - 80 * t) / 7520)
      { a with busy := a.busy + j * 640, run := if j = n then a.run + 5 * n else a.run }
    let k1 := { k with setAt := some (t + 102 * n),
                       laneA := if hasBit k.tx 0 then put k.laneA else k.laneA,
                       laneB := if hasBit k.tx 1 then put k.laneB else k.laneB }
    if n = 0 then s else (s.setXl l k1).emit (.xlSets l s.curtainMask n)
  | _, _ => s.sendCurtainSet l

/-- A lane starts a frame at an instant (R126, R98): the link's XSEQ, the transmit stamp of TIME and PROBE, the injector. A
lane that has sent 1,024 code groups since its last /I/ sends /I/ first (R121). A SHEET relay that starts as it is first ready
has begun 41 code groups earlier, so that record 0 leaves at the end of computation (R134). -/
def xlStart (l lane t0 : Nat) (x : XlItem) (s : State) : State :=
  let k := s.xlink l
  let a := xlLane k lane
  let lead := if x.lead ∧ t0 = x.at12 then min 41 ((t0 - a.busy) / 128) else 0
  let next := decide (t0 ≤ a.busy + lead * 128)
  let idle := decide (1024 ≤ a.run) && next
  let t1 := if idle then t0 + 2 * 128 else t0
  let pl := if x.low then leBytes 8 (s.tb0At t1) ++ x.pl.drop 8 else x.pl
  let h := leBytes 1 x.ty ++ leBytes 1 x.chan ++ leBytes 2 pl.length ++ leBytes 2 k.xseqTx
  let f := h ++ leBytes 2 (crc32 h) ++ pl ++ leBytes 4 (crc32 pl)
  let i := s.xlInject (if lane = 0 then k.injA else k.injB) f
  let n := f.length + 2 - lead
  let run := if next ∧ !idle then a.run + n + lead else n + lead
  let k1 := setXlLane { k with xseqTx := inc 16 k.xseqTx } lane { busy := t1 + n * 128, cur := some x, run := run }
  let s1 := s.setXl l (if lane = 0 then { k1 with injA := i.2.1 } else { k1 with injB := i.2.1 })
  let s2 := if i.2.2 then s1.rset (xlInjCnt l lane) (inc 32 (s1.rg (xlInjCnt l lane))) else s1
  let s3 := if idle then s2.emit (.xlIdle l lane) else s2
  s3.emit (.xl l lane i.1)

/-- The waiting frame of the highest rank, oldest first, that a lane may take; report records of one instant go in ascending
port order (R136). -/
def xlPick (k : XlLink) (lane : Nat) : Option XlItem :=
  let l := k.txq.filter (xlFits k lane)
  let rank := l.foldl (fun m x => min m x.rank) 9
  match l.find? (fun x => x.rank == rank) with
  | some x =>
    let tie := l.filter (fun y => y.rank == rank && y.ty == 0x12 && y.at12 == x.at12)
    if x.ty = 0x12 then tie.find? (fun y => tie.all (fun z => decide (y.chan ≤ z.chan))) else some x
  | none => none

/-- Everything a link's lanes have started by now (at most `n` frames): the lane that becomes free first takes the next
frame, lane 0 when both are free (R126, Table 04-5). -/
def xlPumpN (l : Nat) : Nat → State → State
  | 0, s => s
  | n + 1, s =>
    let k := s.xlink l
    let free (lane : Nat) : Bool := hasBit (xlTxLanes k) lane && decide ((xlLane k lane).busy ≤ s.now12)
    let go (lane : Nat) : Option (Nat × XlItem) := if free lane then (xlPick k lane).map (fun x => (lane, x)) else none
    let q0 := k.txq.foldl (fun m x => min m x.at12) s.now12
    let first := if free 1 && (!free 0 || decide (max k.laneB.busy q0 < max k.laneA.busy q0)) then 1 else 0
    match (go first).or (go (1 - first)) with
    | some (lane, x) =>
      xlPumpN l n ((s.setXl l { k with txq := k.txq.erase x }).xlStart l lane (max (xlLane k lane).busy x.at12) x)
    | none => s
def xlPump (l : Nat) (s : State) : State := let s1 := s.repeatSet l; s1.xlPumpN l (s1.xlink l).txq.length
def pumpLinks (s : State) : State := [0, 1, 2].foldl (fun s l => s.xlPump l) s
/-- Every /C/ and CURTAIN set that a CURTAIN raised so far has made the node send again has left. -/
def curtainsOut (s : State) : State := [0, 1, 2].foldl (fun s l => s.repeatSet l) s.repeatCs

/-- Send a cross-link frame (R126), on one lane if one is named: it waits for a lane with its rank; without a lane there is no
frame. -/
def xlSendOn (only : Option Nat) (l ty chan : Nat) (pl : Bytes) (s : State) : State :=
  let s1 := s.xlPump l
  let k := s1.xlink l
  if xlTxLanes k = 0 then s1
  else
    let x : XlItem := { rank := xlRank ty (rd pl 0 1), at12 := s1.now12, low := ty == 2 || ty == 3,
                        lead := ty == 0x10 && rd pl 0 1 == 0x10, only := only, ty := ty, chan := chan, pl := pl }
    (s1.setXl l { k with txq := k.txq ++ [x] }).xlPump l
/-- Send a cross-link frame on any lane. -/
def xlSend (l ty chan : Nat) (pl : Bytes) (s : State) : State := s.xlSendOn none l ty chan pl

/-- A relayed ring frame: header to FCRC, for port p (R134, R135). -/
def relayDn (p : Nat) (f : Bytes) (s : State) : State := if s.xlUp 0 then s.xlSend 0 0x10 p f else s
def relayUp (p : Nat) (f : Bytes) (s : State) : State := if s.xlUp 0 then s.xlSend 0 0x11 p f else s

/-! ### What a ring receiver checks -/

/-- SEQ tracking (R99): a gap is counted and the frame still accepted. -/
def trackSeq (p : Nat) (h : Hdr) (s : State) : State :=
  if !seqTracked h.ty then s
  else
    let r := s.rport p
    let key := h.ty * 65536 + h.src
    let prev := Kv.get (fun _ => 0) r.rxSeq key
    let s1 := s.setPort p { r with rxSeq := Kv.put (fun _ => 0) key (h.seq + 1) r.rxSeq }
    if prev = 0 ∨ prev % 65536 = h.seq then s1 else s1.ringLog p 7 h.src (vdetail h.ty h.seq)

/-- A frame is for the ring end of port p: HOP 0 or the broadcast of its own PAIR and RING (R42, Table 03-11). DESIGN CHOICE
(notes/assumptions/53.md): a LINK frame of a cell without a number carries 0x0000 as SRC and DST, and the ring end takes it. -/
def forEnd (s : State) (p : Nat) (h : Hdr) : Bool :=
  let base := caddrOf (s.og Obj.pairId) (s.ringOfPort p) 0
  h.dst == base || h.dst == base + 127 || (h.ty == 4 && h.src == 0 && h.dst == 0)

/-- A frame is for this node: a broadcast, its own CADDR, or HOP 0 at a ring end. -/
def addressed (s : State) (h : Hdr) : Bool :=
  if s.isHead then hopOf h.dst == 0 || hopOf h.dst == 127
  else hopOf h.dst == 127 || (s.ring.node.caddr != 0 && h.dst == s.ring.node.caddr)

/-- What reception leaves: a frame to act on, whether its FCRC holds, and the state. -/
structure Rx where
  hdr : Hdr
  pl : Bytes
  fcrc : Bool
  act : Bool
  st : State

/-- Forward a frame from port p of a CELL, or nothing at a ring end (R106). An UNDERSTUDY relays a whole frame for the
ring end to XL0 (R135). -/
def passOn (p : Nat) (bad : Bool) (fw : Bool) (f : Bytes) (s : State) : State :=
  if s.isCell then
    if !fw then s else if bad then s.forwardBad (otherPort p) f else s.forwardOut (otherPort p) f
  else if s.understudy ∧ !bad ∧ (hopOf (rd f 2 2) = 0 ∨ rd f 0 1 = 1) ∧ rd f 0 1 ≠ 3 then s.relayUp p f
  else s

/-- What of a frame whose length is wrong has been forwarded when the error shows (R107, Table 03-11): the header when LEN is
beyond R97, all up to where LEN puts /T/ otherwise. -/
def cutAtLen (f : Bytes) : Bytes :=
  let n := rd f 8 2
  if (if rd f 0 1 = 0x10 then 1548 else 1024) < n then f.take 20 else f.take (20 + (if n = 0 then 0 else n + 4))

/-- What shows in the bytes that have arrived of a frame before it ends: HCRC, a LEN beyond R97, or no /T/ where LEN puts it
(R107, R115): the code of Table 03-11. -/
def earlyErr (f : Bytes) : Nat :=
  let n := rd f 8 2
  if f.length < 20 then 0
  else if !hcrcOk f then 2
  else if (if rd f 0 1 = 0x10 then 1548 else 1024) < n ∨ 20 + (if n = 0 then 0 else n + 4) < f.length then 4
  else 0

/-- Reception of a frame on a ring port in UP (R97 to R99, R106, R107, R115). `fw` false keeps the node from forwarding a
good frame that its handler forwards itself. A code error outside a frame comes with no bytes and is counted only; so is one
after the header or the length of the frame has failed, since that has ended the frame. A frame with a DST not on the ring that
reaches a ring end is UNDELIVERED. DESIGN CHOICE (notes/assumptions/46.md): a frame that ends with a code error
or /E/ is dropped whole, so that a cell does not execute its own record of such a SHEET frame even where that record has
passed. DESIGN CHOICE (notes/assumptions/52.md): a frame whose FCRC fails does not move the SEQ that is expected. -/
def rxRing (p : Nat) (f : Bytes) (e : FrameEnd) (fw : Bool) (s : State) : Rx :=
  let h := Hdr.read f
  let none_ (t : State) : Rx := { hdr := h, pl := [], fcrc := false, act := false, st := t }
  let d := vdetail h.ty h.seq
  let own := s.isCell && s.ring.node.caddr != 0 && h.dst == s.ring.node.caddr && decide (4 ≤ f.length)
  let fwd := !own && h.ty != 3
  let bad (g : Bytes) : State := s.passOn p true fwd g
  if !s.portUp p then none_ s
  else
    let cut := earlyErr f
    let short : State := if cut = 2 then (bad (f.take 20)).ringLog p 2 0xFFFF 0 else (bad (cutAtLen f)).ringLog p 4 h.src d
    match e with
    | .codeErr =>
      none_ (if f.isEmpty then s.bump (Obj.ringViol 0 p)
        else if cut ≠ 0 then short.bump (Obj.ringViol 0 p) else (bad f).ringLog p 1 h.src d)
    | .abort => none_ (if cut ≠ 0 then short else bad f)
    | .nested => none_ (if cut ≠ 0 then short else (bad f).ringLog p 5 h.src d)
    | .whole =>
      if f.length < 20 then none_ ((bad f).ringLog p 4 0xFFFF 0)
      else if !hcrcOk f then none_ ((bad (f.take 20)).ringLog p 2 0xFFFF 0)
      else if !lenOk f then none_ ((bad (cutAtLen f)).ringLog p 4 h.src d)
      else if !fcrcOk f then
        if h.ty = 0x10 then
          { hdr := h, pl := payload f, fcrc := false, act := true, st := (s.passOn p true (fw && fwd) f).ringLog p 3 h.src d }
        else none_ ((bad f).ringLog p 3 h.src d)
      else
        let s0 := if s.isCell ∧ !([1, 4, 5].contains h.ty) then s.setNode { s.ring.node with opRate := true } else s
        let s1 := s0.trackSeq p h
        if s.isHead ∧ !s.forEnd p h ∧ h.ty ≠ 3 then none_ (s1.ringLog p 0x0F h.src d)
        else if !knownType h.ty && s1.addressed h then none_ ((s1.passOn p false (fw && fwd) f).ringLog p 6 h.src d)
        else { hdr := h, pl := payload f, fcrc := true, act := knownType h.ty, st := s1.passOn p false (fw && fwd) f }

/-- Reception of a frame by a command that names one TYPE: its handler runs on a frame of that type addressed to the
node; any other frame has had its whole treatment by reception alone. -/
def rxTyped (p : Nat) (f : Bytes) (e : FrameEnd) (ty : Nat) (fw : Bool) (h : Rx → State → State) (s : State) : State :=
  let fw' := if rd f 0 1 = ty then fw else true
  let r := s.rxRing p f e fw'
  if r.act ∧ r.hdr.ty = ty ∧ (r.fcrc ∨ ty = 0x10) then h r r.st else r.st

/-! ### Lane test (R117, R118, R143) -/

def pat (s : State) (i : Nat) : PatRec := Kv.get (fun _ => PatRec.reset) s.ring.pats i
def setPat (i : Nat) (x : PatRec) (s : State) : State :=
  { s with ring := { s.ring with pats := Kv.put (fun _ => PatRec.reset) i x s.ring.pats } }

/-- A lane-test register of a lane, by its offset in the map of a ring port (Tables 03-13 and 04-10). -/
def patReg (i off : Nat) : Nat :=
  if i < 12 then Blk.rng + 0x100 * i + off
  else Blk.xl + 0x100 * ((i - 12) / 2) + (if off < 0x20 ∨ 0x30 ≤ off then off else off + 0x20 + 0x40 * ((i - 12) % 2))
/-- The user pattern of a lane, 40 bits. -/
def userPat (s : State) (i : Nat) : Nat := s.rg (patReg i 0x30) % 2 ^ 32 + s.rg (patReg i 0x34) % 256 * 2 ^ 32

/-- The bit that follows a register of bits sent, newest in bit 0: PRBS-7, PRBS-15, PRBS-31, and the 40-bit user pattern,
which comes round again (R117). -/
def patNext (kind reg : Nat) : Bool :=
  match kind with
  | 1 => hasBit reg 6 != hasBit reg 5
  | 2 => hasBit reg 14 != hasBit reg 13
  | 3 => hasBit reg 30 != hasBit reg 27
  | _ => hasBit reg 39
/-- A register of 40 bits takes a bit. -/
def patShift (reg : Nat) (b : Bool) : Nat := (reg * 2 + b2n b) % 2 ^ 40
/-- A register that can stand in a pattern: no pattern of a polynomial is all zeros, and 40 bits of the user pattern are a
rotation of it. -/
def patReal (kind user reg : Nat) : Bool :=
  match kind with
  | 1 => reg % 2 ^ 7 != 0
  | 2 => reg % 2 ^ 15 != 0
  | 3 => reg % 2 ^ 31 != 0
  | _ => (List.range 40).any (fun k => (user * 2 ^ k + user / 2 ^ (40 - k)) % 2 ^ 40 == reg)

/-- The generator's next `n` bits, and its register after. DESIGN CHOICE (notes/assumptions/47.md): the phase at which it
starts is all ones, or the user pattern's first bit. -/
def patStream (kind user : Nat) (inv : Bool) : Nat → Nat → List Bool × Nat
  | 0, reg => ([], reg)
  | n + 1, reg =>
    let r := if kind = 4 ∧ !patReal 4 user reg then user else reg
    let b := patNext kind r
    let x := patStream kind user inv n (patShift r b)
    ((b != inv) :: x.1, x.2)

/-- The checker takes one bit (R117): out of lock it follows the stream and locks after 64 bits that continue it; in lock
it counts every bit that differs and loses lock after 16 errors in 1,024 bits. Answers whether the bit was an error in
lock, and whether a unit of 1,024 checked bits is full. -/
def patCheck (kind user : Nat) (rx : Bool) (x : PatRec) : PatRec × Bool × Bool :=
  let want := patNext kind x.chk
  if x.lock then
    let err := want != rx
    let errs := if err then (x.pos :: x.errs).take 16 else x.errs
    let drop := err && errs.length == 16 && decide (x.pos < errs.getLastD 0 + 1024)
    ({ x with chk := patShift x.chk want, pos := x.pos + 1, errs := if drop then [] else errs, bits := (x.bits + 1) % 1024,
              run := 0, lock := !drop }, err, x.bits + 1 == 1024)
  else
    let run := if want == rx && patReal kind user x.chk then x.run + 1 else 0
    ({ x with chk := patShift x.chk rx, run := run, lock := decide (64 ≤ run), pos := 0, errs := [] }, false, false)

/-- A lane's checker takes received bits (R117): RNG_PERR, RNG_PBITS and the lock follow. In TEST, LOOP 0x1 and 0x2 give it
the lane's own generator's stream, LOOP 0x3 sends the received bits on (R118). -/
def checkBits (i : Nat) (test : Bool) (bits : List Bool) (s : State) : State :=
  let loop := if test then fld (s.rg (patReg i 0)) 3 2 else 0
  let g := s.rg (patReg i 0x20)
  let c := s.rg (patReg i 0x24)
  let user := s.userPat i
  let back := (loop == 1 || loop == 2) && fld g 2 0 != 0
  let x0 := s.pat i
  let st := if back then patStream (fld g 2 0) user (hasBit g 3) bits.length x0.gen else (bits, x0.gen)
  let s0 := if loop = 3 then s.emit (.symbol i 11 (bits.map (fun b => BitVec.ofNat 8 (b2n b)))) else s
  if fld c 2 0 = 0 ∨ 4 < fld c 2 0 then s0.setPat i { x0 with gen := st.2 }
  else
    let step (a : PatRec × Nat × Nat) (b : Bool) : PatRec × Nat × Nat :=
      let r := patCheck (fld c 2 0) user (b != hasBit c 3) a.1
      (r.1, a.2.1 + b2n r.2.1, a.2.2 + b2n r.2.2)
    let r := st.1.foldl step ({ x0 with gen := st.2 }, 0, 0)
    let s1 := s0.setPat i r.1
    let s2 := s1.rset (patReg i 0x28) (satU 32 (s1.rg (patReg i 0x28) + r.2.1))
    let s3 := s2.rset (patReg i 0x2C) ((s2.rg (patReg i 0x2C) + r.2.2) % 2 ^ 32)
    if r.2.1 = 0 then s3 else if i < 12 then s3.rngEvt i 4 else s3.xlEvt ((i - 12) / 2) 5

/-- The generator of a lane in TEST sends its pattern (R118): PAT and INV. -/
def patSend (i : Nat) (s : State) : State :=
  let g := s.rg (patReg i 0x20)
  if fld g 2 0 = 0 ∨ 4 < fld g 2 0 then s else s.emit (.symbol i 12 [BitVec.ofNat 8 (g % 16)])

end State

end Sys2Proof.Machine
end

