-- ==== Sys2Proof/Machine/RingOps.lean ====
section
/-! DEFINITION. The rings' shared operations: bring-up (R86 to R91), the ends and path selection (R110 to R114),
enumeration, admission and arm slots (R25 to R33, R40 to R45, R522, R523). -/

namespace Sys2Proof.Machine

namespace State

/-! ### Bring-up -/

/-- Offset of a register in a port's lane window. -/
def rngReg (p off : Nat) : Nat := Blk.rng + 0x100 * p + off
def rngEn (s : State) (p : Nat) : Bool := hasBit (s.rg (rngReg p 0)) 0
def rngTest (s : State) (p : Nat) : Bool := hasBit (s.rg (rngReg p 0)) 1

/-- The ports may be brought up: a CELL's at any time outside FAULT_HOLD, a HEAD's once its standing has settled to
ACTIVE or UNDERSTUDY (R37). -/
def lanesAllowed (s : State) : Bool := s.cellOn || s.activeHead || s.understudy

/-- An /O/ set of a port (R86). -/
def offerSet (s : State) (p kind agreed : Nat) : Bytes :=
  let r := s.rport p
  leBytes 1 kind ++ leBytes 1 (if s.isHead then s.og Obj.headStanding else 3) ++
    leBytes 1 (if s.isHead then s.og Obj.pairId else 0) ++ leBytes 1 r.rateMax ++ leBytes 1 r.rateCap ++
    leBytes 1 agreed ++ leBytes 1 0

/-- A port enters DETECT: it sends /I/ at 1.25 Gb/s (Table 03-3). -/
def enterDetect (p silent : Nat) (s : State) : State :=
  let r := s.rport p
  (s.setPort p { r with st := .detect, silent := silent, sig := false, align := false, offers := 0, offer := [],
                        accepts := 0, rate := 0, training := false, bgCue := none, txq := [], busy := 0 }).sendSym p
    (if silent = 0 then 0 else 10) []

/-- A port whose EN is 1 and TEST is 0 leaves OFF. -/
def startPort (p : Nat) (s : State) : State :=
  if (s.rport p).st = .off ∧ s.rngEn p ∧ !s.rngTest p ∧ s.lanesAllowed then s.enterDetect p 0 else s
/-- Ring bring-up on all ports. -/
def startPorts (s : State) : State := (List.range s.portCount).foldl (fun s p => s.startPort p) s
/-- All lanes idle: every port is OFF. -/
def stopPorts (s : State) : State :=
  (List.range s.portCount).foldl (fun s p =>
    s.setPort p { PortRec.reset with txSeq := (s.rport p).txSeq, rxSeq := (s.rport p).rxSeq,
                                     rateCap := (s.rport p).rateCap }) s

/-- Whether R24 permits the neighbour's role byte: a HEAD finds cells, and in DUAL_UNDERSTUDY mode the other standing;
a CELL finds anything. -/
def nbrPermitted (s : State) (role : Nat) : Bool :=
  if s.isHead then
    role == 3 || (s.pw.ringMode == 1 && ((role == 2 && s.pw.standing == .active) ||
                                          (role == 1 && s.pw.standing == .understudy)))
  else true

/-- A CELL with HEAD-role parts on both ports is in no ring (R24). -/
def betweenHeads (s : State) : Bool :=
  s.isCell && (s.rport 0).nbr != 0 && (s.rport 0).nbr != 3 && (s.rport 1).nbr != 0 && (s.rport 1).nbr != 3

/-! ### Ends and paths -/

/-- N of the ring: RING_FOUND. -/
def ringN (s : State) (p : Nat) : Nat := s.og (Obj.ringFound p)
/-- The last hop of the ring: RING_FOUND; on a ring broken at its enumeration the N by which far-reached cells are numbered
(R44), and on an admitted ring no less than its count at admission (R32, R113). -/
def lastHop (s : State) (p : Nat) : Nat :=
  let r := s.ringRec p
  let n := if r.admitted then max (s.ringN p) r.foundAdm else s.ringN p
  if r.broken then max n (min 96 (rd (s.dg (Obj.cellTable p)) 0 1)) else n
/-- A break stands (R112). -/
def ringBroken (s : State) (p : Nat) : Bool := let r := s.ringRec p; r.breakLo != 0 || r.breakHi != 0
/-- XL0 uses one lane in a direction and ONE_LANE_ACTION is 0x01 (R140). -/
def oneLane (s : State) : Bool := (s.xlink 0).st == .up1 && s.og Obj.oneLaneAction == 1

/-- The other end of ring p can serve: the odd port, or an UNDERSTUDY over XL0 (R110, R401, R404). -/
def farReachable (s : State) (p : Nat) : Bool :=
  match s.pw.ringMode with
  | 2 => s.portUp (p + 1)
  | 1 => s.xlUp 0 && (s.xlink 0).peer / 256 % 256 == 2
  | _ => false

/-- The split of ring p: on an admitted ring as SPLIT_HOP gives it for the count at admission (R110). -/
def splitOf (s : State) (p : Nat) : Nat :=
  let v := s.og (Obj.splitHop p)
  let r := s.ringRec p
  if v = 0 then ((if r.admitted then r.foundAdm else s.ringN p) + 1) / 2 else v

/-- The service of ring p as it stands now (R110, R113, R140, R401, R404). -/
def planNow (s : State) (p : Nat) : ServePlan :=
  let r := s.ringRec p
  { split := s.splitOf p, lo := r.breakLo, hi := r.breakHi, broken := s.ringBroken p,
    far := s.farReachable p && !s.pair.alone, near := s.og Obj.pathMode == 2 || s.oneLane }

/-- The end that serves hop h by a plan: `some true` this HEAD's own port, `some false` the other end, none when a break cuts
it off. After a takeover (`x`) the ends are exchanged. -/
def endOf (x : Bool) (v : ServePlan) (h : Nat) : Option Bool :=
  if v.broken then
    let lowSide := decide (h ≤ v.lo)
    let highSide := v.hi != 0 && decide (v.hi ≤ h)
    let own := if x then highSide else lowSide
    let other := if x then lowSide else highSide
    if own then some true else if other && v.far then some false else none
  else if !v.far || v.near then some true
  else some ((decide (h ≤ v.split)) != x)

/-- The end that serves hop h of ring p now: objects, PASS and the reports expected. -/
def servingEnd (s : State) (p h : Nat) : Option Bool := endOf s.pair.tookOver (s.planNow p) h
/-- The end that serves hop h of ring p in the present computation: the plan latched at its start, so that a break notice, a
lost lane or a write that comes during it acts in the next one (R110, R113, R140). DEDUCED: log entry 14. -/
def plannedEnd (s : State) (p h : Nat) : Option Bool := endOf s.pair.tookOver (s.ringRec p).plan h
/-- Every ring's service is latched at a computation start. -/
def latchPlans (s : State) : State :=
  s.ringPorts.foldl (fun s p => s.setRing p { s.ringRec p with plan := s.planNow p }) s

/-- Send a background frame of the HEAD on ring p from its own end or from the other end, whose port must be UP (R134). -/
def sendRing (p : Nat) (own : Bool) (rank ty flags dst aux cue : Nat) (pl : Bytes) (s : State) : State :=
  let out (q : Nat) : State := if s.portUp q then s.queueBg q rank ty flags dst aux cue pl else s
  if own then out p
  else if s.pw.ringMode = 2 then out (p + 1)
  else if !s.mayStart p (.ring p (leBytes 1 ty)) then s
  else
    let x := s.nextSeq p (farSeq ty)
    x.2.relayDn p (mkFrame ty flags dst (caddrOf (s.og Obj.pairId) p 0) x.1 aux cue pl)

/-- Broadcast destination of ring p (R100). -/
def ringCast (s : State) (p : Nat) : Nat := caddrOf (s.og Obj.pairId) p 127

/-- Send a frame to one cell from the end that serves it; a DST that neither end reaches is UNDELIVERED (Table 03-11). -/
def sendCell (p h rank ty flags aux : Nat) (pl : Bytes) (s : State) : State :=
  let dst := caddrOf (s.og Obj.pairId) p h
  match s.servingEnd p h with
  | some own => s.sendRing p own rank ty flags dst aux s.tm.cue pl
  | none => s.ringLog p 0x0F (caddrOf (s.og Obj.pairId) p 0) (vdetail ty 0)

/-- BREAK_LO, BREAK_HI and source 55. A bound that moves is at a port that no notice has named yet. -/
def setBreak (p lo hi : Nat) (loOwn hiOwn : Bool) (s : State) : State :=
  let r := s.ringRec p
  (s.setRing p { r with breakLo := lo, breakHi := hi, loOwn := loOwn, hiOwn := hiOwn,
                        loPort := if lo = r.breakLo then r.loPort else 0,
                        hiPort := if hi = r.breakHi then r.hiPort else 0 }).raiseIf
    (decide (lo ≠ 0 ∨ hi ≠ 0)) 55 p

/-- Source 56 follows RING_SLOW and HOP_SLOW. -/
def rateNote (p : Nat) (s : State) : State :=
  let r := s.ringRec p
  s.raiseIf (r.slow || r.hopSlow) 56 p

/-- A BREAK notice from hop b on the near or the far side with the failed port it names (R112). -/
def breakNotice (p b : Nat) (near : Bool) (port : Nat) (s : State) : State :=
  let r := s.ringRec p
  let s1 := s.setRing p { r with heal := none }
  let s2 := if near then s1.setBreak p b (if r.hiOwn then r.breakHi else b + 1) true r.hiOwn
    else s1.setBreak p (if r.loOwn then r.breakLo else b - 1) b r.loOwn true
  let x := s2.ringRec p
  s2.setRing p (if near then { x with loPort := port } else { x with hiPort := port })

/-- An enumeration is due in the background window of the next CUE, and the count of R114 starts where the ring is broken
(R112, R114, R523). A hop of an admitted ring that came up below the operating rate stays out of it (R91). -/
def hopBack (p rate : Nat) (s : State) : State :=
  let r := s.ringRec p
  let slow := r.admitted && (match r.opRate with | some o => decide (rate < o) | none => false)
  if slow then (s.setRing p { r with hopSlow := true }).rateNote p
  else s.setRing p { r with heal := if s.ringBroken p then some 0 else r.heal, enumDue := true }

/-- A HEAL notice (R112, R114, R523). -/
def healNotice (p rate : Nat) (s : State) : State := if (s.ringRec p).enumerated then s.hopBack p rate else s

/-- Both ports of ring p's near and far end: in UP, or an UNDERSTUDY's ports reached over XL0. After a takeover this HEAD's own
ports are the far ends of the numbering. -/
def nearUp (s : State) (p : Nat) : Bool := if s.pair.tookOver then s.farReachable p else s.portUp p
def farUp (s : State) (p : Nat) : Bool := if s.pair.tookOver then s.portUp p else s.farReachable p

/-- The hop end at position h of ring p is known to be UP in this CUE (R114): a ring end's own port, the report of an admitted
cell. A report shows the port that the cell's BREAK notice named; while no notice has named one and the ring has one end to be
reached by, a report that arrives from beyond the hop has crossed it; else neither WDN nor EDN may stand in it. DEDUCED
(notes/assumptions/10.md): an unadmitted cell sends no report and counts by its HEAL notice. -/
def hopEndUp (s : State) (p h port : Nat) : Bool :=
  if h = 0 then s.nearUp p
  else if s.lastHop p < h then s.farUp p
  else
    let c := s.cellRec (96 * p + h - 1)
    let shown (x : RepRec) : Bool :=
      match port with
      | 1 => !hasBit x.rstat 3
      | 2 => !hasBit x.rstat 4
      | _ => !(s.nearUp p && s.farUp p) || (!hasBit x.rstat 3 && !hasBit x.rstat 4)
    c.st != .admitted || (c.have_ && (match c.last with | some x => shown x | none => false))

/-- The count of R114 at the end of a CUE: one more when both cells of the hop have reported their port UP, else it starts
anew. -/
def healCount (p : Nat) (s : State) : State :=
  let r := s.ringRec p
  match r.heal with
  | some n =>
    s.setRing p { r with heal := some (if s.hopEndUp p r.breakLo r.loPort && s.hopEndUp p r.breakHi r.hiPort then n + 1 else 0) }
  | none => s

/-- The split of R110 is restored: the break ends (R114). -/
def healed (p : Nat) (s : State) : State :=
  let r := s.ringRec p
  (((s.setRing p { r with heal := none, hopSlow := false }).setBreak p 0 0 false false).rateNote p)

/-! ### Link down -/

/-- A CELL's LINK notice out of its other port (R112). -/
def linkNotice (p what rate : Nat) (s : State) : State :=
  let o := otherPort p
  let pl := leBytes 1 what ++ leBytes 1 (p + 1) ++ leBytes 1 rate ++ leBytes 1 0 ++ leBytes 4 s.tm.cue
  if s.portUp o then
    s.originate o 3 0 4 0 (s.ring.node.caddr / 128 * 128) s.ring.node.caddr 0 s.tm.cue pl
  else s

/-- What a link down on a port brings beside the port's own state (R88, R112): DOWN, the log entry, a CELL's BREAK
notice, a HEAD's own bounds. -/
def linkLost (p : Nat) (s : State) : State :=
  let s1 := (s.rngEvt p 0).ringLog p 0x10 0xFFFF 0
  if s1.isCell then
    let s2 := (s1.setPort p { s1.rport p with broke := true }).idleBreak
    s2.linkNotice p 1 (s.rport p).rate
  else
    let q := s1.ringOfPort p
    if (s1.ringRec q).enumerated ∧ s1.activeHead then
      let far := p != q || s1.pair.tookOver
      if far then s1.breakNotice q (s1.lastHop q + 1) false 0 else s1.breakNotice q 0 true 0
    else s1

/-! ### Cell limits and admission -/

/-- Cells per ring (Table 01-4). -/
def ringLimit (s : State) : Nat := if 20000 ≤ s.og Obj.cuePeriod then 96 else 48
/-- Cells per arm. -/
def armLimit (s : State) : Nat := if 20000 ≤ s.og Obj.cuePeriod then 1024 else 576
/-- Cells per HEAD. -/
def headLimit (s : State) : Nat :=
  let n := if 20000 ≤ s.og Obj.cuePeriod then 1152 else 576
  if s.pw.ringMode = 2 then n / 2 else n

/-- Cells of the rings that are admitted or pass, counted by a test on their ports. -/
def cellsCounted (s : State) (f : Nat → RingRec → Bool) : Nat :=
  s.ringPorts.foldl (fun n p =>
    let r := s.ringRec p
    if f p r then n + (if r.admitted then r.foundAdm else s.ringN p) else n) 0

/-- Bridge class of an SM_TYPE (Table 01-5): 1 half, 2 full, 0 none. Also: R34. -/
def bridgeClass (t : Nat) : Nat :=
  match t with
  | 1 | 3 => 1
  | 2 | 4 => 2
  | _ => 0

/-- The stored N of CELL_TABLE. -/
def tableN (s : State) (p : Nat) : Nat := rd (s.dg (Obj.cellTable p)) 0 1
/-- The stored serial of a hop. -/
def tableSerial (s : State) (p h : Nat) : Nat := rd (s.dg (Obj.cellTable p)) (8 * h) 8

/-- The state the HEAD gives one numbered cell (R33, R35, R40, R43, R67, R523): its serial, its type, the check h + g = N + 1, a
hop within the count at the ring's admission, then TB0 LOCKED. An admitted cell that reads UNSYNC or ACQUIRE has been reset and
waits for LOCKED. -/
def judgeCell (p h : Nat) (c : CellRec) (s : State) : State :=
  let slot := 96 * p + h - 1
  let arm := s.og (Obj.ringArm p)
  let cls := bridgeClass c.smType
  if s.tableN p = 0 ∨ c.serial ≠ s.tableSerial p h then
    (s.setCellRec slot { c with st := .newSerial, waitLock := false }).irqPost 4 5
  else if arm = 0 ∨ cls = 0 then s.setCellRec slot { c with st := .unadmitted, waitLock := false }
  else if cls ≠ s.og (Obj.armBridge (arm - 1)) then
    (s.setCellRec slot { c with st := .wrongType, waitLock := false }).raise 42 slot
  else
    let s1 := s.release 42 slot
    if !(s.ringRec p).admitted ∨ !(s.ringRec p).checkOk then s1.setCellRec slot { c with st := .unadmitted, waitLock := false }
    else if h ≤ (s.ringRec p).foundAdm ∧ (c.tb0Seen = 2 ∨ ((s.cellRec slot).st = .admitted ∧ 2 ≤ c.tb0Seen)) then
      s1.setCellRec slot { c with st := .admitted, waitLock := false }
    else s1.setCellRec slot { c with st := .unadmitted, waitLock := decide (h ≤ (s.ringRec p).foundAdm) }

/-- The admission test of a ring (R25 to R27, R29): one that passes is admitted at the next computation start. The limits
count the admitted rings and, since rings are admitted in ascending port order, those on lower ports that wait to be
admitted. -/
def admissionTest (p : Nat) (s : State) : State :=
  let n := s.ringN p
  let r := s.ringRec p
  let arm := s.og (Obj.ringArm p)
  let big := decide (s.ringLimit < n)
  let s1 := s.raiseIf big 40 p
  if r.admitted then s1
  else if !r.enumerated ∨ big ∨ n = 0 ∨ arm = 0 then s1.setRing p { r with admitNext := false }
  else
    let before (q : Nat) (x : RingRec) : Bool := x.admitted || (x.admitNext && decide (q < p))
    let others := s1.cellsCounted (fun q x => before q x && s1.og (Obj.ringArm q) == arm)
    let all := s1.cellsCounted before
    if s1.armLimit < others + n then (s1.raise 41 (arm - 1)).setRing p { r with admitNext := false }
    else if s1.headLimit < all + n ∨ (s1.pw.ringMode = 2 ∧ p % 2 = 1) ∨ r.slow then
      s1.setRing p { r with admitNext := false }
    else
      let s2 := s1.release 41 (arm - 1)
      s2.setRing p { r with admitNext := true }

/-- Rings that pass are admitted at a computation start, in ascending port order, each tested against the rings admitted
before it (R26, R27, R29, R32). -/
def admitRings (s : State) : State :=
  s.ringPorts.foldl (fun s0 p =>
    let s := if (s0.ringRec p).admitNext then s0.admissionTest p else s0
    let r := s.ringRec p
    if r.admitNext ∧ !r.admitted then
      let arm := s.og (Obj.ringArm p)
      let s1 := s.setRing p { r with admitted := true, admitNext := false, foundAdm := s.ringN p, arm := arm }
      (List.range (s.ringN p)).foldl (fun s i =>
        let slot := 96 * p + i
        let c := s.cellRec slot
        if c.st = .unadmitted ∨ c.st = .wrongType then s.judgeCell p (i + 1) c else s) s1
    else s) s

/-! ### Arm slots -/

/-- Whether ring p is admitted to an arm (0 A, 1 B). -/
def inArm (s : State) (p arm : Nat) : Bool := let r := s.ringRec p; r.admitted && r.arm == arm + 1
/-- The first arm slot of ring p (R32). -/
def armBase (s : State) (p arm : Nat) : Nat :=
  (s.ringPorts.filter (fun q => decide (q < p) && s.inArm q arm)).foldl (fun n q => n + (s.ringRec q).foundAdm) 0
/-- N of an arm: the sum of RING_FOUND at admission. -/
def armN (s : State) (arm : Nat) : Nat :=
  (s.ringPorts.filter (fun q => s.inArm q arm)).foldl (fun n q => n + (s.ringRec q).foundAdm) 0
/-- Station slots of an arm in arm-slot order. -/
def armSlots (s : State) (arm : Nat) : List Nat :=
  (s.ringPorts.filter (fun q => s.inArm q arm)).flatMap (fun q =>
    (List.range (s.ringRec q).foundAdm).map (fun i => 96 * q + i))
/-- The arm (0 or 1) and arm slot of a station slot, none without one. -/
def armSlotOf (s : State) (slot : Nat) : Option (Nat × Nat) :=
  let p := slot / 96
  let h := slot % 96
  let r := s.ringRec p
  if r.admitted ∧ r.arm ≠ 0 ∧ h < r.foundAdm then some (r.arm - 1, s.armBase p (r.arm - 1) + h) else none

/-! ### Enumeration -/

/-- Send the ENUM frame of an enumeration: forward from the near end, reverse from the far end (R40). Its rate byte
starts at the rate of the port it leaves. -/
def sendEnum (p dir : Nat) (s : State) : State :=
  let rate := if dir = 0 then (s.rport p).rate
              else match s.farPort p with | some q => (s.rport q).rate | none => 3
  let own := (dir = 0) != s.pair.tookOver
  s.sendRing p own 7 1 0 (s.ringCast p) 0 s.tm.cue [0#8, BitVec.ofNat 8 rate, BitVec.ofNat 8 dir, 0#8]

/-- Start an enumeration of ring p (R40, R44, R523): into hop 1; from the far end alone while the near end is down; not at all
while neither end is reached. -/
def startEnum (p : Nat) (s : State) : State :=
  let r := s.ringRec p
  let s1 := s.setRing p { r with fwdCount := none, enumDue := false, enumBusy := s.nearUp p || s.farUp p }
  if s.nearUp p then s1.sendEnum p 0
  else if s.farUp p then (s1.setRing p { s1.ringRec p with fwdCount := some 0 }).sendEnum p 1
  else s1

/-- Send RATE_CAP into a ring that is not admitted and enumerate again (R89): the ring is below its operating rate until that
enumeration has returned. -/
def capRing (p rate : Nat) (s : State) : State :=
  let r := s.ringRec p
  let s1 := (s.setRing p { r with cap := rate, opRate := none }).setPort p { s.rport p with rateCap := rate }
  let s2 := match s1.farPort p with | some q => s1.setPort q { s1.rport q with rateCap := rate } | none => s1
  (s2.sendRing p (s2.portUp p) 7 5 0 (s2.ringCast p) 0 s2.tm.cue (leBytes 1 rate)).startEnum p

/-- What the HEAD takes from an enumeration that is over (R41, R43, R44, R523): `near` and `far` cells were reached from
the two ends, `cells` is what it read of the numbered ones. `checked` false: the forward and the reverse count differ, so
that every cell fails the check h + g = N + 1 and none is admitted (R40). `slow`: a hop of an admitted ring stands below its
operating rate and the ring keeps running as broken there (R91). -/
def enumDone (p near far : Nat) (broken checked slow : Bool) (cells : List CellId) (s : State) : State :=
  let tN := s.tableN p
  let found := near + far
  let farOk := broken && tN != 0 && decide (near + far ≤ tN)
  let numbered (h : Nat) : Bool :=
    if broken then decide (h ≤ near) || (farOk && decide (tN < h + far) && decide (h ≤ tN)) else decide (h ≤ near)
  let r := s.ringRec p
  let expect := s.og (Obj.ringExpect p)
  let note := (expect != 0 && expect != found) || (r.admitted && r.foundAdm != found)
  let s1 := s.setRing p { r with enumerated := true, broken := broken, checkOk := checked, countNote := note, fwdCount := none,
                                 enumBusy := false, heal := if broken then none else r.heal }
  let s2 := (s1.oset (Obj.ringFound p) found).irqPost 4 4
  let s3 := (List.range 96).foldl (fun s i =>
    let h := i + 1
    let slot := 96 * p + i
    if !numbered h then s.setCellRec slot { s.cellRec slot with st := .none, waitLock := false }
    else if !checked then s.setCellRec slot { s.cellRec slot with st := .unadmitted, waitLock := false }
    else
      match cells.find? (fun c => c.hop == h) with
      | none => if (s.cellRec slot).st = .none then s.setCellRec slot { s.cellRec slot with st := .unadmitted } else s
      | some c =>
        let farSide := broken && decide (near < h)
        if farSide ∧ c.serial ≠ s.tableSerial p h then s.setCellRec slot { s.cellRec slot with st := .none }
        else if r.admitted ∧ r.foundAdm < h then
          s.setCellRec slot { s.cellRec slot with st := .unadmitted, serial := c.serial, smType := c.smType }
        else s.judgeCell p h { s.cellRec slot with serial := c.serial, smType := c.smType, tb0Seen := c.tb0State }) s2
  let s4 := if broken then
      s3.setBreak p near (if tN ≠ 0 ∧ farOk then tN + 1 - far else near + 1) true true
    else if r.heal.isSome ∨ slow then s3 else s3.setBreak p 0 0 false false
  if r.admitted then s4 else s4.admissionTest p

/-- An ENUM frame has come back to the HEAD on the near or the far side of ring p (R40, R44, R89). Also: R90. -/
def enumBack (p : Nat) (near : Bool) (pl : Bytes) (cells : List CellId) (s : State) : State :=
  let count := rd pl 0 1
  let rate := rd pl 1 1
  let dir := rd pl 2 1
  let r := s.ringRec p
  let farEnd := s.pw.ringMode != 3 && s.farUp p
  let low := r.admitted && (match r.opRate with | some o => decide (rate < o) | none => false)
  if !r.admitted ∧ rate < r.cap then s.capRing p rate
  else
    let s0 := (s.setRing p { r with opRate := if r.admitted then r.opRate else some rate,
                                    slow := if r.admitted then r.slow else decide (rate < 2),
                                    hopSlow := r.hopSlow || low }).rateNote p
    let r0 := s0.ringRec p
    match dir with
    | 0 => (s0.setRing p { r0 with fwdCount := some count }).sendEnum p 1
    | 1 =>
      match r0.fwdCount with
      | some 0 => s0.startEnum p
      | some n => s0.enumDone p n 0 false (count == n) low cells
      | none => s0
    | _ =>
      if near then
        if s0.pw.ringMode = 3 then s0.enumDone p count 0 false true low cells
        else if farEnd then (s0.setRing p { r0 with fwdCount := some count }).sendEnum p 1
        else s0.enumDone p count 0 true true low cells
      else
        match r0.fwdCount with
        | some n => s0.enumDone p n count true true low cells
        | none => s0

/-- ENUM_CMD (R522, R523, R30, R43, R44, R176): a port and a code. Mirrored to an UNDERSTUDY (R394) it acts on what that part holds
of the ring's cells, the enumeration itself being the active HEAD's. DESIGN CHOICE (log entry 46): code 0x02 on a broken ring
whose two counts together exceed its stored N is accepted for the numbered cells and keeps the stored N; R44 names the
refusal for a ring that has never been commissioned. -/
def applyEnumCmd (v : Nat) (s : State) : Except Nat State :=
  let p := v / 256
  let code := v % 256
  let r := s.ringRec p
  if 11 < p ∨ code = 0 ∨ 3 < code ∨ (s.pw.ringMode = 2 ∧ p % 2 = 1) then .error 5
  else if !s.portUp p then .error 6
  else
    match code with
    | 1 => .ok (if s.understudy then s else if r.admitted then s.startEnum p else s.capRing p 3)
    | 2 =>
      if s.understudy then .ok ((ringSlots p).foldl (fun s n => s.unfence n) s)
      else if !r.enumerated ∨ (r.broken ∧ s.tableN p = 0) then .error 6
      else
        let n := if r.broken then s.tableN p else s.ringN p
        let serials := (List.range 96).flatMap (fun i =>
          let c := s.cellRec (96 * p + i)
          leBytes 8 (if n ≤ i then 0 else if c.st = .none then s.tableSerial p (i + 1) else c.serial))
        let table := leBytes 1 n ++ zeros 7 ++ serials
        let fresh := if s.tableN p = 0 then [] else
          (List.range n).filter (fun i => (s.cellRec (96 * p + i)).st == .newSerial)
        let s0 := (s.dset (Obj.cellTable p) table).mirrorAdd (mirrorRec (Obj.cellTable p) 0 table)
        let s1 := if s.tableN p = 0 then
            (s0.dset Obj.wearOfs (patch (s0.dg Obj.wearOfs) (384 * p) (zeros 384))).modSet fun w =>
              { w with adopt := w.adopt.filter (fun x => x / 96 != p) }
          else fresh.foldl (fun s i =>
            (s.dset Obj.wearOfs (patch (s.dg Obj.wearOfs) (4 * (96 * p + i)) (zeros 4))).modSet fun w =>
              { w with adopt := insertNat (96 * p + i) w.adopt }) s0
        let s2 := (List.range n).foldl (fun s i =>
          let slot := 96 * p + i
          let c := s.cellRec slot
          let s' := s.unfence slot
          if c.st = .none then s'
          else s'.judgeCell p (i + 1) c) s1
        .ok s2
    | _ =>
      if !r.admitted then .error 6
      else
        let s1 := s.setRing p { r with removing := true }
        .ok ((ringSlots p).foldl (fun s n => if s.cellAdmitted n then s.fence n 46 true else s) s1)

/-- A removal ends when every fenced cell of the ring shows BYP: the ring is no longer admitted, its fences end (R30,
R386), its cells leave the arm's order and the arm's slots are renumbered (R32). DESIGN CHOICE (notes/assumptions/51.md): the
spec names no instant at which a removal is complete. -/
def removeDone (p : Nat) (s : State) : State :=
  let r := s.ringRec p
  if r.removing ∧ (ringSlots p).all (fun n => !(s.cellAdmitted n && s.bypPending n)) then
    let cut (m : ArmMod) : ArmMod := { m with order := m.order.filter (fun n => n / 96 != p), slots := [] }
    let s1 := (s.setRing p { r with admitted := false, admitNext := false, removing := false, foundAdm := 0, arm := 0 }).modSet
      fun w => { w with a := if r.arm = 1 then cut w.a else w.a, b := if r.arm = 2 then cut w.b else w.b }
    (ringSlots p).foldl (fun s n =>
      let s' := s.unfence n
      if s.cellAdmitted n then s'.setCellRec n { s'.cellRec n with st := .unadmitted } else s') s1
  else s

/-- A write of RING_ARM (R29 to R31). -/
def applyRingArm (p v : Nat) (s : State) : Except Nat State :=
  if 2 < v then .error 5
  else if (s.pw.ringMode = 2 ∧ p % 2 = 1 ∧ v ≠ 0) ∨ (s.ringRec p).admitted then .error 6
  else .ok ((s.oset (Obj.ringArm p) v).admissionTest p)

/-- A write of ARM_BRIDGE: only while the arm has no admitted ring (Table 01-8). -/
def applyArmBridge (arm v : Nat) (s : State) : Except Nat State :=
  if v = 0 ∨ 2 < v then .error 5
  else if s.ringPorts.any (fun q => s.inArm q arm) then .error 6
  else .ok (s.oset (Obj.armBridge arm) v)

end State

end Sys2Proof.Machine
end

