-- ==== Sys2Proof/Machine/PwmOps.lean ====
section
/-! DEFINITION. The gates' shared operations: forced-safe causes, events, dead time, bypass, shadows and coasting
(R187 to R216). -/

namespace Sys2Proof.Machine

/-- Outputs a forced-safe cause acts on (Table 07-5), by FORCE_CAUSE bit. -/
def causeOutputs (bit : Nat) : Nat :=
  match bit with
  | 2 => 0x0F
  | 3 => 0x30
  | 4 => 0x3F
  | 9 => 0
  | _ => 0xFF

/-- Bridge outputs of a state (Table 07-1): full or half bridge, the ZERO pair. -/
def gatePattern (full upper : Bool) (st : Nat) : Nat :=
  match st with
  | 0 => if full then (if upper then 0x05 else 0x0A) else 0x02
  | 1 => if full then 0x09 else 0x01
  | 2 => if full then 0x06 else 0
  | _ => 0

namespace State

/-- Full-bridge sub-module type in effect. -/
def fullBridge (s : State) : Bool := s.pw.smType == 2 || s.pw.smType == 4
/-- Sub-module type with a battery stage (Table 01-5). -/
def hasStage (s : State) : Bool := s.isCell && (s.pw.smType == 3 || s.pw.smType == 4)

/-- Set a PWM_EVT bit: source bit of group 8. -/
def pwmEvt (b : Nat) (s : State) : State := (s.evt (Blk.pwm + 0x58) (2 ^ b)).irqPost 8 b

/-! ### Balls -/

/-- Units of TB0 from the start of the PWM cycle in which TB0 reaches an instant to the instant: a cycle that rate trim
lengthens holds 17 of them. -/
def tapRemainder (s : State) (t : Nat) : Nat :=
  let off := (((s.tm.tb2 * 8 + s.tm.tb2Sub : Nat) : Int) + t - s.tm.tb0) % 16
  let gain : Int := s.tm.tb0Rate * 16 * 4294967296 / 1000000000
  (off - ((s.tm.tb0Acc : Int) - off * gain) / 68719476736).toNat

/-- The TB0 instant of an edge at the ball (R188, R197, R198): its PWM cycle, then as many taps as the remainder, at most 15;
and the trim of the output; on the nearest PWM cycle with halves up, and no tap, while COARSE. -/
def ballAt (s : State) (g t : Nat) : Nat :=
  let r := s.tapRemainder t
  let d : Int := if s.pwm.coarse then (if 8 ≤ r then 16 else 0) else (min r 15 : Nat) + toI 16 (s.pwm.trims.getD g 0)
  ofI 64 ((t : Int) - r + d)

/-- Drive one ball to a level at a TB0 instant. -/
def drive (g : Nat) (high : Bool) (t : Nat) (s : State) : State :=
  let w := s.pwm
  if hasBit w.level g = high then s
  else
    let w' := { w with swcnt := if g < 4 then inc 32 w.swcnt else w.swcnt, level := putBit w.level g high,
                       rises := w.rises.filter (fun r => r.1 != g),
                       falls := if high then w.falls else Kv.put (fun _ => 0) g t w.falls }
    ({ s with pwm := w' }).emit (.edge g high (s.ballAt g t))

/-! ### Forced-safe causes (R207) -/

/-- FORCE_CAUSE: the causes acting now. In HEAD role no trip, bypass or ring cause acts on the gates. -/
def forceCause (s : State) : Nat :=
  let w := s.pwm
  let act (b : Nat) : Bool := (List.range 6).any (fun i => hasBit w.tripLatch i && hasBit (s.og (Obj.tripAct i)) b)
  packBits [s.isCell && s.ring.node.curtain, s.isCell && w.coast == 3, s.isCell && act 0, s.isCell && act 1,
    s.isCell && w.byp, s.pw.debugHalt && s.og Obj.dbgHaltAction == 1, !s.pw.pwmClock, w.pulseBlock,
    s.isCell && (w.notAdm || s.tm.tb0State == .lost || s.pw.smType == 0), s.isCell && w.lost]

/-- A cell reads as fenced on its own side: its bypass has fired, or its present record is the one a fenced cell is sent,
ZERO at offset 0 alone with the share 0 (R158, R159, R386). DESIGN CHOICE (notes/assumptions/49.md). -/
def fencedSelf (s : State) : Bool :=
  s.pwm.byp || (match s.pwm.done with | some r => r.psv && r.share == 0 && r.evs == [(0, 0)] | none => false)

/-- Outputs the present causes force; every output before the blocks work. -/
def forcedNow (s : State) : Nat :=
  if !s.working then 0xFF
  else (List.range 9).foldl (fun m b => if hasBit s.forceCause b then m ||| causeOutputs b else m) 0

/-- The record in progress is cut short: it is not executed (R190), and the share target stays as it was (R224). -/
def cutRecord (s : State) : State :=
  (s.pwmSet fun w_ => { w_ with cur := none, todo := [], carried := [] }).batSet fun b =>
    { b with sT := b.sBack.getD b.sT, sBack := none }

/-- Channel 0's integrator is set to 0. -/
def loop0Zero (s : State) : State :=
  s.loopSet fun l => { l with ch := Kv.put (fun _ => LoopCh.reset) 0 { Kv.get (fun _ => LoopCh.reset) l.ch 0 with i := 0 } l.ch }

/-- A cause begins to act on G4 and G5: the carrier stops, and the loop of the stage stands at 0 (R199, R221). -/
def pauseStage (s : State) : State :=
  let s1 := s.pwmSet fun w => { w with carRun := false, carAt := none }
  if s1.bat.st = .ready ∨ s1.bat.st = .run then s1.loop0Zero.batSet fun b => { b with sP := 0 } else s1

/-- Drive the outputs of a mask low now. -/
def dropOutputs (mask : Nat) (s : State) : State :=
  let s1 := (s.pwmSet fun w_ => { w_ with rises := s.pwm.rises.filter (fun r => !hasBit mask r.1) })
  (List.range 8).foldl (fun s g => if hasBit mask g then s.drive g false s.tm.tb0 else s) s1

/-- The bridge is forced to BLOCK by something other than an event: its state is lost, the record is cut (R191). -/
def blockBridge (s : State) : State :=
  let s1 := (s.cutRecord).dropOutputs 0x0F
  if s.isCell then (s1.pwmSet fun w_ => { w_ with bridge := 3, lost := true }) else s1

/-- The forced-safe net follows the causes (R207, R208): newly forced outputs go low at once, a forced bridge is lost,
a running bypass pulse is cut (R213); outputs stay held until a CUE start. -/
def applyForce (before : Nat) (s : State) : State :=
  let now := s.forcedNow
  let new := andNot now s.pwm.held
  let s0 := if andNot (s.forceCause % 512) before = 0 then s else s.pwmEvt 1
  if new = 0 then s0
  else
    let s1 := (s0.pwmSet fun w_ => { w_ with held := s0.pwm.held ||| now })
    let s2 := if new % 16 = 0 then s1 else s1.blockBridge
    let s3 := if hasBit new 6 ∧ s2.pwm.bypSt = .pulse then
        (s2.pwmSet fun w_ => { w_ with bypSt := .cut, pulses := s2.pwm.pulses - 1 }) else s2
    let s4 := if new &&& 0x30 = 0 then s3 else s3.pauseStage
    s4.dropOutputs new

/-- A change that may start a forced-safe cause. -/
def withForce (f : State → State) (s : State) : State := (f s).applyForce (s.forceCause % 512)

/-! ### Events and dead time -/

/-- The complement of a bridge or battery output. -/
def complement (g : Nat) : Nat := if g % 2 = 0 then g + 1 else g - 1

/-- Command a pair of legs to a pattern at an instant: falls at once, rises after the dead time of R195; a rise that
waits and is no longer wanted is cancelled (R196). -/
def command (mask pat t : Nat) (s : State) : State :=
  let gates := (List.range 6).filter (fun g => hasBit mask g)
  let s1 := gates.foldl (fun s g =>
    if hasBit pat g then s
    else ((s.pwmSet fun w_ => { w_ with rises := s.pwm.rises.filter (fun r => r.1 != g) }).drive g false t)) s
  gates.foldl (fun s g =>
    if !hasBit pat g || hasBit s.pwm.level g || s.pwm.rises.any (fun r => r.1 == g) then s
    else
      let dt := 16 * (if g < 4 then s.pwm.dtBr else s.pwm.dtBat)
      let f := Kv.get (fun _ => 0) s.pwm.falls (complement g)
      let at_ := if f = 0 then t else max t (f + dt)
      if at_ ≤ t then s.drive g true t
      else (s.pwmSet fun w_ => { w_ with rises := s.pwm.rises ++ [(g, at_)] })) s1

/-- The ZERO pair on an entry to ZERO (R194). -/
def zeroPair (s : State) : PwmBlock :=
  let w := s.pwm
  if w.bridge = 0 then w
  else if w.bridge = 3 then { w with upper := w.zeroMode == 1 }
  else
    match w.zeroMode with
    | 0 => { w with upper := false, lastUpper := some false }
    | 1 => { w with upper := true, lastUpper := some true }
    | _ =>
      let u := match w.lastUpper with | none => false | some b => !b
      { w with upper := u, lastUpper := some u }

/-- The bridge enters an event's state; an entry to ZERO chooses its pair (R194). -/
def enterState (st : Nat) (s : State) : State :=
  s.pwmSet fun w => { (if st = 0 then s.zeroPair else w) with bridge := st }

/-- The bridge outputs are commanded to the bridge state at an instant (R193). -/
def showBridge (t : Nat) (s : State) : State := s.command 0x0F (gatePattern s.fullBridge s.pwm.upper s.pwm.bridge) t

/-- A bypass sequence that a record started runs: the bridge keeps that record's offset-0 state (R211). -/
def bypKeeps (s : State) : Bool := s.pwm.bypSt != .idle && s.pwm.bypCue.isSome

/-- Apply an event's state at an instant (R187, R193): not while the bridge is held safe. While it keeps its state an event
towards another one cuts the record short. -/
def applyEvent (st t : Nat) (s : State) : State :=
  if s.pwm.held % 16 ≠ 0 ∨ (s.bypKeeps ∧ st ≠ s.pwm.bridge) then s.cutRecord
  else if s.bypKeeps then s else (s.enterState st).showBridge t

/-- A record is executed: SHSEQ shows its CUE, MISS of that CUE ends, its PSV counts for the stage (R190, R219); slot 0 at
offset 0 clears the lost mark (R191). -/
def recordDone (r : SheetRec) (s : State) : State :=
  let clr := match r.evs with | (_, 0) :: _ => true | _ => false
  let now := r.cue == s.tm.cue
  let s1 := s.pwmSet fun w =>
    { w with lost := w.lost && !clr, shseq := r.cue % 65536, miss := w.miss && !now, done := if now then some r else w.done }
  (s1.batSet fun b => { b with psv := b.psv || r.psv, sBack := none }).bump Obj.sheetsExec

/-- Once its last used slot has been applied the record is executed (R190). -/
def finishRecord (s : State) : State :=
  match s.pwm.cur with
  | none => s
  | some r =>
    if s.pwm.todo.isEmpty ∧ s.pwm.carried.isEmpty then (s.pwmSet fun w => { w with cur := none }).recordDone r else s

/-- The instant of the next gate action: an event, or a rise that waits. -/
def nextAct (s : State) : Option Nat :=
  let r := s.pwm.rises.foldl (fun (m : Option Nat) x =>
    match m with | none => some x.2 | some y => some (min y x.2)) none
  match s.pwm.todo, r with
  | [], r => r
  | e :: _, none => some e.2
  | e :: _, some t => some (min e.2 t)

/-- Act once: rises due at the instant, else the event. -/
def actOnce (t : Nat) (s : State) : State :=
  match s.pwm.rises.find? (fun r => decide (r.2 ≤ t)) with
  | some r => s.drive r.1 true r.2
  | none =>
    match s.pwm.todo with
    | e :: rest => ((s.pwmSet fun w_ => { w_ with todo := rest }).applyEvent e.1 e.2).finishRecord
    | [] => s

/-- Every gate action up to a TB0 instant, in order (at most `n` of them). -/
def actUntil (t : Nat) : Nat → State → State
  | 0, s => s
  | n + 1, s =>
    match s.nextAct with
    | some x => if x ≤ t then actUntil t n (s.actOnce x) else s
    | none => s

/-! ### Bypass (R211 to R213) -/

/-- A bypass sequence starts; one started by a trip or BYP_CMD forces the bridge to BLOCK. A start while one runs is
ignored. -/
def bypassStart (byRecord : Bool) (s : State) : State :=
  if s.pwm.bypSt != .idle ∨ !s.isCell then s
  else
    let s1 := s.pwmSet fun w =>
      { w with bypSt := .delay, pulses := 0, bypAt := s.tm.tb2, bypCue := if byRecord then some s.tm.cue else none }
    if byRecord then s1 else s1.blockBridge

/-- A trip starts the bypass sequence; where a record has started it in this CUE, the trip's BLOCK applies (Table 07-9). -/
def bypassTrip (s : State) : State :=
  if s.isCell ∧ s.pwm.bypSt ≠ .idle ∧ s.pwm.bypCue = some s.tm.cue then s.blockBridge else s.bypassStart false

/-- G6 rises for a pulse, unless a cause holds it. -/
def bypassRise (s : State) : State :=
  if hasBit s.pwm.held 6 then (s.pwmSet fun w_ => { w_ with bypSt := .cut })
  else
    (s.pwmSet fun w_ => { w_ with bypSt := .pulse, pulses := s.pwm.pulses + 1, riseAt := s.tm.tb2 }).drive 6 true
      s.tm.tb0

/-- BYP is set: G0 to G5 go safe. -/
def setByp (s : State) : State :=
  s.withForce (fun s => (s.pwmSet fun w_ => { w_ with byp := true, bypSt := if s.pwm.bypSt = .pulse then .done else .idle }))

/-! ### Trips -/

/-- A filtered level becomes active (R205): the input of BYP_SENSE confirms a bypass instead (R206, R212). -/
def tripOn (i : Nat) (s : State) : State :=
  let s0 := (s.pwmSet fun w_ => { w_ with tripLvl := setBit s.pwm.tripLvl i })
  if s.isCell ∧ s.og Obj.bypSense = i then
    if (s.pwm.bypSt = .pulse ∨ s.pwm.bypSt = .confirm) ∧ s.tm.tb2 ≤ s.pwm.riseAt + 1000 * s.og Obj.bypConfirm then
      s0.setByp
    else s0
  else
    let s1 := s0.withForce (fun s => (s.pwmSet fun w_ => { w_ with tripLatch := setBit s.pwm.tripLatch i }))
    let s2 := (s1.pwmEvt 2).raise (17 + i) 0
    if s.isCell ∧ hasBit (s.og (Obj.tripAct i)) 2 then s2.bypassTrip else s2

/-- `n` samples of a trip input at one ball level (R204): after TRIP_FLT in a row against the filtered level, by TRIP_POL, the
filtered level follows. -/
def tripSamples (i : Nat) (high : Bool) (n : Nat) (s : State) : State :=
  let active := high == (s.og (Obj.tripPol i) == 0)
  let count (c : Nat) (s : State) : State := s.pwmSet fun w => { w with tripCnt := w.tripCnt.set i c }
  if n = 0 then s
  else if active = hasBit s.pwm.tripLvl i then count 0 s
  else
    let c := s.pwm.tripCnt.getD i 0 + n
    if c < s.og (Obj.tripFlt i) then count c s
    else if active then (count 0 s).tripOn i
    else (count 0 s).pwmSet fun w => { w with tripLvl := clrBit w.tripLvl i }

/-- A clear of latched trips: those whose level is active stay (R206). -/
def tripClear (mask : Nat) (s : State) : State :=
  (List.range 6).foldl (fun s i =>
    if hasBit mask i ∧ hasBit s.pwm.tripLatch i ∧ !hasBit s.pwm.tripLvl i then
      (s.pwmSet fun w_ => { w_ with tripLatch := clrBit s.pwm.tripLatch i }).release (17 + i) 0
    else s) s

/-! ### Shadows (R200 to R203) -/

/-- The PWM cycle of the present instant. -/
def pwmCycle (s : State) : Nat := s.tm.tb2 / 2

/-- A commit in the PWM cycle of a boundary that has passed sets LATE at that boundary (Table 07-2). -/
def commitLate (s : State) : State :=
  let w := s.pwm
  if w.boundAt = some s.pwmCycle ∧ !w.hold ∧ !w.boundLate ∧ (w.pendPer || w.pendDuty) then
    (((s.pwmSet fun w => { w with boundLate := true }).evt (Blk.pwm + 4) 8).bump Obj.lateCount).irqPost 8 7
  else s
/-- A write lands in the period shadow. -/
def shadowPer (v : Nat) (s : State) : State :=
  (s.pwmSet fun w_ => { w_ with shPer := v, pendPer := true, perAt := s.pwmCycle }).commitLate
/-- A write lands in the duty shadow, 24 bits wide. -/
def shadowDuty (v : Nat) (s : State) : State :=
  (s.pwmSet fun w_ => { w_ with shDuty := min v (2 ^ 24 - 1), pendDuty := true, dutyAt := s.pwmCycle }).commitLate
/-- A refused seat write of the duty while the current loop owns it (R203). -/
def ownErr (s : State) : State := (s.evt (Blk.pwm + 4) 0x10).irqPost 8 6
/-- A write of HOLD (R202). -/
def setHold (b : Bool) (s : State) : State :=
  (s.pwmSet fun w_ => { w_ with hold := b, clearAt := if s.pwm.hold ∧ !b then s.pwmCycle else s.pwm.clearAt }).commitLate

/-- A period boundary of the carrier (Table 07-2, R201). -/
def carrierBoundary (s : State) : State :=
  let w := s.pwm
  let b := s.pwmCycle
  let ready (c : Nat) : Bool := decide (max c w.clearAt + 2 ≤ b) || b == 0
  let px := w.pendPer && !w.hold && ready w.perAt
  let dx := w.pendDuty && !w.hold && ready w.dutyAt
  let late := !w.hold && ((w.pendPer && !px) || (w.pendDuty && !dx))
  let per := if px then w.shPer else w.per
  let duty := min (if dx then w.shDuty else w.duty) (16 * per)
  let x := if px && !dx then 1 else if dx && !px then 2 else 0
  let split := (x == 1 && w.lastX == 2) || (x == 2 && w.lastX == 1)
  let s1 := (s.pwmSet fun w_ => { w_ with
    per := per, duty := duty, pendPer := w.pendPer && !px, pendDuty := w.pendDuty && !dx, lastX := x, boundAt := some b, boundLate := late })
  let s2 := if late then (s1.evt (Blk.pwm + 4) 8).bump Obj.lateCount else s1
  let s3 := if split then (s2.evt (Blk.pwm + 4) 4).bump Obj.splitCount else s2
  if late || split then s3.irqPost 8 7 else s3

/-! ### CUE start and coasting -/

/-- The end of a CUE at the gates: every event within its length is applied, the rest is carried (R189). -/
def pwmCueEnd (s : State) : State :=
  let s1 := s.actUntil (s.nextStart - 1) 64
  let n := s1.pwm.todo.length
  if n = 0 then s1
  else
    let s2 := (s1.pwmSet fun w_ => { w_ with carried := s1.pwm.todo.map (fun e => e.1), todo := [] })
    (s2.addTo Obj.evCarried n).pwmEvt 0

/-- Values written during the CUE take effect (R194, R196, R197). -/
def pwmParams (s : State) : State :=
  (s.pwmSet fun w_ => { w_ with
    dtBr := s.og Obj.dtBr, dtBat := s.og Obj.dtBat, zeroMode := s.og Obj.zeroMode,
    trims := (List.range 8).map (fun g => s.og (Obj.edgeTrim g)) })

/-- The coast CURTAIN begins (Table 07-7). -/
def coastCurtain (s : State) : State :=
  ((s.withForce (fun s => (s.pwmSet fun w_ => { w_ with coast := 3 }))).pwmEvt 3).raise 24 0

/-- The carried events of the last record at a CUE start (R189): the dead time applies to the final transition only, which is
the new record's where that has an event at offset 0. With the last of them `old` is executed (R190). -/
def carriedEvents (old : Option SheetRec) (forced atStart : Bool) (s : State) : State :=
  let l := s.pwm.carried
  let s1 := s.pwmSet fun w => { w with carried := [] }
  if l.isEmpty ∨ forced ∨ (s1.bypKeeps ∧ l.any (fun e => e != s1.pwm.bridge)) then s1
  else
    let s2 := l.foldl (fun s e => s.enterState e) s1
    let s3 := if atStart then s2 else s2.showBridge s2.tm.tb0
    match old with | some r => s3.recordDone r | none => s3

/-- The record that the gates take at the start of CUE c (R187, R190). -/
def recordFor (c : Nat) (mark : Bool) (s : State) : Option SheetRec :=
  let good := mark && (s.tm.tb0State == .locked || s.tm.tb0State == .holdover) && s.pw.smType != 0
  match s.pwm.next with
  | some r => if r.cue = c ∧ good then some r else none
  | none => none

/-- What holds the gates over a CUE (R207, R210): an executed record lifts the cause of the cell not admitted. -/
def cueHeld (rec_ : Option SheetRec) (s : State) : State :=
  let freed := s.pwmSet fun w => { w with notAdm := false }
  if rec_.isSome ∧ freed.forcedNow % 16 = 0 then freed.pwmSet fun w => { w with held := freed.forcedNow }
  else s.pwmSet fun w => { w with held := s.forcedNow }

/-- A BYP_CMD that waits starts a bypass sequence (R211). -/
def bypCmdStart (s : State) : State :=
  if s.pwm.bypCmd then (s.pwmSet fun w_ => { w_ with bypCmd := false }).bypassStart false else s

/-- A CUE with the record r (R187, R189, R211, R214, R215). -/
def recordStart (r : SheetRec) (s : State) : State :=
  let s1 := s.pwmSet fun w_ => { w_ with
    cur := some r, todo := r.evs.map (fun (e : Nat × Nat) => (e.1, s.tm.tb0 + e.2)), m := 0, coast := 0 }
  let s2 := (s1.actUntil s1.tm.tb0 8).finishRecord
  (if r.fire then s2.bypassStart true else s2).bypCmdStart

/-- A CUE whose gates are held safe: m does not count (R211, R214). -/
def forcedStart (s : State) : State :=
  let s1 := s.bypCmdStart
  if s1.pwm.m = 0 then s1 else s1.bump Obj.coastCues

/-- A CUE without a record whose gates are free (R209 to R211, R214, R215, Table 07-7): a state and a count that the table does
not list together change nothing (R12). -/
def coastStart (s : State) : State :=
  let s1 := s.bypCmdStart
  let m := s1.pwm.m + 1
  let s2 := (s1.pwmSet fun w_ => { w_ with m := m }).bump Obj.coastCues
  let c := s2.pwm.coast
  let hold := s2.og Obj.coastHold
  let limit := s2.og Obj.coastLimit
  if m = limit ∧ c < 3 then s2.coastCurtain
  else if hold < m ∧ m < limit ∧ c < 2 then s2.pwmSet fun w_ => { w_ with coast := 2 }
  else if m = 1 ∧ 1 ≤ hold ∧ c = 0 then s2.pwmSet fun w_ => { w_ with coast := 1 }
  else s2

/-- The gates at a CUE start (R187, R189, R209 to R211, R214, R215), in the order of R210. `c` is the count of the CUE
that starts; TB0 stands at its start. -/
def pwmCueStart (c : Nat) (mark : Bool) (s : State) : State :=
  let s0 := s.pwmParams
  let rec_ := s0.recordFor c mark
  let s1 := s0.pwmSet fun w_ =>
    { w_ with next := none, late := s0.pwm.lateNext, lateNext := false, cur := none, done := none, miss := true }
  let s1' := match rec_ with
    | some r => s1.setNode { s1.ring.node with servedBy := r.port, index := r.idx }
    | none => s1
  let s2 := s1'.cueHeld rec_
  let s3 := if s2.pwm.bypSt = .cut ∧ !hasBit s2.pwm.held 6 then s2.bypassRise else s2
  let forced := s3.pwm.held % 16 != 0
  let atStart := match rec_ with | some r => r.evs.any (fun e => e.2 == 0) | none => false
  let s4 := s3.carriedEvents s0.pwm.cur forced atStart
  if forced then s4.forcedStart
  else match rec_ with
    | some r => s4.recordStart r
    | none => s4.coastStart

end State

end Sys2Proof.Machine
end

