-- ==== Sys2Proof/Machine/AdcOps.lean ====
section
/-! DEFINITION. The converters' shared operations: sequences, the sample instant of an entry, codes, engineering values
and result registers (R274 to R294). -/

namespace Sys2Proof.Machine

/-- 125 ps units in one ADC cycle of 12.5 ns (R274). -/
abbrev adcCycle : Nat := 100

/-- The first ADC edge at or after an instant in 125 ps units of TB2. -/
def adcEdge (t : Nat) : Nat := (t + adcCycle - 1) / adcCycle * adcCycle

/-- Fields of an entry descriptor (Table 10-3). -/
def dSimul (d : Nat) : Bool := hasBit d 31
def dConv (d : Nat) : Nat := bitN d 30
def dAvg (d : Nat) : Nat := 2 ^ fld d 29 28
def dInput (d : Nat) : Nat := fld d 27 23
def dGap (d : Nat) : Nat := fld d 22 15
def mkDesc (simul conv input : Nat) : Nat := simul * 2 ^ 31 + conv * 2 ^ 30 + input * 2 ^ 23

namespace State

/-- TB2 in 125 ps units. -/
def now8 (s : State) : Nat := s.tm.tb2 * 8 + s.tm.tb2Sub
/-- The TB2 instant, in 125 ps units, of a TB0 instant. -/
def tb0To8 (s : State) (t : Nat) : Nat := ((s.now8 : Int) + toI 64 (t + 2 ^ 64 - s.tm.tb0 % 2 ^ 64)).toNat
/-- The TB0 instant of a TB2 instant in 125 ps units. -/
def tb8To0 (s : State) (t : Nat) : Nat := ofI 64 ((s.tm.tb0 : Int) + t - s.now8)
/-- Time passes until TB2 reaches an instant in 125 ps units. -/
def to8 (s : State) (t : Nat) : State := if s.now8 < t then s.elapse (t - s.now8) else s

def seqRec (s : State) (q : Nat) : AdcSeq := Kv.get (fun _ => AdcSeq.reset) s.adc.seqs q
def setSeq (s : State) (q : Nat) (v : AdcSeq) : State :=
  s.adcSet fun w => { w with seqs := Kv.put (fun _ => AdcSeq.reset) q v w.seqs }
def adcRes (s : State) (k : Nat) : AdcRes := Kv.get (fun _ => AdcRes.reset) s.adc.res k
def setRes (s : State) (k : Nat) (v : AdcRes) : State :=
  s.adcSet fun w => { w with res := Kv.put (fun _ => AdcRes.reset) k v w.res }

/-- Set bits of ADC_EVT. -/
def adcEvt (b : Nat) (s : State) : State := s.evt (Blk.adc + 8) (2 ^ b)

/-! ### Set-up -/

/-- SQ0 and SQC0 belong to the battery stage (R284). -/
def seqReserved (s : State) (q : Nat) : Bool := s.hasStage && (q == 0 || q == 4)
/-- The temperature inputs in use. -/
def usedTemps (s : State) : List Nat :=
  ((List.range 4).map (fun i => s.og (Obj.batAinT i))).filter (fun n => n != 0xFF)
/-- First and last entry of a sequence. -/
def seqEnds (s : State) (q : Nat) : Nat × Nat :=
  if s.seqReserved q then (if q = 0 then (61, 63) else (60, 59 + s.usedTemps.length))
  else (s.og (Obj.seqRange q) / 256, s.og (Obj.seqRange q) % 256)
/-- The stored descriptor of entry n of a table. -/
def tableDesc (s : State) (c : Bool) (n : Nat) : Nat := rd (s.dg (if c then Obj.seqcTable else Obj.seqabTable)) (4 * n) 4
/-- The descriptor in force for entry n of the table of sequence q (R284 for the reserved ones). -/
def descOf (s : State) (q n : Nat) : Nat :=
  if s.seqReserved q then
    if q = 0 then
      (if n = 61 then mkDesc 0 0 (s.og Obj.batAinI) else if n = 62 then mkDesc 1 1 (s.og Obj.batAinV)
       else mkDesc 0 0 (dInput (s.tableDesc false (s.og Obj.repVcap))))
    else mkDesc 0 0 (s.usedTemps.getD (n - 60) 0)
  else s.tableDesc (decide (4 ≤ q)) n
/-- The trigger of a sequence: SQ0 runs at the carrier instants in READY and RUN, SQC0 on its 1 ms timer (R284). -/
def seqTrigOf (s : State) (q : Nat) : Nat :=
  if s.seqReserved q then
    (if q = 0 ∧ (s.bat.st = .ready ∨ s.bat.st = .run) ∧ s.og Obj.carMode ≠ 0 then 3 else 4)
  else s.og (Obj.seqTrig q)
/-- Period of a TIMER sequence, ns of TB2. -/
def seqPeriodOf (s : State) (q : Nat) : Nat :=
  if s.seqReserved q then (if q = 0 then 50000 else 1000000) else s.og (Obj.seqPeriod q)
/-- DELAY of a sequence, ns. -/
def seqDelayOf (s : State) (q : Nat) : Nat := if s.seqReserved q then 0 else s.og (Obj.seqDelay q)
/-- The converter of an entry: 0 ADC A, 1 ADC B, 2 ADC C. -/
def convOf (q d : Nat) : Nat := if 4 ≤ q then 2 else dConv d
/-- Slot of a converter in ADC cycles (Table 10-1). Also: R286. -/
def slotOf (s : State) (c : Nat) : Nat := if c < 2 then 20 else if s.og Obj.adccMode = 1 then 640 else 80
/-- Length of an entry's slots in 125 ps units. -/
def entryLen (s : State) (q d : Nat) : Nat := dAvg d * s.slotOf (convOf q d) * adcCycle
/-- Result key of entry n of sequence q. -/
def resKey (q n : Nat) : Nat := if 4 ≤ q then 64 + n else n

/-! ### Starts -/

/-- A start of sequence q whose Table 10-4 instant is t, in 125 ps units of TB2 (R280, R283): dropped while it runs, but
for a second start in the cycle of the first (Table 10-6); one in the ADC cycle of the last result write follows that write. -/
def seqStart (q t : Nat) (s : State) : State :=
  let r := s.seqRec q
  let e := s.seqEnds q
  let c := s.now8 / adcCycle
  if r.running then
    if r.startAt = c then s
    else if r.last < r.next ∧ r.open_.all (fun x => x.2.2.1 / adcCycle = c) then s.setSeq q { r with again := some (r.again.getD t) }
    else ((s.setSeq q { r with drops := inc 32 r.drops }).adcEvt 2).irqPost 16 0
  else if e.2 < e.1 then s
  else
    let ns := (List.range (e.2 + 1 - e.1)).map (fun i => e.1 + i)
    let s1 := s.setSeq q
      { r with running := true, startAt := s.now8 / adcCycle, starts := inc 32 r.starts,
               descs := ns.map (s.descOf q), first := e.1, last := e.2, next := e.1,
               due := adcEdge (t + 8 * s.seqDelayOf q), waited := false, open_ := [], mine := [], again := none }
    ns.foldl (fun s n => s.setRes (resKey q n) { s.adcRes (resKey q n) with stale := true }) s1

/-- Every sequence whose trigger is the given one starts. -/
def seqStartAll (trig t : Nat) (s : State) : State :=
  (List.range 8).foldl (fun s q => if s.seqTrigOf q = trig then s.seqStart q t else s) s

/-- The sequences triggered by time event n: ACTION bit 0 starts ADC A and B sequences, bit 1 ADC C sequences (R280). -/
def seqStartTevt (n act t : Nat) (s : State) : State :=
  (List.range 8).foldl (fun s q =>
    if s.seqTrigOf q = 2 ∧ s.og (Obj.seqTevt q) = n ∧ hasBit act (if q < 4 then 0 else 1) then s.seqStart q t else s) s

/-- A TIMER counts anew from now (R280). -/
def seqTimerArm (q : Nat) (s : State) : State :=
  s.setSeq q { s.seqRec q with timer := some (s.tm.tb2 + s.seqPeriodOf q) }

/-! ### The sample instant -/

/-- The descriptor of entry n at the running start of q. -/
def runDesc (r : AdcSeq) (n : Nat) : Nat := r.descs.getD (n - r.first) 0

/-- The converters on which sequence q samples first at its next start: its first entry's and its SIMUL partners'. -/
def firstConvs (s : State) (q : Nat) : List Nat :=
  let e := s.seqEnds q
  let rest := (List.range (e.2 - e.1)).map (fun i => e.1 + 1 + i)
  (e.1 :: rest.takeWhile (fun m => dSimul (s.descOf q m))).map (fun m => convOf q (s.descOf q m))

/-- Entries that sample with entry n: itself and the entries with SIMUL that follow it. -/
def simulGroup (r : AdcSeq) (n : Nat) : List Nat :=
  let rest := (List.range (r.last - n)).map (fun i => n + 1 + i)
  n :: rest.takeWhile (fun m => dSimul (runDesc r m))

/-- Whether a sequence comes before another on a converter (R282). -/
def seqBefore (s : State) (p q : Nat) : Bool :=
  let cp := s.seqTrigOf p == 1
  let cq := s.seqTrigOf q == 1
  if cp != cq then cp else decide (p < q)

/-- The first sample instant of CUE-triggered sequence p that a conversion on converter c may not reach past: of its
running start while its first entry has not sampled, else of its next start (R282). -/
def protectedAt (s : State) (p c : Nat) : Option Nat :=
  if s.seqTrigOf p ≠ 1 ∨ s.adc.cal = 1 then none
  else
    let r := s.seqRec p
    let waiting := r.running && r.next == r.first
    let convs := if waiting then (simulGroup r r.first).map (fun m => convOf p (runDesc r m)) else s.firstConvs p
    if !convs.contains c then none
    else if waiting then some r.due
    else some (adcEdge (s.tb0To8 s.nextStart + 8 * s.seqDelayOf p))

/-- Where the next entry of q samples: `.ok` its instant, `.error` the instant up to which it is held back (none while
no instant is known). -/
def sampleAt (s : State) (q : Nat) : Except (Option Nat) Nat :=
  let r := s.seqRec q
  let g := simulGroup r r.next
  let convs := g.map (fun n => (convOf q (runDesc r n), s.entryLen q (runDesc r n)))
  let t := adcEdge (convs.foldl (fun t c => max t (s.adc.free.getD c.1 0)) (max r.due s.now8))
  if s.adc.cal = 1 ∧ q < 4 then .error none
  else
    let rival := (List.range 8).find? (fun p =>
      let k := s.seqRec p
      p != q && k.running && decide (k.next ≤ k.last) && decide (k.due ≤ t) && s.seqBefore p q &&
        convs.any (fun c => (simulGroup k k.next).any (fun m => c.1 == convOf p (runDesc k m))))
    match rival with
    | some _ => .error none
    | none =>
      let block := convs.foldl (fun (b : Option Nat) c =>
        (List.range 8).foldl (fun (b : Option Nat) p =>
          if p = q ∧ r.next = r.first then b
          else
            match s.protectedAt p c.1 with
            | some x => if t < x ∧ x < t + c.2 then some (max x (b.getD 0)) else b
            | none => b) b) none
      match block with
      | some x => .error (some x)
      | none => .ok t

/-- Count a wait once per entry (R282). -/
def countWait (q : Nat) (s : State) : State :=
  let r := s.seqRec q
  if r.waited then s
  else ((s.setSeq q { r with waited := true, waits := inc 32 r.waits }).adcEvt 1).irqPost 16 1

/-- The next entry of q, with the SIMUL entries that follow, samples its input (R281); held back, it waits. -/
def entrySample (q : Nat) (s : State) : State :=
  let r := s.seqRec q
  if !r.running || decide (r.last < r.next) then s
  else
    match s.sampleAt q with
    | .error none => s.countWait q
    | .error (some x) => let s1 := s.countWait q; s1.setSeq q { s1.seqRec q with due := x }
    | .ok t =>
      let g := simulGroup r r.next
      let own := adcEdge (g.foldl (fun m x => max m (r.mine.getD (convOf q (runDesc r x)) 0)) r.due)
      let waits := g.any (fun m => decide (own < s.adc.free.getD (convOf q (runDesc r m)) 0))
      let s1 := (if waits then s.countWait q else s).to8 t
      let ends (f : List Nat) : List Nat := (List.range 3).map (fun c =>
        g.foldl (fun f m => if convOf q (runDesc r m) = c then max f (t + s1.entryLen q (runDesc r m)) else f) (f.getD c 0))
      let n := r.next + g.length
      let opened := g.map (fun m =>
        let d := runDesc r m
        (m, s1.tm.tb0, t + s1.entryLen q d, s1.adc.refReady, if dInput d < 16 then s1.og (Obj.ainPull (dInput d)) else 0))
      let r1 := s1.seqRec q
      let s2 := s1.setSeq q
        { r1 with open_ := r1.open_ ++ opened, next := n, waited := false, mine := ends r1.mine,
                  due := t + max (dGap (runDesc r n)) 1 * adcCycle }
      s2.adcSet fun w => { w with free := ends w.free }

/-! ### Codes and values -/

/-- Code of a voltage on the 2.5 V range of ADC A and B (R275). DESIGN CHOICE (notes/assumptions/49.md): halves up. -/
def voltCode (v : Rat) : Int := floorQ (262144 / 10 * v + 1 / 2) - 32768

/-- The code of one conversion, before clipping (R275, R294): of ADC A and B of its voltage in volts, after the factory
correction, and with the offset that self-calibration found; of ADC C of its 12-bit number. -/
def rawCode (s : State) (c : Nat) (x : Rat) : Int :=
  let f := s.dg Obj.calFactory
  let v := Config.factoryCorrect (rd f (8 * c) 4) (toI 16 (rd f (8 * c + 4) 2)) x
  match c with
  | 0 => voltCode v - s.adc.ofsA
  | 1 => voltCode v - s.adc.ofsB
  | _ => 16 * floorQ x - 32768

/-- The averaged code of an entry and whether a conversion clipped (R281). -/
def entryCode (s : State) (c n : Nat) (raws : List Rat) : Int × Bool :=
  let codes := (List.range n).map (fun i => s.rawCode c (raws.getD i 0))
  let sum := codes.foldl (fun a z => a + satS 16 z) 0
  ((sum + (n : Int) / 2) / (n : Int), codes.any (fun z => satS 16 z != z))

/-- GAIN × code + OFS as a binary32 word; a free value when the scaling is not finite (the spec states none). -/
def linear (s : State) (gain ofs : Nat) (code : Int) : Nat :=
  if F32.finite gain ∧ F32.finite ofs then F32.ofRat (F32.val gain * code + F32.val ofs) else s.freeNow % 2 ^ 32

/-- Linear interpolation in a conversion table (R277). -/
def tableValue (s : State) (t : Nat) (code : Int) : Nat :=
  let b := s.dg (Obj.convTable (t - 1))
  let u := (code + 32768).toNat
  let j := u / 4096
  let a := rd b (4 * j) 4
  let c := rd b (4 * (j + 1)) 4
  if F32.finite a ∧ F32.finite c then
    if code = 32767 then F32.ofRat (F32.val c)
    else F32.ofRat (F32.val a + (F32.val c - F32.val a) * ((u % 4096 : Nat) : Rat) / 4096)
  else s.freeNow % 2 ^ 32

/-- The engineering value of a result of entry n of sequence q (R277; R284 and R228 for the battery's entries). -/
def engValue (s : State) (q n input : Nat) (code : Int) : Nat :=
  if s.seqReserved q && q == 0 && n == 61 then s.linear (s.og Obj.batIGain) (s.og Obj.batIOfs) code
  else if s.seqReserved q && q == 0 && n == 62 then s.linear (s.og Obj.batVGain) (s.og Obj.batVOfs) code
  else if 16 ≤ input then
    let b := s.dg (Obj.intScale (input - 16))
    s.linear (rd b 0 4) (rd b 4 4) code
  else
    match s.og (Obj.ainConv input) with
    | 0 => s.linear (s.og (Obj.ainGain input)) (s.og (Obj.ainOfs input)) code
    | t => s.tableValue t code

/-! ### Result registers -/

/-- Whether a result is bad for a signal: RANGE, OPEN or REFNR (Table 09-1). -/
def AdcRes_bad (r : AdcRes) : Bool := r.range || r.open_ || r.refnr

/-- Bits [31:16] of a result register in the view of a seat; no view shows neither NEW nor OVERRUN (Table 10-5). -/
def resUpper (r : AdcRes) (view : Option Nat) : Nat :=
  let v (m : Nat) : Bool := match view with | some n => hasBit m n | none => false
  r.scnt % 256 + packBits [false, false, r.refnr, r.open_, r.range, v r.over_, r.stale, v r.new_] * 256

/-- A result register as it reads in a view. Also: R289. -/
def resWord (r : AdcRes) (view : Option Nat) : Nat := resUpper r view * 65536 + r.code % 65536

/-- A read in a seat's view: clears NEW and OVERRUN in it and latches the stamp of what it returns (R290); in the ADC cycle of the
write NEW stays set, for the result that has come (Table 10-6). -/
def resRead (k : Nat) (view : Option Nat) (s : State) : State :=
  match view with
  | none => s
  | some v =>
    let r := s.adcRes k
    let same := r.wrote == some (s.now8 / adcCycle)
    let at_ := if same then r.old.stamp else r.stamp
    s.setRes k { r with new_ := if same then r.new_ else clrBit r.new_ v, over_ := clrBit r.over_ v,
                        old := { r.old with new_ := clrBit r.old.new_ v, over_ := clrBit r.old.over_ v },
                        latched := (List.range 4).map (fun i => if i = v then at_ else r.latched.getD i 0) }

/-- The open-wire source of an input follows its results (R288): every result of the input counts, and one sampled
without a pull carries no OPEN. -/
def openWire (input : Nat) (isOpen : Bool) (s : State) : State :=
  let n := s.og Obj.owCount
  let o := if isOpen then min 255 (Kv.get (fun _ => 0) s.adc.opens input + 1) else 0
  let g := if isOpen then 0 else min 255 (Kv.get (fun _ => 0) s.adc.goods input + 1)
  let s1 := s.adcSet fun w => { w with opens := Kv.put (fun _ => 0) input o w.opens,
                                       goods := Kv.put (fun _ => 0) input g w.goods }
  if n ≤ o ∧ !hasBit s1.adc.openSt input then
    (((s1.adcSet fun w => { w with openSt := setBit w.openSt input }).adcEvt 3).irqPost 16 2).raise 34 input
  else if n ≤ g ∧ hasBit s1.adc.openSt input then
    (s1.adcSet fun w => { w with openSt := clrBit w.openSt input }).release 34 input
  else s1

/-- A result register as a reader finds it: in the ADC cycle of its write the content before it (Table 10-6). -/
def resShown (s : State) (k : Nat) : AdcRes :=
  let r := s.adcRes k
  let o := r.old
  if r.wrote = some (s.now8 / adcCycle) then
    { r with code := o.code, range := o.range, open_ := o.open_, refnr := o.refnr, stale := o.stale, scnt := o.scnt, new_ := o.new_,
             over_ := o.over_, value := o.value, stamp := o.stamp }
  else r

/-- The open conversion of a sequence whose slots end first, one slot after its last sample (R281), and the others. -/
def openFirst (r : AdcSeq) : Option ((Nat × Nat × Nat × Bool × Nat) × List (Nat × Nat × Nat × Bool × Nat)) :=
  (r.open_.find? (fun x => r.open_.all (fun y => decide (x.2.2.1 ≤ y.2.2.1)))).map (fun x => (x, r.open_.erase x))

/-- The open conversion of sequence q that ends first completes and its result is written (R275, R277, R281, R288 to R290): the
key written, with the input, and the state. With the last one the sequence ends, and a start of that ADC cycle follows (R283).
Also: R287, R291. -/
def resultWrite (q : Nat) (raws : List Rat) (s : State) : Option (Nat × Nat × State) :=
  let r := s.seqRec q
  match openFirst r with
  | none => none
  | some ((n, stamp, end_, ready, pull), rest) =>
    let s0 := s.to8 end_
    let d := runDesc r n
    let c := convOf q d
    let input := dInput d
    let cr := s0.entryCode c (dAvg d) raws
    let isOpen := input < 16 && pull != 0 &&
      (decide (cr.1 < s0.oi 16 (Obj.owLo input)) || decide (s0.oi 16 (Obj.owHi input) < cr.1))
    let k := resKey q n
    let old := s0.adcRes k
    let refOk := s0.adc.refReady && ready
    let new : AdcRes :=
      { written := true, code := ofI 16 cr.1, range := cr.2, open_ := isOpen, refnr := c < 2 && !refOk,
        stale := false, scnt := r.starts % 256, new_ := 15, over_ := old.over_ ||| old.new_,
        value := s0.engValue q n input cr.1, stamp := stamp, latched := old.latched, wrote := some (s0.now8 / adcCycle),
        old := { code := old.code, range := old.range, open_ := old.open_, refnr := old.refnr, stale := old.stale, scnt := old.scnt,
                 new_ := old.new_, over_ := old.over_, value := old.value, stamp := old.stamp } }
    let s1 := (s0.setRes k new).drawn
    let done := rest.isEmpty && decide (r.last < r.next)
    let s2 := s1.setSeq q { r with open_ := rest, running := !done }
    let s3 := if done then (s2.adcEvt 0).irqPost 15 q else s2
    let s4 := if input < 16 then s3.openWire input isOpen else s3
    let s5 := match r.again with | some t => if done then s4.seqStart q t else s4 | none => s4
    some (k, input, s5)

/-! ### Writes of the set-up -/

/-- Whether a table's entries are well formed, each after its predecessor (R279). -/
def tableOk (c : Bool) (d : Nat → Nat) : Bool :=
  (List.range 64).all (fun n =>
    let x := d n
    fld x 14 0 == 0 && decide (dInput x ≤ if c then 23 else 15) &&
    (if c then !dSimul x && dConv x == 0
     else !dSimul x || n == 0 || (dConv x != dConv (d (n - 1)) && dAvg x == dAvg (d (n - 1)))))

/-- The whole set-up holds by R279: the two tables, the ranges and the triggers. -/
def seqSetupOk (s : State) : Bool :=
  tableOk false (s.tableDesc false) && tableOk true (s.tableDesc true) &&
  (List.range 8).all (fun q =>
    let e := s.seqEnds q
    (s.seqReserved q || (decide (e.1 ≤ e.2) && decide (e.2 < 64) && !dSimul (s.descOf q e.1))) &&
    (List.range 8).all (fun p =>
      let f := s.seqEnds p
      decide (p / 4 ≠ q / 4 ∨ p = q) || s.seqTrigOf p == 0 || s.seqTrigOf q == 0 || decide (e.2 < e.1) || decide (f.2 < f.1) ||
        decide (e.2 < f.1) || decide (f.2 < e.1)))

/-- The entries that R284 reserves: 61 to 63 of the ADC A and B table, 60 upwards of the ADC C table. -/
def entryReserved (s : State) (c : Bool) (n : Nat) : Bool :=
  s.hasStage && (if c then decide (60 ≤ n ∧ n < 60 + s.usedTemps.length) else decide (61 ≤ n))

/-- A write of a whole table touches what R284 reserves when it changes a reserved entry (DESIGN CHOICE, 49: a write that
leaves them as they are does not touch them). -/
def touchesReserved (s t : State) : Bool :=
  [false, true].any (fun c => (List.range 64).any (fun n => s.entryReserved c n && s.tableDesc c n != t.tableDesc c n))

/-- A write of the set-up: whole or not at all (R279); the range test comes before the state test (R440). -/
def setupWrite (f : State → State) (s : State) : Except Nat State :=
  let t := f s
  if !seqSetupOk t then .error 5 else if s.touchesReserved t then .error 6 else .ok t
/-- The answer of a write to sequence q that passes its range test: a reserved sequence refuses it (R284). -/
def seqFree (q : Nat) (s : State) (x : Except Nat State) : Except Nat State :=
  match x with
  | .error c => .error c
  | .ok t => if s.seqReserved q then .error 6 else .ok t

def applySeqTable (c : Bool) (d : Bytes) (s : State) : Except Nat State :=
  s.setupWrite (fun s => s.dset (if c then Obj.seqcTable else Obj.seqabTable) d)
def applySeqEntry (c : Bool) (n v : Nat) (s : State) : Except Nat State :=
  let k := if c then Obj.seqcTable else Obj.seqabTable
  match s.setupWrite (fun s => s.dset k (patch (s.dg k) (4 * n) (leBytes 4 v))) with
  | .ok t => if s.entryReserved c n then .error 6 else .ok t
  | .error e => .error e
def applySeqRange (q v : Nat) (s : State) : Except Nat State :=
  if v % 256 < v / 256 ∨ 64 ≤ v % 256 then .error 5
  else s.seqFree q (s.setupWrite (fun s => s.oset (Obj.seqRange q) v))
def applySeqTrig (q v : Nat) (s : State) : Except Nat State :=
  if 7 < v ∨ (v = 3 ∧ s.isHead) then .error 5
  else
    match s.seqFree q (s.setupWrite (fun s => s.oset (Obj.seqTrig q) v)) with
    | .ok t => .ok (if v = 4 then t.seqTimerArm q else t)
    | .error c => .error c
def applySeqPeriod (q v : Nat) (s : State) : Except Nat State :=
  match s.seqFree q (s.plainWrite (Obj.seqPeriod q) v) with
  | .ok t => .ok (if t.seqTrigOf q = 4 then t.seqTimerArm q else t)
  | .error c => .error c
/-- A plain object of a sequence that R284 does not reserve. -/
def applySeqPlain (k q v : Nat) (s : State) : Except Nat State := s.seqFree q (s.plainWrite k v)
/-- SEQ_CMD 0x01 starts a sequence whose trigger is SOFTWARE (R280). -/
def applySeqCmd (q v : Nat) (s : State) : Except Nat State :=
  if v ≠ 1 then .error 5
  else if s.seqReserved q then .error 6
  else .ok (if s.seqTrigOf q = 5 then s.seqStart q s.now8 else s)

/-! ### Reference buffer and calibration -/

/-- The reference buffer is switched (R285). -/
def setRef (on : Bool) (s : State) : State :=
  let s1 := s.oset Obj.refEn (b2n on)
  if on then
    (if s.adc.refAt.isSome then s1 else s1.adcSet fun w => { w with refAt := some s.tm.tb2, refReady := false })
  else s1.adcSet fun w => { w with refAt := none, refReady := false }
def applyRefEn (v : Nat) (s : State) : Except Nat State := if v ≤ 1 then .ok (s.setRef (v == 1)) else .error 5

/-- A self-calibration starts (R294). -/
def calStart (s : State) : State := s.adcSet fun w => { w with cal := 1, calAt := s.tm.tb2, calOnce := true }
/-- The offset of a self-calibration run: the mean of 64 conversions, with halves up as R281 averages (DESIGN CHOICE, 49). -/
def calMean (shorts : List Int) : Int :=
  (((List.range 64).map (fun i => shorts.getD i 0)).foldl (· + ·) 0 + 32) / 64
/-- The mean of a run lies within ±256 codes (R294). -/
def calMeanOk (shorts : List Int) : Bool :=
  decide ((((List.range 64).map (fun i => shorts.getD i 0)).foldl (· + ·) 0).natAbs ≤ 256 * 64)
/-- An arm modulates. -/
def modulating (s : State) : Bool := (List.range 2).any (fun a => s.og (Obj.modMode a) != 0)
def applyCalCmd (v : Nat) (s : State) : Except Nat State :=
  if v ≠ 1 then .error 5
  else if (s.isCell && s.ring.node.admitted) || (s.isHead && s.modulating) || !s.adc.refReady || s.adc.cal == 1 then
    .error 6
  else .ok s.calStart

/-! ### Report values (R292, R293) -/

/-- A value in units of 1/n, halves up, within a range. -/
def unitsUp (lo hi : Int) (n : Rat) (w : Nat) : Int := satI lo hi (floorQ (F32.val w * n + 1 / 2))

/-- The measured report fields are assembled: VCAP, TEMP, and their part of STALE and VALID. -/
def reportMeasure (s : State) : State :=
  let vc := s.og Obj.repVcap
  let r := s.adcRes vc
  let has := vc != 0xFF && r.written
  let vcap := if has then (unitsUp 0 65535 20 r.value).toNat else 0
  let vstale := vc != 0xFF && (!r.written || decide (toI 64 (r.stamp + 2 ^ 64 - s.tm.cueStart % 2 ^ 64) < 0))
  let named := ((List.range 4).map (fun i => s.og (Obj.repTemp i))).filter (fun n => n != 0xFF)
  let good := (named.map (fun n => s.adcRes (64 + n))).filter (fun x => x.written && !AdcRes_bad x &&
    decide (toI 64 (s.tm.tb0 + 2 ^ 64 - x.stamp % 2 ^ 64) ≤ 8000 * (s.og Obj.tempAgeMax : Int)))
  let best := good.foldl (fun (m : Option Int) x =>
    let t := unitsUp (-32767) 32767 100 x.value
    match m with | none => some t | some y => some (max y t)) none
  let temp := match best with | some t => ofI 16 t | none => if named.isEmpty then 0 else s.adc.repTemp
  s.adcSet fun w => { w with repVcap := vcap, repTemp := temp, repStale := vstale || (!named.isEmpty && best.isNone),
                             repValid := has && !AdcRes_bad r }

end State

end Sys2Proof.Machine
end

