-- ==== Sys2Proof/Machine/Adc.lean ====
section
/-! DEFINITION. Commands of the measurement: set-up writes, starts, samples, result reads, the reference buffer and
self-calibration (Measurement: ADCs and sequences). -/

namespace Sys2Proof.Machine

open State

/-- A register write takes effect while the block's registers are served (R392, R444). -/
def regOn (s : State) (f : State → State) : State := if s.working then f s else s

/-- What an object write of the measurement that succeeded or not leaves of a register write: nothing when refused. -/
def regTry (s : State) (f : State → Except Nat State) : State :=
  regOn s (fun s => match f s with | .ok t => t | .error _ => s)

/-- A write of a sequence table, entry, range or trigger is checked whole (R279, R284). -/
def execSeqTableWrite (w : SeqWrite) (s : State) : Res :=
  match w with
  | .table a c d => .next (s.guardedWrite a (if c then Obj.seqcTable else Obj.seqabTable) d (applySeqTable c d))
  | .entry _ c n v => .next (regTry s (applySeqEntry c n.val v))
  | .range a q v => .next (s.guardedValue a (Obj.seqRange q.val) v (applySeqRange q.val))
  | .trig a q v => .next (s.guardedValue a (Obj.seqTrig q.val) v (applySeqTrig q.val))

/-- SEQ_PERIOD of TB2 elapses and the sequence starts (R280). -/
def execSeqTimer (seq : Fin 8) (s : State) : Res :=
  if s.running ∧ s.seqTrigOf seq.val = 4 then
    match (s.seqRec seq.val).timer with
    | some t =>
      let s1 := s.toTb2 t
      let s2 := s1.setSeq seq.val { s1.seqRec seq.val with timer := some (max t s1.tm.tb2 + s1.seqPeriodOf seq.val) }
      .next (s2.seqStart seq.val s2.now8)
    | none => .next (s.seqTimerArm seq.val)
  else .next s

/-- SEQ_CMD 0x01 (R280). -/
def execSeqCmdStart (acc : Accessor) (seq : Fin 8) (s : State) : Res :=
  .next (s.guardedValue acc (Obj.seqCmd seq.val) 1 (applySeqCmd seq.val))

/-- A write of ADC_SWSTART starts the SOFTWARE-triggered sequences whose bits are set (R280). -/
def execAdcSwstart (_path : Fin 3) (mask : Nat) (s : State) : Res :=
  .next (regOn s (fun s =>
    (List.range 8).foldl (fun s q => if hasBit mask q ∧ s.seqTrigOf q = 5 then s.seqStart q s.now8 else s) s))

/-- The next entry of a running sequence samples its input once its converter is free (R281, R282). -/
def execEntrySample (seq : Fin 8) (s : State) : Res := if s.running then .next (s.entrySample seq.val) else .next s

/-- A raw read of a result register in the view of its path (R290). -/
def execAdcResultRead (path : Fin 3) (c : Bool) (n : Fin 64) (s : State) : Res :=
  let k := if c then 64 + n.val else n.val
  if s.working then
    .next ((s.resRead k (some path.val)).emit (.word path.val (resWord (s.resShown k) (some path.val))))
  else .next s

/-- A read of RES_AB or RES_C in the view of the seat that reads (R290). -/
def execResultObjectRead (acc : Accessor) (c : Bool) (n : Fin 64) (s : State) : Res :=
  let k := if c then 64 + n.val else n.val
  let key := if c then Obj.resC n.val else Obj.resAb n.val
  .next (s.guardedRead acc key
    (fun s => let r := s.resShown k
      leBytes 2 r.code ++ leBytes 2 (resUpper r (accSeat acc)) ++ leBytes 4 r.value ++ leBytes 8 r.stamp)
    (fun s => s.resRead k (accSeat acc)))

/-- A write of REF_EN, or of its bit of ADC_CTRL (R285). -/
def execRefEnWrite (via : Via) (v : Nat) (s : State) : Res :=
  match via with
  | .obj a => .next (s.guardedValue a Obj.refEn v applyRefEn)
  | .reg _ => .next (regOn s (fun s => s.setRef (v % 2 == 1)))

/-- 2 ms of TB2 after the buffer is enabled (R285); the first time after reset a self-calibration runs (R294). -/
def execRefReadyTimer (s : State) : Res :=
  match s.adc.refAt with
  | some t =>
    if s.running ∧ !s.adc.refReady then
      let s1 := ((s.toTb2 (t + 2000000)).adcSet fun w => { w with refReady := true }).irqPost 16 4
      .next (if s1.adc.calOnce then s1 else s1.calStart)
    else .next s
  | none => .next s

/-- CAL_CMD 0x01 or the CAL bit of ADC_CTRL (R294). -/
def execCalCmd (via : Via) (s : State) : Res :=
  match via with
  | .obj a => .next (s.guardedValue a Obj.calCmd 1 applyCalCmd)
  | .reg _ => .next (regTry s (applyCalCmd 1))

/-- A self-calibration run ends after 16 µs with the 64 conversions of the internal short by each of ADC A and B, in codes
from the short's ideal code (R294). -/
def execCalDone (shortsA shortsB : List Int) (s : State) : Res :=
  if s.running ∧ s.adc.cal = 1 then
    let s1 := (s.toTb2 (s.adc.calAt + 16000)).irqPost 16 3
    if calMeanOk shortsA ∧ calMeanOk shortsB then
      .next ((s1.adcSet fun w => { w with cal := 2, ofsA := calMean shortsA, ofsB := calMean shortsB }).release 35 0)
    else .next ((s1.adcSet fun w => { w with cal := 3 }).raise 35 0)
  else .next s

end Sys2Proof.Machine
end

