-- ==== Sys2Proof/Machine/BatOps.lean ====
section
/-! DEFINITION. The battery stage's shared operations: its states, the limits, charge, protections, the share, and the
carrier (R199, R217 to R235). -/

namespace Sys2Proof.Machine

def clampQ (lo hi x : Rat) : Rat := if x < lo then lo else if hi < x then hi else x
def absQ (x : Rat) : Rat := if x < 0 then -x else x
/-- 1 at or below `one`, falling linearly to 0 at `zero` (R227: f_T, f_Vc). -/
def fallQ (one zero x : Rat) : Rat := if x ≤ one then 1 else if zero ≤ x then 0 else (zero - x) / (zero - one)
/-- 1 at or above `one`, falling linearly to 0 at `zero` (R227: f_Vd). -/
def riseQ (one zero x : Rat) : Rat := if one ≤ x then 1 else if x ≤ zero then 0 else (x - zero) / (one - zero)

namespace State

/-! ### Carrier -/

/-- G4 and G5 are held safe. -/
def batHeld (s : State) : Bool := s.pwm.held &&& 0x30 != 0

/-- The carrier stops at once: G4 and G5 go low and the shadows keep their contents (R220). -/
def carStop (s : State) : State :=
  let s1 := s.pwmSet fun w => { w with carRun := false, carAt := none, rises := w.rises.filter (fun r => r.1 < 4) }
  (s1.drive 4 false s1.tm.tb0).drive 5 false s1.tm.tb0

/-- The carrier runs or stops as R199 says. -/
def carSync (s : State) : State :=
  let run := s.hasStage && s.cellOn && s.bat.st == .run && s.og Obj.carMode != 0 && !s.batHeld
  if run = s.pwm.carRun then s
  else if run then s.pwmSet fun w => { w with carRun := true, carAt := none, carEdges := 0 }
  else s.carStop

/-- The edges of G4 within a period, as offsets from its boundary and the level after (R199). -/
def carEdgeList (s : State) : List (Nat × Bool) :=
  let per := s.pwm.per
  let duty := s.pwm.duty
  if duty = 0 ∨ 16 * per ≤ duty then []
  else if s.og Obj.carMode = 1 then [(duty, false)]
  else [(8 * per - duty / 2, true), (8 * per + duty - duty / 2, false)]

/-- G4 is commanded to a level and G5 to its complement under DT_BAT (R195, R199). -/
def carCommand (high : Bool) (t : Nat) (s : State) : State := s.command 0x30 (if high then 0x10 else 0x20) t

/-- The next edge of G4 takes place. -/
def carEdge (s : State) : State :=
  match s.pwm.carAt, s.carEdgeList[s.pwm.carEdges]? with
  | some a, some e =>
    if s.pwm.carRun then
      (s.toTb0 (a + e.1)).carCommand e.2 (a + e.1) |>.pwmSet fun w => { w with carEdges := w.carEdges + 1 }
    else s
  | _, _ => s

/-- The next edge of G4, if it lies up to an offset from the boundary. -/
def carEdgeBy (off : Nat) (s : State) : State :=
  match s.carEdgeList[s.pwm.carEdges]? with
  | some e => if e.1 ≤ off then s.carEdge else s
  | none => s

/-- A period boundary of the carrier at the present instant: shadows, G4 and G5, and the sequences it starts (R199 to
R201, R229, R280). A peak that transfers gives G4 the level of the new DUTY there. DESIGN CHOICE (notes/assumptions/64.md): the
half period that follows has the new PER, so that the next valley lies 8 × PER after the peak. -/
def carBoundary (peak : Bool) (s : State) : State :=
  let run := s.pwm.carRun
  let period := !peak || s.og Obj.carXfer == 1
  let s1 := if run && period then s.carrierBoundary else s
  let s2 := if run && !peak then
      (s1.pwmSet fun w => { w with carAt := some s1.tm.tb0, carEdges := 0 }).carCommand
        (if s1.og Obj.carMode = 1 then decide (0 < s1.pwm.duty) else decide (16 * s1.pwm.per ≤ s1.pwm.duty)) s1.tm.tb0
    else if run && period then
      (s1.pwmSet fun w => { w with
        carAt := w.carAt.map (fun _ => s1.tm.tb0 - 8 * w.per), carEdges := if s1.carEdgeList.isEmpty then 0 else 1 }).carCommand
        (decide (0 < s1.pwm.duty)) s1.tm.tb0
    else s1
  (List.range 8).foldl (fun s q =>
    if s.seqTrigOf q ≠ 3 then s
    else if s.seqReserved q then s.seqStart q (s.now8 + if s.og Obj.carMode = 1 then s.pwm.duty / 2 else 0)
    else if run && period then s.seqStart q s.now8 else s) s2

/-! ### Quantities -/

/-- SOC (R230). -/
def soc (s : State) : Nat :=
  (satI 0 65535 (roundAway (divQ 1 (65536 * s.bat.q) (3600 * s.oq Obj.batCap)))).toNat
/-- Charge of a SOC fraction. -/
def socCharge (s : State) (f : Rat) : Rat := f * 3600 * s.oq Obj.batCap
/-- The hottest segment temperature of the sensors in use, 0.01 °C, none before a result. -/
def hottest (s : State) : Option Rat :=
  ((List.range 4).filter (fun i => s.og (Obj.batAinT i) != 0xFF)).foldl (fun m i => match m, s.bat.temps.getD i none with
    | none, t => t
    | some a, none => some a
    | some a, some b => some (if a < b then b else a)) none

/-- The factors f_T, f_Vd and f_Vc (R227). -/
def derates (s : State) : Rat × Rat × Rat :=
  let t := match s.hottest with
    | none => 1
    | some t => fallQ (s.oi 16 Obj.tDerate) (s.oi 16 Obj.tMax) t
  (t, riseQ (s.oq Obj.vDisTaper) (s.oq Obj.batVmin) s.bat.vbat, fallQ (s.oq Obj.vChgTaper) (s.oq Obj.batVmax) s.bat.vbat)
/-- i_dis_eff and i_chg_eff (R227). -/
def iLimits (s : State) : Rat × Rat :=
  let (t, vd, vc) := s.derates
  (if s.soc ≤ s.og Obj.socMin then 0 else s.oq Obj.iDisMax * t * vd,
   if s.og Obj.socMax ≤ s.soc then 0 else s.oq Obj.iChgMax * t * vc)

/-- The feed-forward duty VBAT / VCAP (R226). -/
def feedDuty (s : State) : Rat := divQ 2 s.bat.vbat s.bat.vcap
/-- The feed-forward duty less the loop's output, clamped, with whether it was (R226). -/
def dutyOf (s : State) (y : Rat) : Rat × Bool :=
  let d := s.feedDuty - y
  let c := clampQ (q15 (s.og Obj.dutyMin)) (q15 (s.og Obj.dutyMax)) d
  (c, c != d)
/-- Write a duty to PWM_SHDUTY. -/
def setDuty (d : Rat) (s : State) : State := s.shadowDuty (roundAway (d * 16 * s.pwm.per)).toNat

/-! ### Stage states (Table 08-1) -/

/-- Run conditions (R219). -/
def runConds (s : State) : Bool :=
  let b := s.bat
  decide (s.oq Obj.batVmin ≤ b.vbat ∧ b.vbat ≤ s.oq Obj.batVmax) && decide (b.vbat + s.oq Obj.vcapHeadroom ≤ b.vcap) &&
  (s.tm.tb0State == .locked || s.tm.tb0State == .holdover) &&
  (if s.og Obj.batTest = 0 then b.psv else !s.ring.node.admitted)

/-- BAT_STATE changes: the source of group 9, and the carrier. -/
def batEnter (st : BatSt) (s : State) : State :=
  if s.bat.st = st then s
  else ((s.batSet fun b => { b with st := st, psv := if st = .ready then false else b.psv }).irqPost 9 0).carSync


/-- One transition of Table 08-1 that needs no protection and no command. -/
def batOnce (s : State) : State :=
  let wanted := s.og Obj.batMode == 2 || s.og Obj.batTest != 0
  match s.bat.st with
  | .off => if s.hasStage && wanted then s.batEnter .ready else s
  | .ready =>
    if !wanted then s.batEnter .off
    else if s.runConds then
      ((s.loop0Zero.batSet fun b => { b with sP := 0 }).setDuty s.feedDuty).batEnter .run
    else s
  | .run => if !wanted then s.batEnter .off else if s.runConds then s else s.batEnter .ready
  | .fault => if !wanted then s.batEnter .off else s

/-- The stage follows Table 08-1 after a change of anything it tests. -/
def batStep (s : State) : State := if s.isCell then s.batOnce.batOnce else s

/-- A STOP reaction (R218, R220, R233): from READY or RUN the stage enters FAULT. -/
def batStop (src : Nat) (s : State) : State :=
  let s1 := if s.bat.st = .ready ∨ s.bat.st = .run then (s.batEnter .fault).irqPost 9 1 else s
  s1.raise src 0

/-! ### Protections (Table 08-3) -/

/-- Conditions of BAT_OV, BAT_UV, BAT_OC and BAT_OT on the newest results, in that order. -/
def protConds (s : State) : List Bool :=
  let b := s.bat
  [decide (s.oq Obj.batVmax * 102 / 100 < b.vbat),
   b.st == .run && decide (b.vbat < s.oq Obj.batVmin * 98 / 100),
   s.oq Obj.iOc != 0 && decide (s.oq Obj.iOc < absQ b.ibat),
   match s.hottest with | none => false | some t => decide ((s.oi 16 Obj.tMax : Rat) < t)]

/-- An open wire on a battery input (BAT_SENSE). -/
def senseOpen (s : State) : Bool :=
  s.hasStage && (s.og Obj.batAinV :: s.og Obj.batAinI :: s.usedTemps).any (fun n => hasBit s.adc.openSt n)
/-- In RUN, VBAT and VCAP results older than 4 carrier periods (BAT_SENSE). -/
def senseOld (s : State) : Bool :=
  let old (k : Nat) : Bool := decide (64 * (s.pwm.per : Int) < toI 64 (s.tm.tb0 + 2 ^ 64 - (s.adcRes k).stamp % 2 ^ 64))
  s.hasStage && s.bat.st == .run && old 62 && old 63

/-- Count a result in a run of consecutive results beyond a threshold; a result within it ends the run. -/
def runOf (c : Bool) (i : Nat) (l : List Nat) : List Nat := l.set i (if c then min 16 (l.getD i 0 + 1) else 0)
/-- A run has reached BAT_FLT results (R233). -/
def fltReached (s : State) (n : Nat) : Bool := decide (s.og Obj.batFlt ≤ n)
/-- Count a result in run i of the sampled quantities. -/
def overRun (i : Nat) (c : Bool) (s : State) : State := s.batSet fun b => { b with overs := runOf c i b.overs }

/-- Test BAT_OV, BAT_UV or BAT_OC on a new result: it acts after BAT_FLT consecutive results beyond its threshold, and its
source is released by a result within it. -/
def protTest (i : Nat) (s : State) : State :=
  let c := s.protConds.getD i false
  let s1 := s.overRun i c
  if c then (if s1.fltReached (s1.bat.overs.getD i 0) then s1.batStop (26 + i) else s1) else s1.release (26 + i) 0

/-- BAT_SENSE: an open wire after BAT_FLT results with it, results that are too old at once. While it stands the stage is stopped
whenever it has come to READY or RUN. -/
def senseTest (s : State) : State :=
  if s.senseOld || (s.senseOpen && s.fltReached (s.bat.overs.getD 3 0)) then
    (if s.bat.sense ∧ s.bat.st ≠ .ready ∧ s.bat.st ≠ .run then s else (s.batSet fun b => { b with sense := true }).batStop 30)
  else if s.bat.sense ∧ !s.senseOpen then (s.batSet fun b => { b with sense := false }).release 30 0
  else s

/-- BAT_DERATE: after BAT_FLT consecutive results of VBAT, or of one sensor, with a factor of R227 below 0.5; released when
every factor is 0.5 or more. -/
def derateTest (s : State) : State :=
  let (t, vd, vc) := s.derates
  if !decide (t < 1 / 2 ∨ vd < 1 / 2 ∨ vc < 1 / 2) then s.release 32 0
  else if s.fltReached (s.bat.overs.getD 4 0) || s.bat.warms.any s.fltReached then s.raise 32 0
  else s

/-- Any STOP condition present now. -/
def stopPresent (s : State) : Bool := s.protConds.any id || s.senseOpen || s.senseOld

/-- A result of temperature sensor i of the stage (R228, R233): BAT_OT acts after BAT_FLT consecutive results of one sensor
above T_MAX, and is released when the hottest of them is not. -/
def batTemp (i k : Nat) (s : State) : State :=
  let t : Rat := F32.val (s.adcRes k).value * 100
  let hot := decide ((s.oi 16 Obj.tMax : Rat) < t)
  let warm := decide (fallQ (s.oi 16 Obj.tDerate) (s.oi 16 Obj.tMax) t < 1 / 2)
  let s1 := s.batSet fun b =>
    { b with temps := b.temps.set i (some t), hots := runOf hot i b.hots, warms := runOf warm i b.warms }
  let s2 := if hot ∧ s1.fltReached (s1.bat.hots.getD i 0) then s1.batStop 29
    else if s1.protConds.getD 3 false then s1 else s1.release 29 0
  s2.derateTest

/-- A write of BAT_AIN_T (R228): what its sensor gave before counts no more. -/
def applyBatAinT (i k v : Nat) (s : State) : Except Nat State :=
  (s.plainWrite k v).map (fun s => s.batSet fun b =>
    { b with temps := b.temps.set i none, hots := b.hots.set i 0, warms := b.warms.set i 0 })

/-! ### Samples (R229 to R231) -/

/-- The rest band of R231 follows the mean of a CUE (R232); a CUE outside it is a break, and re-arms the setting. -/
def restTrack (mean : Rat) (s : State) : State :=
  if absQ mean ≤ s.oq Obj.restI then
    s.batSet fun b => { b with restAt := match b.restAt with | none => some s.tm.tb2 | x => x }
  else s.batSet fun b => { b with restAt := none, restDone := false }

/-- A battery sample completes, its three entries written at one start of SQ0 (R284): charge,
SOC_SET, the rest band, the protections, the stage (R219, R230, R231, R233). -/
def batSample (s : State) : State :=
  let i := F32.val (s.adcRes 61).value
  let v := F32.val (s.adcRes 62).value
  let vc := F32.val (s.adcRes 63).value
  let at_ := (s.adcRes 61).stamp
  let whole := (s.adcRes 63).written && (s.adcRes 63).scnt == (s.adcRes 61).scnt && (s.adcRes 62).scnt == (s.adcRes 61).scnt
  if s.bat.sampleAt = some at_ ∨ !whole then s
  else
    let dt : Rat := match s.bat.sampleAt with
      | none => 0
      | some t => (toI 64 (at_ + 2 ^ 64 - t % 2 ^ 64) : Rat) / 8000000000
    let ic := if i < 0 then i * q15 (s.og Obj.batEta) else i
    let q1 := s.bat.q - ic * dt
    let q2 := match s.bat.socPend with | none => q1 | some x => s.socCharge ((x : Rat) / 65536)
    let inCue := decide (0 ≤ toI 64 (at_ + 2 ^ 64 - s.tm.cueStart % 2 ^ 64))
    let s1 := s.batSet fun b =>
      { b with vbat := v, ibat := i, vcap := vc, sampleAt := some at_, q := q2, socPend := none,
               sumNow := if inCue then b.sumNow + i else b.sumNow, numNow := if inCue then b.numNow + 1 else b.numNow }
    let (_, vd, vc) := s1.derates
    let s2 := (s1.overRun 3 s1.senseOpen).overRun 4 (decide (vd < 1 / 2 ∨ vc < 1 / 2))
    (((((s2.protTest 0).protTest 1).protTest 2).senseTest).derateTest).batStep

/-- The SOC fraction OCV_TABLE gives at the present VBAT (R231). -/
def ocvSoc (s : State) : Rat :=
  let tb := s.dg Obj.ocvTable
  let e (j : Nat) : Rat := (rd tb (2 * j) 2 : Rat) / 20
  let v := s.bat.vbat
  if v ≤ e 0 then 0
  else if e 16 ≤ v then 1
  else
    match (List.range 16).find? (fun j => decide (e j ≤ v ∧ v < e (j + 1))) with
    | some j => ((j : Rat) + (v - e j) / (e (j + 1) - e j)) / 16
    | none => 1

/-! ### CUE start -/

/-- The battery fields of the report are latched at the start of a CUE (R232). -/
def batLatch (s : State) : State :=
  let b := s.bat
  let i := if b.numNow = 0 then b.ibat else b.sumNow / b.numNow
  (if b.numNow = 0 then s else s.restTrack i).batSet fun b =>
    { b with repV := (satI 0 65535 (floorQ (b.vbat * 20 + 1 / 2))).toNat, repI := ofI 16 (satI (-32767) 32767 (roundAway (i * 20))),
             repSoc := s.soc, repStale := b.numNow == 0, sumNow := 0, numNow := 0 }

/-- The stage at a CUE start, after the actions of R210: the share of an executed record, QUIET, the carrier's release
(R209, R224). A record still in progress leaves the target it found behind, for the case that it is cut. -/
def batCueStart (s : State) : State :=
  let s1 := match s.pwm.cur, s.pwm.done with
    | some r, _ => if r.psv then s.batSet fun b => { b with sT := q15 r.share, sBack := some b.sT } else s
    | none, some r => if r.psv then s.batSet fun b => { b with sT := q15 r.share } else s
    | none, none => s
  let s2 := if s1.pwm.coast = 2 then s1.batSet fun b => { b with sT := 0 } else s1
  if s2.hasStage then ((s2.batLatch.senseTest).batStep).carSync else s2

/-- Admission sets BAT_TEST to 0x00 (R222, Table 08-4); where it was not, the stage leaves RUN for READY. -/
def batAdmitted (s : State) : State :=
  let s1 := s.oset Obj.batTest 0
  if s.og Obj.batTest ≠ 0 ∧ s.bat.st = .run then s1.batEnter .ready else s1.batStep

/-! ### The loop (R224, R226) -/

/-- The local loop owns the duty (R223). -/
def loopOwns (s : State) : Bool := (s.bat.st == .ready || s.bat.st == .run) && s.og Obj.batTest != 1

/-- Set or clear a bit of BAT_FLAGS. -/
def batFlag (i : Nat) (b : Bool) (s : State) : State := s.oset Obj.batFlags (putBit (s.og Obj.batFlags) i b)

/-- The share target in force (R224). -/
def shareTarget (s : State) : Rat :=
  if s.og Obj.batTest = 2 then divQ 3 (s.oq Obj.batPLocal) (s.oq Obj.batPRated) else s.bat.sT

/-- The setpoint slews towards the target since the last execution (R224), or is held at 0 while paused (R221). -/
def shareSlew (s : State) : State :=
  let t := s.tm.tb0
  if s.batHeld then s.batSet fun b => { b with sP := 0, loopAt := some t }
  else
    let ms : Rat := match s.bat.loopAt with | none => 0 | some a => (toI 64 (t + 2 ^ 64 - a % 2 ^ 64) : Rat) / 8000000
    let step := s.oq Obj.pSlew * ms
    let d := s.shareTarget - s.bat.sP
    s.batSet fun b => { b with sP := b.sP + clampQ (-step) step d, loopAt := some t }

/-- The loop's error as a fraction of BAT_I_FS, with the flags of R227 (R226). -/
def batError (s : State) : Rat × State :=
  let b := s.bat
  let vmin := s.oq Obj.batVmin
  let pRef := b.sP * s.oq Obj.batPRated
  let iRef := divQ 4 pRef (if b.vbat < vmin then vmin else b.vbat)
  let lim := s.iLimits
  let i := clampQ (-lim.2) lim.1 iRef
  let (t, vd, vc) := s.derates
  let soc := decide (s.soc ≤ s.og Obj.socMin ∨ s.og Obj.socMax ≤ s.soc)
  (divQ 5 (i - b.ibat) (s.oq Obj.batIFs),
   (((s.batFlag 0 (decide (t < 1))).batFlag 1 (decide (vd < 1 ∨ vc < 1))).batFlag 2 soc).batFlag 3 (i != iRef))

/-- The loop's output drives the duty (R221, R223, R226), the feed-forward duty alone while a cause holds G4 and G5; 64
executions in a row at a duty limit raise BAT_SAT. -/
def batOutput (y : Int) (s : State) : State :=
  let held := s.batHeld
  let d := if held then (s.feedDuty, false) else s.dutyOf ((y : Rat) / 32768)
  let n := if d.2 then min 64 (s.bat.satRun + 1) else 0
  let s1 := ((s.batSet fun b => { b with satRun := n }).batFlag 4 d.2).batFlag 5 held
  let s2 := s1.raiseIf (n == 64) 31 0
  if s2.loopOwns then s2.setDuty d.1 else s2

/-! ### Writes -/

/-- The limits R222 asks for. -/
def batLimitsSet (s : State) : Bool :=
  [Obj.batPRated, Obj.batCap, Obj.iDisMax, Obj.iChgMax, Obj.batVmax].all (fun k => decide (0 < s.oq k)) &&
  decide (s.oq Obj.batVmin < s.oq Obj.vDisTaper ∧ s.oq Obj.vDisTaper ≤ s.oq Obj.vChgTaper ∧
          s.oq Obj.vChgTaper < s.oq Obj.batVmax)

def applyBatMode (v : Nat) (s : State) : Except Nat State :=
  if v ≠ 0 ∧ v ≠ 2 then .error 5
  else if v = 2 ∧ (!s.batLimitsSet || s.og Obj.batCommissioned == 0) then .error 6
  else .ok (s.oset Obj.batMode v).batStep
def applyBatTest (v : Nat) (s : State) : Except Nat State :=
  if 2 < v then .error 5
  else if v ≠ 0 ∧ (!s.batLimitsSet || s.ring.node.admitted) then .error 6
  else .ok (s.oset Obj.batTest v).batStep
def applyBatCmd (v : Nat) (s : State) : Except Nat State :=
  if v ≠ 1 then .error 5
  else .ok (if s.bat.st = .fault ∧ !s.stopPresent then (s.batEnter .ready).batStep else s)
def applySocSet (v : Nat) (s : State) : Except Nat State := .ok (s.batSet fun b => { b with socPend := some v })
/-- The host's duty within DUTY_MIN and DUTY_MAX while it drives the stage by BAT_TEST 0x01 (R223). -/
def hostDuty (s : State) (v : Nat) : Nat :=
  let units (k : Nat) : Nat := (roundAway (q15 (s.og k) * 16 * s.pwm.per)).toNat
  if (s.bat.st = .ready ∨ s.bat.st = .run) ∧ s.og Obj.batTest = 1 then
    max (units Obj.dutyMin) (min v (units Obj.dutyMax)) else v
/-- A host write of the duty (R203, R223). -/
def seatDuty (v : Nat) (s : State) : State := if s.loopOwns then s.ownErr else s.shadowDuty (s.hostDuty v)
def applyShDuty (v : Nat) (s : State) : Except Nat State := .ok (s.seatDuty v)

/-- CAR_MODE (R199): the carrier stops or starts with it. Centre mode asks for an even PER: it is refused while the active or
the pending one is odd (DESIGN CHOICE, 49). -/
def applyCarMode (k v : Nat) (s : State) : Except Nat State :=
  if v = 2 ∧ (s.pwm.per % 2 = 1 ∨ s.pwm.shPer % 2 = 1) then .error 6
  else (s.plainWrite k v).map carSync

/-! ### The delay line (R198) -/

/-- TB0 instants of the edges scheduled on any output. -/
def edgesAhead (s : State) : List Nat :=
  let w := s.pwm
  let at2 (t : Nat) : Nat := s.tm.tb0 + 8 * (t - s.tm.tb2)
  let car := match w.carAt with
    | some a => if w.carRun then (a + 16 * w.per) :: ((s.carEdgeList.drop w.carEdges).map (fun e => a + e.1)) else []
    | none => []
  let byp := match w.bypSt with
    | .delay => [at2 (w.bypAt + s.og Obj.bypDelay)]
    | .pulse | .done => [at2 (w.riseAt + s.og Obj.bypPulse)]
    | .confirm => [at2 (w.riseAt + 1000 * s.og Obj.bypConfirm)]
    | _ => []
  let next := match w.next with | some r => r.evs.map (fun e => s.nextStart + e.2) | none => []
  let g7 := if s.isCell ∧ s.sl.cByte.isSome then [s.nextStart] else []
  w.todo.map (·.2) ++ w.rises.map (·.2) ++ car ++ byp ++ next ++ g7

/-- A waiting tap update takes place in a PWM cycle with no edge within the next 4 PWM cycles. -/
def calSettle (s : State) : State :=
  match s.pwm.calPend with
  | none => s
  | some v =>
    if s.edgesAhead.any (fun t => decide (t < s.tm.tb0 + 64)) then s
    else (s.oset Obj.tapPs v).pwmSet fun w => { w with calPend := none }

end State

end Sys2Proof.Machine
end

