-- ==== Sys2Proof/Machine/LoopOps.lean ====
section
/-! DEFINITION. The loop engine's shared operations: signals, the loop law, coefficient writes, groups, injection, NCOs
and the arm outputs (R239 to R273). -/

namespace Sys2Proof.Machine

/-- A signal as it is read: a binary32 value, a TB0 stamp and its quality (R242). -/
structure Sig where
  val : Nat
  stamp : Nat
  good : Bool

/-! ### Q15 and Q30 arithmetic (R239 to R241) -/

/-- An engineering value at a full scale, as Q15 (R240): an infinite value saturates. -/
def toQ15 (v fs : Nat) : Int :=
  if F32.isInf v then (if F32.neg v then -32768 else 32767)
  else satS 16 (roundAway (divQ 6 (32768 * F32.val v) (F32.val fs)))

/-- A product shifted by a signed count (R241). -/
def shiftQ (z s : Int) : Int := if 0 ≤ s then z * 2 ^ s.toNat else (z + 2 ^ ((-s).toNat - 1)) / 2 ^ (-s).toNat
/-- The accumulator as Q15 (R241). -/
def round15 (z : Int) : Int := (z + 16384) / 32768

/-- Fields of a channel descriptor (Table 09-7). -/
def dU16 (d : Bytes) (o : Nat) : Nat := rd d o 2
def dI16 (d : Bytes) (o : Nat) : Int := toI 16 (rd d o 2)
def dGroup (d : Bytes) : Nat := rd d 6 1
def dFlag (d : Bytes) (i : Nat) : Bool := hasBit (rd d 7 1) i
/-- Limits in Q15: 26 I_LO, 28 I_HI, 30 Y_LO, 32 Y_HI. -/
def dFresh (d : Bytes) : Nat := rd d 40 4

/-- A descriptor with its DCRC made valid. -/
def sealDesc (d : Bytes) : Bytes := d.take 60 ++ leBytes 4 (crc32 (d.take 60))
/-- A gain table with its TCRC made valid. -/
def sealGtab (g : Bytes) : Bytes := g.take 256 ++ leBytes 4 (crc32 (g.take 256))

/-- The gains for an error (R246). -/
def gains (g : Bytes) (e : Int) : Int × Int :=
  let a := min e.natAbs 32767
  let j := a / 512
  let r : Int := (a % 512 : Nat)
  let at_ (o : Nat) : Int :=
    let g0 := toI 16 (rd g (4 * j + o) 2)
    if 63 ≤ j then g0 else g0 + ((toI 16 (rd g (4 * (j + 1) + o) 2) - g0) * r + 256) / 512
  (at_ 0, at_ 2)

/-- The proportional, feed-forward and integral terms of an execution (R245). -/
def loopTerms (d g : Bytes) (e ff : Int) : Int × Int × Int :=
  let k := gains g e
  (shiftQ (k.1 * e) (dI16 d 22), dI16 d 20 * ff, shiftQ (k.2 * e) (dI16 d 24))

/-- The integral increment held while the output saturates (R245, INT_HOLD_SAT). -/
def holdSat (d : Bytes) (y inc : Int) : Int :=
  if dFlag d 3 ∧ ((y = dI16 d 32 ∧ 0 < inc) ∨ (y = dI16 d 30 ∧ inc < 0)) then 0 else inc

/-- Clamp an integrator to a descriptor's limits. -/
def clampInt (d : Bytes) (i : Int) : Int := satI (dI16 d 26 * 32768) (dI16 d 28 * 32768) i
/-- Clamp an output to a descriptor's limits. -/
def clampOut (d : Bytes) (y : Int) : Int := satI (dI16 d 30) (dI16 d 32) y

/-- Apply one waiting coefficient write to the set in force (R259, R260). -/
def applyLoopW (c : Bytes × Bytes) : LoopW → Bytes × Bytes
  | .desc b => (b, c.2)
  | .gtab b => (c.1, b)
  | .field off len v => (patch c.1 off (leBytes len v), c.2)
  | .poke n kp ki => (c.1, patch c.2 (4 * n) (leBytes 2 kp ++ leBytes 2 ki))

/-- One step of the PRBS-15 register (R269). -/
def prbsStep (r : Nat) : Nat := r % 16384 * 2 + (bitN r 14 + bitN r 13) % 2

namespace State

/-- Channels of the role (Table 01-2). -/
def chCount (s : State) : Nat := if s.isHead then 32 else 4
def loopCh (s : State) (c : Nat) : LoopCh := Kv.get (fun _ => LoopCh.reset) s.loop.ch c
def setCh (s : State) (c : Nat) (v : LoopCh) : State :=
  s.loopSet fun l => { l with ch := Kv.put (fun _ => LoopCh.reset) c v l.ch }
/-- Descriptor and gain table in force. -/
def chDesc (s : State) (c : Nat) : Bytes :=
  let r := s.loopCh c; if r.desc.isEmpty then Dict.domDflt (Obj.loopDesc c) else r.desc
def chGtab (s : State) (c : Nat) : Bytes :=
  let r := s.loopCh c; if r.gtab.isEmpty then Dict.domDflt (Obj.loopGtab c) else r.gtab

/-- Channel 0 is bound to the battery stage (R253). -/
def chBound (s : State) (c : Nat) : Bool :=
  c == 0 && s.hasStage && (s.bat.st == .ready || s.bat.st == .run)
/-- A channel executes when its group runs (R253, R263). -/
def chOn (s : State) (c : Nat) : Bool := s.chBound c || dFlag (s.chDesc c) 0

def nco (s : State) (n : Nat) : NcoRec := if n = 0 then s.loop.nco0 else s.loop.nco1
def setNco (s : State) (n : Nat) (v : NcoRec) : State :=
  s.loopSet fun l => if n = 0 then { l with nco0 := v } else { l with nco1 := v }
def arm (s : State) (a : Nat) : ArmOut := if a = 0 then s.loop.armA else s.loop.armB
def setArm (s : State) (a : Nat) (v : ArmOut) : State :=
  s.loopSet fun l => if a = 0 then { l with armA := v } else { l with armB := v }


/-! ### Signals (Table 09-1) -/

/-- Whether a code is in Table 09-1 for the role (R242). -/
def sigOk (s : State) (c : Nat) : Bool :=
  decide (c < s.chCount) || (decide (0x100 ≤ c) && decide (c < 0x140)) || (decide (0x200 ≤ c) && decide (c < 0x240)) ||
  (decide (0x300 ≤ c) && decide (c < 0x310)) || c == 0xFFFF ||
  (s.isHead && ((decide (0x400 ≤ c) && decide (c ≤ 0x406)) || (decide (0x410 ≤ c) && decide (c ≤ 0x416)) ||
    (decide (0x500 ≤ c) && decide (c < 0x600) && decide (c % 16 ≤ 9)) || c == 0x600 || c == 0x601)) ||
  (s.isCell && decide (0x700 ≤ c) && decide (c ≤ 0x702))

/-- The plant angle at a TB0 instant for a frequency and a phase, in turns (R256). -/
def plantAngle (s : State) (f ph : Rat) (t : Nat) : Rat :=
  let ns : Rat := (s.tm.tb1 : Rat) + (since t s.tm.tb0 : Rat) / 8
  let x := f * ns / 1000000000 + ph
  x - (floorQ x : Rat)

/-- The angle of an NCO at a number of TB0 units after the start of the present CUE, in turns: the plant angle in mode 0x02
while TB1 is LOCKED, else from the CUE's start at its frequency. -/
def ncoAngle (s : State) (n : Nat) (off : Rat) : Rat :=
  let r := s.nco n
  let sec := off / 8000000000
  if r.modeNow = 2 ∧ !r.lost then s.plantAngle r.fNow r.phaseNow s.tm.cueStart + r.fNow * sec
  else (r.now : Rat) / 2 ^ 32 + r.fNow * sec

/-- The angle predicted at a number of TB0 units after the start of the next CUE, in turns (R255, R256). -/
def ncoAhead (s : State) (n : Nat) (off : Rat) : Rat :=
  let r := s.nco n
  (r.next : Rat) / 2 ^ 32 + r.fNext * (off / 8000000000)

/-- Read a signal at the present instant. -/
def signal (s : State) (c : Nat) : Sig :=
  let now := s.tm.tb0
  if c < 0x20 then
    let r := s.loopCh c
    if s.now8 < r.outFrom then { val := r.before.1, stamp := r.before.2, good := s.chOn c }
    else { val := r.out, stamp := r.outAt, good := s.chOn c }
  else if 0x100 ≤ c ∧ c < 0x140 then
    let r := s.adcRes (c - 0x100); { val := r.value, stamp := r.stamp, good := !AdcRes_bad r }
  else if 0x200 ≤ c ∧ c < 0x240 then
    let r := s.adcRes (64 + (c - 0x200)); { val := r.value, stamp := r.stamp, good := !AdcRes_bad r }
  else if 0x300 ≤ c ∧ c < 0x310 then { val := s.og (Obj.loopConst (c - 0x300)), stamp := now, good := true }
  else if 0x400 ≤ c ∧ c < 0x420 then
    let a := s.arm (c / 16 % 2)
    { val := a.agg.getD (c % 16) 0, stamp := a.aggAt.getD (c % 16) 0, good := a.aggOk.getD (c % 16) false }
  else if 0x500 ≤ c ∧ c < 0x600 then
    let r := Kv.get (fun _ => PeerRec.reset) s.xl.peers (c / 16 % 16)
    let f := c % 16
    { val := if f < 5 then r.a.getD f 0 else r.b.getD (f - 5) 0, stamp := r.at0,
      good := hasBit r.flags (if f < 5 then 0 else 1) }
  else if c = 0x600 ∨ c = 0x601 then
    let n := c % 2
    let x := s.ncoAngle n (since now s.tm.cueStart)
    { val := min (F32.ofRat (x - (floorQ x : Rat))) 0x3F7FFFFF, stamp := now, good := (s.nco n).modeNow != 0 }
  else if 0x700 ≤ c ∧ c ≤ 0x702 then
    let b := s.bat
    { val := F32.ofRat (if c = 0x700 then b.ibat else if c = 0x701 then b.vbat else b.vcap),
      stamp := b.sampleAt.getD 0, good := !b.sense }
  else { val := 0, stamp := now, good := true }

/-- Age of a signal in ns. -/
def sigAge (s : State) (x : Sig) : Int := since s.tm.tb0 x.stamp / 8

/-- A signal serves an input of a channel: good quality, a number, and within FRESH_MAX (R240, R248, R265). -/
def sigFresh (s : State) (d : Bytes) (x : Sig) : Bool :=
  x.good && !F32.isNaN x.val && (dFresh d == 0 || decide (since s.tm.tb0 x.stamp ≤ 8 * (dFresh d : Int)))

/-! ### Coefficient writes (R259 to R263) -/

/-- The present CTL cycle (4 ns). -/
def ctlCycle (s : State) : Nat := s.now8 / 32
/-- The waiting writes of a channel that apply now: those accepted before this CTL cycle (Table 09-4), or all. -/
def loopDue (s : State) (c : Nat) (all : Bool) : List LoopW :=
  ((s.loopCh c).pend.filter (fun x => all || decide (x.1 < s.ctlCycle))).map (fun x => x.2)
/-- The INT_SET that applies at an execution now. -/
def intSetDue (s : State) (c : Nat) : Option Int :=
  match (s.loopCh c).intSet with
  | some (t, v) => if t < s.ctlCycle then some v else none
  | none => none

/-- The waiting writes of a channel in order take ENABLE from 0 to 1 (R263); while bound, ENABLE is ignored (R253). -/
def loopRises (s : State) (c : Nat) (all : Bool) : Bool :=
  let step (x : (Bytes × Bytes) × Bool) (w : LoopW) : (Bytes × Bytes) × Bool :=
    let y := applyLoopW x.1 w
    (y, x.2 || (!dFlag x.1.1 0 && dFlag y.1 0))
  !s.chBound c && ((s.loopDue c all).foldl step ((s.chDesc c, s.chGtab c), false)).2

/-- Fallback is entered or left: the fault source and the channel's interrupt source. Also: R267. -/
def fallbackSet (c : Nat) (on : Bool) (s : State) : State :=
  let s1 := (s.setCh c { s.loopCh c with fallback := on, recov := 0 }).irqPost (11 + c / 8) (c % 8)
  if on then (s1.raise 33 c).bump (Obj.fallbackCount c) else s1.release 33 c

/-- ENABLE changes from 0 to 1 (R263). -/
def chEnable (c : Nat) (s : State) : State :=
  let s1 := if (s.loopCh c).fallback then s.fallbackSet c false else s
  s1.setCh c { s1.loopCh c with i := 0, y := 0, freeze := 0, recov := 0, fbStamp := none }

/-- Apply the waiting writes of a channel in order, those that are due or all: COEF_EPOCH rises by their number. -/
def loopApply (c : Nat) (all : Bool) (s : State) : State :=
  let r := s.loopCh c
  let l := s.loopDue c all
  if l.isEmpty then s
  else
    let set := l.foldl applyLoopW (s.chDesc c, s.chGtab c)
    let s1 := ((s.setCh c { r with desc := set.1, gtab := set.2, pend := r.pend.drop l.length }).addTo (Obj.coefEpoch c)
      l.length).irqPost 10 7
    if s.loopRises c all then s1.chEnable c else s1

/-- Pend a write, or apply it at acceptance while the channel's group is OFF. -/
def loopPend (c : Nat) (w : LoopW) (s : State) : State :=
  let r := s.loopCh c
  let s1 := s.setCh c { r with pend := r.pend ++ [(s.ctlCycle, w)] }
  if s.og (Obj.groupSrc (dGroup (s.chDesc c) % 4)) = 0 then s1.loopApply c true else s1

/-- Field ranges of a descriptor (Table 09-7, R260). -/
def descOk (s : State) (d : Bytes) : Bool :=
  rd d 60 4 == crc32 (d.take 60) && s.sigOk (rd d 0 2) && s.sigOk (rd d 2 2) && s.sigOk (rd d 4 2) &&
  decide (dGroup d ≤ 3) && decide (rd d 7 1 ≤ 15) &&
  [8, 12, 16].all (fun o => let f := rd d o 4; !F32.isNaN f && (F32.isInf f && !F32.neg f || F32.finite f && decide (0 < F32.val f))) &&
  decide (-8 ≤ dI16 d 22 ∧ dI16 d 22 ≤ 8 ∧ -8 ≤ dI16 d 24 ∧ dI16 d 24 ≤ 8) &&
  decide (dI16 d 26 ≤ dI16 d 28 ∧ dI16 d 30 ≤ dI16 d 32) && decide (1 ≤ rd d 36 2) &&
  decide (1 ≤ rd d 38 1 ∧ rd d 38 1 ≤ 3) && decide (1 ≤ rd d 44 1) && rd d 45 15 == 0

def applyLoopDesc (c : Nat) (d : Bytes) (s : State) : Except Nat State :=
  if s.descOk d then .ok ((s.dset (Obj.loopDesc c) d).loopPend c (.desc d)) else .error 5
def applyLoopGtab (c : Nat) (g : Bytes) (s : State) : Except Nat State :=
  if rd g 256 4 = crc32 (g.take 256) then .ok ((s.dset (Obj.loopGtab c) g).loopPend c (.gtab g)) else .error 5
def applyGtabPoke (c v : Nat) (s : State) : Except Nat State :=
  if fld v 63 54 ≠ 0 ∨ fld v 47 32 ≠ 0 then .error 5
  else
    let n := fld v 53 48
    let g := patch (s.dg (Obj.loopGtab c)) (4 * n) (leBytes 2 (fld v 31 16) ++ leBytes 2 (fld v 15 0))
    .ok ((s.dset (Obj.loopGtab c) (sealGtab g)).loopPend c (.poke n (fld v 31 16) (fld v 15 0)))
/-- A write of one descriptor field through its own object: the accepted descriptor shows it at once. -/
def loopField (c off len v : Nat) (s : State) : State :=
  (s.dset (Obj.loopDesc c) (sealDesc (patch (s.dg (Obj.loopDesc c)) off (leBytes len v)))).loopPend c (.field off len v)
/-- I_LO, I_HI, Y_LO, Y_HI (0 to 3), against the accepted values (R247). -/
def applyLoopLimit (w c v : Nat) (s : State) : Except Nat State :=
  let off := 26 + 2 * w
  let other := dI16 (s.dg (Obj.loopDesc c)) (if w % 2 = 0 then off + 2 else off - 2)
  let x := toI 16 v
  if (w % 2 = 0 ∧ other < x) ∨ (w % 2 = 1 ∧ x < other) then .error 6 else .ok (s.loopField c off 2 v)
def applyLoopFlags (c v : Nat) (s : State) : Except Nat State := if v ≤ 15 then .ok (s.loopField c 7 1 v) else .error 5
/-- KP_SHIFT (22) and KI_SHIFT (24). -/
def applyLoopShift (off c v : Nat) (s : State) : Except Nat State :=
  if -8 ≤ toI 16 v ∧ toI 16 v ≤ 8 then .ok (s.loopField c off 2 v) else .error 5
def applyFfGain (c v : Nat) (s : State) : Except Nat State := .ok (s.loopField c 20 2 v)
def applyIntSet (c v : Nat) (s : State) : Except Nat State := .ok (s.setCh c { s.loopCh c with intSet := some (s.ctlCycle, toI 16 v) })
/-- GROUP_SRC: the writes that wait apply when the source becomes OFF (R259). -/
def applyGroupSrc (g v : Nat) (s : State) : Except Nat State :=
  if 3 < v ∨ (v = 1 ∧ s.isCell) then .error 5
  else
    let s1 := s.oset (Obj.groupSrc g) v
    if v = 0 then
      .ok ((List.range s.chCount).foldl (fun s c => if dGroup (s.chDesc c) % 4 = g then s.loopApply c true else s) s1)
    else .ok s1

/-! ### Injection (R269 to R271) -/

/-- End or abort the injection: INJ_STATE and source 6 of group 10. -/
def injEnd (st : Nat) (s : State) : State :=
  ((s.loopSet fun l => { l with injOn := false }).oset Obj.injState st).irqPost 10 6

/-- The causes that abort an injection (R270). -/
def injAbortCause (s : State) (c : Nat) : Bool :=
  !s.chOn c || (s.loopCh c).fallback || s.forcedNow != 0 ||
    (s.isHead && (List.range 12).any (fun p => (s.ringRec p).curtain))

/-- The test value of the present execution (R269), with the PRBS register advanced. -/
def injValue (s : State) : Int × State :=
  let n := s.loop.injN
  let a := s.oi 16 Obj.injAmp
  let p := s.og Obj.injPeriod
  match s.og Obj.injShape with
  | 1 => (a, s)
  | 2 => (if n % p < p / 2 then a else -a, s)
  | 3 =>
    let r := if n % p = 0 then prbsStep s.loop.prbs else s.loop.prbs
    (if hasBit r 0 then a else -a, s.loopSet fun l => { l with prbs := r })
  | _ => (roundAway ((a : Rat) * sinTurns ((n : Rat) / (p : Rat))), s)

def applyInjCmd (v : Nat) (s : State) : Except Nat State :=
  let c := s.og Obj.injCh
  if v = 1 then
    if s.loop.injOn || !s.chOn c || (s.loopCh c).fallback then .error 6
    else .ok ((s.loopSet fun l =>
      { l with injOn := true, injCh := c, injN := 0, prbs := 0x7FFF, injRec := true, resp := [] }).oset Obj.injState 1)
  else if v = 2 then .ok (if s.loop.injOn then s.injEnd 2 else s)
  else .error 5

/-- Record an execution of the injected channel and count it (R271). -/
def injRecord (w e y fb i : Int) (st c : Nat) (s : State) : State :=
  let n := s.loop.injN
  let r := leBytes 4 n ++ leBytes 2 (ofI 16 w) ++ leBytes 2 (ofI 16 e) ++ leBytes 2 (ofI 16 y) ++ leBytes 2 (ofI 16 fb) ++
    leBytes 2 (ofI 16 (satS 16 (round15 i))) ++ leBytes 1 st ++ leBytes 1 (s.og (Obj.coefEpoch c))
  let keep := n % s.og Obj.respDecim == 0 && decide (s.loop.resp.length < 1024)
  let s1 := s.loopSet fun l => { l with resp := if keep then l.resp ++ [r] else l.resp, injN := n + 1 }
  if s1.loop.injOn ∧ s1.og Obj.injLen ≤ n + 1 then s1.injEnd 2 else s1

/-! ### The loop law (R245 to R268) -/

/-- The feedback of an execution: its value and the LOST and FROZEN tests (R265, R266). Answers q, LOST, FROZEN. -/
def chFeedback (c : Nat) (d : Bytes) (code : Nat) (s : State) : Int × Bool × Bool × State :=
  if code = 0xFFFF then (0, false, false, s.oset (Obj.fbAge c) 0)
  else
    let x := s.signal code
    let r := s.loopCh c
    let age := satI 0 0xFFFFFFFF (s.sigAge x)
    let fresh := r.fbStamp != some x.stamp
    let cnt := if !fresh then r.freeze
      else if r.fbStamp.isSome ∧ r.fbRaw = x.val then min 255 (r.freeze + 1) else 0
    let s1 := (s.setCh c { r with freeze := cnt, fbStamp := some x.stamp, fbRaw := x.val }).oset (Obj.fbAge c) age.toNat
    (toQ15 x.val (rd d 8 4), !s.sigFresh d x, rd d 39 1 != 0 && decide (rd d 39 1 ≤ cnt), s1)

/-- What a channel publishes and its status (R240, R245). -/
def chPublish (c : Nat) (d : Bytes) (y e i : Int) (st at_ : Nat) (s : State) : State :=
  let r := s.loopCh c
  let s1 := s.setCh c { r with
      y := y, i := i, enabled := true,
      atLimit := i == dI16 d 26 * 32768 || i == dI16 d 28 * 32768,
      out := F32.ofRat ((y : Rat) * F32.val (rd d 16 4) / 32768), outAt := at_,
      before := (r.out, r.outAt), outFrom := s.now8 + 128 }
  ((((s1.oset (Obj.loopStatus c) st).oset (Obj.loopY c) (ofI 16 y)).oset (Obj.loopE c) (ofI 16 e)).oset
    (Obj.loopInt c) (ofI 32 (satS 32 (2 * i)))).bump (Obj.execCount c)

/-- One execution of a channel at the present instant (R245): `susp` marks one that a computation suspended. Also: R261, R262, R264. -/
def chExec (c : Nat) (susp : Bool) (s : State) : State :=
  let n := (s.loopDue c false).length
  let set_ := s.intSetDue c
  let d0 := s.chDesc c
  let g0 := s.chGtab c
  let s1 := s.loopApply c false
  let d := s1.chDesc c
  let g := s1.chGtab c
  let bound := s1.chBound c
  if !bound && !dFlag d 0 then
    let s2 := if s1.loop.injOn && s1.loop.injCh == c then s1.injEnd 3 else s1
    (s2.setCh c { s2.loopCh c with enabled := false }).oset (Obj.loopStatus c) 0
  else
    let rising := s.loopRises c false
    let s2 := s1
    let at_ := s2.tm.tb0
    let yPrev := (s2.loopCh c).y
    let fresh (x : Sig) : Bool := s2.sigFresh d x
    let spx := s2.signal (rd d 0 2)
    let spGood := bound || fresh spx
    let spv := if spGood ∧ !bound then some spx.val else (s2.loopCh c).sp
    let ffx := s2.signal (rd d 4 2)
    let ffGood := fresh ffx
    let ff := if ffGood then toQ15 ffx.val (rd d 12 4) else 0
    let sp0 := match spv with | some v => toQ15 v (rd d 8 4) | none => 0
    let s3 := s2.setCh c { s2.loopCh c with sp := spv }
    let (fb, lost, frozen, s4) := s3.chFeedback c d (if bound then 0x700 else rd d 2 2)
    -- fallback entry and exit
    let bad := lost || frozen
    let was := (s4.loopCh c).fallback
    let good := (s4.loopCh c).recov + 1
    let leaving := was && !bad && decide (rd d 44 1 ≤ good)
    let s5 := if bad then
        (if was then s4.setCh c { s4.loopCh c with recov := 0 } else s4.fallbackSet c true)
      else if leaving then s4.fallbackSet c false
      else if was then s4.setCh c { s4.loopCh c with recov := good } else s4
    let fall := (s5.loopCh c).fallback
    -- injection
    let inj0 := s5.loop.injOn && s5.loop.injCh == c
    let s6 := if inj0 && s5.injAbortCause c then s5.injEnd 3 else s5
    let inj := s6.loop.injOn && s6.loop.injCh == c
    let (w, s7) := if inj then s6.injValue else (0, s6)
    let pt := s7.og Obj.injPoint
    let w1 := if inj ∧ pt = 1 then w else 0
    let w2 := if inj ∧ pt = 2 then w else 0
    let w3 := if inj ∧ pt = 3 then w * 32768 else 0
    let sp := satS 16 (sp0 + w1)
    -- the error
    let (eRaw, s8) := if bound then
        let p := (s7.shareSlew).batError
        (roundAway (p.1 * 32768), p.2)
      else (sp - fb, s7)
    let e := satS 16 (satS 16 eRaw + w2)
    let (p, f, inc) := loopTerms d g e ff
    let r := s8.loopCh c
    let iHeld := bound && s8.batHeld
    if fall then
      let y := match rd d 38 1 with
        | 1 => yPrev
        | 2 =>
          let safe := dI16 d 34
          let step : Int := (rd d 36 2 : Nat)
          if yPrev < safe then min (yPrev + step) safe else max (yPrev - step) safe
        | _ => clampOut d (round15 f)
      let taken := rising && set_.isSome
      let i := if iHeld then 0 else if taken then clampInt d (set_.getD 0 * 32768) else r.i
      let cut := rd d 38 1 == 3 && y != round15 f
      let st := packBits [true, true, lost, frozen, i == dI16 d 26 * 32768 || i == dI16 d 28 * 32768, cut,
        satS 16 eRaw != eRaw, false, !spGood, !ffGood, bound, false, susp]
      let s9 := (if taken then s8.setCh c { r with intSet := none } else s8).chPublish c d y e i st at_
      let s10 := if s9.loop.injRec && s9.loop.injCh == c then s9.injRecord 0 e y fb i (st % 256) c else s9
      if bound then s10.batOutput y else s10
    else
      let useSet := set_.isSome
      let bumpless := dFlag d 1
      let adjust := decide (0 < n) && bumpless && !useSet && !rising && !leaving
      let start := match set_ with
        | some x => clampInt d (x * 32768)
        | none => if leaving && bumpless then clampInt d (yPrev * 32768 - p - f) else r.i
      let normal := clampInt d (start + holdSat d yPrev inc)
      let t0 := loopTerms d0 g0 e ff
      let io := clampInt d0 (r.i + holdSat d0 yPrev t0.2.2)
      let ao := t0.1 + io + t0.2.1
      let atLim := r.atLimit
      let i0 := if adjust then (if dFlag d 2 && atLim then clampInt d io else clampInt d (ao - p - f)) else normal
      let i := if iHeld then 0 else i0
      let yr := round15 (p + i + f + w3)
      let y := clampOut d yr
      let yo := clampOut d0 (round15 (ao + w3))
      let excl := decide (0 < n) && !useSet && !rising && clampInt d r.i != r.i
      let st := packBits [true, false, false, false, i == dI16 d 26 * 32768 || i == dI16 d 28 * 32768, y != yr,
        satS 16 eRaw != eRaw, (adjust || excl) && y != yo, !spGood, !ffGood, bound, inj, susp]
      let s9 := (if useSet then s8.setCh c { r with intSet := none } else s8).chPublish c d y e i st at_
      let s10 := if s9.loop.injRec && s9.loop.injCh == c then s9.injRecord w e y fb i (st % 256) c else s9
      if bound then s10.batOutput y else s10

/-! ### Groups (R249 to R252) -/

def grpRec (s : State) (g : Nat) : LoopGroup := Kv.get (fun _ => LoopGroup.reset) s.loop.groups g
def setGroup (s : State) (g : Nat) (v : LoopGroup) : State :=
  s.loopSet fun l => { l with groups := Kv.put (fun _ => LoopGroup.reset) g v l.groups }
/-- The channels of a group, ascending. -/
def groupChans (s : State) (g : Nat) : List Nat :=
  (List.range s.chCount).filter (fun c => dGroup (s.chDesc c) % 4 == g)

/-- An execution of a group begins to wait for the engine; its first channel may start from `at_` on (TB2, 125 ps). A group
without channels has executed at once. -/
def groupOpen (g at_ : Nat) (s : State) : State :=
  let l := s.groupChans g
  let s1 := s.setGroup g { s.grpRec g with todo := l, startAt := at_, nextAt := at_, begun := false, susp := false, pend := false }
  if l.isEmpty then s1.irqPost 10 g else s1

/-- The held starts whose group has completed its execution before an instant follow (R252). -/
def openHeld (t8 : Nat) (s : State) : State :=
  (List.range 4).foldl (fun s g =>
    let r := s.grpRec g
    if r.todo.isEmpty ∧ r.pend ∧ r.endAt < t8 then s.groupOpen g r.endAt else s) s

/-- A start of a group arrives (R252): held while an execution is in progress or suspended, dropped when one is held
already. -/
def groupArrive (g at_ : Nat) (s0 : State) : State :=
  let s := s0.openHeld (s0.now8 + 1)
  let r := s.grpRec g
  if r.todo.isEmpty ∧ r.endAt ≤ s.now8 then s.groupOpen g at_
  else if r.pend then (s.bump (Obj.groupOverrun g)).irqPost 10 4
  else s.setGroup g { r with pend := true }

/-- The group whose channel the engine takes next: the earliest start, then the lowest number (R250). -/
def groupNext (s : State) : Option Nat :=
  ((List.range 4).filter (fun g => !(s.grpRec g).todo.isEmpty)).foldl (fun (m : Option Nat) g =>
    match m with
    | none => some g
    | some h => if (s.grpRec g).startAt < (s.grpRec h).startAt then some g else m) none

/-- A channel executes as of a TB2 instant (125 ps) up to which time passes; where time has gone beyond it, its stamps are still
those of the instant (R250). -/
def chExecAt (c at_ : Nat) (susp : Bool) (s : State) : State :=
  let s1 := s.to8 at_
  let t := s1.tm
  let s2 := (s1.tmSet fun w => { w with
    tb2 := at_ / 8, tb2Sub := at_ % 8, tb0 := s1.tb8To0 at_, tb1 := t.tb1 - (s1.now8 - at_) / 8 }).chExec c susp
  s2.tmSet fun w => { w with tb2 := t.tb2, tb2Sub := t.tb2Sub, tb0 := t.tb0, tb1 := t.tb1 }

/-- The next channel of a group executes at its start, 20 ns long; a disabled one takes no time (R250). With the end of the last
one the execution is complete (R252). -/
def groupOne (g at_ : Nat) (s : State) : State :=
  let r := s.grpRec g
  match r.todo with
  | [] => s
  | c :: t =>
    let s2 := s.chExecAt c at_ r.susp
    let free := at_ + (if (s2.loopCh c).enabled then 160 else 0)
    let s3 := (s2.loopSet fun l => { l with freeAt := free }).setGroup g
      { r with todo := t, nextAt := free, begun := true, endAt := free }
    if t.isEmpty then s3.irqPost 10 g else s3

/-- Every channel that starts before an instant executes, at most `n` of them (TB2, 125 ps). -/
def groupsTill : Nat → Nat → State → State
  | 0, _, s => s
  | n + 1, t8, s0 =>
    let s := s0.openHeld t8
    match s.groupNext with
    | none => s
    | some g =>
      let at_ := max (s.grpRec g).nextAt s.loop.freeAt
      if at_ < t8 then groupsTill n t8 (s.groupOne g at_) else s

/-- The channels that have started by the present instant have executed. -/
def groupsNow (s : State) : State := s.groupsTill 256 s.now8
/-- Time passes until TB0, or TB2, reaches an instant; the channels that start before it execute. -/
def loopTo0 (s : State) (t : Nat) : State := (s.groupsTill 256 (s.tb0To8 t)).toTb0 t
def loopTo2 (s : State) (t : Nat) : State := (s.groupsTill 256 (8 * t)).toTb2 t

/-- A computation starts at t8: no channel of a group in progress starts before CTL cycle 210 of it (R251). -/
def groupSuspend (t8 : Nat) (s : State) : State :=
  let after := t8 + 32 * 210
  ((List.range 4).foldl (fun s g =>
    let r := s.grpRec g
    if r.todo.isEmpty then s
    else if r.begun then
      ((s.setGroup g { r with nextAt := max r.nextAt after, susp := true }).bump (Obj.groupSuspend g)).irqPost 10 5
    else s.setGroup g { r with nextAt := max r.nextAt after }) s).loopSet fun l => { l with freeAt := max l.freeAt after }

/-- The groups that time event n starts, after the PWM cycle in which it fires (Table 09-3, R250). -/
def groupTevt (n : Nat) (s : State) : State :=
  let at_ := (s.now8 / 16 + 1) * 16
  (List.range 4).foldl (fun s g =>
    if s.og (Obj.groupSrc g) = 3 ∧ s.og (Obj.groupTevt g) = n then s.groupArrive g at_ else s) s

/-- The next SUBTICK instant of a group: its number in the present CUE. -/
def subtickNext (s : State) (g : Nat) : Nat :=
  let r := s.grpRec g
  if r.cue = some s.tm.cue then r.j else 0

/-- The COMPUTE channels execute in their fixed slots, channel c from CTL cycle 10 + 5c (R249, R251). `t8` is the
computation's start in 125 ps units of TB2. -/
def groupCompute (t8 : Nat) (s : State) : State :=
  let s1 := (List.range s.chCount).foldl (fun s c =>
    if s.og (Obj.groupSrc (dGroup (s.chDesc c) % 4)) = 1 then (s.to8 (t8 + 32 * (10 + 5 * c))).chExec c false else s) s
  (List.range 4).foldl (fun s g => if s.og (Obj.groupSrc g) = 1 then s.irqPost 10 g else s) s1

/-! ### NCOs and arm outputs (R254 to R257) -/

/-- A signal serves a composition: good, and no older than a CUE (R254 to R256). -/
def sigInCue (s : State) (x : Sig) : Bool := x.good && decide (since s.tm.tb0 x.stamp ≤ 8 * (s.tm.cueLen : Int))

/-- The NCO at the computation takes its objects: frequency over the next CUE, plant mode gained or lost (R144, R256, R257). -/
def ncoCompute (n : Nat) (s : State) : State :=
  let f0 := s.oq (Obj.ncoF0 n)
  let mode := s.og (Obj.ncoMode n)
  let r := { s.nco n with mode := mode, phase := s.oq (Obj.ncoPhase n), held := false }
  match mode with
  | 0 => s.setNco n { r with next := 0, fNext := 0, lost := false }
  | 1 =>
    let code := s.og (Obj.ncoFreqSrc n)
    let x := s.signal code
    let r := { r with lost := false }
    if code = 0xFFFF then s.setNco n { r with fNext := f0 }
    else if s.sigInCue x then s.setNco n { r with fNext := f0 + F32.val x.val, last := some x.val }
    else
      let v := match r.last with | some v => F32.val v | none => 0
      s.setNco n { r with fNext := f0 + v, held := true }
  | _ =>
    if s.tm.tb1State = .locked then
      let a := s.plantAngle f0 r.phase s.nextStart
      s.setNco n { r with
        next := ofI 32 (roundAway (a * 2 ^ 32)), fNext := f0, lost := false, stepped := r.stepped || r.lost }
    else s.setNco n { r with fNext := f0, lost := true }

/-- The NCO at a CUE start: θ at the start of the next CUE (R256). -/
def ncoCueStart (n : Nat) (s : State) : State :=
  let r := s.nco n
  let step := roundAway (2 ^ 32 * r.fNext * (s.tm.cueLen : Rat) / 1000000000)
  s.setNco n { r with now := r.next, fNow := r.fNext, modeNow := r.mode, phaseNow := r.phase,
                      next := ofI 32 ((r.next : Int) + step) }

/-- TB1 leaves LOCKED: an NCO in plant mode runs on from its present angle (R256). -/
def ncoTb1Lost (n : Nat) (s : State) : State :=
  let r := s.nco n
  if r.modeNow = 2 ∧ !r.lost then
    let a := s.plantAngle r.fNow r.phaseNow s.tm.cueStart
    s.setNco n { r with now := ofI 32 (roundAway (a * 2 ^ 32)), lost := true }
  else if r.mode = 2 then s.setNco n { r with lost := true }
  else s

/-- NCO_STATUS (Table 09-8). -/
def ncoStatus (s : State) : Nat :=
  let fr (n : Nat) : Bool := let r := s.nco n; r.mode == 1 || (r.mode == 2 && r.lost)
  packBits [(s.nco 0).stepped, (s.nco 1).stepped, fr 0, fr 1, (s.nco 0).held, (s.nco 1).held]

/-- The cosine unit: within 2^-20 of the cosine (R255). -/
def cosUnit (q : Rat) : Rat :=
  let e : Int := Config.cosError (F32.ofRat q)
  cosTurns q + (satI (-1048576) 1048576 e : Rat) / (2 ^ 40 : Nat)

/-- The last good value of a term's source, and whether it is held (R255). -/
def termSrc (s : State) (code last : Nat) : Nat × Bool :=
  if code = 0xFFFF then (0, false)
  else let x := s.signal code; if s.sigInCue x then (x.val, false) else (last, true)

/-- A reference term at an offset in TB0 units from the next CUE's start. -/
def termAt (s : State) (t : Bytes) (a b : Nat) (off : Rat) : Rat :=
  let ga := F32.val (F32.ofRat (F32.val (rd t 8 4) * F32.val a))
  if rd t 0 1 = 1 then ga
  else
    let q := s.ncoAhead (rd t 1 1) off + F32.val b + F32.val (rd t 12 4)
    F32.val (F32.ofRat (ga * cosUnit q))

/-- The sum of an arm's terms at an offset, in binary32. -/
def armRef (s : State) (a : Nat) (vals : List (Nat × Nat)) (off : Rat) : Rat :=
  (List.range 8).foldl (fun acc i =>
    let t := s.dg (Obj.vrefTerm (8 * a + i))
    if rd t 0 1 = 0 then acc
    else F32.val (F32.ofRat (acc + s.termAt t (vals.getD i (0, 0)).1 (vals.getD i (0, 0)).2 off))) 0

/-- The arm current, read at the input step (R254). -/
def armCurrent (a : Nat) (s : State) : State :=
  let x := s.signal (s.og (Obj.armISrc a))
  let ok := s.sigInCue x
  let o := s.arm a
  s.setArm a { o with
      i := if ok then F32.val x.val else 0, iBad := !ok,
      agg := o.agg.set 6 (if ok then x.val else 0), aggAt := o.aggAt.set 6 s.tm.cueStart, aggOk := o.aggOk.set 6 ok }

/-- Composition of V0, V1, V2 and P_B of an arm (R255, R257); `half` is T/2 in TB0 units. -/
def armCompose (a : Nat) (half : Rat) (s : State) : State :=
  let o := s.arm a
  let src := (List.range 8).map (fun i =>
    let t := s.dg (Obj.vrefTerm (8 * a + i))
    let l := o.terms.getD i (0, 0)
    match rd t 0 1 with
    | 0 => ((l.1, false), (l.2, false))
    | 1 => (s.termSrc (rd t 2 2) l.1, (l.2, false))
    | _ => (s.termSrc (rd t 2 2) l.1, s.termSrc (rd t 4 2) l.2))
  let vals := src.map (fun x => (x.1.1, x.2.1))
  let bad := src.any (fun x => x.1.2 || x.2.2)
  let pc := s.og (Obj.pbatSrc a)
  let px := s.signal pc
  let pb := if pc = 0xFFFF ∨ !px.good then 0 else F32.val (F32.ofRat (s.oq (Obj.pbatGain a) * F32.val px.val))
  s.setArm a { o with
      v0 := s.armRef a vals 0, v1 := s.armRef a vals half, v2 := s.armRef a vals (2 * half), pb := pb,
      terms := vals, cue := s.tm.cue, flags := packBits [o.iBad, bad, pc != 0xFFFF && !px.good] }

end State

end Sys2Proof.Machine
end

