-- ==== Sys2Proof/Machine/Pwm.lean ====
section
/-! DEFINITION. Commands of the gates: event edges, dead time, the delay line, trips, the bypass switch and the
forced-safe causes (Cell switching, PWM and gate outputs). -/

namespace Sys2Proof.Machine

open State

/-- Time reaches a gate instant: every action due takes place, then the stage follows a record just executed (R219) and a
tap update that waits (R198). -/
def gatesTo (t : Nat) (s : State) : State := (((s.loopTo0 t).actUntil t 64).batStep).calSettle

/-- TB0 reaches the next event instant of the record (R187, R188); gate actions due before it take place first. -/
def execEventEdge (s : State) : Res :=
  match s.pwm.todo with
  | e :: _ => if s.cellOn then .next (gatesTo e.2 s) else .next s
  | [] => .next s

/-- The dead time of the rise that waits least ends and the rise is driven (R195). -/
def execDeadTimeEnd (s : State) : Res :=
  match s.pwm.rises with
  | r :: t =>
    let at_ := t.foldl (fun m x => min m x.2) r.2
    if s.working then .next (gatesTo at_ s) else .next s
  | [] => .next s

/-- The delay-line replica is measured (R198): the tap codes are updated, or wait while an edge is due within 4 PWM cycles;
four measurements in a row outside the trim range set CAL_ERR, COARSE and the delay-line fault. -/
def execDelayLineCal (tap : Nat) (inTrim : Bool) (s : State) : Res :=
  if !s.working then .next s
  else
    if inTrim then
      let s1 := s.pwmSet fun w => { w with calBad := 0, coarse := false, calPend := some (tap % 65536) }
      .next (s1.calSettle.release 16 0)
    else
      let n := s.pwm.calBad + 1
      if n < 4 then .next (s.pwmSet fun w => { w with calBad := n })
      else
        let s1 := s.pwmSet fun w => { w with calBad := n, coarse := true }
        .next (((s1.evt (Blk.pwm + 4) 0x80).irqPost 8 5).raise 16 0)

/-- Whether PER is acceptable: 500 to 500,000 PWM cycles, even in centre mode (R199). -/
def perOk (s : State) (v : Nat) : Bool :=
  decide (500 ≤ v) && decide (v ≤ 500000) && (s.og Obj.carMode != 2 || v % 2 == 0)

def applyShPer (v : Nat) (s : State) : Except Nat State :=
  if perOk s v then .ok (s.shadowPer v) else .error 5

/-- A register write of a block that is on only in a CELL takes effect (R444). -/
def cellReg (s : State) (f : State → State) : State := if s.cellOn then f s else s

/-- A write of PWM_SHPER or CAR_SHPER (R200). -/
def execShadowPerWrite (via : Via) (v : Nat) (s : State) : Res :=
  match via with
  | .obj a => .next (s.guardedValue a Obj.carShper v applyShPer)
  | .reg _ => .next (cellReg s (fun s => if perOk s (v % 2 ^ 20) then s.shadowPer (v % 2 ^ 20) else s))

/-- A write of HOLD (R202). -/
def execPwmHoldWrite (_path : Fin 3) (on : Bool) (s : State) : Res := .next (cellReg s (fun s => s.setHold on))

/-- A trip input's ball stands at a level for n samples: the filtered level becomes active after TRIP_FLT active ones (R204,
R205). -/
def execTripActive (input : Nat) (high : Bool) (n : Nat) (s : State) : Res :=
  if s.working ∧ input < 6 then .next (s.tripSamples input high n) else .next s

/-- The same towards the inactive level (R204): a latched trip stays latched (R206). -/
def execTripInactive (input : Nat) (high : Bool) (n : Nat) (s : State) : Res :=
  if s.working ∧ input < 6 then .next (s.tripSamples input high n) else .next s

def applyTripClr (v : Nat) (s : State) : Except Nat State := if v < 64 then .ok (s.tripClear v) else .error 5

/-- A write of TRIP_CLR or TRP_CLR (R206). -/
def execTripClr (via : Via) (mask : Nat) (s : State) : Res :=
  match via with
  | .obj a => .next (s.guardedValue a Obj.tripClr mask applyTripClr)
  | .reg _ => if s.working then .next (s.tripClear (mask % 64)) else .next s

def applyBypCmd (v : Nat) (s : State) : Except Nat State :=
  if v = 1 then .ok (s.pwmSet fun w => { w with bypCmd := true }) else .error 5

/-- BYP_CMD 0x01: a bypass sequence starts at the next CUE start (R211). -/
def execBypCmd (acc : Accessor) (s : State) : Res := .next (s.guardedValue acc Obj.bypCmd 1 applyBypCmd)

/-- BYP_DELAY after the start, G6 rises (R211). -/
def execBypassPulseStart (s : State) : Res :=
  if s.cellOn ∧ s.pwm.bypSt = .delay then .next ((s.loopTo2 (s.pwm.bypAt + s.og Obj.bypDelay)).bypassRise) else .next s

/-- BYP_PULSE ends and G6 falls; without a sense input BYP is set at the end of the first pulse (R211, R212). -/
def execBypassPulseEnd (s : State) : Res :=
  if !s.cellOn then .next s
  else
    let s1 := s.loopTo2 (s.pwm.riseAt + s.og Obj.bypPulse)
    match s.pwm.bypSt with
    | .pulse =>
      let s2 := s1.drive 6 false s1.tm.tb0
      if s.og Obj.bypSense = 0xFF then .next ((s2.pwmSet fun w => { w with bypSt := .confirm }).setByp)
      else .next (s2.pwmSet fun w => { w with bypSt := .confirm })
    | .done => .next ((s1.drive 6 false s1.tm.tb0).pwmSet fun w => { w with bypSt := .idle })
    | _ => .next s

/-- BYP_CONFIRM passes without confirmation: a further pulse, or after BYP_RETRY of them the bypass-fail fault (R212). -/
def execBypassConfirmTimeout (s : State) : Res :=
  if s.cellOn ∧ (s.pwm.bypSt = .confirm ∨ s.pwm.bypSt = .pulse) ∧ s.og Obj.bypSense ≠ 0xFF then
    let s1 := s.loopTo2 (s.pwm.riseAt + 1000 * s.og Obj.bypConfirm)
    if s1.pwm.pulses ≤ s1.og Obj.bypRetry then .next ((s1.drive 6 false s1.tm.tb0).bypassRise)
    else
      let s2 := (s1.drive 6 false s1.tm.tb0).pwmSet fun w => { w with bypSt := .idle }
      .next ((s2.pwmEvt 4).raise 23 0)
  else .next s

/-- Samples of the sense input: its filtered level, once active within BYP_CONFIRM of the rise of G6, sets BYP (R204, R212). -/
def execBypassSense (high : Bool) (n : Nat) (s : State) : Res :=
  let i := s.og Obj.bypSense
  if s.cellOn ∧ i < 6 then .next (s.tripSamples i high n) else .next s

/-- The service cores are halted through JTAG (R207, R210). -/
def execDebugHalt (s : State) : Res :=
  if s.running then .next (s.withForce (fun s => s.pwSet fun w => { w with debugHalt := true })) else .next s

/-- The cores resume: the cause ends, and its outputs are released at the next CUE start (R207, R209). -/
def execDebugResume (s : State) : Res := .next (s.pwSet fun w => { w with debugHalt := false })

/-- The PWM clock is lost: G0 to G7 are forced safe and the CLOCK source is raised (R207, R210, Table 14-1). -/
def execPwmClockLoss (s : State) : Res :=
  if s.running then
    let s1 := s.withForce (fun s => s.pwSet fun w => { w with pwmClock := false, pll := clrBit w.pll 3 })
    .next ((s1.raise 11 0).irqPost 30 2)
  else .next s

/-- The PWM clock has been good for 1 ms (R207). -/
def execPwmClockGood (s : State) : Res :=
  if s.running ∧ !s.pw.pwmClock then
    .next (((s.pwSet fun w => { w with pwmClock := true, pll := setBit w.pll 3 }).release 11 0).irqPost 30 2)
  else .next s

end Sys2Proof.Machine
end

