-- ==== Sys2Proof/Machine/Battery.lean ====
section
/-! DEFINITION. Commands of the battery stage and its carrier (Battery interface of hybrid cells; R199 to R203). -/

namespace Sys2Proof.Machine

open State

/-- A period boundary of the carrier, or its peak in centre mode (R199 to R201, R229). While the carrier runs the
boundary follows the last one by the active period; after a peak that transfers, by half of the new one (`carBoundary`). -/
def execCarrierBoundary (peak : Bool) (s : State) : Res :=
  if !s.cellOn || !s.hasStage || !(s.bat.st == .ready || s.bat.st == .run) || s.og Obj.carMode == 0 ||
      (peak && s.og Obj.carMode != 2) then .next s
  else
    let s1 := match s.pwm.carAt with
      | some a => let off := (if peak then 8 else 16) * s.pwm.per
        (((s.groupsTill 256 (s.tb0To8 (a + off))).carEdgeBy off).carEdgeBy off).toTb0 (a + off)
      | none => s
    .next (((s1.carBoundary peak).senseTest).calSettle)

/-- An edge of the carrier's duty: G4 falls, or in centre mode rises and falls (R199). -/
def execCarrierDutyEdge (s : State) : Res := if s.cellOn then .next s.carEdge.calSettle else .next s

/-- A write of PWM_SHDUTY or CAR_SHDUTY: into the shadow, or ignored with OWN_ERR while the loop owns it (R200, R203,
R223). -/
def execShadowDutyWrite (via : Via) (v : Nat) (s : State) : Res :=
  match via with
  | .obj a => .next (s.guardedValue a Obj.carShduty v applyShDuty)
  | .reg _ => .next (cellReg s (seatDuty (v % 2 ^ 24)))

/-- A write of BAT_MODE (R218, R222). -/
def execBatModeWrite (acc : Accessor) (v : Nat) (s : State) : Res := .next (s.guardedValue acc Obj.batMode v applyBatMode)

/-- A write of BAT_TEST (R218, R222). -/
def execBatTestWrite (acc : Accessor) (v : Nat) (s : State) : Res := .next (s.guardedValue acc Obj.batTest v applyBatTest)

/-- BAT_CMD 0x01 clears FAULT when no STOP condition is present (R218, Table 08-4). -/
def execBatCmdClear (acc : Accessor) (s : State) : Res := .next (s.guardedValue acc Obj.batCmd 1 applyBatCmd)

/-- A battery sample of IBAT, VBAT and VCAP completes (R229, R230, R233). -/
def execBatterySample (s : State) : Res := if s.running ∧ s.hasStage then .next s.batSample else .next s

/-- A write of SOC_SET (R230). -/
def execSocSetWrite (acc : Accessor) (v : Nat) (s : State) : Res := .next (s.guardedValue acc Obj.socSet v applySocSet)

/-- The current has stayed in the rest band for REST_T: SOC is set once from OCV_TABLE (R231). -/
def execSocRestReset (s : State) : Res :=
  match s.bat.restAt with
  | some t =>
    if s.running ∧ s.hasStage ∧ s.og Obj.restT ≠ 0 ∧ !s.bat.restDone then
      let s1 := s.toTb2 (t + s.og Obj.restT * 1000000000)
      .next (((s1.batSet fun b => { b with q := s1.socCharge s1.ocvSoc, restDone := true }).bump Obj.socResets).irqPost 9 2)
    else .next s
  | none => .next s

end Sys2Proof.Machine
end

