-- ==== Sys2Proof/Machine/CapOps.lean ====
section
/-! DEFINITION. Capture operations that read signals: base samples, records, level triggers, remote streams, and the
capture objects (R296 to R298, R303, R304, R307, R310, R313). -/

namespace Sys2Proof.Machine

namespace State

/-- PWM_GSTATE (Table 07-12). -/
def gstate (s : State) : Nat := s.pwm.level % 256 + s.pwm.bridge % 8 * 256 + b2n s.pwm.lost * 2048

/-- A code of Table 11-1 for the role. -/
def capOnlyOk (s : State) (c : Nat) : Bool :=
  (s.isHead && [0x800, 0x801, 0x802, 0x803].contains c) || c == 0x810 || (s.isCell && c == 0x820) ||
    (decide (0x830 ≤ c) && decide (c ≤ 0x833))

/-- CELL-only codes, which a HEAD takes for its remote streams (R242, R313). -/
def cellCode (c : Nat) : Bool := c == 0x820 || (decide (0x700 ≤ c) && decide (c ≤ 0x702))

/-- Read a signal of Table 09-1 or Table 11-1 (R296, R297). DESIGN CHOICE (notes/assumptions/66.md): a CELL-only code that a HEAD
samples itself reads as a free value with bad quality. -/
def capSignal (s : State) (c : Nat) : Sig :=
  let mk (z : Int) : Sig := { val := F32.ofInt z, stamp := s.tm.tb0, good := true }
  if s.isHead && cellCode c then { val := s.freeNow % 2 ^ 32, stamp := s.tm.tb0, good := false }
  else if s.capOnlyOk c then
    if c < 0x802 then mk (s.oi 16 (Obj.modCount (c % 2)))
    else if c < 0x804 then mk (s.og (Obj.modTrans (c % 2)))
    else if c = 0x810 then mk (s.oi 32 Obj.tb0Offset)
    else if c = 0x820 then mk s.gstate
    else mk (s.fstat / 2 ^ (16 * (c % 16)) % 65536)
  else s.signal c

/-- The CODE of a measurement signal (R275, R298); a free value for any other code. -/
def capCode (s : State) (c : Nat) : Int :=
  if 0x100 ≤ c ∧ c < 0x140 then toI 16 (s.adcRes (c - 0x100)).code
  else if 0x200 ≤ c ∧ c < 0x240 then toI 16 (s.adcRes (64 + (c - 0x200))).code
  else (s.freeNow : Int)

/-- The codes of a stream's CAP_SIG list. -/
def capCodes (s : State) (n : Nat) : List Nat :=
  (List.range (s.nsig n)).map (fun i => rd (s.dg (Obj.capSig n)) (2 * i) 2)

/-! ### Level trigger (R304) -/

/-- Test one sample of TRIG_SIG: whether it crosses, and the level test after it. -/
def levelTest (s : State) (n : Nat) (above below : Rat → Bool) : Bool × Bool × Bool :=
  let r := s.stream n
  let lvl := s.oq (Obj.trigLevel n)
  let hys := s.oq (Obj.trigHyst n)
  let edge := s.og (Obj.trigEdge n)
  let rise := r.low && above lvl
  let fall := r.high && below lvl
  let cross := (rise && hasBit edge 0) || (fall && hasBit edge 1)
  (cross, (r.low && !rise) || below (lvl - hys), (r.high && !fall) || above (lvl + hys))

/-- A base sample of TRIG_SIG is tested, given where it is at or above and at or below a value; a crossing is a trigger at the
sample's stamp (R303, R304). -/
def levelSample (n : Nat) (good : Bool) (above below : Rat → Bool) (at0 : Nat) (s : State) : State :=
  if s.og (Obj.trigSrc n) ≠ 1 ∨ !good then s
  else
    let (cross, lo, hi) := s.levelTest n above below
    let s1 := s.setStream n { s.stream n with low := lo, high := hi }
    if cross then capTrigger 9 n 1 at0 s1 else s1

/-! ### Base samples (R297, R298, R300) -/

/-- A binary32 word as a term of a binary64 sum. -/
def sum64 (b : Nat) : Sum64 :=
  if F32.isNaN b then .nan else if F32.isInf b then .inf (F32.neg b) else .fin (F32.val b)
/-- A sum in binary64, which carries an infinity on. -/
def addSum : Sum64 → Sum64 → Sum64
  | .fin x, .fin y => .fin (round64 (x + y))
  | .fin _, y => y
  | .inf a, .inf b => if a = b then .inf a else .nan
  | .inf a, .fin _ => .inf a
  | .inf _, .nan => .nan
  | .nan, _ => .nan
/-- The F32 mean of n samples. DESIGN CHOICE (notes/assumptions/66.md): a NaN's sign and fraction are a free value. -/
def meanOf (s : State) (n : Nat) : Sum64 → Nat
  | .fin x => F32.ofRat (x / (n : Rat))
  | .inf neg => 0x7F800000 + b2n neg * 2 ^ 31
  | .nan => s.freeNow % 2 * 2 ^ 31 + 0x7F800000 + 1 + s.freeNow / 2 % (2 ^ 23 - 1)

/-- The values of a record (R298). -/
def capValues (s : State) (n : Nat) : Bytes :=
  let r := s.stream n
  if s.og (Obj.capFmt n) = 1 then
    r.codes.flatMap (fun z => leBytes 4 (ofI 32 (satS 32 (roundAway ((256 * z : Int) / (r.n : Rat))))))
  else r.sums.flatMap (fun x => leBytes 4 (s.meanOf r.n x))

/-- The interval closes: a MARK where it holds the trigger sample, then its DATA record (R298 to R300). -/
def capClose (n : Nat) (s : State) : State :=
  let r := s.stream n
  let marks := r.trigs.filter (fun t => t.inside)
  let s1 := s.capMarks n marks
  let body := leBytes 8 r.at0 ++ leBytes 2 r.n ++ leBytes 1 r.bad ++ leBytes 1 (b2n !marks.isEmpty) ++ s.capValues n
  let mk (q : Nat) : Bytes := capRecord kindData n q body
  let p := s1.capProduce n false r.at0 mk
  let s2 := p.2.capKeep n false (mk p.1)
  let r2 := s2.stream n
  s2.setStream n { r2 with n := 0, bad := 0, sums := [], codes := [], trigs := r2.trigs.filter (fun t => !t.inside) }

/-- The level test of a base sample of the present instant, once (R304): every stream's comes before any stream's base sample of
the instant, so that a chained stream marks its sample of that instant (Table 11-8). -/
def capTest (n : Nat) (s : State) : State :=
  if (s.stream n).st = .stopped ∨ (s.stream n).tested then s
  else
    let t := s.capSignal (s.og (Obj.trigSig n))
    let s1 := (s.holdEnd n).levelSample n t.good (F32.above t.val) (F32.below t.val) s.tm.tb0
    s1.setStream n { s1.stream n with tested := true }

/-- One base sample of a stream at the present instant. -/
def capBase (n : Nat) (s : State) : State :=
  if (s.stream n).st = .stopped then s
  else
    let s1 := s.capTest n
    let r := s1.stream n
    let codes := s1.capCodes n
    let sigs := codes.map s1.capSignal
    let bad := packBits (sigs.map (fun x => !x.good))
    let k := r.n + 1
    let r1 := { r with
      tested := false, lastAt := some s.tm.tb0, n := k, at0 := if r.n = 0 then s.tm.tb0 else r.at0, bad := r.bad ||| bad,
      sums := (List.range codes.length).map (fun i =>
        addSum (r.sums.getD i (.fin 0)) (sum64 ((sigs.map (fun x => x.val)).getD i 0))),
      codes := (List.range codes.length).map (fun i => r.codes.getD i 0 + s1.capCode (codes.getD i 0)),
      trigs := r.trigs.map (fun x => { x with inside := true }) }
    let s2 := (s1.setStream n r1).drawn
    if s.og (Obj.avgN n) ≤ k then s2.capClose n else s2

/-- Every stream with the sample source takes a base sample (Table 11-2). -/
def capBaseAll (src : Nat) (arg : Nat → Bool) (s : State) : State :=
  let mine := (List.range s.capCount).filter (fun n => s.og (Obj.sampleSrc n) == src && arg (s.og (Obj.sampleArg n)))
  mine.foldl (fun s n => s.capBase n) (mine.foldl (fun s n => s.capTest n) s)

/-! ### Remote streams (R313) -/

/-- The stream's next record takes this SEQ: a remote stream keeps the cell's (R313). -/
def seqAt (n q : Nat) (s : State) : State := s.setStream n { s.stream n with seq := q }

/-- The level test of a relayed record's value at TRIG_SIG's place in CAP_SIG (R304, R313). DESIGN CHOICE
(notes/assumptions/66.md): an I32 value is tested as the number it is. -/
def capRelayTest (n : Nat) (body : Bytes) (s : State) : State :=
  match (s.capCodes n).findIdx? (fun c => c == s.og (Obj.trigSig n)) with
  | some i =>
    let v := rd body (12 + 4 * i) 4
    let z : Rat := (toI 32 v : Rat)
    let good := !hasBit (rd body 10 1) i
    if s.og (Obj.capFmt n) = 1 then s.levelSample n good (fun q => decide (q ≤ z)) (fun q => decide (z ≤ q)) (rd body 0 8)
    else s.levelSample n good (F32.above v) (F32.below v) (rd body 0 8)
  | none => s

/-- One record of the cell, taken over by HEAD stream n: a GAP for skipped SEQ numbers, then the record, before it the
MARKs of the triggers whose instant it reaches. The numbers that a GAP of the cell reports need none of the HEAD. DESIGN CHOICE
(notes/assumptions/50.md): a MARK or GAP that the HEAD adds takes the SEQ of the record it stands before, since R313 leaves no
number free; the marks lost and the stamp of the first lost record, which the HEAD cannot know, are free values. -/
def capRelay (n : Nat) (rec_ : Bytes) (s : State) : State :=
  let q := rd rec_ 4 4
  let data := rd rec_ 0 1 == kindData
  let at0 := rd rec_ 8 8
  let r := s.stream n
  let told := if rd rec_ 0 1 = kindGap then rd rec_ 8 4 else 0
  let skip := (match r.rseq with | none => 0 | some e => subMod 32 q e) - told
  let body := rec_.drop 8
  let b1 := if data then patch body 11 [BitVec.ofNat 8 (setBit (rd body 11 1) 1)] else body
  let mk (_ : Nat) : Bytes := capRecord (rd rec_ 0 1) n q b1
  let s1 := if skip = 0 then s else
    let sq := (q + 2 ^ 33 - skip - told) % 2 ^ 32
    let g := capRecord kindGap n sq
      (leBytes 4 skip ++ leBytes 2 (s.freeNow % 2 ^ 16) ++ leBytes 2 0 ++ leBytes 8 (s.freeNow / 2 ^ 16 % 2 ^ 64))
    (((((s.drawn.seqAt n sq).capProduce n false at0 (fun _ => g)).2).capStat n 2).irqPost 19 n)
  let s2 := if data then s1.capRelayTest n body else s1
  let due (t : TrigRec) : Bool := data && decide (0 ≤ toI 64 (at0 + 2 ^ 64 - t.at0 % 2 ^ 64))
  let trigs := (s2.stream n).trigs
  let s3 := (trigs.filter due).foldl (fun s t => (s.seqAt n q).capMark n (fun _ => q) t) s2
  let s4 := ((s3.seqAt n q).capProduce n (rd rec_ 0 1 == kindMark) at0 mk).2
  let rest := trigs.filter (fun t => !due t)
  let s5 := s4.setStream n { s4.stream n with rseq := some (inc 32 q), trigs := rest }
  if data then s5.capKeep n (rest.any (fun t => some t.win == (s5.stream n).win)) (mk 0) else s5

/-- The records of a CAPTURE payload, one by one. -/
def capSplit : Nat → Bytes → List Bytes
  | 0, _ => []
  | k + 1, b =>
    let len := rd b 2 2
    if b.length < 8 ∨ len < 8 ∨ b.length < len then [] else b.take len :: capSplit k (b.drop len)

/-- A CAPTURE frame from a cell (R313). -/
def capFrame (src : Nat) (pl : Bytes) (s : State) : State :=
  (List.range s.capCount).foldl (fun s n =>
    let rem := s.og (Obj.capRemote n)
    if s.og (Obj.sampleSrc n) = 0 ∧ (s.stream n).st ≠ .stopped ∧ rem / 65536 = src ∧ rem % 256 = rd pl 0 1 then
      (capSplit (rd pl 2 2) (pl.drop 4)).foldl (fun s r => (s.holdEnd n).capRelay n r) s
    else s) s

/-! ### Objects (R296 to R310) -/

/-- CAP_SIG: 1 to 8 codes of Table 09-1 or 11-1, 0xFFFF after them. -/
def capSigOk (s : State) (d : Bytes) : Bool :=
  let c := (List.range 8).map (fun i => rd d (2 * i) 2)
  let used := c.takeWhile (fun x => x != 0xFFFF)
  !used.isEmpty && (c.drop used.length).all (fun x => x == 0xFFFF) &&
    used.all (fun x => s.sigOk x || s.capOnlyOk x || (s.isHead && cellCode x))

/-- SAMPLE_ARG and TRIG_ARG against their source (Tables 11-2 and 11-5). -/
def sampleArgOk (src v : Nat) : Bool :=
  match src with
  | 1 => [1, 2, 4, 8].contains v
  | 2 | 3 => decide (v < 8)
  | 4 => v == 0
  | _ => true
def trigArgOk (s : State) (n src v : Nat) : Bool :=
  match src with
  | 2 => decide (v < 8)
  | 3 => decide (1 ≤ v) && decide (v ≤ 4)
  | 5 => decide (v ≤ 1)
  | 6 => decide (v < s.capCount) && v != n
  | _ => v == 0

/-- A write of an object of stream n: its range, then the stream must be STOPPED (R307). -/
def applyCap (k n v : Nat) (s : State) : Except Nat State :=
  let src := s.og (Obj.sampleSrc n)
  let ok := match k / 256 with
    | 0x8001 => if s.isHead then decide (v ≤ 4) else decide (1 ≤ v) && decide (v ≤ 3)
    | 0x8002 => sampleArgOk src v
    | 0x8006 => s.trigArgOk n (s.og (Obj.trigSrc n)) v
    | 0x8007 => v == 0xFFFF || s.sigOk v || s.capOnlyOk v || (s.isHead && cellCode v)
    | 0x8009 => F32.finite v && decide (0 ≤ F32.val v)
    | 0x8011 => if s.isHead then decide (v < 4) || v == 0xFF else v == 1 || v == 2 || v == 0xFE || v == 0xFF
    | 0x8012 => decide (4096 ≤ v) && decide (v ≤ 1048576) && v % 4096 == 0
    | 0x8013 => fld v 15 8 == 0
    | _ => rangeOk k v
  if !ok then .error 5
  else if (s.stream n).st ≠ .stopped then .error 6
  else if k / 256 = 0x8004 ∧ v = 1 ∧ !(s.capCodes n).all (fun c => decide (0x100 ≤ c) && decide (c < 0x240)) then .error 6
  else
    let s1 := s.oset k v
    .ok (if k / 256 = 0x8012 then (s1.setStream n { s1.stream n with stage := [], rd := 0 }).capForget n else s1)

def applyCapSig (n : Nat) (d : Bytes) (s : State) : Except Nat State :=
  if !s.capSigOk d then .error 5
  else if (s.stream n).st ≠ .stopped then .error 6
  else .ok (s.dset (Obj.capSig n) d)

/-- SUBTICK instants of the present CUE that lie before now: a stream that starts takes none of them (R297). -/
def subticksPast (s : State) (n : Nat) : Nat :=
  let rate := s.og (Obj.sampleArg n)
  let into := toI 64 (s.tm.tb0 + 2 ^ 64 - s.tm.cueStart % 2 ^ 64)
  ((List.range rate).filter (fun j => decide ((8 * (j * s.tm.cueLen / rate) : Nat) < into))).length

/-- CAP_CMD (Table 11-6, R303). -/
def applyCapCmd (n v : Nat) (s : State) : Except Nat State :=
  let r := s.stream n
  match v with
  | 1 =>
    if r.st ≠ .stopped then .error 6
    else
      let pre := s.og (Obj.capPre n)
      let go (b : Option (Nat × Nat)) : State :=
        s.setStream n { CapStream.reset with
          st := .armed, stats := r.stats, stage := r.stage, rd := r.rd, win := r.win, block := b,
          cue := some s.tm.cue, j := s.subticksPast n }
      if pre = 0 then .ok (go none)
      else
        match s.pantryFit (pre * s.recSize n) with
        | some (a, _) => .ok (go (some (a, pre * s.recSize n)))
        | none => .error 6
  | 2 => .ok (if r.st = .stopped then s else s.capStop n)
  | 3 => .ok (if r.st = .disarmed then s.capArm n else s)
  | 4 => .ok (capTrigger 9 n 7 s.tm.tb0 s)
  | _ => .error 5

/-- WIN_RELEASE (R310). -/
def applyWinRelease (v : Nat) (s : State) : Except Nat State :=
  match s.cap.wins.find? (fun w => w.id == v && w.ready) with
  | some w => .ok ((s.capSet fun c => { c with wins := c.wins.filter (fun w => w.id != v) }).pantryRelease (some (w.base, w.len)))
  | none => .error 6

/-- A write of CAPQ_RDn (R301, R465): the bytes up to the new offset are free; outside the used span, or from another
seat than STREAM_SEAT, it is ignored and logged. -/
def capqRd (path n v : Nat) (s : State) : State :=
  let r := s.stream n
  let size := s.og (Obj.stageSize n)
  let k := if r.rd ≤ v then v - r.rd else v + size - r.rd
  if s.og (Obj.streamSeat n) = path ∧ v < size ∧ k ≤ stageUsed r then s.stageFree n k
  else s.seatLogEntry (16 * path) 0x27 (if path = 0 then 0 else 0x32)

end State

end Sys2Proof.Machine
end

