-- ==== Sys2Proof/Machine/Capture.lean ====
section
/-! DEFINITION. Commands of the capture block (Capture streams and the PANTRY). -/

namespace Sys2Proof.Machine

open State

/-- The SUBTICK streams whose next base sample falls at an offset into the CUE, in ns. -/
def subtickWith (s : State) (off : Nat) : List Nat :=
  (List.range s.capCount).filter (fun m =>
    let r := s.stream m
    let rate := s.og (Obj.sampleArg m)
    let j := if r.cue = some s.tm.cue then r.j else 0
    r.st != .stopped && s.og (Obj.sampleSrc m) == 1 && sampleArgOk 1 rate && decide (j < rate) && j * s.tm.cueLen / rate == off)

/-- The next SUBTICK base sample of a stream (R297). The streams of the other sources of Table 11-2 sample with the
happening itself. -/
def execCaptureBaseSample (stream : Fin 8) (s : State) : Res :=
  let n := stream.val
  let r := s.stream n
  let rate := s.og (Obj.sampleArg n)
  let j := if r.cue = some s.tm.cue then r.j else 0
  if s.working ∧ n < s.capCount ∧ r.st ≠ .stopped ∧ s.og (Obj.sampleSrc n) = 1 ∧ sampleArgOk 1 rate ∧ j < rate then
    let s1 := s.loopTo0 (s.tm.cueStart + 8 * (j * s.tm.cueLen / rate))
    let s2 := (subtickWith s1 (j * s.tm.cueLen / rate)).foldl (fun s m => s.capTest m) s1
    .next ((s2.setStream n { s2.stream n with cue := some s2.tm.cue, j := j + 1 }).capBase n)
  else .next s

/-- CAP_CMD 0x01 (Table 11-6, R308). -/
def execCapCmdStart (acc : Accessor) (stream : Nat) (s : State) : Res :=
  .next (s.guardedValue acc (Obj.capCmd stream) 1 (applyCapCmd stream))

/-- CAP_CMD 0x02 (Table 11-6, R309). -/
def execCapCmdStop (acc : Accessor) (stream : Nat) (s : State) : Res :=
  .next (s.guardedValue acc (Obj.capCmd stream) 2 (applyCapCmd stream))

/-- CAP_CMD 0x03 (Table 11-6). -/
def execCapCmdArm (acc : Accessor) (stream : Nat) (s : State) : Res :=
  .next (s.guardedValue acc (Obj.capCmd stream) 3 (applyCapCmd stream))

/-- CAP_CMD 0x04 (R303). -/
def execCapCmdForce (acc : Accessor) (stream : Nat) (s : State) : Res :=
  .next (s.guardedValue acc (Obj.capCmd stream) 4 (applyCapCmd stream))

/-- A stream's trigger source happens (R303, R305): a happening that another command brings about triggers with that
command. -/
def execCaptureTrigger (stream : Fin 8) (s : State) : Res :=
  let src := s.og (Obj.trigSrc stream.val)
  if s.working ∧ stream.val < s.capCount ∧ 1 ≤ src ∧ src ≤ 6 then .next (capTrigger 9 stream.val src s.tm.tb0 s)
  else .next s

/-- Hold-off is met and the stream returns to ARMED (R306): a time that still runs has passed. -/
def execCaptureHoldoffExpiry (stream : Fin 8) (s : State) : Res :=
  let n := stream.val
  let r := s.stream n
  if s.working ∧ r.st = .holdoff then
    let m := s.og (Obj.holdoffMode n)
    let s1 := if m = 1 ∨ (m = 3 ∧ s.og (Obj.holdoffN n) ≤ r.holdN) then s.toTb2 (r.holdAt + 1000 * s.og (Obj.holdoffT n)) else s
    .next (s1.holdEnd n)
  else .next s

/-- WIN_RELEASE (R310). -/
def execWinReleaseWrite (acc : Accessor) (v : Nat) (s : State) : Res :=
  .next (s.guardedValue acc Obj.winRelease v applyWinRelease)

/-- A CAPTURE frame at a ring port (R312, R313). -/
def execCaptureFrame (port : Nat) (frame : Bytes) (fend : FrameEnd) (s : State) : Res :=
  .next (s.rxTyped port frame fend 0x50 true (fun r s => if s.activeHead ∧ s.addressed r.hdr then s.capFrame r.hdr.src r.pl else s))

/-- A write of CAPQ_RDn (R301, R465). -/
def execCapqRdWrite (path : Fin 3) (stream : Fin 8) (v : Nat) (s : State) : Res :=
  if s.working ∧ s.accPresent (.path path) ∧ stream.val < s.capCount then .next (s.capqRd path.val stream.val (v % 2 ^ 20))
  else .next s

end Sys2Proof.Machine
end

