-- ==== Sys2Proof/Machine/SieveOps.lean ====
section
/-! DEFINITION. The SIEVE rank engine: membership, ageing, references, signs, keys, the full re-sort and the incremental
re-rank, the publication (R167 to R185). -/

namespace Sys2Proof.Machine

/-- The sort word of R175: parked, key, arm slot. -/
abbrev SortWord := Bool × Int × Nat

/-- A sort word stands after another. -/
def SortWord.after (a b : SortWord) : Bool :=
  if a.1 != b.1 then a.1
  else if a.2.1 = b.2.1 then decide (b.2.2 < a.2.2) else decide (b.2.1 < a.2.1)

/-- Insert into a list sorted by sort words. -/
def svInsert (x : SortWord × Nat) : List (SortWord × Nat) → List (SortWord × Nat)
  | [] => [x]
  | y :: t => if x.1.after y.1 then y :: svInsert x t else x :: y :: t

/-- The full re-sort (R179). -/
def svSort (l : List (SortWord × Nat)) : List (SortWord × Nat) := l.foldr svInsert []

/-- Exchange the neighbours of one pass from the first position on; answers whether any moved. -/
def svPairs : List (SortWord × Nat) → List (SortWord × Nat) × Bool
  | a :: b :: t =>
    let r := svPairs t
    if a.1.after b.1 then (b :: a :: r.1, true) else (a :: b :: r.1, r.2)
  | l => (l, false)

/-- One transposition pass, p even or odd (R180). -/
def svPass (p : Nat) (l : List (SortWord × Nat)) : List (SortWord × Nat) × Bool :=
  if p % 2 = 0 then svPairs l
  else
    match l with
    | [] => ([], false)
    | a :: t => let r := svPairs t; (a :: r.1, r.2)

/-- The passes of R180: `fuel` are left, p is the next one, `quiet` the passes without a move: the order, the passes
used and whether it settled. -/
def svPasses : Nat → Nat → Nat → List (SortWord × Nat) → List (SortWord × Nat) × Nat × Bool
  | 0, p, _, l => (l, p, false)
  | fuel + 1, p, quiet, l =>
    let r := svPass p l
    let q := if r.2 then 0 else quiet + 1
    if q = 2 then (r.1, p + 1, true) else svPasses fuel (p + 1) q r.1

namespace State

/-- One arm's block: 0 ARM A, 1 ARM B. -/
def armMod (s : State) (a : Nat) : ArmMod := if a = 0 then s.mod.a else s.mod.b
def setArmMod (a : Nat) (v : ArmMod) (s : State) : State :=
  s.modSet fun w => if a = 0 then { w with a := v } else { w with b := v }
def svCell (s : State) (n : Nat) : SvCell := Kv.get (fun _ => SvCell.reset) s.mod.sv n
def setSvCell (n : Nat) (v : SvCell) (s : State) : State :=
  s.modSet fun w => { w with sv := Kv.put (fun _ => SvCell.reset) n v w.sv }

/-- A cell's sub-module type has a battery stage. -/
def cellBattery (s : State) (n : Nat) : Bool := let t := (s.cellRec n).smType; t == 3 || t == 4
/-- The report of the present CUE, where present (R54). -/
def repNow (s : State) (n : Nat) : Option RepRec := let c := s.cellRec n; if c.have_ then c.last else none
/-- A keyed report (R170). -/
def repKeyed (s : State) (n : Nat) : Option RepRec :=
  match s.repNow n with
  | some r => if hasBit r.rstat 0 then some r else none
  | none => none
/-- WOFS of a station slot (R176). -/
def wofs (s : State) (n : Nat) : Nat := rd (s.dg Obj.wearOfs) (4 * n) 4
def setWofs (n v : Nat) (s : State) : State := s.dset Obj.wearOfs (patch (s.dg Obj.wearOfs) (4 * n) (leBytes 4 v))

/-- The cells of the order, as station slots in ascending arm slot (R167, R169). Also: R168. -/
def svMembers (s : State) (a : Nat) : List Nat := (s.armSlots a).filter (fun n => s.cellAdmitted n && !s.fenceActs n)

/-- Reports are keyed and the others age, for every arm slot (R170). A cell that enters the order enters it parked: only a
report of a later computation is one since it entered (R171, R180). -/
def svIntake (a : Nat) (members : List Nat) (s : State) : State :=
  (s.armSlots a).foldl (fun s n =>
    let c := s.svCell n
    let stay := members.contains n && (s.armMod a).order.contains n
    match s.repKeyed n with
    | some r =>
      let s1 := s.setSvCell n { vcap := r.vcap, soc := r.soc, temp := toI 16 r.temp, swcnt := r.swcnt, has := true,
                                age := 0, entered := stay }
      if hasBit r.rstat 1 then s1.bump (Obj.staleKeyed a) else s1
    | none => s.setSvCell n { c with age := min 255 (c.age + 1), entered := stay && c.entered }) s

/-- A cell is parked (R171). -/
def svParked (s : State) (a n : Nat) : Bool :=
  let c := s.svCell n
  !c.entered || decide (s.og (Obj.keyAgeMax a) < c.age)

/-- A mean rounded towards minus infinity, or the previous value (R172). -/
def svMean (l : List Int) (old : Option Int) : Int :=
  if l.isEmpty then old.getD 0 else l.foldl (· + ·) 0 / (l.length : Int)

/-- Weights and KEY_SHIFT as written. -/
def svWritten (s : State) (a : Nat) : List Nat :=
  [s.og (Obj.wV a), s.og (Obj.wS a), s.og (Obj.wT a), s.og (Obj.wW a), s.og (Obj.keyShift a)]

/-- The key of a cell with its terms (R174): entry fields from `ev` on, and whether it saturated. -/
def svBlend (w : List Nat) (sig tau : Int) (refs : List Int) (battery : Bool) (c : SvCell) (ofs : Nat) :
    Int × Int × Int × Int × Int × Int × Bool :=
  if !c.has then (0, 0, 0, 0, 0, 0, false)
  else
    let ev := (c.vcap : Int) - refs.getD 0 0
    let es := if battery then (c.soc : Int) - refs.getD 1 0 else 0
    let et := c.temp - refs.getD 2 0
    let ew := satI (-1048576) 1048575 (toI 32 (ofI 32 ((c.swcnt : Int) + ofs - refs.getD 3 0)))
    let sum := sig * ((w.getD 0 0 : Int) * ev + (w.getD 1 0 : Int) * es) + tau * ((w.getD 2 0 : Int) * et + (w.getD 3 0 : Int) * ew)
    let sh := w.getD 4 0
    let t := (if 0 < sh then sum + (2 : Int) ^ (sh - 1) else sum) / (2 : Int) ^ sh
    let key := satS 24 t
    (key, ev, es, et, ew, sum, key != t)

/-- SIEVE of one arm in the computation of the present CUE (R167 to R184). Also: R181. -/
def sieveRun (a : Nat) (s : State) : State :=
  let m := s.armMod a
  let slots := s.armSlots a
  let members := s.svMembers a
  -- weights (R177)
  let cur := s.svWritten a
  let gate := s.og (Obj.keyGate a) == 1
  let w := if gate then m.keyHeld else cur
  let epoch := match m.weights with | none => false | some o => o != w
  let s1 := (if epoch then s.bump (Obj.keyEpoch a) else s)
  -- signs (R173)
  let o := s1.arm a
  let i : Rat := if s1.og (Obj.idirInvert a) = 1 then -o.i else o.i
  let dead : Rat := s1.oq (Obj.idirDead a)
  let sigNeg := if dead < i then false else if i < -dead then true else m.sigNeg
  let cnt := s1.oi 16 (Obj.modCount a)
  let tauNeg := if s1.og (Obj.armBridge a) ≠ 2 then false else if 1 ≤ cnt then false else if cnt ≤ -1 then true else m.tauNeg
  let sig : Int := if sigNeg then -1 else 1
  let tau : Int := if tauNeg then -1 else 1
  -- intake and references (R170, R172, R176)
  let s2 := s1.svIntake a members
  let keyed := members.filterMap (fun n => (s2.repKeyed n).map (fun r => (n, r)))
  let adoptOn := s2.og Obj.wearAdopt == 1
  let adopting := slots.filterMap (fun n =>
    if s2.mod.adopt.contains n then (s2.repKeyed n).map (fun r => (n, r)) else none)
  let lv := keyed.map (fun (x : Nat × RepRec) => (x.2.vcap : Int))
  let ls := (keyed.filter (fun (x : Nat × RepRec) => s2.cellBattery x.1)).map (fun (x : Nat × RepRec) => (x.2.soc : Int))
  let lt := keyed.map (fun (x : Nat × RepRec) => toI 16 x.2.temp)
  let lw := (keyed.filter (fun (x : Nat × RepRec) => !(adoptOn && s2.mod.adopt.contains x.1))).map
    (fun (x : Nat × RepRec) => (((x.2.swcnt + s2.wofs x.1) % 2 ^ 32 : Nat) : Int))
  let refs := [svMean lv (m.refs.getD 0 none), svMean ls (m.refs.getD 1 none), svMean lt (m.refs.getD 2 none),
    svMean lw (m.refs.getD 3 none)]
  let held := lv.isEmpty || lt.isEmpty || lw.isEmpty || (ls.isEmpty && members.any s2.cellBattery)
  let s3 := adopting.foldl (fun s (x : Nat × RepRec) =>
    let s' := s.modSet fun b => { b with adopt := b.adopt.filter (fun n => n != x.1) }
    if adoptOn then s'.setWofs x.1 (ofI 32 (refs.getD 3 0 - (x.2.swcnt : Int))) else s') s2
  -- keys (R174, R175)
  let armSlot (n : Nat) : Nat := slots.findIdx (fun x => x == n)
  let parked := members.filter (s3.svParked a)
  let entry (n : Nat) : SvEntry × Bool :=
    let c := s3.svCell n
    let p := parked.contains n
    let k := svBlend w sig tau refs (s3.cellBattery n) c (s3.wofs n)
    ({ slot := armSlot n, key := k.1, ev := k.2.1, es := k.2.2.1, et := k.2.2.2.1, ew := k.2.2.2.2.1,
       sum := k.2.2.2.2.2.1, age := c.age,
       flags := packBits [!p && c.age != 0, p, !s3.cellBattery n, s3.mod.adopt.contains n] }, k.2.2.2.2.2.2)
  let table := members.map (fun n => (n, entry n))
  let word (n : Nat) : SortWord :=
    match table.find? (fun x => x.1 == n) with
    | some (_, e, _) => if parked.contains n then (true, 0, e.slot) else (false, e.key, e.slot)
    | none => (true, 0, 0)
  let keySat := table.any (fun (x : Nat × SvEntry × Bool) => x.2.2)
  -- full re-sort or incremental re-rank (R178 to R180, R184)
  let repark := members.any (fun n => m.order.contains n && (parked.contains n != m.parked.contains n))
  let cond := m.first || slots != m.slots || epoch || sigNeg != m.sigNeg || tauNeg != m.tauNeg || repark ||
    m.unsettled || m.sortReq || m.holdRel || s3.og (Obj.sortMode a) == 1
  let hold := s3.og (Obj.orderHold a) == 1
  let full := !hold && (cond || m.kept)
  let base := m.order.filter (members.contains ·) ++ members.filter (fun n => !m.order.contains n)
  let run := if full then ((svSort (base.map (fun n => (word n, n)))), 0, true)
    else if hold then (base.map (fun n => (word n, n)), 0, true)
    else svPasses (s3.og (Obj.incPasses a)) 0 0 (base.map (fun n => (word n, n)))
  let order := run.1.map (fun (x : SortWord × Nat) => x.2)
  let settled := run.2.2
  let status := packBits [full, !settled, sigNeg, tauNeg, held, keySat, hold, gate && cur != w]
  let entries := order.filterMap (fun n => (table.find? (fun x => x.1 == n)).map (fun (x : Nat × SvEntry × Bool) => x.2.1))
  let s4 := if full then s3.bump (Obj.fullCount a) else s3
  let s5 := if settled then s4 else s4.bump (Obj.unsettledCount a)
  let s5 := (List.range 4).foldl (fun s i => if hasBit (packBits [full, !settled, keySat, held]) i then s.irqPost 7 (4 * a + i) else s) s5
  let s6 := ((((s5.oset (Obj.sieveStatus a) status).oset (Obj.passesUsed a) run.2.1).oset (Obj.parkedNow a)
    parked.length).oset (Obj.agedNow a) (entries.filter (fun e => hasBit e.flags 0)).length)
  s6.setArmMod a { m with
    order := order, slots := slots, parked := parked, refs := refs.map some, sigNeg := sigNeg, tauNeg := tauNeg,
    weights := some w, first := false, unsettled := !settled, sortReq := false, holdRel := false,
    kept := hold && (m.kept || cond),
    pub := some { cue := s.tm.cue, status := status, passes := run.2.1, entries := entries, refs := refs } }

/-! ### What reads show (Table 06-6) -/

/-- The latest publication of an arm. -/
def svPub (s : State) (a : Nat) : Option SvPub := (s.armMod a).pub
def rankTableBytes (s : State) (a : Nat) : Bytes :=
  match s.svPub a with
  | none => zeros 8 ++ List.replicate 8192 0xFF#8
  | some p =>
    let es := p.entries.take 1024
    leBytes 4 p.cue ++ leBytes 2 es.length ++ leBytes 1 p.status ++ leBytes 1 p.passes ++
      es.flatMap (fun e => leBytes 2 e.slot ++ leBytes 1 e.flags ++ [0#8] ++ leBytes 4 (ofI 32 e.key)) ++
      List.replicate (8 * (1024 - es.length)) 0xFF#8
def sieveRefBytes (s : State) (a : Nat) : Bytes :=
  match s.svPub a with
  | none => zeros 16
  | some p => p.refs.flatMap (fun r => leBytes 4 (ofI 32 r))
/-- KEY_PROBE. DESIGN CHOICE (48): it reads 40 zero bytes while KEY_PROBE_SLOT is 0xFFFF and before the first publication. -/
def keyProbeBytes (s : State) (a : Nat) : Bytes :=
  let slot := s.og (Obj.keyProbeSlot a)
  match s.svPub a with
  | none => zeros 40
  | some p =>
    if slot = 0xFFFF then zeros 40
    else
      match p.entries.findIdx? (fun e => e.slot == slot) with
      | none => leBytes 4 p.cue ++ leBytes 2 slot ++ leBytes 2 0xFFFF ++ zeros 32
      | some i =>
        let e := p.entries.getD i { slot := 0, flags := 0, key := 0, ev := 0, es := 0, et := 0, ew := 0, sum := 0, age := 0 }
        leBytes 4 p.cue ++ leBytes 2 slot ++ leBytes 2 i ++ leBytes 4 (ofI 32 e.ev) ++ leBytes 4 (ofI 32 e.es) ++
          leBytes 4 (ofI 32 e.et) ++ leBytes 4 (ofI 32 e.ew) ++ leBytes 8 (ofI 64 e.sum) ++ leBytes 4 (ofI 32 e.key) ++
          leBytes 1 e.age ++ leBytes 1 e.flags ++ zeros 2

/-! ### Writes of objects (R177, R178, R184) -/

def applySortCmd (a v : Nat) (s : State) : Except Nat State :=
  if v = 1 then .ok (s.setArmMod a { s.armMod a with sortReq := true }) else .error 5
/-- KEY_GATE (R177): the set in effect is kept from the write of 1 on, and what it held back takes effect at the first
computation start after the write of 0. -/
def applyKeyGate (a v : Nat) (s : State) : Except Nat State :=
  if 1 < v then .error 5
  else
    let s1 := if v = 1 ∧ s.og (Obj.keyGate a) = 0 then s.setArmMod a { s.armMod a with keyHeld := s.svWritten a } else s
    .ok (s1.oset (Obj.keyGate a) v)
def applyOrderHold (a v : Nat) (s : State) : Except Nat State :=
  if 1 < v then .error 5
  else
    let s1 := if v = 0 ∧ s.og (Obj.orderHold a) = 1 then s.setArmMod a { s.armMod a with holdRel := true } else s
    .ok (s1.oset (Obj.orderHold a) v)

end State

end Sys2Proof.Machine
end

