-- ==== Sys2Proof/Machine/ModOps.lean ====
section
/-! DEFINITION. Arm modulation: cell states, availability and aggregates (R147 to R149, R243), level crossing and the
compatibility modes (R150 to R154), assignment, swaps and deblock (R155 to R158), records and power shares (R159, R161,
R163, R225). -/

namespace Sys2Proof.Machine

/-! ### The reference in levels (R146, R150)

Offsets are searched on a grid of 2^-16 of a 125 ps unit. -/

/-- x over the next CUE: A + B·u + C·u², u = g / D with D the grid points of T. -/
structure Lvl where
  a : Rat
  b : Rat
  c : Rat
  d : Nat

/-- x at a grid point. -/
def Lvl.at_ (x : Lvl) (g : Nat) : Rat :=
  let u : Rat := (g : Rat) / (x.d : Rat)
  x.a + (x.b + x.c * u) * u

/-- The reference of R146 by PREDICT in levels. -/
def Lvl.form (pred : Nat) (v0 v1 v2 vs : Rat) (t : Nat) : Lvl :=
  let d := 65536 * t
  match pred with
  | 0 => { a := v0 / vs, b := 0, c := 0, d := d }
  | 1 => { a := v0 / vs, b := (v2 - v0) / vs, c := 0, d := d }
  | _ => { a := v0 / vs, b := (-3 * v0 + 4 * v1 - v2) / vs, c := (2 * v0 - 4 * v1 + 2 * v2) / vs, d := d }

/-- The last grid point at or before an instant u, as a count of grid points within [lo, hi]. -/
def gridAt (d : Nat) (u : Rat) (lo hi : Nat) : Nat :=
  let g := floorQ (u * (d : Rat))
  if g < lo then lo else min g.toNat hi

/-- The vertex of x, as the last grid point before it; the upper end where x has none. -/
def Lvl.vertex (x : Lvl) (lo hi : Nat) : Nat :=
  if x.c = 0 then hi else gridAt x.d (-x.b / (2 * x.c)) lo hi

/-- Halving: the first grid point at which p holds, in (lo, hi], where it fails at lo and holds at hi and changes once. -/
def bisect (p : Nat → Bool) : Nat → Nat → Nat → Nat
  | 0, _, hi => hi
  | fuel + 1, lo, hi =>
    if hi ≤ lo + 1 then hi
    else
      let m := (lo + hi) / 2
      if p m then bisect p fuel lo m else bisect p fuel m hi

/-- The first point of [lo, hi] at which p holds, where p changes at most once over it. -/
def firstMono (p : Nat → Bool) (lo hi : Nat) : Option Nat :=
  if hi < lo then none
  else if p lo then some lo
  else if p hi then some (bisect p 64 lo hi)
  else none

/-- The first grid point in [lo, hi) at which a threshold on x holds. -/
def Lvl.first (x : Lvl) (p : Rat → Bool) (lo hi : Nat) : Option Nat :=
  if hi ≤ lo then none
  else
    let m := x.vertex lo (hi - 1)
    match firstMono (fun g => p (x.at_ g)) lo m with
    | some g => some g
    | none => firstMono (fun g => p (x.at_ g)) (m + 1) (hi - 1)

/-- An emitted transition: offset in 125 ps units, the count before it, and whether it is a step up. -/
structure Trans where
  off : Nat
  n : Int
  up : Bool

/-- The emission of one arm: transitions in order, the final count, CLIP, TAIL, SAT. -/
structure Emission where
  ts : List Trans
  n : Int
  clip : Bool
  tail : Bool
  sat : Bool

/-- c transitions at one offset. -/
def burst (off : Nat) (up : Bool) : Nat → Int → List Trans
  | 0, _ => []
  | c + 1, n => { off := off, n := n, up := up } :: burst off up c (if up then n + 1 else n - 1)

/-- The rounded offset of a grid point, halves up. -/
def offOf (g : Nat) : Nat := (g + 32768) / 65536

/-- The earlier of two grid points. -/
def earlier : Option Nat → Option Nat → Option Nat
  | none, b => b
  | a, none => a
  | some a, some b => some (min a b)

/-- SAT over [lo, hi) at count n (R151). -/
def satIn (x : Lvl) (nlo nhi : Int) (h : Rat) (n : Int) (lo hi : Nat) : Bool :=
  (n == nhi && (x.first (fun v => decide ((nhi : Rat) + 1 / 2 + h ≤ v)) lo hi).isSome) ||
  (n == nlo && (x.first (fun v => decide (v ≤ (nlo : Rat) - 1 / 2 - h)) lo hi).isSome)

/-- The loop of R150: `left` transitions may still be emitted, `n` is the count, `dir` the last direction, `t` the grid
point of the last step. The search runs over the whole CUE: a crossing from T_emit on sets TAIL (R145). -/
def crossLoop (x : Lvl) (nlo nhi : Int) (h : Rat) (lim : Nat) : Nat → Int → Int → Nat → Bool → Emission
  | left, n, dir, t, sat =>
    let hi := x.d
    let upAt := if n < nhi then
        x.first (fun v => decide ((n : Rat) + 1 / 2 + h ≤ v)) (if 0 ≤ dir then t else t + 65536) hi
      else none
    let dnAt := if nlo < n then
        x.first (fun v => decide (v ≤ (n : Rat) - 1 / 2 - h)) (if dir ≤ 0 then t else t + 65536) hi
      else none
    let satEnd := sat || satIn x nlo nhi h n t (65536 * lim)
    match earlier upAt dnAt with
    | none => { ts := [], n := n, clip := false, tail := false, sat := satEnd }
    | some g =>
      if lim ≤ offOf g then { ts := [], n := n, clip := false, tail := true, sat := satEnd }
      else
        match left with
        | 0 => { ts := [], n := n, clip := true, tail := false, sat := satEnd }
        | left + 1 =>
          let up := upAt == some g
          let n' := if up then n + 1 else n - 1
          let r := crossLoop x nlo nhi h lim left n' (if up then 1 else -1) g (sat || satIn x nlo nhi h n t g)
          { r with ts := { off := offOf g, n := n, up := up } :: r.ts }

/-- Level crossing from a count (R150, R151). -/
def levelCross (x : Lvl) (nlo nhi : Int) (h : Rat) (lim : Nat) (nEnd : Int) : Emission :=
  if nhi < nEnd then
    let c := min (nEnd - nhi).toNat 64
    let b := burst 0 false c nEnd
    let n := nEnd - c
    if nhi < n then { ts := b, n := n, clip := true, tail := false, sat := false }
    else
      let r := crossLoop x nlo nhi h lim (64 - c) n (-1) 0 false
      { r with ts := b ++ r.ts }
  else if nEnd < nlo then
    let c := min (nlo - nEnd).toNat 64
    let b := burst 0 true c nEnd
    let n := nEnd + c
    if n < nlo then { ts := b, n := n, clip := true, tail := false, sat := false }
    else
      let r := crossLoop x nlo nhi h lim (64 - c) n 1 0 false
      { r with ts := b ++ r.ts }
  else crossLoop x nlo nhi h lim 64 nEnd 0 0 false

/-- Nearest level (R152): `m` ticks over T, from a count. After CLIP the ticks left are still tested for SAT. -/
def nearestLevel (x : Lvl) (nlo nhi : Int) (t m lim : Nat) (nEnd : Int) : Emission :=
  let step (e : Emission) (j : Nat) : Emission :=
    let off := j * t / m
    let r := roundAway (x.at_ (65536 * off))
    let want := satI nlo nhi r
    if lim ≤ off then e
    else if e.clip then { e with sat := e.sat || r != want }
    else
      let left := 64 - e.ts.length
      let d := (want - e.n).natAbs
      let c := min d left
      let up := decide (e.n < want)
      { ts := e.ts ++ burst off up c e.n, n := if up then e.n + c else e.n - c, clip := decide (left < d), tail := false,
        sat := e.sat || r != want }
  (List.range m).foldl step { ts := [], n := nEnd, clip := false, tail := false, sat := false }

/-! ### Assignment (R155 to R158) -/

/-- A cell while transitions are assigned: station slot, state at the end of CUE k, the events of its record for CUE k
counted from the start of CUE k+1, its key, its events for CUE k+1, whether its ZERO at 0 is provisional. -/
structure WorkCell where
  slot : Nat
  st0 : Nat
  past : List Int
  key : Int
  evs : List (Nat × Nat)
  prov : Bool

/-- The state of a cell at the moment of its selection (R156). -/
def WorkCell.st (c : WorkCell) : Nat := match c.evs.getLast? with | some e => e.2 | none => c.st0

/-- The provisional ZERO stays for good: no transition can take its place any more (R158). -/
def WorkCell.settle (c : WorkCell) : WorkCell := { c with prov := false }

/-- Eligibility at an offset (R155): `dwell` in 125 ps units. Only a transition at offset 0 meets a provisional ZERO. -/
def WorkCell.eligible (c : WorkCell) (dwell : Nat) (t : Nat) : Bool :=
  let own := if c.prov && t == 0 then c.evs.drop 1 else c.evs
  decide (own.length < 4) &&
    own.all (fun e => e.1 != t && decide ((dwell : Int) ≤ ((e.1 : Int) - t).natAbs)) &&
    c.past.all (fun p => decide ((dwell : Int) ≤ (t : Int) - p))

/-- Give a cell an event: a transition at offset 0 replaces its provisional ZERO. -/
def WorkCell.give (c : WorkCell) (t st : Nat) : WorkCell :=
  if c.prov && t == 0 then { c with evs := [(0, st)], prov := false } else { c with evs := c.evs ++ [(t, st)] }

/-- The row of Table 05-2 of a transition: walk from the first cell on, the states taken, the new state. -/
def Trans.pick (x : Trans) : Bool × List Nat × Nat :=
  if x.up then (if 0 ≤ x.n then (true, [0, 3], 1) else (true, [2], 0))
  else if 1 ≤ x.n then (false, [1], 0)
  else (false, [0, 3], 2)

/-- Index of the first cell that passes a test, walking from the first or from the last one. -/
def pickIdx (fwd : Bool) (p : WorkCell → Bool) (l : List WorkCell) : Option Nat :=
  if fwd then l.findIdx? p else (l.reverse.findIdx? p).map (fun i => l.length - 1 - i)

/-- Change one element of a list. -/
def mapAt {α : Type} (f : α → α) : Nat → List α → List α
  | _, [] => []
  | 0, x :: t => f x :: t
  | i + 1, x :: t => x :: mapAt f i t

/-- Assign the transitions in order; the first that finds no cell drops the rest (R156). Answers the cells, the number
assigned and NOCELL. -/
def assign (dwell : Nat) : List Trans → List WorkCell → Nat → List WorkCell × Nat × Bool
  | [], l, k => (l, k, false)
  | x :: ts, l, k =>
    let r := x.pick
    match pickIdx r.1 (fun c => r.2.1.contains c.st && c.eligible dwell x.off) l with
    | some i => assign dwell ts (mapAt (fun c => c.give x.off r.2.2) i l) (k + 1)
    | none => (l, k, true)

/-- Rotation swaps (R157) over settled cells: `left` may still be made. -/
def swaps (dwell keyMin ts : Nat) (pos : Bool) : Nat → List WorkCell → List WorkCell
  | 0, l => l
  | left + 1, l =>
    let free (c : WorkCell) : Bool := c.eligible dwell ts && c.evs.all (fun e => decide (e.1 ≤ ts))
    let inC := pickIdx pos (fun c => c.st == 0 && free c) l
    let outC := pickIdx (!pos) (fun c => c.st == (if pos then 1 else 2) && free c) l
    match inC, outC with
    | some i, some o =>
      let ki := (l[i]?.map (fun c => c.key)).getD 0
      let ko := (l[o]?.map (fun c => c.key)).getD 0
      if (if pos then ko - ki else ki - ko) < (keyMin : Int) then l
      else
        swaps dwell keyMin ts pos left
          (mapAt (fun c => c.give ts (if pos then 1 else 2)) i (mapAt (fun c => c.give ts 0) o l))
    | _, _ => l

/-! ### Phase-shifted carrier (R153) -/

/-- The state a cell's carrier gives it at a grid point: `ph` is its phase at u = 0 in turns, `cpc` the CUEs per carrier
period, `nav` the available cells, `full` a full-bridge arm. -/
def carState (x : Lvl) (ph : Rat) (cpc nav : Nat) (full : Bool) (g : Nat) : Nat :=
  let u : Rat := (g : Rat) / (x.d : Rat)
  let v := x.at_ g
  let q := ph + u / (cpc : Rat)
  let th := q - (floorQ q : Rat)
  let z := 2 * th - 1
  let c := 1 - (if z < 0 then -z else z)
  let w := (if full then (if v < 0 then -v else v) else (if v < 0 then 0 else v)) / (nav : Rat)
  let m : Rat := if w < 1 then w else 1
  if c < m then (if 0 < v then 1 else if v < 0 then 2 else 0) else 0

/-- Instants u between which every quantity of R153 is monotone: the vertex of x, its zeros and its crossings of the
full count (found by bisection), the carrier's kinks, and the vertices of the differences. -/
def carBreaks (x : Lvl) (ph : Rat) (cpc nav lim : Nat) : List Nat :=
  let hi := 65536 * lim
  let m := x.vertex 0 (hi - 1)
  let change (p : Rat → Bool) (lo up : Nat) : List Nat :=
    if up < lo then []
    else
      let b := p (x.at_ lo)
      match firstMono (fun g => p (x.at_ g) != b) lo up with
      | some g => [g]
      | none => []
  let tests : List (Rat → Bool) := [fun v => decide (0 < v), fun v => decide (v < 0), fun v => decide ((nav : Rat) ≤ v),
    fun v => decide (v ≤ -(nav : Rat))]
  let roots := tests.flatMap (fun p => change p 0 m ++ change p (m + 1) (hi - 1))
  let kinks := (List.range 5).map (fun j => gridAt x.d (((floorQ (2 * ph) + (j : Int) : Rat) / 2 - ph) * (cpc : Rat)) 0 hi + 1)
  let verts : List Nat := if x.c = 0 then [] else
    [(2 : Rat), -2].map (fun k => gridAt x.d ((k * (nav : Rat) / (cpc : Rat) - x.b) / (2 * x.c)) 0 hi + 1)
  ((m + 1) :: roots ++ kinks ++ verts).filter (fun g => decide (0 < g) && decide (g < hi))

/-- The changes of a cell's carrier state over the CUE, as grid points and states, from the state at its start. -/
def carChanges (x : Lvl) (ph : Rat) (cpc nav lim : Nat) (full : Bool) (st0 : Nat) : List (Nat × Nat) :=
  let f := carState x ph cpc nav full
  let bs := (carBreaks x ph cpc nav lim).foldl (fun l b => insertNat b l) []
  let ends := bs.drop 1 ++ [65536 * lim]
  let segs := (0 :: bs).zip ((bs.headD (65536 * lim)) :: ends)
  let step (a : Nat × List (Nat × Nat)) (seg : Nat × Nat) : Nat × List (Nat × Nat) :=
    let s0 := f seg.1
    let a1 := if s0 = a.1 then a else (s0, a.2 ++ [(seg.1, s0)])
    match firstMono (fun g => f g != s0) seg.1 (seg.2 - 1) with
    | some g => (f g, a1.2 ++ [(g, f g)])
    | none => a1
  (segs.foldl step (st0, [])).2

/-- Drop the pulses shorter than MIN_DWELL with both of their events, and the changes nearer to the last event of the
record for CUE k (R153, R165). `past` is the instant of that event, `done` the events kept, newest first. DESIGN CHOICE (13):
a change too near to CUE k's last event is dropped, not delayed, so the cell keeps its state until its next change. -/
def carDwell (dwell : Nat) (st0 : Nat) (past : Option Int) : List (Nat × Nat) → List (Nat × Nat) → List (Nat × Nat)
  | done, [] => done.reverse
  | done, e :: t =>
    let prev := match done with | d :: _ => d.2 | [] => st0
    if e.2 = prev then carDwell dwell st0 past done t
    else
      match done with
      | d :: rest =>
        if e.1 < d.1 + max dwell 1 then
          let before := match rest with | r :: _ => r.2 | [] => st0
          if e.2 = before then carDwell dwell st0 past rest t else carDwell dwell st0 past ((d.1, e.2) :: rest) t
        else carDwell dwell st0 past (e :: done) t
      | [] =>
        match past with
        | some p => if (e.1 : Int) < p + dwell then carDwell dwell st0 past done t else carDwell dwell st0 past [e] t
        | none => carDwell dwell st0 past [e] t

/-! ### One arm -/

/-- What modulation of an arm gives: cells with their events, transitions, flags, the scheduled count. -/
structure ArmRes where
  cells : List WorkCell
  n : Int
  trans : Nat
  sat : Bool
  clip : Bool
  nocell : Bool
  tail : Bool
  deblock : Bool
  fallback : Bool

/-- Code of CAR_RATIO as CUEs per carrier period (Table 05-7). -/
def cpcOf (v : Nat) : Nat := 2 ^ ((v + 3) % 4)

/-- The value of a cell's state in the count (R148). -/
def stVal : Nat → Int
  | 1 => 1
  | 2 => -1
  | _ => 0

/-- The count the records give at the end of CUE k+1. -/
def countOf (l : List WorkCell) : Int := l.foldl (fun n c => n + stVal c.st) 0

/-- The count at an instant after the transitions there. -/
def countAt (l : List WorkCell) (t : Nat) : Int :=
  l.foldl (fun n c =>
    n + stVal (match (c.evs.filter (fun e => decide (e.1 ≤ t))).getLast? with | some e => e.2 | none => c.st0)) 0

/-- The settings of one arm's modulation. -/
structure ModPar where
  mode : Nat
  full : Bool
  nlim : Nat
  h : Rat
  dwell : Nat
  swapMax : Nat
  swapAt : Nat
  keyMin : Nat
  ticks : Nat
  cpc : Nat
  t : Nat
  lim : Nat
  cue1 : Nat

/-- The states a deblock gives at offset 0: the first n0 cells of the order POS, or the last |n0| NEG, the others ZERO
(R158). -/
def deblockStates (n0 : Int) (order : List Nat) : List (Nat × Nat) :=
  order.zipIdx.map (fun (c : Nat × Nat) =>
    let on := if 0 ≤ n0 then decide ((c.2 : Int) < n0) else decide ((order.length : Int) + n0 ≤ c.2)
    (c.1, if on then (if 0 ≤ n0 then 1 else 2) else 0))

/-- The events of one cell in carrier mode and whether a crossing lies at or beyond T_emit (R145, R153, R158, R165). `deb` is
the state a deblock gives the cell at 0, from which the carrier goes on with its later changes; `i` is the position. -/
def carrierCell (p : ModPar) (x : Lvl) (nav i : Nat) (deb : Option Nat) (c : WorkCell) : WorkCell × Bool :=
  let ph : Rat := (((p.cue1 % p.cpc : Nat) : Rat)) / (p.cpc : Rat) + (i : Rat) / (nav : Rat)
  let base := deb.getD (if c.st0 = 3 then 0 else c.st0)
  let raw := (carChanges x ph p.cpc nav p.t p.full base).map (fun e => (offOf e.1, e.2))
  let later := raw.filter (fun e => decide (0 < e.1))
  let first := carDwell p.dwell c.st0 c.past.getLast? [] raw
  let evs :=
    if deb.isNone ∧ (c.st0 ≠ 3 ∨ first.head?.map (·.1) = some 0) then first
    else (0, base) :: carDwell p.dwell base (some 0) [] later
  ({ c with evs := (evs.filter (fun e => decide (e.1 < p.lim))).take 4, prov := false },
   raw.any (fun e => decide (p.lim ≤ e.1)))

/-- An event of carrier mode that is a transition: no deblock event and no ZERO of a blocked cell at offset 0 (R158). -/
def carTransition (deblock : Bool) (c : WorkCell) (e : Nat × Nat) : Bool :=
  !(e.1 == 0 && (deblock || (c.st0 == 3 && e.2 == 0)))

/-- Insert a transition, as offset and slot, behind those that do not come later. -/
def insertTrans (o : Nat × Nat) (l : List (Nat × Nat)) : List (Nat × Nat) :=
  let r := l.span (fun y => decide (y.1 ≤ o.1))
  r.1 ++ o :: r.2

/-- Carrier modulation of the available cells, in ascending arm slot (R153). Past 64 transitions, by offset and then by arm
slot, the others are dropped with CLIP (R160); a blocked cell that loses its transition at offset 0 takes ZERO there. SAT
belongs to the count limits of R151 and is never set here (DESIGN CHOICE, 13). -/
def modCarrier (p : ModPar) (x : Lvl) (deblock : Option (List (Nat × Nat))) (cells : List WorkCell) : ArmRes :=
  let nav := cells.length
  let all := cells.zipIdx.map (fun (c : WorkCell × Nat) =>
    carrierCell p x nav c.2 (deblock.map (fun l => ((l.find? (fun e => e.1 == c.1.slot)).elim 0 (·.2)))) c.1)
  let found := all.flatMap (fun (r : WorkCell × Bool) =>
    (r.1.evs.filter (carTransition deblock.isSome r.1)).map (fun e => (e.1, r.1.slot)))
  let kept := (found.foldl (fun l o => insertTrans o l) []).take 64
  let clip := decide (64 < found.length)
  let cut (c : WorkCell) : WorkCell :=
    let evs := c.evs.filter (fun e => !carTransition deblock.isSome c e || kept.contains (e.1, c.slot))
    { c with evs := if c.st0 = 3 ∧ evs.isEmpty then [(0, 0)] else evs }
  let cells' := all.map (fun (r : WorkCell × Bool) => if clip then cut r.1 else r.1)
  { cells := cells', n := countOf cells', trans := kept.length, sat := false, clip := clip, nocell := false,
    tail := all.any (fun (r : WorkCell × Bool) => r.2), deblock := deblock.isSome, fallback := false }

/-- Modulation of one arm (R150 to R158) over its available cells; `order` is their SIEVE order. Also: R160. DESIGN CHOICE
(13): in CAR_FALLBACK the arm is modulated by R152 and rotation swaps are formed as in MOD_MODE 0x02. -/
def modArm (p : ModPar) (x : Lvl) (order : List Nat) (cells : List WorkCell) : ArmRes :=
  let nav := cells.length
  let nhi : Int := p.nlim
  let nlo : Int := if p.full then -nhi else 0
  let deblock := !cells.isEmpty && cells.all (fun c => c.st0 == 3)
  let fallback := p.mode == 3 && decide (31 * p.cpc < nav)
  let n0 := satI nlo nhi (roundAway (x.at_ 0))
  let deb := deblockStates n0 order
  if p.mode = 3 ∧ !fallback then modCarrier p x (if deblock then some deb else none) cells
  else
    let start := if deblock then
        (cells.zip deb).map (fun (c : WorkCell × Nat × Nat) => { c.1 with evs := [(0, c.2.2)] })
      else cells.map (fun c => if c.st0 = 3 then { c with evs := [(0, 0)], prov := true } else c)
    let nEnd := if deblock then n0 else cells.foldl (fun n c => n + stVal c.st0) 0
    let e := if p.mode = 1 then levelCross x nlo nhi p.h p.lim nEnd
      else nearestLevel x nlo nhi p.t p.ticks p.lim nEnd
    let r := assign p.dwell e.ts start 0
    let ts := p.swapAt * p.t / 65536
    let done := r.1.map WorkCell.settle
    let nts := countAt done ts
    let swapped := if ts < p.lim ∧ nts ≠ 0 then swaps p.dwell p.keyMin ts (decide (0 < nts)) p.swapMax done else done
    { cells := swapped, n := countOf swapped, trans := e.ts.length, sat := e.sat, clip := e.clip, nocell := r.2.2,
      tail := e.tail, deblock := deblock, fallback := fallback }

namespace State

def modCell (s : State) (n : Nat) : ModCell := Kv.get (fun _ => ModCell.reset) s.mod.cells n
def setModCell (n : Nat) (v : ModCell) (s : State) : State :=
  s.modSet fun w => { w with cells := Kv.put (fun _ => ModCell.reset) n v w.cells }
def schedRec (s : State) (n : Nat) : SchedRec := Kv.get (fun _ => SchedRec.reset) s.mod.sched n
def setSched (n : Nat) (v : SchedRec) (s : State) : State :=
  s.modSet fun w => { w with sched := Kv.put (fun _ => SchedRec.reset) n v w.sched }

/-! ### States, availability, fault sources (R147 to R149, Table 14-1) -/

/-- State of a cell at the end of the present CUE, none while unknown (R149). -/
def endState (s : State) (n : Nat) : Option Nat :=
  let kept := (s.modCell n).kept
  let of_ (p : Nat × Nat → Bool) : Option Nat := (kept.find? p).map (fun x => x.2)
  match s.repNow n with
  | some r =>
    if hasBit r.rstat 9 then of_ (fun x => x.1 % 65536 == r.shseq) else of_ (fun x => x.1 == s.tm.cue)
  | none => of_ (fun x => x.1 == s.tm.cue)

/-- The report leaves the cell available: none of BYP, TRIP and CURT, TB0 LOCKED or HOLDOVER (R148). -/
def repFit (r : RepRec) : Bool :=
  !hasBit r.rstat 10 && !hasBit r.rstat 11 && !hasBit r.rstat 12 &&
    (let t := fld r.rstat 15 13; t == 2 || t == 3)

/-- The available cells of an arm with their states, in ascending arm slot (R148). -/
def availCells (s : State) (a : Nat) : List (Nat × Nat) :=
  (s.svMembers a).filterMap (fun n =>
    let ok := match s.repNow n with | some r => repFit r | none => true
    if ok then (s.endState n).map (fun st => (n, st)) else none)

/-- The cell sources 45 to 47 follow one cell's reports (Table 14-1). -/
def cellFaults (n : Nat) (s : State) : State :=
  let c := s.cellRec n
  if c.st ≠ .admitted then s
  else
    match s.repNow n with
    | none =>
      let m := c.missRun + 1
      (s.setCellRec n { c with missRun := m }).raiseIf (decide (s.og Obj.cellMissLimit ≤ m)) 45 n
    | some r =>
      let s1 := (s.setCellRec n { c with missRun := 0 }).release 45 n
      let s2 := s1.raiseIf (decide (3 ≤ fld r.rstat 7 5)) 46 n
      let curt := hasBit r.rstat 12 && !(s.ringRec (n / 96)).curtain
      let t := fld r.rstat 15 13
      let bad := hasBit r.rstat 10 || curt || !(t == 2 || t == 3)
      let m := if bad then c.unavRun + 1 else 0
      let s3 := s2.setCellRec n { s2.cellRec n with unavRun := m }
      let cond := hasBit r.rstat 11 || decide (bad ∧ s.og Obj.cellUnavailLimit ≤ m)
      if s.fenced n then (if hasBit r.rstat 11 || bad then s3 else s3.release 47 n) else s3.raiseIf cond 47 n

/-- Aggregates of Table 09-2, fields 0 to 5. -/
def aggregate (a : Nat) (av : List (Nat × Nat)) (s : State) : State :=
  let o := s.arm a
  let reps := av.filterMap (fun x =>
    match s.repNow x.1 with
    | some r => if hasBit r.rstat 0 then some (x.1, r) else none
    | none => none)
  let repb := reps.filter (fun (x : Nat × RepRec) => s.cellBattery x.1)
  let nav := av.length
  let navb := (av.filter (fun x => s.cellBattery x.1)).length
  let sumQ (l : List Rat) : Rat := l.foldl (· + ·) 0
  let v (x : Nat × RepRec) : Rat := (x.2.vcap : Rat) / 20
  let soc (x : Nat × RepRec) : Rat := (x.2.soc : Rat) / 65536
  let quorum := decide (0 < nav) && decide ((nav * s.og (Obj.reportQuorum a) + 1023) / 1024 ≤ reps.length)
  let sc : Rat := divQ 20 (nav : Rat) (reps.length : Rat)
  let scb : Rat := divQ 21 (navb : Rat) (repb.length : Rat)
  let vals : List Rat :=
    [sumQ (reps.map v) * sc,
     s.oq (Obj.armCcell a) * sumQ (reps.map (fun x => v x * v x)) * sc / 2,
     s.oq (Obj.armEbatCell a) * sumQ (repb.map soc) * scb,
     sumQ (repb.map (fun x => (x.2.vbat : Rat) / 20 * ((toI 16 x.2.ibat : Rat) / 20))) * scb,
     divQ 22 (sumQ (repb.map soc)) (repb.length : Rat)]
  let ok (f : Nat) : Bool := quorum && (decide (f < 2) || !repb.isEmpty)
  let t := s.tm.cueStart
  let upd {α : Type} (l : List α) (f : Nat) (d x : α) : α := if ok f then x else l.getD f d
  let fs := List.range 5
  s.setArm a { o with
    agg := fs.map (fun f => upd o.agg f 0 (F32.ofRat (vals.getD f 0))) ++ [F32.ofInt nav, o.agg.getD 6 0],
    aggAt := fs.map (fun f => upd o.aggAt f 0 t) ++ [t, o.aggAt.getD 6 0],
    aggOk := fs.map ok ++ [true, o.aggOk.getD 6 false] }

/-- What the computation takes of an arm's cells at its start: states, availability, fences with their bypass commands, Vs,
aggregates, source 48, TRACE_SLOT (R144). A fence of this same start waits for the next computation (R169, R386). -/
def modPrepare (a : Nat) (s : State) : State :=
  let slots := s.armSlots a
  let fences := (slots.filter s.fenceActs).map (fun n => (n, s.bypPending n))
  let assumed := slots.filter (fun n => s.cellAdmitted n && (s.repNow n).isNone && (s.endState n).isSome)
  let s1 := (slots.foldl (fun s n => s.cellFaults n) s).addTo (Obj.stateAssumed a) assumed.length
  let av := s1.availCells a
  let vc := av.filterMap (fun x => (s1.repNow x.1).map (fun r => (r.vcap : Rat) / 20))
  let mean : Rat := divQ 23 (vc.foldl (· + ·) 0) (vc.length : Rat)
  let held := vc.isEmpty || decide (mean < 1)
  let m := s1.armMod a
  let s2 := s1.setArmMod a { m with
    avail := av, nav := av.length, fences := fences, trace := s.og (Obj.traceSlot a), vs := if held then m.vs else some mean }
  let s3 := (s2.oset (Obj.modNav a) av.length).oset (Obj.modFlags a) (if held then 64 else 0)
  let lim := s.og (Obj.armMinCells a)
  (s3.aggregate a av).raiseIf (decide (av.length < lim)) 48 a

/-! ### The schedule -/

/-- The length of the next CUE in ns: the period of R49 for CUE k+1 with the SYNC correction of R77 scheduled for it. -/
def nextPeriod (s : State) : Nat := s.periodAt (inc 32 s.tm.cue)

/-- The correction applied to the next CUE (R77): the outstanding one, clamped, on even ns as the correction is. DESIGN CHOICE
(notes/assumptions/58.md): CUE_PERIOD in the clamp is the period in force for that CUE, and the bound is cut to whole ns. -/
def nextCorr (s : State) : Int :=
  if s.tm.sync = .off ∨ s.tm.sync = .free then 0
  else
    let out := match s.tm.syncNew with | some e => e | none => s.tm.syncCorr
    let lim : Int := (s.og Obj.syncSlew * s.nextPeriod / 10000 : Nat)
    satI (-lim) lim out

def nextLen (s : State) : Nat :=
  (satI 10000 200000 ((s.nextPeriod : Int) + s.nextCorr)).toNat

/-- T and T_emit in 125 ps units (R145). -/
def modT (s : State) : Nat := 8 * s.nextLen
def modLim (s : State) : Nat :=
  let tail := if s.tm.sync = .off then 0 else (s.og Obj.syncSlew * s.og Obj.cuePeriod * 8 + 9999) / 10000
  s.modT - tail

/-- Battery-stage fault sources of Table 14-1. -/
def batSource (n : Nat) : Bool := decide (26 ≤ n) && decide (n ≤ 32)

/-- Power shares of an arm (R225): cells counted in N_b with their shares, SHARE_STATUS and SHARE_SUM. -/
def powerShares (a : Nat) (s : State) : List (Nat × Int) × State :=
  let nb := ((s.armMod a).avail.map (fun x => x.1)).filter (fun n =>
    s.cellBattery n && (match s.repNow n with | some r => !batSource r.fltsrc | none => true))
  let rated : Rat := s.oq (Obj.batPRatedArm a)
  let lim : Int := (s.og (Obj.shareLim a) : Nat)
  let gain : Rat := s.oq (Obj.socGain a)
  let base : Int := if nb.isEmpty then 0
    else roundAway (32768 * (s.arm a).pb / ((nb.length : Rat) * rated))
  let es (n : Nat) : Rat :=
    let c := s.svCell n
    if c.has then (((c.soc : Int) - (((s.armMod a).refs.getD 1 none).getD 0) : Int) : Rat) else 0
  let unset := decide (rated = 0)
  let raw (n : Nat) : Int := base + roundAway (gain * es n / 2)
  let shares := nb.map (fun n => (n, if unset then (0 : Int) else satI (-lim) lim (raw n)))
  let clip := !unset && nb.any (fun n => decide (raw n < -lim ∨ lim < raw n))
  let total : Int := shares.foldl (fun m x => m + x.2) 0
  let s0 := if clip then s.irqPost 9 4 else s
  let s1 := s0.oset (Obj.shareStatus a) (nb.length * 65536 + packBits [clip, unset])
  (shares, s1.oset (Obj.shareSum a) (F32.ofRat ((total : Rat) * rated / 32768)))

/-- The record of a cell without assigned events (Table 05-3): its events and FIRE_BYP. `fence` is its fence at the start of
the computation, with the bypass command. -/
def plainRecord (s : State) (n mode : Nat) (fence : Option Bool) (avail : Option WorkCell) : List (Nat × Nat) × Bool :=
  let fenced := fence.isSome
  let fire := fence == some true
  let rep := s.repNow n
  let byp := match rep with | some r => hasBit r.rstat 11 | none => false
  if mode = 0 then ([(0, 3)], fire)
  else if fire then ([(0, 0)], true)
  else if byp then ([(0, 3)], false)
  else if fenced then ([(0, 0)], false)
  else if (s.endState n).isNone then ([(0, 0)], false)
  else match avail with
    | some c => (c.evs, false)
    | none => ([], false)

/-- Modulation of an arm: its schedule, records and objects (R144 to R166, R225). DESIGN CHOICE (notes/assumptions/65.md): the
record of an admitted cell that neither end serves counts among its last four records sent. -/
def modulate (a : Nat) (s : State) : State :=
  let m := s.armMod a
  let o := s.arm a
  let t := s.modT
  let lim := s.modLim
  let mode := if m.vs.isNone then 0 else s.og (Obj.modMode a)
  let vs : Rat := m.vs.getD 1
  let nav := m.avail.length
  let insMax := s.og (Obj.insMax a)
  let p : ModPar :=
    { mode := mode, full := s.og (Obj.armBridge a) == 2, nlim := if insMax ≠ 0 ∧ insMax < nav then insMax else nav,
      h := (s.og (Obj.lcHyst a) : Rat) / 1024, dwell := 8 * s.og (Obj.minDwell a), swapMax := s.og (Obj.swapMax a),
      swapAt := s.og (Obj.swapAt a), keyMin := s.og (Obj.swapKeyMin a), ticks := s.og (Obj.nlmTicks a),
      cpc := cpcOf (s.og (Obj.carRatio a)), t := t, lim := lim, cue1 := inc 32 s.tm.cue }
  let x := Lvl.form (s.og (Obj.predict a)) o.v0 o.v1 o.v2 vs t
  let keyOf (n : Nat) : Int :=
    match m.pub with
    | some pb => ((m.order.zip pb.entries).find? (fun e => e.1 == n)).elim 0 (fun e => e.2.key)
    | none => 0
  let tk : Int := 8 * s.tm.cueLen
  let work (n st : Nat) : WorkCell :=
    let c := s.modCell n
    { slot := n, st0 := st, past := if c.cue = s.tm.cue then c.evs.map (fun e => (e.1 : Int) - tk) else [],
      key := keyOf n, evs := [], prov := false }
  let cells :=
    if mode = 3 ∧ nav ≤ 31 * p.cpc then m.avail.map (fun x => work x.1 x.2)
    else m.order.filterMap (fun n => (m.avail.find? (fun x => x.1 == n)).map (fun x => work n x.2))
  let r : ArmRes := if mode = 0 then
      { cells := [], n := 0, trans := 0, sat := false, clip := false, nocell := false, tail := false, deblock := false,
        fallback := false }
    else modArm p x (m.order.filter (fun n => m.avail.any (fun x => x.1 == n))) cells
  let (shares, s1) := s.powerShares a
  let s2 := (s.armSlots a).foldl (fun s n =>
    if !s.cellAdmitted n then s.setSched n SchedRec.reset
    else
      let c := r.cells.find? (fun c => c.slot == n)
      let fence := (m.fences.find? (fun e => e.1 == n)).map (·.2)
      let pr := s.plainRecord n mode fence c
      let byp := match s.repNow n with | some r => hasBit r.rstat 11 | none => false
      let off := fence.isSome || byp
      let sh := if off then none else (shares.find? (fun x => x.1 == n)).map (fun x => x.2)
      let v : SchedRec := { evs := pr.1, share := ofI 16 (sh.getD 0), psv := off || s.cellBattery n, fire := pr.2,
                            void := false }
      let fin := match pr.1.getLast? with | some e => some e.2 | none => s.endState n
      let mc := s.modCell n
      let kept := match fin with
        | some f => ((p.cue1, f) :: mc.kept).take 4
        | none => mc.kept
      (s.setSched n v).setModCell n { kept := kept, cue := p.cue1, evs := pr.1 }) s1
  let flags := s.og (Obj.modFlags a) % 128 / 64 * 64 +
    packBits [r.sat, r.clip, r.nocell, r.tail, r.deblock, r.fallback]
  let s3 := ((((s2.oset (Obj.modCount a) (ofI 16 r.n)).oset (Obj.modVs a) (match m.vs with | some v => F32.ofRat v | none => 0)).oset
    (Obj.modTrans a) (r.trans % 256)).oset (Obj.modFlags a) flags)
  let s4 := if r.clip then s3.bump (Obj.clipCount a) else s3
  let s5 := if r.nocell then s4.bump (Obj.nocellCount a) else s4
  let s6 := if r.sat then s5.bump (Obj.satCount a) else s5
  let s7 := (List.range 4).foldl (fun s i =>
    if hasBit (packBits [r.sat, r.clip, r.nocell, r.deblock]) i then s.irqPost 6 (4 * a + i) else s) s6
  s7.raiseIf (r.clip || r.nocell) 59 a

/-! ### Record bytes (R161 to R163) -/

/-- A slot of a record. Also: R162. -/
def slotBytes (e : Option (Nat × Nat)) : Bytes :=
  match e with
  | some x => leBytes 3 (x.2 * 2 ^ 21 + x.1 % 2 ^ 21)
  | none => leBytes 3 0xFFFFFF

/-- The 16 bytes of a cell's record for a CUE; a VOID record is 16 bytes 0x00 (Table 05-3). -/
def recordBytes (r : SchedRec) (caddr cue : Nat) : Bytes :=
  if r.void then zeros 16
  else
    let b := (List.range 4).flatMap (fun i => slotBytes r.evs[i]?) ++ leBytes 2 r.share ++
      leBytes 1 (cue % 16 * 16 + b2n r.fire * 8 + b2n r.psv * 4)
    b ++ leBytes 1 (crc8 (leBytes 2 caddr ++ leBytes 4 cue ++ b))

/-- CADDR of a station slot of this HEAD. -/
def slotCaddr (s : State) (n : Nat) : Nat := caddrOf (s.og Obj.pairId) (n / 96) (n % 96 + 1)

/-- TRACE_REC keeps the record built for the TRACE_SLOT taken at the computation's start (Table 05-7). -/
def traceRecord (a : Nat) (s : State) : State :=
  let t := (s.armMod a).trace
  if t = 0xFFFF then s
  else
    match (s.armSlots a)[t]? with
    | none => s
    | some n =>
      let k1 := inc 32 s.tm.cue
      s.dset (Obj.traceRec a) (leBytes 4 k1 ++ leBytes 2 (s.slotCaddr n) ++ zeros 2 ++
        recordBytes (s.schedRec n) (s.slotCaddr n) k1)

/-! ### Writes of objects -/

/-- MOD_MODE (R154): 0x03 is refused while N_av lies above 31 × CPC. -/
def applyModMode (a v : Nat) (s : State) : Except Nat State :=
  if 3 < v then .error 5
  else if v = 3 ∧ 31 * cpcOf (s.og (Obj.carRatio a)) < (s.armMod a).nav then .error 6
  else .ok (s.oset (Obj.modMode a) v)

end State

end Sys2Proof.Machine
end

