-- ==== Sys2Proof/Machine/PipeOps.lean ====
section
/-! DEFINITION. The pipeline of a CUE as the HEAD predicts it: transit times, D_max, the cutoff, PIPE_MARGIN and
PIPE_MARGIN_1P (R53, R58 to R60, R136). Times in ps from the start of the CUE. -/

namespace Sys2Proof.Machine

/-- Hop delays of a ring in ps, as R63 measured them: entry j is the hop between positions j and j + 1. -/
abbrev HopList := List (Nat × List Nat)

/-- Delays of one ring. -/
def hopsOf (h : HopList) (p : Nat) : List Nat := ((h.find? (fun e => e.1 == p)).map (fun e => e.2)).getD []

/-- Transit P over the hops from position lo to position hi, with its forwarding cells (the budget of R58). -/
def transit (l : List Nat) (lo hi : Nat) : Nat :=
  ((l.drop lo).take (hi - lo)).foldl (· + ·) 0 + (hi - lo - 1) * 28800

/-- Place items (ready instant, occupancy) on the lanes of XL0 in order: the lane that becomes free first, lane 0 when
both are free (R126). Answers each item's start. -/
def laneStarts : Nat × Nat → Bool → List (Nat × Nat) → List Nat
  | _, _, [] => []
  | (a, b), two, (r, o) :: t =>
    let sa := max a r
    let sb := max b r
    if !two || decide (sa ≤ sb) then sa :: laneStarts (sa + o, b) two t else sb :: laneStarts (a, sb + o) two t

/-- Insert an item by its ready instant, after those of the same instant. -/
def readyInsert (x : Nat × Nat) : List (Nat × Nat) → List (Nat × Nat)
  | [] => [x]
  | y :: t => if y.1 ≤ x.1 then y :: readyInsert x t else x :: y :: t

namespace State

/-- Code-group time of ring p's hops in ps. -/
def groupPs (s : State) (p : Nat) : Nat := symTime (s.rport p).rate * 25 / 2

/-- The hops of ring p, those this HEAD's own end serves and those the other end serves. -/
def servedHops (s : State) (p : Nat) (own : Bool) : List Nat :=
  ((List.range (s.lastHop p)).map (· + 1)).filter (fun h => s.servingEnd p h == some own)

/-- Transit between hop h of ring p and the end that is this HEAD's own, or the other one. -/
def hopTransit (s : State) (d : HopList) (p h : Nat) (own : Bool) : Nat :=
  if own != s.pair.tookOver then transit (hopsOf d p) 0 h else transit (hopsOf d p) h (s.lastHop p + 1)

/-- The farthest of some hops from an end. -/
def farthest (s : State) (own : Bool) (l : List Nat) : Nat :=
  if own != s.pair.tookOver then l.foldl max 0 else l.foldl min 1000

/-- Last report of ring p's hops at their ring end. -/
def lastReport (s : State) (d : HopList) (p : Nat) (own : Bool) (l : List Nat) : Nat :=
  if l.isEmpty then 0
  else 400000 + s.hopTransit d p (s.farthest own l) own + l.length * (32 * s.groupPs p)

/-- Last sheet of ring p's hops after the end of computation, without the relay. -/
def lastSheet (s : State) (d : HopList) (p : Nat) (own : Bool) (l : List Nat) : Nat :=
  if l.isEmpty then 0 else s.hopTransit d p (s.farthest own l) own + 16 * s.groupPs p

/-- The other end lies behind XL0. -/
def relayed (s : State) : Bool := s.pw.ringMode == 1

/-- Records of the far ends as they reach the UNDERSTUDY: arrival and occupancy of XL0 (73.6 ns each). -/
def farRecords (s : State) (d : HopList) (skip : Nat → Bool) : List (Nat × Nat) :=
  let items := s.ringPorts.flatMap (fun p =>
    if skip p || !s.relayed || !(s.ringRec p).admitted then []
    else
      let l := s.servedHops p false
      (List.range l.length).map (fun i =>
        (400000 + s.hopTransit d p (s.farthest false l) false + (i + 1) * (32 * s.groupPs p), 73600)))
  items.foldl (fun acc x => readyInsert x acc) []

/-- XL0 sends on both lanes, and receives on both. -/
def xlTwo (s : State) : Bool := (s.xlink 0).tx == 3
def xlTwoUp (s : State) : Bool := (s.xlink 0).rx == 3 && !(s.xlink 0).rxWait

/-- The last far record at the HEAD: records come up over the lanes of the receive direction (R136). -/
def farLast (s : State) (d : HopList) (skip : Nat → Bool) : Nat :=
  let l := laneStarts (0, 0) s.xlTwoUp (s.farRecords d skip)
  if l.isEmpty then 0 else l.foldl max 0 + 400000

/-- Records of ring p's far SHEET frame: one for each far hop of an admitted ring, none on an unadmitted one (R100). -/
def farRecordsOf (s : State) (p : Nat) : Nat := if (s.ringRec p).admitted then (s.servedHops p false).length else 0

/-- The start on XL0 of ring p's far SHEET frame after the end of computation (R136): frames in ascending port order, of the
rings that have reached their operating rate (R89). -/
def farSheetWait (s : State) (p : Nat) : Nat :=
  let ps := s.ringPorts.filter (fun q => (s.ringRec q).enumerated && (s.ringRec q).opRate.isSome)
  let starts := laneStarts (0, 0) s.xlTwo
    (ps.map (fun q => (0, (50 + 16 * s.farRecordsOf q) * 1600)))
  ((ps.zip starts).find? (fun e => e.1 == p)).elim 0 (fun e => e.2)

/-- The predicted sheet delivery of ring p after the end of computation. -/
def delivery (s : State) (d : HopList) (p : Nat) : Nat :=
  let far := s.servedHops p false
  let f := s.lastSheet d p false far
  max (s.lastSheet d p true (s.servedHops p true))
    (if far.isEmpty then 0 else if s.relayed then f + s.farSheetWait p + 400000 else f)

/-- The admitted rings. -/
def admittedRings (s : State) : List Nat := s.ringPorts.filter (fun p => (s.ringRec p).admitted)

/-- D_max (R53). -/
def dMax (s : State) (d : HopList) : Nat := s.admittedRings.foldl (fun m p => max m (s.delivery d p)) 0

/-- The cutoff for a D_max, ps from the CUE start (R53). DESIGN CHOICE (notes/assumptions/48.md): the CUE period in it, and in
the margins of R60, is the length of the present CUE with its SYNC correction. -/
def cutoffFor (s : State) (dm : Nat) : Nat :=
  let c := s.og Obj.reportCutoff
  if c ≠ 0 then c * 1000 else s.tm.cueLen * 1000 - (2600000 + dm)

/-- The last direct report over some rings. -/
def directLast (s : State) (d : HopList) (skip : Nat → Bool) : Nat :=
  s.admittedRings.foldl (fun m p =>
    if skip p then m
    else
      let far := if s.relayed then 0 else s.lastReport d p false (s.servedHops p false)
      max m (max (s.lastReport d p true (s.servedHops p true)) far)) 0

/-- PIPE_MARGIN of ring p in ps (R60). -/
def pipeMarginOf (s : State) (d : HopList) (p : Nat) : Int :=
  let last := max (s.directLast d (fun _ => false)) (s.farLast d (fun _ => false))
  let comp := min last (s.cutoffFor (s.dMax d))
  (s.tm.cueLen * 1000 : Nat) - 200000 - ((comp + 2400000 + s.delivery d p : Nat) : Int)

/-- PIPE_MARGIN_1P of ring p in ps (R60). -/
def pipeMargin1Of (s : State) (d : HopList) (p : Nat) : Int :=
  let all := (List.range (s.lastHop p)).map (· + 1)
  let t1 := s.lastReport d p true all
  let d1 := s.lastSheet d p true all
  let skip (q : Nat) : Bool := q == p
  let last := max t1 (max (s.directLast d skip) (s.farLast d skip))
  let comp := min last (s.cutoffFor (max (s.dMax d) d1))
  (s.tm.cueLen * 1000 : Nat) - 200000 - ((comp + 2400000 + d1 : Nat) : Int)

/-- CUTOFF_NOW of the present CUE. -/
def setCutoff (d : HopList) (s : State) : State := s.oset Obj.cutoffNow (s.cutoffFor (s.dMax d) / 1000)

/-- The margins, the pipeline-overrun fault and the SINGLE_PATH_SHORT note of every admitted ring. -/
def pipeMargins (d : HopList) (s : State) : State :=
  s.admittedRings.foldl (fun s p =>
    let m := s.pipeMarginOf d p
    let m1 := s.pipeMargin1Of d p
    let s1 := ((s.oset (Obj.pipeMargin p) (ofI 32 (satS 32 (m / 1000)))).oset (Obj.pipeMargin1p p)
      (ofI 32 (satS 32 (m1 / 1000)))).raiseIf (decide (m < 0)) 44 p
    let s2 := if m < 0 then s1.irqPost 0 7 else s1
    s2.setRing p { s2.ringRec p with shortNote := decide (m1 < 0) }) s

end State

end Sys2Proof.Machine
end

