-- ==== Sys2Proof/Machine/IrqOps.lean ====
section
/-! DEFINITION. Interrupt delivery and the accesses of the interrupt and dispatch blocks (R408 to R435, R451, R454). -/

namespace Sys2Proof.Machine

/-- A HOP frame (R451, Table 16-6). -/
def hopFrame (ty sess seq acode : Nat) (pl : Bytes) : Bytes :=
  let b := leBytes 1 0x51 ++ leBytes 1 0x48 ++ leBytes 1 1 ++ leBytes 1 ty ++ leBytes 2 sess ++ leBytes 2 pl.length ++
    leBytes 4 seq ++ leBytes 1 acode ++ zeros 3 ++ pl
  b ++ leBytes 4 (crc32 b)

namespace State

/-! ### HOP frames the part starts -/

def hopSession (s : State) (n : Nat) : Option HopSession := (s.seat.sessions.find? (fun e => e.1 == n)).map (fun e => e.2)
/-- Replace an open session. -/
def setSession (n : Nat) (v : HopSession) (s : State) : State :=
  s.seatSet fun w => { w with sessions := w.sessions.map (fun e => if e.1 = n then (n, v) else e) }

/-- A HOP frame leaves on both network ports with the PRP trailer; a receiver outside the part's own network is reached by IP_GW
(R450). DESIGN CHOICE (notes/assumptions/71.md): the trailer's sequence number starts at 0. -/
def hopEmit (ip port : Nat) (f : Bytes) (s : State) : State :=
  if s.seat.netUp = 0 then s
  else
    let via := if ip &&& s.pw.ipMask = s.pw.ip &&& s.pw.ipMask then ip else s.pw.ipGw
    { (s.emit (.hop ip port via s.seat.prpSeq f)) with seat := { s.seat with prpSeq := inc 16 s.seat.prpSeq } }

/-- A NOTIFY or STREAM frame of a session, with its own count as SEQ (Table 16-6). -/
def hopPush (n ty : Nat) (pl : Bytes) (s : State) : State :=
  match s.hopSession n with
  | none => s
  | some v =>
    let s1 := s.setSession n { v with txSeq := inc 32 v.txSeq }
    s1.hopEmit v.ip v.port (hopFrame ty n v.txSeq 0 pl)

/-- A group's delivery is notified to every subscribed session (R454). -/
def hopNotify (g : Nat) (s : State) : State :=
  s.seat.sessions.foldl (fun s e =>
    if hasBit e.2.groups g then
      s.hopPush e.1 0x40 (leBytes 1 g ++ leBytes 1 (s.og (Obj.irqPrio g)) ++ zeros 2 ++ leBytes 8 s.tm.tb2)
    else s) s

/-! ### Delivery (R414, R416, R420, R424, R425) -/

/-- MSI-X vector g: a message, or the pending bit of a masked vector. -/
def msix (g : Nat) (s : State) : State :=
  if hasBit (s.rg (Blk.msix + 16 * g + 12)) 0 then s.irqSet fun w => { w with pba := setBit w.pba g } else s.emit (.msi g)

/-- A delivered group that is deliverable no more is no longer delivered. -/
def dropStale (s : State) : State :=
  (List.range 32).foldl (fun s g =>
    let r := s.grp g
    if r.deliv.isSome ∧ !s.deliverable g then s.setGrp g { r with deliv := none } else s) s

/-- Group g is delivered to target t: as an item in DMODE 1, else by the target's signal. An item that the pool has no
room for is not posted, and the group waits. -/
def deliver (g t : Nat) (s : State) : State :=
  let r := s.grp g
  let route := s.og (Obj.irqRoute g)
  let r1 := { r with deliveries := inc 32 r.deliveries, fallbacks := if t = route then r.fallbacks else inc 32 r.fallbacks }
  if s.og (Obj.irqDmode g) = 1 ∧ t = route ∧ 4 ≤ t then
    if !s.poolFits t then s
    else
      let m := s.grpPending g
      let s1 := (s.setGrp g r1).claimGroup g t true
      s1.enqueue { flow := s.og (Obj.irqFlow g), kind := 4, flags := 0, tag := g, a := m, b := s.tm.tb0 % 2 ^ 32,
                   readyAt := s.tm.tb2, word := 0 }
  else
    let s1 := s.setGrp g { r1 with deliv := some t }
    if t = 4 then s1.msix g else if t = 7 then s1.hopNotify g else s1

/-- Arbitration for a target (R420): the winner is delivered unless it already is. -/
def arbitrate (t : Nat) (s : State) : State :=
  let s1 := s.withdraw.dropStale
  match s1.winner t with
  | some g => if (s1.grp g).deliv = some t then s1 else s1.deliver g t
  | none => s1

/-- A delivered group stands that R420 lets through: the level of an interrupt ball. -/
def intLow (s : State) (t : Nat) : Bool :=
  (List.range 32).any (fun g => (s.grp g).deliv == some t && s.deliverable g && decide (s.og (Obj.irqPrio g) < s.runPrio t))

/-- A claim of a target at the end of the cycle (R421): the word it reads, and the state after. -/
def claimFor (t : Nat) (s : State) : Nat × State :=
  let s1 := s.arbitrate t
  match s1.winner t with
  | some g =>
    if (s1.grp g).deliv = some t then
      (claimWord (s1.og (Obj.irqPrio g)) g (s1.grpPending g), s1.claimGroup g t false)
    else (0, s1)
  | none => (0, s1)

/-- A completion written by an accessor (R422, R435). -/
def eoi (t g : Nat) (s : State) : State :=
  if g < 32 ∧ (s.grp g).held = some t then s.completeGroup g else s.irqLog 1 t g

/-! ### Bits (R411 to R413) -/

/-- The source bits an accessor may change: those of the groups routed to a seat; all of them for a core. -/
def irqMask (s : State) (t : Nat) : Nat :=
  if t < 4 then 2 ^ 256 - 1
  else (List.range 32).foldl (fun m g => if s.og (Obj.irqRoute g) = t then m + 255 * 2 ^ (8 * g) else m) 0

/-- Word n of a 256-bit set. -/
def irqWord (w n : Nat) : Nat := w / 2 ^ (32 * n) % 2 ^ 32

/-- Do something for every source bit of word n set in a mask that the target may change. -/
def irqEach (t n bits extra : Nat) (f : Nat → State → State) (s : State) : State :=
  let m := irqWord (s.irqMask t ||| extra) n &&& bits
  (List.range 32).foldl (fun s i => if hasBit m i then f (32 * n + i) s else s) s

/-- The value an accessor remembers of a raw register: 0 to 7 IRQ_PENDn, 8 to 15 IRQ_ENn. -/
def irqSeen (s : State) (t r : Nat) : Nat := Kv.get (fun _ => 0) s.irq.seen (16 * t + r)
/-- A raw read is remembered (R412). -/
def irqRawRead (t r : Nat) (s : State) : Nat × State :=
  let v := if r < 8 then irqWord s.irq.pend r else irqWord s.irq.en (r - 8)
  (v, s.irqSet fun w => { w with seen := Kv.put (fun _ => 0) (16 * t + r) v w.seen })

/-- A raw write of IRQ_PENDn (R412): the set of a pending bit is no source event there (R413 makes it one for IRQ_SETn). -/
def irqPendRaw (t n v : Nat) (s : State) : State :=
  let seen := s.irqSeen t n
  let up (i : Nat) (s : State) : State := s.irqSet fun w => { w with pend := setBit w.pend i }
  (s.irqEach t n (andNot (v % 2 ^ 32) seen) 0 up).irqEach t n (andNot seen v) 0 irqDiscard
/-- A raw write of IRQ_ENn (R412). -/
def irqEnRaw (t n v : Nat) (s : State) : State :=
  let seen := s.irqSeen t (8 + n)
  (s.irqEach t n (andNot (v % 2 ^ 32) seen) 0 irqEnable).irqEach t n (andNot seen v) 0 irqDisable
def irqSetBits (t n v : Nat) (s : State) : State :=
  s.irqEach t n v (if 4 ≤ t then 255 * 2 ^ (8 * 29) else 0) (fun i s => s.irqEvent (i / 8) (i % 8))
def irqClrBits (t n v : Nat) (s : State) : State := s.irqEach t n v 0 irqDiscard
def irqEnsetBits (t n v : Nat) (s : State) : State := s.irqEach t n v 0 irqEnable
def irqEnclrBits (t n v : Nat) (s : State) : State := s.irqEach t n v 0 irqDisable

/-! ### Writes of objects -/

/-- A write of IRQ_ROUTE (R414, R415, R425). -/
def applyIrqRoute (t g v : Nat) (s : State) : Except Nat State :=
  let now := s.og (Obj.irqRoute g)
  if 4 ≤ t ∧ (g = 31 ∨ !((v = t ∧ (now < 4 ∨ s.targetAsleep now)) ∨ (v = g % 4 ∧ now = t))) then .error 3
  else if 7 < v ∨ !s.targetPresent v then .error 5
  else if s.og (Obj.irqDmode g) = 1 ∧ !(4 ≤ v ∧ s.ownsFlow v (s.og (Obj.irqFlow g))) then .error 6
  else .ok ((s.oset (Obj.irqRoute g) v).withdraw)

/-- A write of IRQ_ROUTE by an accessor: a refusal for missing rights is logged (R435). -/
def irqRouteWrite (a : Accessor) (g v : Nat) (s : State) : State :=
  let t := (accTarget a)
  let s1 := s.guardedValue a (Obj.irqRoute g) v (fun v => applyIrqRoute t g v)
  match applyIrqRoute t g v s with
  | .error 3 => if s.running && s.accPresent a && !s.pw.faultHold then s1.irqLog 2 t g else s1
  | _ => s1

/-- The objects of a group besides its route: only the seat it is routed to, or a core, writes them as their range
says. -/
def applyIrqDmode (g v : Nat) (s : State) : Except Nat State :=
  let t := s.og (Obj.irqRoute g)
  if 1 < v then .error 5
  else if v = 1 ∧ !(4 ≤ t ∧ s.ownsFlow t (s.og (Obj.irqFlow g))) then .error 6
  else .ok (s.oset (Obj.irqDmode g) v)
def applyIrqFlow (g v : Nat) (s : State) : Except Nat State :=
  let t := s.og (Obj.irqRoute g)
  if 1023 < v ∧ v ≠ 0xFFFF then .error 5
  else if s.og (Obj.irqDmode g) = 1 ∧ !(4 ≤ t ∧ s.ownsFlow t v) then .error 6
  else .ok (s.oset (Obj.irqFlow g) v)
def applyIrqFallback (seat v : Nat) (s : State) : Except Nat State :=
  if v = 0xFF ∨ (v < 8 ∧ v ≠ 4 + seat ∧ s.targetPresent v) then .ok ((s.oset (Obj.irqFallback seat) v).withdraw)
  else .error 5
/-- DSP_DEPTH_WM and DSP_WAIT_WM: Seat s writes only those of Q12 + s (Table 15-7). -/
def applyDspWm (t q k v : Nat) (s : State) : Except Nat State :=
  if 4 ≤ t ∧ q ≠ 12 + (t - 4) then .error 3 else s.plainWrite k v
def applyIrqVlogCmd (v : Nat) (s : State) : Except Nat State :=
  if v = 1 then .ok ((s.irqSet fun w => { w with vlog := [], vcount := [] }).rateCheck) else .error 5

/-! ### The dispatcher's accesses (R428 to R433) -/

/-- A push by a target and its result code (R429). -/
def dspPushBy (t flow mode list tag a b time : Nat) (s : State) : State :=
  let r := s.push t flow mode list tag a b time
  r.2.setDspPath t 0 r.1

/-- The body of DSP_PUSH. -/
def dspPushBody (t : Nat) (d : Bytes) (s : State) : State :=
  s.dspPushBy t (rd d 0 2) (rd d 2 1 % 4) (rd d 3 1 % 4) (rd d 4 4) (rd d 8 4) (rd d 12 4) (rd d 16 8)
def dspBody (flow mode list tag a b time : Nat) : Bytes :=
  leBytes 2 flow ++ leBytes 1 mode ++ leBytes 1 list ++ leBytes 4 tag ++ leBytes 4 a ++ leBytes 4 b ++ leBytes 8 time
def applyDspPush (t : Nat) (d : Bytes) (s : State) : Except Nat State :=
  if 3 < rd d 2 1 ∨ 3 < rd d 3 1 then .error 5 else .ok (s.dspPushBody t d)

/-- The queue a target pops: a seat's own; a core names one of Q0 to Q11. -/
def popQueueOf (t q : Nat) : Nat := if 4 ≤ t then 12 + (t - 4) else q % 12

/-- Word 0 of an item. -/
def itemHead (it : WorkItem) : Nat := it.flow + 65536 * it.kind + 16777216 * it.flags
/-- The 16 bytes of an item (Table 15-4). -/
def itemBytes (it : WorkItem) : Bytes := leBytes 4 (itemHead it) ++ leBytes 4 it.tag ++ leBytes 4 it.a ++ leBytes 4 it.b
/-- A pop by a target (R428): word 0, and the state with words 1 to 3 latched, as the dispatcher reads them from the item's pool
entry. -/
def dspPopBy (t q : Nat) (s : State) : Nat × State :=
  match s.popQueue (popQueueOf t q) with
  | none => (0xFFFF, s)
  | some (it, s1) =>
    let x := s1.memLoad 5 it.word id (itemBytes it)
    (rd x.1 0 4, ((x.2.2.setDspPath t 1 (rd x.1 4 4)).setDspPath t 2 (rd x.1 8 4)).setDspPath t 3 (rd x.1 12 4))

/-- The 16 bytes a read of DSP_POP returns. -/
def dspPopBytes (t : Nat) (s : State) : Bytes :=
  let r := s.dspPopBy t 0
  leBytes 4 r.1 ++ (if r.1 = 0xFFFF then zeros 12
    else leBytes 4 (r.2.dspPath t 1) ++ leBytes 4 (r.2.dspPath t 2) ++ leBytes 4 (r.2.dspPath t 3))

/-- A DSP_DONE by a target (R428, R435). -/
def dspDoneBy (t f : Nat) (s : State) : State :=
  if s.ownsFlow t f ∧ (s.flow f).busy.isSome then s.endItem f
  else (s.irqLog 3 t f).evt (Blk.dsp + 0x120) 32

/-- DSP_CMD 0x01: items in service return to the head of their flows. -/
def dspReturn (t : Nat) (s : State) : State :=
  s.dsp.flows.foldl (fun s e =>
    match e.2.busy with
    | some it =>
      if s.ownsFlow t e.1 then
        let q := flowQueue e.1
        let s1 := ((s.loadTick q).setFlow e.1 { items := it :: e.2.items, busy := none }).depthRise q
        if s1.queueBusy q then s1 else s1.setQueue q { s1.queue q with busyFrom := none }
      else s
    | none => s) s

/-- DSP_CMD 0x02: every queued, delayed and in-service item is discarded. -/
def dspDiscard (t : Nat) (s : State) : State :=
  let s1 := s.dsp.flows.foldl (fun s e =>
    if s.ownsFlow t e.1 then
      let q := flowQueue e.1
      let s1 := (s.loadTick q).setFlow e.1 DspFlow.empty
      if s1.queueBusy q then s1 else s1.setQueue q { s1.queue q with busyFrom := none }
    else s) s
  (List.range 4).foldl (fun s n => s.setDelayList n ((s.delayList n).filter (fun d => !s.ownsFlow t d.item.flow))) s1

/-- DSP_CMD 0x03: the waiting operands are discarded and counted (R430). -/
def dspPurge (t : Nat) (s : State) : State :=
  let mine := s.dsp.ops.filter (fun o => s.ownsFlow t o.flow)
  s.dspSet fun w => { w with ops := w.ops.filter (fun o => !s.ownsFlow t o.flow), purged := (w.purged + mine.length) % 2 ^ 32 }

def dspCmdBy (t v : Nat) (s : State) : State :=
  match v with
  | 1 => s.dspReturn t
  | 2 => s.dspDiscard t
  | 3 => s.dspPurge t
  | _ => s
def applyDspCmd (t v : Nat) (s : State) : Except Nat State := if v = 0 ∨ 3 < v then .error 5 else .ok (s.dspCmdBy t v)

/-- A tick of the delay lists (R431): each whole microsecond of TB2. -/
def delayTick (s : State) : State :=
  let us := s.tm.tb2 / 1000
  let next := if s.tm.tb2 % 1000 = 0 ∧ s.dsp.lastTick ≠ us then s.tm.tb2 else (us + 1) * 1000
  let s1 := s.toTb2 next
  let s2 := (List.range 4).foldl (fun s n => s.releaseList n) s1
  s2.dspSet fun w => { w with lastTick := next / 1000 }

/-! ### Read-clear words (R11, R432) -/

def qdepthRead (q : Nat) (s : State) : Nat × State :=
  let r := s.queue q
  (min r.maxDepth 65535 * 65536 + min (s.queueDepth q) 65535, s.setQueue q { r with maxDepth := 0 })
def qwaitRead (q : Nat) (s : State) : Nat × State :=
  let r := s.queue q
  (min (r.maxWait / 1000) 65535 * 65536 + min (r.lastWait / 1000) 65535, s.setQueue q { r with maxWait := 0 })
def mstatRead (s : State) : Nat × State :=
  (s.dsp.maxOps * 65536 + s.dsp.ops.length, s.dspSet fun w => { w with maxOps := 0 })
def lstatRead (n : Nat) (s : State) : Nat × State :=
  (Kv.get (fun _ => 0) s.dsp.maxList n * 65536 + (s.delayList n).length,
    s.dspSet fun w => { w with maxList := Kv.put (fun _ => 0) n 0 w.maxList })

/-! ### How an accessor reaches the blocks -/

/-- Registers are served to an accessor: a core or a seat's path, outside FAULT_HOLD. -/
def regServed (s : State) (a : Accessor) : Bool :=
  s.working && s.accPresent a && (match a with | .core _ | .path _ => true | _ => false)

/-- An access that a core or a path makes at a register, and every other accessor by writing an object. -/
def regOrObj (a : Accessor) (k : Nat) (d : Bytes) (f : State → State) (s : State) : State :=
  match a with
  | .core _ | .path _ => if s.regServed a then f s else s
  | _ => s.guardedWrite a k d (fun s => .ok (f s))

/-- The word an accessor reads at a register of its path, and what the read does; a register not served reads 0. -/
def regRead (a : Accessor) (f : State → Nat × State) (s : State) : State :=
  if s.regServed a then (f s).2.emit (.word (accTarget a) (f s).1)
  else if s.accPresent a then s.emit (.word (accTarget a) 0) else s

end State

end Sys2Proof.Machine
end

