-- ==== Sys2Proof/Machine/SlOps.lean ====
section
/-! DEFINITION. The sequence logic engine: operand areas, instructions, program images, forces, and the writes of its
objects (R316, R320 to R323, R328 to R341). -/

namespace Sys2Proof.Machine

/-! ### Operands (R320, R321) -/

/-- Words of an area (Table 12-2). -/
def areaWords (a : Nat) : Nat :=
  match a with
  | 1 => 4 | 2 => 1 | 3 => 2304 | 4 => 1152 | 5 => 1152 | 6 => 16384 | 7 => 32 | 8 => 8
  | _ => 0
/-- Areas a program may write. -/
def areaRw (a : Nat) : Bool := a == 2 || a == 4 || a == 6

/-- The operand of an instruction: its area and 22 bits. -/
def immVal (o : Nat) : Int := toI 22 o
def bitWord (o : Nat) : Nat := o % 2 ^ 22 / 32
def bitNo (o : Nat) : Nat := o % 32

/-- What an instruction does with its operand. -/
inductive SlUse where
  | bitR | bitW | bitM | wordR | wordW | timer | jump | obj | none
  deriving DecidableEq, Repr

/-- Use of the operand by opcode (Table 12-3); none for an unknown opcode. -/
def opUse (op : Nat) : Option SlUse :=
  if 1 ≤ op ∧ op ≤ 6 then some .bitR
  else if 7 ≤ op ∧ op ≤ 9 then some .bitW
  else if op = 10 ∨ (12 ≤ op ∧ op ≤ 18) then some .wordR
  else
    match op with
    | 0x0B => some .wordW
    | 0x13 => some .timer
    | 0x14 => some .bitM
    | 0x15 | 0x16 | 0x17 => some .jump
    | 0x18 | 0x1A | 0x1B => some .none
    | 0x19 => some .obj
    | _ => Option.none

/-- Whether an operand lies inside its area and may be used so (R329). -/
def operandOk (u : SlUse) (area o nObj codeLen : Nat) : Bool :=
  match u with
  | .bitR => decide (1 ≤ area ∧ area ≤ 8) && decide (bitWord o < areaWords area)
  | .bitW => areaRw area && decide (bitWord o < areaWords area)
  | .bitM => area == 6 && decide (bitWord o < 16384)
  | .wordR => area == 0 || (decide (area ≤ 8) && decide (o % 2 ^ 22 < areaWords area))
  | .wordW => areaRw area && decide (o % 2 ^ 22 < areaWords area)
  | .timer => area == 6 && decide (o % 2 ^ 22 + 1 < 16384)
  | .jump => area == 0 && decide (0 ≤ immVal o) && decide (immVal o < (codeLen : Int))
  | .obj => area == 0 && decide (0 ≤ immVal o) && decide (immVal o < (nObj : Int))
  | .none => true

namespace State

/-- Interrupt source i of group 20. -/
def slIrq (i : Nat) (s : State) : State := s.irqPost 20 i
/-- Set one of SL_STATS. -/
def slStat (i : Nat) (f : Nat → Nat) (s : State) : State :=
  s.slSet fun w => { w with stats := w.stats.set i (f (w.stats.getD i 0)) }

/-! ### Forces (R333) -/

/-- Active force entries in force: area, word, mask, value. -/
def forceList (b : Bytes) : List (Nat × Nat × Nat × Nat) :=
  ((List.range 64).filter (fun i => hasBit (rd b (16 * i + 1) 1) 0)).map (fun i =>
    (rd b (16 * i) 1, rd b (16 * i + 4) 4, rd b (16 * i + 8) 4, rd b (16 * i + 12) 4))
/-- A word after the forces on it. -/
def forced (s : State) (area word v : Nat) : Nat :=
  (forceList s.sl.forces).foldl (fun v e =>
    if e.1 = area ∧ e.2.1 = word then (andNot v e.2.2.1) ||| (e.2.2.2 &&& e.2.2.1) else v) v

/-! ### Words -/

/-- Read a word of an area. -/
def slRead (s : State) (area word : Nat) : Nat :=
  let w := s.sl
  match area with
  | 1 => w.li.getD word 0
  | 2 => w.lq
  | 3 => Kv.get (fun _ => 0) w.si word
  | 4 => Kv.get (fun _ => 0) w.sq word
  | 5 => Kv.get (fun _ => 0) w.ss word
  | 6 => Kv.get (fun _ => 0) w.m word
  | 7 => w.sigs.getD word 0
  | 8 => w.sys.getD word 0
  | _ => 0
/-- The word operand's value: IMM is the operand itself. -/
def slWord (s : State) (area o : Nat) : Nat := if area = 0 then ofI 32 (immVal o) else s.slRead area (o % 2 ^ 22)
/-- Write a word of LQ, SQ or M: 8 bits of LQ and 1 of an SQ word exist; forces on M follow every write; the 64-byte line
of M is marked (R395). -/
def slWrite (area word v : Nat) (s : State) : State :=
  match area with
  | 2 => s.slSet fun w => { w with lq := v % 256 }
  | 4 => s.slSet fun w => { w with sq := Kv.put (fun _ => 0) word (v % 2) w.sq }
  | 6 =>
    (s.slSet fun w => { w with m := Kv.put (fun _ => 0) word (s.forced 6 word (v % 2 ^ 32)) w.m }).pairSet fun w =>
      { w with marked := insertNat (word / 16) w.marked }
  | _ => s
def slBit (s : State) (area o : Nat) : Bool := hasBit (s.slRead area (bitWord o)) (bitNo o)
def slSetBit (area o : Nat) (b : Bool) (s : State) : State :=
  s.slWrite area (bitWord o) (putBit (s.slRead area (bitWord o)) (bitNo o) b)
def setRlo (b : Bool) (s : State) : State := s.slSet fun w => { w with rlo := b }
def setAcc (z : Int) (s : State) : State := s.slSet fun w => { w with acc := ofI 32 (satS 32 z) }
def accI (s : State) : Int := toI 32 s.sl.acc

/-! ### Instructions (Table 12-3) -/

/-- Execution starts 64 SYS cycles after the cycle start (Table 12-1). -/
def slBegin (s : State) : State :=
  if s.sl.used = 0 ∧ s.tm.cue = s.sl.lastAt then s.loopTo0 (s.tm.cueStart + 1024) else s
/-- An instruction takes n SYS cycles and the engine goes on at `next`. -/
def slStep (n next : Nat) (s : State) : State :=
  (s.slBegin.slSet fun w => { w with pc := next, used := w.used + n }).elapse (16 * n)
/-- It goes on with the next instruction. -/
def slNext (n : Nat) (s : State) : State := s.slStep n (s.sl.pc + 1)

/-- Image length N_OBJ and CODE_LEN of the active bank. -/
def slBank (s : State) (b : Nat) : Bytes := if b = 0 then s.sl.bank0 else s.sl.bank1
def slCodeLen (s : State) : Nat := rd (s.slBank s.sl.act) 8 4
def slNObj (s : State) : Nat := rd (s.slBank s.sl.act) 14 2

/-- One instruction of the running cycle with its operand: while no cycle executes it has no effect; an operand
outside its area stops the machine, for no verified program holds one. -/
def slDo (u : SlUse) (area o : Nat) (f : State → State) (s : State) : Res :=
  if !s.activeHead || !s.sl.busy then .next s
  else if operandOk u area o s.slNObj s.slCodeLen then .next (f s)
  else .fault .noSuchOperand

/-- The action of an opcode (Table 12-3). -/
def slAction (op area o : Nat) (s : State) : State :=
  let r := s.sl.rlo
  let b := s.slBit area o
  let w := toI 32 (s.slWord area o)
  match op with
  | 0x01 => (s.setRlo b).slNext 1
  | 0x02 => (s.setRlo (!b)).slNext 1
  | 0x03 => (s.setRlo (r && b)).slNext 1
  | 0x04 => (s.setRlo (r && !b)).slNext 1
  | 0x05 => (s.setRlo (r || b)).slNext 1
  | 0x06 => (s.setRlo (r || !b)).slNext 1
  | 0x07 => (s.slSetBit area o r).slNext 1
  | 0x08 => (if r then s.slSetBit area o true else s).slNext 1
  | 0x09 => (if r then s.slSetBit area o false else s).slNext 1
  | 0x0A => (s.setAcc w).slNext 1
  | 0x0B => (s.slWrite area (o % 2 ^ 22) s.sl.acc).slNext 1
  | 0x0C => (s.setAcc (s.accI + w)).slNext 1
  | 0x0D => (s.setAcc (s.accI - w)).slNext 1
  | 0x0E => (s.setAcc (s.accI * w)).slNext 2
  | 0x0F => (s.setRlo (decide (w < s.accI))).slNext 1
  | 0x10 => (s.setRlo (decide (s.accI = w))).slNext 1
  | 0x11 => (s.setRlo (decide (s.accI < w))).slNext 1
  | 0x12 =>
    let f := s.slWord area o
    let z : Int := if F32.isNaN f then 0 else if F32.isInf f then (if F32.neg f then -2 ^ 40 else 2 ^ 40)
      else roundAway (F32.val f * 1024)
    (s.setAcc z).slNext 2
  | 0x13 =>
    let a := o % 2 ^ 22
    let lim := s.slRead 6 a
    let n := if r then min (s.slRead 6 (a + 1) + 1) lim else 0
    let s1 := s.slWrite 6 (a + 1) n
    (s1.setRlo (decide (s1.slRead 6 a ≤ s1.slRead 6 (a + 1)))).slNext 2
  | 0x14 => ((s.slSetBit area o r).setRlo (r && !b)).slNext 1
  | 0x15 => s.slStep 1 (o % 2 ^ 22)
  | 0x16 => if r then s.slStep 1 (o % 2 ^ 22) else s.slNext 1
  | 0x17 => if r then s.slNext 1 else s.slStep 1 (o % 2 ^ 22)
  | 0x18 =>
    let s1 := s.slNext 1
    let ns := 2 * s1.sl.used
    (((s1.slSet fun w => { w with busy := false, ended := true }).slStat 4 (fun _ => ns)).slStat 5 (fun m => max m ns)).slIrq 1
  | 0x19 => (if r then s.slSet fun w => { w with writes := w.writes ++ [(o % 2 ^ 22, w.acc)] } else s).slNext 2
  | 0x1A => (if r then s.slSet fun w => { w with wantModes := w.wantModes ++ [w.acc % 16] } else s).slNext 2
  | 0x1B => (if r then s.slSet fun w => { w with sacks := w.sacks ++ [w.acc] } else s).slNext 1
  | _ => s

/-- One opcode with its operand. -/
def slOp (op area o : Nat) (s : State) : Res :=
  match opUse op with
  | some u => s.slDo u area o (fun s => s.slAction op area o)
  | none => .next s

/-- The engine executes the next instruction of its active bank (R320): what one SYS cycle of time does while a cycle
executes. Past the last instruction it stays where it is, so the cycle does not end (R322). -/
def slRunOne (s : State) : State :=
  if s.activeHead && s.sl.busy && decide (s.sl.pc < s.slCodeLen) then
    let i := rd (s.slBank s.sl.act) (64 + 4 * s.sl.pc) 4
    match s.slOp (fld i 31 26) (fld i 25 22) (fld i 21 0) with
    | .next t => t
    | _ => s
  else s

/-! ### Program images (R329, R340) -/

/-- Start of the INIT entries, the object map and the signal list of an image. -/
def imgInit (b : Bytes) : Nat := 64 + 4 * rd b 8 4
def imgObj (b : Bytes) : Nat := imgInit b + 8 * rd b 12 2
def imgSig (b : Bytes) : Nat := imgObj b + 4 * rd b 14 2
def imgEnd (b : Bytes) : Nat := imgSig b + (2 * rd b 16 2 + 3) / 4 * 4

/-- An object map entry that R318 admits: a HEAD object that Seat 3 may write, and control-writing. -/
def mapOk (k : Nat) : Bool :=
  match Dict.lookup k with
  | some r => r.roles != .cell && r.cols.s3 == .rw && r.ctl
  | none => false

/-- The first byte offset at which an image fails a check of R329, none for a good one. -/
def imgCheck (s : State) (b : Bytes) : Option Nat :=
  let code := rd b 8 4
  let nObj := rd b 14 2
  let bad (l : List (Bool × Nat)) : Option Nat := (l.find? (fun e => !e.1)).map (fun e => e.2)
  match bad [(rd b 0 4 == 0x504C5351, 0), (rd b 4 2 == 1, 4), (rd b 6 2 == 0, 6), (decide (1 ≤ code ∧ code ≤ 16384), 8),
      (decide (rd b 12 2 ≤ 256), 12), (decide (nObj ≤ 64), 14), (decide (rd b 16 2 ≤ 32), 16),
      (decide (5 ≤ rd b 18 2 ∧ rd b 18 2 ≤ 5000 ∧ rd b 18 2 ≤ s.og Obj.slCues), 18), (rd b 28 28 == 0, 28),
      (rd b 60 4 == crc32 (b.take 60), 60), (decide (imgEnd b ≤ b.length ∧ imgEnd b ≤ 69632), 8),
      (rd b 56 4 == crc32 (slice b 64 (imgEnd b - 64)), 56)] with
  | some o => some o
  | none =>
    let instrBad := (List.range code).find? (fun n =>
      let i := rd b (64 + 4 * n) 4
      match opUse (fld i 31 26) with
      | some u => !operandOk u (fld i 25 22) (fld i 21 0) nObj code
      | none => true)
    match instrBad with
    | some n => some (64 + 4 * n)
    | none =>
      if !(List.range code).any (fun n => fld (rd b (64 + 4 * n) 4) 31 26 == 0x18) then some 64
      else
        match (List.range (rd b 12 2)).find? (fun n =>
            decide (16384 < rd b (imgInit b + 8 * n) 2 + rd b (imgInit b + 8 * n + 2) 2)) with
        | some n => some (imgInit b + 8 * n)
        | none =>
          match (List.range nObj).find? (fun n =>
              let o := imgObj b + 4 * n
              !mapOk (rd b o 2 * 256 + rd b (o + 2) 1) || rd b (o + 3) 1 != 0) with
          | some n => some (imgObj b + 4 * n)
          | none =>
            match (List.range (rd b 16 2)).find? (fun n => !s.sigOk (rd b (imgSig b + 2 * n) 2)) with
            | some n => some (imgSig b + 2 * n)
            | none => none

/-- An M force is active. -/
def mForced (b : Bytes) : Bool := (forceList b).any (fun e => e.1 == 6)
/-- FORCE_TABLE without its M entries. -/
def dropMForces (b : Bytes) : Bytes :=
  (List.range 64).foldl (fun b i => if rd b (16 * i) 1 = 6 then patch b (16 * i) (zeros 16) else b) b
/-- The M forces are cleared (R334). -/
def clearMForces (s : State) : State :=
  (s.dset Obj.forceTable (dropMForces (s.dg Obj.forceTable))).slSet fun w =>
    { w with forces := dropMForces w.forces, forceOld := w.forceOld.map (fun e => (e.1, dropMForces e.2)) }

/-- INIT entries written to M (R330). -/
def slInit (b : Bytes) (s : State) : State :=
  (List.range (rd b 12 2)).foldl (fun s n =>
    let o := imgInit b + 8 * n
    (List.range (rd b (o + 2) 2)).foldl (fun s i => s.slWrite 6 (rd b o 2 + i) (rd b (o + 4) 4)) s) s

/-- The change state with its interrupt source. -/
def setChg (c : ChgSt) (s : State) : State := (s.slSet fun w => { w with chg := c }).slIrq 6

/-- The banks switch: forces on M where they are to be cleared, the bank, the INIT entries of a new image (R330,
R334). -/
def slSwitch (clear init : Bool) (s : State) : State :=
  let s1 := if clear then s.clearMForces else s
  let s2 := s1.slSet fun w => { w with act := 1 - w.act, first := true }
  if init then s2.slInit (s2.slBank s2.sl.act) else s2

/-- A verified change takes effect at once in STOP or HALTED (R331). -/
def slArm (s : State) : State :=
  let s1 := s.slSet fun w => { w with armedAt := s.tm.cue }
  if s.sl.st = .run then s1.setChg .armed else (s1.slSwitch s.sl.chgClear true).setChg .switched

/-- Verification completes (R329). -/
def slVerify (s : State) : State :=
  let other := 1 - s.sl.act
  match s.imgCheck (s.slBank other) with
  | some o => (s.slSet fun w => { w with chgInfo := o, ok0 := w.ok0 && other != 0, ok1 := w.ok1 && other != 1 }).setChg .rejected
  | none => (s.slSet fun w => { w with ok0 := w.ok0 || other == 0, ok1 := w.ok1 || other == 1 }).slArm

/-- The active bank holds a verified image. -/
def slReady (s : State) : Bool := if s.sl.act = 0 then s.sl.ok0 else s.sl.ok1

/-! ### Stations -/

def stn (s : State) (slot : Nat) : StnRec := Kv.get (fun _ => StnRec.reset) s.sl.stns slot
def setStn (s : State) (slot : Nat) (v : StnRec) : State :=
  s.slSet fun w => { w with stns := Kv.put (fun _ => StnRec.reset) slot v w.stns }
/-- Bits of a 144-byte slot map that are set. -/
def slotBits (d : Bytes) : List Nat := (List.range 1152).filter (fun n => hasBit (rd d (n / 8) 1) (n % 8))
def bitsToSlots (l : List Nat) : Bytes :=
  (List.range 144).map (fun i => BitVec.ofNat 8 (packBits ((List.range 8).map (fun j => l.contains (8 * i + j)))))
def stations (s : State) : List Nat := slotBits (s.dg Obj.slStations)
/-- A configured station takes part while its cell is enumerated with a matching serial (R324). -/
def stnPresent (s : State) (slot : Nat) : Bool :=
  let c := (s.cellRec slot).st
  c != .none && c != .newSerial

/-- A change of the cycle's phase or first need of it: the next cycle starts at the second CUE start from now (R316). -/
def slPhase (s : State) : State := s.slSet fun w => { w with nextAt := some ((s.tm.cue + 2) % 2 ^ 32) }

/-- SS word of a station (R327). -/
def ssWord (s : State) (slot : Nat) : Nat :=
  let r := s.stn slot
  let mine := s.stations.contains slot
  packBits [r.q, r.st == .lost, r.st == .returning, mine, s.fenced slot, mine && (s.sl.safe || r.outSafe)] +
  min 255 (r.miss / max 1 (s.og Obj.slCues)) * 256 + packBits [r.seenP, r.seenA, r.seenR] * 65536

/-! ### Mode requests (R337) -/

/-- The lead of the MODE instruction, and the least lead of any request. -/
def modeLeast (s : State) : Nat := 2 * s.og Obj.slCues + 2

/-- Accept a mode request for CUE L. -/
def modeAccept (mode l rings : Nat) (s : State) : State :=
  let scope := s.stations.filter (fun n => hasBit rings (n / 96) && !s.fenced n)
  let s1 := s.stations.foldl (fun s n => s.setStn n { s.stn n with seenP := false, seenA := false, seenR := false }) s
  (s1.slSet fun w => { w with
                             mode := .opened, modeNo := mode, modeCls := s.og (Obj.modeClass mode), modeId := inc 16 w.modeId,
                             modeL := l, scope := scope, ackP := [], ackA := [], lag := [] }).slIrq 5

/-- The tests of a request (R337). -/
def modeRefused (s : State) (mode l : Nat) : Bool :=
  s.sl.mode != .idle || decide (14 < mode) || s.og (Obj.modeClass mode) == 0 ||
    decide (toI 32 (subMod 32 l s.tm.cue) < (s.modeLeast : Int))

/-- The first CUE whose start lies at or after a TB1 instant (R337), by the pairing of TB1 with TB0 as it stands and the lengths
the CUEs have by the writes of CUE_PERIOD accepted so far. DESIGN CHOICE (notes/assumptions/67.md): no SYNC correction of a CUE
to come is foreseen. -/
def cueAtTb1 (s : State) (t : Nat) : Nat :=
  let at1 (x : Nat) : Int := (s.tm.tb1 : Int) + since x s.tm.tb0 / 8
  let p1 := s.periodAt ((s.tm.cue + 1) % 2 ^ 32)
  let p2 := s.periodAt ((s.tm.cue + 2) % 2 ^ 32)
  let next := at1 s.nextStart
  let up (d : Int) (p : Nat) : Int := (d + (p : Int) - 1) / (p : Int)
  let n : Int :=
    if (t : Int) ≤ at1 s.tm.cueStart then up ((t : Int) - at1 s.tm.cueStart) s.tm.period
    else if (t : Int) ≤ next then 1
    else if (t : Int) ≤ next + p1 then 2
    else 2 + up ((t : Int) - (next + p1)) p2
  ofI 32 ((s.tm.cue : Int) + n)

def applyModeReq (d : Bytes) (s : State) : Except Nat State :=
  let mode := rd d 0 1
  let anchor := rd d 1 1
  if 14 < mode ∨ 1 < anchor ∨ rd d 4 4 ≠ 0 ∨ 2 ^ 12 ≤ rd d 2 2 then .error 5
  else if anchor = 1 ∧ s.tm.tb1State ≠ .locked then .error 6
  else
    let l := if anchor = 0 then rd d 8 8 % 2 ^ 32 else s.cueAtTb1 (rd d 8 8)
    if s.modeRefused mode l then .error 6 else .ok ((s.dset Obj.modeReq d).modeAccept mode l (rd d 2 2))

/-! ### Writes of objects -/

def applySlCmd (v : Nat) (s : State) : Except Nat State :=
  match v with
  | 1 =>
    if !s.slReady then .error 6
    else .ok (if s.sl.nextAt.isNone then (s.slPhase).slSet fun w => { w with cmd := some 1 }
              else s.slSet fun w => { w with cmd := some 1 })
  | 2 => .ok (s.slSet fun w => { w with cmd := some 2 })
  | 3 =>
    let ok := if s.sl.act = 0 then s.sl.ok1 else s.sl.ok0
    if !ok then .error 6
    else .ok (if s.sl.st = .run then s.slSet fun w => { w with revert := true } else s.slSwitch true false)
  | _ => .error 5

def applySlCues (v : Nat) (s : State) : Except Nat State :=
  if v < 5 ∨ 5000 < v then .error 5
  else if s.sl.st ≠ .stop ∨ s.sl.mode ≠ .idle then .error 6
  else .ok (if s.sl.nextAt.isSome then (s.oset Obj.slCues v).slPhase else s.oset Obj.slCues v)

/-- SL_STATIONS: with the last station gone and no program running no cycle runs (R316). -/
def applyStations (d : Bytes) (s : State) : Except Nat State :=
  let gone := s.stations.filter (fun n => !(slotBits d).contains n)
  let s1 := gone.foldl (fun s n => (s.setStn n StnRec.reset).release 37 n) (s.dset Obj.slStations d)
  .ok (if s1.stations.isEmpty then
         (if s1.sl.st = .run ∨ s1.sl.cmd = some 1 then s1 else s1.slSet fun w => { w with nextAt := none })
       else if s1.sl.nextAt.isNone then s1.slPhase else s1)

def applySlLoad (d : Bytes) (s : State) : Except Nat State :=
  let off := rd d 0 4
  let data := d.drop 4
  let other := 1 - s.sl.act
  if 69632 < off + data.length then .error 5
  else if s.sl.chg = .verifying ∨ s.sl.chg = .armed then .error 6
  else
    let b := s.slBank other
    let b1 := patch (fit (max b.length (off + data.length)) b) off data
    .ok (s.slSet fun w => if other = 0 then { w with bank0 := b1, ok0 := false } else { w with bank1 := b1, ok1 := false })

def applySlChange (v : Nat) (s : State) : Except Nat State :=
  if v ≠ 1 ∧ v ≠ 2 then .error 5
  else if s.sl.chg = .verifying ∨ s.sl.chg = .armed then .error 6
  else if v = 1 ∧ mForced (s.dg Obj.forceTable) then .error 6
  else .ok ((s.slSet fun w => { w with chgClear := v == 2 }).setChg .verifying)

/-- FORCE_TABLE (R333): areas LI, LQ, SI, SQ and M, words inside them. -/
def forceOk (d : Bytes) : Bool :=
  (List.range 64).all (fun i =>
    let a := rd d (16 * i) 1
    let f := rd d (16 * i + 1) 1
    rd d (16 * i) 16 == 0 ||
      (([1, 2, 3, 4, 6].contains a) && decide (f ≤ 1) && rd d (16 * i + 2) 2 == 0 &&
        decide (rd d (16 * i + 4) 4 < areaWords a)))
def applyForceTable (d : Bytes) (s : State) : Except Nat State :=
  if forceOk d then
    let old := match s.sl.forceOld with
      | some e => if e.1 = s.tm.tb2 / 2 then e.2 else s.dg Obj.forceTable
      | none => s.dg Obj.forceTable
    .ok ((s.dset Obj.forceTable d).slSet fun w => { w with forceOld := some (s.tm.tb2 / 2, old) })
  else .error 5

def applyReadmit (v : Nat) (s : State) : Except Nat State :=
  if v = 0xFFFF then .ok s
  else if 1152 ≤ v then .error 5
  else .ok (if (s.stn v).st = .returning then s.setStn v { s.stn v with readmit := true } else s)

/-- STN_LOST_CUES and MODE_LEAD, whose ranges depend on SL_CUES. -/
def applyStnLost (v : Nat) (s : State) : Except Nat State :=
  if s.og Obj.slCues ≤ v then .ok (s.oset Obj.stnLostCues v) else .error 5
def applyModeLead (v : Nat) (s : State) : Except Nat State :=
  if v = 0 ∨ s.modeLeast ≤ v then .ok (s.oset Obj.modeLead v) else .error 5

/-- A profile (R335): fixed-size objects that the owning role's Seat 1 may write, but SM_TYPE and 0x9000 to 0x9FFF. -/
def profileOk (head : Bool) (d : Bytes) : Bool :=
  (List.range 8).all (fun i =>
    let idx := rd d (8 * i) 2
    let k := idx * 256 + rd d (8 * i + 2) 1
    idx == 0 ||
      (rd d (8 * i + 3) 1 == 0 && k != Obj.smType && !(decide (0x9000 ≤ idx) && decide (idx ≤ 0x9FFF)) &&
        (match Dict.lookup k with
         | some r => r.cols.s1 == .rw && r.ty != .dom && r.ty != .str && r.roles != (if head then .cell else .head)
         | none => false)))
def applyProfile (head : Bool) (k : Nat) (d : Bytes) (s : State) : Except Nat State :=
  if profileOk head d then .ok (s.dset k d) else .error 5

/-- A station response arrives (R327): kept for the next read point when it is of the current cycle, else late. One that
completes with the start of the next cycle is not in its read (Table 12-11). -/
def stnResponse (slot : Nat) (pl : Bytes) (s : State) : State :=
  let started := match s.sl.nextAt with | some a => cueFrom s.tm.cue a | none => false
  if !s.stations.contains slot || !s.stnPresent slot then s
  else if rd pl 0 4 = s.sl.cycle ∧ !started then
    s.setStn slot { s.stn slot with resp := some (rd pl 4 4, rd pl 8 4, rd pl 12 2, rd pl 14 1) }
  else s.slStat 3 (inc 32)

end State

end Sys2Proof.Machine
end

