-- ==== Sys2Proof/Machine/MemOps.lean ====
section
/-! DEFINITION. The flash slots and images (R472 to R476), the journal and the
copies at start (R484, R486), receiving an image (R477 to R479), PARAM records (R460, R461, R487, R488). -/

namespace Sys2Proof.Machine

/-! ### Images -/

/-- Fields of an image header (Table 17-2). -/
def hCampaign (h : Bytes) : Nat := rd h 20 4
def hBodyLen (h : Bytes) : Nat := rd h 28 4
def hImage (h : Bytes) : Nat := rd h 36 4
def hHash (h : Bytes) : Bytes := slice h 64 48
/-- Chunks of 512 bytes of a stream of header and body (R480). -/
def hChunks (h : Bytes) : Nat := 1 + (hBodyLen h + 511) / 512
/-- Copy blocks of an image. -/
def hBlocks (h : Bytes) : Nat := (hBodyLen h + 131071) / 131072

/-- All bytes of a field are 0x00. -/
def allZero (b : Bytes) : Bool := b.all (fun x => x == 0#8)

/-- Format, reserved bytes and lengths of a header (R476). -/
def headOk (h : Bytes) : Bool :=
  h.length == 512 && rd h 0 4 == 0x4D495351 && rd h 4 2 == 1 && decide (rd h 6 1 < 4) && decide (rd h 7 1 < 4) &&
    decide (1 ≤ hCampaign h) && decide (1 ≤ hBodyLen h ∧ hBodyLen h ≤ 8257536) && hImage h == rd h 64 4 &&
    allZero (slice h 40 24) && allZero (slice h 112 16) && allZero (slice h 380 36)

/-- Block i of a slot. -/
def ImgSlot.block (x : ImgSlot) (i : Nat) : Bytes := x.blocks.getD i []
/-- The body a slot holds for its header. -/
def ImgSlot.body (x : ImgSlot) : Bytes := x.blocks.flatten.take (hBodyLen x.head)
/-- Program one block: missing blocks below it stay erased. -/
def setBlock (l : List Bytes) (i : Nat) (b : Bytes) : List Bytes :=
  if i < l.length then l.set i b else l ++ List.replicate (i - l.length) [] ++ [b]
/-- Erase sectors: their counts rise. -/
def ImgSlot.erase (x : ImgSlot) (sectors : List Nat) : ImgSlot :=
  { x with
    spoilt := x.spoilt.filter (fun i => !sectors.contains (2 * i))
    erases := sectors.foldl (fun m n => Kv.put (fun _ => 0) n (inc 32 (Kv.get (fun _ => 0) m n)) m) x.erases }
/-- Largest sector erase count (SLOT_INFO). -/
def ImgSlot.worn (x : ImgSlot) : Nat := x.erases.foldl (fun m e => max m e.2) 0
/-- The CRC-32 of block i is the header's. -/
def blockOk (h : Bytes) (i : Nat) (b : Bytes) : Bool := crc32 b == rd h (128 + 4 * i) 4

/-! ### The journal -/

/-- What the journal shows: the OP of the deciding record, the TRIAL count, the copy under way, copies done since. -/
structure JShow where
  op : Nat
  count : Nat
  prog : Option (Nat × Nat × Nat)
  done : List (Nat × Nat)

/-- One record more. -/
def JShow.read (j : JShow) (r : JRec) : JShow :=
  match r.op with
  | 4 => { j with prog := some (r.src, r.dst, r.block) }
  | 5 => { j with prog := none, done := (r.src, r.dst) :: j.done }
  | 6 => { op := 6, count := r.block, prog := none, done := [] }
  | 7 | 10 => { op := 0, count := 0, prog := none, done := [] }
  | n => { op := n, count := j.count, prog := none, done := [] }

/-- The 32 bytes of a journal record (Table 17-7). -/
def JRec.bytes (r : JRec) : Bytes :=
  let b := leBytes 4 0x524A5351 ++ leBytes 1 r.op ++ leBytes 1 r.src ++ leBytes 1 r.dst ++ leBytes 1 r.block ++
    leBytes 4 r.seq ++ leBytes 4 r.campaign ++ leBytes 4 r.image ++ zeros 8
  b ++ leBytes 4 (crc32 b)

/-- How a copy ended: whole, failed at a block, or cut by a loss of supply or a reset before it ended. -/
inductive CopyEnd where
  | done | failed | cut
  deriving DecidableEq, Repr

/-- The records that a full journal sector is replaced by (R484): of what the journal shows, the record that decides the
state, the copies done since, and the last block of the copy under way. -/
def compactJournal (l : List JRec) : List JRec :=
  l.foldl (fun acc r =>
    match r.op with
    | 4 => acc.filter (fun x => x.op != 4) ++ [r]
    | 5 => acc.filter (fun x => x.op != 4) ++ [r]
    | _ => [r]) []

/-- What an offer comes to (Table 17-4, R478). -/
inductive Offer where
  | accepted | joined | current | refused | conflict
  deriving DecidableEq, Repr

/-! ### PARAM records -/

/-- Type code of an entry (R487). -/
def tyCode : ObjType → Nat
  | .bool => 1 | .u8 => 2 | .u16 => 3 | .u32 => 4 | .u64 => 5 | .i16 => 6 | .i32 => 7 | .q15 => 8 | .q31 => 9
  | .f32 => 10 | .str => 11 | .dom => 12
/-- Width in bytes and sign of an integer type by its code, none for another type. -/
def intTy : Nat → Option (Nat × Bool)
  | 2 => some (1, false) | 3 => some (2, false) | 4 => some (4, false) | 5 => some (8, false) | 6 => some (2, true)
  | 7 => some (4, true)
  | _ => none

/-- Whether an object's type is a block or a string. -/
def isDom (t : ObjType) : Bool := t == .dom || t == .str

/-- What migration makes of an entry (R488). -/
inductive Migrated where
  | kept | converted (v : Nat) | defaulted | dropped
  deriving DecidableEq, Repr

/-- An entry against the running image's objects (R488). -/
def migrate (e : ParamEntry) : Migrated :=
  let k := Dict.key e.idx e.sub
  if k = Obj.slLoad then .kept
  else
    match Dict.lookup k with
    | none => .dropped
    | some r =>
      if r.pers ≠ .stored then .dropped
      else if e.ty = tyCode r.ty then
        if isDom r.ty then (if e.value.length = r.len then .kept else .defaulted)
        else if Dict.inRange r (leNat e.value) then .kept else .defaulted
      else
        match (if e.ty = 1 then some (1, false) else intTy e.ty), intTy (tyCode r.ty) with
        | some (w, sg), some (w', sg') =>
          let v : Int := if sg then toI (8 * w) (leNat e.value) else (leNat e.value : Int)
          let n := ofI (8 * w') v
          if w ≤ w' ∧ (if sg' then toI (8 * w') n else (n : Int)) = v ∧ Dict.inRange r n then .converted n
          else .defaulted
        | _, _ => .defaulted

/-- Keys of the STORED objects of the dictionary, ascending; the fields of a loop descriptor are stored in LOOP_DESC. -/
def storedKeys (s : State) : List Nat :=
  (List.range 256).foldl (fun l p =>
    (Dict.page p).foldl (fun l r =>
      if r.pers = .stored ∧ s.rowPresent r ∧ !(decide (0x7003 ≤ r.ilo) && decide (r.ihi ≤ 0x700A)) then
        (List.range (r.ihi + 1 - r.ilo)).foldl (fun l i =>
          (List.range (r.shi + 1 - r.slo)).foldl (fun l j => insertNat (Dict.key (r.ilo + i) (r.slo + j)) l) l) l
      else l) l) []

namespace State

/-! ### Flash -/

/-- Slot by its instance code (Table 17-1). -/
def imgSlot (s : State) (n : Nat) : ImgSlot :=
  match n with
  | 0 => s.mem.active
  | 1 => s.mem.staging
  | 2 => s.mem.previous
  | _ => s.mem.golden
/-- Program a slot: GOLDEN is write-protected. -/
def setImgSlot (n : Nat) (x : ImgSlot) (s : State) : State :=
  match n with
  | 0 => s.memSet fun m => { m with active := x }
  | 1 => s.memSet fun m => { m with staging := x }
  | 2 => s.memSet fun m => { m with previous := x }
  | _ => s

/-- A flash error of a slot (R473). -/
def flashError (slot : Nat) (s : State) : State := ((s.bump Obj.flashErr).pulse 14 slot).irqPost 24 3

/-- Role bit of an image's ROLES for this part. -/
def roleBit (s : State) : Nat := if s.isHead then 0 else 1

/-- Why a header does not bind to the part (R476, R478): 0x02 to 0x04, 0 when it does. -/
def bindFault (s : State) (h : Bytes) : Nat :=
  if rd h 8 4 ≠ s.og Obj.hwType then 2
  else if rd h 12 8 ≠ 0 ∧ rd h 12 8 ≠ s.og Obj.unitSerial then 3
  else if !hasBit (rd h 6 1) s.roleBit then 4
  else 0

/-- Why an image is not valid for the part (R475, R476): a code of Table 17-5, 0 when it is. -/
def imageFault (s : State) (h body : Bytes) : Nat :=
  if !headOk h then 9
  else if !Config.ecdsaP384 (s.dg (Obj.updKeys (rd h 7 1))) (Config.sha384 (h.take 416)) (slice h 416 96) then 1
  else if s.bindFault h ≠ 0 then s.bindFault h
  else if body.length ≠ hBodyLen h ∨ Config.sha384 body ≠ hHash h then 5
  else if (List.range (hBlocks h)).all (fun i => blockOk h i ((body.drop (131072 * i)).take 131072)) then 0
  else 6
/-- A part of the slot's image can no longer be read (R473). -/
def slotSpoilt (s : State) (n : Nat) : Bool :=
  let x := s.imgSlot n
  x.spoilt.any (fun i => decide (i ≤ hBlocks x.head))
/-- The slot holds a valid image. -/
def slotValid (s : State) (n : Nat) : Bool :=
  let x := s.imgSlot n
  !s.slotSpoilt n && s.imageFault x.head x.body == 0
/-- A slot is read whole: a part that cannot be corrected is a flash error of it (R473). -/
def slotRead (n : Nat) (s : State) : State := if s.slotSpoilt n then s.flashError n else s
/-- Parts of the flash go bad before they are read: of a slot of Table 17-1 the header or a block, a PARAM record, or a journal
record. -/
def flashSpoil (l : List (Nat × Nat)) (s : State) : State :=
  l.foldl (fun s e => s.memSet fun m =>
    let f (x : ImgSlot) : ImgSlot := { x with spoilt := insertNat e.2 x.spoilt }
    match e.1 with
    | 0 => { m with active := f m.active }
    | 1 => { m with staging := f m.staging }
    | 2 => { m with previous := f m.previous }
    | 3 => { m with golden := f m.golden }
    | 4 | 5 => { m with paramSpoilt := insertNat e.1 m.paramSpoilt }
    | 6 => { m with journalSpoilt := insertNat e.2 m.journalSpoilt }
    | _ => m) s

/-! ### The fault and update log (R472) -/

/-- Entries join the log: 30 sectors of 1,024 entries, of which the oldest is erased for more room. -/
def logWrite (l : List LogEntry) (s : State) : State :=
  l.foldl (fun s e => s.fltSet fun f =>
    { f with logSlot := (if f.logSlot.length < 30720 then f.logSlot else f.logSlot.drop 1024) ++ [e] }) s

/-! ### Update state -/

def updCode : UpdSt → Nat
  | .idle => 0 | .receiving => 1 | .verifying => 2 | .verified => 3 | .armed => 4 | .trial => 5 | .rejected => 6


/-- UPD_STATE changes (R477): source 0 of group 25; an entry to REJECTED raises source 60 as a pulse. DESIGN CHOICE
(notes/assumptions/69.md): an update entry of the log for each change. -/
def setUpd (x : UpdSt) (s : State) : State :=
  let s1 := if s.mem.st = x then s
    else ((s.memSet fun m => { m with st := x }).logWrite
      [.update s.tm.tb2 (updCode x) s.mem.reason (hCampaign s.mem.head)]).irqPost 25 0
  let s2 := if s.mem.st = .receiving ∨ s.mem.st = .verifying then s1.idleBreak else s1
  if x = .rejected then s2.pulse 60 0 else s2

/-- A journal record for the image of a header. A sector of 64 KiB holds 2,048 records: when it is full, a compact set goes
to the other sector under new JSEQs, and the full one is erased (R484). -/
def jadd (op src dst block : Nat) (h : Bytes) (s : State) : State :=
  let set_ := if s.mem.journal.length < 2048 then s.mem.journal
    else (compactJournal s.mem.journal).mapIdx (fun i r => { r with seq := (s.mem.jseq + i) % 2 ^ 32 })
  let q := if s.mem.journal.length < 2048 then s.mem.jseq else (s.mem.jseq + set_.length) % 2 ^ 32
  let r : JRec := { op := op, src := src, dst := dst, block := block, seq := q, campaign := hCampaign h, image := hImage h }
  s.memSet fun m => { m with journal := set_ ++ [r], jseq := inc 32 q }

/-- What the journal shows (R484): a record that cannot be read is ignored. -/
def jshow (s : State) : JShow :=
  (s.mem.journal.filter (fun r => !s.mem.journalSpoilt.contains r.seq)).foldl JShow.read
    { op := 0, count := 0, prog := none, done := [] }

/-- The staged or received image is discarded: its header is erased, and the journal no longer shows it. -/
def updDiscard (s : State) : State :=
  let s1 := if s.mem.st = .receiving then s
    else (s.setImgSlot 1 { (s.imgSlot 1).erase [0] with head := [] }).jadd 10 0 0 0 s.mem.head
  s1.memSet fun m => { m with head := [], seat := [], chunks := [] }

/-- Receiving starts with an accepted offer (Table 17-3). -/
def updStart (h : Bytes) (s : State) : State :=
  let s1 := s.setImgSlot 1 { (s.imgSlot 1).erase [0] with head := [] }
  (((s1.jadd 10 0 0 0 h).memSet fun m =>
    { m with head := h, seat := [], chunks := [],
             conflict := m.conflict.filter (fun x => decide (hCampaign h ≤ x.1)) }).setUpd .receiving)

/-- The image was stopped by a conflict, and no offer with a higher campaign has come since (R478). -/
def inConflict (s : State) (h : Bytes) : Bool :=
  match s.mem.conflict with
  | some x => decide (hCampaign h ≤ x.1) && x.2.contains (hHash h)
  | none => false

/-- An image header offered (R478). -/
def offer (h : Bytes) (s : State) : Offer × State :=
  let why := s.bindFault h
  let c := hCampaign h
  let p := hCampaign s.mem.head
  if why ≠ 0 then (.refused, s.memSet fun m => { m with reason := why })
  else if hHash h = hHash s.mem.active.head then (.current, s)
  else if s.inConflict h then (.refused, s)
  else
    match s.mem.st with
    | .idle | .rejected => (.accepted, s.updStart h)
    | .armed | .trial => (.refused, s)
    | _ =>
      if p < c then (.accepted, (s.memSet fun m => { m with reason := 8 }).updStart h)
      else if c < p then (.refused, s)
      else if hHash h = hHash s.mem.head then (.joined, s)
      else
        let both := [hHash s.mem.head, hHash h]
        (.conflict, ((s.updDiscard.memSet fun m => { m with reason := 7, conflict := some (c, both) }).setUpd .rejected).irqPost 25 4)

/-- Chunk k of the image being received is held: written by a seat, or come by PASS. -/
def chunkHeld (s : State) (k : Nat) : Bool :=
  let n := 512 + hBodyLen s.mem.head
  decide (min (512 * (k + 1)) n ≤ s.mem.seat.length) || Kv.get (fun _ => ([] : Bytes)) s.mem.chunks k != []
/-- Chunk k. -/
def chunkOf (s : State) (k : Nat) : Bytes :=
  let n := 512 + hBodyLen s.mem.head
  if min (512 * (k + 1)) n ≤ s.mem.seat.length then slice s.mem.seat (512 * k) (min 512 (n - 512 * k))
  else Kv.get (fun _ => ([] : Bytes)) s.mem.chunks k
/-- Every chunk is held. -/
def allHeld (s : State) : Bool := (List.range (hChunks s.mem.head)).all s.chunkHeld
/-- The whole stream. -/
def heldStream (s : State) : Bytes := (List.range (hChunks s.mem.head)).flatMap s.chunkOf

/-- UPD_DATA into the part's own STAGING (R478, R479). -/
def updSeat (off : Nat) (d : Bytes) (s : State) : Except Nat State :=
  let have_ := if off = 0 then [] else s.mem.seat
  if off ≠ have_.length then .error 5
  else
    let b := have_ ++ d
    let keep : State := (s.memStore Config.imageWord (fun i => off + i) d.length).memSet fun m => { m with seat := b }
    if b.length < 512 then .ok keep
    else if have_.length < 512 then
      if 512 + hBodyLen b < b.length then .error 5
      else
        match s.offer (b.take 512) with
        | (.accepted, t) => .ok (t.memSet fun m => { m with seat := b })
        | (.joined, t) => .ok (t.memSet fun m => { m with seat := b })
        | (_, _) => .error 6
    else if (s.mem.st ≠ .receiving ∧ s.mem.st ≠ .verifying ∧ s.mem.st ≠ .verified) ∨ have_.take 512 ≠ s.mem.head then .error 6
    else if 512 + hBodyLen s.mem.head < b.length then .error 5
    else .ok keep

/-- What a refused offer still leaves behind: a reason, or the conflict of both images. -/
def updRefused (off : Nat) (d : Bytes) (s : State) : State :=
  let have_ := if off = 0 then [] else s.mem.seat
  let b := have_ ++ d
  if off = have_.length ∧ have_.length < 512 ∧ 512 ≤ b.length ∧ b.length ≤ 512 + hBodyLen b then
    match s.offer (b.take 512) with
    | (.refused, t) => t
    | (.conflict, t) => t
    | _ => s
  else s

/-- UPD_DATA (R479). -/
def applyUpdData (d : Bytes) (s : State) : Except Nat State :=
  let off := rd d 0 4
  let b := d.drop 4
  if s.og Obj.updTarget = 2 then
    let have_ := if off = 0 then [] else s.mem.store
    if off ≠ have_.length ∨ 8388608 < off + b.length then .error 5
    else .ok ((s.memStore Config.passWord (fun i => off + i) b.length).memSet fun m => { m with store := have_ ++ b })
  else s.updSeat off b

/-- The received image is programmed into STAGING and verification begins (R477); `failed`: a program or erase fails its
verify (R473). -/
def stagingDone (failed : Bool) (s : State) : State :=
  if s.mem.st ≠ .receiving ∨ !s.allHeld then s
  else
    let y := s.memLoad 0 Config.imageWord id s.heldStream
    let x := ImgSlot.ofStream y.1
    let s1 := y.2.2.setImgSlot 1 { (s.imgSlot 1).erase ((List.range (2 * hBlocks s.mem.head)).map (fun i => i + 2)) with
                                 head := x.head, blocks := x.blocks }
    if failed then ((s1.flashError 1).memSet fun m => { m with reason := 10 }).setUpd .rejected
    else (s1.jadd 1 0 1 0 s.mem.head).setUpd .verifying

/-- Verification ends (R473, R476, R477); `bad` are the parts of STAGING that it could not read. -/
def verifyDone (bad : List Nat) (s0 : State) : State :=
  if s0.mem.st ≠ .verifying then s0
  else
    let s := (s0.flashSpoil (bad.map (fun i => (1, i)))).slotRead 1
    let x := s.mem.staging
    let why := if s.slotSpoilt 1 then 10 else s.imageFault x.head x.body
    if why = 0 then ((s.jadd 2 0 1 0 x.head).setUpd .verified).irqPost 25 2
    else (s.memSet fun m => { m with reason := why }).setUpd .rejected

/-- UPD_CMD but its restart (R477, R486). -/
def applyUpdCmd (v : Nat) (s : State) : Except Nat State :=
  match v with
  | 2 => if s.mem.st = .verified then .ok ((s.jadd 3 1 0 0 s.mem.staging.head).setUpd .armed) else .error 6
  | 4 => if s.mem.st = .trial then .ok ((s.jadd 7 0 0 0 s.mem.active.head).setUpd .idle) else .error 6
  | 5 =>
    match s.mem.st with
    | .receiving | .verifying | .verified =>
      .ok ((s.updDiscard.memSet fun m => { m with reason := 12 }).setUpd .rejected)
    | .armed => .ok ((s.jadd 2 0 1 0 s.mem.staging.head).setUpd .verified)
    | _ => .error 6
  | _ => .error 5

/-! ### Copies at start -/

/-- Blocks i and later of a copy, at most `fuel` of them, with `left` blocks before the start is cut (R484). -/
def copyBlocks (src dst : Nat) (bad : List (Nat × Nat × Nat)) : Nat → Nat → Nat → State → CopyEnd × Nat × State
  | 0, _, left, s => (.done, left, s)
  | fuel + 1, i, left, s =>
    match left with
    | 0 => (.cut, 0, s)
    | l + 1 =>
      let h := (s.imgSlot src).head
      let b := ((s.imgSlot src).block i).take (hBodyLen h - 131072 * i)
      let x := (s.imgSlot dst).erase [2 * i + 2, 2 * i + 3]
      let lost := (s.imgSlot src).spoilt.contains (i + 1)
      let s1 := (if lost then s.flashError src else s).setImgSlot dst { x with blocks := setBlock x.blocks i b }
      if lost ∨ !blockOk h i b ∨ bad.contains (src, dst, i) then -- repeated once, and still unequal
        (.failed, l, (s1.setImgSlot dst ((s1.imgSlot dst).erase [2 * i + 2, 2 * i + 3])).flashError dst)
      else copyBlocks src dst bad fuel (i + 1) l (s1.jadd 4 src dst i h)

/-- A copy whose blocks are done: the target's head, and the journal's COPY_END (R484). -/
def copyDone (src dst : Nat) (h : Bytes) (x : CopyEnd × Nat × State) : CopyEnd × Nat × State :=
  match x with
  | (.done, l, t) =>
    let x := t.imgSlot dst
    (.done, l, (t.setImgSlot dst { x with head := h, blocks := x.blocks.take (hBlocks h) }).jadd 5 src dst 0 h)
  | r => r
/-- copy(src, dst, resume) (R484). -/
def copyImage (src dst : Nat) (bad : List (Nat × Nat × Nat)) (left : Nat) (s : State) : CopyEnd × Nat × State :=
  let h := (s.imgSlot src).head
  let from_ := match s.jshow.prog with
    | some (a, b, i) => if a = src ∧ b = dst then i + 1 else 0
    | none => 0
  let s1 := if from_ = 0 then s.setImgSlot dst { (s.imgSlot dst).erase [0] with head := [] } else s
  if (s.imgSlot src).spoilt.contains 0 then (.failed, left, s1.flashError src)
  else copyDone src dst h (copyBlocks src dst bad (hBlocks h - from_) from_ left s1)

/-- The TRIAL_MAX that the start uses: the parameters are loaded after the journal is evaluated, so it is read from the
record of highest generation. -/
def trialMaxAt (s : State) : Nat :=
  let ok (slot : Nat) (r : Option ParamRec) : Option ParamRec := if s.mem.paramSpoilt.contains slot then none else r
  let newest := match ok 4 s.mem.paramA, ok 5 s.mem.paramB with
    | some a, some b => some (if a.gen < b.gen then b else a)
    | some a, none => some a
    | none, b => b
  match newest with
  | none => 3
  | some r => match r.entries.find? (fun e => Dict.key e.idx e.sub == Obj.trialMax) with
    | some e => leNat e.value
    | none => 3

/-- A reversal's copy has ended, or was cut (R484, R486). -/
def revertEnd (x : CopyEnd × Nat × State) : CopyEnd × Nat × State :=
  match x with
  | (.cut, l, t) => (.cut, l, t)
  | (e, l, t) =>
    let t1 := (t.jadd 9 0 0 0 t.mem.active.head).memSet fun m => { m with reason := 11, head := [], seat := [], chunks := [] }
    (e, l, (t1.setUpd .rejected).irqPost 25 5)
/-- REVERT_BEGIN is journalled without REVERTED: PREVIOUS, or GOLDEN, is copied to ACTIVE (R484, R486). -/
def revertImage (bad : List (Nat × Nat × Nat)) (left : Nat) (s : State) : CopyEnd × Nat × State :=
  revertEnd ((s.slotRead 2).copyImage (if s.slotValid 2 then 2 else 3) 0 bad left)
/-- A copy to TRIAL has ended, or was cut (R484). -/
def trialEnd (x : CopyEnd × Nat × State) : Bool × Nat × State :=
  match x with
  | (.cut, l, t) => (true, l, t)
  | (_, l, t) => (false, l, ((t.jadd 6 1 0 1 t.mem.staging.head).setUpd .trial).irqPost 25 3)
/-- The copy to PREVIOUS has ended, or was cut: STAGING goes to ACTIVE (R484). -/
def trialCopy (bad : List (Nat × Nat × Nat)) (x : CopyEnd × Nat × State) : Bool × Nat × State :=
  match x with
  | (.cut, l, t) => (true, l, t)
  | (_, l, t) => trialEnd (t.copyImage 1 0 bad l)
/-- Whether a start was cut in a copy. -/
def cutEnd (x : CopyEnd × Nat × State) : Bool × Nat × State := (x.1 == .cut, x.2.1, x.2.2)
/-- The journal at start (R484): whether the start was cut, and the state; a record that cannot be read is a flash error of the LOG
slot (R473). -/
def bootJournal (bad : List (Nat × Nat × Nat)) (left : Nat) (s0 : State) : Bool × Nat × State :=
  let s := if s0.mem.journal.any (fun r => s0.mem.journalSpoilt.contains r.seq) then s0.flashError 6 else s0
  let j := s.jshow
  if j.op = 3 then
    trialCopy bad (if s.slotValid 0 ∧ !j.done.contains (0, 2) then s.copyImage 0 2 bad left else (CopyEnd.done, left, s))
  else if j.op = 6 then
    let n := j.count + 1
    let s1 := s.jadd 6 0 0 n s.mem.active.head
    if s.trialMaxAt < n then
      cutEnd ((s1.jadd 8 0 0 0 s.mem.active.head).revertImage bad left)
    else (false, left, s1.setUpd .trial)
  else if j.op = 8 then cutEnd (s.revertImage bad left)
  else if j.op = 1 then (false, left, (s.memSet fun m => { m with head := m.staging.head }).setUpd .verifying)
  else if j.op = 2 then (false, left, (s.memSet fun m => { m with head := m.staging.head }).setUpd .verified)
  else (false, left, s)

/-- The image runs: its versions are read in the identity objects. -/
def runImage (h : Bytes) (s : State) : State :=
  ((s.memSet fun m => { m with run := h }).oset Obj.fwVersion (rd h 24 4)).oset Obj.dictVersion (rd h 32 2)

/-- ACTIVE runs if it is valid; else PREVIOUS is copied to it, or GOLDEN runs in place (R476, R486). -/
def bootImage (bad : List (Nat × Nat × Nat)) (left : Nat) (s0 : State) : Bool × State :=
  let s := s0.slotRead 0
  let golden (t : State) : State := (t.runImage t.mem.golden.head).setUpd .rejected
  let copied (x : CopyEnd × Nat × State) : Bool × State :=
    (x.1 == .cut, if x.1 == .cut then x.2.2 else if x.2.2.slotValid 0 then x.2.2.runImage x.2.2.mem.active.head else golden x.2.2)
  if s.slotValid 0 then (false, s.runImage s.mem.active.head)
  else if s.slotValid 2 then
    copied (s.copyImage 2 0 bad left)
  else (false, golden (s.slotRead 2))

/-! ### PARAM records at start and at a restore -/

/-- Take a stored value as it stands in a record: LOOP_DESC and LOOP_GTAB into the loop engine, the program image into
bank 0 if it passes its checks. -/
def loadValue (k : Nat) (v : Bytes) (s : State) : State :=
  if k = Obj.slLoad then
    if (s.imgCheck v).isNone then s.slSet fun w => { w with bank0 := v, ok0 := true, act := 0 } else s
  else if k / 256 = 0x7000 then let c := k % 256 - 1; (s.dset k v).setCh c { s.loopCh c with desc := v }
  else if k / 256 = 0x7001 then let c := k % 256 - 1; (s.dset k v).setCh c { s.loopCh c with gtab := v }
  else if 0x7003 ≤ k / 256 ∧ k / 256 ≤ 0x700A then s
  else
    match Dict.lookup k with
    | some r => if isDom r.ty then s.dset k v else s.oset k (leNat v)
    | none => s

/-- An entry as migration takes it. -/
def loadEntry (e : ParamEntry) (s : State) : State :=
  let k := Dict.key e.idx e.sub
  match migrate e with
  | .kept => s.loadValue k e.value
  | .converted n => s.oset k n
  | _ => s

/-- The entries of a record, the program image last: its checks rest on the others. -/
def loadEntries (l : List ParamEntry) (s : State) : State :=
  let img (e : ParamEntry) : Bool := Dict.key e.idx e.sub == Obj.slLoad
  (l.filter img).foldl (fun s e => s.loadEntry e) ((l.filter (fun e => !img e)).foldl (fun s e => s.loadEntry e) s)

/-- Defaults that differ by role: GROUP_SRC of LG0, the range of the second sequence, PANTRY_SIZE (Tables 09-14, 10-9,
11-8). -/
def roleDefaults (s : State) : State :=
  if s.isCell then ((s.oset (Obj.groupSrc 0) 2).oset (Obj.seqRange 1) 0).oset Obj.pantrySize 2 else s

/-- Of two records the one of higher generation, with its slot (1 A, 2 B). -/
def newest (p : ParamRec → Bool) (s : State) : Option (Nat × ParamRec) :=
  let ok (slot : Nat) (r : Option ParamRec) : Option ParamRec := if s.mem.paramSpoilt.contains slot then none else r
  match (ok 4 s.mem.paramA).filter p, (ok 5 s.mem.paramB).filter p with
  | some a, some b => some (if a.gen < b.gen then (2, b) else (1, a))
  | some a, none => some (1, a)
  | none, some b => some (2, b)
  | none, none => none

/-- A record is in use (STORE_GEN, STORE_SLOT). -/
def storeUse (slot gen st : Nat) (s : State) : State :=
  ((s.oset Obj.storeSlot slot).oset Obj.storeGen gen).oset Obj.storeState st

/-- Parameters at start (R461, R488): every default, then the record of the running image's DICT_VERSION, or a migrated
one. -/
def paramLoad (sIn : State) : State :=
  -- a PARAM slot that cannot be read is a flash error of it (R473)
  let s := sIn.mem.paramSpoilt.foldl (fun s n => s.flashError n) sIn
  let v := rd s.mem.run 32 2
  let low := rd s.mem.run 34 2
  let s0 := s.roleDefaults
  match s0.newest (fun r => r.dict == v) with
  | some (slot, r) => (s0.loadEntries r.entries).storeUse slot r.gen 0
  | none =>
    match s0.newest (fun r => decide (low ≤ r.dict) && decide (r.dict ≤ v)) with
    | none => s0.storeUse 0 0 4
    | some (slot, r) =>
      let res := r.entries.map (fun e => (e, migrate e))
      let count (p : Migrated → Bool) : Nat := (res.filter (fun x => p x.2)).length
      let es := res.filterMap (fun x =>
        match x.2 with
        | .kept => some x.1
        | .converted n =>
          match Dict.lookup (Dict.key x.1.idx x.1.sub) with
          | some row => some { x.1 with ty := tyCode row.ty, value := leBytes (Dict.tySize row.ty) n }
          | none => none
        | _ => none)
      let rec_ : ParamRec := { dict := v, fw := rd s.mem.run 24 4, gen := inc 32 r.gen, entries := es }
      let s1 := s0.memSet fun m =>
        { m with paramA := if slot = 2 then some rec_ else m.paramA, paramB := if slot = 1 then some rec_ else m.paramB,
                 paramSpoilt := m.paramSpoilt.filter (fun x => x != 6 - slot),
                 mig := [r.dict, v, count (fun x => x == .kept),
                         count (fun x => match x with | .converted _ => true | _ => false),
                         count (fun x => x == .defaulted), count (fun x => x == .dropped)] }
      (s1.loadEntries r.entries).storeUse (3 - slot) rec_.gen 0

end State

end Sys2Proof.Machine
end

