-- ==== Sys2Proof/Machine/SafOps.lean ====
section
/-! DEFINITION. The safety block's shared operations: states, stop groups and their reactions, input pairs, measured
functions, safe outputs, the safe channel and test injection (R345 to R379). -/

namespace Sys2Proof.Machine

/-- The demand levels of a pair's channels (Table 13-4): high is demand. Also: R355. -/
def demandHigh (ty c : Nat) : Bool := ty == 2 && c == 1

/-- One channel's filter (R356): the filtered level and the run of samples at the other level. -/
def siFilter (flt : Nat) (f : Bool) (n : Nat) (lvl : Bool) : Bool × Nat :=
  if lvl = f then (f, 0) else if flt ≤ n + 1 then (lvl, 0) else (f, n + 1)

/-- A pair of a type before its first samples: no channel at its demand level. -/
def SiPair.fresh (ty : Nat) : SiPair :=
  { SiPair.reset with ty := ty, f1 := (ty == 1 || ty == 2) && !demandHigh ty 0, f2 := (ty == 1 || ty == 2) && !demandHigh ty 1 }

/-- Channel states of a pair: at demand, or for a reset pair high. -/
def SiPair.c1 (p : SiPair) : Bool := if p.ty = 3 then p.f1 else p.ty != 0 && p.f1 == demandHigh p.ty 0
def SiPair.c2 (p : SiPair) : Bool := if p.ty = 3 then p.f2 else p.ty != 0 && p.f2 == demandHigh p.ty 1
/-- A pair demands (R357); one latched by a discrepancy keeps demanding (R359). -/
def SiPair.dem (p : SiPair) : Bool := p.lat != 0 || (p.ty == 1 || p.ty == 2) && (p.c1 || p.c2)
/-- A pair takes another PAIR_TYPE: its filtered levels stay, and so does the latch of a discrepancy, which a reset pair does
not have (R359, R360). -/
def SiPair.retype (p : SiPair) (ty : Nat) : SiPair :=
  if p.ty = ty then p
  else { SiPair.reset with ty := ty, f1 := p.f1, n1 := p.n1, f2 := p.f2, n2 := p.n2, lat := if ty = 3 then 0 else p.lat, fail := p.fail }

/-- A pair at one sample (R356 to R360): the pair after it, whether the discrepancy fault is reached, and whether a
reset pair gives a reset. The channels of an unused pair are filtered too: their levels are SI0 to SI7 of Table 12-2. Also: R355,
R358. -/
def SiPair.sample (p : SiPair) (flt discN : Nat) (l1 l2 : Bool) : SiPair × Bool × Bool :=
  let a := siFilter flt p.f1 p.n1 l1
  let b := siFilter flt p.f2 p.n2 l2
  let q := { p with f1 := a.1, n1 := a.2, f2 := b.1, n2 := b.2 }
  if p.ty = 0 then ({ q with fail := p.lat != 0 }, false, false)
  else
    let differ := q.c1 != q.c2
    let disc := if differ then q.disc + 1 else 0
    let hit := differ && disc == discN
    if p.ty = 3 then
      let hi := if q.c1 && q.c2 then p.hi + 1 else 0
      let pend := if p.hi ≠ 0 ∧ hi = 0 then p.hi else p.pend
      let low := !q.c1 && !q.c2
      let bad := p.bad || hit
      ({ q with disc := disc, hi := hi, pend := if low then 0 else pend, bad := bad && !low, fail := (p.fail || hit) && differ },
        hit, low && !bad && decide (10000 ≤ pend) && decide (pend ≤ 500000))
    else
      let lat0 := if hit then 1 else p.lat
      let lat := if lat0 = 1 ∧ q.c1 ∧ q.c2 then 2 else if lat0 = 2 ∧ !q.c1 ∧ !q.c2 then 0 else lat0
      ({ q with disc := disc, lat := lat, fail := lat != 0 }, hit, false)

namespace State

/-! ### Configuration -/

/-- Interrupt source i of group 21. -/
def safIrq (i : Nat) (s : State) : State := s.irqPost 21 i
def sgRings (s : State) (g : Nat) : Nat := rd (s.dg (Obj.sgCfg g)) 0 2 % 4096
def sgSo (s : State) (g : Nat) : Nat := rd (s.dg (Obj.sgCfg g)) 2 1
def sgFlags (s : State) (g : Nat) : Nat := rd (s.dg (Obj.sgCfg g)) 3 1
def sgLead (s : State) (g : Nat) : Nat := rd (s.dg (Obj.sgCfg g)) 4 2

def siPair (s : State) (p : Nat) : SiPair := Kv.get (fun _ => SiPair.reset) s.saf.pairs p
def setSiPair (p : Nat) (v : SiPair) (s : State) : State :=
  s.safSet fun w => { w with pairs := Kv.put (fun _ => SiPair.reset) p v w.pairs }
def measRec (s : State) (f : Nat) : MeasRec := Kv.get (fun _ => MeasRec.reset) s.saf.meas f
def setMeas (f : Nat) (v : MeasRec) (s : State) : State :=
  s.safSet fun w => { w with meas := Kv.put (fun _ => MeasRec.reset) f v w.meas }
def soRec (s : State) (i : Nat) : SoRec := Kv.get (fun _ => SoRec.reset) s.saf.sos i
def setSo (i : Nat) (v : SoRec) (s : State) : State :=
  s.safSet fun w => { w with sos := Kv.put (fun _ => SoRec.reset) i v w.sos }
def sconn (s : State) (c : Nat) : SconnRec := Kv.get (fun _ => SconnRec.reset) s.saf.conns c
def setSconn (c : Nat) (v : SconnRec) (s : State) : State :=
  s.safSet fun w => { w with conns := Kv.put (fun _ => SconnRec.reset) c v w.conns }

/-- A network connection of a HEAD; every other one follows SCELL_CFG. -/
def sconnNet (s : State) (c : Nat) : Bool := s.isHead && decide (c < 16)
def sconnUsed (s : State) (c : Nat) : Bool := !s.sconnNet c || rd (s.dg (Obj.sconnCfg c)) 2 1 == 1
def sconnAccept (s : State) (c : Nat) : Nat :=
  if s.sconnNet c then rd (s.dg (Obj.sconnCfg c)) 3 1 else rd (s.dg Obj.scellCfg) 4 1
def sconnWdg (s : State) (c : Nat) : Nat :=
  if s.sconnNet c then rd (s.dg (Obj.sconnCfg c)) 4 1 else rd (s.dg Obj.scellCfg) 5 1
def sconnReset (s : State) (c : Nat) : Nat :=
  if s.sconnNet c then rd (s.dg (Obj.sconnCfg c)) 5 1 else rd (s.dg Obj.scellCfg) 6 1
/-- WD of a connection in ns. -/
def sconnWd (s : State) (c : Nat) : Nat :=
  if s.sconnNet c then rd (s.dg (Obj.sconnCfg c)) 8 2 * 1000000 else rd (s.dg Obj.scellCfg) 2 2 * s.tm.cueLen

/-! ### The parameter CRC (R346) -/

/-- The objects of one row, ascending. -/
def rowBytes (s : State) (r : DictRow) : Bytes :=
  (List.range (r.shi + 1 - r.slo)).flatMap (fun i =>
    let k := Dict.key r.ilo (r.slo + i)
    if r.ty = .dom then s.dg k else leBytes (Dict.tySize r.ty) (s.og k))

/-- SAFE_CRC_NOW. -/
def safCrc (s : State) : Nat :=
  crc32c (((Dict.page 0xA0).filter (fun r =>
    r.pers == .stored && decide (0xA001 ≤ r.ilo) && decide (r.ilo ≤ 0xA04F) && s.rowPresent r)).flatMap s.rowBytes)

/-! ### Demands (R347) -/

/-- Groups that measured function f names. -/
def measMask (s : State) (f : Nat) : Nat :=
  rd (if f = 2 then s.dg Obj.covCfg else s.dg (Obj.aocCfg f)) 3 1

/-- A measured function with group mask 0 is disabled (Table 13-12): nothing of it stands, and source 5 ends. -/
def measOff (s : State) : State :=
  (if s.isHead then [0, 1] else [2]).foldl (fun s f =>
    let r := s.measRec f
    if s.measMask f ≠ 0 ∨ r = MeasRec.reset then s
    else if r.fail then (s.setMeas f MeasRec.reset).release 5 f else s.setMeas f MeasRec.reset) s

/-- Groups demanded by a source other than a latched diagnostic. -/
def sgSources (s : State) : Nat :=
  let pairs := (List.range 4).foldl (fun m p => if (s.siPair p).dem then m ||| s.og (Obj.pairGroups p) else m) 0
  let meas := (List.range 3).foldl (fun m f => if (s.measRec f).dem then m ||| s.measMask f else m) 0
  let conns := s.saf.conns.foldl (fun m e => m ||| e.2.stop ||| (if e.2.st = 2 then s.sconnWdg e.1 else 0)) 0
  let unexp := (List.range 12).foldl (fun m n =>
    if hasBit s.saf.unexp n then m ||| s.og (Obj.unexpGroups n) else m) 0
  let peer := if s.saf.peer = 0 then 0 else s.og Obj.peerGroups
  pairs ||| meas ||| conns ||| unexp ||| peer

/-- Groups demanded: every one while SAFE_STATE is not RUN (R345). -/
def sgDemanded (s : State) : Nat :=
  if s.saf.st = .run then (s.sgSources ||| s.saf.diag) % 256 else 0xFF
/-- Groups with the manual-reset flag. -/
def sgManual (s : State) : Nat := packBits ((List.range 8).map (fun g => hasBit (s.sgFlags g) 2))
/-- Some group of a mask has a flag. -/
def sgAny (s : State) (mask bit : Nat) : Bool := (List.range 8).any (fun g => hasBit mask g && hasBit (s.sgFlags g) bit)
/-- Rings that the groups of a mask name. -/
def sgRingMask (s : State) (mask : Nat) : Nat :=
  (List.range 8).foldl (fun m g => if hasBit mask g then m ||| s.sgRings g else m) 0
/-- Safe outputs that the groups of a mask name. -/
def sgSoMask (s : State) (mask : Nat) : Nat :=
  (List.range 8).foldl (fun m g => if hasBit mask g then m ||| s.sgSo g else m) 0
/-- LIFT_LEAD of a ring released by groups of a mask (R350): the largest among those that name it, 2 with none. -/
def sgLeadOf (s : State) (mask ring : Nat) : Nat :=
  let l := ((List.range 8).filter (fun g => hasBit mask g && hasBit (s.sgRings g) ring)).map s.sgLead
  if l.isEmpty then 2 else l.foldl max 0

/-! ### Reactions (R348 to R350, R361) -/

/-- A stop-class diagnostic fails: DIAG_GROUPS latched (R375). -/
def diagStop (s : State) : State := s.safSet fun w => { w with diag := w.diag ||| s.og Obj.diagGroups }

/-- The forced-safe net test (R375): `high` are the balls it finds not low. An injection at point 0x06 feeds the test
plane a high ball. -/
def netTest (high : Nat) (s : State) : State :=
  let s1 := if high % 256 ≠ 0 then ((s.safSet fun w => { w with netFail := true }).raise 10 0).diagStop
            else (s.safSet fun w => { w with netFail := false }).release 10 0
  match s1.saf.test with
  | some t =>
    if t.point ≠ 6 then s1
    else if s.tm.tb2 ≤ t.at2 + t.span * 1000000 then
      let s2 := s1.safSet fun w => { w with test := some { t with det := some (t.det.getD s.tm.tb2), miss := 1 } }
      if t.det.isNone then (s2.ilogTest 10 0).diagStop else s2
    else s1.safSet fun w => { w with test := some { t with miss := 0 } }
  | none => s1

/-- The HEAD stops sending /C/ on ring p (R94). -/
def ringQuiet (p : Nat) (s : State) : State := s.setRing p { s.ringRec p with curtain := false }

/-- The CURTAIN on ring p follows the groups (R349, R350): raised, the first /C/ leaves and an awaited lift is cancelled;
released, its LIFT_LEAD is found and the delay of R350 starts. -/
def ringCurtain (old mask p : Nat) (s : State) : State :=
  let r := s.ringRec p
  let hold := hasBit (s.sgRingMask mask) p
  if hold = r.curtain then s
  else if hold then
    let s1 := (s.setRing p { r with curtain := true }).safSet fun w =>
      { w with relAt := Kv.put (fun _ => none) p none w.relAt, lift := Kv.put (fun _ => none) p none w.lift }
    let s2 := s1.sendC p
    (if s.pw.ringMode = 2 then s2.sendC (p + 1) else s2).capHappen 4 (fun _ => true)
  else
    (s.ringQuiet p).safSet fun w =>
      { w with
               lead := Kv.put (fun _ => 2) p (s.sgLeadOf old p) w.lead,
               relAt := Kv.put (fun _ => none) p (some s.tm.tb2) w.relAt }

/-- A safe output follows its cause (R361): switched on, its readings start anew. -/
def soFollow (mask i : Nat) (s : State) : State :=
  let r := s.soRec i
  let on := s.working && s.saf.st == .run && s.og (Obj.soMode i) == 1 && !hasBit (s.sgSoMask mask) i && !r.fault
  if on = r.on then s
  else s.setSo i { r with on := on, lows := 0, highs := 0, pulse := none }

/-- The reactions follow the groups: `high` are the balls that a net test in this step finds not low. A demanded group with a
manual reset latches, in CONFIG and LOCKOUT too (R345, R352). -/
def safUpdate (high : Nat) (s : State) : State :=
  let latch0 (s : State) : State := s.safSet fun w => { w with latch := w.latch ||| (s.sgDemanded &&& s.sgManual) }
  let s1 := latch0 s.measOff.curtainsOut
  let wantLocal (s : State) : Bool := s.sgAny (s.sgDemanded ||| s.saf.latch) 0
  let s2 := if s1.saf.local_ ∧ !wantLocal s1 then latch0 (s1.netTest high) else s1
  let act := s2.sgDemanded ||| s2.saf.latch
  let old := s2.saf.active
  let s3 := if andNot act old ≠ 0 then s2.safIrq 1 else s2
  let s4 := if andNot old act ≠ 0 then s3.safIrq 2 else s3
  let loc := wantLocal s4
  let s5 := if loc = s4.saf.local_ then s4
    else (s4.withForce (fun s => s.pwmSet fun w => { w with pulseBlock := loc })).safSet fun w => { w with local_ := loc }
  let s6 :=
    if s5.activeHead then
      let t := (List.range 12).foldl (fun s p => s.ringCurtain old act p) s5
      if t.ring.rings = s5.ring.rings then t else t.sendCurtainSets
    else s5
  let rz := s6.isCell && s6.sgAny s6.sgDemanded 1
  let s7 := if rz ∧ !s6.saf.raising then (s6.sendC 0).sendC 1 else s6
  let s8 := (List.range 4).foldl (fun s i => s.soFollow act i) s7
  s8.safSet fun w => { w with active := act, raising := rz }

/-! ### Resets (R352, R363, R375) -/

/-- An output's readback has followed one full test period. -/
def soFollowed (s : State) (i : Nat) : Bool :=
  match (s.soRec i).followAt with
  | some t => decide (t + s.og (Obj.soTpPeriod i) * 1000000 ≤ s.tm.tb2)
  | none => false

/-- A stop-class diagnostic fails now. -/
def diagFailing (s : State) : Bool :=
  (List.range 4).any (fun p => (s.siPair p).fail) ||
  (List.range 4).any (fun i => (s.soRec i).fault && !s.soFollowed i) ||
  (List.range 3).any (fun f => (s.measRec f).fail) ||
  s.saf.conns.any (fun e => e.2.st == 2) || s.saf.netFail || s.saf.supply != 0

/-- One safety count (SAFE_STATS). -/
def safStat (i : Nat) (s : State) : State :=
  s.safSet fun w => { w with stats := w.stats.set i (inc 32 (w.stats.getD i 0)) }

/-- A SAFE_VLOG entry (R373): the port byte holds the connection's low bits, the detail word SCOUNT. -/
def safLog (code conn detail : Nat) (s : State) : State :=
  let e : VEntry := { tb2 := s.tm.tb2, port := conn % 256, code := code, src := 0xFFFF, detail := detail }
  (((s.safStat (code - 1)).safSet fun w => { w with vlog := logAdd w.vlog e }).safIrq 7).rateCheck
/-- A violation of a connection, counted there too (R373). -/
def connLog (code conn detail : Nat) (s : State) : State :=
  let r := s.sconn conn
  (s.setSconn conn { r with viols := r.viols.set (code - 1) (inc 32 (r.viols.getD (code - 1) 0)) }).safLog code conn detail

/-- A reset of the groups of a mask (R352, R375): one that a source demands, or whose diagnostic still fails, ignores it,
which is counted. The latched fault of an output that a group of a reset not ignored names clears once its readback has followed
(R363). -/
def safReset (mask : Nat) (s : State) : State :=
  let src := if s.saf.st = .run then s.sgSources else 0xFF
  let failing := s.diagFailing
  let waiting := (s.saf.latch ||| s.saf.diag) &&& mask
  let held := (List.range 8).foldl (fun m g =>
    if hasBit waiting g && (hasBit src g || (hasBit s.saf.diag g && failing)) then setBit m g else m) 0
  let free := andNot waiting held
  let s1 := s.safSet fun w => { w with latch := andNot w.latch free, diag := andNot w.diag free }
  let s2 := if held = 0 then s1 else s1.safStat 7
  let valid := andNot mask (held ||| src)
  (List.range 4).foldl (fun s i =>
    let r := s.soRec i
    if r.fault && hasBit (s.sgSoMask valid) i && s.soFollowed i then
      (s.setSo i { r with fault := false, lows := 0, highs := 0 }).release 4 i
    else s) s2

/-! ### Safety block states (R345) -/

/-- SAFE_STATE changes. -/
def setSaf (st : SafSt) (s : State) : State :=
  let s1 := (s.safSet fun w => { w with st := st }).safIrq 0
  if st = .run ∧ s.irq.safeRunAt.isNone then s1.irqSet fun w => { w with safeRunAt := some s.tm.tb2 } else s1

/-- Network connections in use watch from the entry to RUN. -/
def safConnStart (s : State) : State :=
  if s.isHead then
    (List.range 16).foldl (fun s c =>
      if s.sconnUsed c then s.setSconn c { s.sconn c with at2 := s.tm.tb2 } else s) s
  else s

/-- VERIFY: SAFE_CRC_NOW is computed and compared; with the start-up tests passed the block enters RUN with every
manual-reset group latched (R345, R346, R352). -/
def safVerify (s : State) : State :=
  let s1 := s.setSaf .verify
  let c := s1.safCrc
  let s2 := s1.oset Obj.safeCrcNow c
  if c ≠ s2.og Obj.safeCrc then ((s2.raise 2 0).setSaf .config).safUpdate 0
  else
    let s3 := s2.release 2 0
    if !s3.saf.testsOk then s3.safUpdate 0
    else
      let s4 := (List.range 4).foldl (fun s p =>
        let ty := s.og (Obj.pairType p)
        let r := s.siPair p
        if r.ty = ty then s else s.setSiPair p (if s.saf.siAt.isNone then SiPair.fresh ty else r.retype ty)) s3
      (((s4.safSet fun w => { w with latch := s4.sgManual }).setSaf .run).safConnStart).safUpdate 0

/-- LOCKOUT: all groups demanded and the safety-block fault source (R345). -/
def safLockout (s : State) : State :=
  if s.saf.st = .lockout then s else ((s.setSaf .lockout).raise 1 0).safUpdate 0

def applySafeCmd (v : Nat) (s : State) : Except Nat State :=
  match v with
  | 1 => if s.saf.st = .run then .ok ((s.setSaf .config).safUpdate 0) else .error 6
  | 2 => if s.saf.st = .config then .ok s.safVerify else .error 6
  | _ => .error 5

/-- Ranges of the safety parameters that are block objects. -/
def safDomOk (k : Nat) (d : Bytes) : Bool :=
  match k / 256 with
  | 0xA001 => decide (rd d 0 2 < 4096) && decide (rd d 2 1 < 16) && decide (rd d 3 1 < 8) &&
      decide (2 ≤ rd d 4 2 ∧ rd d 4 2 ≤ 1000) && rd d 6 2 == 0
  | 0xA020 | 0xA021 => rd d 3 1 == 0 || decide (1 ≤ rd d 2 1 ∧ rd d 2 1 ≤ 8)
  | 0xA040 => decide (rd d 2 1 ≤ 1) && (rd d 2 1 == 0 || (decide (1 ≤ rd d 6 2 ∧ rd d 6 2 ≤ 100) &&
      decide (2 ≤ rd d 8 2 ∧ rd d 8 2 ≤ 10000)))
  | 0xA041 => decide (8 ≤ rd d 0 2 ∧ rd d 0 2 ≤ 1024) && decide (4 * rd d 0 2 ≤ rd d 2 2) && rd d 7 1 == 0
  | _ => true

/-- A write of a safety parameter or of SAFE_CRC (R346): only in CONFIG, where all groups are demanded. -/
def applySafeParam (k v : Nat) (s : State) : Except Nat State :=
  if s.saf.st ≠ .config then .error 6
  else
    match s.plainWrite k v with
    | .ok t => .ok (t.safUpdate 0)
    | .error c => .error c
def applySafeDom (k : Nat) (d : Bytes) (s : State) : Except Nat State :=
  if s.saf.st ≠ .config then .error 6
  else if safDomOk k d then .ok ((s.dset k d).safUpdate 0) else .error 5

/-! ### The sample grid -/

/-- The next sample instant after the last one: a multiple of 10,000 ns of TB2 (R356, R363). -/
def gridNext (s : State) (last : Option Nat) : Nat :=
  let t := (s.tm.tb2 + 9999) / 10000 * 10000
  match last with
  | some l => if t ≤ l then l + 10000 else t
  | none => t

/-- The safety inputs are sampled (R356 to R360, R379): demands first, then resets. `levels` are the eight balls. -/
def siSample (levels high : Nat) (s : State) : State :=
  let t := s.gridNext s.saf.siAt
  let s0 := (s.toTb2 t).safSet fun w => { w with siAt := some t }
  let step (a : State × Nat) (p : Nat) : State × Nat :=
    let s := a.1
    let ty := s.og (Obj.pairType p)
    let r0 := (s.siPair p).retype ty
    let x := r0.sample (s.og (Obj.siFlt p)) (s.og (Obj.discT p)) (hasBit levels (2 * p)) (hasBit levels (2 * p + 1))
    let s1 := s.setSiPair p x.1
    let s2 := if x.2.1 then (s1.raise 3 p).diagStop else if r0.fail ∧ !x.1.fail then s1.release 3 p else s1
    let chg := r0.dem != x.1.dem || r0.c1 != x.1.c1 || r0.c2 != x.1.c2 || (r0.lat != 0) != (x.1.lat != 0)
    (if chg then s2.safIrq 3 else s2, if x.2.2 then a.2 ||| s.og (Obj.pairGroups p) else a.2)
  let r := (List.range 4).foldl step (s0, 0)
  let s1 := r.1
  let s2 := match s1.saf.test with
    | some k =>
      if k.point = 1 then
        let p := k.index / 2
        let c := k.index % 2
        let inj := decide (s1.tm.tb2 ≤ k.at2 + k.span * 1000000)
        let lv := demandHigh k.pair.ty c
        let l1 := if inj && c == 0 then lv else hasBit levels (2 * p)
        let l2 := if inj && c == 1 then lv else hasBit levels (2 * p + 1)
        let x := k.pair.sample (s1.og (Obj.siFlt p)) (s1.og (Obj.discT p)) l1 l2
        let first := k.det.isNone && x.1.dem
        let s3 := s1.safSet fun w => { w with
          test := some { k with pair := x.1, det := if first then some s1.tm.tb2 else k.det,
                                disc := if x.2.1 then some (k.disc.getD s1.tm.tb2) else k.disc } }
        let s4 := if first then
            (s3.ilogTest 3 p).safSet fun w => { w with diag := w.diag ||| s3.og (Obj.pairGroups p) } else s3
        if x.2.1 then (s4.ilogTest 3 p).diagStop else s4
      else s1
    | none => s1
  let s3 := s2.safUpdate high
  if r.2 = 0 then s3 else (s3.safReset r.2).safUpdate high

/-! ### Safe outputs (R362, R363) -/

/-- The level the part drives at an output's ball. -/
def soLevel (s : State) (i : Nat) : Bool := let r := s.soRec i; r.on && r.pulse.isNone

/-- One reading of an output: the record after it and whether it is a fault (R363). -/
def soRead (r : SoRec) (width now : Nat) (lvl : Bool) : SoRec × Bool :=
  match r.pulse with
  | some t =>
    let seen := r.lowSeen || !lvl
    ({ r with lowSeen := seen }, !seen && decide (t + width * 1000 ≤ now + 20000))
  | none =>
    if r.on then
      let n := if lvl then 0 else r.lows + 1
      ({ r with lows := n, highs := 0, followAt := if lvl then some (r.followAt.getD now) else none }, decide (2 ≤ n))
    else
      let n := if lvl then r.highs + 1 else 0
      ({ r with highs := n, lows := 0, followAt := if lvl then none else some (r.followAt.getD now) }, decide (2 ≤ n))

/-- An output's readback is sampled. -/
def soSample (i : Nat) (lvl : Bool) (high : Nat) (s : State) : State :=
  let r := s.soRec i
  let t := s.gridNext r.sampleAt
  let s0 := s.toTb2 t
  let x := soRead { r with sampleAt := some t } (s.og (Obj.soTpWidth i)) t lvl
  let s1 := if x.2 ∧ !r.fault then
      (((s0.setSo i { x.1 with fault := true, followAt := none }).raise 4 i).diagStop).safIrq 4
    else s0.setSo i x.1
  let s2 := match s1.saf.test with
    | some k =>
      if k.point = 2 ∧ k.index = i then
        let inj := decide (s1.tm.tb2 ≤ k.at2 + k.span * 1000000)
        let base := { k.so with on := x.1.on, pulse := x.1.pulse }
        let base1 := if k.so.pulse = x.1.pulse then base else { base with lowSeen := false }
        let y := soRead base1 (s.og (Obj.soTpWidth i)) t (lvl || inj)
        let first := k.det.isNone && y.2
        let s3 := s1.safSet fun w => { w with test := some { k with so := y.1, det := if first then some t else k.det } }
        if first then (s3.ilogTest 4 i).diagStop else s3
      else s1
    | none => s1
  s2.safUpdate high

/-! ### Measured functions (R364 to R367) -/

/-- Configuration of a measured function: primary, check, N, ZERO, LIMIT, DIFF, PERIOD_MAX. A count N of 0 acts as 1. -/
def measCfg (s : State) (f : Nat) : Bytes := if f = 2 then s.dg Obj.covCfg else s.dg (Obj.aocCfg f)

/-- One entry's consecutive counts: over, within. -/
def measCount (ovr within : Nat) (isOver : Bool) : Nat × Nat := if isOver then (ovr + 1, 0) else (0, within + 1)

/-- A result of function f: `primary` tells which entry, `bad` a result with RANGE, OPEN or REFNR. Answers the record and
whether the cross-check fails now. -/
def measStep (cfg : Bytes) (signed primary check bad : Bool) (code : Int) (stamp : Nat) (r : MeasRec) : MeasRec :=
  let n := max 1 (rd cfg 2 1)
  let d := code - toI 16 (rd cfg 4 2)
  let isOver := decide ((rd cfg 6 2 : Int) < (if signed then d else (d.natAbs : Int)))
  let p := if primary then measCount r.overP r.inP isOver else (r.overP, r.inP)
  let c := if check then measCount r.overC r.inC isOver else (r.overC, r.inC)
  let dem := if n ≤ p.1 ∨ n ≤ c.1 then true else if n ≤ p.2 ∧ n ≤ c.2 then false else r.dem
  let old := if primary then r.codeP else r.codeC
  let aged := match old with
    | some (_, t) => decide (8 * (rd cfg 10 2 : Int) < toI 64 (stamp + 2 ^ 64 - t % 2 ^ 64))
    | none => false
  let bp := if primary then bad || aged else r.badP
  let bc := if check then bad || aged else r.badC
  let kp := if primary then some (code, stamp) else r.codeP
  let kc := if check then some (code, stamp) else r.codeC
  let diff := match kp, kc with
    | some (a, ta), some (b, tb) =>
      if ta = tb then (if (rd cfg 8 2 : Int) < ((a - b).natAbs : Int) then r.diff + 1 else 0) else r.diff
    | _, _ => r.diff
  { overP := p.1, inP := p.2, overC := c.1, inC := c.2, dem := dem, diff := diff, codeP := kp, codeC := kc,
    badP := bp, badC := bc, fail := bp || bc || decide (n ≤ diff) }

/-- A result of the ADC A and B table is written: every function that names the entry takes it (R364 to R367). Also: R366. -/
def measResult (k : Nat) (s : State) : State :=
  if 64 ≤ k then s
  else
    let r := s.adcRes k
    let code := toI 16 r.code
    (if s.isHead then [0, 1] else [2]).foldl (fun s f =>
      let cfg := s.measCfg f
      let pri := rd cfg 0 1 == k
      let chk := rd cfg 1 1 == k
      if rd cfg 3 1 = 0 ∨ !(pri || chk) then s
      else
        let old := s.measRec f
        let new := measStep cfg (f == 2) pri chk (AdcRes_bad r) code r.stamp old
        let s1 := s.setMeas f new
        let s2 := if new.fail ∧ !old.fail then (s1.raise 5 f).diagStop
                  else if old.fail ∧ !new.fail then s1.release 5 f else s1
        match s2.saf.test with
        | some t =>
          if t.point = 3 ∧ t.index = f then
            let inj := decide (s2.tm.tb2 ≤ t.at2 + t.span * 1000000)
            let add : Int := if inj && chk then (rd cfg 8 2 : Int) + 1 else 0
            let m := measStep cfg (f == 2) pri chk (AdcRes_bad r) (code + add) r.stamp t.meas
            -- the detection is expected within N check results (Table 13-10)
            let cnt := if chk then t.miss + 1 else t.miss
            let n := max 1 (rd cfg 2 1)
            let first := t.det.isNone && decide (n ≤ m.diff) && decide (cnt ≤ n)
            let s3 := s2.safSet fun w =>
              { w with test := some { t with meas := m, miss := cnt, det := if first then some s2.tm.tb2 else t.det } }
            if first then (s3.ilogTest 5 f).diagStop else s3
          else s2
        | none => s2) s

/-! ### The safe channel (R368 to R373) -/

/-- The serial that keys the cell connections: the active HEAD's. -/
def safSerial (s : State) : Nat :=
  if s.isCell then Config.headSerial else if s.understudy then (s.xlink 0).serial else Config.unitSerial.toNat

/-- SCRC of a message under a key. -/
def safScrc (key msg : Bytes) : Nat := crc32c (key ++ msg.take 28)
def cellKey (s : State) (caddr : Nat) : Bytes := leBytes 2 caddr ++ leBytes 2 s.safSerial
def netKey (s : State) (c : Nat) : Bytes := slice (s.dg (Obj.sconnCfg c)) 16 4

/-- One of the two network ports of a network connection is down. -/
def netOne (s : State) (c : Nat) : Bool := s.sconnNet c && s.seat.netUp % 4 != 3

/-- A path of what connection c sends is lost: of the message of a ring, a path of one of its cells' connections (R372). -/
def sentLost (s : State) (c : Nat) : Bool :=
  if 0x2000 ≤ c then
    (List.range 96).any (fun h => let r := s.sconn (0x100 + 96 * (c - 0x2000) + h); r.lostA || r.lostB)
  else let r := s.sconn c; r.lostA || r.lostB

/-- Only one path exists for a connection (R369): an open ring, a cell with one port up, one lane of XL0. -/
def onePath (s : State) (c : Nat) : Bool :=
  if s.sconnNet c then false
  else if s.isCell then !(s.portUp 0 && s.portUp 1)
  else if 0x1000 ≤ c ∧ c < 0x2000 then (s.xlink 0).st == .up1
  else if 0x2000 ≤ c then !s.farReachable (c - 0x2000)
  else !s.farReachable ((c - 0x100) / 96)

/-- SDATA[1] to SDATA[3] (Table 13-6). -/
def safData (s : State) : Bytes :=
  let pd := packBits ((List.range 4).map (fun p => (s.siPair p).dem)) +
    packBits ((List.range 4).map (fun p => (s.siPair p).lat != 0)) * 16
  leBytes 1 (s.sgDemanded ||| s.saf.latch) ++ leBytes 1 pd ++
    leBytes 1 (packBits ((List.range 4).map (fun i => (s.soRec i).on)))

/-- A message of connection c: SCONN, STYPE, SECHO, SDATA[0], SDATA[4] and the key. -/
def safMsg (s : State) (c sc ty echo d0 d4 : Nat) (key : Bytes) : Bytes :=
  let r := s.sconn c
  let b := leBytes 2 sc ++ leBytes 1 ty ++
    leBytes 1 (packBits [s.saf.st == .run, s.sentLost c || s.onePath c || s.netOne c]) ++ leBytes 4 r.tx ++ leBytes 4 echo ++
    leBytes 1 d0 ++ s.safData ++ leBytes 1 d4 ++ zeros 11
  b ++ leBytes 4 (safScrc key b)

/-- The last SCOUNT accepted on a connection. -/
def sconnEcho (s : State) (c : Nat) : Nat := match (s.sconn c).last with | some m => rd m 4 4 | none => 0

/-- Send one DATA message of connection c on each of its paths (R369, R370). SDATA[0] is a free value: the spec gives a
part no rule for the stops it requests. -/
def safSend (c : Nat) (s : State) : State :=
  let r := s.sconn c
  let d0 := s.freeNow % 256
  let done (s : State) : State :=
    (s.setSconn c { r with tx := inc 32 r.tx, sentAt := s.tm.tb2, sentCue := s.tm.cue, sentData := s.safData }).drawn
  if s.isCell then
    let a := s.ring.node.caddr
    let m := s.safMsg c a 1 (s.sconnEcho c) d0 0 (s.cellKey a)
    let to_ := a / 128 * 128
    [0, 1].foldl (fun s p => if s.portUp p then s.queueBg p 5 0x20 0 to_ 0 s.tm.cue m else s) (done s)
  else if 0x2000 ≤ c then
    let p := c - 0x2000
    let a := s.ringCast p
    let m := s.safMsg c a 1 (s.freeNow / 256) d0 0 (s.cellKey a)
    let s1 := (done s).sendRing p true 5 0x20 0 a 0 s.tm.cue m
    if s1.farReachable p then s1.sendRing p false 5 0x20 0 a 0 s1.tm.cue m else s1
  else
    let cfg := s.dg (Obj.sconnCfg c)
    let m := s.safMsg c (rd cfg 0 2) 1 (s.sconnEcho c) d0 0 (s.netKey c)
    let net (i : Nat) (s : State) : State :=
      if hasBit s.seat.netUp i then s.emit (.safe c (i + 1) (rd cfg 12 4) (rd cfg 10 2) m) else s
    net 1 (net 0 (done s))

/-- An UNDERSTUDY passes its CURTAIN_UNEXP on port n to the active HEAD (R353), once on each lane of XL0 (R369). -/
def safUnexpUp (n : Nat) (s : State) : State :=
  let a := caddrOf (s.og Obj.pairId) n 0
  let c := 0x1000 + n
  let r := s.sconn c
  let m := s.safMsg c a 3 0 0 n (s.cellKey a)
  let f := mkFrame 0x20 0 a a (r.tx % 65536) 0 s.tm.cue m
  let lane (i : Nat) (s : State) : State :=
    if s.xlUp 0 ∧ hasBit (s.xlink 0).tx i then s.xlSendOn (some i) 0 0x11 n f else s
  lane 1 (lane 0 (s.setSconn c { r with tx := inc 32 r.tx }))

/-- A message is confirmed (R371, R372): released stop requests and a RESET act, a connection in TIMEOUT leaves it. -/
def safConfirm (c : Nat) (m : Bytes) (s : State) : State :=
  let r := s.sconn c
  let s1 := s.setSconn c { r with
                                  conf := true, confirmed := inc 32 r.confirmed, st := 1,
                                  stop := if rd m 2 1 = 1 then rd m 12 1 &&& s.sconnAccept c else r.stop }
  let s2 := if r.st = 1 then s1 else s1.safIrq 5
  let s3 := if r.st = 2 then s2.release 6 c else s2
  if rd m 2 1 = 2 then
    let ok := s.sconnReset c
    let s4 := if andNot (rd m 12 1) ok ≠ 0 then s3.connLog 6 c (rd m 4 4) else s3
    s4.safReset (rd m 12 1 &&& ok)
  else s3

/-- Whether the echo of a message lags (R372): SECHO trails the receiver's own SCOUNT by more than 8. -/
def echoLag (s : State) (c : Nat) (m : Bytes) : Bool :=
  let own := if s.isHead ∧ 0x100 ≤ c ∧ c < 0x1000 then (s.sconn (0x2000 + (c - 0x100) / 96)).tx else (s.sconn c).tx
  decide (8 < subMod 32 own (rd m 8 4)) && decide (subMod 32 own (rd m 8 4) < 2 ^ 31)

/-- A new SCOUNT is accepted: its stop bits demand at once and the watchdog restarts. -/
def safNew (c path : Nat) (m : Bytes) (got : SconnRec → SconnRec) (unlost : SconnRec → State → State) (s : State) : State :=
  let r := s.sconn c
  let first := r.last.isNone
  let one := s.onePath c
  let r0 := { r with
                     missA := if first || r.gotA then 0 else min 255 (r.missA + 1),
                     missB := if first || r.gotB || one then 0 else min 255 (r.missB + 1), gotA := false, gotB := false }
  let lag := s.echoLag c m
  let r1 := got { r0 with
                          last := some m, conf := false, at2 := s.tm.tb2, st := if r.st = 0 then 1 else r.st,
                          lagAt := if lag then some (r.lagAt.getD s.tm.tb2) else none,
                          stop := if rd m 2 1 = 1 then r.stop ||| (rd m 12 1 &&& s.sconnAccept c) else r.stop }
  let s1 := unlost r1 (s.setSconn c r1)
  let s2 := if r.st = 0 then s1.safIrq 5 else s1
  let s3 := if lag ∧ r.lagAt.isNone then s2.connLog 4 c (rd m 4 4) else s2
  let s4 := if rd m 2 1 = 3 ∧ s3.activeHead ∧ rd m 16 1 < 12 then
      s3.safSet fun w => { w with
                                  unexp := setBit w.unexp (rd m 16 1),
                                  unexpAt := Kv.put (fun _ => 0) (rd m 16 1) s3.tm.tb2 w.unexpAt } else s3
  if one ∨ (if path = 0 then r1.lostB else r1.lostA) then s4.safConfirm c m else s4

/-- The test plane under points 0x04 and 0x05: within SPAN every copy on the tested path is spoiled or missing there; after it a
valid copy restores the path (R376, R378). -/
def testCopy (c path : Nat) (valid : Bool) (s : State) : State :=
  match s.saf.test with
  | some t =>
    if (t.point ≠ 4 ∧ t.point ≠ 5) ∨ t.index ≠ c ∨ path ≠ 0 then s
    else if s.tm.tb2 ≤ t.at2 + t.span * 1000000 then
      let n := t.miss + 1
      let first := t.det.isNone && decide (8 ≤ n)
      let s1 := s.safSet fun w => { w with test := some { t with miss := n, det := if first then some s.tm.tb2 else t.det } }
      if first then s1.ilogTest 7 c else s1
    else if valid then s.safSet fun w => { w with test := some { t with miss := 0 } }
    else s
  | none => s

/-- A copy of a message on path 0 or 1 of connection c, whose key is `key` and whose SCONN is `num` (Table 13-8). -/
def safCopy (c path num : Nat) (key m : Bytes) (s0 : State) : State :=
  let sc := rd m 4 4
  let valid := m.length == 32 && safScrc key m == rd m 28 4 && rd m 0 2 == num
  let s := s0.testCopy c path valid
  if m.length ≠ 32 then s.connLog 7 c 0
  else if !valid then s.connLog 1 c sc
  else
    let r := s.sconn c
    let got (r : SconnRec) : SconnRec :=
      if path = 0 then { r with gotA := true, missA := 0, lostA := false } else { r with gotB := true, missB := 0, lostB := false }
    let unlost (r' : SconnRec) (s : State) : State :=
      if (r.lostA ∨ r.lostB) ∧ !r'.lostA ∧ !r'.lostB then s.release 7 c else s
    match r.last with
    | some l =>
      if rd l 4 4 = sc then
        if l = m then
          let r1 := got r
          let s1 := unlost r1 (s.setSconn c r1)
          let both := (r1.gotA || r1.lostA) && (r1.gotB || r1.lostB)
          if both ∧ !r.conf then s1.safConfirm c m else s1
        else ((s.connLog 3 c sc).pulse 6 c).diagStop
      else if cueAfter sc (rd l 4 4) then s.safNew c path m got unlost
      else s.connLog 2 c sc
    | none => s.safNew c path m got unlost

/-- A SAFE frame of a ring reaches this part: a cell's own, or at the HEAD a cell's or a relayed UNEXP (R353, R368).
`path` is 0 for the near end and lane 0. -/
def safRing (p path src dst : Nat) (m : Bytes) (s : State) : State :=
  if s.isCell then s.safCopy 0 path dst (s.cellKey dst) m
  else if !s.activeHead then s
  else if hopOf src = 0 then s.safCopy (0x1000 + ringOf src) path src (s.cellKey src) m
  else if hopOf src ≤ 96 then s.safCopy (0x100 + 96 * p + hopOf src - 1) path src (s.cellKey src) m
  else s

/-- A datagram of the station network reaches the safe channel on network port A (0) or B (1). -/
def safNet (path : Nat) (m : Bytes) (s : State) : State :=
  if m.length ≠ 32 then s.safLog 7 0xFF 0
  else
    match (List.range 16).find? (fun c => rd (s.dg (Obj.sconnCfg c)) 2 1 == 1 && rd (s.dg (Obj.sconnCfg c)) 0 2 == rd m 0 2) with
    | some c => s.safCopy c path (rd m 0 2) (s.netKey c) m
    | none => s.safLog 1 0xFF (rd m 4 4)

/-! ### Unexpected and lifted CURTAINs -/

/-- A /C/ that R96 classes as CURTAIN_UNEXP on port n (R353). -/
def safUnexp (n : Nat) (s : State) : State :=
  if s.activeHead then
    (s.safSet fun w => { w with unexp := setBit w.unexp n, unexpAt := Kv.put (fun _ => 0) n s.tm.tb2 w.unexpAt }).safUpdate 0
  else if s.understudy then s.safUnexpUp n
  else s

/-- CURTAIN_LIFT of ring p to a destination, from both ends of the ring. -/
def sendLift (p dst l : Nat) (s : State) : State :=
  let s1 := s.sendRing p true 7 6 0 dst 0 s.tm.cue (leBytes 4 l)
  if s1.farReachable p then s1.sendRing p false 7 6 0 dst 0 s1.tm.cue (leBytes 4 l) else s1

/-- The lift CUE a ring awaits. -/
def liftOf (s : State) (p : Nat) : Option Nat := Kv.get (fun _ => none) s.saf.lift p

/-- A lift to each cell of ring p whose present report shows CURT (R351). -/
def liftCells (p : Nat) (s : State) : State :=
  (ringSlots p).foldl (fun s n =>
    let c := s.cellRec n
    match c.last with
    | some r =>
      if c.st = .admitted ∧ c.have_ ∧ !s.fenced n ∧ hasBit r.rstat 12 then
        s.sendLift p (caddrOf (s.og Obj.pairId) p (n % 96 + 1)) ((s.tm.cue + Kv.get (fun _ => 2) s.saf.lead p) % 2 ^ 32)
      else s
    | none => s) s

/-- The lifts of one CUE (R351): of each ring whose L still lies ahead, the ring's lift again; of a ring that awaits none and is
not held, the lifts cell by cell. -/
def liftsOfCue (s : State) : State :=
  if !s.activeHead then s
  else
    s.ringPorts.foldl (fun s p =>
      let waits := match s.liftOf p with | some l => cueAfter l s.tm.cue | none => false
      if waits then s.sendLift p (s.ringCast p) ((s.liftOf p).getD 0)
      else
        let s1 := if (s.liftOf p).isNone then s else s.safSet fun w => { w with lift := Kv.put (fun _ => none) p none w.lift }
        if (s1.ringRec p).curtain then s1 else s1.liftCells p) s

/-! ### Test injection (R376 to R378) -/

/-- A test point exists: a pair's channel, an output, a function, a connection, the net. -/
def safPointOk (s : State) (point index : Nat) : Bool :=
  match point with
  | 1 => decide (index < 8) && (let ty := s.og (Obj.pairType (index / 2)); ty == 1 || ty == 2)
  | 2 => decide (index < 4)
  | 3 => if s.isHead then decide (index < 2) else index == 2
  | 4 | 5 => decide (index < 16)
  | 6 => true
  | _ => false

/-- The point's live diagnostic shows a failure. -/
def safPointFails (s : State) (point index : Nat) : Bool :=
  match point with
  | 1 => (s.siPair (index / 2)).fail
  | 2 => (s.soRec index).fault
  | 3 => (s.measRec index).fail
  | 4 | 5 => let r := s.sconn index; r.st == 2 || r.lostA || r.lostB
  | _ => s.saf.netFail

def applySafeTest (d : Bytes) (s : State) : Except Nat State :=
  let point := rd d 0 1
  let index := rd d 1 1
  let span := rd d 2 2
  if span = 0 ∨ 1000 < span ∨ rd d 4 4 ≠ 0 ∨ !s.safPointOk point index then .error 5
  else if s.saf.test.isSome ∨ s.saf.st ≠ .run ∨ s.safPointFails point index then .error 6
  else
    .ok ((s.dset Obj.safeTest d).safSet fun w =>
      { w with
               result := 1,
               test := some { point := point, index := index, span := span, at2 := s.tm.tb2, det := none,
                              pair := s.siPair (index / 2), meas := s.measRec index, so := s.soRec index, miss := 0, disc := none } })

/-- Expected detection time of a test in ns (Table 13-10); none for those that count results or messages. -/
def safExpect (s : State) (t : SafTest) : Option Nat :=
  match t.point with
  | 1 => some (s.og (Obj.siFlt (t.index / 2)) * 10000)
  | 2 => some (s.og (Obj.soTpPeriod t.index) * 1000000)
  | _ => none

/-- The test plane of an input pair reaches DISC_N in time (Table 13-10). -/
def safDiscOk (s : State) (t : SafTest) : Bool :=
  let p := t.index / 2
  t.point != 1 || (match t.disc with
    | some d => decide (d ≤ t.at2 + (s.og (Obj.siFlt p) + s.og (Obj.discT p) - 1) * 10000)
    | none => false)

/-- The test plane still detects the injected fault. -/
def safStill (s : State) (t : SafTest) : Bool :=
  match t.point with
  | 1 => t.pair.f1 != (s.siPair (t.index / 2)).f1 || t.pair.f2 != (s.siPair (t.index / 2)).f2
  | 2 => decide (2 ≤ t.so.highs) && !decide (2 ≤ (s.soRec t.index).highs)
  | 3 => let n := max 1 (rd (s.measCfg t.index) 2 1); decide (n ≤ t.meas.diff) && decide ((s.measRec t.index).diff < n)
  | 4 | 5 => decide (8 ≤ t.miss)
  | _ => t.miss != 0

/-- The test window ends, SPAN + 10 ms after the start: PASS or FAIL (R376, R378). -/
def safTestEnd (t : SafTest) (s : State) : State :=
  let s0 := s.toTb2 (t.at2 + (t.span + 10) * 1000000)
  let ok := (match t.det with
    | some d => (match s0.safExpect t with | some e => decide (d ≤ t.at2 + e) | none => true)
    | none => false) && s0.safDiscOk t && !s0.safStill t
  let us := match t.det with | some d => (d - t.at2) / 1000 | none => 0
  let res := if ok then 2 else 3
  let s1 := s0.safSet fun w =>
    { w with
             test := none, result := res,
             tlog := (w.tlog ++ [(s0.tm.tb2, t.point, t.index, res, us)]).drop (w.tlog.length - 15) }
  let s2 := s1.safIrq 6
  if ok then s2 else ((s2.pulse 8 t.point).diagStop).safUpdate 0

end State

end Sys2Proof.Machine
end

