-- ==== Sys2Proof/Machine/XlOps.lean ====
section
/-! DEFINITION. The cross-links' shared operations: bring-up (R120 to R125), lanes (R138 to R141), reception (R126, R127,
R142), the standing a HELLO settles (R37, R402), the CURTAIN sets (R130 to R133, R354), peer exchange (R39, R128, R244). -/

namespace Sys2Proof.Machine

/-- Codes of TB0_STATE (Table 02-8). -/
def tbCode : TbState → Nat
  | .unsync => 0
  | .acquire => 1
  | .locked => 2
  | .holdover => 3
  | .lost => 4

/-- Types Table 04-3 lists, and those that travel on XL0 only. -/
def xlKnown (t : Nat) : Bool := [0x01, 0x02, 0x03, 0x10, 0x11, 0x12, 0x20, 0x21, 0x30, 0x40].contains t
def xlPairOnly (t : Nat) : Bool := [0x02, 0x10, 0x11, 0x12, 0x20, 0x21, 0x30].contains t
/-- Relay types: CHAN is a ring port. -/
def xlRelay (t : Nat) : Bool := [0x10, 0x11, 0x12].contains t

/-- What reception of a cross-link frame leaves. -/
structure XlRx where
  ty : Nat
  chan : Nat
  pl : Bytes
  xcrc : Bool
  act : Bool
  st : State

namespace State

/-! ### Registers and bring-up -/

/-- Offset of a register in a link's window. -/
def xlReg (l off : Nat) : Nat := Blk.xl + 0x100 * l + off
def xlEn (s : State) (l : Nat) : Bool := hasBit (s.rg (xlReg l 0)) 0
def xlTestOn (s : State) (l : Nat) : Bool := hasBit (s.rg (xlReg l 0)) 1
def xlManual (s : State) (l : Nat) : Bool := hasBit (s.rg (xlReg l 0)) 4
/-- Lanes permitted (LANE_EN). -/
def xlLaneEn (s : State) (l : Nat) : Nat := fld (s.rg (xlReg l 0)) 6 5

/-- Both lanes of a link sent idle, or given training. -/
def xlLanes (l : Nat) (silent : Bool) (s : State) : State := (s.emit (.xlTrain l 0 silent)).emit (.xlTrain l 1 silent)

/-- A link at rest, its sequence count, eyes and injector kept. -/
def xlBlank (k : XlLink) (st : XlState) (silent now : Nat) : XlLink :=
  { XlLink.reset with
    st := st, silent := silent, silentAt := now, xseqTx := k.xseqTx, injA := k.injA, injB := k.injB, curtAt := k.curtAt,
    curtMask := k.curtMask, eyeA := k.eyeA, eyeB := k.eyeB }

/-- A link enters CLOCK (Table 04-1): clock and training, unless the lanes stay silent for a time first. -/
def xlToClock (l silent : Nat) (s : State) : State :=
  (s.setXl l (xlBlank (s.xlink l) .clock silent s.tm.tb2)).xlLanes l (silent != 0)

/-- The silence of a link's lanes ends, 1 ms after failed alignment and 100 µs after a link down: clock and training again
(Table 04-1). -/
def xlSilenceEnd (l : Nat) (s : State) : State :=
  let k := s.xlink l
  if k.silent = 0 then s
  else
    let s1 := s.toTb2 (k.silentAt + (if k.silent = 1 then 1000000 else 100000))
    (s1.setXl l { s1.xlink l with silent := 0 }).xlLanes l false

/-! ### Alignment (R123) -/

/-- The longest run of good taps among 0 to 31, as its lowest tap and its length; the lowest of equal runs. DESIGN CHOICE
(notes/assumptions/47.md): the procedure does not say which of equal runs it takes. -/
def eyeRun (errs : List Nat) : Nat × Nat :=
  ((List.range 32).foldl (fun (a : (Nat × Nat) × Nat) t =>
    let n := if errs.getD t 1 = 0 then a.2 + 1 else 0
    (if a.1.2 < n then (t + 1 - n, n) else a.1, n)) ((0, 0), 0)).1

/-- The alignment procedure over an eye: DLY, SLIP, and whether it succeeds. -/
def alignLane (eye : List Nat × Nat) : Nat × Nat × Bool :=
  let r := eyeRun eye.1
  let hi := r.1 + r.2 - 1
  if r.2 = 0 ∨ hi < r.1 + 6 then (31, 0, false)
  else
    match (List.range 10).find? (fun i => hasBit eye.2 i) with
    | some i => ((r.1 + hi) / 2, i, true)
    | none => ((r.1 + hi) / 2, 9, false)

/-- The lane registers follow DLY and SLIP over the lane's eye while it receives training (R123): TRN_ERR counts the windows
that differ at the tap, COMMA_OK shows the word boundary. -/
def laneSampled (l lane : Nat) (s : State) : State :=
  let k := s.xlink l
  let c := s.rg (xlReg l (0x10 + 4 * lane))
  let a := xlReg l (0x18 + 4 * lane)
  let eye := if lane = 0 then k.eyeA else k.eyeB
  (s.rset a (min 255 (s.rg a + eye.1.getD (fld c 4 0) 1))).setXl l { k with comma := putBit k.comma lane (hasBit eye.2 (fld c 11 8)) }

/-- A lane receives training: in ALIGN, and after it while the lane is out of the receive mask (R124, R138, R141). -/
def xlTraining (l lane : Nat) (s : State) : Bool :=
  let k := s.xlink l
  k.st == .align || ((s.xlUp l || k.st == .hello) && !hasBit k.rx lane)

/-- XL_LSTATn as it reads: TRN_ERR, LOCK, and COMMA_OK, which training alone holds (R123). -/
def xlLstat (l lane : Nat) (s : State) : Nat :=
  let k := s.xlink l
  s.rg (xlReg l (0x18 + 4 * lane)) % 256 + b2n (hasBit k.lock lane) * 256
    + b2n (s.xlTraining l lane && hasBit k.comma lane) * 512

/-- A link whose EN is 1 and TEST is 0 leaves OFF. -/
def startXl (l : Nat) (s : State) : State :=
  if s.headOn ∧ (s.xlink l).st = .off ∧ s.xlEn l ∧ !s.xlTestOn l then s.xlToClock l 0 else s
def startXls (s : State) : State := [0, 1, 2].foldl (fun s l => s.startXl l) s
/-- Cross-link lanes idle. -/
def stopXls (s : State) : State := [0, 1, 2].foldl (fun s l => s.setXl l (xlBlank (s.xlink l) .off 0 s.tm.tb2)) s

/-- Send /L/ with the receive good-lane mask (R121). -/
def xlSendL (l mask : Nat) (s : State) : State := ((s.xlPump l).xlMark l 2).emit (.xlLanes l mask)

/-- The HELLO payload (Table 04-3). -/
def standCode : Standing → Nat
  | .waiting => 0
  | .active => 1
  | .understudy => 2
  | .conflict => 3
def helloPl (s : State) (l : Nat) : Bytes :=
  leBytes 1 (s.og Obj.headStanding) ++ leBytes 1 (standCode s.pw.standing) ++ leBytes 1 (s.og Obj.pairId) ++ leBytes 1 l ++
    leBytes 8 Config.unitSerial.toNat ++ leBytes 1 (s.xlink l).rx ++ zeros 3
def xlHello (l : Nat) (s : State) : State := s.xlSend l 0x01 0 (s.helloPl l)

/-- A lane counts as done in ALIGN: aligned, failed twice, or not permitted. -/
def laneDone (s : State) (l lane : Nat) : Bool :=
  let k := s.xlink l
  hasBit k.rx lane || decide (2 ≤ (if lane = 0 then k.failA else k.failB)) || !hasBit (s.xlLaneEn l) lane

/-- ALIGN ends when both lanes are done (Table 04-1). -/
def alignCheck (l : Nat) (s : State) : State :=
  let k := s.xlink l
  if s.laneDone l 0 ∧ s.laneDone l 1 then
    if k.rx = 0 then s.xlToClock l 1
    else (((s.setXl l { k with st := .hello, hellos := 0, heard := false }).xlSendL l k.rx).xlHello l)
  else s

/-- M lines all marked at pair-up (R395). -/
def allLines : List Nat := List.range 1024

/-- XL0 has come up: a pair-up for both parts (R395, R398, R404). -/
def pairUp (s : State) : State :=
  (s.release 50 0).pairSet fun w => { w with
    mlines := [], marked := allLines, mHeld := [], mSynced := false, mWhole := false, slowIn := none, slowParts := [], slow := none,
    fastIn := [], lateCue := some s.tm.cue, healthMiss := 0, restore := 0, diffSeen := false, slice := 0 }

/-- A link in HELLO comes up on three HELLO frames and the partner's /L/, unless PAIR_WIRING keeps it (R124, R125). A CURTAIN
that stands is sent on it at once (R131, R354). -/
def xlTryUp (l : Nat) (s : State) : State :=
  let k := s.xlink l
  match k.lmask with
  | some m =>
    let tx := m &&& s.xlLaneEn l
    if k.st = .hello ∧ 3 ≤ k.hellos ∧ !k.wiring ∧ tx ≠ 0 then
      let s0 := s.tmSet fun t => { t with
        probes := Kv.put (fun _ => []) (12 + l) [] t.probes, probeIn := Kv.put (fun _ => (0, 0)) (12 + l) (0, 0) t.probeIn }
      let s1 := (s0.setXl l { k with tx := tx, st := if tx = 3 ∧ k.rx = 3 then .up2 else .up1 }).xlEvt l 1
      let s2 := s1.sendCurtainSet l
      if l = 0 then s2.pairUp else s2
    else s
  | none => s

/-- A link that was up goes down (Table 04-1); a loss of XL0 at the active HEAD raises source 50 (R404). -/
def xlDown (l : Nat) (next : State → State) (s : State) : State :=
  if s.xlUp l then
    let was := l == 0 && s.activeHead
    let s1 := next (s.xlEvt l 0)
    if was then s1.raise 50 0 else s1
  else next s

/-! ### Lanes -/

/-- State of a link in service by its masks; a rejoined lane counts once the partner uses it (R141). -/
def xlWidthSt (k : XlLink) : XlState :=
  if k.st = .up2 ∨ k.st = .up1 then (if k.tx = 3 ∧ k.rx = 3 ∧ !k.rxWait then .up2 else .up1) else k.st

/-- A REL_DN that carries a SHEET frame of the current CUE: the one its computation sends for the next CUE (R100, R139). -/
def sheetNow (s : State) (x : XlItem) : Bool := x.ty == 0x10 && rd x.pl 0 1 == 0x10 && rd x.pl 12 4 == inc 32 s.tm.cue

/-- The transmitter leaves a lane (R138, R139, R141): the frame in progress ends with /E/, and a SHEET relay of the present
CUE among them waits again behind the SHEET frames not yet started; the lane is given training. -/
def xlTxDrop (l lane : Nat) (s0 : State) : State :=
  let s := s0.xlPump l
  let k := s.xlink l
  let a := xlLane k lane
  let k1 := setXlLane { k with tx := clrBit k.tx lane } lane .reset
  let cut := if s.now12 < a.busy then a.cur else none
  let again := match cut with
    | some x => if s.sheetNow x ∧ x.only.isNone then [{ x with at12 := s.now12, lead := false }] else []
    | none => []
  let kept := k1.txq.filter (fun x => decide (x.only ≠ some lane))
  let s1 := s.setXl l { k1 with st := xlWidthSt k1, txq := if k1.tx = 0 then [] else kept ++ again }
  let s2 := if cut.isNone then s1 else (s1.emit (.xlAbort l lane)).bump (Obj.xlLost l)
  (s2.emit (.xlTrain l lane false)).xlPump l

/-- A /L/ symbol with the partner's receive mask is received (R121, R138, R141). -/
def xlTakeL (l mask : Nat) (s : State) : State :=
  let k := s.xlink l
  let s1 := s.setXl l { k with lmask := some mask }
  if k.st = .hello then s1.xlTryUp l
  else if s1.xlUp l then
    let m := mask &&& s1.xlLaneEn l
    let s2 := [0, 1].foldl (fun s n => if hasBit k.tx n && !hasBit m n then s.xlTxDrop l n else s) s1
    let k2 := s2.xlink l
    if k2.tx = 0 then s2.xlDown l (fun s => s.xlToClock l 2)
    else s2.setXl l { k2 with txNext := if andNot m k2.tx ≠ 0 then some m else none }
  else s1

/-- At a CUE start the lanes a rejoin /L/ named are used again, and the rejoin counts run (R141). -/
def xlCueStart (l : Nat) (s : State) : State :=
  let k := s.xlink l
  if !s.xlUp l ∧ k.st ≠ .hello then s
  else
    let tx := match k.txNext with | some m => k.tx ||| m | none => k.tx
    let step (lane : Nat) (n : Option Nat) : Option Nat :=
      n.map (fun c => if hasBit k.lock lane ∧ s.rg (xlReg l (0x18 + 4 * lane)) = 0 then c + 1 else 0)
    let k1 := { k with tx := tx, txNext := none, rejoinA := step 0 k.rejoinA, rejoinB := step 1 k.rejoinB, rxWait := false }
    s.setXl l { k1 with st := xlWidthSt k1 }

/-! ### Reception -/

/-- A relayed SHEET frame that an UNDERSTUDY has begun to send out of a ring port is cut: it ends with /E/ (R134, R138,
R142). `f` is what arrived of the cross-link frame. -/
def relCut (l : Nat) (f : Bytes) (s : State) : State :=
  let p := rd f 1 1
  let g := f.drop 8
  if l = 0 ∧ s.understudy ∧ 8 ≤ f.length ∧ rd f 6 2 = crc32 (f.take 6) % 65536 ∧ rd f 0 1 = 0x10 ∧ !g.isEmpty ∧ rd g 0 1 = 0x10 ∧
      s.portUp p then
    s.forwardBad p (g.take 1572)
  else s

/-- What is lost with a receive lane (R138): the loss is logged, the frame in progress, `frame` so far as it has arrived
(empty: none), is discarded and counted in XL_LOST, a ring frame relayed from it ends with /E/; source 49 of XL0. -/
def xlLaneCut (l lane : Nat) (frame : Bytes) (s : State) : State :=
  let s1 := (s.xlLog l lane 0x0B 0).xlEvt l 2
  let s2 := if frame.isEmpty then s1 else (s1.relCut l frame).bump (Obj.xlLost l)
  if l = 0 then s2.raise 49 lane else s2

/-- Reception of a frame on a lane of a link in HELLO, UP2 or UP1 (R126, R127, R142). A code error outside a frame comes with
no bytes and is counted only. DESIGN CHOICE (notes/assumptions/47.md): a frame cut by a nested /S/ is a LEN_ERR, its /T/ being
misplaced; one shorter than its header is an HCHK_ERR. DESIGN CHOICE (notes/assumptions/60.md): a relay to the active HEAD is
CHAN_BAD when CHAN names no ring of the ring mode, whatever the state of the HEAD's own port CHAN. -/
def rxXl (l lane : Nat) (f : Bytes) (e : FrameEnd) (s : State) : XlRx :=
  let ty := rd f 0 1
  let seq := rd f 4 2
  let d := vdetail ty seq
  let no (t : State) : XlRx := { ty := ty, chan := 0, pl := [], xcrc := false, act := false, st := t }
  let k := s.xlink l
  if !s.headOn || !(decide (l < 3)) || !(s.xlUp l || k.st == .hello) then no s
  else
    match e with
    | .codeErr => no (if f.isEmpty then s.bump (Obj.xlViol 0 l) else (s.relCut l f).xlLog l lane 1 d)
    | .abort => no (s.relCut l f)
    | .nested => no ((s.relCut l f).xlLog l lane 4 d)
    | .whole =>
      if f.length < 8 ∨ rd f 6 2 ≠ crc32 (f.take 6) % 65536 then no (s.xlLog l lane 2 d)
      else
        let n := rd f 2 2
        let lim := if ty = 0x10 then 1572 else 1024
        if lim < n ∨ f.length ≠ 12 + n then no ((s.relCut l f).xlLog l lane 4 d)
        else
          let gap := k.xseqRx != 0 && k.xseqRx % 65536 != seq
          let s1 := s.setXl l { k with xseqRx := seq + 1 }
          let s2 := if gap then s1.xlLog l lane 6 d else s1
          if !xlKnown ty then no (s2.xlLog l lane 5 d)
          else if xlPairOnly ty ∧ l ≠ 0 then no (s2.xlLog l lane 8 d)
          else if xlRelay ty ∧ !(s2.portUp (rd f 1 1) ∨ (s2.activeHead ∧ s2.namesRing (rd f 1 1))) then
            no (s2.xlLog l lane 9 d)
          else
            let pl := slice f 8 n
            let ok := rd f (8 + n) 4 == crc32 pl
            { ty := ty, chan := rd f 1 1, pl := pl, xcrc := ok, act := ok || ty == 0x10,
              st := if ok then s2 else s2.xlLog l lane 3 d }

/-- Reception by a command that names one TYPE. -/
def rxXlTyped (l lane : Nat) (f : Bytes) (e : FrameEnd) (ty : Nat) (h : XlRx → State → State) (s : State) : State :=
  let r := s.rxXl l lane f e
  if r.act ∧ r.ty = ty then h r r.st else r.st

/-! ### Health and the takeover log (R397, R398, Tables 14-7 and 14-12) -/

/-- Ring ports in UP, bits 0 to 11. -/
def portsUpMask (s : State) : Nat := packBits ((List.range 12).map (s.portUp ·))
/-- Every ring port of an admitted ring is in a mask of ports. -/
def ringPortsIn (s : State) (mask : Nat) : Bool :=
  (List.range 12).all (fun p => !(s.ringRec (s.ringOfPort p)).admitted || hasBit mask p)

/-- REASONS of an UNDERSTUDY (Table 14-7). The mirror queue never overflows: a full one refuses writes (R394), so bit 7 is 0. -/
def unfitReasons (s : State) : Nat :=
  let w := s.pair
  packBits [w.fast.isNone || decide (s.og Obj.snapAgeMax < subMod 32 s.tm.cue w.fastCue), w.slow.isNone, !w.mSynced,
    s.tm.tb0State != .locked, !w.testBad.isEmpty, w.diffSeen, !s.ringPortsIn s.portsUpMask]
/-- REASONS as this HEAD knows them: its own on an UNDERSTUDY, the partner's last on an active HEAD. -/
def reasonsNow (s : State) : Nat := if s.understudy then s.unfitReasons else rd s.pair.health 6 2

/-- Source 53 with an instance, and its TAKEOVER_LOG entry for CUE d. -/
def takeoverNote (inst reasons d : Nat) (s : State) : State :=
  let e := leBytes 8 s.tm.tb2 ++ leBytes 4 d ++ leBytes 1 inst ++ leBytes 1 reasons ++ zeros 2
  let l := s.dg Obj.takeoverLog ++ e
  (s.pulse 53 inst).dset Obj.takeoverLog (l.drop (l.length - 256))

/-! ### The state of TB0 -/

/-- TB0_STATE changes: source 3 of group 0. -/
def setTb0State (x : TbState) (s : State) : State :=
  let s1 := s.tmSet fun t => { t with tb0State := x }
  let s2 := s1.oset Obj.tb0State (tbCode x)
  if x = s.tm.tb0State then s2 else s2.irqPost 0 3

/-! ### Standing (R36, R37, R402) -/

/-- The fences copied before a fault-collector reset apply only if the part is again ACTIVE (R389). -/
def aonFences (x : Standing) (s : State) : State :=
  match s.flt.aon with
  | some a =>
    if x = .active then s.fltSet fun f => { f with fence := a.fence, byp := a.byp, aon := none }
    else s.fltSet fun f => { f with aon := none }
  | none => s

/-- STANDING_NOW becomes ACTIVE or UNDERSTUDY: the token is FREE (Table 16-8), ring ports come up; an active HEAD's TB0_STATE
reads LOCKED (R67), and it takes the fences carried over a fault-collector reset (R389). -/
def takeStanding (x : Standing) (s : State) : State :=
  let s1 := s.pwSet fun w => { w with standing := x, standingConflict := false }
  let s2 := if x = .active then s1.setTb0State .locked
    else (s1.tmSet fun t => { t with cueKnown := false, mark := none }).pairSet fun w => { w with tookOver := true }
  (((s2.oset Obj.standingNow (standCode x)).tokenReset.release 43 0).irqPost 23 0).startPorts.aonFences x

/-- STANDING_NOW becomes CONFLICT: ring ports stay idle. -/
def conflictStanding (flag mismatch : Bool) (s : State) : State :=
  let s1 := s.pwSet fun w => { w with standing := .conflict, standingConflict := flag }
  let s2 := (s1.oset Obj.standingNow 3).irqPost 23 0
  if mismatch then s2.raise 43 0 else s2

/-- The row of Table 01-6 that holds, R402 tested before every row: the standing it gives, and STANDING_CONFLICT, mismatch
and source 53 of it. -/
def standingRow (s : State) : Option (Standing × Bool × Bool × Bool) :=
  let stored := s.og Obj.headStanding
  let k := s.xlink 0
  let pair := k.peer / 16777216 % 256
  let pStored := k.peer / 65536 % 256
  let pNow := k.peer / 256 % 256
  let same := pair == s.og Obj.pairId
  if k.heard ∧ pNow = 1 ∧ same then some (.understudy, false, false, true)
  else if s.pw.ringMode = 2 ∨ s.pw.ringMode = 3 then
    (if stored = 1 then some (.active, false, false, false) else some (.conflict, true, false, false))
  else if !k.heard then none
  else if !same then some (.conflict, false, true, false)
  else if stored = 1 ∧ pStored = 2 then some (.active, false, false, false)
  else if stored = 2 ∧ pStored = 1 then some (.understudy, false, false, false)
  else if stored = 1 ∧ pStored = 1 then
    (if Config.unitSerial.toNat < k.serial then some (.active, false, false, false) else some (.conflict, true, false, false))
  else some (.conflict, true, false, false)

/-- The standing settles from WAITING; from CONFLICT only into ACTIVE or UNDERSTUDY, after a host write (Table 01-6). -/
def settle (s : State) : State :=
  if !s.headOn then s
  else
    match s.standingRow with
    | none => s
    | some (x, c, m, d) =>
      if s.pw.standing = .waiting ∨ (s.pw.standing = .conflict ∧ (x = .active ∨ x = .understudy)) then
        if x = .conflict then s.conflictStanding c m
        else
          let s1 := s.takeStanding x
          if d then s1.takeoverNote 3 0 s1.tm.cue else s1
      else s

/-- The HELLO fields of the partner are taken (R125). -/
def takeHello (l : Nat) (pl : Bytes) (s : State) : State :=
  let k := s.xlink l
  let peer := rd pl 2 1 * 16777216 + rd pl 0 1 * 65536 + rd pl 1 1 * 256 + rd pl 3 1
  let wiring := l != 0 && rd pl 2 1 == s.og Obj.pairId
  let s1 := s.setXl l { k with peer := peer, serial := rd pl 4 8, heard := true, hellos := k.hellos + 1, wiring := wiring }
  let s2 := (s1.oset (Obj.xlPeer l) peer).oset (Obj.xlPeerSerial l) (rd pl 4 8)
  let s3 := if wiring then (s2.xlLog l 15 0x0A 0).raise 39 (16 + l) else s2.release 39 (16 + l)
  let s4 := s3.xlTryUp l
  if l = 0 ∧ s4.pw.standing = .waiting ∧ s4.xlUp 0 then s4.settle else s4

/-! ### CURTAIN sets -/

/-- The mask of a received set: a set whose inverse bytes do not match is mask 0xFFF and CURT_BAD (R133). -/
def curtSet (l lane : Nat) (set : Bytes) (s : State) : Nat × State :=
  let ok := set.length == 4 && rd set 2 1 == 255 - rd set 0 1 && rd set 3 1 == 255 - rd set 1 1
  let m := if ok then rd set 0 1 + rd set 1 1 % 16 * 256 else 0xFFF
  let s1 := if ok then s else s.xlLog l lane 7 0
  (m, (s1.setXl l { s1.xlink l with curtAt := some s1.tm.tb2, curtMask := m }).xlEvt l 4)

/-! ### Peers -/

def peerRec (s : State) (p : Nat) : PeerRec := Kv.get (fun _ => PeerRec.reset) s.xl.peers p
def setPeer (s : State) (p : Nat) (v : PeerRec) : State :=
  { s with xl := { s.xl with peers := Kv.put (fun _ => PeerRec.reset) p v s.xl.peers } }

/-- The links a PEER frame that arrived on link l is forwarded out of (R39). -/
def peerOut (s : State) (l : Nat) : List Nat :=
  let across := if l = 1 then [2] else if l = 2 then [1] else []
  if s.understudy then (if l = 0 then [1, 2] else across ++ [0]) else across

/-- A PEER frame is taken and forwarded (R39, R128, R244): the first copy per source and CUE count. A HEAD drops its own
frames; an UNDERSTUDY forwards those of its active HEAD and takes no value from them. -/
def takePeer (l : Nat) (pl : Bytes) (s : State) : State :=
  let p := rd pl 0 1 % 16
  let own := p == s.og Obj.pairId
  if pl.length ≠ 48 ∨ (own ∧ !s.understudy) then s
  else
    let cue := rd pl 4 4
    let r := s.peerRec p
    let out := s.peerOut l
    let fwd := !r.fwd.contains cue && !out.isEmpty
    let r1 := if fwd then { r with fwd := (cue :: r.fwd).take 16 } else r
    let r2 := if own ∨ r1.taken.contains cue then r1
      else { r1 with
                     cue := cue, flags := rd pl 1 1, a := (List.range 5).map (fun i => rd pl (8 + 4 * i) 4),
                     b := (List.range 5).map (fun i => rd pl (28 + 4 * i) 4), at0 := s.tm.tb0, missing := 0, fresh := true,
                     taken := (cue :: r1.taken).take 16 }
    let s1 := if own then s.setPeer p r2 else (s.setPeer p r2).release 54 p
    if fwd then out.foldl (fun s q => if s.xlUp q then s.xlSend q 0x40 0 pl else s) s1 else s1

/-- Source 54 at a CUE start: no frame of a pair seen since link-up in 16 consecutive CUEs. -/
def peerCueStart (s : State) : State :=
  if !s.headOn then s
  else
    s.xl.peers.foldl (fun s e =>
      if e.1 = s.og Obj.pairId then s else
      let r := s.peerRec e.1
      let n := if r.fresh then 0 else min 16 (r.missing + 1)
      (s.setPeer e.1 { r with fresh := false, missing := n }).raiseIf (n == 16) 54 e.1) s

end State

end Sys2Proof.Machine
end

