-- ==== Sys2Proof/Machine/TimeOps.lean ====
section
/-! DEFINITION. The time bases' shared operations: steps, hop delays, the servo states of TB0 and TB1, PTP, SYNC, time
events, edge queues (R46, R49, R63 to R81). -/

namespace Sys2Proof.Machine

/-- Codes of SYNC_STATE (Table 02-8). -/
def syncCode : SyncState → Nat
  | .off => 0
  | .acquire => 1
  | .track => 2
  | .free => 3

/-- A 64-bit count a has reached b. -/
def reached (a b : Nat) : Bool := decide (subMod 64 a b < 2 ^ 63)

namespace State

/-! ### Steps of a time base -/

def tevt (s : State) (n : Nat) : Tevt := Kv.get (fun _ => { late := false, stepped := false, done := false }) s.tm.tevts n
def setTevt (s : State) (n : Nat) (v : Tevt) : State :=
  s.tmSet fun t => { t with tevts := Kv.put (fun _ => { late := false, stepped := false, done := false }) n v t.tevts }

/-- An edge entry of the PWM cycle in which TB0 or TB1 steps takes the value after the step and its step flag, also where the
edge has come first (R81). -/
def edgeStepped (n old new_ tb2 : Nat) (e : EdgeEntry) : EdgeEntry :=
  let moved (x : Nat) : Nat := subMod 64 ((x + new_) % 2 ^ 64) old
  if e.tb2 / 2 ≠ tb2 / 2 then e
  else { e with tb0 := if n = 0 then moved e.tb0 else e.tb0, tb1 := if n = 1 then moved e.tb1 else e.tb1,
                flags := setBit e.flags 3 }

/-- The instant a time event compares with: COMPARE, or COMPARE units after the CUE start in mode 0x03. -/
def tevtAt (s : State) (n : Nat) : Nat :=
  let c := s.og (Obj.tevtCompare n)
  if s.og (Obj.tevtMode n) = 3 then (s.tm.cueStart + c) % 2 ^ 64 else c
/-- The time base it compares (TB0 in mode 0x03). -/
def tevtSel (s : State) (n : Nat) : Nat := if s.og (Obj.tevtMode n) = 3 then 0 else s.og (Obj.tevtTbSel n) % 4

/-- Time base n steps from `old` to `new_`: delayed items, time events it passes over and edge entries of its PWM cycle see it
(R80, R81, R431). The write of TB3 takes effect at the next PWM cycle, which edge entries then note (R75, R81). -/
def noteTbStep (n old new_ : Nat) (s : State) : State :=
  let mark (l : List EdgeEntry) : List EdgeEntry := if n = 3 then l else l.map (edgeStepped n old new_ s.tm.tb2)
  let s1 := (s.noteStep n old new_).tmSet fun t =>
    { t with stepAt := if n = 3 then t.stepAt else some t.tb2, edges0 := mark t.edges0, edges1 := mark t.edges1,
             edges2 := mark t.edges2 }
  if !reached new_ old then s1
  else
    (List.range 8).foldl (fun s i =>
      let c := s.tevtAt i
      let m := s.og (Obj.tevtMode i)
      if s.tevtSel i = n ∧ 1 ≤ m ∧ m ≤ 3 ∧ s.og (Obj.tevtArm i) = 1 ∧ !(s.tevt i).done ∧ !reached old c ∧ reached new_ c then
        s.setTevt i { s.tevt i with stepped := true }
      else s) s1

/-- TB1_STATE changes: source 4 of group 0. -/
def setTb1State (x : TbState) (s : State) : State :=
  let s1 := s.tmSet fun t => { t with tb1State := x }
  let s2 := s1.oset Obj.tb1State (tbCode x)
  let s3 := if x = .locked then s2 else (s2.ncoTb1Lost 0).ncoTb1Lost 1
  if x = s.tm.tb1State then s3 else s3.irqPost 0 4
/-- SYNC_STATE changes: source 2 of group 0. -/
def setSync (x : SyncState) (s : State) : State :=
  let s1 := s.tmSet fun t => { t with sync := x }
  let s2 := s1.oset Obj.syncState (syncCode x)
  if x = s.tm.sync then s2 else s2.irqPost 0 2

/-! ### Hop delays (R63) -/

/-- d_in of a port in ps, the mean of the newest DELAY_AVG exchanges held; 12 + l for cross-link l. -/
def dIn (s : State) (k : Nat) : Rat :=
  let l := (Kv.get (fun _ => []) s.tm.probes k).take (s.og Obj.delayAvg)
  if l.isEmpty then 0 else (l.foldl (· + ·) 0 : Int) / ((2 * l.length : Nat) : Rat)

/-- A probe arrives: its stamps t3, t2, t1 and its arrival stamp t4. As many exchanges are held as the largest DELAY_AVG
takes, so that a raise of it finds those completed since UP. -/
def takeProbe (k : Nat) (pl : Bytes) (t4 : Nat) (s : State) : State :=
  let t3 := rd pl 0 8
  let t2 := rd pl 8 8
  let t1 := rd pl 16 8
  let s1 := s.tmSet fun t => { t with probeIn := Kv.put (fun _ => (0, 0)) k (t4, t3) t.probeIn }
  if t1 = 0 ∧ t2 = 0 then s1
  else
    let asym : Int := if k < 12 then s.oi 32 (Obj.portAsym k) else 0
    let d := (since t4 t1 - since t3 t2) * 125 + asym
    let l := (d :: Kv.get (fun _ => []) s1.tm.probes k).take 128
    let s2 := s1.tmSet fun t => { t with probes := Kv.put (fun _ => []) k l t.probes }
    if k < 12 then s2.oset (Obj.hopDelay k) (satI 0 0xFFFFFFFF (roundAway (s2.dIn k))).toNat else s2

/-- The probe a port sends (Table 03-6); its own stamp is set as it leaves (R98). -/
def probePl (s : State) (k : Nat) : Bytes :=
  let a := Kv.get (fun _ => (0, 0)) s.tm.probeIn k
  leBytes 8 s.tm.tb0 ++ leBytes 8 a.1 ++ leBytes 8 a.2
/-- The time frame a ring end sends (R64): the origin is set as it leaves (R98). -/
def timePl (s : State) : Bytes := leBytes 8 s.tm.tb0 ++ zeros 8
/-- This HEAD originates time frames: the active one, and an UNDERSTUDY while LOCKED or HOLDOVER (R65, R404). -/
def sendsTime (s : State) : Bool :=
  s.activeHead || (s.understudy && (s.tm.tb0State == .locked || s.tm.tb0State == .holdover))

/-- TIME and PROBE of a ring port in the present CUE (Table 03-9, rank 6), once the ring runs at its operating rate (R89); one
that has not left in its own CUE gives way to the new one. -/
def queueTime (p : Nat) (s : State) : State :=
  if !s.mayStart p (.ring p (leBytes 1 3)) then s
  else
    let r := s.rport p
    let s0 := s.setPort p { r with bg := r.bg.filter (fun x => !(x.own && x.rank == 6)) }
    let s1 := if s0.sendsTime then s0.queueBg p 6 2 0 (s0.ringCast (s0.ringOfPort p)) 0 s0.tm.cue s0.timePl else s0
    let dst := if s1.isHead then s1.ringCast (s1.ringOfPort p) else s1.ring.node.caddr / 128 * 128 + 127
    s1.queueBg p 6 3 0 dst 0 s1.tm.cue (s1.probePl p)

/-- TIME and PROBE on the cross-links once per CUE (Table 04-3). -/
def xlTime (s : State) : State :=
  if !s.headOn then s
  else
    [0, 1, 2].foldl (fun s l =>
      if s.xlUp l then
        let s1 := if l = 0 ∧ s.activeHead then s.xlSend 0 0x02 0 s.timePl else s
        s1.xlSend l 0x03 0 (s1.probePl (12 + l))
      else s) s

/-! ### The servo of TB0 (R64 to R68) -/

/-- A rate trim the servo sets: a free value within ± lim. -/
def servoTrim (lim : Int) (s : State) : Int × State :=
  (satI (-lim) lim (toI 32 s.freeNow), s.drawn)

/-- TB0 is corrected by rate trim, limited to ±20 ppm. -/
def trimTb0 (s : State) : State :=
  let r := s.servoTrim 20000
  r.2.tmSet fun t => { t with tb0Rate := r.1 }

/-- TB0 steps so that the arrival stamp becomes the estimate (units of 125 ps). -/
def stepTb0 (est ta : Nat) (s : State) : State :=
  let new_ := (s.tm.tb0 + est + 2 ^ 64 - ta % 2 ^ 64) % 2 ^ 64
  (s.noteTbStep 0 s.tm.tb0 new_).tmSet fun t => { t with tb0 := new_, acqCount := 0, reanchor := false }

/-- A step is refused (Table 02-5). -/
def refuseStep (s : State) : State := (s.bump Obj.stepRefused).irqPost 0 5

/-- A valid time frame with its estimate, in 1/1,024 of 125 ps, and its arrival stamp; `full`: DELAY_AVG exchanges have
completed on the time port; `fast`: the port runs at 5.0 Gb/s or more (R66, Table 02-5). DEDUCED (notes/assumptions/16.md):
in ACQUIRE the rate is not trimmed, since Table 02-5 lists a trim in LOCKED and HOLDOVER only and an unlisted pair changes
nothing (R12). -/
def servo (est : Int) (ta : Nat) (full fast : Bool) (s : State) : State :=
  let offQ : Rat := ((since ((ta * 1024) % 2 ^ 64) (ofI 64 est) : Int) : Rat) / 1024
  let estU := ofI 64 ((est + 512) / 1024)
  let ns : Rat := (if offQ < 0 then -offQ else offQ) / 8
  let again := s.tm.frameSeen
  let s1 := (s.tmSet fun t => { t with frameSeen := true }).oset Obj.tb0Offset (ofI 32 (satS 32 (roundAway (offQ * 125))))
  let big := decide ((s.og Obj.tb0StepMax : Rat) < ns)
  if s1.tm.reanchor then ((s1.stepTb0 estU ta).setTb0State .acquire).release 25 0
  else
    match s1.tm.tb0State with
    | .unsync => if full then (s1.stepTb0 estU ta).setTb0State .acquire else s1
    | .acquire =>
      let c := if 4 < ns then 0 else if again then s1.tm.acqCount else s1.tm.acqCount + 1
      let s2 := s1.tmSet fun t => { t with acqCount := c }
      if 16 ≤ c ∧ fast then s2.setTb0State .locked else s2
    | .locked =>
      if big then (s1.refuseStep.tmSet fun t => { t with holdCount := 0 }).setTb0State .holdover else s1.trimTb0
    | .holdover =>
      if big then s1.refuseStep else (s1.trimTb0.tmSet fun t => { t with holdCount := 0 }).setTb0State .locked
    | .lost => s1

/-- The port a CELL takes its time from (R23, R65): none before it is numbered. -/
def timePort (s : State) : Option Nat :=
  match s.ring.node.orient with
  | 0 => none
  | o => some (if s.tm.timeFar then otherPort (o - 1) else o - 1)

/-- est = o + c + d_in in 1/1,024 of 125 ps (R64). -/
def timeEst (s : State) (k : Nat) (pl : Bytes) : Int :=
  (rd pl 0 8 * 1024 : Nat) + toI 64 (rd pl 8 8) + roundAway (s.dIn k * 1024 / 125)

/-- A CELL forwards a time frame with c raised by d_in here, and by its residence time as it leaves (`stamped`). -/
def forwardTime (p : Nat) (h : Hdr) (pl : Bytes) (s : State) : State :=
  let o := otherPort p
  if !s.portUp o then s
  else
    let c := toI 64 (rd pl 8 8) + roundAway (s.dIn p * 1024 / 125)
    s.forwardOut o (mkFrame 2 h.flags h.dst h.src h.seq h.aux h.cue (pl.take 8 ++ leBytes 8 (ofI 64 c)))

/-- A valid time frame reaches a CELL's port. -/
def cellTime (p : Nat) (h : Hdr) (pl : Bytes) (ta : Nat) (s : State) : State :=
  let s1 := if s.timePort = some p then
      s.servo (s.timeEst p pl) ta (decide (s.og Obj.delayAvg ≤ (Kv.get (fun _ => []) s.tm.probes p).length))
        (decide (2 ≤ (s.rport p).rate))
    else s.tmSet fun t => { t with otherSeen := true }
  s1.forwardTime p h pl

/-- The time part of a CUE start (R65, R67): CUEs without a frame, the change of time port, the counts. -/
def timeCueStart (s : State) : State :=
  if s.activeHead then s
  else
    let t := s.tm
    let miss := if t.frameSeen then 0 else t.noFrame + 1
    let swap := s.isCell && decide (2 ≤ miss) && t.otherSeen
    let back := s.isCell && t.timeFar && t.otherSeen
    s.tmSet fun t => { t with
      noFrame := miss, timeFar := if back then false else if swap then true else t.timeFar,
      acqCount := if t.frameSeen then t.acqCount else 0,
      holdCount := if t.tb0State = .holdover then t.holdCount + 1 else t.holdCount,
      frameSeen := false, otherSeen := false }

/-! ### TB1 (R69 to R72) -/

/-- The trim of TB0 towards TB1: at most 0.01 ppm per second, within ±10 ppm (R69). `was`: TB1 has been LOCKED since the Sync
before; the seconds count only while the discipline is in force. -/
def discipline (was : Bool) (s : State) : State :=
  let steps : Int := ((s.tm.tb2 - s.tm.discAt) / 100000000 : Nat)
  if s.og Obj.tb0Disc ≠ 1 ∨ !s.activeHead ∨ s.tm.tb1State ≠ .locked ∨ !was then s.tmSet fun t => { t with discAt := t.tb2 }
  else if 0 < steps then
    let d := satI (-steps) steps (toI 32 s.freeNow)
    s.drawn.tmSet fun t => { t with tb0Rate := satI (-10000) 10000 (t.tb0Rate + d), discAt := t.tb2 }
  else s

/-- TB1 steps. -/
def stepTb1 (est : Nat) (s : State) : State :=
  (s.noteTbStep 1 s.tm.tb1 est).tmSet fun t => { t with tb1 := est, acq1 := 0, reanchor1 := false }

/-- A Sync of the followed master: its time now, ns (R72). As in `servo`, no trim in ACQUIRE. DESIGN CHOICE
(notes/assumptions/57.md): TB1 leaves UNSYNC at the first Sync, with no count of completed delay exchanges. -/
def takeSync (est : Nat) (s : State) : State :=
  let off := since s.tm.tb1 est
  let s1 := s.oset Obj.tb1Offset (ofI 32 (satS 32 off))
  let big := decide (s.og Obj.tb1StepMax < off.natAbs)
  let trim (s : State) : State :=
    let r := s.servoTrim 20000
    r.2.tmSet fun t => { t with tb1Rate := r.1 }
  let s2 :=
    if s1.tm.reanchor1 then (s1.setTb1State .acquire).stepTb1 est
    else
      match s1.tm.tb1State with
      | .acquire =>
        let c := if off.natAbs ≤ 4 then s1.tm.acq1 + 1 else 0
        let s2 := s1.tmSet fun t => { t with acq1 := c }
        if 16 ≤ c then s2.setTb1State .locked else s2
      | .locked => if big then s1.setTb1State .holdover else trim s1
      | .holdover => if big then s1 else (trim s1).setTb1State .locked
      | _ => (s1.setTb1State .acquire).stepTb1 est
  s2.discipline (s.tm.tb1State == .locked)

/-- Lexicographic order of data sets: a ranks better (is lower). -/
def rankBetter : List Nat → List Nat → Bool
  | [], _ => false
  | _ :: _, [] => false
  | a :: s, b :: t => if a < b then true else if b < a then false else rankBetter s t

/-- Follow a port: PTP_PORT, UTC_OFFSET, source 3 of group 27. -/
def followPort (p : Nat) (s : State) : State :=
  let m := if p = 1 then s.tm.masterA else if p = 2 then s.tm.masterB else none
  let s1 := (s.tmSet fun t => { t with ptpPort := p }).oset Obj.ptpPort p
  let s2 := match m with | some x => s1.oset Obj.utcOffset (ofI 16 x.utc) | none => s1
  if p = s.tm.ptpPort then s2 else s2.irqPost 27 3

/-- Port selection after an Announce (R71). -/
def selectPort (s : State) : State :=
  match s.tm.masterA, s.tm.masterB with
  | none, none => s
  | some _, none => if s.tm.ptpPort = 0 then s.followPort 1 else s.followPort s.tm.ptpPort
  | none, some _ => if s.tm.ptpPort = 0 then s.followPort 2 else s.followPort s.tm.ptpPort
  | some a, some b =>
    match s.tm.ptpPort with
    | 1 => if rankBetter b.rank a.rank then s.followPort 2 else s.followPort 1
    | 2 => if rankBetter a.rank b.rank then s.followPort 1 else s.followPort 2
    | _ => if rankBetter b.rank a.rank then s.followPort 2 else s.followPort 1

/-- A master is declared lost (R70, R71). -/
def masterLost (p : Nat) (s : State) : State :=
  let s1 := s.tmSet fun t => if p = 1 then { t with masterA := none } else { t with masterB := none }
  if s1.tm.ptpPort ≠ p then s1
  else
    let other := if p = 1 then s1.tm.masterB else s1.tm.masterA
    if other.isSome then s1.followPort (3 - p)
    else
      let s2 := s1.followPort 0
      match s2.tm.tb1State with
      | .locked => s2.setTb1State .holdover
      | .acquire => s2.setTb1State .unsync
      | _ => s2

/-! ### SYNC (R76 to R78) -/

/-- The period in force n CUEs from now (R49). -/
def periodAhead (s : State) (n : Nat) : Nat :=
  match (s.tm.periodNext.filter (fun e => cueFrom ((s.tm.cue + n) % 2 ^ 32) e.1)).getLast? with
  | some e => e.2
  | none => s.tm.period

/-- The expected boundary to come: its TB0 instant and the length of the CUE that ends there. The present CUE ends after its
own length; later ones have the periods accepted for them. -/
def syncAhead (s : State) : Nat × Nat :=
  let div := max 1 (s.og Obj.syncDiv)
  let n := div - s.tm.cue % div
  let l := s.tm.cueLen :: (List.range (n - 1)).map (fun i => s.periodAhead (i + 1))
  ((s.tm.cueStart + 8 * l.foldl (· + ·) 0) % 2 ^ 64, l.getLastD 0)

/-- The nearest expected boundary to a TB0 instant (every SYNC_DIV-th CUE boundary by the CUE count): the last one as it came,
or the one to come (R76). -/
def syncBoundary (s : State) (t : Nat) : Nat × Nat :=
  let b1 := s.syncAhead
  match s.tm.syncAt with
  | some b0 => if (since t b0.1).natAbs ≤ (since t b1.1).natAbs then b0 else b1
  | none => b1

/-- A SYNC edge at a TB0 instant: its error against the boundary, and the window by the CUE that ends there (R76). -/
def syncEdge (t : Nat) (s : State) : State :=
  let b := s.syncBoundary t
  let e8 := since t b.1 - 8 * s.oi 32 Obj.syncOffset
  let s1 := s.oset Obj.syncError (ofI 32 (satS 32 (roundAway ((e8 : Rat) / 8))))
  let inside := decide (1000 * (e8.natAbs : Nat) ≤ 8 * s.og Obj.syncWindow * b.2)
  let take (s : State) : State :=
    (s.tmSet fun t => { t with syncNew := some (2 * roundAway ((e8 : Rat) / 16)), syncMiss := 0 }).setSync .track
  match s1.tm.sync with
  | .off => s1
  | .acquire => take s1
  | .track => if inside then take s1 else s1.bump Obj.syncOutside
  | .free => if inside then take s1 else s1.bump Obj.syncOutside

/-- SYNC stops correcting. -/
def dropCorr (s : State) : State := s.tmSet fun t => { t with syncCorr := 0, syncNew := none }

def applySyncMode (v : Nat) (s : State) : Except Nat State :=
  if 2 < v then .error 5
  else
    let s1 := s.oset Obj.syncMode v
    if v = 0 then .ok (s1.dropCorr.setSync .off)
    else if s1.tm.sync = .off then .ok ((s1.tmSet fun t => { t with syncMiss := 0 }).setSync .acquire)
    else .ok s1
def applySyncCmd (v : Nat) (s : State) : Except Nat State :=
  if v ≠ 1 then .error 5
  else if s.tm.sync = .track ∨ s.tm.sync = .free then
    .ok ((s.tmSet fun t => { t with syncMiss := 0 }).setSync .acquire)
  else .ok s

/-! ### Time events (R79, R80) -/

/-- The time base an event compares, in its own units. -/
def tevtBase (s : State) (n : Nat) : Nat := s.timeBase (s.og (Obj.tevtTbSel n) % 4)

/-- The event's instant has come: its time base has reached COMPARE, or COMPARE units after the CUE start (mode 0x03). -/
def tevtDue (s : State) (n : Nat) : Bool := reached (s.timeBase (s.tevtSel n)) (s.tevtAt n)

/-- Time passes until the event's instant. -/
def tevtWait (n : Nat) (s : State) : State :=
  let c := s.og (Obj.tevtCompare n)
  if s.og (Obj.tevtMode n) = 3 then s.loopTo0 ((s.tm.cueStart + c) % 2 ^ 64)
  else
    match s.og (Obj.tevtTbSel n) with
    | 0 => if s.tevtDue n then s else s.loopTo0 c
    | 2 => if s.tevtDue n then s else s.loopTo2 c
    | b =>
      let unit := if b = 1 then 8 else 1
      (List.range 3).foldl (fun s _ =>
        if s.tevtDue n then s
        else let u := unit * subMod 64 c (s.tevtBase n); (s.groupsTill 256 (s.now8 + u)).elapse u) s

/-- The end of the present PWM cycle, in 125 ps units of TB2. -/
def cycleEnd (s : State) : Nat := (s.now8 / 16 + 1) * 16

/-- The event fires (R79, R80). -/
def tevtFire (n : Nat) (s : State) : State :=
  let x := s.tevt n
  let mode := s.og (Obj.tevtMode n)
  let act := s.og (Obj.tevtAction n)
  let per := s.og (Obj.tevtPeriod n)
  let st := s.og (Obj.tevtStatus n) ||| packBits [true, x.late, x.stepped]
  let s1 := s.oset (Obj.tevtStatus n) st
  let s2 := match mode with
    | 1 => (s1.oset (Obj.tevtArm n) 0).setTevt n { late := false, stepped := false, done := true }
    | 2 => (s1.oset (Obj.tevtCompare n) ((s1.og (Obj.tevtCompare n) + per) % 2 ^ 64)).setTevt n
        { late := false, stepped := false, done := per == 0 }
    | _ => s1.setTevt n { late := false, stepped := false, done := true }
  let s3 := s2.seqStartTevt n act s2.cycleEnd
  let s4 := if hasBit act 3 then s3.capHappen 2 (fun a => a == n) else s3
  let s5 := s4.capBaseAll 2 (fun a => a == n)
  let s6 := if hasBit act 4 then s5.irqPost 1 n else s5
  let s7 := if hasBit act 5 then s6.emit .pps else s6
  if hasBit act 2 then s7.groupTevt n else s7

/-- ARM: 1 arms (R80), 0 disarms. -/
def applyTevtArm (n v : Nat) (s : State) : Except Nat State :=
  if 1 < v then .error 5
  else if v = 0 then .ok (s.oset (Obj.tevtArm n) 0)
  else
    let s1 := (s.oset (Obj.tevtArm n) 1).oset (Obj.tevtStatus n) 0
    let m := s.og (Obj.tevtMode n)
    .ok (s1.setTevt n { late := decide (1 ≤ m) && decide (m ≤ 3) && s1.tevtDue n, stepped := false, done := false })

/-! ### Edge queues (R81) -/

def edges (s : State) (i : Nat) : List EdgeEntry := if i = 0 then s.tm.edges0 else if i = 1 then s.tm.edges1 else s.tm.edges2
def setEdges (i : Nat) (l : List EdgeEntry) (s : State) : State :=
  let s1 := s.tmSet fun t => if i = 0 then { t with edges0 := l } else if i = 1 then { t with edges1 := l } else { t with edges2 := l }
  s1.oset (Obj.edgeCount i) l.length

/-- The bytes of an entry (Table 02-8). -/
def entryBytes (e : EdgeEntry) : Bytes :=
  leBytes 8 e.tb0 ++ leBytes 8 e.tb1 ++ leBytes 8 e.tb2 ++ leBytes 8 e.tb3 ++ leBytes 1 e.flags ++ zeros 7

/-- An edge of input i is recorded, or dropped with OVERRUN. -/
def captureEdge (i : Nat) (falling : Bool) (s : State) : State :=
  let pol := s.og (Obj.edgeSel i)
  if !hasBit pol (b2n falling) then s
  else if 4 ≤ (s.edges i).length then (s.oset (Obj.edgeOverrun i) 1).irqPost 2 (3 + i)
  else
    let t := s.tm
    let stepped := match t.stepAt with | some x => x / 2 == t.tb2 / 2 | none => false
    let e : EdgeEntry :=
      { tb0 := t.tb0, tb1 := t.tb1, tb2 := t.tb2, tb3 := t.tb3,
        flags := packBits [falling, t.tb0State != .locked, t.tb1State != .locked, stepped] }
    let s1 := (s.setEdges i (s.edges i ++ [e])).irqPost 2 i
    let s2 := if i < 2 then s1.seqStartAll (6 + i) (s1.now8 + 3 * adcCycle) else s1
    s2.capHappen 5 (fun a => a == i)

/-! ### Writes -/

/-- CUE_PERIOD (R28, R46, R49): takes effect two CUEs on. -/
def applyCuePeriod (v : Nat) (s : State) : Except Nat State :=
  if v % 2 = 1 ∨ v < 10000 ∨ 200000 < v then .error 5
  else if v < 20000 ∧ s.ringPorts.any (fun p => (s.ringRec p).admitted && decide (48 < (s.ringRec p).foundAdm)) then .error 6
  else
    let k := (s.tm.cue + 2) % 2 ^ 32
    .ok ((s.oset Obj.cuePeriod v).tmSet fun t => { t with periodNext := t.periodNext.filter (fun e => e.1 != k) ++ [(k, v)] })

/-- RE_ANCHOR (R68): to a ring or a cell, of one port or of all. -/
def applyReAnchor (v : Nat) (s : State) : Except Nat State :=
  let p := v / 256
  let h := v % 256
  if (11 < p ∧ p ≠ 255) ∨ 96 < h then .error 5
  else
    let ps := s.ringPorts.filter (fun q => (s.ringRec q).enumerated && (p == 255 || q == p))
    if !s.activeHead ∨ (p ≠ 255 ∧ ps.isEmpty) then .error 6
    else
      .ok (ps.foldl (fun s q =>
        if h = 0 then
          let s1 := s.sendRing q true 7 7 0 (s.ringCast q) 0 s.tm.cue []
          if s1.farReachable q then s1.sendRing q false 7 7 0 (s1.ringCast q) 0 s1.tm.cue [] else s1
        else s.sendCell q h 7 7 0 0 []) s)

/-- The cell holds the CURTAIN: of a ring port, or the coast CURTAIN (R95, R215). -/
def curtHeld (s : State) : Bool := s.ring.node.curtain || s.pwm.coast == 3

/-- A CELL's gate outputs are all in their safe state: unadmitted, fenced, under the CURTAIN, or LOST (R68). -/
def gatesSafe (s : State) : Bool :=
  !s.ring.node.admitted || s.curtHeld || s.tm.tb0State == .lost || s.fencedSelf

def applyTb1Cmd (v : Nat) (s : State) : Except Nat State :=
  if v = 1 then .ok (s.tmSet fun t => { t with reanchor1 := true }) else .error 5
def applyTb3 (v : Nat) (s : State) : Except Nat State :=
  .ok ((s.noteTbStep 3 s.tm.tb3 v).tmSet fun t => { t with tb3Step := some v })
def applyTb3Rate (v : Nat) (s : State) : Except Nat State :=
  if -100000 ≤ toI 32 v ∧ toI 32 v ≤ 100000 then .ok (s.oset Obj.tb3Rate v) else .error 5
/-- OVERRUN: a write of 0 clears it (Table 02-8); a write of 1 changes nothing. -/
def applyEdgeOverrun (i v : Nat) (s : State) : Except Nat State :=
  if 1 < v then .error 5 else .ok (if v = 0 then s.oset (Obj.edgeOverrun i) 0 else s)

end State

end Sys2Proof.Machine
end

