-- ==== Sys2Proof/Machine/PowerOps.lean ====
section
/-! DEFINITION. Resets, standby, wakes and start-up (R16 to R19, R497 to R508), the fault collector's reset (R389, R390,
R392) and the clocks (R503). -/

namespace Sys2Proof.Machine

namespace State

/-! ### Resets -/

/-- The sources as a reset leaves them: IDLE, with the recovery counters kept in the always-on domain, every one over a
fault-collector reset and standby, those of SAFE sources over every other reset (R389, R392, R499). -/
def keptSources (all : Bool) (s : State) : Kv FltSrc :=
  s.flt.srcs.foldl (fun m e =>
    if e.2.rcnt ≠ 0 ∧ (all ∨ s.fltClass e.1 = 4) then
      Kv.put (fun _ => FltSrc.idle) e.1 { FltSrc.idle with rcnt := e.2.rcnt, lastAt := e.2.lastAt } m
    else m) []

/-- RESET_CAUSE after a reset of a code: of the sources that meet in one SYS cycle, before the internal reset is released,
the highest (R505). -/
def causeAfter (code : Nat) (s : State) : Nat :=
  if code ≠ 1 ∧ s.pw.pwr = .start ∧ s.pw.stage = .heldReset ∧ s.pw.resetCause ≠ 1 ∧ s.pw.resetAt / 2 = s.tm.tb2 / 2 then
    max code s.pw.resetCause
  else code

/-- A reset of a code of Table 18-6: every block returns to its reset state but what the always-on domain, the flash and
working memory keep. `cause` is the WAKE_CAUSE of a wake start, 0 for any other. A thermal reset holds whatever resets come
meanwhile (R518). -/
def resetPart (code cause : Nat) (s : State) : State :=
  let sampled := code == 1 || code == 2
  let fromStandby := s.pw.pwr == .standby || s.pw.pwr == .check
  let memLost := code == 1 || code == 7 || fromStandby
  let s0 := (s.dropOutputs 0xFF).capReset
  let p := s0.pw
  let tdie := if code = 1 then [] else Kv.put Dict.dflt Obj.tDieMax (s.og Obj.tDieMax) []
  { State.reset with
    objs := tdie,
    pw := { PowerBlock.reset with
      role := if sampled then none else p.role, sampling := sampled || p.role.isNone,
      roleUnstable := p.roleUnstable && code != 1, resetAt := if code = 1 then 0 else s.tm.tb2,
      resetCause := s.causeAfter code,
      resetCount := if code = 1 then [1, 0, 0, 0, 0, 0, 0]
                    else p.resetCount.set (code - 1) (inc 32 (p.resetCount.getD (code - 1) 0)),
      holdNext := !sampled && (p.holdNext || p.faultHold), wakeCause := cause, wakeStart := cause != 0,
      standbyAt := p.standbyAt, wakePol := if cause = 2 then s.og Obj.wakePol else 0,
      thermalHold := code == 6 || (p.thermalHold && code != 1),
      refGood := p.refGood || fromStandby || code == 1,
      pll := if memLost then 0 else p.pll, aonTrimmed := p.aonTrimmed && code != 1,
      aonPpm := if code = 1 then 0 else p.aonPpm, auxOn := p.auxOn && !memLost, auxLimit := p.auxLimit && !memLost,
      pwmClock := p.pwmClock || memLost, safeSeen := code == 5 || (p.safeSeen && code != 1) },
    tm := { TimeBlock.reset with tb2 := if code = 1 then 0 else s.tm.tb2, tb2Sub := if code = 1 then 0 else s.tm.tb2Sub },
    flt := { FaultBlock.reset with
      srcs := if code = 1 then [] else s.keptSources (code == 5 || fromStandby),
      self := if code = 5 then s.flt.self else 0, aon := if code = 1 then none else s.flt.aon,
      logSlot := s.flt.logSlot },
    seat := { SeatBlock.reset with perst := s.seat.perst },
    pwm := { PwmBlock.reset with swcnt := s0.pwm.swcnt, byp := !sampled && s0.pwm.byp },
    bat := { BatBlock.reset with q := if fromStandby then s.bat.q else 0, checks := if code = 1 then [] else s.bat.checks },
    cap := if memLost || code == 2 then CapBlock.reset else s0.cap,
    sl := { SlBlock.reset with m := if memLost || code == 2 then [] else s.sl.m },
    saf := { SafBlock.reset with st := if !sampled && s.saf.st == .lockout then .lockout else .config },
    work := { WorkBlock.reset with
      bad := if memLost then [] else s.work.bad, wrong := if memLost then [] else s.work.wrong,
      scrubAt := if code = 1 then 0 else s.tm.tb2 },
    mem := { MemBlock.reset with
      paramSpoilt := s.mem.paramSpoilt, journalSpoilt := s.mem.journalSpoilt,
      active := s.mem.active, staging := s.mem.staging,
      previous := s.mem.previous, golden := s.mem.golden, paramA := s.mem.paramA, paramB := s.mem.paramB,
      journal := s.mem.journal, jseq := s.mem.jseq },
    tap := if code = 1 then TapBlock.reset else s.tap, freeCtr := s.freeCtr, out := s0.out, pending := s.pending }

/-- Whether the part is powered outside standby: a reset of Table 18-6 can act. -/
def powered (s : State) : Bool := s.pw.pwr == .start || s.pw.pwr == .run

/-- The watchdog's, software's and thermal resets, where the part is powered (R505). -/
def resetNow (code : Nat) (s : State) : State := if s.powered then s.resetPart code 0 else s

/-- VIN falls below UVLO: OFF; everything but the flash is lost (R493). -/
def turnOff (s : State) : State := (s.resetPart 1 0).pwSet fun w => { w with pwr := .off, resetCount := [0, 0, 0, 0, 0, 0, 0] }

/-! ### The fault collector's reset -/

/-- The 64-byte entries that a fault copy fills (R389, R472): 32 bytes of the first-fault record, FSTAT and 64 counters; at a HEAD
FENCE_MAP, FENCE_INFO and the bypass-pending bits besides. -/
def aonEntries (a : AonCopy) (head : Bool) : List LogEntry :=
  (List.range (((if head then 104 + 144 + 1152 + 144 else 104) + 63) / 64)).map (fun i => .fault a i)

/-- The first-fault record, FSTAT, recovery counters and fences into the always-on domain (R389). -/
def aonCopy (s : State) : AonCopy :=
  { ff := s.flt.ff, fstat := s.fstat,
    rcnt := s.flt.srcs.foldl (fun m e => Kv.put (fun _ => 0) e.1 e.2.rcnt m) [],
    fence := if s.isHead then s.flt.fence else [], byp := if s.isHead then s.flt.byp else [] }

/-- The recovery counters of the sources that caused the reset rise; at FLT_RLIM the part restarts into FAULT_HOLD
(R392). -/
def causersCount (s : State) : State :=
  s.flt.causers.foldl (fun s n =>
    let r := s.fsrc n
    let v := r.rcnt + 1
    let s1 := s.setFsrc n { r with rcnt := v }
    if s.og (Obj.fltRlim n) ≤ v then s1.pwSet fun w => { w with holdNext := true } else s1) s

/-- The fault-collector reset takes effect (R389, R392). Also: R406. -/
def collectorReset (s : State) : State :=
  let s1 := s.causersCount
  (s1.fltSet fun f => { f with aon := some s1.aonCopy }).resetPart 5 0

/-- A mismatch of the collector's own checks (R390): `which` as FLT_SELF. -/
def selfCheck (which : Nat) (s : State) : State :=
  let s1 := s.fltSet fun f => { f with self := f.self ||| which % 8 }
  if which % 8 = 0 ∨ s.pw.faultHold then s1
  else
    let f : FirstFault := { src := 0, cls := 4, inst := 0, cue := s.tm.cue, tb2 := s.tm.tb2, co := 1 }
    let s2 := s1.raise 0 0
    s2.fltSet fun w => { w with ff := some f, resetDue := true, causers := insertNat 0 w.causers }

/-- FLT_CMD and FLT_CTL (R388, R391, R392). -/
def fltEmpty (s : State) : State := s.fltSet fun f => { f with ff := none }
/-- Every LATCHED source of a mask whose pin is released clears. -/
def fltClear (mask : Nat) (s : State) : State :=
  (List.range 64).foldl (fun s n => if hasBit mask n then s.clearLatched n else s) s
/-- FAULT_HOLD is released: every RCNT 0, and the part restarts. -/
def holdRelease (s : State) : State :=
  let s1 := s.fltSet fun f => { f with srcs := f.srcs.foldl (fun m e => Kv.put (fun _ => FltSrc.idle) e.1 { e.2 with rcnt := 0 } m) [] }
  (s1.pwSet fun w => { w with faultHold := false, holdNext := false }).resetPart 4 0
def applyFltCmd (v : Nat) (s : State) : Except Nat State :=
  match v with
  | 1 => .ok s.fltEmpty
  | 2 => .ok (s.fltClear (2 ^ 64 - 1))
  | 3 => if s.pw.faultHold then .ok s.holdRelease else .error 6
  | _ => .error 5

/-- A source that is not IDLE has recorded an instance that names the cell (R387). -/
def cellNamed (s : State) (slot : Nat) : Bool :=
  s.flt.srcs.any (fun e => instKind e.1 == .cell && e.2.st != .idle && e.2.insts.contains slot)

/-- FENCE_CMD (R387). -/
def applyFenceCmd (v : Nat) (s : State) : Except Nat State :=
  let code := fld v 23 16
  let p := fld v 15 8
  let h := fld v 7 0
  let slot := 96 * p + h - 1
  if v ≥ 2 ^ 24 ∨ 11 < p ∨ h = 0 ∨ 96 < h ∨ (code ≠ 1 ∧ code ≠ 2) then .error 5
  else if (s.cellRec slot).st = .none then .error 6
  else if code = 1 then
    .ok ((s.fence slot 46 false).fltSet fun f => { f with byp := Kv.put (fun _ => false) slot false f.byp })
  else
    let byp : Bool := match (s.cellRec slot).last with | some r => hasBit r.rstat 11 | none => false
    if s.cellNamed slot || byp then .error 6 else .ok (s.unfence slot)

/-! ### Standby -/

/-- Why standby is refused (R498). -/
def standbyRefused (s : State) : Bool :=
  (s.activeHead && (s.modulating || s.sl.st == .run)) || (s.isCell && s.ring.node.admitted) ||
    s.mem.st == .receiving || s.mem.st == .verifying || s.og Obj.storeState == 1

/-- Standby entry (R499): outputs safe, the battery stage OFF, lanes idle, AUX33 off; the rest loses its supply, which
the wake start shows. -/
def standbyEnter (s : State) : State :=
  let s1 := (s.batEnter .off).dropOutputs 0xFF
  let s2 := (List.range 4).foldl (fun s i => s.setSo i { s.soRec i with on := false, pulse := none }) s1
  (s2.stopPorts.stopXls).pwSet fun w =>
    { w with pwr := .standby, stage := .heldReset, auxOn := false, auxLimit := false, standbyAt := s.tm.tb2 }

/-- PWR_CMD (R498, R505). DESIGN CHOICE (notes/assumptions/70.md): a standby request is decided on the conditions at its write, so
that a condition which a later command of its SYS cycle makes comes too late. -/
def applyPwrCmd (v : Nat) (s : State) : Except Nat State :=
  match v with
  | 1 => if s.standbyRefused then .error 6 else .ok s.standbyEnter
  | 2 => .ok (s.resetPart 4 0)
  | _ => .error 5

/-- TB2 after n AON cycles of standby (R74). -/
def aonTime (n : Nat) (s : State) : State :=
  s.tmSet fun t => { t with tb2 := (s.pw.standbyAt + n * 30517578125 / 1000000) % 2 ^ 64, tb2Sub := 0 }

/-- A wake start (R500): reset code 0x07, or 0x02 for RST_N (Table 18-15). -/
def wakeStart (cause n : Nat) (s : State) : State := (s.aonTime n).resetPart (if cause = 3 then 2 else 7) cause

def asleep (s : State) : Bool := s.pw.pwr == .standby || s.pw.pwr == .check

/-- The mean of 8 conversions of ADC C at an input, in its engineering unit (R236). -/
def checkMean (s : State) (input gain ofs : Nat) (battery : Bool) (raws : List Int) : Rat :=
  let code := (s.entryCode 2 8 (raws.map (fun x => (x : Rat)))).1
  F32.val (if battery then s.linear gain ofs code else s.engValue 4 0 input code)

/-- A storage check (R236, R237): the record, and whether a limit is exceeded. -/
def storageRecord (vraw : List Int) (traws : List (List Int)) (s : State) : Bytes × Bool :=
  let v := s.checkMean (s.og Obj.batAinV) (s.og Obj.batVGain) (s.og Obj.batVOfs) true vraw
  let ts := (List.range s.usedTemps.length).map (fun i =>
    s.checkMean (s.usedTemps.getD i 0) 0 0 false (traws.getD i []) * 100)
  let hot : Rat := match ts with | [] => 0 | t :: l => l.foldl (fun a b => if a < b then b else a) t
  let low := decide (v < s.oq Obj.storeVmin)
  let high := decide (s.oq Obj.storeVmax < v)
  let warm := !ts.isEmpty && decide (((s.oi 16 Obj.storeTmax : Int) : Rat) < hot)
  (leBytes 8 s.tm.tb2 ++ leBytes 2 (satI 0 65535 (floorQ (v * 20 + 1 / 2))).toNat ++
     leBytes 2 (ofI 16 (satS 16 (roundAway hot))) ++ leBytes 1 (packBits [low, high, warm]) ++ zeros 3, low || high || warm)

/-! ### Clocks -/

/-- REF is lost (R503): TB0 and TB3 stop, PLL2 and PLL3 stop, so the lanes go down and G0 to G7 are forced safe. -/
def refLoss (s : State) : State :=
  let s1 := s.withForce (fun s => s.pwSet fun w => { w with refGood := false, pwmClock := false, pll := clrBit (clrBit w.pll 2) 3 })
  let s2 := (s1.raise 11 1).irqPost 30 2
  let s3 := (List.range s2.portCount).foldl (fun s p => if s.portUp p then s.linkLost p else s) s2
  let s4 := [0, 1, 2].foldl (fun s l => if s.isHead then s.xlDown l (fun s => s) else s) s3.stopPorts
  s4.stopXls

/-- REF is back (R503): the PLLs relock, lanes start again; a CELL's or UNDERSTUDY's TB0 is UNSYNC. -/
def refBack (s : State) : State :=
  let s1 := s.pwSet fun w => { w with refGood := true, pwmClock := true, pll := setBit (setBit w.pll 2) 3 }
  let s2 := (s1.release 11 1).irqPost 30 2
  let s3 := if s2.isCell ∨ s2.understudy then s2.setTb0State .unsync else s2
  s3.startPorts.startXls

/-! ### Start-up -/

/-- The internal reset is released (R506, Table 18-7): PLL0 to PLL3 are locked, AUX33 has come up (R495). -/
def resetRelease (s : State) : State :=
  if s.pw.pwr = .start ∧ s.pw.stage = .heldReset ∧ s.pw.refGood ∧ !s.pw.thermalHold then
    let aux := s.pw.auxOn || s.og Obj.auxEn == 1
    s.pwSet fun w =>
      { w with stage := if w.sampling then .waitRole else .roleLatched, samples := [], pll := w.pll ||| 15,
               auxOn := aux }
  else s

/-- A sample of ROLE (R17 to R19). -/
def roleSample (level : Bool) (s : State) : State :=
  if s.pw.stage ≠ .waitRole ∨ 3 ≤ s.pw.samples.length then s
  else
    let l := s.pw.samples ++ [level]
    let s1 := s.pwSet fun w => { w with samples := l }
    if l.length < 3 then s1
    else if l.all (fun b => b == level) then
      s1.pwSet fun w => { w with role := some (if level then .head else .cell), stage := .roleLatched, sampling := false }
    else s1.pwSet fun w => { w with roleUnstable := true }

/-- The blocks take what the parameters set at a reset (R35, R49, R285, R308, R450, Table 01-8). -/
def takeParams (s : State) : State :=
  let per := if s.isHead then s.og Obj.cuePeriod else 20000
  let s1 := s.pwSet fun w =>
    { w with smType := if s.isCell then s.og Obj.smType else 0, ringMode := s.og Obj.ringMode, ip := s.og Obj.ipAddr,
               ipMask := s.og Obj.ipMask, ipGw := s.og Obj.ipGw,
               pciSs := s.og Obj.pciSsvid + 65536 * s.og Obj.pciSsid }
  let s2 := s1.tmSet fun t => { t with period := per, cueLen := per, markLen := per }
  let s3 := if s2.cap.size = 0 then s2.capSet fun c => { c with size := s2.og Obj.pantrySize * 1048576 } else s2
  let s4 := if s3.isCell then s3.oset Obj.cellMode (s3.og Obj.modeBoot) else s3
  let s5 := if s4.og Obj.syncMode ≠ 0 then s4.setSync .acquire else s4
  s5.pwSet fun w => { w with auxOn := s5.og Obj.auxEn == 1 }

/-- What the restart after a reset reports: source 15, SAFE_SEEN, the wake's cause and the checks of the standby that
ended (R236, R389, R500). -/
def startReports (s : State) : State :=
  let s1 := match s.pw.wdogCore with | some c => s.pulse 15 c | none => s
  let s2 := if s1.pw.safeSeen then ((s1.pwSet fun w => { w with safeSeen := false }).fltEvt 3).irqPost 22 3 else s1
  if !s2.pw.wakeStart then s2
  else
    let s3 := (s2.oset Obj.wakeCause s2.pw.wakeCause).irqPost 30 3
    if s3.bat.checks.any (fun b => decide (s3.pw.standbyAt ≤ rd b 0 8)) then s3.irqPost 9 3 else s3

/-- Start-up completes (R508): the fault record goes to the LOG slot, parameters are loaded, the safety block verifies,
the forced-safe net is tested (`high`: balls found not low), ports and links are enabled; in FAULT_HOLD outputs stay safe
and lanes idle (R392). -/
def startUp (high : Nat) (s : State) : State :=
  let s0 := s.pwSet fun w => { w with pwr := .run, stage := .ready, faultHold := w.holdNext, holdNext := false,
                                      idleSince := some s.tm.tb2 }
  let s1 := match s0.flt.aon with
    | some a => if s0.pw.safeSeen then s0.logWrite (aonEntries a s0.isHead) else s0
    | none => s0
  let s2 := s1.paramLoad.takeParams.startReports
  let s3 := if s2.og Obj.refEn = 1 then s2.setRef true else s2
  if s3.pw.faultHold then s3
  else
    let s4 := s3.netTest high
    let s5 := s4.safSet fun w => { w with testsOk := high % 256 == 0 }
    let s6 := if s5.saf.st = .lockout then (s5.raise 1 0).safUpdate 0 else s5.safVerify
    let s7 := (List.range 8).foldl (fun s q => if s.seqTrigOf q = 4 then s.seqTimerArm q else s) s6
    s7.startPorts.startXls.settle

end State

end Sys2Proof.Machine
end

