-- ==== Sys2Proof/Machine/Faults.lean ====
section
/-! DEFINITION. Commands of the fault collector (Faults, degradation and the UNDERSTUDY). -/

namespace Sys2Proof.Machine

open State

/-- Fault sources with their instances assert their pins in one SYS cycle (R383, R385, R386, R388, R391). -/
def execFaultPinAssert (pins : List (Nat × Nat)) (s : State) : Res :=
  if s.running then .next (pins.foldl (fun s p => s.raise p.1 p.2) s) else .next s

/-- A fault pin is released for an instance (R391). -/
def execFaultPinRelease (source inst : Nat) (s : State) : Res :=
  if s.running then .next (s.release source inst) else .next s

/-- The quiet timer of a source reaches FLT_QUIET (Table 14-3). -/
def execFaultQuietExpiry (source : Nat) (s : State) : Res :=
  let r := s.fsrc source
  if s.running ∧ r.st = .quiet then
    .next ((s.toTb2 (r.quietAt + s.og (Obj.fltQuiet source) * 1000000)).quietEnd source)
  else .next s

/-- FLT_FORGIVE seconds without an assertion (Table 14-3): RCNT falls by 1. -/
def execFaultForgiveExpiry (source : Nat) (s : State) : Res :=
  let r := s.fsrc source
  let n := s.og Obj.fltForgive
  if s.running ∧ n ≠ 0 ∧ 0 < r.rcnt ∧ r.st ≠ .latched ∧ r.on.isEmpty then
    let s1 := s.toTb2 (r.lastAt + n * 1000000000)
    .next (s1.setFsrc source { r with rcnt := r.rcnt - 1, lastAt := s1.tm.tb2 })
  else .next s

/-- FLT_CMD 0x01, or FF_EMPTY of FLT_CTL (R388). -/
def execFltCmdEmpty (via : Via) (s : State) : Res :=
  match via with
  | .obj a => .next (s.guardedValue a Obj.fltCmd 1 applyFltCmd)
  | .reg p => if s.running ∧ s.accPresent (.path p) then .next s.fltEmpty else .next s

/-- FLT_CMD 0x02, or CLR_LATCH of FLT_CTL (R391). -/
def execFltCmdClearLatched (via : Via) (s : State) : Res :=
  match via with
  | .obj a => .next (s.guardedValue a Obj.fltCmd 2 applyFltCmd)
  | .reg p => if s.running ∧ s.accPresent (.path p) then .next (s.fltClear (2 ^ 64 - 1)) else .next s

/-- FLT_CMD 0x03, or RELEASE of FLT_CTL (R392); outside FAULT_HOLD the register write is ignored. -/
def execFltCmdRelease (via : Via) (s : State) : Res :=
  match via with
  | .obj a => .next (s.guardedValue a Obj.fltCmd 3 applyFltCmd)
  | .reg p => if s.running ∧ s.accPresent (.path p) ∧ s.pw.faultHold then .next s.holdRelease else .next s

/-- A W1C write of FLT_FSTAT0 (word 0) or FLT_FSTAT1 (R391, R408). -/
def execFltFstatClear (acc : Accessor) (word : Fin 2) (mask : Nat) (s : State) : Res :=
  if s.running ∧ s.accPresent acc then .next (s.fltClear (mask % 2 ^ 32 * 2 ^ (32 * word.val))) else .next s

/-- The reset that a SAFE source or the self-check asserted takes effect (R389, R392, R505). -/
def execFaultCollectorReset (s : State) : Res :=
  if s.powered ∧ s.flt.resetDue then .next s.collectorReset else .next s

/-- The collector's copies or parities disagree (R390): `which` as FLT_SELF. -/
def execCollectorSelfCheck (which : Nat) (s : State) : Res :=
  if s.powered then .next (s.selfCheck which) else .next s

/-- FENCE_CMD code 0x01 (R387). -/
def execFenceCmdFence (acc : Accessor) (port hop : Nat) (s : State) : Res :=
  .next (s.guardedValue acc Obj.fenceCmd (0x10000 + port % 256 * 256 + hop % 256) applyFenceCmd)

/-- FENCE_CMD code 0x02 (R387). -/
def execFenceCmdUnfence (acc : Accessor) (port hop : Nat) (s : State) : Res :=
  .next (s.guardedValue acc Obj.fenceCmd (0x20000 + port % 256 * 256 + hop % 256) applyFenceCmd)

end Sys2Proof.Machine
end

