-- ==== Sys2Proof/Machine/Events.lean ====
section
/-! DEFINITION. Commands of the interrupt controller and the dispatcher (Interrupts and hardware dispatch). -/

namespace Sys2Proof.Machine

open State

/-- A hardware source event (R410, R411, R418, R423). -/
def execIrqSourceEvent (source : Fin 256) (s : State) : Res :=
  if s.running then .next (s.irqPost (source.val / 8) (source.val % 8)) else .next s

/-- A raw write of IRQ_PENDn (R412, R413). -/
def execIrqPendWrite (acc : Accessor) (word : Fin 8) (v : Nat) (s : State) : Res :=
  if s.regServed acc then .next (s.irqPendRaw (accTarget acc) word.val v) else .next s

/-- A raw write of IRQ_ENn, or of IRQ_ENABLE, which acts as one (R411, R412). -/
def execIrqEnWrite (acc : Accessor) (word : Fin 8) (v : Nat) (s : State) : Res :=
  .next (s.regOrObj acc (Obj.irqEnable word.val) (leBytes 4 v) (irqEnRaw (accTarget acc) word.val v))

/-- A write of IRQ_SETn: each set is a source event (R413). -/
def execIrqSetWrite (acc : Accessor) (word : Fin 8) (v : Nat) (s : State) : Res :=
  if s.regServed acc then .next (s.irqSetBits (accTarget acc) word.val v) else .next s

/-- A write of IRQ_CLRn (R408, R413). -/
def execIrqClrWrite (acc : Accessor) (word : Fin 8) (v : Nat) (s : State) : Res :=
  if s.regServed acc then .next (s.irqClrBits (accTarget acc) word.val v) else .next s

/-- A write of IRQ_ENSETn (R411). -/
def execIrqEnsetWrite (acc : Accessor) (word : Fin 8) (v : Nat) (s : State) : Res :=
  if s.regServed acc then .next (s.irqEnsetBits (accTarget acc) word.val v) else .next s

/-- A write of IRQ_ENCLRn (R411). -/
def execIrqEnclrWrite (acc : Accessor) (word : Fin 8) (v : Nat) (s : State) : Res :=
  if s.regServed acc then .next (s.irqEnclrBits (accTarget acc) word.val v) else .next s

/-- A write of IRQ_ROUTE (R414, R415, R424, R425). -/
def execIrqRouteWrite (acc : Accessor) (group : Fin 32) (v : Nat) (s : State) : Res :=
  .next (s.irqRouteWrite acc group.val v)

/-- A write of SLEEP of IRQ_TCTL (R416): it acts on the paths of Seats 1 and 2. -/
def execIrqTctlSleep (acc : Accessor) (on : Bool) (s : State) : Res :=
  let t := (accTarget acc)
  if s.regServed acc ∧ (t = 5 ∨ t = 6) then .next ((s.irqSet fun w => { w with asleep := putBit w.asleep t on }).withdraw)
  else .next s

/-- A core or Seat 0 falls asleep or wakes by its own condition; Seat 3 by its subscriptions (R416, R424). -/
def execTargetSleepChange (target : Fin 8) (asleep : Bool) (s : State) : Res :=
  let t := target.val
  if !s.running then .next s
  else if t < 5 then .next ((s.irqSet fun w => { w with asleep := putBit w.asleep t asleep }).withdraw)
  else .next s.withdraw

/-- Arbitration for a target (R414, R416, R417, R420, R425, R454). -/
def execGroupDelivery (target : Fin 8) (s : State) : Res :=
  if s.working then .next (s.arbitrate target.val) else .next s

/-- COAL_T has passed since the first counted event (R418). -/
def execIrqCoalTimeout (group : Fin 32) (s : State) : Res :=
  let g := group.val
  match (s.grp g).firstAt with
  | some t =>
    if !s.working ∨ s.og (Obj.irqCoalT g) = 0 then .next s
    else
      let s1 := s.toTb2 (t + 1000 * s.og (Obj.irqCoalT g))
      .next (match s1.effTarget g with | some x => s1.arbitrate x | none => s1)
  | none => .next s

/-- HOLDOFF_T has passed since the last claim (R419): a group that waited for it is delivered. -/
def execIrqHoldoffExpiry (group : Fin 32) (s : State) : Res :=
  let g := group.val
  match (s.grp g).claimAt with
  | some t =>
    if !s.working ∨ !s.holdOff g then .next s
    else
      let s1 := s.toTb2 (t + 1000 * s.og (Obj.irqHoldoffT g))
      let r := s1.grp g
      let s2 := if s1.grpPending g = 0 then s1 else s1.setGrp g { r with holdWaits := inc 32 r.holdWaits }
      .next (match s2.effTarget g with | some x => s2.arbitrate x | none => s2)
  | none => .next s

/-- A read of IRQ_CLAIM claims for the reading target (R418, R421, R434). -/
def execIrqClaim (acc : Accessor) (s : State) : Res :=
  match acc with
  | .core _ | .path _ => .next (s.regRead acc (claimFor (accTarget acc)))
  | _ => .next (s.guardedRead acc Obj.irqClaim (fun s => leBytes 4 (s.claimFor (accTarget acc)).1) (fun s => (s.claimFor (accTarget acc)).2))

/-- A write of IRQ_EOI (R420, R422, R423, R434, R435). -/
def execIrqEoi (acc : Accessor) (group : Nat) (s : State) : Res :=
  .next (s.regOrObj acc Obj.irqEoi (leBytes 1 group) (eoi (accTarget acc) group))

/-- IRQ_VLOG_CMD 0x01 (R435). -/
def execIrqVlogCmdClear (acc : Accessor) (s : State) : Res := .next (s.guardedValue acc Obj.irqVlogCmd 1 applyIrqVlogCmd)

/-- The push registers of an accessor's path take what the push was built from (R429); the others keep their values. -/
def pushRegs (acc : Accessor) (l : List (Nat × Nat)) (s : State) : State :=
  match acc with
  | .core _ | .path _ =>
    if s.regServed acc then l.foldl (fun s e => s.rset (pathReg (accTarget acc) (Blk.dsp + e.1)) (e.2 % 2 ^ 32)) s else s
  | _ => s

/-- DSP_PUSH_GO in mode 0 (R426 to R429, R432, R435). -/
def execDspPushDirect (acc : Accessor) (flow : Fin 1024) (tag a b : Nat) (s : State) : Res :=
  .next ((pushRegs acc [(0, tag), (4, a), (8, b)] s).regOrObj acc Obj.dspPush (dspBody flow.val 0 0 tag a b 0)
    (dspPushBy (accTarget acc) flow.val 0 0 (tag % 2 ^ 32) (a % 2 ^ 32) (b % 2 ^ 32) 0))

/-- DSP_PUSH_GO in mode 1 or 2 (R429, R430, R435). -/
def execDspPushOperand (acc : Accessor) (flow : Fin 1024) (slot : Fin 2) (tag a : Nat) (s : State) : Res :=
  .next ((pushRegs acc [(0, tag), (4, a)] s).regOrObj acc Obj.dspPush (dspBody flow.val (1 + slot.val) 0 tag a 0 0)
    (dspPushBy (accTarget acc) flow.val (1 + slot.val) 0 (tag % 2 ^ 32) (a % 2 ^ 32) 0 0))

/-- DSP_PUSH_GO in mode 3 (R429, R431). -/
def execDspPushDelay (acc : Accessor) (flow : Fin 1024) (list : Fin 4) (tag a b time : Nat) (s : State) : Res :=
  .next ((pushRegs acc [(0, tag), (4, a), (8, b), (0x10, time), (0x14, time / 2 ^ 32)] s).regOrObj
    acc Obj.dspPush (dspBody flow.val 3 list.val tag a b time)
    (dspPushBy (accTarget acc) flow.val 3 list.val (tag % 2 ^ 32) (a % 2 ^ 32) (b % 2 ^ 32) (time % 2 ^ 64)))

/-- A pop (R427, R428, R432, R434): a core names the queue it pops, a seat pops its own. -/
def execDspPop (acc : Accessor) (queue : Fin 12) (s : State) : Res :=
  match acc with
  | .core _ | .path _ => .next (s.regRead acc (dspPopBy (accTarget acc) queue.val))
  | _ => .next (s.guardedRead acc Obj.dspPop (dspPopBytes (accTarget acc)) (fun s => (s.dspPopBy (accTarget acc) queue.val).2))

/-- DSP_DONE (R425, R428, R435). -/
def execDspDone (acc : Accessor) (flow : Nat) (s : State) : Res :=
  .next (s.regOrObj acc Obj.dspDone (leBytes 2 flow) (dspDoneBy (accTarget acc) flow))

/-- DSP_CMD 0x01 (R433). -/
def execDspCmdReturn (acc : Accessor) (s : State) : Res := .next (s.regOrObj acc Obj.dspCmd [1#8] (dspCmdBy (accTarget acc) 1))

/-- DSP_CMD 0x02 (R433). -/
def execDspCmdDiscard (acc : Accessor) (s : State) : Res := .next (s.regOrObj acc Obj.dspCmd [2#8] (dspCmdBy (accTarget acc) 2))

/-- DSP_CMD 0x03 (R430, R433). -/
def execDspCmdPurge (acc : Accessor) (s : State) : Res := .next (s.regOrObj acc Obj.dspCmd [3#8] (dspCmdBy (accTarget acc) 3))

/-- A whole microsecond of TB2 (R431). -/
def execDelayListRelease (s : State) : Res := if s.working then .next s.delayTick else .next s

/-- A read of DSP_QDEPTHq (R11, R432). -/
def execDspQdepthRead (acc : Accessor) (queue : Fin 16) (s : State) : Res := .next (s.regRead acc (qdepthRead queue.val))

/-- A read of DSP_QWAITq (R11, R432). -/
def execDspQwaitRead (acc : Accessor) (queue : Fin 16) (s : State) : Res := .next (s.regRead acc (qwaitRead queue.val))

/-- A read of DSP_MSTAT (R11). -/
def execDspMstatRead (acc : Accessor) (s : State) : Res := .next (s.regRead acc mstatRead)

/-- A read of DSP_LSTATn (R11). -/
def execDspLstatRead (acc : Accessor) (list : Fin 4) (s : State) : Res := .next (s.regRead acc (lstatRead list.val))

/-- 1 s of TB2 after SAFE_STATE first entered RUN (R419). -/
def execStartPhaseEnd (s : State) : Res :=
  match s.irq.safeRunAt with
  | some t => .next ((s.toTb2 (t + 1000000000)).irqSet fun w => { w with startPhase := false })
  | none => .next s

end Sys2Proof.Machine
end

