-- ==== Sys2Proof/Machine/Loops.lean ====
section
/-! DEFINITION. Commands of the loop engine (Closed-loop control engine). -/

namespace Sys2Proof.Machine

open State

/-- The next SUBTICK instant of a loop group arrives and its channels execute in order (R249 to R252). A TEVT group
runs with its event (TEVT_FIRE), a COMPUTE group with the computation. -/
def execLoopGroupStart (group : Fin 4) (s : State) : Res :=
  let g := group.val
  let rate := s.og (Obj.groupRate g)
  let j := s.subtickNext g
  if s.working ∧ s.og (Obj.groupSrc g) = 2 ∧ j < rate then
    let s1 := s.loopTo0 (s.tm.cueStart + 8 * (j * s.tm.cueLen / rate))
    let s2 := s1.setGroup g { s1.grpRec g with cue := some s1.tm.cue, j := j + 1 }
    .next (s2.groupArrive g s2.now8)
  else .next s

/-- A whole descriptor (R260, R272). -/
def execLoopDescWrite (acc : Accessor) (ch : Nat) (d : Bytes) (s : State) : Res :=
  .next (s.guardedWrite acc (Obj.loopDesc ch) d (applyLoopDesc ch d))

/-- A whole gain table (R260, R273). -/
def execLoopGtabWrite (acc : Accessor) (ch : Nat) (d : Bytes) (s : State) : Res :=
  .next (s.guardedWrite acc (Obj.loopGtab ch) d (applyLoopGtab ch d))

/-- One gain table entry (R259, R260). -/
def execGtabPokeWrite (acc : Accessor) (ch : Nat) (v : Nat) (s : State) : Res :=
  .next (s.guardedValue acc (Obj.gtabPoke ch) v (applyGtabPoke ch))

/-- The object of a limit: I_LO, I_HI, Y_LO, Y_HI. -/
def limitKey (w : Nat) (ch : Nat) : Nat := Dict.key (0x7007 + w) (ch + 1)

/-- A write of I_LO, I_HI, Y_LO or Y_HI (R247). -/
def execLoopLimitWrite (acc : Accessor) (which : Fin 4) (ch : Nat) (v : Nat) (s : State) : Res :=
  .next (s.guardedValue acc (limitKey which.val ch) v (applyLoopLimit which.val ch))

/-- A write of INT_SET (R263). -/
def execIntSetWrite (acc : Accessor) (ch : Nat) (v : Nat) (s : State) : Res :=
  .next (s.guardedValue acc (Obj.intSet ch) v (applyIntSet ch))

/-- A write of LOOP_FLAGS (R259, R263). -/
def execLoopFlagsWrite (acc : Accessor) (ch : Nat) (v : Nat) (s : State) : Res :=
  .next (s.guardedValue acc (Obj.loopFlags ch) v (applyLoopFlags ch))

/-- INJ_CMD 0x01 (R269, R271). -/
def execInjCmdStart (acc : Accessor) (s : State) : Res := .next (s.guardedValue acc Obj.injCmd 1 applyInjCmd)

/-- INJ_CMD 0x02 (R270). -/
def execInjCmdStop (acc : Accessor) (s : State) : Res := .next (s.guardedValue acc Obj.injCmd 2 applyInjCmd)

end Sys2Proof.Machine
end

