-- ==== Sys2Proof/Machine/PassOps.lean ====
section
/-! DEFINITION. PASS along the rings (R480 to R483): senders, relay streams, acknowledgements and aborts. -/

namespace Sys2Proof.Machine

/-- Fields of a PASS payload's header (Table 17-6). -/
structure PassHdr where
  kind : Nat
  rate : Nat
  last : Nat
  campaign : Nat
  image : Nat
  index : Nat

/-- Read a PASS payload's header. -/
def PassHdr.read (b : Bytes) : PassHdr :=
  { kind := rd b 0 1, rate := rd b 1 1 % 8, last := rd b 2 1, campaign := rd b 4 4, image := rd b 8 4, index := rd b 12 4 }

/-- A PASS payload (Table 17-6). -/
def passPayload (kind rate last campaign image index : Nat) (d : Bytes) : Bytes :=
  leBytes 1 kind ++ leBytes 1 rate ++ leBytes 1 last ++ zeros 1 ++ leBytes 4 campaign ++ leBytes 4 image ++
    leBytes 4 index ++ d

/-- Chunks that a neighbour has acknowledged. -/
def PassSend.acked (x : PassSend) : Nat := match x.ack with | none => 0 | some k => k + 1

namespace State

def passSend (s : State) (k : Nat) : PassSend := Kv.get (fun _ => PassSend.reset) s.mem.sends k
def setPassSend (k : Nat) (x : PassSend) (s : State) : State :=
  s.memSet fun m => { m with sends := Kv.put (fun _ => PassSend.reset) k x m.sends }

/-- A sender starts (R481). -/
def passBegin (k last rate : Nat) (s : State) : State :=
  s.setPassSend k { on := true, last := last, rate := rate, ack := none, next := 0, ackCue := s.tm.cue, resends := 0,
                    st := 1 }

/-- Chunk k of the relay stream with the CUE of its storing; an empty one is not held. -/
def relayChunk (s : State) (k : Nat) : Nat × Bytes := Kv.get (fun _ => ((0, []) : Nat × Bytes)) s.mem.relay.chunks k

/-- Header of the stream a part sends on: the PASS store of a HEAD, the relay stream of a CELL. -/
def passHead (s : State) : Bytes := if s.isHead then s.mem.store.take 512 else (s.relayChunk 0).2
/-- Chunks of the stream. -/
def passTotal (s : State) : Nat := if s.isHead then (s.mem.store.length + 511) / 512 else hChunks s.passHead

/-- Chunk k as a sender may send it now: a cell sends a chunk no earlier than in the CUE after it stored it (R481). -/
def passReady (s : State) (k : Nat) : Option Bytes :=
  if s.isHead then
    if 512 * k < s.mem.store.length then some (slice s.mem.store (512 * k) 512) else none
  else
    let c := s.relayChunk k
    if c.2.isEmpty ∨ c.1 = s.tm.cue then none else some c.2

/-- The next hop of a CELL out of a port: away from the near end out of the downstream port. -/
def passNext (s : State) (port : Nat) : Nat :=
  let h := hopOf s.ring.node.caddr
  if s.ring.node.orient = port + 1 then h - 1 else h + 1

/-- The hop that a HEAD's chain on ring p begins with, from its own end or from the other end (R481); after a takeover
the own end is the far one. -/
def passFirst (s : State) (p : Nat) (own : Bool) : Nat := if own != s.pair.tookOver then 1 else s.lastHop p

/-- The hop at which a HEAD's chain ends: the last hop, counted from where it begins, that its end serves (R110, R481). -/
def passLast (s : State) (p : Nat) (own : Bool) : Option Nat :=
  let served := ((List.range (s.lastHop p)).map (fun i => i + 1)).filter (fun h => s.servingEnd p h == some own)
  if own != s.pair.tookOver then served.getLast? else served.head?

/-- A PASS frame of the sender of a key to its neighbour: at a HEAD the key is 2 × ring + (0 own end, 1 other end), at a
CELL its port. -/
def passFrame (k : Nat) (pl : Bytes) (s : State) : State :=
  if s.isHead then
    let p := k / 2
    let own := k % 2 == 0
    s.sendRing p own 7 0x40 0 (caddrOf (s.og Obj.pairId) p (s.passFirst p own)) 0 s.tm.cue pl
  else s.queueBg k 7 0x40 0 (s.ring.node.caddr / 128 * 128 + s.passNext k) 0 s.tm.cue pl

/-- Send chunk number `next` of a sender, if it may go now; at a CELL a chunk is relayed, source 1 of group 25 (R483). -/
def passOne (k : Nat) (s : State) : State :=
  let x := s.passSend k
  match s.passReady x.next with
  | none => s
  | some d =>
    let y := s.memLoad 0 (if s.isHead then Config.passWord else Config.relayWord) (fun i => 512 * x.next + i) d
    let s1 := y.2.2.setPassSend k { x with next := x.next + 1, ackCue := if x.next = x.acked then s.tm.cue else x.ackCue }
    let s2 := s1.passFrame k (passPayload 2 x.rate x.last (hCampaign s.passHead) (hImage s.passHead) x.next y.1)
    if s.isHead then s2
    else (s2.memSet fun m => { m with relay := { m.relay with relayed := inc 32 m.relay.relayed } }).irqPost 25 1

/-- At most `n` chunks of a sender. -/
def passSome (k : Nat) : Nat → State → State
  | 0, s => s
  | n + 1, s => passSome k n (s.passOne k)

/-- What a sender sends in a background window (R481). -/
def passRun (k : Nat) (s : State) : State :=
  let x := s.passSend k
  if x.on then s.passSome k x.rate else s

/-- The senders of a port's background window: a HEAD's own end and, over XL0, the other end of its ring. -/
def passWindow (p : Nat) (s : State) : State :=
  if s.isCell then s.passRun p
  else if s.pw.ringMode = 2 then s.passRun (2 * (p / 2 * 2) + p % 2)
  else (s.passRun (2 * p)).passRun (2 * p + 1)

/-- ABORT out of a running sender, which ends. -/
def passStop (k : Nat) (s : State) : State :=
  let x := s.passSend k
  if x.on then
    (s.passFrame k (passPayload 4 x.rate x.last (hCampaign s.passHead) (hImage s.passHead) 0 [])).setPassSend k
      { x with on := false, st := 4 }
  else s

/-- PASS_CMD (R481): starts a pass of the PASS store on the masked rings, or ends every pass. -/
def applyPassCmd (v : Nat) (s : State) : Except Nat State :=
  if 0xFFF < v then .error 5
  else if v = 0 then .ok ((List.range 24).foldl (fun s k => s.passStop k) s)
  else if s.mem.store.length < 512 then .error 6
  else
    let rate := s.og Obj.passRate
    .ok (s.ringPorts.foldl (fun s p =>
      if hasBit v p ∧ (s.ringRec p).enumerated then
        let s1 := match s.passLast p true with
          | some l => s.passBegin (2 * p) l rate
          | none => s
        match s.passLast p false with
        | some l => s1.passBegin (2 * p + 1) l rate
        | none => s1
      else s) s)

/-- Highest k such that chunks 0 to k of the relay stream are held, as INDEX of an ACK. -/
def relayAck (s : State) (c i : Nat) : Nat :=
  let r := s.mem.relay
  if r.on ∧ r.campaign = c ∧ r.image = i then
    match (List.range (hChunks (s.relayChunk 0).2)).find? (fun k => (s.relayChunk k).2.isEmpty) with
    | some 0 => 0xFFFFFFFF
    | some k => k - 1
    | none => hChunks (s.relayChunk 0).2 - 1
  else 0xFFFFFFFF

/-- The relay stream and its senders end. -/
def relayEnd (s : State) : State :=
  (([0, 1].foldl (fun s p => s.setPassSend p { s.passSend p with on := false }) s)).memSet fun m =>
    { m with relay := { m.relay with on := false, chunks := [] } }

/-- A relay starts with chunk 0. -/
def relayBegin (h : PassHdr) (d : Bytes) (s : State) : State :=
  (s.memStore Config.relayWord id d.length).relayEnd.memSet fun m =>
    { m with relay := { m.relay with on := true, campaign := h.campaign, image := h.image,
                                     chunks := Kv.put (fun _ => ((0, []) : Nat × Bytes)) 0 (s.tm.cue, d) [],
                                     stopped := m.relay.stopped.filter (fun x => decide (h.campaign ≤ x.1)) } }

/-- Store chunk k of the relay stream, once. -/
def relayStore (k : Nat) (d : Bytes) (s : State) : State :=
  if (s.relayChunk k).2.isEmpty then
    (s.memStore Config.relayWord (fun i => 512 * k + i) d.length).memSet fun m =>
      { m with relay := { m.relay with chunks := Kv.put (fun _ => ((0, []) : Nat × Bytes)) k (s.tm.cue, d) m.relay.chunks } }
  else s

/-- ABORT of a campaign out of a CELL's port. -/
def abortOut (port last c i : Nat) (s : State) : State :=
  s.passFrame port (passPayload 4 1 last c i 0 [])

/-- The relay stream on a CHUNK (R482, R483): chunk 0 starts, joins or preempts a relay by Table 17-4; equal campaigns
of different images stop both relays. -/
def relayTake (port : Nat) (h : PassHdr) (d : Bytes) (s : State) : State :=
  let r := s.mem.relay
  if h.index = 0 then
    if !r.on then
      match r.stopped with
      | some x => if h.campaign ≤ x.1 ∧ x.2.contains h.image then s else s.relayBegin h d
      | none => s.relayBegin h d
    else if r.campaign < h.campaign then s.relayBegin h d
    else if h.campaign < r.campaign then s
    else if r.image = h.image then s
    else
      let s1 := [0, 1].foldl (fun s p => s.passStop p) s
      let out := otherPort port
      let s2 := if hopOf s.ring.node.caddr = h.last then s1 else s1.abortOut out h.last h.campaign h.image
      s2.relayEnd.memSet fun m => { m with relay := { m.relay with stopped := some (h.campaign, [r.image, h.image]) } }
  else if r.on ∧ r.campaign = h.campaign ∧ r.image = h.image then s.relayStore h.index d
  else s

/-- The part's own STAGING on a CHUNK (R477, R478): chunk 0 is an offer. -/
def stagingTake (h : PassHdr) (d : Bytes) (s : State) : State :=
  let put (k : Nat) (s : State) : State :=
    if s.mem.st = .receiving ∧ hCampaign s.mem.head = h.campaign ∧ hImage s.mem.head = h.image ∧ k < hChunks s.mem.head then
      (s.memStore Config.imageWord (fun i => 512 * k + i) d.length).memSet fun m =>
        { m with chunks := Kv.put (fun _ => ([] : Bytes)) k d m.chunks }
    else s
  if h.index = 0 then (if d.length = 512 then put 0 (s.offer d).2 else s) else put h.index s

/-- A CELL receives a CHUNK on a port (R481 to R483). -/
def passChunk (port src : Nat) (h : PassHdr) (d : Bytes) (s : State) : State :=
  let s1 := (s.relayTake port h d).stagingTake h d
  let out := otherPort port
  let r := s1.mem.relay
  let x := s1.passSend out
  let s2 :=
    if r.on ∧ r.campaign = h.campaign ∧ r.image = h.image ∧ hopOf s.ring.node.caddr ≠ h.last then
      if x.on then s1.setPassSend out { x with last := h.last, rate := h.rate } else
        if h.index = 0 then s1.passBegin out h.last h.rate else s1
    else s1
  s2.queueBg port 7 0x40 0 src 0 s.tm.cue
    (passPayload 3 h.rate h.last h.campaign h.image (s2.relayAck h.campaign h.image) [])

/-- A sender receives an ACK of its stream (R482): an ACK that advances restarts the count of CUEs, 0xFFFF_FFFF starts
again from chunk 0, the last chunk's ends the sender. -/
def passAck (k : Nat) (h : PassHdr) (s : State) : State :=
  let x := s.passSend k
  if !x.on ∨ h.campaign ≠ hCampaign s.passHead ∨ h.image ≠ hImage s.passHead then s
  else if h.index = 0xFFFFFFFF then s.setPassSend k { x with ack := none, next := 0 }
  else if s.passTotal ≤ h.index + 1 then
    s.setPassSend k { x with ack := some h.index, next := max x.next (h.index + 1), on := false, st := 2 }
  else if x.acked ≤ h.index then
    s.setPassSend k { x with ack := some h.index, next := max x.next (h.index + 1), ackCue := s.tm.cue, st := 1 }
  else s.setPassSend k { x with ack := some h.index }

/-- A CELL receives an ABORT (R483): it is forwarded, and ends the relay and the receiving of that campaign. -/
def passAborted (port : Nat) (h : PassHdr) (s : State) : State :=
  let s1 := if hopOf s.ring.node.caddr = h.last then s else s.abortOut (otherPort port) h.last h.campaign h.image
  let s2 := if s1.mem.relay.on ∧ s1.mem.relay.campaign = h.campaign then s1.relayEnd else s1
  if s2.mem.st = .receiving ∧ hCampaign s2.mem.head = h.campaign then (s2.updDiscard).setUpd .idle else s2

/-- A sender's chain is cut: its end no longer serves the hop at which the chain ends (R481). -/
def passCut (s : State) (k : Nat) : Bool :=
  s.isHead && s.servingEnd (k / 2) (s.passSend k).last != some (k % 2 == 0)

/-- The ACK has not advanced for 8 CUEs while chunks are outstanding (R482): the sender sends again from the chunk after
it; a sender whose chain is cut is stalled. -/
def passResend (k : Nat) (s : State) : State :=
  let x := s.passSend k
  if x.on ∧ x.acked < x.next ∧ 8 ≤ subMod 32 s.tm.cue x.ackCue then
    let s1 := s.setPassSend k { x with next := x.acked, resends := inc 32 x.resends, ackCue := s.tm.cue,
                                       st := if s.passCut k then 3 else x.st }
    if s.isCell then s1.memSet fun m => { m with relay := { m.relay with resends := inc 32 m.relay.resends } } else s1
  else s

end State

end Sys2Proof.Machine
end

