-- ==== Sys2Proof/Machine/Memory.lean ====
section
/-! DEFINITION. Commands of working memory, the update and PASS (Memory, flash and firmware update). -/

namespace Sys2Proof.Machine

open State

/-- The scrubber reads the next word (R470). -/
def execScrubRead (s : State) : Res := .next (if s.working then s.scrubRead else s)

/-- A write of MEM_INJ (R471). -/
def execMemInjWrite (acc : Accessor) (v : Nat) (s : State) : Res := .next (s.guardedValue acc Obj.memInj v applyMemInj)

/-- A stored word suffers an upset in one or more symbols (R467): the pattern inverts bits of its 144. -/
def execMemorySymbolError (word : BitVec 22) (errs : BitVec 144) (s : State) : Res :=
  .next (s.setWordErr word.toNat (Nat.xor (s.wordErr word.toNat) errs.toNat))

/-- A write of UPD_DATA (R478, R479): a refused offer leaves its reason, or its conflict. -/
def execUpdDataWrite (acc : Accessor) (d : Bytes) (s : State) : Res :=
  let t := s.guardedWrite acc Obj.updData d (applyUpdData d)
  let served := s.running && s.accPresent acc && s.writeTests acc Obj.updData d.length == 0
  .next (if served ∧ s.og Obj.updTarget = 1 then
    match applyUpdData d s with
    | .ok _ => t
    | .error _ => t.updRefused (rd d 0 4) (d.drop 4)
    else t)

/-- The last chunk is stored and STAGING programmed (R473, R477). -/
def execStagingProgrammed (failed : Bool) (s : State) : Res := .next (if s.working then s.stagingDone failed else s)

/-- Verification completes (R473, R475, R476, R477); `bad` are the parts of STAGING that the flash's own code could not correct: 0 the
header, i + 1 block i. -/
def execUpdVerifyDone (bad : List Nat) (s : State) : Res := .next (if s.working then s.verifyDone bad else s)

/-- UPD_CMD code 0x03 (R485): a software reset, refused in a cell that is admitted and not fenced and in an active HEAD
that modulates. -/
def applyUpdRestart (s : State) : Except Nat State :=
  if s.isCell && s.ring.node.admitted && !s.fencedSelf then .error 6
  else if s.activeHead && (s.og (Obj.modMode 0) != 0 || s.og (Obj.modMode 1) != 0) then .error 6
  else .ok (s.resetPart 4 0)

/-- A write of UPD_CMD (R477, R485, R486). -/
def applyUpdCmdAll (v : Nat) (s : State) : Except Nat State := if v = 3 then applyUpdRestart s else applyUpdCmd v s

/-- UPD_CMD 0x02 (R477). -/
def execUpdCmdArm (acc : Accessor) (s : State) : Res := .next (s.guardedValue acc Obj.updCmd 2 applyUpdCmdAll)

/-- UPD_CMD 0x03 (R485). -/
def execUpdCmdRestart (acc : Accessor) (s : State) : Res := .next (s.guardedValue acc Obj.updCmd 3 applyUpdCmdAll)

/-- UPD_CMD 0x04 (R486). -/
def execUpdCmdConfirm (acc : Accessor) (s : State) : Res := .next (s.guardedValue acc Obj.updCmd 4 applyUpdCmdAll)

/-- UPD_CMD 0x05 (R477). -/
def execUpdCmdAbort (acc : Accessor) (s : State) : Res := .next (s.guardedValue acc Obj.updCmd 5 applyUpdCmdAll)

/-- A write of PASS_CMD (R481). -/
def execPassCmd (acc : Accessor) (mask : Nat) (s : State) : Res := .next (s.guardedValue acc Obj.passCmd mask applyPassCmd)

/-- A numbered CELL receives a PASS CHUNK (R480 to R483). -/
def execPassChunk (port : Nat) (frame : Bytes) (fend : FrameEnd) (s : State) : Res :=
  .next (s.rxTyped port frame fend 0x40 true (fun r s =>
    let h := PassHdr.read r.pl
    if !s.cellOn ∨ s.ring.node.caddr = 0 ∨ !s.addressed r.hdr ∨ r.pl.length < 17 ∨ h.kind ≠ 2 then s
    else s.passChunk port r.hdr.src h (r.pl.drop 16)))

/-- A sender receives a PASS ACK (R482). -/
def execPassAck (port : Nat) (frame : Bytes) (fend : FrameEnd) (s : State) : Res :=
  .next (s.rxTyped port frame fend 0x40 true (fun r s =>
    let h := PassHdr.read r.pl
    if !s.addressed r.hdr ∨ r.pl.length < 16 ∨ h.kind ≠ 3 then s
    else if s.isCell then s.passAck port h
    else if s.activeHead then s.passAck (2 * s.ringOfPort port + (if port = s.ringOfPort port then 0 else 1)) h
    else s))

/-- A CELL receives a PASS ABORT (R483). -/
def execPassAbort (port : Nat) (frame : Bytes) (fend : FrameEnd) (s : State) : Res :=
  .next (s.rxTyped port frame fend 0x40 true (fun r s =>
    let h := PassHdr.read r.pl
    if !s.cellOn ∨ s.ring.node.caddr = 0 ∨ !s.addressed r.hdr ∨ r.pl.length < 16 ∨ h.kind ≠ 4 then s
    else s.passAborted port h))

/-- A sender's ACK has not advanced for 8 CUEs (R482): of a CELL by its port, of an active HEAD by its ring and end. -/
def execPassResend (port : Nat) (far : Bool) (s : State) : Res :=
  .next (if s.cellOn then s.passResend port
    else if s.activeHead then s.passResend (2 * s.ringOfPort port + (if far then 1 else 0))
    else s)

end Sys2Proof.Machine
end

