-- ==== Sys2Proof/Machine/Power.lean ====
section
/-! DEFINITION. Commands of power, reset and start-up (Roles, rings and converter topology; Power, clocks, package and
electrical data). -/

namespace Sys2Proof.Machine

open State

/-- VIN rises past the UVLO rising threshold from OFF: a power-on reset (R497, R505). -/
def execPowerOnReset (s : State) : Res := .next (if s.pw.pwr = .off then s.resetPart 1 0 else s)

/-- RST_N held low for 1 µs or more (R505, R506); in standby a wake start as an RST_N reset, after n AON cycles of it
(Table 18-15). -/
def execRstNReset (cycles : Nat) (s : State) : Res :=
  .next (if s.asleep then s.wakeStart 3 cycles else s.resetNow 2)

/-- The internal reset is released, with RST_N high, the rails up and REF stable (R506, Table 18-7). -/
def execInternalResetRelease (s : State) : Res := .next s.resetRelease

/-- One of the three samples of ROLE (R16 to R19, Table 01-1). -/
def execRoleSample (level : Bool) (s : State) : Res := .next (s.roleSample level)

/-- 1 ms after a disagreement ROLE is sampled again (R19). -/
def execRoleResampleTimer (s : State) : Res :=
  if s.pw.stage = .waitRole ∧ s.pw.samples.length = 3 then .next (s.pwSet fun w => { w with samples := [] }) else .next s

/-- The journal is evaluated, unfinished copies resume, ACTIVE is checked and run (R476, R484, R486). `bad` names the copy
blocks (source, destination, block) whose programming fails twice; the start gets through at most `blocks` of them before
its supply fails or a reset cuts it (R489). `reads` names what the flash's own code can no longer correct, by slot and part (R473). -/
def execFirmwareStart (bad : List (Nat × Nat × Nat)) (reads : List (Nat × Nat)) (blocks : Nat) (s : State) : Res :=
  if s.pw.pwr ≠ .start ∨ s.pw.stage ≠ .roleLatched then .next s
  else
    match (s.flashSpoil reads).bootJournal bad blocks with
    | (true, _, t) => .next t
    | (false, left, t) =>
      match t.bootImage bad left with
      | (true, t) => .next t
      | (false, t) => .next (t.pwSet fun w => { w with stage := .firmware })

/-- Start-up completes (R345, R352, R375, R461, R488, R497, R508); `high` are the gate balls the net test finds not low. -/
def execStartUpComplete (high : Nat) (s : State) : Res :=
  if s.pw.pwr = .start ∧ s.pw.stage = .firmware then .next (s.startUp high) else .next s

/-- The watchdog of a service core resets the part (R505). -/
def execWatchdogReset (core : Nat) (s : State) : Res :=
  .next (if s.powered then (s.resetPart 3 0).pwSet fun w => { w with wdogCore := some core } else s)

/-- PWR_CMD 0x02 (R505). -/
def execSoftwareReset (acc : Accessor) (s : State) : Res := .next (s.guardedValue acc Obj.pwrCmd 2 applyPwrCmd)

/-- PWR_CMD 0x01 (R498, R499). -/
def execStandbyRequest (acc : Accessor) (s : State) : Res := .next (s.guardedValue acc Obj.pwrCmd 1 applyPwrCmd)

/-- The idle timer of a CELL reaches STBY_IDLE (R498): both ring ports not UP, no seat access, no refusal condition for
that time. -/
def execStbyIdleExpiry (s : State) : Res :=
  match s.pw.idleSince with
  | some t =>
    let n := s.og Obj.stbyIdle
    if s.cellOn ∧ n ≠ 0 ∧ !s.portUp 0 ∧ !s.portUp 1 ∧ !s.standbyRefused then
      .next (s.toTb2 (t + n * 1000000000)).standbyEnter
    else .next s
  | none => .next s

/-- A WAKE edge held for 4 AON cycles in STANDBY or CHECK, n AON cycles after standby entry (R497, R500); an edge of the
AON cycle in which WAKE_TIMER has just woken the part is that wake's cause (Table 18-15). -/
def execWakeEdge (rising : Bool) (cycles : Nat) (s : State) : Res :=
  let pol := if rising then 1 else 2
  if s.asleep then .next (if s.og Obj.wakePol = pol then s.wakeStart 1 cycles else s)
  else if s.pw.wakeStart ∧ s.pw.wakeCause = 2 ∧ s.pw.wakePol = pol ∧ s.tm.tb2 = (s.aonTime cycles).tm.tb2 then
    .next (s.pwSet fun w => { w with wakeCause := 1 })
  else .next s

/-- WAKE_TIMER seconds of TB2 have passed since standby entry (R497, R500). -/
def execWakeTimerExpiry (cycles : Nat) (s : State) : Res :=
  let n := s.og Obj.wakeTimer
  if s.pw.pwr = .standby ∧ n ≠ 0 ∧ n * 1000000000 ≤ cycles * 30517578125 / 1000000 then .next (s.wakeStart 2 cycles)
  else .next s

/-- The AON timer reaches CHECK_INTERVAL (R236, R237): 8 conversions each of BAT_AIN_V and of the used temperature
inputs; a WAKE edge during the check ends it unlogged and wakes the part. -/
def execStorageCheck (cycles : Nat) (vraw : List Int) (traws : List (List Int)) (edge : Bool) (s : State) : Res :=
  if s.pw.pwr ≠ .standby ∨ s.og Obj.checkInterval = 0 ∨ !s.isCell then .next s
  else if edge ∧ s.og Obj.wakePol ≠ 0 then .next (s.wakeStart 1 cycles)
  else
    let s1 := s.aonTime cycles
    let r := s1.storageRecord vraw traws
    let s2 := s1.batSet fun b => { b with checks := (b.checks ++ [r.1]).drop (b.checks.length - 15) }
    .next (if r.2 ∧ s.og Obj.storeAction = 1 then s2.wakeStart 4 cycles else s2)

/-- VIN falls below the UVLO falling threshold (R493, R497). -/
def execUvloFall (s : State) : Res := .next s.turnOff

/-- The die has been at 140 °C for 10 µs (R518); a fault-collector reset due in the same cycle is counted too
(Table 18-15). -/
def execThermalLimit (s : State) : Res :=
  if !s.powered then .next s
  else if s.flt.resetDue then
    let t := s.collectorReset
    .next (t.resetPart 6 0)
  else .next (s.resetPart 6 0)

/-- The die has fallen to 120 °C (R518). -/
def execThermalRelease (s : State) : Res := .next (s.pwSet fun w => { w with thermalHold := false })

/-- REF is missing or off by more than 1 % for 1 µs (R503). -/
def execRefLoss (s : State) : Res := if s.powered ∧ s.pw.refGood then .next s.refLoss else .next s

/-- REF has been good for 1 ms (R503). -/
def execRefRestored (s : State) : Res := if s.powered ∧ !s.pw.refGood then .next s.refBack else .next s

/-- Once per second in RUN the AON oscillator is measured against REF and trimmed (R504). -/
def execAonTrim (ppm : Int) (s : State) : Res :=
  if s.running ∧ s.pw.refGood then .next (s.pwSet fun w => { w with aonTrimmed := true, aonPpm := ppm }) else .next s

/-- AUX_EN switches AUX33 (R495). -/
def applyAuxEn (v : Nat) (s : State) : Except Nat State :=
  if v ≤ 1 then
    .ok ((s.oset Obj.auxEn v).pwSet fun w => { w with auxOn := v == 1, auxLimit := w.auxLimit && v == 1 })
  else .error 5

/-- A write of AUX_EN (R495). -/
def execAuxEnWrite (acc : Accessor) (v : Nat) (s : State) : Res := .next (s.guardedValue acc Obj.auxEn v applyAuxEn)

/-- AUX33 enters current limit (R495). -/
def execAux33CurrentLimit (s : State) : Res :=
  if s.running ∧ s.pw.auxOn then .next ((s.pwSet fun w => { w with auxLimit := true }).irqPost 30 4) else .next s

end Sys2Proof.Machine
end

