-- ==== Sys2Proof/Machine/SheetOps.lean ====
section
/-! DEFINITION. What the rings carry each CUE: SHEET frames and their records at a cell (R100 to R102, R163, R164),
report records and trains (R103 to R105, R111), the CURTAIN at cells and ring ends (R92 to R96). -/

namespace Sys2Proof.Machine

/-! ### Records -/

/-- The used slots of a record, in slot order, none where a NONE slot stands before a used one (R164). -/
def usedSlots : List Nat → Option (List (Nat × Nat))
  | [] => some []
  | e :: t =>
    if e = 0xFFFFFF then (if t.all (fun x => x == 0xFFFFFF) then some [] else none)
    else (usedSlots t).map (fun l => (e / 2 ^ 21, e % 2 ^ 21) :: l)

/-- The offsets rise strictly. -/
def risingOffsets : List (Nat × Nat) → Bool
  | a :: b :: t => decide (a.2 < b.2) && risingOffsets (b :: t)
  | _ => true

/-- A state valid for the bridge (Table 05-6). -/
def stateValid (full : Bool) (st : Nat) : Bool := st == 0 || st == 1 || st == 3 || (st == 2 && full)

/-- A record's own check (R163, R164): its schedule for the CUE, none where it fails. -/
def readRecord (full : Bool) (caddr cue port idx : Nat) (b : Bytes) : Option SheetRec :=
  let slots := (List.range 4).map (fun i => rd b (3 * i) 3)
  let ctl := rd b 14 1
  match usedSlots slots with
  | none => none
  | some evs =>
    if rd b 15 1 = crc8 (leBytes 2 caddr ++ leBytes 4 cue ++ b.take 15) ∧ ctl / 16 = cue % 16 ∧ ctl % 4 = 0 ∧
        risingOffsets evs ∧ evs.all (fun e => stateValid full e.1) then
      some { cue := cue, evs := evs, share := rd b 12 2, fire := hasBit ctl 3, psv := hasBit ctl 2, port := port, idx := idx }
    else none

/-- The record index of hop h by AUX, none where the frame holds none for it (R102). -/
def recordIndex (aux h : Nat) : Option Nat :=
  let first := fld aux 14 8
  let n := fld aux 6 0
  if hasBit aux 15 then (if first ≤ h ∧ h - first < n then some (h - first) else none)
  else if h ≤ first ∧ first - h < n then some (first - h) else none

/-- RSTAT with FAR set or clear. -/
def setFar (rec_ : Bytes) (far : Bool) : Bytes := patch rec_ 8 (leBytes 2 (putBit (rd rec_ 8 2) 2 far))

namespace State

/-! ### A SHEET frame at a cell -/

/-- The CUE mark of a frame is taken (R50): the count it names and the instant of its start. The first mark after a reset
gives the cell its count. -/
def takeMark (cue start : Nat) (s : State) : State :=
  let prev := (cue + 2 ^ 32 - 1) % 2 ^ 32
  let s1 := s.tmSet fun t =>
    { t with mark := some (cue, start), cue := if t.cueKnown then t.cue else prev,
             markLen := if t.cueKnown then subMod 64 start t.cueStart / 8 else t.markLen, cueKnown := true }
  if s.tm.cueKnown then s1 else (s1.pairSet fun w => { w with lateCue := some prev }).oset Obj.cueCount prev

/-- The cell is admitted no longer: its outputs are held safe until it is admitted again and executes a record (R45, Table
07-5). -/
def unadmit (s : State) : State :=
  if !s.ring.node.admitted then s
  else s.idleBreak.withForce (fun s =>
    (s.setNode { s.ring.node with admitted := false }).pwmSet fun w => { w with notAdm := true, next := none })

/-- The cell's record is complete at a TB0 instant (R57, R102, R115). A VOID record shows that the cell is not admitted (R162).
A cell that fails the check h + g = N + 1 or lies between two HEADs takes none (R24, R40). -/
def takeRecord (p i : Nat) (h : Hdr) (b : Bytes) (start at0 : Nat) (s : State) : State :=
  let d := vdetail h.ty h.seq
  if !s.ring.node.checked ∨ s.betweenHeads then s
  else if b.all (fun x => x == 0#8) then s.setNode { s.ring.node with gone := true }
  else
    match readRecord s.fullBridge s.ring.node.caddr h.cue p i b with
    | none => s.ringLog p 9 h.src d
    | some r =>
      if (match s.pwm.next with | some x => x.cue == h.cue | none => false) then s.ringLog p 0x0B h.src d
      else
        let s0 := s.setNode { s.ring.node with covered := true }
        let s1 := if s.ring.node.admitted then s0 else (s0.setNode { s0.ring.node with admitted := true }).batAdmitted.tokenReset
        if since start at0 < 1600 then (s1.bump Obj.sheetLate).pwmSet fun w => { w with lateNext := true }
        else s1.pwmSet fun w => { w with next := some r }

/-- A SHEET frame reaches a cell: ICRC, the mark, its own record (R50, R102, Table 03-11). A frame without records by which the
cell's own end served it shows that the ring is admitted no longer (R45, R100), unless another frame covers the cell: DESIGN
CHOICE, notes/assumptions/46.md. -/
def takeSheet (p : Nat) (f : Bytes) (r : Rx) (at0 : Nat) (s : State) : State :=
  let h := r.hdr
  let pl := r.pl
  let o := otherPort p
  if pl.length < 12 ∨ rd pl 8 4 ≠ crc32 (pl.take 8) then (s.forwardBad o f).ringLog p 2 h.src (vdetail h.ty h.seq)
  else
    let s1 := if r.fcrc then s.forwardOut o f else s.forwardBad o f
    if s1.tm.cueKnown ∧ h.cue ≠ inc 32 s1.tm.cue then s1.ringLog p 0x0A h.src (vdetail h.ty h.seq)
    else
      let start := rd pl 0 8
      let s2 := s1.takeMark h.cue start
      match (if s2.ring.node.caddr = 0 then none else recordIndex h.aux (hopOf s2.ring.node.caddr)) with
      | none => if fld h.aux 6 0 = 0 ∧ s2.ring.node.servedBy = p then s2.setNode { s2.ring.node with gone := true } else s2
      | some i =>
        if pl.length < 12 + 16 * (i + 1) then s2 else s2.takeRecord p i h (slice pl (12 + 16 * i) 16) start at0

/-- What a SHEET frame tells an UNDERSTUDY of ring p, at whose port it arrives (`own`: from the active HEAD's own end) or
by whose port it leaves: whether the ring is admitted, its cells, and which end numbered it. -/
def noteSheet (p : Nat) (own : Bool) (aux : Nat) (pl : Bytes) (s : State) : State :=
  let first := fld aux 14 8
  let n := fld aux 6 0
  let up := hasBit aux 15
  let hop (i : Nat) : Nat := if up then first + i else first - i
  let r := s.ringRec p
  let s0 := if own then s.pairSet fun w => { w with tookOver := !up } else s
  let rate := if s.portUp p then some (s.rport p).rate else r.opRate
  if n = 0 then
    s0.setRing p (if own then { r with enumerated := true, opRate := rate, admitted := false, foundAdm := 0, removing := false }
                  else { r with enumerated := true, opRate := rate })
  else
    let top := max r.foundAdm (if up then first + n - 1 else first)
    let s1 := s0.setRing p { r with
      enumerated := true, opRate := rate, admitted := true, arm := s.og (Obj.ringArm p), foundAdm := top,
      plan := { r.plan with split := if up then first - 1 else first } }
    (List.range n).foldl (fun s i =>
      let slot := 96 * p + hop i - 1
      let c := s.cellRec slot
      if hop i = 0 ∨ 96 < hop i then s
      else if (slice pl (12 + 16 * i) 16).all (fun b => b == 0#8) then
        s.setCellRec slot { c with st := if c.st = .none ∨ c.st = .admitted then .unadmitted else c.st }
      else s.setCellRec slot { c with st := .admitted }) (s1.oset (Obj.ringFound p) top)

/-- A SHEET frame of the active HEAD's own end for the next CUE gives an UNDERSTUDY the CUE mark; at a port of an admitted
ring it keeps it from counting a loss (R399). -/
def seeSheet (p : Nat) (r : Rx) (s : State) : State :=
  if s.understudy ∧ r.fcrc ∧ (!s.tm.cueKnown ∨ r.hdr.cue = inc 32 s.tm.cue) ∧ 12 ≤ r.pl.length ∧
      rd r.pl 8 4 = crc32 (r.pl.take 8) then
    let s1 := (s.takeMark r.hdr.cue (rd r.pl 0 8)).noteSheet p true r.hdr.aux r.pl
    if (s1.ringRec p).admitted then s1.pairSet fun w => { w with sheetSeen := true } else s1
  else s

/-! ### A cell's report -/

/-- A trip whose action includes bit 0 is latched (R205). -/
def tripReported (s : State) : Bool := (List.range 6).any (fun i => hasBit s.pwm.tripLatch i && hasBit (s.og (Obj.tripAct i)) 0)


/-- RSTAT without FAR (Table 03-8). -/
def rstat (s : State) : Nat :=
  packBits [s.adc.repValid, s.adc.repStale || (s.hasStage && s.bat.repStale), false, !s.portUp 1, !s.portUp 0] +
    s.fclass * 32 + packBits [s.pwm.late, s.pwm.miss || s.pwm.lost, s.tripReported, s.pwm.byp, s.curtHeld] * 256 +
    tbCode s.tm.tb0State * 8192

/-- Bytes 0 to 27 of the report record (Table 03-7). -/
def reportBytes (s : State) : Bytes :=
  let b (n : Nat) : Nat := if s.hasStage then n else 0
  leBytes 2 s.ring.node.caddr ++ leBytes 2 (if s.pwm.lost then (s.tm.cue + 0x8000) % 65536 else s.pwm.shseq) ++
    leBytes 4 s.tm.cue ++ leBytes 2 s.rstat ++ leBytes 2 s.adc.repVcap ++ leBytes 2 (b s.bat.repV) ++
    leBytes 2 (b s.bat.repI) ++ leBytes 2 (b s.bat.repSoc) ++ leBytes 2 s.adc.repTemp ++ leBytes 4 s.pwm.swcnt ++
    leBytes 2 (ofI 16 (satI (-32767) 32767 (s.oi 32 Obj.tb0Offset))) ++ leBytes 1 s.fltsrc ++ zeros 1

/-- The port a report leaves by (R111): towards the end that serves, or the other one when it is not UP. -/
def reportPort (s : State) : Nat :=
  let p := s.ring.node.servedBy
  if s.portUp p then p else otherPort p

/-- The own record with its check, spoiled where the injector's mode 0x5 acts (R119). -/
def ownRecord (p : Nat) (rec_ : Bytes) (s : State) : Bytes × State :=
  let r := rec_ ++ leBytes 4 (crc32 rec_)
  if s.injActs p 5 then (spoil r 28, s.spendInj p) else (r, s)

/-- A train of records leaves by a port: one that passes is forwarded cut-through (R104, R108), an own one has the rank of an
own report train (Table 03-9). -/
def sendTrain (p : Nat) (passing : Bool) (recs : List Bytes) (s : State) : State :=
  if passing then s.txForward p (32 * recs.length) 0xFFFF 0 (.train p recs)
  else if s.portUp p then s.txAdd p 4 (32 * recs.length) true (.train p recs)
  else s

/-- The launched record of this CUE that has not left yet. -/
def launched (s : State) : Option Bytes :=
  match s.ring.node.report with
  | some r => if r.length = 32 ∧ !s.ring.node.sentOwn then some r else none
  | none => none

/-! ### Reports at a ring end -/

/-- The fields of a report. -/
def readReport (b : Bytes) : RepRec :=
  { caddr := rd b 0 2, shseq := rd b 2 2, cue := rd b 4 4, rstat := rd b 8 2, vcap := rd b 10 2, vbat := rd b 12 2,
    ibat := rd b 14 2, soc := rd b 16 2, temp := rd b 18 2, swcnt := rd b 20 4, toff := rd b 24 2, fltsrc := rd b 26 1 }

/-- A report record of ring p reaches the active HEAD by port q (R54, Table 03-11). A record that comes after the start
of computation is missing. -/
def takeReport (p q : Nat) (b : Bytes) (s : State) : State :=
  let r := readReport b
  let h := hopOf r.caddr
  let slot := 96 * p + h - 1
  if b.length ≠ 32 ∨ rd b 28 4 ≠ crc32 (b.take 28) then s.ringLog q 0x0C 0xFFFF 0
  else if r.caddr ≠ caddrOf (s.og Obj.pairId) p h ∨ h = 0 ∨ 96 < h ∨ !s.cellAdmitted slot ∨ r.cue ≠ s.tm.cue then
    s.ringLog q 0x0D r.caddr 0
  else if s.tm.compDone then s
  else
    let s1 := s.setCellRec slot { s.cellRec slot with last := some r, have_ := true }
    if hasBit r.rstat 11 then
      s1.fltSet fun f => { f with byp := Kv.put (fun _ => false) slot false f.byp }
    else s1

/-! ### CURTAIN -/

/-- A cell receives /C/ on a port (R92, R95): it sends one on, asserts its CURTAIN line, and any lift is cancelled. -/
def cellCurtain (p : Nat) (s : State) : State :=
  let s1 := (s.setPort p { s.rport p with gotC := some s.tm.tb2 }).rngEvt p 3
  let s2 := s1.sendC (otherPort p)
  (s2.withForce (fun s => s.setNode { s.ring.node with curtain := true, lift := none })).capHappen 4 (fun _ => true)

/-- /C/ has left on ring p within the preceding 2 CUEs, or leaves all the time while the CURTAIN is raised (R94, R96). -/
def echoes (s : State) (p : Nat) : Bool :=
  let q := s.ringOfPort p
  let ports := if s.pw.ringMode = 2 then [q, q + 1] else [q]
  (s.ringRec q).curtain || ports.any (fun x =>
    match (s.rport x).sentC with
    | some t => decide (s.tm.tb2 ≤ t + 2 * s.tm.cueLen)
    | none => false)

/-- A /C/ that counts as an echo on port n prolongs an unexpected CURTAIN that stands there (R353). -/
def unexpAgain (n : Nat) (s : State) : State :=
  if s.activeHead ∧ hasBit s.saf.unexp n then s.safSet fun w => { w with unexpAt := Kv.put (fun _ => 0) n s.tm.tb2 w.unexpAt } else s

/-- No /C/ on either port in the 1,024 LTX cycles (3,276.8 ns) before now (R95). -/
def curtainQuiet (s : State) : Bool :=
  [0, 1].all (fun p => match (s.rport p).gotC with | some t => decide (t + 3276 < s.tm.tb2) | none => true)

/-- A CURTAIN_LIFT frame reaches the cell (R95). Of two lifts held the earlier stands. -/
def takeLift (l : Nat) (s : State) : State :=
  if !cueAfter l s.tm.cue ∨ !s.curtainQuiet then s
  else
    let keep := match s.ring.node.lift with
      | some x => if cueAfter x s.tm.cue ∧ !cueAfter x l then x else l
      | none => l
    s.setNode { s.ring.node with lift := some keep }

end State

end Sys2Proof.Machine
end

