-- ==== Sys2Proof/Machine/Rings.lean ====
section
/-! DEFINITION. Commands of the cell rings: bring-up, link down, enumeration, forwarding, the background window and the
lane test (Cell rings; Roles, rings and converter topology). -/

namespace Sys2Proof.Machine

open State

/-- The port exists and its lanes may act. -/
def portLive (s : State) (p : Nat) : Bool := s.working && decide (p < s.portCount)

/-- EN of RNG_CTRL (Table 03-3, first and last rows). -/
def execPortEnable (port : Nat) (on : Bool) (s : State) : Res :=
  if !portLive s port then .next s
  else
    let a := rngReg port 0
    let s1 := s.rset a (putBit (s.rg a) 0 on)
    if on then .next (s1.startPort port)
    else .next ((s1.setPort port { PortRec.reset with txSeq := (s.rport port).txSeq, rxSeq := (s.rport port).rxSeq,
                                                      rateCap := (s.rport port).rateCap }).sendSym port 10 [])

/-- TEST of RNG_CTRL (Table 03-3); setting TEST on a port in UP is a link down on that hop, and the lane's generator sends
(R118). -/
def execPortTest (port : Nat) (on : Bool) (s : State) : Res :=
  if !portLive s port then .next s
  else
    let a := rngReg port 0
    let s1 := s.rset a (putBit (s.rg a) 1 on)
    let r := s1.rport port
    if on then
      if r.st = .off ∨ r.st = .test then .next s1
      else
        let s2 := s1.setPort port { r with st := .test, silent := 0, training := false, bgCue := none, txq := [], bg := [], busy := 0 }
        .next ((if r.st = .up then s2.linkLost port else s2).patSend port)
    else if r.st = .test then .next (s1.enterDetect port 0)
    else .next (s1.startPort port)

/-- Signal and comma alignment held for 64 code groups: DETECT goes to OFFER and the first offer is sent (R86, R87). -/
def execSignalDetect (port : Nat) (s : State) : Res :=
  let r := s.rport port
  if !portLive s port ∨ r.st ≠ .detect ∨ r.silent ≠ 0 then .next s
  else
    let s1 := s.setPort port { r with st := .offer, sig := true, align := true, offers := 0, offer := [], accepts := 0,
                                      rateMax := s.og (Obj.rateMax port) }
    .next (s1.sendSym port 1 (s1.offerSet port 1 0))

/-- The 1 µs offer interval: another offer (Table 03-3). -/
def execOfferTimer (port : Nat) (s : State) : Res :=
  if !portLive s port ∨ (s.rport port).st ≠ .offer then .next s
  else .next (s.sendSym port 1 (s.offerSet port 1 0))

/-- A CELL between two HEADs is in no ring: it has no number and is not admitted (R24). -/
def leaveRing (s : State) : State :=
  if s.betweenHeads then
    let s1 := s.unadmit
    s1.setNode { s1.ring.node with caddr := 0, orient := 0 }
  else s

/-- An /O/ set is received (R86, R87): the third identical offer of a permitted neighbour agrees the lowest of the four
rates and sends three accepts; a neighbour R24 does not permit raises the ring-wiring fault. -/
def execOfferReceived (port : Nat) (set : Bytes) (s : State) : Res :=
  let r := s.rport port
  if !portLive s port ∨ set.length ≠ 7 then .next s
  else if rd set 0 1 = 2 then
    if r.st = .train ∨ r.st = .offer then
      .next (leaveRing (s.setPort port { r with accepts := r.accepts + 1, nbr := rd set 1 1 }))
    else .next s
  else if rd set 0 1 ≠ 1 ∨ r.st ≠ .offer then .next s
  else
    let n := if set = r.offer then r.offers + 1 else 1
    let r1 := { r with offer := set, offers := n, nbr := rd set 1 1 }
    let s1 := leaveRing (s.setPort port r1)
    if n < 3 then .next s1
    else if !s1.nbrPermitted r1.nbr then .next (s1.raise 39 port)
    else
      let agreed := min (min r1.rateMax r1.rateCap) (min (rd set 3 1) (rd set 4 1))
      let s2 := (s1.release 39 port).setPort port { r1 with st := .train, rate := agreed, training := false }
      let o := s2.offerSet port 2 agreed
      .next (((s2.sendSym port 1 o).sendSym port 1 o).sendSym port 1 o)

/-- 16 µs after the neighbour's third accept the port switches to the agreed rate and trains (Table 03-3). -/
def execTrainStart (port : Nat) (s : State) : Res :=
  let r := s.rport port
  if !portLive s port ∨ r.st ≠ .train ∨ r.training ∨ r.accepts < 3 then .next s
  else .next ((s.setPort port { r with training := true }).sendSym port 9 (leBytes 1 r.rate))

/-- A node sends /C/ on a port that comes up while it raises the CURTAIN: a HEAD that holds it on the ring (R94), an
UNDERSTUDY while CURTAIN sets that name the port arrive (R132), a cell with RAISE (R348). -/
def State.curtainOnUp (p : Nat) (s : State) : State :=
  let k := s.xlink 0
  let relayed := s.understudy && hasBit k.curtMask p && (match k.curtAt with | some t => decide (s.tm.tb2 ≤ t + 410) | none => false)
  if (s.isHead ∧ ((s.ringRec (s.ringOfPort p)).curtain ∨ relayed)) ∨ (s.isCell ∧ s.saf.raising) then s.sendC p else s

/-- A port reaches UP: the delay average starts empty (R63), a CELL whose hop was lost sends HEAL (R112), a HEAD
enumerates a ring that is not enumerated (R40). DESIGN CHOICE (notes/assumptions/54.md): the ring rate a CELL compares with is
that of its other port where that is UP, else any rate sends HEAL. -/
def reachUp (p : Nat) (s : State) : State :=
  let r := s.rport p
  let s1 := (State.curtainOnUp p ((s.setPort p
    { r with st := .up, training := false, txq := [], busy := 0, bg := [], bgCue := none, broke := false, sentC := none,
             gotC := none }).rngEvt p 1))
  let s2 := { s1 with tm := { s1.tm with probes := Kv.put (fun _ => []) p [] s1.tm.probes,
                                          probeIn := Kv.put (fun _ => (0, 0)) p (0, 0) s1.tm.probeIn } }
  if s2.isCell then
    let o := s2.rport (otherPort p)
    if r.broke ∧ (o.st = .up → o.rate ≤ r.rate) then s2.linkNotice p 2 r.rate else s2
  else if s2.activeHead then
    let q := s2.ringOfPort p
    let x := s2.ringRec q
    if x.enumerated then s2.hopBack q r.rate
    else if p = q then s2.startEnum q
    else s2
  else s2

/-- The 200 µs training ends (Table 03-3). -/
def execTrainingEnd (port : Nat) (locked : Bool) (errors : Nat) (s : State) : Res :=
  let r := s.rport port
  if !portLive s port ∨ r.st ≠ .train ∨ !r.training then .next s
  else if locked ∧ errors = 0 then .next ((reachUp port s).sendSym port 0 [])
  else if 0 < r.rate then
    .next ((s.setPort port { r with rate := r.rate - 1 }).sendSym port 9 (leBytes 1 (r.rate - 1)))
  else .next (s.enterDetect port 2)

/-- A silent period ends: /I/ is sent at 1.25 Gb/s in DETECT (Table 03-3). -/
def execLaneSilenceEnd (port : Nat) (s : State) : Res :=
  let r := s.rport port
  if !portLive s port ∨ r.silent = 0 then .next s
  else .next ((s.setPort port { r with silent := 0 }).sendSym port 0 [])

/-- A port in UP declares its link down (R88, R112). -/
def execLinkDown (port : Nat) (s : State) : Res :=
  if !portLive s port ∨ (s.rport port).st ≠ .up then .next s
  else .next ((s.linkLost port).enterDetect port 1)

/-- A CELL takes a RATE_CAP frame (R86, R89): it holds the cap, and a hop above it brings itself up again. -/
def execRateCapFrame (port : Nat) (frame : Bytes) (fend : FrameEnd) (s : State) : Res :=
  .next (s.rxTyped port frame fend 5 true (fun r s =>
    if !s.isCell ∨ r.pl.length ≠ 1 then s
    else
      let cap := rd r.pl 0 1
      let s := s.setNode { s.ring.node with opRate := false }
      [0, 1].foldl (fun s p =>
        let x := s.rport p
        let s1 := s.setPort p { x with rateCap := cap }
        if x.st = .up ∧ cap < x.rate then s1.enterDetect p 1 else s1) s))

/-- A CELL takes an ENUM frame (R23, R40, R44): its hop number is the count plus 1, the rate byte becomes the lowest of
the frame's and its hops', and the frame is forwarded, or returned with byte 2 set to 0x02 where the other port is not
UP. `n` is the N by which the HEAD numbers this cell, 0 while it does not, and `serial` the one CELL_TABLE holds at the hop so
computed: a far-reached cell takes the number only where that is its own. A cell that fails the check h + g = N + 1 is not
admitted. DESIGN CHOICE (notes/assumptions/55.md): a cell past hop 96, to which R42 leaves no hop number, keeps CADDR 0x0000
and PORT_ORIENT 0x00 and counts on. -/
def execEnumFrame (port : Nat) (frame : Bytes) (fend : FrameEnd) (n serial : Nat) (s : State) : Res :=
  .next (s.rxTyped port frame fend 1 false (fun r s =>
    if !s.isCell ∨ r.pl.length ≠ 4 then s
    else
      let o := otherPort port
      let dir := rd r.pl 2 1
      let up := s.portUp o
      let resend (q dir count rate : Nat) (s : State) : State :=
        let f := mkFrame 1 r.hdr.flags r.hdr.dst r.hdr.src r.hdr.seq r.hdr.aux r.hdr.cue
          [BitVec.ofNat 8 count, BitVec.ofNat 8 rate, BitVec.ofNat 8 dir, 0#8]
        s.forwardOut q f
      if dir = 2 then (if up then resend o 2 (rd r.pl 0 1) (rd r.pl 1 1) s else s)
      else if s.betweenHeads then (if up then resend o dir (rd r.pl 0 1) (rd r.pl 1 1) s else s)
      else
        let h := rd r.pl 0 1 + 1
        let rate := min (rd r.pl 1 1) (if up then min (s.rport port).rate (s.rport o).rate else (s.rport port).rate)
        let base := r.hdr.src / 128 * 128
        let nd := s.ring.node
        let s1 :=
          if dir = 0 then
            s.setNode (if 96 < h then { nd with caddr := 0, orient := 0, checked := true }
              else { nd with caddr := base + h, orient := port + 1, checked := true })
          else if nd.caddr ≠ 0 then
            if n = 0 ∨ hopOf nd.caddr + h = n + 1 then s.setNode { nd with checked := true }
            else (s.setNode { nd with checked := false }).unadmit
          else if n ≠ 0 ∧ h ≤ n ∧ n ≤ 96 ∧ serial = Config.unitSerial.toNat then
            s.setNode { nd with caddr := base + (n + 1 - h), orient := o + 1, checked := true }
          else s
        if up then resend o dir h rate s1 else resend port 2 h rate s1))

/-- The HEAD receives a returning ENUM frame on a ring port (R40, R41, R89). -/
def execEnumReturn (port : Nat) (frame : Bytes) (fend : FrameEnd) (cells : List CellId) (s : State) : Res :=
  .next (s.rxTyped port frame fend 1 true (fun r s =>
    if !s.activeHead ∨ r.pl.length ≠ 4 then s
    else
      let p := s.ringOfPort port
      s.enumBack p ((port == p) != s.pair.tookOver) r.pl cells))

/-- ENUM_CMD code 0x01 (R522, R523). -/
def execEnumReenumerate (acc : Accessor) (port : Nat) (s : State) : Res :=
  .next (s.guardedValue acc Obj.enumCmd (port * 256 + 1) (fun v => applyEnumCmd v))

/-- ENUM_CMD code 0x02 (R43, R44). -/
def execEnumCommission (acc : Accessor) (port : Nat) (s : State) : Res :=
  .next (s.guardedValue acc Obj.enumCmd (port * 256 + 2) (fun v => applyEnumCmd v))

/-- ENUM_CMD code 0x03 (R30). -/
def execEnumRemove (acc : Accessor) (port : Nat) (s : State) : Res :=
  .next (s.guardedValue acc Obj.enumCmd (port * 256 + 3) (fun v => applyEnumCmd v))

/-- A write of RING_ARM (R29 to R31). -/
def execRingArmWrite (acc : Accessor) (port v : Nat) (s : State) : Res :=
  .next (s.guardedValue acc (Obj.ringArm port) v (applyRingArm port))

/-- The HEAD receives a LINK notice (R112 to R114, R523). DESIGN CHOICE (notes/assumptions/53.md): a BREAK of a cell without a
number names no hop and moves no bound. -/
def execLinkFrame (port : Nat) (frame : Bytes) (fend : FrameEnd) (s : State) : Res :=
  .next (s.rxTyped port frame fend 4 true (fun r s =>
    if !s.activeHead ∨ r.pl.length ≠ 8 then s
    else
      let p := s.ringOfPort port
      let near := (port == p) != s.pair.tookOver
      let s1 := s.irqPost 4 6
      if rd r.pl 0 1 = 1 then (if hopOf r.hdr.src = 0 then s1 else s1.breakNotice p (hopOf r.hdr.src) near (rd r.pl 1 1))
      else if rd r.pl 0 1 = 2 then s1.healNotice p (rd r.pl 2 1)
      else s1))

/-- HEAL_HOLD CUEs have passed with both cells of the hop UP: the split is restored (R114), once the enumeration that the HEAL
notice asked for has found no other break (R523). -/
def execHealHoldExpiry (port : Nat) (s : State) : Res :=
  let r := s.ringRec port
  match r.heal with
  | some n =>
    if s.activeHead ∧ s.og Obj.healHold ≤ n ∧ !r.enumDue ∧ !r.enumBusy then .next (s.healed port) else .next s
  | none => .next s

/-- A frame is forwarded cut-through, ended with /E/ on errors (R106 to R108, R115). -/
def execFrameForward (port : Nat) (frame : Bytes) (fend : FrameEnd) (s : State) : Res :=
  .next (s.rxRing port frame fend true).st

/-- A port's background window opens (R109): the waiting frames start from now on, by rank (Table 03-9), as far as each
completes BG_GUARD before the start of the next CUE. -/
def openWindow (p : Nat) (s : State) : State :=
  (s.setPort p { s.rport p with bgCue := some s.tm.cue, bgAt := s.now12 }).pump p

/-- A CAPTURE frame of a cell's stream joins a port (R312): its records as they are read from the staging buffer. -/
def State.sendCapture (port n off : Nat) (recs : List Bytes) (s : State) : State :=
  let x := s.memLoad 4 (Config.stagingWord n) (s.stagePos n off) recs.flatten
  x.2.2.queueBg port 7 0x50 0 (s.ring.node.caddr / 128 * 128) 0 s.tm.cue (leBytes 1 n ++ leBytes 1 0 ++ leBytes 2 recs.length ++ x.1)

/-- The background window of a port opens (R109): at its first opening in a CUE the node's TIME, PROBE and PASS frames
(R481) and a CELL's CAPTURE frames join the queue. -/
def execBackgroundWindow (port : Nat) (s : State) : Res :=
  if portLive s port ∧ s.portUp port then
    if (s.rport port).bgCue = some s.tm.cue then .next (s.pump port)
    else
      let s1 := (s.queueTime port).passWindow port
      if s1.isCell ∧ s1.ring.node.servedBy = port then
        .next (openWindow port (s1.capCellFrames.foldl (fun s x => s.sendCapture port x.1 x.2.1 x.2.2) s1))
      else .next (openWindow port s1)
  else .next s

/-- VLOG_CMD 0x01 clears the log and every counter of the chapter (R116): the violation counters, CURTAIN_ECHO, VLOG_COUNT, and
of each lane the bit errors, the bits checked and the errors injected. -/
def clearRingLog (s : State) : State :=
  let s1 := (List.range 16).foldl (fun s c => (List.range 12).foldl (fun s p => s.oset (Obj.ringViol c p) 0) s) s
  let s2 := (List.range 12).foldl (fun s p =>
    (((s.oset (Obj.curtainEcho p) 0).rset (rngReg p 0x28) 0).rset (rngReg p 0x2C) 0).rset (rngReg p 0x3C) 0) s1
  (({ s2 with ring := { s2.ring with vlog := [] } }).oset Obj.vlogCount 0).rateCheck

def applyVlogCmd (v : Nat) (s : State) : Except Nat State := if v = 1 then .ok (clearRingLog s) else .error 5

/-- VLOG_CMD 0x01 (R116). -/
def execVlogCmdClear (acc : Accessor) (s : State) : Res := .next (s.guardedValue acc Obj.vlogCmd 1 applyVlogCmd)

/-- A read-clear register of a path: it returns the word and clears the bits returned (R11). -/
def readClear (path a : Nat) (s : State) : State :=
  (s.emit (.word path (s.rg a))).rset a 0

/-- A register of a lane window is served: the part runs outside FAULT_HOLD and the port exists. -/
def execRngPerrRead (path : Fin 3) (port : Nat) (s : State) : Res :=
  if portLive s port then .next (readClear path.val (rngReg port 0x28) s) else .next (s.emit (.word path.val 0))

/-- RNG_PBITS is read and cleared (R11, R117). -/
def execRngPbitsRead (path : Fin 3) (port : Nat) (s : State) : Res :=
  if portLive s port then .next (readClear path.val (rngReg port 0x2C) s) else .next (s.emit (.word path.val 0))

/-- A write of RNG_INJ (R119): MODE and COUNT are stored, GO starts the injection. COUNT 0 lies outside 1 to 255 and
starts nothing. DESIGN CHOICE (notes/assumptions/56.md): a write with MODE 0x0 lets an injection of modes 0x3 to 0x5 that still
runs go on. -/
def injStart (p v : Nat) (s : State) : State :=
  let s1 := s.rset (rngReg p 0x38) (fld v 15 8 * 256 + fld v 3 0)
  let mode := fld v 3 0
  let n := fld v 15 8
  let r := s1.rport p
  if !hasBit v 31 ∨ n = 0 ∨ mode = 0 ∨ 5 < mode then s1
  else if mode ≤ 2 then
    let a := rngReg p 0x3C
    (s1.rset a ((s1.rg a + n) % 2 ^ 32)).sendSym p 8 [BitVec.ofNat 8 mode, BitVec.ofNat 8 n]
  else s1.setPort p { r with injMode := mode, injLeft := n, injCue := none }

/-- GO of RNG_INJ (R119). -/
def execRngInjGo (port v : Nat) (s : State) : Res :=
  if portLive s port then .next (injStart port (setBit v 31) s) else .next s

/-- Raw bits reach the checker of a lane, numbered as `patReg` does: ring port p, or 12 + 2 l + n for lane n of cross-link l. It
counts bit errors and gains or loses lock (R117, R118, R143). -/
def execCheckerLock (lane : Nat) (bits : List Bool) (s : State) : Res :=
  let live := if lane < 12 then portLive s lane else s.headOn && decide (lane < 18)
  let test := if lane < 12 then (s.rport lane).st == .test else (s.xlink ((lane - 12) / 2)).st == .test
  .next (if live then s.checkBits lane test bits else s)

end Sys2Proof.Machine
end

