-- ==== Sys2Proof/Machine/SeatOps.lean ====
section
/-! DEFINITION. The control-authority token (R455 to R457, R524) and the parameter store (R460, R461). -/

namespace Sys2Proof.Machine

namespace State

/-! ### TOKEN_CMD -/

/-- The seat and session by which an accessor can hold the token; a core, the engine, the mirror and a ring request hold
none. -/
def tokenWho : Accessor → Option (Nat × Nat)
  | .path p => some (p.val, 0)
  | .hop n => some (3, n)
  | _ => none

/-- The seat and session hold the token. -/
def tokenIs (s : State) (t u : Nat) : Bool := s.seat.holder == some t && (t != 3 || s.seat.session == u)

/-- A request while another holds the token: the REQ bit, or the session's record; a new one raises source 1 of group 26
(R456, R524). -/
def tokenAsk (t u : Nat) (s : State) : State :=
  if t = 3 then
    if s.seat.reqSess.contains u then s
    else (s.seatSet fun w => { w with reqSess := w.reqSess ++ [u] }).irqPost 26 1
  else if hasBit s.seat.req t then s
  else (s.seatSet fun w => { w with req := setBit w.req t }).irqPost 26 1

/-- The seat's or session's request is withdrawn. -/
def tokenUnask (t u : Nat) (s : State) : State :=
  s.seatSet fun w =>
    if t = 3 then { w with reqSess := w.reqSess.filter (fun x => x != u) } else { w with req := clrBit w.req t }

/-- TOKEN_CMD by an accessor (Table 16-8, R456, R457, R524). -/
def applyTokenCmd (a : Accessor) (v : Nat) (s : State) : Except Nat State :=
  match tokenWho a with
  | none => .error (if 1 ≤ v ∧ v ≤ 5 then 6 else 5)
  | some (t, u) =>
    match v with
    | 1 =>
      if s.understudy || (s.isCell && s.ring.node.admitted) then .error 6
      else if s.seat.holder.isNone then .ok (s.tokenGive t u)
      else if s.tokenIs t u then .ok s
      else .ok (s.tokenAsk t u)
    | 2 => if s.tokenIs t u then .ok s.tokenPass else .error 6
    | 3 =>
      if !hasBit (s.og Obj.tokenForce) t then .error 3
      else if s.seat.holder.isNone then .ok s
      else if s.tokenIs t u then .ok s.leaseRestart
      else .ok (s.tokenGive t u)
    | 4 => if s.tokenIs t u then .ok s.leaseRestart else .error 6
    | 5 => .ok (s.tokenUnask t u)
    | _ => .error 5

/-- A seat's path is lost: the token it holds passes on (Table 16-8). -/
def tokenLost (t u : Nat) (s : State) : State := if s.tokenIs t u then s.tokenPass else s

/-- The lease expires (Table 16-8): TOKEN_LEASE ms of TB2 after it last started. -/
def tokenExpire (s : State) : State :=
  let ms := s.og Obj.tokenLease
  if s.seat.holder.isNone ∨ ms = 0 then s else (s.toTb2 (s.seat.leaseAt + ms * 1000000)).tokenPass

/-! ### Handover -/

/-- TAKEOVER_CMD (R403): a handover is requested unless the partner's verdict is UNFIT. -/
def applyTakeover (v : Nat) (s : State) : Except Nat State :=
  if v ≠ 1 then .error 5
  else if !s.activeHead ∨ rd s.pair.health 4 1 = 2 then .error 6
  else .ok { s with pair := { s.pair with handover := true } }

/-! ### The store -/

/-- Default of an object in the part's role. -/
def roleDflt (s : State) (k : Nat) : Nat :=
  if s.isCell ∧ k = Obj.groupSrc 0 then 2
  else if s.isCell ∧ k = Obj.seqRange 1 then 0
  else if s.isCell ∧ k = Obj.pantrySize then 2
  else Dict.dflt k

/-- Whether the key's object is a block or a string. -/
def keyDom (k : Nat) : Bool := match Dict.lookup k with | some r => isDom r.ty | none => false

/-- The entries of the store job (R460): every STORED object, and the active bank's program image (R332). -/
def storeCopy (s : State) : List (Nat × Nat) × List (Nat × Bytes) :=
  let ks := storedKeys s
  let img := if s.sl.act = 0 then (if s.sl.ok0 then s.sl.bank0 else []) else (if s.sl.ok1 then s.sl.bank1 else [])
  ((ks.filter (fun k => !keyDom k)).map (fun k => (k, s.og k)),
   (ks.filter keyDom).map (fun k => (k, s.dg k)) ++ (if s.isHead ∧ !img.isEmpty then [(Obj.slLoad, img)] else []))

/-- The PARAM entry of a value. -/
def paramEntry (k : Nat) (v : Bytes) : ParamEntry :=
  { idx := k / 256, sub := k % 256, ty := (match Dict.lookup k with | some r => tyCode r.ty | none => 12), value := v }

/-- An entry of a PARAM record as its bytes (R487). -/
def paramEntryBytes (e : ParamEntry) : Bytes :=
  leBytes 2 e.idx ++ leBytes 1 e.sub ++ leBytes 1 e.ty ++ leBytes 2 e.value.length ++ zeros 2 ++
    fit ((e.value.length + 3) / 4 * 4) e.value

/-- A PARAM record as its slot holds it (R487): the header of 32 bytes with its two CRCs, then the entries. -/
def paramBytes (r : ParamRec) : Bytes :=
  let body := r.entries.flatMap paramEntryBytes
  let h := leBytes 4 0x52505351 ++ leBytes 2 1 ++ leBytes 2 r.dict ++ leBytes 4 r.fw ++ leBytes 4 r.gen ++
    leBytes 4 r.entries.length ++ leBytes 4 body.length ++ leBytes 4 (crc32 body)
  h ++ leBytes 4 (crc32 h) ++ body

/-- The slot a store writes: the one that does not hold the record in use. -/
def storeTarget (s : State) : Nat := if s.og Obj.storeSlot = 1 then 2 else 1
/-- Set a PARAM slot. -/
def setParam (slot : Nat) (r : Option ParamRec) (s : State) : State :=
  s.memSet fun m =>
    let l := m.paramSpoilt.filter (fun x => x != 3 + slot)
    if slot = 1 then { m with paramA := r, paramSpoilt := l } else { m with paramB := r, paramSpoilt := l }

/-- STORE_CMD 0x01 (R460): the copy is taken, and the other PARAM slot is erased for it. -/
def storeStart (s : State) : State :=
  let c := s.storeCopy
  ((s.seatSet fun w => { w with store := some c }).setParam s.storeTarget none).oset Obj.storeState 1

/-- The record is written, or fails (R460, R473). The end of a store is a break of the idle count (R498). -/
def storeEnd (failed : Bool) (s : State) : State :=
  match s.seat.store with
  | none => s
  | some (fixed, doms) =>
    let t := s.storeTarget
    let s1 := (s.seatSet fun w => { w with store := none }).idleBreak
    let size (k : Nat) : Nat := Dict.width k
    if failed then ((s1.oset Obj.storeState 3).flashError (3 + t))
    else
      let g := inc 32 (s.og Obj.storeGen)
      let r : ParamRec :=
        { dict := rd s.mem.run 32 2, fw := rd s.mem.run 24 4, gen := g,
          entries := fixed.map (fun e => paramEntry e.1 (leBytes (size e.1) e.2)) ++ doms.map (fun e => paramEntry e.1 e.2) }
      ((s1.setParam t (some r)).storeUse t g 2).irqPost 26 2

/-- The record in use. -/
def recordInUse (s : State) : Option ParamRec :=
  match s.og Obj.storeSlot with
  | 1 => s.mem.paramA
  | 2 => s.mem.paramB
  | _ => none

/-- A restore is refused (R461): while an arm modulates, the sequence engine runs, or in an admitted cell. -/
def restoreBarred (s : State) : Bool :=
  (s.isHead && (s.og (Obj.modMode 0) != 0 || s.og (Obj.modMode 1) != 0 || s.sl.st == .run)) ||
    (s.isCell && s.ring.node.admitted)

/-- A key that a restore leaves as it is: a safety parameter, or SAFE_CRC, outside CONFIG (R346, R461). -/
def restoreSkips (s : State) (k : Nat) : Bool :=
  s.saf.st != .config && ((decide (0xA001 ≤ k / 256) && decide (k / 256 ≤ 0xA04F)) || k == Obj.safeCrc)

/-- Restore one object as an accepted write of its value; a value its own tests refuse is set as it stands. -/
def restoreOne (h : Nat → Bytes → State → Except Nat State) (k : Nat) (v : Bytes) (s : State) : State :=
  if s.restoreSkips k then s
  else
    match h k v s with
    | .ok t => t
    | .error _ => s.loadValue k v

/-- STORE_CMD (R460, R461, R488); `h` writes one object. -/
def applyStoreCmd (h : Nat → Bytes → State → Except Nat State) (v : Nat) (s : State) : Except Nat State :=
  if v = 0 ∨ 3 < v then .error 5
  else if s.og Obj.storeState = 1 then .error 6
  else if v = 1 then (if s.mem.st = .trial then .error 6 else .ok s.storeStart)
  else if s.restoreBarred then .error 6
  else if v = 2 then
    let s1 := (storedKeys s).foldl (fun s k =>
      s.restoreOne h k (if keyDom k then Dict.domDflt k else
        leBytes (Dict.width k) (s.roleDflt k))) s
    .ok ((s1.oset Obj.storeState 4).irqPost 26 3)
  else
    match s.recordInUse with
    | none => .error 6
    | some r =>
     if s.mem.paramSpoilt.contains (3 + s.og Obj.storeSlot) then .ok (s.flashError (3 + s.og Obj.storeSlot))
     else
      let img (e : ParamEntry) : Bool := Dict.key e.idx e.sub == Obj.slLoad
      let s1 := (r.entries.filter (fun e => !img e)).foldl (fun s e => s.restoreOne h (Dict.key e.idx e.sub) e.value) s
      .ok (((r.entries.filter img).foldl (fun s e => s.loadValue Obj.slLoad e.value) s1).irqPost 26 3)

/-- SEAT_VLOG_CMD 0x01 clears the seat log and its counters (R463). -/
def applySeatVlogCmd (v : Nat) (s : State) : Except Nat State :=
  if v = 1 then .ok ((s.seatSet fun w => { w with vlog := [], vcount := [] }).rateCheck) else .error 5

end State

end Sys2Proof.Machine
end

