-- ==== Sys2Proof/Machine/Xl.lean ====
section
/-! DEFINITION. Commands of the cross-links: bring-up, lanes, HELLO, peers, CURTAIN sets, the lane test (Cross-links between
HEAD parts). -/

namespace Sys2Proof.Machine

open State

/-- The link exists and its lanes may act. -/
def linkLive (s : State) (l : Nat) : Bool := s.headOn && decide (l < 3)

/-- EN of XL_CTRL (Table 04-1, first and last rows). -/
def execXlEnable (link : Nat) (on : Bool) (s : State) : Res :=
  if !linkLive s link then .next s
  else
    let a := xlReg link 0
    let s1 := s.rset a (putBit (s.rg a) 0 on)
    if on then .next (s1.startXl link)
    else .next (s1.xlDown link (fun s => (s.setXl link (xlBlank (s.xlink link) .off 0 s.tm.tb2)).xlLanes link true))

/-- TEST of XL_CTRL (Table 04-1); TEST on a link that is up takes both directions down (R143). The generators of both lanes
run while it is set. -/
def execXlTest (link : Nat) (on : Bool) (s : State) : Res :=
  if !linkLive s link then .next s
  else
    let a := xlReg link 0
    let s1 := s.rset a (putBit (s.rg a) 1 on)
    if on then
      if (s1.xlink link).st = .off then .next s1
      else
        let s2 := s1.xlDown link (fun s => s.setXl link (xlBlank (s.xlink link) .test 0 s.tm.tb2))
        .next ((s2.patSend (12 + 2 * link)).patSend (13 + 2 * link))
    else if (s1.xlink link).st = .test then .next (s1.xlToClock link 0)
    else .next (s1.startXl link)

/-- The forwarded clock has been present for 10 µs (Table 04-1): in CLOCK, once a silence of the lanes has ended, lane
alignment starts. -/
def execXlClockPresent (link : Nat) (s : State) : Res :=
  if !linkLive s link then .next s
  else
    let s1 := s.xlSilenceEnd link
    let k := s1.xlink link
    if k.st ≠ .clock then .next (if k.st = .off ∨ k.st = .test then s1 else s1.setXl link { k with clk := true })
    else .next (s1.setXl link { k with st := .align, clk := true, failA := 0, failB := 0, rx := 0, lock := 0, comma := 0 })

/-- A lane's alignment completes or fails (R123, R124). The lane's eye is given: per delay tap the 20-bit windows that
differed in 2,048 cycles, and the SLIP values at which the last 64 words are K28.5. The part runs the procedure over it and
leaves DLY and SLIP in XL_LCFGn; under MANUAL the values host software holds there decide. On a lost lane of a link in service
a good alignment starts the rejoin count (R141). DESIGN CHOICE (notes/assumptions/61.md): LANE_EN does not keep a lost lane from
the rejoin. -/
def execXlAlignDone (link lane : Nat) (errs : List Nat) (slips : Nat) (s : State) : Res :=
  let k := s.xlink link
  if !linkLive s link ∨ 1 < lane then .next s
  else
    let eye := (errs, slips)
    let c := xlReg link (0x10 + 4 * lane)
    let man := s.xlManual link
    let r := if man then (fld (s.rg c) 4 0, fld (s.rg c) 11 8, errs.getD (fld (s.rg c) 4 0) 1 == 0 && hasBit slips (fld (s.rg c) 11 8))
      else alignLane eye
    let s0 := s.setXl link (if lane = 0 then { k with eyeA := eye } else { k with eyeB := eye })
    let s1 := if man then s0 else (s0.rset c (r.2.1 * 256 + r.1)).rset (xlReg link (0x18 + 4 * lane)) 0
    let s2 := s1.laneSampled link lane
    let k2 := s2.xlink link
    if k.st = .align then
      if r.2.2 ∧ hasBit (s.xlLaneEn link) lane then
        .next ((s2.setXl link { k2 with rx := setBit k2.rx lane, lock := setBit k2.lock lane }).alignCheck link)
      else
        let k3 := if lane = 0 then { k2 with failA := k2.failA + 1 } else { k2 with failB := k2.failB + 1 }
        .next ((s2.setXl link k3).alignCheck link)
    else if (s2.xlUp link ∨ k.st = .hello) ∧ !hasBit k.rx lane ∧ r.2.2 then
      let k3 := { k2 with lock := setBit k2.lock lane }
      .next (s2.setXl link (if lane = 0 then { k3 with rejoinA := some 0 } else { k3 with rejoinB := some 0 }))
    else .next s2

/-- A HELLO frame is received (R125, R37, R402). -/
def execHelloReceived (link lane : Nat) (frame : Bytes) (fend : FrameEnd) (s : State) : Res :=
  .next (s.rxXlTyped link lane frame fend 0x01 (fun r s => if r.pl.length = 16 then s.takeHello link r.pl else s))

/-- The HELLO interval: 1 µs in HELLO, 1 ms while the link is up (R124, R125). -/
def execHelloTimer (link : Nat) (s : State) : Res :=
  if linkLive s link ∧ (s.xlUp link ∨ (s.xlink link).st = .hello) then .next (s.xlHello link) else .next s

/-- A /L/ symbol is received (R121, R138, R141). -/
def execLaneMaskSymbol (link mask : Nat) (s : State) : Res :=
  if linkLive s link then .next (s.xlTakeL link (mask % 4)) else .next s

/-- A receive lane loses lock (R122, R138): the frame in progress on it, `frame` so far as it has arrived (empty: none), is
discarded and counted in XL_LOST, a ring frame relayed from it ends with /E/, /L/ without the lane is sent; the last lane's
loss takes the link down. -/
def execXlLaneLoss (link lane : Nat) (frame : Bytes) (s : State) : Res :=
  let k := s.xlink link
  if !linkLive s link ∨ 1 < lane ∨ !hasBit k.lock lane then .next s
  else
    let k1 := { k with lock := clrBit k.lock lane, comma := clrBit k.comma lane, rx := clrBit k.rx lane,
                       rejoinA := if lane = 0 then none else k.rejoinA, rejoinB := if lane = 1 then none else k.rejoinB,
                       rxWait := false }
    if hasBit k.rx lane ∧ (s.xlUp link ∨ k.st = .hello) then
      let s3 := (s.setXl link { k1 with st := xlWidthSt k1 }).xlLaneCut link lane frame
      if k1.rx = 0 ∧ s.xlUp link then .next (s3.xlDown link (fun s => s.xlToClock link 2))
      else .next (s3.xlSendL link k1.rx)
    else .next (s.setXl link k1)

/-- The forwarded clock is lost for 32 XLK cycles, which takes both lanes, or both lanes of a direction are lost (R122, Table
04-1, R404): a link in service goes down; `frame0` and `frame1` are what has arrived of the frames in progress on its lanes
(R138). DESIGN CHOICE (notes/assumptions/47.md): in CLOCK, ALIGN and HELLO the lanes lose clock and lock and the state stays,
since the table has no row for them. -/
def execXlLinkDown (link : Nat) (frame0 frame1 : Bytes) (s : State) : Res :=
  let k := s.xlink link
  let cut (lane : Nat) (frame : Bytes) (s : State) : State := if hasBit k.rx lane then s.xlLaneCut link lane frame else s
  if !linkLive s link then .next s
  else if s.xlUp link then .next ((cut 1 frame1 (cut 0 frame0 s)).xlDown link (fun s => s.xlToClock link 2))
  else .next (s.setXl link { k with clk := false, lock := 0, comma := 0, rx := 0, rejoinA := none, rejoinB := none })

/-- REJOIN_HOLD clean CUEs have passed on a lost lane: /L/ with both lanes is sent (R141). DESIGN CHOICE
(notes/assumptions/61.md): also for a lane that LANE_EN does not permit. -/
def execRejoinHoldExpiry (link lane : Nat) (s : State) : Res :=
  let k := s.xlink link
  let n := if lane = 0 then k.rejoinA else k.rejoinB
  match n with
  | some c =>
    if linkLive s link ∧ (s.xlUp link ∨ k.st = .hello) ∧ s.og Obj.rejoinHold ≤ c ∧ lane ≤ 1 then
      let k1 := { k with rx := setBit k.rx lane, rejoinA := if lane = 0 then none else k.rejoinA,
                         rejoinB := if lane = 1 then none else k.rejoinB, rxWait := true }
      let s1 := (s.setXl link { k1 with st := xlWidthSt k1 }).xlSendL link k1.rx
      .next (if link = 0 then s1.release 49 lane else s1)
    else .next s
  | none => .next s

/-- A PEER frame is received (R39, R126 to R129, R244). -/
def execPeerFrame (link lane : Nat) (frame : Bytes) (fend : FrameEnd) (s : State) : Res :=
  .next (s.rxXlTyped link lane frame fend 0x40 (fun r s => s.takePeer link r.pl))

/-- An UNDERSTUDY receives a CURTAIN set on XL0: /C/ on every masked ring port in UP (R132, R133). -/
def execCurtainSetXl0 (lane : Nat) (set : Bytes) (s : State) : Res :=
  if !s.headOn ∨ !s.xlUp 0 then .next s
  else
    let r := s.repeatCs.curtSet 0 lane set
    if s.understudy then .next ((List.range 12).foldl (fun s p => if hasBit r.1 p then s.sendC p else s) r.2) else .next r.2

/-- A CURTAIN set arrives on XL1 or XL2 and demands PEER_GROUPS (R354); a bad set demands as a good one does. -/
def execCurtainSetPeer (link : Fin 2) (lane : Nat) (set : Bytes) (netHigh : Nat) (s : State) : Res :=
  let l := link.val + 1
  if !s.headOn ∨ !s.xlUp l then .next s
  else
    let r := s.curtSet l lane set
    .next ((r.2.safSet fun w => { w with peer := setBit w.peer l }).safUpdate netHigh)

/-- 256 XLK cycles (409.6 ns) without a CURTAIN set: the UNDERSTUDY stops sending /C/ on the masked ports (R132); the peer demand
ends (R354). -/
def execCurtainSetTimeout (link netHigh : Nat) (s : State) : Res :=
  match (s.xlink link).curtAt with
  | none => .next s
  | some t =>
    if !linkLive s link then .next s
    else
      let s1 := (s.toTb2 (t + 410)).repeatCs
      let s2 := s1.setXl link { s1.xlink link with curtAt := none, curtMask := 0 }
      if link = 0 then .next s2
      else .next ((s2.safSet fun w => { w with peer := clrBit w.peer link }).safUpdate netHigh)

/-- A read of XL_LSTATn returns TRN_ERR with LOCK and COMMA_OK and clears TRN_ERR (R123). -/
def execXlTrnErrRead (path : Fin 3) (link : Nat) (lane : Fin 2) (s : State) : Res :=
  if !linkLive s link then .next (s.emit (.word path.val 0))
  else
    .next ((s.emit (.word path.val (s.xlLstat link lane.val))).rset (xlReg link (0x18 + 4 * lane.val)) 0)

/-- XL_PERR is read and cleared (R143). -/
def execXlPerrRead (path : Fin 3) (link : Nat) (lane : Fin 2) (s : State) : Res :=
  if linkLive s link then .next (readClear path.val (xlReg link (0x48 + 0x40 * lane.val)) s) else .next (s.emit (.word path.val 0))

/-- XL_PBITS is read and cleared (R143). -/
def execXlPbitsRead (path : Fin 3) (link : Nat) (lane : Fin 2) (s : State) : Res :=
  if linkLive s link then .next (readClear path.val (xlReg link (0x4C + 0x40 * lane.val)) s) else .next (s.emit (.word path.val 0))

/-- GO of XL_INJ (R143): modes 0x1 and 0x2 spoil code groups, 0x3 and 0x4 frames, 0x5 holds the transmitter in electrical
idle for COUNT × 10 µs, in which the lane starts no frame. DESIGN CHOICE (notes/assumptions/62.md): a frame in progress ends
whole, and mode 0x5 counts from its end. -/
def xlInjStart (l lane v : Nat) (s : State) : State :=
  let s1 := s.rset (xlReg l (0x50 + 0x40 * lane)) (fld v 15 8 * 256 + fld v 3 0)
  let mode := fld v 3 0
  let n := fld v 15 8
  let k := s1.xlink l
  if !hasBit v 31 ∨ n = 0 ∨ mode = 0 ∨ 5 < mode then s1
  else if mode ≤ 2 then
    (s1.rset (xlInjCnt l lane) ((s1.rg (xlInjCnt l lane) + n) % 2 ^ 32)).emit (.xlSpoil l lane mode n)
  else if mode = 5 then
    let a := xlLane k lane
    let s2 := s1.setXl l (setXlLane k lane { a with busy := max a.busy s1.now12 + n * 800000, cur := none, run := 0 })
    (s2.rset (xlInjCnt l lane) (inc 32 (s2.rg (xlInjCnt l lane)))).emit (.xlSpoil l lane 5 n)
  else s1.setXl l (if lane = 0 then { k with injA := (mode, n, none) } else { k with injB := (mode, n, none) })

def execXlInjGo (link : Nat) (lane : Fin 2) (v : Nat) (s : State) : Res :=
  if linkLive s link then .next (xlInjStart link lane.val (setBit v 31) s) else .next s

/-- XL_VLOG_CMD 0x01 clears the log and counters (Table 04-9). DESIGN CHOICE (notes/assumptions/47.md): the counters are the
violation counters 0x3810 to 0x381B; XL_LOST and SNAP_LATE (0x3806) keep their values. -/
def clearXlLog (s : State) : State :=
  let s1 := (List.range 12).foldl (fun s c => (List.range 3).foldl (fun s l => s.oset (Obj.xlViol c l) 0) s) s
  ({ s1 with xl := { s1.xl with vlog := [] } }).rateCheck
def applyXlVlogCmd (v : Nat) (s : State) : Except Nat State := if v = 1 then .ok (clearXlLog s) else .error 5
def execXlVlogCmdClear (acc : Accessor) (s : State) : Res := .next (s.guardedValue acc Obj.xlVlogCmd 1 applyXlVlogCmd)

/-- XL0 is not up within 500 ms of reset: a stored ACTIVE HEAD proceeds without its partner (Table 01-6). -/
def execStandingPartnerTimeout (s : State) : Res :=
  if s.headOn ∧ s.pw.standing = .waiting ∧ s.og Obj.headStanding = 1 ∧ !s.xlUp 0 then
    .next ((s.takeStanding .active).pwSet fun w => { w with partnerAbsent := true })
  else .next s

end Sys2Proof.Machine
end

