-- ==== Sys2Proof/Machine/ObjWrite.lean ====
section
/-! DEFINITION. What a write of each object does, whatever its path (R439, R440): the owning chapter's range and state
tests and its effect. -/

namespace Sys2Proof.Machine

namespace State

/-! ### Objects whose ranges the table of ranges cannot hold -/

/-- A binary32 value inside a closed range. -/
def f32Within (lo hi : Rat) (v : Nat) : Bool := F32.finite v && decide (lo ≤ F32.val v) && decide (F32.val v ≤ hi)

/-- Store a value that passes a test of its own. -/
def testWrite (k v : Nat) (ok : Bool) (s : State) : Except Nat State := if ok then .ok (s.oset k v) else .error 5

/-- HEAD_STANDING and PAIR_ID (Table 01-6): a write in CONFLICT settles the standing again. -/
def applyStandingObj (k v : Nat) (s : State) : Except Nat State :=
  match s.plainWrite k v with
  | .ok t => .ok (if t.pw.standing = .conflict then t.settle else t)
  | .error c => .error c

/-- The class range of a source (Table 14-1). -/
def fltRange (src : Nat) : Nat × Nat :=
  if src = 0 then (4, 4)
  else if src = 38 then (3, 3)
  else if 61 ≤ src then (1, 1)
  else if src = 1 ∨ src = 12 ∨ src = 23 then (2, 4)
  else if [9, 10, 11, 15, 17, 18, 19, 20, 21, 22, 33, 36, 58].contains src then (1, 4)
  else if [16, 24, 25, 26, 27, 28, 29, 30, 34, 37, 44, 45, 46, 47].contains src then (1, 3)
  else (1, 2)
/-- FLT_CLASS (R385). -/
def applyFltClass (src v : Nat) (s : State) : Except Nat State :=
  let r := fltRange src
  s.testWrite (Obj.fltClass src) v (decide (r.1 ≤ v ∧ v ≤ r.2))

/-- COAST_HOLD and COAST_LIMIT (R215): the limit lies above the hold. -/
def applyCoast (k v : Nat) (s : State) : Except Nat State :=
  if !rangeOk k v then .error 5
  else if k = Obj.coastHold then (if s.og Obj.coastLimit ≤ v then .error 6 else .ok (s.oset k v))
  else if v ≤ s.og Obj.coastHold then .error 5
  else .ok (s.oset k v)

/-- T_DERATE and T_MAX: T_MAX lies above T_DERATE (Table 08-7). -/
def applyTemps (k v : Nat) (s : State) : Except Nat State :=
  let lo := if k = Obj.tDerate then toI 16 v else s.oi 16 Obj.tDerate
  let hi := if k = Obj.tDerate then s.oi 16 Obj.tMax else toI 16 v
  if lo < hi then .ok (s.oset k v) else .error 5

/-- A cell's trip, force and debug set-up: the outputs follow the causes that act after it (R205, R207). -/
def forcedWrite (k v : Nat) (s : State) : Except Nat State :=
  match s.plainWrite k v with
  | .ok _ => .ok (s.withForce (fun s => s.oset k v))
  | .error c => .error c

/-- REP_VCAP and REP_TEMP name entries 0 to 63, or none (Table 10-9); REP_VCAP 0xFF is refused while SQ0 is reserved
(R284). -/
def applyRep (k v : Nat) (s : State) : Except Nat State :=
  if 64 ≤ v ∧ v ≠ 0xFF then .error 5
  else if k = Obj.repVcap ∧ v = 0xFF ∧ s.seqReserved 0 then .error 6
  else .ok (s.oset k v)

/-- A source signal (R242). -/
def applySrc (k v : Nat) (s : State) : Except Nat State := s.testWrite k v (s.sigOk v)

/-- VREF_TERM (R255): its kind, NCO and source codes. -/
def applyVref (k : Nat) (d : Bytes) (s : State) : Except Nat State :=
  if rd d 0 1 ≤ 2 ∧ rd d 1 1 ≤ 1 ∧ s.sigOk (rd d 2 2) ∧ s.sigOk (rd d 4 2) ∧ rd d 6 2 = 0 then .ok (s.dset k d)
  else .error 5

/-- OCV_TABLE rises with SOC (R231). -/
def applyOcv (d : Bytes) (s : State) : Except Nat State :=
  if (List.range 16).all (fun i => decide (rd d (2 * i) 2 < rd d (2 * i + 2) 2)) then .ok (s.dset Obj.ocvTable d)
  else .error 5

/-- PANTRY_SIZE (Table 11-8): up to 32 MiB in a HEAD, 8 in a CELL. -/
def applyPantry (v : Nat) (s : State) : Except Nat State :=
  s.testWrite Obj.pantrySize v (decide (1 ≤ v) && decide (v ≤ if s.isHead then 32 else 8))

/-- UPD_TARGET (R479): 0x02 in a HEAD only. -/
def applyUpdTarget (v : Nat) (s : State) : Except Nat State := s.testWrite Obj.updTarget v (v == 1 || (v == 2 && s.isHead))

/-- IRQ_ROUTE and the routing tests by the accessor's target (R414, R415). -/
def applyIrqObj (a : Accessor) (i j v : Nat) (s : State) : Except Nat State :=
  let k := Dict.key i j
  let t := accTarget a
  match i with
  | 0xC000 => applyIrqRoute t (j - 1) v s
  | 0xC006 => applyIrqDmode (j - 1) v s
  | 0xC007 => applyIrqFlow (j - 1) v s
  | 0xC008 => .ok (s.irqEnRaw t (j - 1) v)
  | 0xC00A => applyIrqFallback (j - 1) v s
  | 0xC010 => .ok (s.eoi t v)
  | 0xC020 => if j = 3 then .ok (s.dspDoneBy t v) else applyDspCmd t v s
  | 0xC031 | 0xC032 => applyDspWm t (j - 1) k v s
  | 0xC040 => applyIrqVlogCmd v s
  | _ => s.plainWrite k v

/-! ### By chapter -/

/-- Ranges 0x2000 to 0x2FFF: CUE and time. -/
def timeObj (i j v : Nat) (s : State) : Except Nat State :=
  let k := Dict.key i j
  match i with
  | 0x2000 => applyCuePeriod v s
  | 0x2013 => applyReAnchor v s
  | 0x2020 => if j = 5 then applyTb1Cmd v s else s.plainWrite k v
  | 0x2031 => if j = 0 then applyTb3 v s else applyTb3Rate v s
  | 0x2040 => if j = 0 then applySyncMode v s else if j = 9 then applySyncCmd v s else s.plainWrite k v
  | 0x2050 | 0x2051 | 0x2052 | 0x2053 | 0x2054 | 0x2055 | 0x2056 | 0x2057 =>
    if j = 6 then applyTevtArm (i - 0x2050) v s else s.plainWrite k v
  | 0x2060 | 0x2061 | 0x2062 => if j = 4 then applyEdgeOverrun (i - 0x2060) v s else s.plainWrite k v
  | _ => s.plainWrite k v

/-- Ranges 0x3000 to 0x5FFF: rings, cross-links, modulation and SIEVE. -/
def ringObj (i j v : Nat) (s : State) : Except Nat State :=
  let k := Dict.key i j
  match i with
  | 0x3010 => applyRingArm (j - 1) v s
  | 0x3021 => applyEnumCmd v s
  | 0x3052 => applyVlogCmd v s
  | 0x3821 => applyXlVlogCmd v s
  | 0x4001 => applyArmBridge (j - 1) v s
  | 0x4002 => applyModMode (j - 1) v s
  | 0x5006 => s.testWrite k v (f32Within 0 10000 v)
  | 0x500C => applyKeyGate (j - 1) v s
  | 0x500D => applySortCmd (j - 1) v s
  | 0x500E => applyOrderHold (j - 1) v s
  | _ => s.plainWrite k v

/-- Ranges 0x6000 to 0x6FFF: switching and battery. -/
def cellObj (i j v : Nat) (s : State) : Except Nat State :=
  let k := Dict.key i j
  match i with
  | 0x6004 => if j = 5 then applyBypCmd v s else s.plainWrite k v
  | 0x6005 => applyCoast k v s
  | 0x6006 | 0x6012 => s.forcedWrite k v
  | 0x6013 => applyTripClr v s
  | 0x6020 =>
    if j = 0 then applyCarMode k v s else if j = 2 then applyShPer v s else if j = 3 then applyShDuty v s
    else s.plainWrite k v
  | 0x6800 =>
    if j = 0 then applyBatMode v s else if j = 1 then applyBatTest v s else if j = 3 then applyBatCmd v s
    else s.plainWrite k v
  | 0x6801 => if j = 2 then s.testWrite k v (f32Within (1 / 100) 1000 v) else s.plainWrite k v
  | 0x6804 => applyTemps k v s
  | 0x6807 => if 2 ≤ j ∧ j < 6 then applyBatAinT (j - 2) k v s else s.plainWrite k v
  | 0x6808 => if j = 3 then applySocSet v s else s.plainWrite k v
  | 0x6881 => s.testWrite k v (f32Within 0 64 v)
  | _ => s.plainWrite k v

/-- Range 0x7000 to 0x77FF: loops. -/
def loopObj (i j v : Nat) (s : State) : Except Nat State :=
  let k := Dict.key i j
  match i with
  | 0x7002 => applyGtabPoke (j - 1) v s
  | 0x7003 => applyLoopFlags (j - 1) v s
  | 0x7004 => applyLoopShift 22 (j - 1) v s
  | 0x7005 => applyLoopShift 24 (j - 1) v s
  | 0x7006 => applyFfGain (j - 1) v s
  | 0x7007 => applyLoopLimit 0 (j - 1) v s
  | 0x7008 => applyLoopLimit 1 (j - 1) v s
  | 0x7009 => applyLoopLimit 2 (j - 1) v s
  | 0x700A => applyLoopLimit 3 (j - 1) v s
  | 0x700B => applyIntSet (j - 1) v s
  | 0x7020 => applyGroupSrc (j - 1) v s
  | 0x7040 | 0x7042 | 0x7052 => applySrc k v s
  | 0x7051 => s.testWrite k v (f32Within 0 1000 v)
  | 0x7060 => if j = 6 then applyInjCmd v s else s.plainWrite k v
  | _ => s.plainWrite k v

/-- Range 0x7800 to 0x8FFF: measurement and capture. -/
def measObj (i j v : Nat) (s : State) : Except Nat State :=
  let k := Dict.key i j
  match i with
  | 0x7810 => applySeqTrig (j - 1) v s
  | 0x7811 => applySeqRange (j - 1) v s
  | 0x7812 | 0x7814 => applySeqPlain k (j - 1) v s
  | 0x7813 => applySeqPeriod (j - 1) v s
  | 0x7815 => applySeqCmd (j - 1) v s
  | 0x7840 => applyRefEn v s
  | 0x7842 => applyCalCmd v s
  | 0x7850 => if j = 5 then s.plainWrite k v else applyRep k v s
  | 0x8014 => s.plainWrite k v
  | 0x8020 => applyCapCmd (j - 1) v s
  | 0x8030 => applyPantry v s
  | 0x8033 => if j = 3 then applyWinRelease v s else s.plainWrite k v
  | _ => if 0x8001 ≤ i ∧ i ≤ 0x8013 then applyCap k (j - 1) v s else s.plainWrite k v

/-- Ranges 0x9000 to 0xBFFF: sequence logic, safety, faults. -/
def slObj (i j v : Nat) (s : State) : Except Nat State :=
  let k := Dict.key i j
  match i with
  | 0x9000 => applySlCmd v s
  | 0x9001 => applySlCues v s
  | 0x9005 => applyStnLost v s
  | 0x9006 => applyReadmit v s
  | 0x9010 => applySlChange v s
  | 0x9022 => applyModeLead v s
  | 0x9082 => if j = 1 then s.testWrite k v (decide (v < 64) || v == 0xFF) else s.plainWrite k v
  | 0xA000 => if j = 1 then applySafeCmd v s else applySafeParam k v s
  | 0xB001 => applyFltCmd v s
  | 0xB002 => applyFltClass (j - 1) v s
  | 0xB010 => applyFenceCmd v s
  | 0xB020 => if j = 0 then applyTakeover v s else s.plainWrite k v
  | _ => if 0xA001 ≤ i ∧ i ≤ 0xA04F then applySafeParam k v s else s.plainWrite k v

/-- Ranges 0x1000 to 0x1FFF and 0xD000 to 0xEFFF: identity, memory, power; STORE_CMD has its own place. -/
def unitObj (a : Accessor) (i j v : Nat) (s : State) : Except Nat State :=
  let k := Dict.key i j
  match i with
  | 0x1011 => applyStandingObj k v s
  | 0x1020 => if j = 1 then applyTokenCmd a v s else s.plainWrite k v
  | 0x1070 => applySeatVlogCmd v s
  | 0xD000 => if j = 6 then applyMemInj v s else s.plainWrite k v
  | 0xD020 => if j = 1 then applyUpdCmdAll v s else if j = 2 then applyUpdTarget v s else s.plainWrite k v
  | 0xD021 => if j = 0 then applyPassCmd v s else s.plainWrite k v
  | 0xE000 => if j = 1 then applyPwrCmd v s else s.plainWrite k v
  | 0xE002 => applyAuxEn v s
  | 0xE003 => s.testWrite k v (F32.finite v)
  | _ => s.plainWrite k v

/-- Block and string objects. -/
def domObj (a : Accessor) (i j : Nat) (d : Bytes) (s : State) : Except Nat State :=
  let k := Dict.key i j
  match i with
  | 0x6808 => applyOcv d s
  | 0x7000 => applyLoopDesc (j - 1) d s
  | 0x7001 => applyLoopGtab (j - 1) d s
  | 0x7041 => applyVref k d s
  | 0x7820 => applySeqTable false d s
  | 0x7821 => applySeqTable true d s
  | 0x8000 => applyCapSig (j - 1) d s
  | 0x9004 => applyStations d s
  | 0x9010 => applySlLoad d s
  | 0x9011 => applyForceTable d s
  | 0x9021 => applyProfile true k d s
  | 0x9022 => applyModeReq d s
  | 0x9081 => applyProfile false k d s
  | 0xA060 => applySafeTest d s
  | 0xC020 => applyDspPush (accTarget a) d s
  | 0xD020 => applyUpdData d s
  | _ =>
    if 0xA001 ≤ i ∧ i ≤ 0xA04F then applySafeDom k d s
    else .ok (s.dset k (match Dict.lookup k with | some r => fit r.len d | none => d))

/-- What a write of an object other than STORE_CMD does, by the data as bytes. -/
def objEffect (a : Accessor) (k : Nat) (d : Bytes) (s : State) : Except Nat State :=
  let i := k / 256
  let j := k % 256
  if keyDom k then s.domObj a i j d
  else
    let v := leNat d
    if i < 0x2000 then s.unitObj a i j v
    else if i < 0x3000 then s.timeObj i j v
    else if i < 0x6000 then s.ringObj i j v
    else if i < 0x7000 then s.cellObj i j v
    else if i < 0x7800 then s.loopObj i j v
    else if i < 0x9000 then s.measObj i j v
    else if i < 0xC000 then s.slObj i j v
    else if i < 0xD000 then s.applyIrqObj a i j v
    else s.unitObj a i j v

/-- What a write of any object does. -/
def objHandler (a : Accessor) (k : Nat) (d : Bytes) (s : State) : Except Nat State :=
  if k = Obj.storeCmd then s.applyStoreCmd (fun k d s => s.objEffect a k d) (leNat d) else s.objEffect a k d

/-- What an access leaves behind besides its answer: a route write without rights is logged (R435), a refused offer has
its reason or its conflict (R478). -/
def writeAside (a : Accessor) (k : Nat) (d : Bytes) (s t : State) : State :=
  if s.writeTests a k d.length ≠ 0 then t
  else if k / 256 = 0xC000 then
    match applyIrqRoute (accTarget a) (k % 256 - 1) (leNat d) s with
    | .error 3 => t.irqLog 2 (accTarget a) (k % 256 - 1)
    | _ => t
  else if k = Obj.updData ∧ s.og Obj.updTarget = 1 then
    match applyUpdData d s with
    | .ok _ => t
    | .error _ => t.updRefused (rd d 0 4) (d.drop 4)
  else t

/-- A write of any object by an accessor (R439 to R441). -/
def writeObject (a : Accessor) (k : Nat) (d : Bytes) (s : State) : State :=
  if !s.running || !s.accPresent a then s
  else writeAside a k d s (s.guardedWrite a k d (fun s => s.objHandler a k d))

end State

end Sys2Proof.Machine
end

