-- ==== Sys2Proof/Machine/Saf.lean ====
section
/-! DEFINITION. Commands of the safety block, and the write of a conversion result, which feeds it (Safety functions;
R281). -/

namespace Sys2Proof.Machine

open State

/-- SAFE_CMD 0x01 (R345). -/
def execSafeCmdConfig (acc : Accessor) (s : State) : Res := .next (s.guardedValue acc Obj.safeCmd 1 applySafeCmd)

/-- SAFE_CMD 0x02 (R345, R346). -/
def execSafeCmdVerify (acc : Accessor) (s : State) : Res := .next (s.guardedValue acc Obj.safeCmd 2 applySafeCmd)

/-- The 10 ms check of the parameter CRC in RUN (R345, R346). -/
def execSafeCrcCheck (s : State) : Res :=
  if s.working ∧ s.saf.st = .run then
    let c := s.safCrc
    let s1 := s.oset Obj.safeCrcNow c
    .next (if c = s1.og Obj.safeCrc then s1 else s1.safLockout)
  else .next s

/-- The planes disagree or the clock monitor fails (R343, R345). -/
def execPlaneMismatch (s : State) : Res := if s.working then .next s.safLockout else .next s

/-- The safety inputs are sampled (R356 to R360). -/
def execSiSample (levels netHigh : Nat) (s : State) : Res :=
  if s.working then .next (s.siSample levels netHigh) else .next s

/-- A safe output's test pulse starts (R362): of the first output of a pair at the multiples of its period in TB2, of
the second half a period later; never while the pair's other output pulses. -/
def execSoTestPulse (out : Fin 4) (s : State) : Res :=
  let i := out.val
  let r := s.soRec i
  let other := s.soRec (if i % 2 = 0 then i + 1 else i - 1)
  if !s.working ∨ !r.on ∨ r.pulse.isSome ∨ other.pulse.isSome then .next s
  else
    let per := s.og (Obj.soTpPeriod i) * 1000000
    let off := if i % 2 = 0 then 0 else per / 2
    let t := (s.tm.tb2 + per - 1 - off) / per * per + off
    let t1 := if r.lastPulse = some t then t + per else t
    let s1 := s.toTb2 t1
    .next (s1.setSo i { r with pulse := some t1, lowSeen := false, lastPulse := some t1 })

/-- SO_TP_WIDTH ends and the output switches back on (R362); a demand meanwhile keeps it off (R379). -/
def execSoTestPulseEnd (out : Fin 4) (s : State) : Res :=
  let i := out.val
  let r := s.soRec i
  match r.pulse with
  | some t =>
    if s.working then
      let s1 := s.toTb2 (t + s.og (Obj.soTpWidth i) * 1000)
      .next (s1.setSo i { r with pulse := none, lows := 0, highs := 0 })
    else .next s
  | none => .next s

/-- A safe output's readback is sampled (R363). -/
def execSoReadbackSample (out : Fin 4) (level : Bool) (netHigh : Nat) (s : State) : Res :=
  if s.working then .next (s.soSample out.val level netHigh) else .next s

/-- A copy of a safe message arrives (R371). -/
def execSafeMessage (src : SafeIn) (netHigh : Nat) (s : State) : Res :=
  match src with
  | .ring port frame fend =>
    .next (s.rxTyped port frame fend 0x20 true (fun r s =>
      if s.addressed r.hdr then
        let p := s.ringOfPort port
        let path := if s.isCell then port else if (port == p) != s.pair.tookOver then 0 else 1
        (s.safRing p path r.hdr.src r.hdr.dst r.pl).safUpdate netHigh
      else s))
  | .net path msg => if s.headOn then .next ((s.safNet path.val msg).safUpdate netHigh) else .next s

/-- The next DATA message of a connection is due (R370): of the network TX_MS after the last, on a ring SCELL_TX CUEs
after it, of a cell by its hop, or within a CUE of a change of its data. -/
def execSafeTxTimer (conn : Nat) (s : State) : Res :=
  let r := s.sconn conn
  if s.activeHead ∧ conn < 16 then
    if s.sconnUsed conn then
      .next ((s.toTb2 (r.sentAt + rd (s.dg (Obj.sconnCfg conn)) 6 2 * 1000000)).safSend conn)
    else .next s
  else if s.activeHead ∧ 0x2000 ≤ conn ∧ conn < 0x200C then
    if rd (s.dg Obj.scellCfg) 0 2 ≤ subMod 32 s.tm.cue r.sentCue ∧ (s.portUp (conn - 0x2000) ∨ s.farReachable (conn - 0x2000)) then
      .next (s.safSend conn)
    else .next s
  else if s.cellOn ∧ conn = 0 ∧ s.ring.node.caddr ≠ 0 then
    let tx := max 1 (rd (s.dg Obj.scellCfg) 0 2)
    if (s.tm.cue + 2 ^ 32 - hopOf s.ring.node.caddr) % 2 ^ 32 % tx = 0 ∨ r.sentData ≠ s.safData then
      .next (s.safSend 0)
    else .next s
  else .next s

/-- WD passes without a new SCOUNT, or the echo lags for longer than WD: TIMEOUT (R372). -/
def execSafeWatchdogTimeout (conn : Nat) (s : State) : Res :=
  let r := s.sconn conn
  if !s.working ∨ r.st = 2 ∨ !s.sconnUsed conn ∨ (r.st = 0 ∧ (!s.sconnNet conn ∨ s.saf.st ≠ .run)) then .next s
  else
    let t := match r.lagAt with
      | some l => min (l + s.sconnWd conn) (r.at2 + s.sconnWd conn)
      | none => r.at2 + s.sconnWd conn
    let s1 := s.toTb2 t
    let s2 := (s1.setSconn conn { r with st := 2 }).connLog 5 conn (s1.sconnEcho conn)
    .next ((((s2.safIrq 5).raise 6 conn).diagStop).safUpdate 0)

/-- A path has carried no copy for 8 messages and is declared lost (R372). -/
def execSafePathLoss (conn : Nat) (path : Fin 2) (s : State) : Res :=
  let r := s.sconn conn
  if !s.working then .next s
  else if path.val = 0 then
    if 8 ≤ r.missA ∧ !r.lostA then .next ((s.setSconn conn { r with lostA := true }).raise 7 conn) else .next s
  else if 8 ≤ r.missB ∧ !r.lostB then .next ((s.setSconn conn { r with lostB := true }).raise 7 conn)
  else .next s

/-- 1,100 LTX cycles after the release of a ring the HEAD sends CURTAIN_LIFT with L = c + LIFT_LEAD (R350). -/
def execCurtainLiftDelay (ring : Nat) (s : State) : Res :=
  match Kv.get (fun _ => none) s.saf.relAt ring with
  | some t =>
    if s.activeHead ∧ !(s.ringRec ring).curtain then
      let s1 := s.toTb2 (t + 3520)
      let l := (s1.tm.cue + Kv.get (fun _ => 2) s1.saf.lead ring) % 2 ^ 32
      let s2 := s1.safSet fun w =>
        { w with relAt := Kv.put (fun _ => none) ring none w.relAt, lift := Kv.put (fun _ => none) ring (some l) w.lift }
      .next (s2.sendLift ring (s2.ringCast ring) l)
    else .next s
  | none => .next s

/-- No /C/ has arrived on the port for 64 LTX cycles: the demand ends (R353). -/
def execCurtainUnexpEnd (port netHigh : Nat) (s : State) : Res :=
  if s.activeHead ∧ hasBit s.saf.unexp port then
    let s1 := s.toTb2 (Kv.get (fun _ => 0) s.saf.unexpAt port + 205)
    .next ((s1.safSet fun w => { w with unexp := clrBit w.unexp port }).safUpdate netHigh)
  else .next s

/-- A write of SAFE_TEST (R376, R378). -/
def execSafeTestWrite (acc : Accessor) (d : Bytes) (s : State) : Res :=
  .next (s.guardedWrite acc Obj.safeTest d (applySafeTest d))

/-- The test window ends (R376 to R378). -/
def execSafeTestEnd (s : State) : Res :=
  match s.saf.test with
  | some t => if s.working then .next (s.safTestEnd t) else .next s
  | none => .next s

/-- A supply window comparator changes, ADC C inputs 17 to 23 (Table 13-7). -/
def execSupplyWindowComparator (input : Nat) (outside : Bool) (netHigh : Nat) (s : State) : Res :=
  if !s.running ∨ input < 17 ∨ 23 < input then .next s
  else
    let m := s.saf.supply
    if outside then
      .next ((((s.safSet fun w => { w with supply := setBit m input }).raise 9 input).diagStop).safUpdate netHigh)
    else .next (((s.safSet fun w => { w with supply := clrBit m input }).release 9 input).safUpdate netHigh)

/-- The newest results of ADC C's inputs 17 and 16: VIN_NOW with its window, T_DIE with its maximum and the THERMAL
warning (R518; objects 0xE003:00, 0xE004:00 and 0xE004:01; group 30 sources 0 and 1). -/
def State.monitorResult (k input : Nat) (s : State) : State :=
  let v := (s.adcRes k).value
  if k < 64 then s
  else if input = 17 then
    let out := decide (F32.val v < F32.val (s.og Obj.vinLo)) || decide (F32.val (s.og Obj.vinHi) < F32.val v)
    let s1 := (s.oset Obj.vinNow v).pwSet fun w => { w with vinOut := out }
    if out && !s.pw.vinOut then s1.irqPost 30 0 else s1
  else if input = 16 then
    let t := satS 16 (roundEven (F32.val v * 100))
    let s1 := s.oset Obj.tDie (ofI 16 t)
    let s2 := if s1.oi 16 Obj.tDieMax < t then s1.oset Obj.tDieMax (ofI 16 t) else s1
    let hot := decide (s2.oi 16 Obj.tDieWarn < t)
    let s3 := if hot && !(s2.fsrc 58).on.contains 0 then s2.irqPost 30 1 else s2
    s3.raiseIf hot 58 0
  else s

/-- A conversion completes and its result is written (R275, R277, R281, R288 to R290): the battery's temperatures, the
safety block and the streams that sample a sequence's end take it. -/
def execResultWrite (seq : Fin 8) (raws : List Rat) (netHigh : Nat) (s : State) : Res :=
  let q := seq.val
  let before := match openFirst (s.seqRec q) with | some ((_, _, e, _, _), _) => s.groupsTill 256 e | none => s
  if !s.running then .next s
  else
    match before.resultWrite q raws with
    | none => .next s
    | some (k, input, s1) =>
      let s2 := if q = 4 ∧ s1.seqReserved 4 then
          (match ((List.range 4).filter (fun i => s1.og (Obj.batAinT i) != 0xFF))[k - 124]? with
           | some i => s1.batTemp i k
           | none => s1)
        else s1
      let s3 := ((s2.monitorResult k input).measResult k).safUpdate netHigh
      let ended := !(s3.seqRec q).running || (s3.seqRec q).starts != (before.seqRec q).starts
      .next (if ended then s3.capBaseAll 3 (fun a => a == q) else s3)

end Sys2Proof.Machine
end

