-- ==== Sys2Proof/Machine/Sheets.lean ====
section
/-! DEFINITION. Commands of the cell rings' CUE traffic: sheets, reports, the CURTAIN (Cell rings). -/

namespace Sys2Proof.Machine

open State

/-- A SHEET frame reaches a node (R50, R57, R102, R163, R164); `at0` is the TB0 instant at which the cell's record is
complete. -/
def execSheetFrame (port : Nat) (frame : Bytes) (fend : FrameEnd) (at0 : Nat) (s : State) : Res :=
  .next (s.rxTyped port frame fend 0x10 false (fun r s =>
    if s.isCell then s.takeSheet port frame r at0 else s.seeSheet port r))

/-- At 350 ns into the CUE a cell assembles the measured fields of its report (R105, R191, R232, R292, R293). -/
def execReportAssembly (s : State) : Res :=
  if !s.cellOn then .next s
  else
    let s1 := (s.loopTo0 ((s.tm.cueStart + 2800) % 2 ^ 64)).reportMeasure
    .next (if s1.ring.node.admitted then s1.setNode { s1.ring.node with report := some s1.reportBytes } else s1)

/-- At 400 ns a cell launches its record (R52, R103, R111): the cell with i = 0 starts the train; another one sends the
train it has held, or waits for its train. -/
def execReportLaunch (s : State) : Res :=
  match s.ring.node.report with
  | some rep =>
    if !s.cellOn ∨ rep.length ≠ 28 then .next s
    else
      let s1 := s.loopTo0 ((s.tm.cueStart + 3200) % 2 ^ 64)
      let p := s1.reportPort
      let x := s1.ownRecord p (setFar rep (p + 1 != s1.ring.node.orient))
      let s2 := x.2.setNode { x.2.ring.node with report := some x.1, repPort := p }
      let n := s2.ring.node
      if n.index = 0 ∨ !n.held.isEmpty then
        .next ((s2.setNode { n with sentOwn := true, held := [] }).sendTrain p (!n.held.isEmpty) (n.held ++ [x.1]))
      else .next s2
  | none => .next s

/-- A passing report train reaches a cell (R104): forwarded with the own record behind it, or held until the launch. -/
def execReportTrain (port : Nat) (records : List Bytes) (s : State) : Res :=
  let n := s.ring.node
  let o := otherPort port
  if !s.cellOn ∨ !s.portUp port then .next s
  else
    match s.launched with
    | some own =>
      if n.repPort = o then
        .next ((s.setNode { n with sentOwn := true, trainSeen := true }).sendTrain o true (records ++ [own]))
      else .next (s.sendTrain o true records)
    | none =>
      if n.admitted ∧ !n.sentOwn ∧ s.reportPort = o then .next (s.setNode { n with held := n.held ++ records, trainSeen := true })
      else .next (s.sendTrain o true records)

/-- A cell with i > 0 whose train has not started to arrive starts its own at
400 ns + i·(28.8 ns + d) + TRAIN_GRACE (R104). -/
def execTrainGraceExpiry (s : State) : Res :=
  match s.launched with
  | some own =>
    let n := s.ring.node
    if !s.cellOn ∨ n.trainSeen then .next s
    else
      let d := s.og (Obj.hopDelay (otherPort n.repPort))
      let ps := 400000 + n.index * (28800 + d) + 1000 * s.og Obj.trainGrace
      let s1 := s.loopTo0 ((s.tm.cueStart + ps / 125) % 2 ^ 64)
      .next ((s1.setNode { s1.ring.node with sentOwn := true }).sendTrain n.repPort false [own])
  | none => .next s

/-- A report record arrives at a ring end (R54, R115, R386); an UNDERSTUDY relays it without a check (R135). -/
def execReportRecord (port : Nat) (record : Bytes) (s : State) : Res :=
  if !s.headOn ∨ !s.portUp port then .next s
  else if s.understudy then .next (if s.xlUp 0 then s.xlSend 0 0x12 port record else s)
  else if s.activeHead then .next (s.takeReport (s.ringOfPort port) port record)
  else .next s

/-- A cell receives /C/ (R92, R93, R95, R207, R208). DESIGN CHOICE (notes/assumptions/59.md): a /C/ on a port that is not in UP
is ignored. -/
def execCurtainSymbol (port : Nat) (s : State) : Res :=
  if s.cellOn ∧ s.portUp port then .next (s.cellCurtain port) else .next s

/-- A ring end receives /C/ (R96): an echo is counted, any other one is CURTAIN_UNEXP and goes to the safety block. -/
def execCurtainRingEnd (port : Nat) (s : State) : Res :=
  if !s.headOn ∨ !s.portUp port then .next s
  else
    let s1 := (s.setPort port { s.rport port with gotC := some s.tm.tb2 }).rngEvt port 3
    if s1.echoes port then .next (((s1.bump (Obj.curtainEcho port)).irqPost 4 7).unexpAgain port)
    else .next ((s1.ringLog port 0x0E 0xFFFF 0).safUnexp port)

/-- A CURTAIN_LIFT frame reaches a cell (R48, R95). -/
def execCurtainLiftFrame (port : Nat) (frame : Bytes) (fend : FrameEnd) (s : State) : Res :=
  .next (s.rxTyped port frame fend 6 true (fun r s =>
    if s.isCell ∧ s.addressed r.hdr ∧ r.pl.length = 4 then s.takeLift (rd r.pl 0 4) else s))

end Sys2Proof.Machine
end

