-- ==== Sys2Proof/Machine/Time.lean ====
section
/-! DEFINITION. Commands of the CUE and the time bases: period, time and probe frames, PTP, SYNC, time events, edge queues
(The CUE and the time bases), and the SIEVE and modulation writes (R154, R177, R178, R184). -/

namespace Sys2Proof.Machine

open State

/-- A write of CUE_PERIOD (R28, R46, R49). -/
def execCuePeriodWrite (acc : Accessor) (v : Nat) (s : State) : Res :=
  .next (s.guardedValue acc Obj.cuePeriod v applyCuePeriod)

/-- A PROBE frame arrives at a ring port, or (12 + l) on lane `lane` of cross-link l, with its arrival stamp (R63). -/
def execProbeFrame (port lane : Nat) (frame : Bytes) (fend : FrameEnd) (at0 : Nat) (s : State) : Res :=
  if port < 12 then
    .next (s.rxTyped port frame fend 3 false (fun r s => if r.pl.length = 24 then s.takeProbe port r.pl at0 else s))
  else
    .next (s.rxXlTyped (port - 12) lane frame fend 0x03 (fun r s => if r.pl.length = 24 then s.takeProbe port r.pl at0 else s))

/-- A TIME frame arrives (R64, R65): at a CELL's ring port, or at an UNDERSTUDY on XL0 (port 12). -/
def execTimeFrame (port lane : Nat) (frame : Bytes) (fend : FrameEnd) (at0 : Nat) (s : State) : Res :=
  if port < 12 then
    .next (s.rxTyped port frame fend 2 false (fun r s =>
      if s.isCell ∧ r.pl.length = 16 then s.cellTime port r.hdr r.pl at0 else s))
  else
    .next (s.rxXlTyped (port - 12) lane frame fend 0x02 (fun r s =>
      if s.understudy ∧ r.pl.length = 16 then
        s.servo (s.timeEst port r.pl) at0
          (decide (s.og Obj.delayAvg ≤ (Kv.get (fun _ => []) s.tm.probes port).length)) true
      else s))

/-- No valid time frame in 2 consecutive CUEs, the present one among them (Tables 02-5 and 02-6). -/
def execTimeFrameTimeout (s : State) : Res :=
  if !s.working ∨ s.activeHead ∨ s.tm.noFrame + b2n (!s.tm.frameSeen) < 2 then .next s
  else
    match s.tm.tb0State with
    | .acquire => .next (s.setTb0State .unsync)
    | .locked => .next ((s.tmSet fun t => { t with holdCount := 0 }).setTb0State .holdover)
    | _ => .next s

/-- TB0 becomes LOST: a CELL's outputs are forced safe until it is admitted and executes a record (Table 07-5). -/
def State.tb0Lost (s : State) : State :=
  s.withForce (fun s => (s.setTb0State .lost).pwmSet fun w => { w with notAdm := w.notAdm || s.isCell })

/-- The holdover count reaches HOLDOVER_LIMIT: TB0 is LOST and the time-lost fault is raised (Table 02-5). -/
def execHoldoverLimit (s : State) : Res :=
  if s.working ∧ s.tm.tb0State = .holdover ∧ s.og Obj.holdoverLimit ≤ s.tm.holdCount then
    .next ((s.tb0Lost).raise 25 0)
  else .next s

/-- A write of RE_ANCHOR (R68). -/
def execReAnchorWrite (acc : Accessor) (v : Nat) (s : State) : Res :=
  .next (s.guardedValue acc Obj.reAnchor v applyReAnchor)

/-- A RE_ANCHOR frame: accepted only while the gate outputs are safe, else refused with the answer for a value not acceptable
in the current state (R68). -/
def execReAnchorFrame (port : Nat) (frame : Bytes) (fend : FrameEnd) (s : State) : Res :=
  .next (s.rxTyped port frame fend 7 true (fun r s =>
    if !s.isCell ∨ !s.addressed r.hdr then s
    else if s.gatesSafe then s.tmSet fun t => { t with reanchor := true }
    else s.emit (.answer (.ring true 3) Obj.reAnchor 6)))

/-- A PTP message is of the domain the part uses (R70). -/
def ptpMine (s : State) (port domain : Nat) : Bool :=
  s.headOn && (port == 1 || port == 2) && domain == s.og Obj.ptpDomain

/-- A Sync of a master on network port A (1) or B (2): `master` is its time now in ns (R72). A logSyncInterval outside −4 to 0
is not accepted. With each Sync it takes, the part sends a Pdelay_Req of its own on the port, as the peer-to-peer delay
mechanism needs (R70). DESIGN CHOICE (notes/assumptions/17.md): the rule gives no interval for it. -/
def execPtpSync (port domain : Nat) (logInterval : Int) (master : Nat) (s : State) : Res :=
  if ptpMine s port domain ∧ s.tm.ptpPort = port ∧ -4 ≤ logInterval ∧ logInterval ≤ 0 then
    .next ((s.takeSync master).emit (.net port 5 (leBytes 1 domain ++ leBytes 8 s.tm.tb1)))
  else .next s

/-- An Announce: the master's data set, most significant field first, and its UTC offset (R70, R71). -/
def execPtpAnnounce (port domain : Nat) (rank : List Nat) (utc : Int) (s : State) : Res :=
  if !ptpMine s port domain then .next s
  else
    let m : PtpMaster := { rank := rank, utc := utc }
    .next ((s.tmSet fun t => if port = 1 then { t with masterA := some m } else { t with masterB := some m }).selectPort)

/-- Three announce intervals pass without an Announce: the master is declared lost (R70, R71). -/
def execAnnounceTimeout (port : Nat) (s : State) : Res :=
  if s.headOn ∧ (port = 1 ∨ port = 2) then .next (s.masterLost port) else .next s

/-- A Pdelay_Req is answered as a two-step responder: Pdelay_Resp with the receipt stamp, Pdelay_Resp_Follow_Up with the
response's (R70). `frame` is what the request identifies itself by. -/
def execPdelayReq (port domain : Nat) (frame : Bytes) (s : State) : Res :=
  if ptpMine s port domain then
    let t := leBytes 8 s.tm.tb1
    .next ((s.emit (.net port 3 (frame ++ t))).emit (.net port 4 (frame ++ t)))
  else .next s

/-- TB1_CMD 0x01 (R72). -/
def execTb1CmdReanchor (acc : Accessor) (s : State) : Res := .next (s.guardedValue acc Obj.tb1Cmd 1 applyTb1Cmd)

/-- A write of TB3 (R75). -/
def execTb3Write (acc : Accessor) (v : Nat) (s : State) : Res := .next (s.guardedValue acc Obj.tb3 v applyTb3)

/-- A SYNC edge with its TB0 stamp (R76, R77). -/
def execSyncEdge (rising : Bool) (at0 : Nat) (s : State) : Res :=
  let m := s.og Obj.syncMode
  if s.activeHead ∧ ((m = 1 ∧ rising) ∨ (m = 2 ∧ !rising)) then .next (s.syncEdge at0) else .next s

/-- An expected boundary had no accepted edge (Table 02-7). -/
def execSyncMiss (s : State) : Res :=
  if !s.activeHead ∨ s.tm.sync ≠ .track then .next s
  else
    let n := s.tm.syncMiss + 1
    let s1 := s.tmSet fun t => { t with syncMiss := n }
    if s.og Obj.syncMissLimit ≤ n then .next (s1.dropCorr.setSync .free) else .next s1

/-- A write of SYNC_MODE (R78). -/
def execSyncModeWrite (acc : Accessor) (v : Nat) (s : State) : Res := .next (s.guardedValue acc Obj.syncMode v applySyncMode)

/-- SYNC_CMD 0x01 (R78). -/
def execSyncCmdReacquire (acc : Accessor) (s : State) : Res := .next (s.guardedValue acc Obj.syncCmd 1 applySyncCmd)

/-- A time event's instant comes and it fires (R79, R80). -/
def execTevtFire (n : Fin 8) (s : State) : Res :=
  let i := n.val
  let m := s.og (Obj.tevtMode i)
  if s.working ∧ s.og (Obj.tevtArm i) = 1 ∧ m ≠ 0 ∧ m ≤ 3 ∧ !(s.tevt i).done then .next ((s.tevtWait i).tevtFire i) else .next s

/-- A write of ARM (R80). -/
def execTevtArm (acc : Accessor) (n : Fin 8) (v : Nat) (s : State) : Res :=
  .next (s.guardedValue acc (Obj.tevtArm n.val) v (applyTevtArm n.val))

/-- An edge at the CAP0, CAP1 or SYNC ball, `after` units of 125 ps from now (R81): the entry's instant is the edge's, so the
fixed input delay does not show in it. -/
def execCaptureEdge (input : Fin 3) (falling : Bool) (after : Nat) (s : State) : Res :=
  if s.working then .next ((s.elapse after).captureEdge input.val falling) else .next s

/-- A read of ENTRY returns and removes the oldest entry (R81); an empty queue reads as 40 bytes of 0. -/
def execEntryRead (acc : Accessor) (input : Fin 3) (s : State) : Res :=
  let i := input.val
  .next (s.guardedRead acc (Obj.edgeEntry i)
    (fun s => match s.edges i with | e :: _ => entryBytes e | [] => zeros 40)
    (fun s => s.setEdges i ((s.edges i).drop 1)))

/-- A write of MOD_MODE (R154). -/
def execModModeWrite (acc : Accessor) (arm : Fin 2) (v : Nat) (s : State) : Res :=
  .next (s.guardedValue acc (Obj.modMode arm.val) v (applyModMode arm.val))

/-- A write of SORT_CMD (R178, Table 06-2). -/
def execSortCmdWrite (acc : Accessor) (arm : Fin 2) (v : Nat) (s : State) : Res :=
  .next (s.guardedValue acc (Obj.sortCmd arm.val) v (applySortCmd arm.val))

/-- A write of KEY_GATE: 1 holds the weights in effect, 0 lets the written ones take effect (R177). -/
def execKeyGateWrite (acc : Accessor) (arm : Fin 2) (v : Nat) (s : State) : Res :=
  .next (s.guardedValue acc (Obj.keyGate arm.val) v (applyKeyGate arm.val))

/-- A write of ORDER_HOLD (R184). -/
def execOrderHoldWrite (acc : Accessor) (arm : Fin 2) (v : Nat) (s : State) : Res :=
  .next (s.guardedValue acc (Obj.orderHold arm.val) v (applyOrderHold arm.val))

end Sys2Proof.Machine
end

