-- ==== Sys2Proof/Machine/ObjRead.lean ====
section
/-! DEFINITION. What a read of each object returns, whatever its path (R439 to R443): values the machine holds beside the
object stores, blocks put together from them, the copy buffers, and what a read does. -/

namespace Sys2Proof.Machine

/-- The 16 bytes of a log entry (R116). -/
def VEntry.bytes (e : VEntry) : Bytes :=
  leBytes 8 e.tb2 ++ leBytes 1 e.port ++ leBytes 1 e.code ++ leBytes 2 e.src ++ leBytes 4 e.detail

namespace State

/-- A violation log as it is read. -/
def vlogBytes (l : List VEntry) : Bytes := (logShown l).flatMap VEntry.bytes

/-! ### Values by chapter -/

def portCode : PortState → Nat
  | .off => 0 | .detect => 1 | .offer => 2 | .train => 3 | .up => 4 | .test => 5
def xlCode : XlState → Nat
  | .off => 0 | .clock => 1 | .align => 2 | .hello => 3 | .up2 => 4 | .up1 => 5 | .test => 6

/-- RING_STATUS (Table 03-12): of ring port p in a HEAD, of the cell itself in a CELL. -/
def ringStatus (s : State) (p : Nat) : Nat :=
  if s.isHead then
    let r := s.ringRec p
    r.breakLo * 2 ^ 24 + r.breakHi * 2 ^ 16 + r.plan.split % 256 * 256 +
      packBits [false, false, r.enumerated, r.admitted, r.heal.isSome, r.hopSlow, r.slow,
                r.admitted && s.pw.ringMode == 3]
  else if p = 0 then
    let n := s.ring.node
    packBits [false, false, false, s.portUp 1, s.portUp 0, s.curtHeld,
              n.orient != 0 && n.servedBy + 1 != n.orient, n.orient == 2]
  else 0

def batCode : BatSt → Nat
  | .off => 0 | .ready => 1 | .run => 2 | .fault => 3
def capStCode : CapSt → Nat
  | .stopped => 0 | .armed => 1 | .holdoff => 2 | .disarmed => 3
def slCode : SlSt → Nat
  | .stop => 0 | .run => 1 | .halted => 2
def chgCode : ChgSt → Nat
  | .none => 0 | .verifying => 1 | .armed => 2 | .switched => 3 | .rejected => 4
def modeStCode : ModeSt → Nat
  | .idle => 0 | .opened => 1 | .committed => 2 | .applied => 3
def safCode : SafSt → Nat
  | .config => 0 | .verify => 1 | .run => 2 | .lockout => 3

/-- Identity, roles and the token. -/
def unitValue (s : State) (k : Nat) : Option Nat :=
  match k with
  | 0x101000 => some (match s.pw.role with | some .head => 1 | some .cell => 2 | none => 0)
  | 0x101001 => some (b2n s.pw.roleUnstable)
  | 0x101200 => some s.ring.node.caddr
  | 0x102000 => some (s.seat.holder.getD 0xFF)
  | 0x102004 => some s.tokenReq
  | 0x102005 => some s.seat.session
  | _ => none

/-- CUE and time. -/
def timeValue (s : State) (k : Nat) : Option Nat :=
  match k with
  | 0x200001 => some s.tm.cueLen
  | 0x200002 => some s.tm.cue
  | 0x201000 => some s.tm.tb0
  | 0x202000 => some s.tm.tb1
  | 0x203000 => some s.tm.tb2
  | 0x203100 => some s.tm.tb3
  | _ => none

/-- Rings, cross-links, switching and the battery. -/
def cellValue (s : State) (i j : Nat) : Option Nat :=
  let p := j - 1
  match i with
  | 0x3031 => some (if s.portUp p then (s.rport p).rate else 0xFF)
  | 0x3032 => some (portCode (s.rport p).st)
  | 0x3033 => some (s.ringStatus p)
  | 0x3800 => some (xlCode (s.xlink p).st)
  | 0x3801 => some ((s.xlink p).tx * 16 + (s.xlink p).rx)
  | 0x6000 => if j = 2 then some s.ring.node.orient else none
  | 0x6005 => if j = 2 then some s.pwm.coast else none
  | 0x6008 => some s.forceCause
  | 0x6013 => if j = 0 then some s.pwm.tripLatch else none
  | 0x6020 => if j = 2 then some s.pwm.shPer else if j = 3 then some s.pwm.shDuty else none
  | 0x6800 => if j = 2 then some (batCode s.bat.st) else none
  | 0x6808 => if j = 2 then some s.soc else none
  | _ => none

/-- Loops: the descriptor fields as they were accepted last, the integrator, the NCOs. -/
def loopValue (s : State) (i j : Nat) : Option Nat :=
  let c := j - 1
  let d := s.dg (Obj.loopDesc c)
  match i with
  | 0x7003 => some (rd d 7 1)
  | 0x7004 => some (rd d 22 2)
  | 0x7005 => some (rd d 24 2)
  | 0x7006 => some (rd d 20 2)
  | 0x7007 => some (rd d 26 2)
  | 0x7008 => some (rd d 28 2)
  | 0x7009 => some (rd d 30 2)
  | 0x700A => some (rd d 32 2)
  | 0x7014 => some (ofI 32 (satS 32 (2 * (s.loopCh c).i)))
  | 0x7054 => some (s.nco c).now
  | 0x7055 => some s.ncoStatus
  | 0x7061 => if j = 2 then some s.loop.resp.length else none
  | _ => none

/-- Measurement, capture and sequence logic. -/
def measValue (s : State) (i j : Nat) : Option Nat :=
  match i with
  | 0x7840 => if j = 1 then some (b2n s.adc.refReady) else none
  | 0x7842 => if j = 1 then some s.adc.cal else none
  | 0x7860 => some s.adc.openSt
  | 0x8021 => some (capStCode (s.stream (j - 1)).st)
  | 0x8031 => some s.pantryFree
  | 0x9000 => if j = 1 then some (slCode s.sl.st) else none
  | 0x9010 => if j = 2 then some (chgCode s.sl.chg) else if j = 3 then some s.sl.chgInfo else none
  | _ => none

/-- Safety, faults and interrupts; the target is the accessor's. -/
def safValue (s : State) (t i j : Nat) : Option Nat :=
  match i with
  | 0xA000 => if j = 0 then some (safCode s.saf.st) else none
  | 0xA050 => some (s.sgDemanded + (s.saf.latch ||| s.saf.diag) % 256 * 256)
  | 0xA051 =>
    some (packBits ((List.range 4).flatMap (fun p =>
      let r := s.siPair p
      [r.dem, r.c1, r.c2, r.lat != 0])))
  | 0xA052 =>
    some (packBits ((List.range 4).map (fun n => (s.soRec n).on) ++ (List.range 4).map (fun n => (s.soRec n).fault)))
  | 0xA060 => if j = 1 then some s.saf.result else none
  | 0xB000 => if j = 0 then some s.fstat else if j = 1 then some s.factive else some s.flatched
  | 0xB005 => some (s.fsrc (j - 1)).rcnt
  | 0xB00A => some s.flt.self
  | 0xC008 => some (irqWord s.irq.en (j - 1))
  | 0xC009 => some (irqWord s.irq.pend (j - 1))
  | 0xC00B =>
    some (packBits ((List.range 8).map (fun n => s.targetAsleep n) ++ (List.range 8).map (fun n => s.targetPresent n)))
  | 0xC00C => some s.irqPhase
  | 0xC010 => if j = 2 then some (s.runPrio t) else none
  | 0xC020 => if j = 1 then some (s.dspPath t 0) else none
  | _ => none

/-- UPD_PROGRESS: bytes of a stream that a seat writes, chunks of one that comes by PASS (Table 17-10). -/
def updProgress (s : State) : Nat :=
  if s.mem.chunks.isEmpty then s.mem.seat.length
  else ((List.range (hChunks s.mem.head)).filter s.chunkHeld).length

/-- Memory, update and power. -/
def memValue (s : State) (k : Nat) : Option Nat :=
  match k with
  | 0xD00002 => some s.work.scrub
  | 0xD02000 => some (updCode s.mem.st)
  | 0xD02004 => some s.mem.reason
  | 0xD02005 => some s.updProgress
  | 0xD02006 => some (if s.mem.st = .trial then s.jshow.count else 0)
  | 0xE00000 => some (if s.pw.faultHold then 3 else if s.running then 2 else 1)
  | 0xE00100 => some s.pw.resetCause
  | 0xE00201 => some (packBits [s.pw.auxOn, s.pw.auxLimit])
  | 0xE00500 => some (packBits [s.pw.refGood, !s.pw.refGood] + s.pw.pll % 32 * 4 + b2n s.pw.aonTrimmed * 128)
  | 0xE00501 => some (ofI 32 s.pw.aonPpm)
  | _ => none

/-- The value of a fixed-size object as it is read: what the machine holds beside the store, else the store. -/
def objValue (t k : Nat) (s : State) : Nat :=
  let i := k / 256
  let j := k % 256
  let v :=
    if i < 0x2000 then s.unitValue k
    else if i < 0x3000 then s.timeValue k
    else if i < 0x7000 then s.cellValue i j
    else if i < 0x7800 then s.loopValue i j
    else if i < 0xA000 then s.measValue i j
    else if i < 0xD000 then s.safValue t i j
    else s.memValue k
  v.getD (s.og k)

/-! ### Blocks -/

/-- ARM_OUT (Table 09-12). -/
def armOutBytes (s : State) (a : Nat) : Bytes :=
  let r := s.arm a
  leBytes 4 r.cue ++ leBytes 4 (F32.ofRat r.v0) ++ leBytes 4 (F32.ofRat r.v1) ++ leBytes 4 (F32.ofRat r.v2) ++
    leBytes 4 (F32.ofRat r.pb) ++ leBytes 4 (F32.ofRat r.i) ++ leBytes 1 r.flags ++ zeros 7

/-- WIN_LIST: every window in ascending WIN_ID. -/
def winListBytes (s : State) : Bytes :=
  let ids := s.cap.wins.foldl (fun l w => insertNat w.id l) []
  fit 4096 (ids.flatMap (fun id =>
    match s.cap.wins.find? (fun w => w.id == id) with
    | some w => leBytes 4 id ++ leBytes 1 w.stream ++ leBytes 1 (if w.ready then 2 else 1) ++ leBytes 1 w.flags ++ zeros 1
    | none => []))

/-- MODE_STATUS (Table 12-12). -/
def modeStatusBytes (s : State) : Bytes :=
  let w := s.sl
  leBytes 1 (modeStCode w.mode) ++ leBytes 1 w.modeNo ++ leBytes 2 w.modeId ++ leBytes 4 w.modeL ++
    leBytes 2 w.scope.length ++ leBytes 2 w.ackP.length ++ leBytes 2 w.ackA.length ++ leBytes 2 w.lag.length

/-- SCONN_STATUS of a connection. -/
def sconnBytes (s : State) (c : Nat) : Bytes :=
  let r := s.sconn c
  leBytes 1 r.st ++ leBytes 1 (packBits [r.last.isSome && !r.lostA, r.last.isSome && !r.lostB]) ++ zeros 2 ++
    leBytes 4 (s.sconnEcho c) ++ leBytes 4 (match r.last with | some m => rd m 8 4 | none => 0) ++ leBytes 4 r.confirmed

/-- FIRST_FAULT. -/
def firstFaultBytes (s : State) : Bytes :=
  match s.flt.ff with
  | none => zeros 32
  | some r =>
    leBytes 1 1 ++ leBytes 1 r.src ++ leBytes 1 r.cls ++ zeros 1 ++ leBytes 2 r.inst ++ zeros 2 ++ leBytes 4 r.cue ++
      leBytes 8 r.tb2 ++ leBytes 8 r.co ++ zeros 4

/-- IRQ_GSTATS of a group. -/
def gstatsBytes (s : State) (g : Nat) : Bytes :=
  let r := s.grp g
  leBytes 4 r.deliveries ++ leBytes 4 r.claims ++ leBytes 4 r.refires ++ leBytes 4 r.holdWaits ++ leBytes 4 r.fallbacks ++
    leBytes 4 r.withdrawals

/-- DSP_QSTAT of a queue. -/
def qstatBytes (s : State) (q : Nat) : Bytes :=
  let r := (s.loadTick q).queue q
  leBytes 2 (s.queueDepth q) ++ leBytes 2 r.maxDepth ++ leBytes 4 r.lastWait ++ leBytes 4 r.maxWait ++ leBytes 2 r.load ++
    zeros 2

/-- DSP_STORE. -/
def storeBytes (s : State) : Bytes :=
  leBytes 2 s.dsp.ops.length ++ leBytes 2 s.dsp.maxOps ++
    (List.range 4).flatMap (fun n => leBytes 2 (s.delayList n).length ++ leBytes 2 (Kv.get (fun _ => 0) s.dsp.maxList n)) ++
    leBytes 4 s.dsp.purged

/-- HOP_SESSIONS. -/
def sessionBytes (s : State) : Bytes :=
  (List.range 8).flatMap (fun n =>
    match s.hopSession (n + 1) with
    | some v => leBytes 4 v.ip ++ leBytes 2 v.port ++ leBytes 1 1 ++ zeros 1 ++ leBytes 4 v.a ++ leBytes 4 v.groups
    | none => zeros 16)

/-- One entry of SLOT_INFO: empty, valid, invalid, or partial while its header is not written. -/
def slotBytesOf (s : State) (n : Nat) : Bytes :=
  let x := s.imgSlot n
  let h := x.head
  let st := if h.isEmpty then (if x.blocks.all (fun b => b.isEmpty) then 0 else 3) else if s.slotValid n then 1
    else if n = 1 ∧ (s.mem.st = .receiving ∨ s.mem.st = .verifying) then 3 else 2
  leBytes 1 st ++ slice (fit 512 h) 6 1 ++ slice (fit 512 h) 32 2 ++ leBytes 4 (hCampaign h) ++ slice (fit 512 h) 24 4 ++
    leBytes 4 (hBodyLen h) ++ leBytes 4 (hImage h) ++ leBytes 4 x.worn ++ zeros 8

/-- PASS_STATUS: 16 bytes per ring port. -/
def passStatusBytes (s : State) : Bytes :=
  (List.range 12).flatMap (fun p =>
    let a := s.passSend (2 * p)
    let b := s.passSend (2 * p + 1)
    let st := if a.on ∨ b.on then (if a.on ∧ a.st = 1 ∨ b.on ∧ b.st = 1 then 1 else max a.st b.st) else max a.st b.st
    let ack (x : PassSend) : Nat := match x.ack with | some k => k | none => if x.st = 0 then 0 else 0xFFFFFFFF
    leBytes 4 (ack a) ++ leBytes 4 (ack b) ++ leBytes 4 ((a.resends + b.resends) % 2 ^ 32) ++ leBytes 1 st ++
      zeros 3)

/-- Bit per station slot of a set of slots. -/
def fenceMapBytes (s : State) : Bytes := bitsToSlots ((List.range 1152).filter s.fenced)

/-- The content of a block or string object as it is read. -/
def objBlock (a : Accessor) (k : Nat) (s : State) : Bytes :=
  let i := k / 256
  let j := k % 256
  let n := j - 1
  match i with
  | 0x1040 => if j = 7 then s.sessionBytes else s.dg k
  | 0x1070 =>
    if j = 0 then vlogBytes s.seat.vlog
    else ((List.range 15).map (fun c => c + 1) ++ (List.range 9).map (fun c => 0x20 + c)).flatMap (fun c =>
      leBytes 4 (Kv.get (fun _ => 0) s.seat.vcount c))
  | 0x2060 | 0x2061 | 0x2062 => match s.edges (i - 0x2060) with | e :: _ => entryBytes e | [] => zeros 40
  | 0x3050 => vlogBytes s.ring.vlog
  | 0x3820 => vlogBytes s.xl.vlog
  | 0x5020 => s.rankTableBytes n
  | 0x5021 => s.sieveRefBytes n
  | 0x5023 => s.keyProbeBytes n
  | 0x680A => s.bat.checks.flatten
  | 0x7047 => s.armOutBytes n
  | 0x7061 => s.loop.resp.flatten
  | 0x7816 =>
    let r := s.seqRec n
    leBytes 4 r.starts ++ leBytes 4 r.drops ++ leBytes 4 r.waits ++ zeros 4
  | 0x7830 | 0x7831 =>
    let r := s.resShown (if i = 0x7831 then 64 + n else n)
    leBytes 2 r.code ++ leBytes 2 (resUpper r (accSeat a)) ++ leBytes 4 r.value ++ leBytes 8 r.stamp
  | 0x7842 => if j = 2 then leBytes 2 (ofI 16 s.adc.ofsA) ++ leBytes 2 (ofI 16 s.adc.ofsB) else s.dg k
  | 0x8022 => (s.stream n).stats.flatMap (leBytes 4)
  | 0x8032 => s.winListBytes
  | 0x8033 => match s.cap.wins.find? (fun w => w.id == s.og Obj.winSel) with
    | some w => slice (winBytes w) (s.og Obj.winOffset) 1024
    | none => []
  | 0x9003 => s.sl.stats.flatMap (leBytes 4)
  | 0x9006 => if j = 0 then (List.range 1152).flatMap (fun m => leBytes 4 (s.ssWord m))
    else (List.range 2304).flatMap (fun m => leBytes 4 (s.slRead 3 m))
  | 0x9010 => if j = 4 then slice (fit 28 (s.slBank s.sl.act)) 20 8 ++ slice (fit 28 (s.slBank (1 - s.sl.act))) 20 8 else s.dg k
  | 0x9012 => (List.range 64).flatMap (fun m => leBytes 4 (s.slRead 6 (s.og Obj.mSel + m)))
  | 0x9022 =>
    match j with
    | 2 => s.modeStatusBytes
    | 3 => bitsToSlots s.sl.ackP
    | 4 => bitsToSlots s.sl.ackA
    | 5 => bitsToSlots s.sl.lag
    | _ => s.dg k
  | 0xA053 => s.sconnBytes n
  | 0xA054 => s.saf.stats.flatMap (leBytes 4)
  | 0xA055 => vlogBytes s.saf.vlog
  | 0xA061 => s.saf.tlog.flatMap (fun e => leBytes 8 e.1 ++ leBytes 1 e.2.1 ++ leBytes 1 e.2.2.1 ++ leBytes 1 e.2.2.2.1 ++
      zeros 1 ++ leBytes 4 e.2.2.2.2)
  | 0xB001 => s.firstFaultBytes
  | 0xB008 => s.flt.ilog.flatMap (fun e => leBytes 8 e.tb2 ++ leBytes 4 e.cue ++ leBytes 1 e.src ++ leBytes 1 e.what ++
      leBytes 2 e.inst)
  | 0xB010 => if j = 0 then s.fenceMapBytes else (List.range 1152).flatMap (fun m => leBytes 1 (s.fenceInfo m))
  | 0xB021 => s.pair.health
  | 0xC00D => s.gstatsBytes n
  | 0xC010 => leBytes 4 (s.claimFor (accTarget a)).1
  | 0xC020 => if j = 2 then dspPopBytes (accTarget a) s else s.dg k
  | 0xC030 => s.qstatBytes n
  | 0xC033 => s.storeBytes
  | 0xC040 => vlogBytes s.irq.vlog
  | 0xD000 => s.work.elog.flatMap (fun e => leBytes 8 e.1 ++ leBytes 4 e.2.1 ++ leBytes 1 e.2.2.1 ++ leBytes 1 e.2.2.2.1 ++
      leBytes 1 e.2.2.2.2 ++ zeros 1)
  | 0xD010 => (List.range 4).flatMap s.slotBytesOf
  | 0xD020 => if j = 8 then (s.mem.journal.drop (s.mem.journal.length - 16)).flatMap JRec.bytes else s.dg k
  | 0xD021 => s.passStatusBytes
  | 0xD022 =>
    let r := s.mem.relay
    leBytes 4 r.campaign ++ leBytes 4 r.chunks.length ++ leBytes 4 r.relayed ++ leBytes 4 r.resends
  | 0xD040 => s.mem.mig.flatMap (leBytes 2) ++ zeros 4
  | 0xE001 => s.pw.resetCount.flatMap (leBytes 4)
  | _ => s.dg k

/-- The bytes of an object as an accessor reads it; IRQ_CLAIM is read as the word its claim returns. -/
def objBytes (a : Accessor) (k : Nat) (s : State) : Bytes :=
  if k = Obj.irqClaim then leBytes 4 (s.claimFor (accTarget a)).1
  else
    match Dict.lookup k with
    | none => []
    | some r =>
      match r.ty with
      | .dom | .str => s.objBlock a k
      | t => leBytes (Dict.tySize t) (s.objValue (accTarget a) k)

/-! ### What a read does -/

/-- Objects whose read acts (R442). -/
def readActs (k : Nat) : Bool :=
  let i := k / 256
  k == Obj.dspPop || k == Obj.irqClaim || i == 0x7830 || i == 0x7831 || ((i == 0x2060 || i == 0x2061 || i == 0x2062) && k % 256 == 2)

/-- The effect of a read (R81, R290, R421, R428); a read of IRQ_ENABLE is remembered as a raw read (R412). -/
def readEffect (a : Accessor) (k : Nat) (s : State) : State :=
  let i := k / 256
  let n := k % 256 - 1
  let t := accTarget a
  if k = Obj.dspPop then (s.dspPopBy t 0).2
  else if k = Obj.irqClaim then (s.claimFor t).2
  else if i = 0x7830 then s.resRead n (accSeat a)
  else if i = 0x7831 then s.resRead (64 + n) (accSeat a)
  else if (i = 0x2060 ∨ i = 0x2061 ∨ i = 0x2062) ∧ k % 256 = 2 then s.setEdges (i - 0x2060) ((s.edges (i - 0x2060)).drop 1)
  else if i = 0xC008 then (irqRawRead t (8 + n) s).2
  else s

/-! ### Copy buffers (R442) -/

/-- The copy buffer of an accessor: paths, HOP sessions and cores have one; an access over the ring copies afresh. -/
def copyKey : Accessor → Option Nat
  | .path p => some p.val
  | .hop n => some (0x10 + n)
  | .core c => some (0x100 + c.val)
  | _ => none

/-- The content a block read takes its bytes from, and the state with the copy kept: the accessor's copy for a read at a
non-zero offset within 100 ms of it, else the whole object as it is now. -/
def copied (a : Accessor) (k off : Nat) (s : State) : Bytes × State :=
  match copyKey a with
  | none => (s.objBytes a k, s)
  | some c =>
    let old := Kv.get (fun _ => ({ key := 0, data := [], at2 := 0 } : CopyBuf)) s.seat.copies c
    if off ≠ 0 ∧ old.key = k ∧ s.tm.tb2 ≤ old.at2 + 100000000 then (old.data, s)
    else
      let d := s.objBytes a k
      (d, s.seatSet fun w =>
        { w with copies := Kv.put (fun _ => { key := 0, data := [], at2 := 0 }) c { key := k, data := d, at2 := s.tm.tb2 } w.copies })

/-- Length and offset of a read (R441): code 0x07 for a length the type does not permit, 0x05 for an offset at or past the
end of a block. -/
def readLen (r : DictRow) (off len total : Nat) : Nat :=
  match r.ty with
  | .dom => if len = 0 ∨ 1024 < len then 7 else if total ≤ off ∧ ¬(total = 0 ∧ off = 0) then 5 else 0
  | .str => if off ≠ 0 then 7 else 0
  | t => if off ≠ 0 ∨ len ≠ Dict.tySize t then 7 else 0

/-- Bytes of the window WIN_SEL names, from offset `off` of WIN_DATA on, as a seat reads them from the PANTRY (R310, R469). -/
def winLoad (off : Nat) (d : Bytes) (s : State) : Bytes × Bool × State :=
  match s.cap.wins.find? (fun w => w.id == s.og Obj.winSel) with
  | some w => s.memLoad 2 Config.pantryWord (fun i => w.base + s.og Obj.winOffset + off + i) d
  | none => (d, false, s)

/-- A read of an object by an accessor, outside its answer: the code, the total object length, the bytes, and the state
after what the read does (R440 to R443). -/
def readObject (a : Accessor) (k off len : Nat) (s : State) : Nat × Nat × Bytes × State :=
  if s.pw.faultHold && !servedInHold k then (0x0C, 0, [], s)
  else
    match Dict.lookup k with
    | none => (1, 0, [], s)
    | some r =>
      let size := if r.len = 0 then Dict.tySize r.ty else r.len
      if !s.rowPresent r then
        match readLen r off len size with
        | 0 => (0, size, slice (zeros size) off len, s)
        | c => (c, 0, [], s)
      else if rights r a == .no then (3, 0, [], s)
      else
        let noWin := k == Obj.winData && !s.cap.wins.any (fun w => w.id == s.og Obj.winSel)
        let x := if noWin then ([], s) else if r.ty == .dom && !readActs k then s.copied a k off else (s.objBytes a k, s)
        match readLen r off len x.1.length with
        | 0 =>
          if noWin then (5, 0, [], s)
          else if k = Obj.winData then
            let y := x.2.winLoad off (slice x.1 off len)
            (0, x.1.length, y.1, y.2.2.readEffect a k)
          else (0, x.1.length, slice x.1 off len, x.2.readEffect a k)
        | c => (c, 0, [], s)

end State

end Sys2Proof.Machine
end

