-- ==== Sys2Proof/Machine/RegMap.lean ====
section
/-! DEFINITION. The raw registers (R9 to R11, R444, Tables 16-4, 16-14, 16-15 and each chapter's register map): what a
path reads at an address, and what a write of it does. -/

namespace Sys2Proof.Machine

namespace State

/-! ### Access codes -/

/-- The word a write leaves: only enabled bytes change (R446). -/
def mergeW (old v m : Nat) : Nat := (andNot (old % 2 ^ 32) m) ||| (v &&& m)

/-- A write of a stored word: the writable bits of the enabled bytes. -/
def regRw (a bits v m : Nat) (s : State) : State := s.rset a (mergeW (s.rg a) v (m &&& bits))
/-- A write of W1C bits. -/
def regW1c (a bits v m : Nat) (s : State) : State := s.rset a (andNot (s.rg a) (v &&& m &&& bits))

/-- A register field that mirrors an object takes a value that the object's own tests accept, and stays as it is
otherwise. A control-writing object's write is mirrored to the UNDERSTUDY, and refused while the mirror queue is full (R394). -/
def regObj (p : Nat) (k v : Nat) (s : State) : State :=
  match Dict.lookup k with
  | none => s
  | some r =>
    if !s.rowPresent r then s
    else
      let d := leBytes (Dict.tySize r.ty) v
      match s.objEffect (.path (Fin.ofNat 3 p)) k d with
      | .ok t => if !r.ctl then t else if s.mirrorFull (.path (Fin.ofNat 3 p)) k then s else t.mirrorAdd (mirrorRec k p d)
      | .error _ => s
/-- The same, where the enabled bytes hold any of the field's bits and the value changes. -/
def regField (p k bits m old v : Nat) (s : State) : State := if m &&& bits = 0 ∨ old = v then s else s.regObj p k v

/-- The state a meaning leaves; a meaning that stops leaves the state. -/
def after (r : Res) (s : State) : State := match r with | .next t => t | _ => s

/-- Registers of an address's block are served: after start-up, in the role the block is on in (R444); in FAULT_HOLD the
FLT block, and the OBJ block as the seats' way to the objects served there (R392). -/
def blockServed (s : State) (a : Nat) : Bool :=
  s.running && (!s.pw.faultHold || a / 0x1000 == 1 || a / 0x1000 == 6)

/-! ### The mailbox words of a path -/

/-- Word w of a path's mailbox: 0 BUSY, 1 DONE, 2 OVER, 3 RLEN, 4 ACODE, 5 TOTAL. -/
def mbox (s : State) (p w : Nat) : Nat := Kv.get (fun _ => 0) s.seat.mbox (8 * p + w)
def setMbox (p w v : Nat) (s : State) : State :=
  s.seatSet fun x => { x with mbox := Kv.put (fun _ => 0) (8 * p + w) v x.mbox }
/-- A register of the OBJ or ID block of a path. -/
def prg (s : State) (p off : Nat) : Nat := s.rg (pathReg p off)

/-! ### Reads by block -/

/-- The ID block (Table 16-15). -/
def rdId (p o : Nat) (s : State) : Nat :=
  match o with
  | 0x00 => 0x7256
  | 0x04 => s.og 0x100004
  | 0x08 => if s.isHead then 1 else if s.isCell then 2 else 0
  | 0x0C => s.prg p 0x0C
  | 0x10 => p
  | _ => 0

/-- The OBJ block (Table 16-14). -/
def rdObj (p o : Nat) (s : State) : Nat :=
  match o with
  | 0x00 | 0x04 | 0x08 | 0x0C => s.prg p (Blk.obj + o)
  | 0x14 =>
    s.mbox p 0 * 2 ^ 31 + s.mbox p 1 * 2 ^ 30 + s.mbox p 2 * 2 ^ 29 + s.mbox p 3 % 2048 * 65536 + s.mbox p 4 % 256
  | 0x18 => s.mbox p 5
  | 0x20 => s.tokenReq * 256 + (s.seat.holder.getD 0xFF)
  | _ => if 0x400 ≤ o ∧ o < 0x800 then s.prg p (Blk.obj + o) else 0

/-- The RNG block (Table 03-13). -/
def rdRng (o : Nat) (s : State) : Nat × State :=
  let p := o / 0x100
  let a := Blk.rng + o
  let r := s.rport p
  if s.portCount ≤ p then (0, s)
  else
    match o % 0x100 with
    | 0x00 => (s.rg a % 16 + s.og (Obj.rateMax p) % 4 * 16, s)
    | 0x04 => (portCode r.st + r.rate % 4 * 16 + b2n r.sig * 256 + b2n r.align * 512, s)
    | 0x24 => (s.rg a % 16 + b2n (s.pat p).lock * 256, s)
    | 0x28 | 0x2C => (s.rg a, s.rset a 0)
    | 0x38 => (s.rg a % 65536, s)
    | 0x08 | 0x0C | 0x10 | 0x20 | 0x30 | 0x34 | 0x3C => (s.rg a, s)
    | _ => (0, s)

/-- The XL block (Table 04-10). -/
def rdXl (o : Nat) (s : State) : Nat × State :=
  let l := o / 0x100
  let a := Blk.xl + o
  let k := s.xlink l
  if 3 ≤ l ∨ !s.isHead then (0, s)
  else
    match o % 0x100 with
    | 0x04 => (xlCode k.st + k.tx % 4 * 64 + k.rx % 4 * 256 + b2n k.clk * 1024, s)
    | 0x18 | 0x1C =>
      let n := (o % 0x100 - 0x18) / 4
      (s.xlLstat l n, s.rset a 0)
    | 0x44 | 0x84 => (s.rg a % 16 + b2n (s.pat (12 + 2 * l + (o % 0x100 - 0x44) / 0x40)).lock * 256, s)
    | 0x48 | 0x4C | 0x88 | 0x8C => (s.rg a, s.rset a 0)
    | 0x50 | 0x90 => (s.rg a % 65536, s)
    | 0x00 | 0x08 | 0x0C | 0x10 | 0x14 | 0x30 | 0x34 | 0x40 | 0x54 | 0x80 | 0x94 => (s.rg a, s)
    | _ => (0, s)

/-- The PWM block (Table 07-12). -/
def rdPwm (o : Nat) (s : State) : Nat :=
  let w := s.pwm
  match o with
  | 0x00 => s.og Obj.carMode % 4 + s.og Obj.carXfer % 2 * 4
  | 0x04 =>
    (s.rg (Blk.pwm + 4) &&& 0x9C) + packBits [w.pendPer, w.pendDuty, false, false, false, s.forceCause != 0, w.coarse]
  | 0x08 => w.shPer
  | 0x0C => w.shDuty
  | 0x10 => w.per
  | 0x14 => w.duty
  | 0x18 => b2n w.hold
  | 0x1C => s.og Obj.dtBr % 2048 + s.og Obj.dtBat % 2048 * 65536
  | 0x40 => w.level + w.bridge * 256 + b2n w.lost * 2048
  | 0x44 => s.forceCause
  | 0x48 => s.og Obj.tapPs % 256
  | 0x50 => w.tripLvl + w.tripLatch * 256
  | 0x58 => s.rg (Blk.pwm + 0x58)
  | _ => if 0x20 ≤ o ∧ o < 0x40 then s.og (Obj.edgeTrim ((o - 0x20) / 4)) % 16 else 0

/-- The ADC block (Table 10-10), in the view of the path (R290). -/
def rdAdc (p o : Nat) (s : State) : Nat × State :=
  let n := o % 0x100 / 4
  if o = 0 then (s.og Obj.refEn + s.og Obj.adccMode % 2 * 4, s)
  else if o = 4 then
    (packBits [s.adc.refReady, s.og Obj.adccMode == 1, s.adc.cal == 3, s.adc.cal == 1], s)
  else if o = 8 then (s.rg (Blk.adc + 8), s)
  else if o = 0x10 then (s.adc.openSt, s)
  else if o / 0x100 = 1 then (s.tableDesc false n, s)
  else if o / 0x100 = 2 then (s.tableDesc true n, s)
  else if o / 0x100 = 4 then (resWord (s.resShown n) (some p), s.resRead n (some p))
  else if o / 0x100 = 5 then (resWord (s.resShown (64 + n)) (some p), s.resRead (64 + n) (some p))
  else if o / 0x100 = 6 then ((s.adcRes n).latched.getD p 0 % 2 ^ 32, s)
  else if o / 0x100 = 7 then ((s.adcRes (64 + n)).latched.getD p 0 % 2 ^ 32, s)
  else (0, s)

/-- The FLT block (Table 14-13). -/
def rdFlt (o : Nat) (s : State) : Nat :=
  let w (x n : Nat) : Nat := x / 2 ^ (32 * n) % 2 ^ 32
  let f := s.flt.ff
  let n := o % 0x100 / 4
  match o with
  | 0x00 => w s.fstat 0
  | 0x04 => w s.fstat 1
  | 0x08 => w s.factive 0
  | 0x0C => w s.factive 1
  | 0x10 => w s.flatched 0
  | 0x14 => w s.flatched 1
  | 0x20 => match f with | some r => 2 ^ 31 + r.cls % 8 * 256 + r.src % 64 | none => 0
  | 0x24 => match f with | some r => r.inst % 65536 * 65536 | none => 0
  | 0x28 => match f with | some r => r.cue | none => 0
  | 0x2C => match f with | some r => w r.tb2 0 | none => 0
  | 0x30 => match f with | some r => w r.tb2 1 | none => 0
  | 0x38 => match f with | some r => w r.co 0 | none => 0
  | 0x3C => match f with | some r => w r.co 1 | none => 0
  | 0x44 => s.flt.self
  | 0x48 => s.rg (Blk.flt + 0x48)
  | _ =>
    if 0x100 ≤ o ∧ o < 0x200 then
      s.fltClass n % 8 + s.og (Obj.fltByp n) % 2 * 16 + s.og (Obj.fltQuiet n) % 65536 * 256 + s.og (Obj.fltRlim n) % 16 * 2 ^ 24
    else if 0x200 ≤ o ∧ o < 0x300 then (s.fsrc n).rcnt % 16
    else 0

/-- IRQ_GSTATg. -/
def gstat (s : State) (g : Nat) : Nat :=
  let r := s.grp g
  let to_ := (s.effTarget g).getD (s.og (Obj.irqRoute g))
  r.count % 256 +
    packBits [r.deliv.isSome, (s.effTarget g).isNone || (s.holdOff g && s.grpPending g != 0 && !s.modeTest g), grpBits s.irq.insv g != 0,
              (grpBits s.irq.insv g &&& grpBits s.irq.pend g) != 0] * 512 + to_ % 8 * 8192

/-- The IRQ block (Table 15-8), path t − 4's own registers included. -/
def rdIrq (p o : Nat) (s : State) : Nat × State :=
  let t := p + 4
  let n := o % 0x20 / 4
  if o < 0x20 then irqRawRead t n s
  else if 0x60 ≤ o ∧ o < 0x80 then irqRawRead t (8 + n) s
  else if o < 0x60 then (irqWord s.irq.pend n, s)
  else if o < 0xC0 then (irqWord s.irq.en n, s)
  else if 0xC0 ≤ o ∧ o < 0xE0 then (irqWord s.irq.insv n, s)
  else if 0x100 ≤ o ∧ o < 0x180 then
    let g := (o - 0x100) / 4
    (s.og (Obj.irqRoute g) + s.og (Obj.irqPrio g) * 16 + s.og (Obj.irqCoalN g) * 256 + s.og (Obj.irqCoalT g) * 65536 +
      s.og (Obj.irqHmode g) * 2 ^ 28 + s.og (Obj.irqDmode g) * 2 ^ 30, s)
  else if 0x180 ≤ o ∧ o < 0x200 then (s.og (Obj.irqHoldoffT ((o - 0x180) / 4)), s)
  else if 0x200 ≤ o ∧ o < 0x280 then (s.gstat ((o - 0x200) / 4), s)
  else
    match o with
    | 0x300 => s.claimFor t
    | 0x308 => (s.runPrio t + s.svcDepth t * 256, s)
    | 0x30C =>
      let f := s.og (Obj.irqFallback p)
      ((if f = 0xFF then 8 else f % 8 * 16) + b2n (hasBit s.irq.asleep t && p != 0), s)
    | 0x310 =>
      (packBits ((List.range 8).map (fun n => s.targetAsleep n) ++ (List.range 8).map (fun n => s.targetPresent n)), s)
    | 0x314 => (s.irqPhase, s)
    | _ => (0, s)

/-- The DSP block (Table 15-9). -/
def rdDsp (p o : Nat) (s : State) : Nat × State :=
  let t := p + 4
  let n := o % 0x40 / 4
  match o with
  | 0x00 | 0x04 | 0x08 | 0x10 | 0x14 => (s.rg (pathReg t (Blk.dsp + o)), s)
  | 0x18 => (s.dspPath t 0, s)
  | 0x20 => s.dspPopBy t 0
  | 0x24 => (s.dspPath t 1, s)
  | 0x28 => (s.dspPath t 2, s)
  | 0x2C => (s.dspPath t 3, s)
  | 0x100 => s.mstatRead
  | 0x104 | 0x108 | 0x10C | 0x110 => s.lstatRead ((o - 0x104) / 4)
  | 0x120 => (s.rg (Blk.dsp + 0x120), s)
  | _ =>
    if 0x40 ≤ o ∧ o < 0x80 then s.qdepthRead n
    else if 0x80 ≤ o ∧ o < 0xC0 then s.qwaitRead n
    else if 0xC0 ≤ o ∧ o < 0x100 then ((((s.loadTick n).queue n).load), s)
    else (0, s)

/-- The CAPQ block (Table 16-15, R465). -/
def rdCapq (o : Nat) (s : State) : Nat :=
  let n := o / 0x10
  let r := s.stream n
  let size := s.og (Obj.stageSize n)
  if s.capCount ≤ n then 0
  else
    match o % 0x10 with
    | 0x0 => (r.rd + stageUsed r) % size
    | 0x4 => r.rd
    | 0x8 => size
    | _ => 0

/-- A read of the word at an address by a path: its value and the effects of reading it (R9, R11, R444). -/
def regRd (p a : Nat) (s : State) : Nat × State :=
  let o := a % 0x1000
  if !s.blockServed a ∨ !s.accPresent (.path (Fin.ofNat 3 p)) then (0, s)
  else if a = Blk.pba then (if p = 0 then s.irq.pba else 0, s)
  else if Blk.msix ≤ a ∧ a < Blk.msix + 0x200 then (if p = 0 then s.rg a else 0, s)
  else
    match a / 0x1000 with
    | 0 => (s.rdId p o, s)
    | 1 => (s.rdObj p o, s)
    | 2 => s.rdRng o
    | 3 => s.rdXl o
    | 4 => (s.rdPwm o, s)
    | 5 => s.rdAdc p o
    | 6 => (s.rdFlt o, s)
    | 7 => s.rdIrq p o
    | 8 => s.rdDsp p o
    | 9 => (s.rdCapq o, s)
    | _ => (0, s)

/-! ### Staging windows (R444, R465, R469) -/

/-- Byte at an offset of a staging buffer: a byte of an unread record; the content of the rest is free. -/
def stageByte (s : State) (n o : Nat) : Byte :=
  let r := s.stream n
  let size := s.og (Obj.stageSize n)
  let k := (o + size - r.rd) % size
  let d := r.stage.flatMap (fun e => e.2)
  match d[k]? with
  | some b => b
  | none => BitVec.ofNat 8 (Config.freeValue (s.freeCtr + o))

/-- A seat's read of the word at byte offset o of the staging window of stream n: the word, whether it is uncorrectable,
and the state. Offsets past STAGE_SIZE read 0. -/
def stageRd (n o : Nat) (s : State) : Nat × Bool × State :=
  if !s.working ∨ s.capCount ≤ n ∨ s.og (Obj.stageSize n) ≤ o then (0, false, s)
  else
    let x := s.memLoad 2 (Config.stagingWord n) (fun i => o + i) ((List.range 4).map (fun i => s.stageByte n (o + i)))
    (leNat x.1, x.2)

/-- The data of a word of working memory as the part wrote them (R466): where it lies in a staging buffer, the PANTRY, the PASS
store or the dispatcher's pool, what these hold; any other content is free. -/
def wordData (s : State) (w : Nat) : Nat :=
  let at_ (base : Nat) (b : Bytes) : Option Nat :=
    if base ≤ w ∧ 16 * (w - base) < b.length then some (rd b (16 * (w - base)) 16) else none
  let staging := (List.range s.capCount).findSome? (fun n =>
    let lo := Config.stagingWord n
    if lo ≤ w ∧ 16 * (w - lo) < s.og (Obj.stageSize n) then
      some (leNat ((List.range 16).map (fun i => s.stageByte n (16 * (w - lo) + i)))) else none)
  let pantry := s.cap.wins.findSome? (fun x => at_ (Config.pantryWord + x.base / 16) (winBytes x))
  let pool := s.dsp.flows.findSome? (fun f => (f.2.items.find? (fun it => it.word == w)).map (fun it => leNat (itemBytes it)))
  (((staging.or pantry).or (at_ Config.passWord s.mem.store)).or pool).getD (Config.freeValue (s.freeCtr + w) % 2 ^ 128)

/-- The 144 bits stored at a word (R466): data and check bits, as its errors leave them. -/
def storedWord (s : State) (w : Nat) : BitVec 144 :=
  let d := s.wordData w
  BitVec.ofNat 144 (Nat.xor (Nat.xor (d + (Config.checkBits d).toNat * 2 ^ 128) (s.wordWrong w)) (s.wordErr w))

/-! ### Writes by block -/

/-- RNG registers of port p (Table 03-13): a change of EN, TEST or RATE_MAX acts as the port's command or object. -/
def wrRng (p o v m : Nat) (s : State) : State :=
  let q := o / 0x100
  let a := Blk.rng + o
  if s.portCount ≤ q then s
  else
    match o % 0x100 with
    | 0x00 =>
      let old := s.rg a
      let new_ := mergeW old v m
      let s1 := s.rset a (putFld old 3 2 (fld new_ 3 2))
      let s2 := s1.regField p (Obj.rateMax q) 0x30 m (s.og (Obj.rateMax q)) (fld (mergeW 0 v m) 5 4)
      let en (s : State) : State := if hasBit old 0 = hasBit new_ 0 then s else after (execPortEnable q (hasBit new_ 0) s) s
      let test (s : State) : State := if hasBit old 1 = hasBit new_ 1 then s else after (execPortTest q (hasBit new_ 1) s) s
      if hasBit new_ 1 then en (test s2) else test (en s2)
    | 0x08 => s.regW1c a 0x1F v m
    | 0x0C => s.regRw a 0xFF v m
    | 0x10 => s.regRw a 0x1F v m
    | 0x20 =>
      let s1 := s.regRw a 0x0F v m
      if (s1.rport q).st = .test then s1.patSend q else s1
    | 0x24 => s.regRw a 0x0F v m
    | 0x30 => s.regRw a 0xFFFFFFFF v m
    | 0x34 => s.regRw a 0xFF v m
    | 0x38 => injStart q (mergeW (s.rg a) v (m &&& 0xFF0F) + (v &&& m &&& 0x80000000)) s
    | _ => s

/-- XL registers of link l (Table 04-10). DESIGN CHOICE (notes/assumptions/61.md): a write of LANE_EN while the link is in
service drops no lane. -/
def wrXl (o v m : Nat) (s : State) : State :=
  let l := o / 0x100
  let a := Blk.xl + o
  if 3 ≤ l ∨ !s.isHead then s
  else
    match o % 0x100 with
    | 0x00 =>
      let old := s.rg a
      let new_ := mergeW old v m
      let s1 := s.rset a (putFld (putFld old 6 4 (fld new_ 6 4)) 3 2 (fld new_ 3 2))
      let en (s : State) : State := if hasBit old 0 = hasBit new_ 0 then s else after (execXlEnable l (hasBit new_ 0) s) s
      let test (s : State) : State := if hasBit old 1 = hasBit new_ 1 then s else after (execXlTest l (hasBit new_ 1) s) s
      if hasBit new_ 1 then en (test s1) else test (en s1)
    | 0x08 => s.regW1c a 0x3F v m
    | 0x0C => s.regRw a 0xFF v m
    | 0x10 | 0x14 =>
      let n := (o % 0x100 - 0x10) / 4
      let s1 := s.regRw a 0xF1F v m
      if s1.xlTraining l n then s1.laneSampled l n else s1
    | 0x30 => s.regRw a 0xFFFFFFFF v m
    | 0x34 => s.regRw a 0xFF v m
    | 0x40 | 0x80 =>
      let s1 := s.regRw a 0x0F v m
      if (s1.xlink l).st = .test then s1.patSend (12 + 2 * l + (o % 0x100 - 0x40) / 0x40) else s1
    | 0x44 | 0x84 => s.regRw a 0x0F v m
    | 0x50 | 0x90 =>
      xlInjStart l ((o % 0x100 - 0x50) / 0x40) (mergeW (s.rg a) v (m &&& 0xFF0F) + (v &&& m &&& 0x80000000)) s
    | _ => s

/-- PWM registers (Table 07-12). -/
def wrPwm (p o v m : Nat) (s : State) : State :=
  let a := Blk.pwm + o
  let new_ := mergeW (s.rdPwm o) v m
  match o with
  | 0x00 => (s.regField p Obj.carMode 3 m (s.og Obj.carMode) (fld new_ 1 0)).regField p Obj.carXfer 4 m (s.og Obj.carXfer) (fld new_ 2 2)
  | 0x04 => s.regW1c a 0x9C v m
  | 0x08 => cellReg s (fun s => if perOk s (fld new_ 19 0) then s.shadowPer (fld new_ 19 0) else s)
  | 0x0C => cellReg s (seatDuty (fld new_ 23 0))
  | 0x18 => if hasBit m 0 then cellReg s (fun s => s.setHold (hasBit v 0)) else s
  | 0x1C =>
    (s.regField p Obj.dtBr 0x7FF m (s.og Obj.dtBr) (fld new_ 10 0)).regField p Obj.dtBat 0x7FF0000 m (s.og Obj.dtBat) (fld new_ 26 16)
  | 0x54 => s.tripClear (v &&& m &&& 0x3F)
  | 0x58 => s.regW1c a 0x1F v m
  | _ =>
    if 0x20 ≤ o ∧ o < 0x40 ∧ hasBit m 0 then s.regObj p (Obj.edgeTrim ((o - 0x20) / 4)) (ofI 16 (toI 4 (fld new_ 3 0))) else s

/-- ADC registers (Table 10-10). -/
def wrAdc (p o v m : Nat) (s : State) : State :=
  let n := o % 0x100 / 4
  let act := v &&& m
  if o = 0 then
    let s1 := if hasBit m 0 then s.regField p Obj.refEn 1 m (s.og Obj.refEn) (fld v 0 0) else s
    let s2 := if hasBit m 2 then s1.regField p Obj.adccMode 4 m (s1.og Obj.adccMode) (fld v 2 2) else s1
    if hasBit act 1 then regTry s2 (applyCalCmd 1) else s2
  else if o = 8 then s.regW1c (Blk.adc + 8) 0xF v m
  else if o = 0xC then
    (List.range 8).foldl (fun s q => if hasBit act q ∧ s.seqTrigOf q = 5 then s.seqStart q s.now8 else s) s
  else if o / 0x100 = 1 then regTry s (applySeqEntry false n (mergeW (s.tableDesc false n) v m))
  else if o / 0x100 = 2 then regTry s (applySeqEntry true n (mergeW (s.tableDesc true n) v m))
  else s

/-- FLT registers (Table 14-13). -/
def wrFlt (p o v m : Nat) (s : State) : State :=
  let n := o % 0x100 / 4
  let act := v &&& m
  match o with
  | 0x00 => s.fltClear (act % 2 ^ 32)
  | 0x04 => s.fltClear (act % 2 ^ 32 * 2 ^ 32)
  | 0x40 =>
    let s1 := if hasBit act 0 then s.fltEmpty else s
    let s2 := if hasBit act 1 then s1.fltClear (2 ^ 64 - 1) else s1
    if hasBit act 2 ∧ s2.pw.faultHold then s2.holdRelease else s2
  | 0x48 => s.regW1c (Blk.flt + 0x48) 0x1F v m
  | _ =>
    if 0x100 ≤ o ∧ o < 0x200 then
      let old := s.rdFlt o
      let new_ := mergeW old v m
      let r := fltRange n
      let s1 := if m &&& 7 = 0 then s
        else if r.1 ≤ fld new_ 2 0 ∧ fld new_ 2 0 ≤ r.2 then s.regField p (Obj.fltClass n) 7 m (fld old 2 0) (fld new_ 2 0)
        else (s.fltEvt 4).irqPost 22 7
      let s2 := s1.regField p (Obj.fltByp n) 0x10 m (fld old 4 4) (fld new_ 4 4)
      let s3 := s2.regField p (Obj.fltQuiet n) 0xFFFF00 m (fld old 23 8) (fld new_ 23 8)
      s3.regField p (Obj.fltRlim n) 0xF000000 m (fld old 27 24) (fld new_ 27 24)
    else s

/-- IRQ registers (Table 15-8). -/
def wrIrq (p o v m : Nat) (s : State) : State :=
  let t := p + 4
  let n := o % 0x20 / 4
  let act := v &&& m
  if o < 0x20 then irqPendRaw t n (mergeW (s.irqSeen t n) v m) s
  else if o < 0x40 then s.irqSetBits t n act
  else if o < 0x60 then s.irqClrBits t n act
  else if o < 0x80 then irqEnRaw t n (mergeW (s.irqSeen t (8 + n)) v m) s
  else if o < 0xA0 then s.irqEnsetBits t n act
  else if o < 0xC0 then s.irqEnclrBits t n act
  else if 0x100 ≤ o ∧ o < 0x180 then
    let g := (o - 0x100) / 4
    let old := (s.rdIrq p o).1
    let new_ := mergeW old v m
    let s1 := if fld old 2 0 = fld new_ 2 0 then s
      else
        match applyIrqRoute t g (fld new_ 2 0) s with
        | .ok x => x
        | .error 3 => s.irqLog 2 t g
        | .error _ => s
    let s2 := s1.regField p (Obj.irqPrio g) 0xF0 m (fld old 7 4) (fld new_ 7 4)
    let s3 := s2.regField p (Obj.irqCoalN g) 0xFF00 m (fld old 15 8) (fld new_ 15 8)
    let s4 := s3.regField p (Obj.irqCoalT g) 0xFFF0000 m (fld old 27 16) (fld new_ 27 16)
    let s5 := s4.regField p (Obj.irqHmode g) 0x30000000 m (fld old 29 28) (fld new_ 29 28)
    s5.regField p (Obj.irqDmode g) 0x40000000 m (fld old 30 30) (fld new_ 30 30)
  else if 0x180 ≤ o ∧ o < 0x200 then
    let g := (o - 0x180) / 4
    let old := s.og (Obj.irqHoldoffT g)
    s.regField p (Obj.irqHoldoffT g) 0xFFFFF m old (fld (mergeW old v m) 19 0)
  else if o = 0x304 then (if hasBit m 0 then s.eoi t (fld v 4 0) else s)
  else if o = 0x30C then
    (if hasBit m 0 ∧ p ≠ 0 then (s.irqSet fun w => { w with asleep := putBit w.asleep t (hasBit v 0) }).withdraw else s)
  else s

/-- DSP registers (Table 15-9). -/
def wrDsp (p o v m : Nat) (s : State) : State :=
  let t := p + 4
  let a := pathReg t (Blk.dsp + o)
  let act := v &&& m
  match o with
  | 0x00 | 0x04 | 0x08 | 0x10 | 0x14 => s.regRw a 0xFFFFFFFF v m
  | 0x0C =>
    let w (off : Nat) : Nat := s.rg (pathReg t (Blk.dsp + off))
    s.dspPushBy t (fld act 9 0) (fld act 13 12) (fld act 15 14) (w 0) (w 4) (w 8) (w 0x10 + w 0x14 * 2 ^ 32)
  | 0x30 => if m &&& 0x3FF = 0 then s else s.dspDoneBy t (fld act 9 0)
  | 0x34 => s.dspCmdBy t (fld act 1 0)
  | 0x120 => s.regW1c (Blk.dsp + 0x120) 0x3F v m
  | _ => s

/-- CAPQ registers (Table 16-15). -/
def wrCapq (p o v m : Nat) (s : State) : State :=
  let n := o / 0x10
  if s.capCount ≤ n ∨ o % 0x10 ≠ 4 then s
  else s.capqRd p n (fld (mergeW (s.stream n).rd v m) 19 0)

/-- The MSI-X table: a vector unmasked while its pending bit stands sends its message (R445). -/
def wrMsix (a v m : Nat) (s : State) : State :=
  let g := (a - Blk.msix) / 16
  let s1 := s.rset a (mergeW (s.rg a) v (if a % 16 = 12 then m &&& 1 else m))
  if a % 16 = 12 ∧ !hasBit (s1.rg a) 0 ∧ hasBit s1.irq.pba g then
    (s1.irqSet fun w => { w with pba := clrBit w.pba g }).emit (.msi g)
  else s1

end State

end Sys2Proof.Machine
end

