-- ==== Sys2Proof/Machine/ObjAccess.lean ====
section
/-! DEFINITION. Object accesses through the transports: the mailbox of a path (R449), accesses of cells through the HEAD
(R458, R459), HOP frames (R450 to R454), and the writes of registers (R444, R446). -/

namespace Sys2Proof.Machine

namespace State

/-! ### Accesses of the part's own objects -/

/-- The code a write of an object is answered with (R440). -/
def writeCode (a : Accessor) (k n : Nat) (d : Bytes) (s : State) : Nat :=
  match s.writeTests a k n with
  | 0 => match s.objHandler a k d with | .ok _ => if s.mirrorFull a k then 6 else 0 | .error c => c
  | c => c

/-- A write with an offset: an offset other than 0 fails at the length test (R441). -/
def writeLen (off : Nat) (d : Bytes) : Nat := if off = 0 then d.length else 2 ^ 20

/-- A write of an object of the part, its answer included: code, total object length, state. -/
def ownWrite (a : Accessor) (k off : Nat) (d : Bytes) (s : State) : Nat × Nat × State :=
  let c := s.writeCode a k (writeLen off d) d
  let size := match Dict.lookup k with | some r => if r.len = 0 then Dict.tySize r.ty else r.len | none => 0
  if off = 0 then (c, if c = 0 then size else 0, s.writeObject a k d) else (c, 0, s.answer a k c true)

/-- A read of an object of the part, its answer included: code, total object length, bytes, state. -/
def ownRead (a : Accessor) (k off len : Nat) (s : State) : Nat × Nat × Bytes × State :=
  let x := s.readObject a k off len
  (x.1, x.2.1, x.2.2.1, x.2.2.2.answer a k x.1 false)

/-! ### Cells through the HEAD (R458, R459) -/

/-- Why an access of a cell is refused at once: 0 when it is sent. -/
def cellRefused (s : State) (target len k : Nat) : Nat :=
  let p := ringOf target
  let h := hopOf target
  if s.pw.faultHold && !servedInHold k then 0x0C
  else if 1008 < len then 7
  else if !s.isHead || pairOf target != s.og Obj.pairId || !s.namesRing p || !(s.ringRec p).enumerated || h == 127 ||
      h == 0 || decide (s.lastHop p < h) || (s.servingEnd p h).isNone then 9
  else if 64 ≤ s.seat.cellReqs.length then 0x0E
  else 0

/-- Send an OBJ_REQ and hold the request open: `head` and `seq` are a HOP request's own. -/
def cellSend (a : Accessor) (target : Nat) (write : Bool) (k off len : Nat) (d head : Bytes) (seq : Nat) (s : State) : State :=
  let id := s.seat.nextReq
  let seat := (accSeat a).getD 0
  let pl := leBytes 2 id ++ leBytes 1 (if write then 2 else 1) ++ leBytes 1 (b2n (s.holdsToken a) + seat * 16) ++
    leBytes 2 (k / 256) ++ leBytes 1 (k % 256) ++ zeros 1 ++ leBytes 4 off ++ leBytes 2 len ++ zeros 2 ++ (if write then d else [])
  let r : CellReq := { id := id, caddr := target, write := write, key := k, acc := a, cue := s.tm.cue, head := head, seq := seq }
  (s.seatSet fun w => { w with cellReqs := w.cellReqs ++ [r], nextReq := inc 16 id }).sendCell
    (ringOf target) (hopOf target) 7 0x30 0 0 pl

/-! ### The mailbox (R449) -/

/-- The words of a byte string stored in a path's OBJ_DATA. -/
def putData (p : Nat) (d : Bytes) (s : State) : State :=
  (List.range ((d.length + 3) / 4)).foldl (fun s i => s.rset (pathReg p (Blk.obj + 0x400 + 4 * i)) (rd (fit (4 * i + 4) d) (4 * i) 4)) s
/-- The first n bytes of a path's OBJ_DATA. -/
def getData (s : State) (p n : Nat) : Bytes :=
  ((List.range ((n + 3) / 4)).flatMap (fun i => leBytes 4 (s.rg (pathReg p (Blk.obj + 0x400 + 4 * i))))).take n

/-- A mailbox access ends: ACODE, RLEN, TOTAL and the data, BUSY 0, DONE 1. -/
def mailEnd (p code total : Nat) (d : Bytes) (s : State) : State :=
  (((((s.putData p d).setMbox p 0 0).setMbox p 1 1).setMbox p 3 d.length).setMbox p 4 code).setMbox p 5 total

/-- An OBJ_CMD write of a path: read or write; while BUSY it is ignored. Also: R462. -/
def mailbox (p : Nat) (write : Bool) (s : State) : State :=
  let w (o : Nat) : Nat := s.prg p (Blk.obj + o)
  let k := w 0 / 256
  let target := w 4 % 65536
  let off := w 8 % 65536
  let len := w 0xC % 2048
  let a : Accessor := .path (Fin.ofNat 3 p)
  if s.mbox p 0 = 1 then
    (s.setMbox p 2 1).seatLogEntry (16 * p) 0x26 (k / 256 * 65536 + k % 256 * 256 + accOp a write)
  else if target ≠ 0 then
    match s.cellRefused target len k with
    | 0 => (s.setMbox p 0 1).cellSend a target write k off len (s.getData p len) [] 0
    | c => (s.answer a k c write).mailEnd p c 0 []
  else if write then
    let x := s.ownWrite a k off (s.getData p len)
    x.2.2.mailEnd p x.1 x.2.1 []
  else
    let x := s.ownRead a k off len
    x.2.2.2.mailEnd p x.1 x.2.1 x.2.2.1

/-! ### Register writes (R444, R446) -/

/-- OBJ registers (Table 16-14). -/
def wrObj (p o v m : Nat) (s : State) : State :=
  let a := pathReg p (Blk.obj + o)
  let act := v &&& m
  match o with
  | 0x00 => s.regRw a 0xFFFFFF00 v m
  | 0x04 | 0x08 => s.regRw a 0xFFFF v m
  | 0x0C => s.regRw a 0x7FF v m
  | 0x10 =>
    if m = 0 then s
    else if s.mbox p 0 = 1 then s.mailbox p (fld act 1 0 == 2)
    else if fld act 1 0 = 1 then s.mailbox p false else if fld act 1 0 = 2 then s.mailbox p true else s
  | 0x14 =>
    let s1 := if hasBit act 30 then s.setMbox p 1 0 else s
    if hasBit act 29 then s1.setMbox p 2 0 else s1
  | 0x24 =>
    if hasBit m 0 then
      (match applyTokenCmd (.path (Fin.ofNat 3 p)) (fld act 2 0) s with | .ok t => t | .error _ => s)
    else s
  | _ => if 0x400 ≤ o ∧ o < 0x800 then s.regRw a 0xFFFFFFFF v m else s

/-- A write of the word at an address by a path, with a mask of the enabled bits (R9, R10, R444, R446). -/
def regWr (p a v m : Nat) (s : State) : State :=
  let o := a % 0x1000
  if !s.blockServed a ∨ !s.accPresent (.path (Fin.ofNat 3 p)) ∨ m = 0 then s
  else if Blk.msix ≤ a ∧ a < Blk.msix + 0x200 then (if p = 0 then s.wrMsix a v m else s)
  else
    match a / 0x1000 with
    | 0 => if o = 0x0C then s.regRw (pathReg p o) 0xFFFFFFFF v m else s
    | 1 => s.wrObj p o v m
    | 2 => s.wrRng p o v m
    | 3 => s.wrXl o v m
    | 4 => s.wrPwm p o v m
    | 5 => s.wrAdc p o v m
    | 6 => s.wrFlt p o v m
    | 7 => s.wrIrq p o v m
    | 8 => s.wrDsp p o v m
    | 9 => s.wrCapq p o v m
    | _ => s

/-! ### HOP (R450 to R454) -/

/-- Count and log a transport violation of Table 16-12. -/
def transport (port code op : Nat) (s : State) : State := s.seatLogEntry port code op

/-- A HOP frame leaves while a station network port has its link. -/
def hopOut (ip port : Nat) (f : Bytes) (s : State) : State := s.hopEmit ip port f

/-- A header-only answer that echoes SESSION and SEQ (R452); the log entry of a READ or WRITE names the object of its access
block (R463). -/
def hopHead (ip port ty sess seq code : Nat) (pl : Bytes) (s : State) : State :=
  let key := if (ty = 0x10 ∨ ty = 0x11) ∧ 3 ≤ pl.length then rd pl 0 2 * 65536 + rd pl 2 1 * 256 else 0
  (s.hopOut ip port (hopFrame (ty % 128 + 128) sess seq code [])).transport (0x30 + sess % 16) code (key + ty)

/-- The access block of a response (Table 16-7). -/
def accBlock (head : Bytes) (total rlen : Nat) : Bytes := fit 8 head ++ leBytes 4 total ++ leBytes 2 rlen ++ zeros 2

/-- A sender that HOP_ALLOW admits: every entry 0, or one of them the sender's address (R450). -/
def hopAllowed (s : State) (ip : Nat) : Bool :=
  let l := (List.range 8).map (fun i => rd (s.dg Obj.hopAllow) (4 * i) 4)
  l.all (fun x => x == 0) || (ip != 0 && l.contains ip)

/-- TYPEs of requests. -/
def hopKnown (t : Nat) : Bool := [1, 2, 3, 0x10, 0x11, 0x20].contains t

/-- The PRP trailer behind a datagram, where it has one: 16-bit sequence number, LAN identifier and size, 0x88FB, most significant
byte first. PRESUMED (notes/assumptions/68.md): the layout of IEC 62439-3. -/
def prpTrailer (f : Bytes) : Option (Nat × Nat) :=
  let n := f.length
  if rd f 6 2 + 26 = n ∧ rd f (n - 2) 1 = 0x88 ∧ rd f (n - 1) 1 = 0xFB then
    some (rd f (n - 6) 1 * 256 + rd f (n - 5) 1, rd f (n - 4) 1 / 16)
  else none
/-- A datagram without its PRP trailer, none for the second of a pair (R450): the same sender and sequence number have come over
the other LAN within the last 400 ms. PRESUMED (notes/assumptions/68.md): that time is IEC 62439-3's. -/
def prpTake (s : State) (ip : Nat) (f : Bytes) : Option Bytes × State :=
  match prpTrailer f with
  | none => (some f, s)
  | some (q, lan) =>
    let l := s.seat.prpSeen.filter (fun e => decide (s.tm.tb2 - e.2.2.2 ≤ 400000000))
    let twin := l.any (fun e => e.1 == ip && e.2.1 == q && e.2.2.1 != lan)
    if twin then (none, s.seatSet fun w => { w with prpSeen := l.filter (fun e => !(e.1 == ip && e.2.1 == q)) })
    else (some (f.take (f.length - 6)), s.seatSet fun w => { w with prpSeen := l ++ [(ip, q, lan, s.tm.tb2)] })

/-- Reception of a HOP datagram (R450, R452): the handler runs on a request of the wanted TYPE that no test stops; OPEN
names no session. Its arguments are the session, SEQ and payload. -/
def hopRxOne (ip port : Nat) (f : Bytes) (want : Nat) (h : Nat → Nat → Bytes → State → State) (s : State) : State :=
  let ty := rd f 3 1
  let sess := rd f 4 2
  let seq := rd f 8 4
  if !s.hopAllowed ip then s.transport 0x30 0x20 ty
  else if f.length < 20 ∨ rd f 0 2 ≠ 0x4851 ∨ rd f 2 1 ≠ 1 ∨
      rd f (f.length - 4) 4 ≠ crc32 (f.take (f.length - 4)) then s.transport 0x30 0x20 ty
  else
    let pl := (f.drop 16).take (f.length - 20)
    if rd f 6 2 + 20 ≠ f.length then s.hopHead ip port ty sess seq 7 pl
    else if !hopKnown ty then s.hopHead ip port ty sess seq 0x0F pl
    else if ty ≠ 1 ∧ (s.hopSession sess).isNone then s.hopHead ip port ty sess seq 0x0D pl
    else if ty ≠ want then s
    else h sess seq pl s

/-- A datagram arrives on the station network: the second of a PRP pair is discarded. -/
def hopRx (ip port : Nat) (f : Bytes) (want : Nat) (h : Nat → Nat → Bytes → State → State) (s : State) : State :=
  if !s.running ∨ !s.isHead ∨ s.seat.netUp = 0 then s
  else
    match s.prpTake ip f with
    | (some g, t) => t.hopRxOne ip port g want h
    | (none, t) => t

/-- An executed request is answered: the response is stored and sent, once more for every copy that waited (R453). -/
def hopDone (ip port sess : Nat) (resp : Bytes) (s : State) : State :=
  match s.hopSession sess with
  | none => s.hopOut ip port resp
  | some v =>
    let s1 := s.setSession sess { v with resp := resp, busy := false, copies := 0 }
    (List.range (1 + v.copies)).foldl (fun s _ => s.hopOut ip port resp) s1

/-- A request of an open session under the SEQ rules (R453): `f` executes it. A request in its session restarts the
timer. -/
def hopSeq (ip port ty sess seq : Nat) (pl : Bytes) (f : State → State) (s : State) : State :=
  match s.hopSession sess with
  | none => s
  | some v0 =>
    let v := { v0 with seenAt := s.tm.tb2 }
    let s1 := s.setSession sess v
    let d := subMod 32 seq v.a
    if d = 1 then
      if v.busy then s1.hopHead ip port ty sess seq 0x0E pl
      else f (s1.setSession sess { v with a := seq, copies := 0 })
    else if d = 0 then
      if v.busy then s1.setSession sess { v with copies := v.copies + 1 } else s1.hopOut ip port v.resp
    else if d < 2 ^ 31 then s1.hopHead ip port ty sess seq 0x0B pl
    else s1.hopHead ip port ty sess seq 0x0A pl

/-- A session closes (R452): its subscriptions and its copy buffer (R442) end, a token it holds and its request record pass
on (R456, R524). -/
def sessionClose (n : Nat) (s : State) : State :=
  let s1 := s.seatSet fun w =>
    { w with sessions := w.sessions.filter (fun e => e.1 != n),
             copies := Kv.keep (fun c => some c != copyKey (.hop n)) w.copies }
  ((s1.tokenUnask 3 n).tokenLost 3 n).withdraw

/-- The lowest free session number. -/
def freeSession (s : State) : Option Nat := ((List.range 8).map (fun i => i + 1)).find? (fun n => (s.hopSession n).isNone)

/-- An open session takes its place in the order of numbers. -/
def addSession (n : Nat) (v : HopSession) (s : State) : State :=
  s.seatSet fun w =>
    { w with sessions := w.sessions.filter (fun e => decide (e.1 < n)) ++ [(n, v)] ++ w.sessions.filter (fun e => decide (n < e.1)) }

/-- READ and WRITE of an access block (R451, R453, R458). -/
def hopAccess (ip port ty sess seq : Nat) (pl : Bytes) (s : State) : State :=
  let write := ty == 0x11
  let a : Accessor := .hop sess
  let k := rd pl 0 2 * 256 + rd pl 2 1
  let target := rd pl 4 2
  let off := rd pl 8 4
  let len := rd pl 12 2
  let d := pl.drop 16
  if pl.length < 16 ∨ (write ∧ pl.length ≠ 16 + len) then s.hopHead ip port ty sess seq 7 pl
  else
    s.hopSeq ip port ty sess seq pl (fun s =>
      let reply (code total : Nat) (x : Bytes) (t : State) : State :=
        t.hopDone ip port sess (hopFrame (ty + 128) sess seq code (accBlock pl total x.length ++ x))
      if target ≠ 0 then
        match s.cellRefused target len k with
        | 0 =>
          let s1 := match s.hopSession sess with | some v => s.setSession sess { v with busy := true } | none => s
          s1.cellSend a target write k off len d (pl.take 16 ++ leBytes 4 ip ++ leBytes 2 port) seq
        | c => reply c 0 [] (s.answer a k c write)
      else if write then
        let x := s.ownWrite a k off d
        reply x.1 x.2.1 [] x.2.2
      else
        let x := s.ownRead a k off len
        reply x.1 x.2.1 x.2.2.1 x.2.2.2)

/-! ### The end of a cell access (R458, R459) -/

/-- A cell access ends with a code, at its requester. -/
def cellEnd (r : CellReq) (code total : Nat) (d : Bytes) (s0 : State) : State :=
  let ctl := match Dict.lookup r.key with | some x => x.ctl | none => false
  -- every accepted control-writing write restarts the lease (R455)
  let s := if r.write && code == 0 && ctl && s0.holdsToken r.acc then s0.leaseRestart else s0
  let s1 := (s.seatSet fun w => { w with cellReqs := w.cellReqs.filter (fun x => x.id != r.id) }).answer r.acc r.key code r.write
  let s2 := s1.irqPost 26 7
  match r.acc with
  | .path p => s2.mailEnd p.val code total d
  | .hop n =>
    s2.hopDone (rd r.head 16 4) (rd r.head 20 2) n
      (hopFrame ((if r.write then 0x11 else 0x10) + 128) n r.seq code (accBlock r.head total d.length ++ d))
  | _ => s2

/-- An OBJ_RSP reaches the HEAD; one that no open request waits for is discarded, and logged when its request has timed
out. -/
def objResponse (pl : Bytes) (src : Nat) (s : State) : State :=
  let id := rd pl 0 2
  if pl.length < 8 then s
  else
    match s.seat.cellReqs.find? (fun r => r.id == id && r.caddr == src) with
    | some r =>
      let s1 := if r.key = Obj.tb0State ∧ !r.write ∧ rd pl 2 1 = 0 ∧ 1 ≤ hopOf src then
          let n := 96 * ringOf src + hopOf src - 1
          let c := s.cellRec n
          if c.waitLock ∧ rd pl 8 1 = 2 ∧ (s.ringRec (ringOf src)).admitted then
            s.setCellRec n { c with st := .admitted, waitLock := false, tb0Seen := 2 }
          else s.setCellRec n { c with tb0Seen := rd pl 8 1 }
        else s
      s1.cellEnd r (rd pl 2 1) (rd pl 4 4) (if r.write then [] else pl.drop 8)
    | none =>
      match s.seat.late.find? (fun r => r.id == id && r.caddr == src) with
      | some r =>
        (s.seatSet fun w => { w with late := w.late.filter (fun x => x.id != id || x.caddr != src) }).seatLogEntry
          ((accPort r.acc).getD 0) 0x28 (r.key / 256 * 65536 + r.key % 256 * 256 + accOp r.acc r.write)
      | none => s.seatLogEntry 0 0x28 0

/-- A cell request has waited CELL_OBJ_TIMEOUT CUEs. -/
def cellTimeout (r : CellReq) (s : State) : State :=
  (s.seatSet fun w => { w with late := (w.late ++ [r]).drop (w.late.length - 63) }).cellEnd r 8 0 []

/-- A cell serves an OBJ_REQ with the rights of the Seat 1 column (R459) and queues its OBJ_RSP. -/
def serveCell (port : Nat) (h : Hdr) (pl : Bytes) (s : State) : State :=
  if pl.length < 16 then s
  else
    let a : Accessor := .ring (hasBit (rd pl 3 1) 0) (Fin.ofNat 4 (rd pl 3 1 / 16))
    let k := rd pl 4 2 * 256 + rd pl 6 1
    let off := rd pl 8 4
    let len := rd pl 12 2
    let reply (code total : Nat) (d : Bytes) (t : State) : State :=
      t.queueBg port 7 0x31 0 (h.dst / 128 * 128) 0 t.tm.cue
        (leBytes 2 (rd pl 0 2) ++ leBytes 1 code ++ zeros 1 ++ leBytes 4 total ++ d)
    if rd pl 2 1 = 2 then
      let x := s.ownWrite a k off ((pl.drop 16).take len)
      reply x.1 x.2.1 [] x.2.2
    else if rd pl 2 1 = 1 then
      let x := s.ownRead a k off (min len 1024)
      reply x.1 x.2.1 (x.2.2.1.take 1008) x.2.2.2
    else s

/-! ### The remaining HOP requests (R452 to R454) -/

/-- OPEN: the lowest free session, whose timer starts; its response is the stored one of SEQ 0. -/
def hopOpen (ip port seq : Nat) (pl : Bytes) (s : State) : State :=
  if pl.length < 4 then s.hopHead ip port 1 0 seq 7 pl
  else
    match s.freeSession with
    | none => s.hopHead ip port 1 0 seq 0x0E pl
    | some n =>
      let resp := hopFrame 0x81 n seq 0 (leBytes 2 n ++ leBytes 2 (s.og Obj.hopTimeout))
      let v : HopSession :=
        { ip := ip, port := port, a := 0, busy := false, copies := 0, resp := resp, groups := 0, streams := 0,
          seenAt := s.tm.tb2, txSeq := 0 }
      (s.addSession n v).hopOut ip port resp

/-- CLOSE: answered, then the session closes. -/
def hopClose (ip port sess seq : Nat) (s : State) : State :=
  s.hopSeq ip port 2 sess seq [] (fun s => (s.hopDone ip port sess (hopFrame 0x82 sess seq 0 [])).sessionClose sess)

/-- KEEPALIVE: answered; the timer restarts, as at any request. -/
def hopKeep (ip port sess seq : Nat) (s : State) : State :=
  s.hopSeq ip port 3 sess seq [] (fun s => s.hopDone ip port sess (hopFrame 0x83 sess seq 0 []))

/-- SUBSCRIBE: a stream of another open session makes it 0x06; otherwise the masks replace the session's. -/
def hopSubscribe (ip port sess seq : Nat) (pl : Bytes) (s : State) : State :=
  let g := rd pl 0 4
  let m := rd pl 4 1
  if pl.length < 8 then s.hopHead ip port 0x20 sess seq 7 pl
  else
    s.hopSeq ip port 0x20 sess seq pl (fun s =>
      if s.seat.sessions.any (fun e => e.1 != sess && e.2.streams &&& m != 0) then
        (s.hopDone ip port sess (hopFrame 0xA0 sess seq 6 [])).transport (0x30 + sess % 16) 6 0x20
      else
        let s1 := match s.hopSession sess with | some v => s.setSession sess { v with groups := g, streams := m } | none => s
        (s1.hopDone ip port sess (hopFrame 0xA0 sess seq 0 [])).withdraw)

/-! ### Streams of HOP sessions (R454) -/

/-- The session subscribed to stream n. -/
def streamSession (s : State) (n : Nat) : Option Nat := (s.seat.sessions.find? (fun e => hasBit e.2.streams n)).map (fun e => e.1)

/-- One STREAM frame of stream n to its session, and its bytes freed; with no network port up none can be sent. -/
def streamFlush (n : Nat) (s : State) : State :=
  match s.streamSession n with
  | none => s
  | some u =>
    let recs := wholeRecords 1036 (s.stream n).stage
    if s.og (Obj.streamSeat n) ≠ 3 ∨ recs.isEmpty ∨ s.seat.netUp = 0 then s
    else
      let x := s.memLoad 2 (Config.stagingWord n) (s.stagePos n (s.stream n).rd) recs.flatten
      (x.2.2.hopPush u 0x41 (leBytes 1 n ++ zeros 1 ++ leBytes 2 recs.length ++ x.1)).stageFree n recs.flatten.length

end State

end Sys2Proof.Machine
end

