-- ==== Sys2Proof/Machine/PairOps.lean ====
section
/-! DEFINITION. The pair: relay (R134, R135), the fast and the slow snapshot (R393 to R396), self-test and health (R397,
R398), takeover and handover (R399 to R403). -/

namespace Sys2Proof.Machine

/-! ### Records of the fast snapshot's variable part (Table 14-4) -/

/-- Length of the record at the head of a byte string, 0 at its end. -/
def mirrorRecLen (b : Bytes) : Nat :=
  match rd b 0 1 with
  | 1 => 68
  | 2 => 8 + (rd b 4 2 + 3) / 4 * 4
  | 3 => 4
  | _ => 0
/-- The records of a variable part. -/
def mirrorRecs : Nat → Bytes → List Bytes
  | 0, _ => []
  | fuel + 1, b =>
    let n := mirrorRecLen b
    if n = 0 ∨ b.length < n then [] else b.take n :: mirrorRecs fuel (b.drop n)

/-- The leading records that fit into a room, and the rest. -/
def fitRecs : Nat → List Bytes → List Bytes × List Bytes
  | _, [] => ([], [])
  | room, b :: t =>
    if room < b.length then ([], b :: t)
    else
      let x := fitRecs (room - b.length) t
      (b :: x.1, x.2)

/-- The leading M lines that fit into a room, at most to the end of one cycle: lines, the cycle that ends with them, and
the rest. -/
def fitLines : Nat → List (Nat × Bytes × Option Nat) → List Bytes × Option Nat × List (Nat × Bytes × Option Nat)
  | _, [] => ([], none, [])
  | room, e :: t =>
    if room < 68 then ([], none, e :: t)
    else
      let b := leBytes 2 1 ++ leBytes 2 e.1 ++ fit 64 e.2.1
      match e.2.2 with
      | some c => ([b], some c, t)
      | none =>
        let x := fitLines (room - 68) t
        (b :: x.1, x.2.1, x.2.2)

/-- Rank of a ring frame TYPE in Table 03-9. -/
def bgRank (ty : Nat) : Nat := if ty = 0x20 then 5 else if ty = 0x02 ∨ ty = 0x03 then 6 else 7

namespace State

/-! ### Relay -/

/-- A whole relayed frame waits on a port with its rank. A RATE_CAP frame sets the cap the port holds too (R86). -/
def queueRaw (p : Nat) (f : Bytes) (s : State) : State :=
  let s1 := s.bgAdd p (bgRank (rd f 0 1)) false f
  if rd f 0 1 = 5 ∧ (payload f).length = 1 then s1.setPort p { s1.rport p with rateCap := rd (payload f) 0 1 } else s1

/-- A REL_DN reaches the UNDERSTUDY (R134): a SHEET frame starts cut-through with `fill` /F/ in it where XL0 data ran short, and
ends with /E/ where the XCRC fails or it would need more than 256 of them; other types are stored whole. Also: R38, R98. -/
def relDn (p : Nat) (f : Bytes) (xcrc : Bool) (fill : Nat) (s : State) : State :=
  if !s.understudy ∨ 12 ≤ p then s
  else if rd f 0 1 = 0x10 then
    if xcrc ∧ fill ≤ 256 then
      (s.txForward p (f.length + fill) (rd f 4 2) (vdetail 0x10 (rd f 6 2)) (.ring p f)).noteSheet p false (rd f 10 2) (payload f)
    else s.forwardBad p f
  else if xcrc then s.queueRaw p f
  else s

/-- A ring frame relayed from the UNDERSTUDY's port reaches the active HEAD (R135): it acts as at the HEAD's own port of the
other end. `cells` is what an ENUM_RETURN reads of the numbered cells, `high` what a net test in this step finds. -/
def relUp (p : Nat) (f : Bytes) (cells : List CellId) (high : Nat) (s : State) : State :=
  let h := Hdr.read f
  let pl := payload f
  let near := s.pair.tookOver
  let bad (s : State) : State := s.ringLog p 6 h.src (vdetail h.ty h.seq)
  let src := hopOf h.src
  if !s.activeHead ∨ !s.namesRing p ∨ f.length < 20 then s
  else
    match h.ty with
    | 0x01 => if pl.length = 4 then s.enumBack p near pl cells else s
    | 0x04 =>
      if pl.length ≠ 8 then s
      else
        let s1 := s.irqPost 4 6
        if rd pl 0 1 = 1 then (if src = 0 then s1 else s1.breakNotice p src near (rd pl 1 1))
        else if rd pl 0 1 = 2 then s1.healNotice p (rd pl 2 1)
        else s1
    | 0x20 => (s.safRing p (if near then 0 else 1) h.src h.dst pl).safUpdate high
    | 0x31 =>
      if h.flags = 0 then s.objResponse pl h.src
      else if h.flags = 0x80 then
        (if pl.length = 16 ∧ src ≠ 0 ∧ src ≤ 96 then s.stnResponse (96 * p + src - 1) pl else s)
      else bad s
    | 0x40 =>
      let a := PassHdr.read pl
      if 16 ≤ pl.length ∧ a.kind = 3 then s.passAck (2 * p + 1) a else s
    | 0x50 => s.capFrame h.src pl
    | _ => s

/-! ### The fast snapshot (R393 to R395, Tables 14-4 and 14-5) -/

/-- One arm's 64 bytes. -/
def fastArm (s : State) (a : Nat) : Bytes :=
  let m := s.armMod a
  let o := s.arm a
  let sign (neg : Bool) : Bytes := leBytes 1 (if neg then 0xFF else 1)
  let r (i : Nat) : Bytes := leBytes 4 (ofI 32 ((m.refs.getD i none).getD 0))
  leBytes 2 (s.og (Obj.modCount a)) ++ leBytes 2 m.nav ++ leBytes 4 (match m.vs with | some v => F32.ofRat v | none => 0) ++
    sign m.sigNeg ++ sign m.tauNeg ++ zeros 2 ++ leBytes 4 (s.og (Obj.keyEpoch a)) ++ leBytes 4 s.loop.nco0.next ++
    leBytes 4 s.loop.nco1.next ++ leBytes 4 (F32.ofRat o.pb) ++ leBytes 4 (F32.ofRat o.i) ++ r 0 ++ r 1 ++ r 2 ++ r 3 ++ zeros 16

/-- A station slot's final states of the records for CUE k+1, k, k−1 and k−2; BLOCK where no record was sent. -/
def fastStates (s : State) (n : Nat) : Nat :=
  let kept := (s.modCell n).kept
  let at_ (j : Nat) : Nat :=
    match kept.find? (fun x => x.1 == (s.tm.cue + 1 + 2 ^ 32 - j) % 2 ^ 32) with
    | some x => x.2 % 4
    | none => 3
  at_ 0 * 64 + at_ 1 * 16 + at_ 2 * 4 + at_ 3

/-- One loop channel's 16 bytes. -/
def fastLoop (s : State) (c : Nat) : Bytes :=
  let h := s.loopCh c
  leBytes 8 (ofI 64 h.i) ++ leBytes 2 (ofI 16 h.y) ++ leBytes 1 (packBits [h.fallback, s.loop.injOn && s.loop.injCh == c]) ++
    leBytes 1 h.freeze ++ leBytes 1 h.recov ++ zeros 1 ++ leBytes 2 (s.og (Obj.coefEpoch c))

/-- Stations whose last written SQ bit 0 is set, among those that pass a test. -/
def sqSlots (s : State) (f : Nat → Bool) : Bytes :=
  bitsToSlots ((s.sl.sqOut.filter (fun e => hasBit e.2 0 && f e.1)).map (fun e => e.1))

/-- The fixed part: flags, and the sequence cycle synced in M. -/
def fastFixed (s : State) (flags mCycle : Nat) : Bytes :=
  let t := s.tm
  let pend := t.periodNext.head?
  let lost (n : Nat) : Bool := let x := (s.stn n).st; x == .lost || x == .returning
  leBytes 4 t.cue ++ leBytes 8 s.nextStart ++ leBytes 4 s.modT ++ leBytes 4 ((pend.map (fun e => e.2)).getD 0) ++
    leBytes 4 ((pend.map (fun e => e.1)).getD 0) ++ leBytes 4 (ofI 32 t.syncCorr) ++ leBytes 1 (syncCode t.sync) ++
    leBytes 1 flags ++ zeros 34 ++ s.fastArm 0 ++ s.fastArm 1 ++ (List.range 1152).flatMap (fun n => leBytes 1 (s.fastStates n)) ++
    s.fenceMapBytes ++ bitsToSlots ((List.range 1152).filter (s.bypPending ·)) ++
    (List.range 32).flatMap (s.fastLoop ·) ++
    (leBytes 2 (s.objValue 0 Obj.sgState) ++ leBytes 2 (packBits ((List.range 12).map (fun p => (s.ringRec p).curtain))) ++
      (List.range 12).flatMap (fun p => leBytes 4 ((s.liftOf p).getD 0)) ++ zeros 12) ++
    (leBytes 1 (slCode s.sl.st) ++ leBytes 1 s.sl.act ++ zeros 2 ++ leBytes 4 s.sl.cycle ++ leBytes 4 (s.sl.nextAt.getD 0) ++
      (List.range 8).flatMap (fun i => leBytes 4 (s.sl.sys.getD i 0)) ++ leBytes 4 mCycle ++ s.modeStatusBytes ++ zeros 32) ++
    s.sqSlots (fun _ => true) ++ s.sqSlots lost

/-- A snapshot or slice as frames with 512 data bytes each behind the header of Table 14-5. -/
def sendParts (ty cue slice_ : Nat) (d : Bytes) (s : State) : State :=
  let n := (d.length + 511) / 512
  let head := leBytes 4 cue ++ leBytes 2 d.length ++ leBytes 1 n ++ leBytes 1 slice_ ++ leBytes 4 (crc32 d) ++ zeros 4
  (List.range n).foldl (fun s i => s.xlSend 0 ty i (head ++ fit 512 (slice d (512 * i) 512))) s

/-- The fast snapshot of the present CUE leaves: mirrored writes first, then M lines. -/
def sendFast (s : State) : State :=
  let room := (if s.xlTwo then 8192 else 4096) - 2593
  let m := fitRecs room s.pair.mirror
  let used := m.1.foldl (fun n b => n + b.length) 0
  let l := if m.2.isEmpty then fitLines (room - used) s.pair.mlines else ([], none, s.pair.mlines)
  let mCycle := l.2.1.getD s.pair.mCycle
  let flags := packBits [s.pair.finalCue == some s.tm.cue, l.2.1.isSome, s.pair.dcrcDiff]
  let d := s.fastFixed flags mCycle ++ m.1.flatten ++ l.1.flatten ++ zeros 1
  (s.pairSet fun w => { w with mirror := m.2, mlines := l.2.2, mCycle := mCycle }).sendParts 0x20 s.tm.cue 0 d

/-- At a write point the marked lines of the cycle are queued (R395). -/
def queueLines (s : State) : State :=
  let c := s.sl.cycle
  let lines := s.pair.marked
  let line (n : Nat) : Bytes := (List.range 16).flatMap (fun i => leBytes 4 (s.slRead 6 (16 * n + i)))
  let q := lines.zipIdx.map (fun (e : Nat × Nat) => (e.1, line e.1, if e.2 + 1 = lines.length then some c else none))
  if !s.paired then s
  else
    s.pairSet fun w =>
      { w with mlines := w.mlines ++ q, marked := [], mCycle := if lines.isEmpty ∧ w.mlines.isEmpty then c else w.mCycle }

/-! ### The slow snapshot (R396, R137, Table 14-6) -/

def fltStCode : FltState → Nat
  | .idle => 0 | .active => 1 | .quiet => 2 | .latched => 3

/-- Its 32,768 bytes. -/
def slowBytes (s : State) : Bytes :=
  let sv (n : Nat) : Bytes :=
    let c := s.svCell n
    leBytes 2 c.vcap ++ leBytes 2 c.soc ++ leBytes 2 (ofI 16 c.temp) ++ leBytes 1 c.age ++
      leBytes 1 (packBits [(s.armMod 0).parked.contains n || (s.armMod 1).parked.contains n, s.mod.adopt.contains n]) ++
      leBytes 4 c.swcnt
  let src (n : Nat) : Bytes :=
    let f := s.fsrc n
    leBytes 1 (fltStCode f.st) ++ leBytes 1 f.rcnt ++ zeros 2 ++
      leBytes 4 (if f.st = .quiet then (s.tm.tb2 - f.quietAt) / 1000000 else 0)
  (List.range 1152).flatMap sv ++ fit 4608 (s.dg Obj.wearOfs) ++ (List.range 1152).flatMap (fun n => leBytes 4 (s.ssWord n)) ++
    (List.range 2304).flatMap (fun m => leBytes 4 (s.slRead 3 m)) ++ (List.range 64).flatMap src

/-- One slice per CUE; a change of width restarts the roll at slice 0. -/
def sendSlow (s : State) : State :=
  let wide := s.xlTwo
  let size := if wide then 4096 else 2048
  let n := if s.pair.wide = wide then s.pair.slice else 0
  let next := if n + 1 < 32768 / size then n + 1 else 0
  (s.pairSet fun w => { w with slice := next, wide := wide }).sendParts 0x21 s.tm.cue n (slice s.slowBytes (size * n) size)

/-! ### Reception on the UNDERSTUDY -/

/-- A fragment joins the snapshot or slice being received; a fragment of another one starts it anew. -/
def takePart (old : Option SnapIn) (i : Nat) (pl : Bytes) : SnapIn :=
  let fresh : SnapIn := { cue := rd pl 0 4, len := rd pl 4 2, count := rd pl 6 1, crc := rd pl 8 4, parts := [] }
  let b := match old with
    | some x => if x.cue = fresh.cue ∧ x.crc = fresh.crc then x else fresh
    | none => fresh
  let d := pl.drop 16
  { b with parts := b.parts.filter (fun e => decide (e.1 < i)) ++ [(i, d)] ++ b.parts.filter (fun e => decide (i < e.1)) }
/-- It is whole and its check holds: its bytes. -/
def wholePart (x : SnapIn) : Option Bytes :=
  let d := (x.parts.map (fun e => e.2)).flatten.take x.len
  if x.parts.length = x.count ∧ d.length = x.len ∧ crc32 d = x.crc then some d else none

/-- The fast snapshot of CUE k, k + 2 being the present one, has not come whole (R137). -/
def lateSnap (s : State) : Bool :=
  let k := (s.tm.cue + 2 ^ 32 - 2) % 2 ^ 32
  s.understudy && (s.pair.fastIn.any (fun x => cueFrom k x.cue) ||
    (match s.pair.lateCue with
     | some j => cueAfter k j && !(s.pair.fast.isSome && cueFrom s.pair.fastCue k)
     | none => false))

/-- A fast snapshot is lost (R137, R142, R395): discarded, counted and logged as SNAP_LATE, and M is not whole until every line
has come again. The UNDERSTUDY keeps the previous one. -/
def fastLost (s : State) : State :=
  let k := (s.tm.cue + 2 ^ 32 - 2) % 2 ^ 32
  (((s.pairSet fun w => { w with
    fastIn := w.fastIn.filter (fun x => !cueFrom k x.cue), lateCue := some k, mHeld := [], mWhole := false }).bump
      Obj.snapLate).xlLog 0 15 0x0C 0).irqPost 5 5

/-- One mirrored write is applied with the rules of its chapter (R394). A STORED value that a state test of this part
refuses is set as it stands, a safety parameter is not (R346). -/
def mirrorWrite (k seat : Nat) (d : Bytes) (s : State) : State :=
  let a : Accessor := .mirror seat
  if s.writeCode a k d.length d = 0 then s.writeObject a k d
  else
    match Dict.lookup k with
    | some r => if r.pers = .stored ∧ !s.restoreSkips k then s.loadValue k d else s
    | none => s

/-- One record of the variable part. -/
def mirrorApply (r : Bytes) (s : State) : State :=
  match rd r 0 1 with
  | 1 => s.pairSet fun w => { w with mHeld := w.mHeld.filter (fun e => e.1 != rd r 2 2) ++ [(rd r 2 2, r.drop 4)] }
  | 2 => s.mirrorWrite (rd r 2 2 * 256 + rd r 1 1) (rd r 6 2) (slice r 8 (rd r 4 2))
  | 3 => s.mirrorWrite Obj.storeCmd 0 (slice r 1 1)
  | _ => s

/-- The lines of one cycle are applied together (R395); after a loss, or at pair-up, only a set that holds every line. -/
def applyLines (cycle : Nat) (s : State) : State :=
  if s.pair.mWhole ∨ 1024 ≤ s.pair.mHeld.length then
    let s1 := s.pair.mHeld.foldl (fun s e =>
      (List.range 16).foldl (fun s i =>
        s.slSet fun w => { w with m := Kv.put (fun _ => 0) (16 * e.1 + i) (rd e.2 (4 * i) 4) w.m }) s) s
    s1.pairSet fun w => { w with mHeld := [], mSynced := true, mWhole := true, mSyncCycle := cycle }
  else s

/-- A complete fast snapshot (R137, R393 to R395, R398); its header gives the start of the next CUE as a CUE mark does. -/
def takeFast (cue : Nat) (d : Bytes) (s : State) : State :=
  let flags := rd d 29 1
  let k1 := inc 32 cue
  let s0 := if !s.tm.cueKnown ∨ k1 = inc 32 s.tm.cue then s.takeMark k1 (rd d 4 8) else s
  let s1 := (s0.pairSet fun w => { w with
    fastIn := w.fastIn.filter (fun x => cueAfter x.cue cue), fast := some d, fastCue := cue, diffSeen := hasBit flags 2 }).irqPost 5 3
  let s2 := (mirrorRecs (d.length + 1) (d.drop 2592)).foldl (fun s r => s.mirrorApply r) s1
  if hasBit flags 1 then s2.applyLines (rd d 0x8CC 4) else s2

/-- A SNAP_FAST fragment reaches the UNDERSTUDY: snapshots are put together side by side, each until the start of the second CUE
after its own (R137). -/
def snapFast (i : Nat) (pl : Bytes) (s : State) : State :=
  let cue := rd pl 0 4
  if !s.understudy ∨ pl.length ≠ 528 ∨ (s.tm.cueKnown ∧ cueFrom s.tm.cue ((cue + 2) % 2 ^ 32)) then s
  else
    let s1 := if cue = s.tm.cue then s.pairSet fun w => { w with fragSeen := true } else s
    let x := takePart (s1.pair.fastIn.find? (fun x => x.cue == cue)) i pl
    match wholePart x with
    | some d => s1.takeFast cue d
    | none => s1.pairSet fun w => { w with fastIn := w.fastIn.filter (fun y => y.cue != cue) ++ [x] }

/-- The UNDERSTUDY takes the SIEVE values, wear offsets and station state of a complete roll (R396). -/
def takeSlow (cue : Nat) (d : Bytes) (s : State) : State :=
  let s1 := (s.pairSet fun w => { w with slow := some d, slowCue := cue }).dset Obj.wearOfs (slice d 0x3600 4608)
  let s2 := (List.range 1152).foldl (fun s n =>
    let o := 12 * n
    let has := (slice d o 6 ++ slice d (o + 8) 4).any (fun b => b != 0#8)
    let age := rd d (o + 6) 1
    let waits := hasBit (rd d (o + 7) 1) 0 && decide (age ≤ s.og (Obj.keyAgeMax ((s.ringRec (n / 96)).arm - 1)))
    let c : SvCell := { vcap := rd d o 2, soc := rd d (o + 2) 2, temp := toI 16 (rd d (o + 4) 2), swcnt := rd d (o + 8) 4,
                        has := has, age := age, entered := has && !waits }
    let s' := s.setSvCell n c
    if hasBit (rd d (o + 7) 1) 1 then s'.modSet fun w => { w with adopt := insertNat n w.adopt } else
      s'.modSet fun w => { w with adopt := w.adopt.filter (fun x => x != n) }) s1
  let s3 := (List.range 1152).foldl (fun s n =>
    let x := rd d (0x4800 + 4 * n) 4
    let st : StnSt := if hasBit x 1 then .lost else if hasBit x 2 then .returning else .active
    if x = 0 then s.setStn n StnRec.reset
    else s.setStn n { s.stn n with
      st := st, q := hasBit x 0, outSafe := hasBit x 5, seenP := hasBit x 16, seenA := hasBit x 17, seenR := hasBit x 18 }) s2
  (List.range 2304).foldl (fun s m =>
    s.slSet fun w => { w with si := Kv.put (fun _ => 0) m (rd d (0x5A00 + 4 * m) 4) w.si }) s3

/-! ### Self-test and health (R397, R398, Table 14-7) -/

/-- The DCRC of Table 14-7. -/
def dcrc (s : State) : Nat :=
  let ks := (storedKeys s).filter (fun k =>
    !(decide (0x1000 ≤ k / 256) && decide (k / 256 ≤ 0x1FFF)) && !(decide (0xD000 ≤ k / 256) && decide (k / 256 ≤ 0xDFFF)) &&
      k != Obj.wearOfs)
  crc32 (ks.flatMap (fun k =>
    if keyDom k then s.dg k else leBytes (Dict.width k) (s.og k)))

/-- Tests of R397 in their order: 32 loop channels, two SIEVE engines, the predictor, the record builder, the scrub reports. -/
def selfTestCount : Nat := 37
/-- A test's result: the computation blocks answer as built; the scrub reports show an uncorrectable word. -/
def selfTestFails (s : State) (n : Nat) : Bool := n == 36 && s.work.bad.any (fun e => decide (2 ≤ (symsOf e.2).length))
/-- One test per CUE. -/
def selfTest (s : State) : State :=
  let n := s.pair.test
  let bad := s.selfTestFails n
  s.pairSet fun w => { w with
    test := (n + 1) % selfTestCount,
    tests := if bad then w.tests else inc 32 w.tests,
    lastFail := if bad then n else w.lastFail,
    testBad := if bad then insertNat n w.testBad else w.testBad.filter (fun x => x != n) }

/-- The health report. -/
def healthBytes (s : State) : Bytes :=
  let r := s.unfitReasons
  let w := s.pair
  leBytes 4 s.tm.cue ++ leBytes 1 (if r = 0 then 1 else 2) ++ zeros 1 ++ leBytes 2 r ++ leBytes 4 w.fastCue ++ leBytes 4 w.slowCue ++
    leBytes 4 w.mSyncCycle ++ leBytes 4 s.dcrc ++ leBytes 4 w.tests ++ leBytes 2 w.lastFail ++ leBytes 2 s.portsUpMask ++
    leBytes 4 (s.og Obj.tb0Offset) ++ leBytes 8 s.fstat ++ leBytes 2 (s.og Obj.tDie) ++ zeros 18

/-- The report a HEAD holds; a change of its verdict raises source 3 of group 23. -/
def holdHealth (b : Bytes) (s : State) : State :=
  let s1 := s.pairSet fun w => { w with health := b }
  if rd s.pair.health 4 1 = rd b 4 1 then s1 else s1.irqPost 23 3

/-- Once per CUE the UNDERSTUDY tests itself and sends its report (R397, R398). -/
def sendHealth (s : State) : State :=
  if s.pair.healthSent then s
  else
    let s1 := s.selfTest
    let b := s1.healthBytes
    let s2 := (s1.holdHealth b).pairSet fun w => { w with healthSent := true }
    if s2.xlUp 0 then s2.xlSend 0 0x30 0 b else s2

/-- A SNAP_SLOW fragment reaches the UNDERSTUDY: slice 0 starts a roll, the last slice completes it. -/
def snapSlow (i : Nat) (pl : Bytes) (s : State) : State :=
  if !s.understudy ∨ pl.length ≠ 528 then s
  else
    let n := rd pl 7 1
    let x := takePart s.pair.slowIn i pl
    match wholePart x with
    | none => s.pairSet fun w => { w with slowIn := some x }
    | some d =>
      let kept := if n = 0 then [] else
        s.pair.slowParts.filter (fun e => decide (e.1 < n) && decide (e.2.length = d.length))
      let parts := kept ++ [(n, d)]
      let s1 := s.pairSet fun w => { w with slowIn := none, slowParts := parts }
      let s2 := if parts.length * d.length = 32768 then s1.takeSlow x.cue (parts.map (fun e => e.2)).flatten else s1
      if x.cue = s2.tm.cue then s2.sendHealth else s2

/-- A report reaches the active HEAD (R398, R395, Table 14-1 sources 51 and 52). A FAST_CUE that lags, or that has passed over a
CUE since the last report, tells of a lost fast snapshot: every line of M is marked. -/
def takeHealth (b : Bytes) (s : State) : State :=
  let r := rd b 6 2
  let s1 := (s.holdHealth b).irqPost 5 4
  let lost := decide (2 < subMod 32 (rd b 0 4) (rd b 8 4)) ||
    (!s.pair.health.isEmpty && decide (1 < subMod 32 (rd b 8 4) (rd s.pair.health 8 4)))
  let s2 := s1.pairSet fun w =>
    { w with healthMiss := 0, dcrcDiff := rd b 20 4 != s.dcrc, marked := if lost then allLines else w.marked }
  (s2.raiseIf (r &&& 0xA7 != 0) 51 0).raiseIf (rd b 4 1 == 2) 52 0

/-! ### Takeover (R399 to R401, Table 14-8) -/

/-- The arms of the snapshot. -/
def restoreArm (b : Bytes) (a : Nat) (s : State) : State :=
  let o := 0x40 + 64 * a
  let m := s.armMod a
  let vs := rd b (o + 4) 4
  let ref (i : Nat) : Option Int := some (toI 32 (rd b (o + 32 + 4 * i) 4))
  let s1 := s.setArmMod a { m with
    order := (s.armSlots a).filter (fun n => s.cellAdmitted n && !hasBit (rd b (0x540 + n / 8) 1) (n % 8)),
    nav := rd b (o + 2) 2, vs := if vs = 0 then none else some (F32.val vs), sigNeg := rd b (o + 8) 1 == 0xFF,
    tauNeg := rd b (o + 9) 1 == 0xFF, refs := [ref 0, ref 1, ref 2, some (rd b (o + 44) 4 : Nat)], first := true }
  let s2 := (s1.oset (Obj.modCount a) (rd b o 2)).oset (Obj.keyEpoch a) (rd b (o + 12) 4)
  s2.setArm a { s2.arm a with pb := F32.val (rd b (o + 24) 4), i := F32.val (rd b (o + 28) 4), iBad := false }

/-- The state table (R149): the snapshot's four records, then hold records for every CUE after k+1 up to d+1. -/
def restoreCells (b : Bytes) (k d : Nat) (s : State) : State :=
  let holds := subMod 32 d k
  (List.range 1152).foldl (fun s n =>
    if !s.cellAdmitted n then s
    else
      let c := rd b (0xC0 + n) 1
      let f := c / 64
      let snap := (List.range 4).map (fun j => ((k + 1 + 2 ^ 32 - j) % 2 ^ 32, c / 4 ^ (3 - j) % 4))
      let held := (List.range (min holds 4)).map (fun j => ((d + 1 + 2 ^ 32 - j) % 2 ^ 32, f))
      s.setModCell n { kept := (held ++ snap).take 4, cue := (d + 1) % 2 ^ 32, evs := [] }) s

/-- Fences and bypass-pending bits. The snapshot does not name the fencing sources: each is a free value. -/
def restoreFences (b : Bytes) (s : State) : State :=
  let fences := slotBits (slice b 0x540 144)
  let byps := slotBits (slice b 0x5D0 144)
  let src (s : State) (n : Nat) : Nat := if s.fenced n then s.fenceInfo n else Config.freeValue (s.freeCtr + n) % 64
  let f := fences.foldl (fun m n => Kv.put (fun _ => 0xFF) n (src s n) m) []
  ({ s with flt := { s.flt with
      fence := f, byp := byps.foldl (fun m n => Kv.put (fun _ => false) n true m) [],
      fenceAt := fences.foldl (fun m n => Kv.put (fun _ => 0) n s.tm.tb2 m) [] }, freeCtr := s.freeCtr + 1152 })

/-- Loop channels. -/
def restoreLoops (b : Bytes) (s : State) : State :=
  let s1 := (List.range 32).foldl (fun s c =>
    let o := 0x660 + 16 * c
    s.setCh c { s.loopCh c with
      i := toI 64 (rd b o 8), y := toI 16 (rd b (o + 8) 2), fallback := hasBit (rd b (o + 10) 1) 0, freeze := rd b (o + 11) 1,
      recov := rd b (o + 12) 1 }) s
  let nco (n : Nat) (s : State) : State :=
    let v := rd b (0x40 + 16 + 4 * n) 4
    let f := s.oq (Obj.ncoF0 n)
    let m := s.og (Obj.ncoMode n)
    let ph := s.oq (Obj.ncoPhase n)
    s.setNco n { s.nco n with now := v, next := v, fNow := f, fNext := f, modeNow := m, mode := m, phaseNow := ph, phase := ph }
  nco 1 (nco 0 s1)

/-- Safety group states (R352), the CURTAINs held and the lifts awaited. -/
def restoreSafety (b : Bytes) (s : State) : State :=
  let g := rd b 0x860 2
  let rings := rd b 0x862 2
  let s1 := s.safSet fun w => { w with
    latch := g / 256, active := g % 256,
    lift := (List.range 12).foldl (fun m p =>
      Kv.put (fun _ => none) p (if rd b (0x864 + 4 * p) 4 = 0 then none else some (rd b (0x864 + 4 * p) 4)) m) [] }
  ((List.range 12).foldl (fun s p =>
    if hasBit rings p then (s.setRing p { s.ringRec p with curtain := true }).sendC p else s) s1.repeatCs).sendCurtainSets

/-- The sequence engine: it goes on from the synced M at its next cycle start, or stands in STOP with SAFE bytes when M was
not synced. -/
def restoreSl (b : Bytes) (d : Nat) (s : State) : State :=
  let o := 0x8A0
  let next := rd b (o + 8) 4
  let cues := max 1 (s.og Obj.slCues)
  let at_ := if cueAfter next d then next else (next + (subMod 32 d next / cues + 1) * cues) % 2 ^ 32
  let st : SlSt := if !s.pair.mSynced then .stop else
    match rd b o 1 with | 1 => .run | 2 => .halted | _ => .stop
  let held := slotBits (slice b 0x990 144)
  let mode : ModeSt := match rd b (o + 48) 1 with | 1 => .opened | 2 => .committed | 3 => .applied | _ => .idle
  s.slSet fun w => { w with
    st := st, act := rd b (o + 1) 1 % 2, cycle := rd b (o + 4) 4, nextAt := if rd b (o + 8) 4 = 0 ∧ st ≠ .run then none else some at_,
    sys := (List.range 8).map (fun i => rd b (o + 12 + 4 * i) 4), busy := false, ended := false, safe := st != .run,
    sqOut := (slotBits (slice b 0x900 144) ++ held).foldl (fun m n => Kv.put (fun _ => 0) n 1 m) [],
    sq := (slotBits (slice b 0x900 144)).foldl (fun m n => Kv.put (fun _ => 0) n 1 m) [],
    mode := mode, modeNo := rd b (o + 49) 1, modeId := rd b (o + 50) 2, modeL := rd b (o + 52) 4,
    modeCls := s.og (Obj.modeClass (rd b (o + 49) 1)), scope := s.stations, ackP := [], ackA := [], lag := [] }

/-- Fault sources that stand in the roll and are at rest here go on from the roll's state (Table 14-6). -/
def restoreFaults (d : Bytes) (s : State) : State :=
  (List.range 64).foldl (fun s n =>
    let o := 0x7E00 + 8 * n
    let f := s.fsrc n
    let code := rd d o 1
    if f.st ≠ .idle ∨ code = 0 then s.setFsrc n { f with rcnt := max f.rcnt (rd d (o + 1) 1) }
    else
      s.setFsrc n { f with
        st := if code = 3 then .latched else .quiet, rcnt := rd d (o + 1) 1,
        quietAt := s.tm.tb2 - (if code = 2 then rd d (o + 4) 4 * 1000000 else 0) }) s

/-- Types of the admitted cells, which no snapshot carries: the arm's bridge class, with a battery where the roll holds a
state of charge. -/
def restoreTypes (s : State) : State :=
  (List.range 1152).foldl (fun s n =>
    let c := s.cellRec n
    if c.st ≠ .admitted ∨ c.smType ≠ 0 then s
    else
      let cls := s.og (Obj.armBridge ((s.ringRec (n / 96)).arm - 1))
      s.setCellRec n { c with smType := cls + (if (s.svCell n).soc = 0 then 0 else 2) }) s

/-- The snapshot's header. -/
def restoreTime (b : Bytes) (d : Nat) (s : State) : State :=
  let pend := rd b 16 4
  let first := rd b 20 4
  (s.setTb0State .locked).tmSet fun t => { t with
    compDone := true,
    period := if pend ≠ 0 ∧ !cueAfter first d then pend else t.period,
    periodNext := if pend ≠ 0 ∧ cueAfter first d then [(first, pend)] else [],
    syncCorr := toI 32 (rd b 24 4),
    sync := match rd b 28 1 with | 1 => .acquire | 2 => .track | 3 => .free | _ => .off }

/-- Restore from a fast snapshot; without one the part's own state stands. -/
def restoreFrom (d : Nat) (o : Option Bytes) (s : State) : State :=
  match o with
  | none => s
  | some b =>
    ((((((s.restoreTime b d).restoreArm b 0).restoreArm b 1).restoreCells b (rd b 0 4) d).restoreFences b).restoreLoops b
      |>.restoreSafety b).restoreSl b d
/-- Restore from the slow roll and the newest complete fast snapshot; without one, from the part's own state. -/
def restorePair (d : Nat) (s : State) : State :=
  let s1 := match s.pair.slow with | some r => s.restoreFaults r | none => s
  let s2 := s1.restoreTypes
  s2.restoreFrom d s2.pair.fast

/-- The UNDERSTUDY becomes ACTIVE at the start of CUE d (Table 14-8): its own ring ports serve, and it computes from CUE
d + 1 on. -/
def takeover (d : Nat) (s : State) : State :=
  let s1 := (s.takeStanding .active).restorePair d
  let first (a : Nat) (s : State) : State := s.setArmMod a { s.armMod a with first := true }
  let s2 := first 1 (first 0 s1)
  let s3 := s2.tmSet fun t => { t with compDone := true }
  let s4 := s3.pairSet fun w => { w with
    alone := true, restore := 0, lossRun := 0, lossTold := false, fast := none, fastIn := [], health := [], healthMiss := 0,
    handover := false, finalCue := none, mirror := [], mlines := [], marked := allLines, slice := 0 }
  (s4.irqSet fun w => { w with takeoverCue := some d }).irqPost 23 1

/-- Loss is detected (R399, R400): the test has held at LOSS_CUES consecutive CUE starts. -/
def lossActs (s : State) : State :=
  let r := s.unfitReasons
  let d := s.tm.cue
  if !s.understudy ∨ s.pair.lossRun < s.og Obj.lossCues ∨ s.pair.lossTold then s
  else if r = 0 ∨ s.og Obj.takeoverUnfit = 1 then (s.takeover d).takeoverNote 0 r d
  else (s.takeoverNote 1 r d).pairSet fun w => { w with lossTold := true }

/-- The active HEAD becomes UNDERSTUDY by a handover (R403): its engine and its computation stop, its ring ends relay, and it
holds no CURTAIN any more (R349). -/
def standDown (s0 : State) : State :=
  let s := s0.curtainsOut
  let s1 := (((List.range 12).foldl (fun s p => s.setRing p { s.ringRec p with curtain := false }) s).takeStanding
    .understudy).sendCurtainSets
  let s2 := s1.slSet fun w => { w with st := .stop, busy := false, ended := false, nextAt := none, mode := .idle }
  s2.pairSet fun w => { w with
    tookOver := s.pair.tookOver, handover := false, finalCue := none, alone := false, mirror := [], mlines := [],
    marked := [], health := [], fast := none,
    fastIn := [], lateCue := some s.tm.cue, slow := none, slowIn := none, slowParts := [], mHeld := [],
    mSynced := false, mWhole := false, lossRun := 0,
    lossTold := false, fragSeen := true, sheetSeen := true }

/-- A handover at the start of the CUE after the FINAL snapshot's (R403). DESIGN CHOICE (notes/assumptions/63.md): both parts
take the snapshot as complete when the UNDERSTUDY's HEALTH report of the CUE just ended names it as FAST_CUE; without that the
active HEAD abandons the handover. -/
def handoverAt (s : State) : State :=
  let d := s.tm.cue
  let prev := (d + 2 ^ 32 - 1) % 2 ^ 32
  let finalHeld : Bool := match s.pair.fast with | some b => hasBit (rd b 29 1) 0 | none => false
  let told := decide (32 ≤ s.pair.health.length) && rd s.pair.health 8 4 == prev
  if s.activeHead ∧ s.pair.finalCue = some prev then
    if s.paired && told then ((s.standDown.takeoverNote 2 0 d).irqPost 23 2)
    else (s.takeoverNote 1 (s.reasonsNow % 256) d).pairSet fun w => { w with handover := false, finalCue := none }
  else if s.understudy ∧ s.pair.fastCue = prev ∧ finalHeld = true ∧ told = true then
    ((s.takeover d).takeoverNote 0 0 d).irqPost 23 2
  else s

/-- The pair's part of a CUE start: handover, the loss test's count while the partner's PAIR_ID is equal, the health report of a
CUE in which no slow slice has brought it, the split's restoring (R397 to R403). -/
def pairCueStart (s : State) : State :=
  let s1 := s.handoverAt
  if s1.understudy then
    let k := s1.xlink 0
    let seen := s1.pair.fragSeen || s1.pair.sheetSeen || (k.heard && k.peer / 16777216 % 256 != s1.og Obj.pairId)
    let s2 := s1.pairSet fun w => { w with
      lossRun := if seen then 0 else w.lossRun + 1, lossTold := w.lossTold && !seen, fragSeen := false, sheetSeen := false }
    s2.sendHealth.pairSet fun w => { w with healthSent := false }
  else if s1.activeHead then
    let w := s1.pair
    let ok := s1.paired && decide (32 ≤ w.health.length) && s1.ringPortsIn (rd w.health 30 2)
    let n := if w.alone && ok then w.restore + 1 else 0
    s1.pairSet fun w => { w with
      healthMiss := min 65535 (w.healthMiss + 1), restore := n, alone := w.alone && decide (n < s1.og Obj.healHold) }
  else s1

end State

end Sys2Proof.Machine
end

