-- ==== Sys2Proof/Machine/StationOps.lean ====
section
/-! DEFINITION. The start of a sequence cycle (Table 12-1), the station exchange at both of its ends, and mode requests at
their points (R316 to R319, R322 to R330, R333, R336, R338). -/

namespace Sys2Proof.Machine

namespace State

/-! ### Outputs -/

/-- A ball of G0 to G7 is driven to a level, low while it is forced safe (R193, R207). -/
def driveFree (g : Nat) (high : Bool) (s : State) : State :=
  s.drive g (high && !hasBit (s.pwm.held ||| s.forcedNow) g) s.tm.tb0
/-- The HEAD's local outputs take a word of LQ. -/
def driveLq (v : Nat) (s : State) : State :=
  (List.range 8).foldl (fun s g => s.driveFree g (hasBit v g)) (s.slSet fun w => { w with lqOut := v })

/-- The engine stops (R323): execution aborted, queued writes discarded, G0 to G7 and every station byte safe. -/
def slHalt (st : SlSt) (s : State) : State :=
  (s.slSet fun w => { w with
    st := st, busy := false, ended := false, passed := 0, writes := [], wantModes := [], sacks := [], safe := true,
    objRef := false, modeRef := false }).driveLq 0

/-! ### The write point -/

/-- One engine object write: a map entry and ACC (R318). -/
def engineWrite (e : Nat × Nat) (s : State) : State :=
  let b := s.slBank s.sl.act
  let o := imgObj b + 4 * e.1
  let k := rd b o 2 * 256 + rd b (o + 2) 1
  let n := match Dict.lookup k with | some r => Dict.tySize r.ty | none => 4
  let d := leBytes n e.2
  let s1 := s.writeObject .engine k d
  if s.writeCode .engine k n d = 0 then s1
  else ((s1.slSet fun w => { w with objRef := true }).slStat 2 (inc 32)).slIrq 7

/-- A mode request of the cycle that ended (R337): a cycle's requests are taken in program order, so a second one meets
an open request. -/
def engineMode (m : Nat) (s : State) : State :=
  let lead := if s.og Obj.modeLead = 0 then s.modeLeast else s.og Obj.modeLead
  let l := (s.tm.cue + lead) % 2 ^ 32
  if s.modeRefused m l then s.slSet fun w => { w with modeRef := true } else s.modeAccept m l 0xFFF

/-- A station is LOST or RETURNING: its outputs are held in the HEAD (R328). -/
def stnHeld (s : State) (n : Nat) : Bool := let x := (s.stn n).st; x == .lost || x == .returning

/-- Re-admissions of this write point: SACKs of the ended cycle and STN_READMIT (R328). -/
def grantAll (sacks : List Nat) (s : State) : State :=
  s.stations.foldl (fun s n =>
    let r := s.stn n
    s.setStn n { r with granted := r.st == .returning && (r.readmit || sacks.contains n), readmit := false }) s

/-- Program values of the stations that are not held go out; the outputs of the others are marked SAFE. -/
def stationOutputs (s : State) : State :=
  s.stations.foldl (fun s n =>
    let keep := s.stnHeld n && !(s.stn n).granted
    let s := s.setStn n { s.stn n with outSafe := keep }
    if keep then s
    else s.slSet fun w =>
      { w with sqOut := Kv.put (fun _ => 0) n (s.forced 4 n (Kv.get (fun _ => 0) w.sq n) % 2) w.sqOut }) s

/-- The write point of a cycle that has ended (Table 12-1, R318, R328, R333, R337). -/
def writePoint (s : State) : State :=
  let w := s.sl
  let s1 := w.writes.foldl (fun s e => s.engineWrite e) (s.slSet fun w => { w with ended := false, writes := [], safe := false })
  let s2 := s1.driveLq (s1.forced 2 0 s1.sl.lq % 256)
  let s3 := w.wantModes.foldl (fun s m => s.engineMode m) s2
  ((s3.grantAll w.sacks).stationOutputs).slSet fun w => { w with wantModes := [], sacks := [] }

/-- A station byte of STATION_OUT (Table 12-4, R322, R323, R328). -/
def stationByte (s : State) (hold : Bool) (n : Nat) : Nat :=
  if hold then 0x40
  else if s.sl.safe ∨ (s.stnHeld n ∧ !(s.stn n).granted) then 0x80
  else if s.stations.contains n then Kv.get (fun _ => 0) s.sl.sqOut n % 2
  else 0

/-- STATION_OUT leaves from each end of every ring with a configured station (R325); `bytes` are the station bytes of this
write point. -/
def sendStationOut (bytes : Nat → Nat) (s : State) : State :=
  let w := s.sl
  let req := w.mode != .idle && cueAfter w.modeL s.tm.cue
  let head := leBytes 4 w.cycle ++
    (if req then leBytes 1 1 ++ leBytes 1 w.modeNo ++ leBytes 1 w.modeCls ++ zeros 1 ++ leBytes 4 w.modeL ++ leBytes 2 w.modeId ++ zeros 2
     else zeros 12)
  s.ringPorts.foldl (fun s p =>
    if s.stations.any (fun n => n / 96 == p) then
      let pl := head ++ (List.range (s.lastHop p)).map (fun i => BitVec.ofNat 8 (bytes (96 * p + i)))
      let s1 := s.sendRing p true 7 0x30 0x80 (s.ringCast p) 0 s.tm.cue pl
      if s1.farReachable p then s1.sendRing p false 7 0x30 0x80 (s1.ringCast p) 0 s1.tm.cue pl else s1
    else s) s

/-! ### The read point -/

/-- One station by Table 12-6. -/
def stnRead (n : Nat) (s : State) : State :=
  let r := s.stn n
  let cues := s.og Obj.slCues
  let resp := if s.stnPresent n then r.resp else none
  let base := { r with resp := none, granted := false }
  let missed := min (255 * cues) (r.miss + cues)
  match resp with
  | some x =>
    let mine := decide (x.2.2.1 = s.sl.modeId) && s.sl.mode != .idle
    let v := { base with
                         w0 := x.1, w1 := x.2.1, ackId := x.2.2.1, ack := x.2.2.2, miss := 0,
                         seenP := r.seenP || (mine && x.2.2.2 == 1), seenA := r.seenA || (mine && x.2.2.2 == 2),
                         seenR := r.seenR || (mine && x.2.2.2 == 3) }
    match r.st with
    | .active => s.setStn n { v with q := true }
    | .missing => (s.setStn n { v with st := .active, q := true }).slIrq 4
    | .lost => (s.setStn n { v with st := .returning }).slIrq 4
    | .returning =>
      if r.granted then ((s.setStn n { v with st := .active, q := true }).release 37 n).slIrq 4 else s.setStn n v
  | none =>
    match r.st with
    | .lost => s.setStn n { base with miss := missed }
    | .returning => (s.setStn n { base with st := .lost, miss := missed }).slIrq 4
    | .active =>
      if r.miss + cues < s.og Obj.stnLostCues then (s.setStn n { base with st := .missing, q := false, miss := missed }).slIrq 4
      else ((s.setStn n { base with st := .lost, q := false, miss := missed }).raise 37 n).slIrq 4
    | .missing =>
      if r.miss + cues < s.og Obj.stnLostCues then s.setStn n { base with q := false, miss := missed }
      else ((s.setStn n { base with st := .lost, q := false, miss := missed }).raise 37 n).slIrq 4

/-- The acknowledgements of the open request: PENDING and APPLIED of the stations in scope (R338). -/
def modeAcks (s : State) : State :=
  let w := s.sl
  if w.mode = .idle then s
  else
    let now (a : Nat) (n : Nat) : Bool := let r := s.stn n; decide (r.ackId = w.modeId) && r.ack == a
    let p := w.scope.filter (fun n => (w.ackP.contains n || now 1 n) && !now 3 n)
    let a := w.scope.filter (fun n => w.ackA.contains n || now 2 n)
    (a.foldl (fun s n => s.release 38 n) s).slSet fun w => { w with ackP := p, ackA := a }

/-- Laggards of a unanimous mode raise the mode-laggard source (R338). -/
def modeFence (l : List Nat) (s : State) : State := if s.sl.modeCls = 1 then l.foldl (fun s n => s.raise 38 n) s else s

/-- The commit point, at the cycle start of CUE a (R338, Table 12-8). At an overrun start nothing is read: the commit then
rests on what the last read point showed. -/
def modeCommit (a : Nat) (s : State) : State :=
  let w := s.sl
  let cues := s.og Obj.slCues
  let lim := (w.modeL + 2 ^ 32 - 2) % 2 ^ 32
  if w.mode = .opened then
    let scope := w.scope.filter (fun n => !s.fenced n)
    let s1 := s.slSet fun w => { w with scope := scope }
    if !cueAfter a lim ∧ cueAfter ((a + cues) % 2 ^ 32) lim then
      let lag := scope.filter (fun n => !w.ackP.contains n || (s.stn n).st == .lost)
      (modeFence lag (s1.slSet fun w => { w with mode := .committed, lag := lag })).slIrq 5
    else s1
  else s

/-- The confirmation point, at the read point of CUE a (R338, Table 12-8). -/
def modeConfirm (a : Nat) (s : State) : State :=
  let w := s.sl
  if w.mode = .applied ∧ cueFrom (subMod 32 a (s.og Obj.slCues)) w.modeL then
    let new_ := w.scope.filter (fun n => (!w.ackA.contains n || (s.stn n).st == .lost) && !w.lag.contains n)
    (modeFence new_ (s.slSet fun w => { w with mode := .idle, lag := w.lag ++ new_ })).slIrq 5
  else s

/-- Words of the input area LI; `pins` holds the levels of CAP0, CAP1, SYNC and WAKE. -/
def liWords (s : State) (pins : Nat) : List Nat :=
  let trips := packBits ((List.range 6).map (fun i => hasBit s.pwm.tripLvl i == (s.og (Obj.tripPol i) == 0)))
  let si := packBits ((List.range 8).map (fun i => let p := s.siPair (i / 2); if i % 2 = 0 then p.f1 else p.f2))
  let rings (f : RingRec → Bool) : Nat := packBits ((List.range 12).map (fun p => f (s.ringRec p)))
  [trips + pins % 4 * 64 + si * 256 + pins / 4 % 4 * 65536, s.fstat % 2 ^ 32, s.fstat / 2 ^ 32 % 2 ^ 32,
   rings (·.curtain) + rings (·.admitted) * 4096]

/-- Local inputs, SIG, SI and SS words are latched, then the forces apply (R317, R319, R333). -/
def latchImage (pins : Nat) (s : State) : State :=
  let table := match s.sl.forceOld with
    | some e => if e.1 = s.tm.tb2 / 2 then e.2 else s.dg Obj.forceTable
    | none => s.dg Obj.forceTable
  let s0 := s.slSet fun w => { w with forces := table, forceOld := none }
  let b := s0.slBank s0.sl.act
  let sigs := if s0.slReady then (List.range (rd b 16 2)).map (fun n => (s0.signal (rd b (imgSig b + 2 * n) 2)).val) else []
  let li := (s0.liWords pins).zipIdx.map (fun (e : Nat × Nat) => s0.forced 1 e.2 e.1)
  let si0 := s0.stations.foldl (fun m n =>
    Kv.put (fun _ => 0) (2 * n + 1) (s0.stn n).w1 (Kv.put (fun _ => 0) (2 * n) (s0.stn n).w0 m)) []
  let fl := forceList s0.sl.forces
  let si := fl.foldl (fun m e => if e.1 = 3 then Kv.put (fun _ => 0) e.2.1 (s0.forced 3 e.2.1 (Kv.get (fun _ => 0) m e.2.1)) m else m) si0
  let ss := s0.stations.foldl (fun m n => Kv.put (fun _ => 0) n (s0.ssWord n) m) []
  let s1 := s0.slSet fun w => { w with sigs := sigs, li := li, si := si, ss := ss }
  fl.foldl (fun s e => if e.1 = 6 then s.slWrite 6 e.2.1 (s.slRead 6 e.2.1) else s) s1

/-- The SYS words (Table 12-2). -/
def latchSys (s : State) : State :=
  let w := s.sl
  let flags := packBits [w.first, !(forceList w.forces).isEmpty, w.objRef, w.modeRef, w.mode != .idle, s.tm.tb1State == .locked]
  let lost := (s.stations.filter (fun n => (s.stn n).st == .lost)).length
  s.slSet fun w => { w with
    sys := [w.cycle, s.tm.cue, flags, modeStCode w.mode, s.og Obj.headMode, lost, w.stats.getD 1 0, 0],
    first := if w.st = .run then false else w.first, objRef := false, modeRef := false }

/-- The read point of the cycle that starts at CUE a, and the start of its execution. -/
def readPoint (a pins : Nat) (s : State) : State :=
  let s1 := s.stations.foldl (fun s n => s.stnRead n) s
  let s2 := (((s1.modeAcks.modeCommit a).modeConfirm a).latchImage pins).latchSys
  if s2.sl.st = .run then
    s2.slSet fun w => { w with busy := true, ended := false, pc := 0, used := 0, passed := 0, writes := [], wantModes := [], sacks := [] }
  else s2

/-! ### The cycle start -/

/-- The bank switch of an ARMED change or of a revert, at a start at which the running cycle has ended (R330, R334). -/
def slBanks (s : State) : State :=
  let s1 := if s.sl.chg = .armed ∧ s.tm.cue ≠ s.sl.armedAt then (s.slSwitch s.sl.chgClear true).setChg .switched else s
  if s1.sl.revert then (s1.slSwitch true false).slSet fun w => { w with revert := false } else s1

/-- SL_CMD 0x01 and 0x02 act at the cycle start (R323). -/
def slCommand (s : State) : State :=
  let s0 := s.slSet fun w => { w with cmd := none }
  match s.sl.cmd with
  | some 2 => s0.slHalt .stop
  | some 1 => if s.sl.st = .run then s0 else s0.slSet fun w => { w with st := .run, first := true, busy := false, ended := false }
  | _ => s0

/-- A cycle start at which the running cycle has not ended (R322): an overrun, and at the SL_WDOG-th one a halt. -/
def slOverrun (s : State) : State :=
  let s1 := ((s.slSet fun w => { w with passed := w.passed + 1 }).slStat 1 (inc 32)).slIrq 2
  if s1.og Obj.slWdog ≤ s1.sl.passed then ((s1.slHalt .halted).raise 36 0).slIrq 3 else s1

/-- The responses of the cycle before are late once a start has passed without a read (R327). -/
def dropResponses (s : State) : State :=
  s.stations.foldl (fun s n =>
    if (s.stn n).resp.isSome then (s.setStn n { s.stn n with resp := none }).slStat 3 (inc 32) else s) s

/-- The start of a sequence cycle (R316, R317, R322, R323, R330). Also: R315, R339. -/
def slCycleStart (pins : Nat) (s : State) : State :=
  match s.sl.nextAt with
  | none => s
  | some a =>
    if !s.activeHead ∨ !cueFrom s.tm.cue a then s
    else
      let s0 := s.slSet fun w => { w with nextAt := some ((a + s.og Obj.slCues) % 2 ^ 32), lastAt := a }
      let s1 := s0.slCommand
      let s2 := if s1.sl.busy then s1.slOverrun else s1
      let s3 := if s2.sl.busy then s2
        else
          let x := if s2.sl.st = .run ∧ s2.sl.ended then s2.writePoint else s2.grantAll []
          x.queueLines
      let bytes := s3.stationByte s3.sl.busy
      let s4 := if s3.sl.busy then s3 else s3.slBanks
      let s5 := ((s4.slSet fun w => { w with cycle := inc 32 w.cycle })).slIrq 0
      let s6 := if s5.sl.busy then (s5.dropResponses).modeCommit a else (s5.slStat 0 (inc 32)).readPoint a pins
      let s7 := s6.sendStationOut bytes
      if s7.sl.st ≠ .run ∧ s7.stations.isEmpty ∧ s7.sl.cmd.isNone then s7.slSet fun w => { w with nextAt := none } else s7

/-! ### Profiles (R335, R336) -/

/-- The writes of a profile: object and bytes. -/
def profileWrites (d : Bytes) : List (Nat × Bytes) :=
  ((List.range 8).filter (fun i => rd d (8 * i) 2 != 0)).map (fun i =>
    let k := rd d (8 * i) 2 * 256 + rd d (8 * i + 2) 1
    let n := match Dict.lookup k with | some r => Dict.tySize r.ty | none => 4
    (k, leBytes n (rd d (8 * i + 4) 4)))

/-- Every write of a cell's profile would be accepted in its present state. -/
def profileFits (s : State) (mode : Nat) : Bool :=
  decide (mode ≤ 14) &&
    (profileWrites (s.dg (Obj.modeProfile mode))).all (fun e => s.writeCode (.core 0) e.1 e.2.length e.2 == 0)
/-- They are applied. -/
def applyCellProfile (mode : Nat) (s : State) : State :=
  (profileWrites (s.dg (Obj.modeProfile mode))).foldl (fun s e =>
    match s.objHandler (.core 0) e.1 e.2 with | .ok t => t | .error _ => s) s

/-- The start of CUE L at a cell (R336). -/
def cellModeStart (s : State) : State :=
  match s.sl.cReq with
  | none => s
  | some (mode, l, id) =>
    if cueAfter l s.tm.cue then s
    else
      let s1 := s.slSet fun w => { w with cReq := none, cAckId := id, cAck := if s.profileFits mode then 2 else 3 }
      if s.profileFits mode then (s1.applyCellProfile mode).oset Obj.cellMode mode else s1

/-- The start of CUE L at the active HEAD (Table 12-8): MODE_PROFILE_H applies, HEAD_MODE becomes the mode. Only a
COMMITTED request does so: a request that met no commit point, since no cycle ran, stays OPEN (R12). -/
def headModeStart (s : State) : State :=
  let w := s.sl
  if w.mode = .committed ∧ cueFrom s.tm.cue w.modeL then
    let s1 := (profileWrites (s.dg (Obj.modeProfileH w.modeNo))).foldl (fun s e => s.writeObject .engine e.1 e.2) s
    ((s1.oset Obj.headMode w.modeNo).slSet fun w => { w with mode := .applied }).slIrq 5
  else s

/-! ### The station side of a cell (R326) -/

/-- The station input image (Table 12-5), latched at a CUE start beside the image of the CUE before; `pins` holds the
levels of CAP0 and CAP1. -/
def cellImage (pins : Nat) (s : State) : State :=
  let w0 := (s.liWords pins).getD 0 0 % 65536 + b2n (hasBit s.pwm.level 7) * 2 ^ 16 + b2n s.pwm.byp * 2 ^ 17 +
    batCode s.bat.st * 2 ^ 18 + tbCode s.tm.tb0State * 2 ^ 21 + s.og Obj.cellMode % 16 * 2 ^ 24 +
    (match s.sl.cReq with | some r => r.1 | none => 15) * 2 ^ 28
  let n := s.og Obj.stationAin
  let w1 := (if n = 0xFF then 0 else (s.adcRes n).code % 65536) + s.fclass % 8 * 65536
  s.slSet fun w => { w with cW0 := w0, cW1 := w1, cP0 := w.cW0, cP1 := w.cW1 }

/-- The mode request of a copy (R336). -/
def takeRequest (pl : Bytes) (s : State) : State :=
  let l := rd pl 8 4
  if rd pl 4 1 ≠ 1 ∨ !cueAfter l s.tm.cue then s
  else
    let mode := rd pl 5 1
    let id := rd pl 12 2
    if s.profileFits mode then s.slSet fun w => { w with cReq := some (mode, l, id), cAckId := id, cAck := 1 }
    else s.slSet fun w => { w with cAckId := id, cAck := 3 }

/-- A cell takes the first copy of a cycle and answers it out of the port of arrival. -/
def takeStationOut (port : Nat) (h : Hdr) (pl : Bytes) (s : State) : State :=
  let me := hopOf s.ring.node.caddr
  let n := rd pl 0 4
  if s.ring.node.caddr = 0 ∨ pl.length < 16 + me ∨ s.sl.cLast = some n then s
  else
    let s1 := (s.slSet fun w => { w with cLast := some n, cByte := some (rd pl (15 + me) 1), cAge := 0 }).oset Obj.stnState 1
    let s2 := s1.takeRequest pl
    let w := s2.sl
    let old := decide (h.cue % 2 ^ 32 = subMod 32 s.tm.cue 1)
    s2.queueBg port 7 0x31 0x80 (h.dst / 128 * 128) 0 h.cue
      (leBytes 4 n ++ leBytes 4 (if old then w.cP0 else w.cW0) ++ leBytes 4 (if old then w.cP1 else w.cW1) ++
        leBytes 2 w.cAckId ++ leBytes 1 w.cAck ++ zeros 1)

/-- G7 at a CUE start (R326): SAFE, HOLD, or the bit; it follows its last value once no forced-safe cause acts on it. -/
def stationCueStart (pins : Nat) (s : State) : State :=
  let v : Bool := match s.sl.cByte with
    | some b => if hasBit b 7 then false else if hasBit b 6 then hasBit s.sl.lqOut 7 else hasBit b 0
    | none => hasBit s.sl.lqOut 7
  let s1 := s.slSet fun w => { w with
    cByte := none, cAge := min 65535 (w.cAge + 1), lqOut := putBit w.lqOut 7 v }
  (s1.driveFree 7 v).cellImage pins

end State

/-- A sequence cycle start (R317); `pins` holds the levels of CAP0, CAP1, SYNC and WAKE at the read point. -/
def execSlCycleStart (pins : Nat) (s : State) : Res := .next (s.slCycleStart pins)

/-- A cell receives a STATION_OUT frame (R326, R336). -/
def execStationOut (port : Nat) (frame : Bytes) (fend : FrameEnd) (s : State) : Res :=
  .next (s.rxTyped port frame fend 0x30 true (fun r s =>
    if s.cellOn ∧ r.hdr.flags = 0x80 ∧ hopOf r.hdr.dst = 127 then s.takeStationOut port r.hdr r.pl else s))

end Sys2Proof.Machine
end

