-- ==== Sys2Proof/Machine/CompOps.lean ====
section
/-! DEFINITION. The CUE pipeline of an active HEAD: the start and the end of its computation (R53 to R56, R60, R100, R101,
R128, R166, R258), and the start of a CUE in both roles (R47 to R51). -/

namespace Sys2Proof.Machine

namespace State

/-! ### The start of the computation (R53, Table 05-8) -/

/-- Cells whose reports are expected: admitted cells that an end serves. -/
def expectedCells (s : State) : List Nat :=
  s.admittedRings.flatMap (fun p =>
    (ringSlots p).filter (fun n => s.cellAdmitted n && (s.servingEnd p (n % 96 + 1)).isSome))
/-- Some report is expected and every expected one has arrived. -/
def reportsIn (s : State) : Bool :=
  let l := s.expectedCells
  !l.isEmpty && l.all (fun n => (s.cellRec n).have_)

/-- Both arms in turn. -/
def bothArms (f : Nat → State → State) (s : State) : State := f 1 (f 0 s)
/-- An arm has an admitted ring. -/
def armInUse (s : State) (a : Nat) : Bool := s.admittedRings.any (fun p => s.inArm p a)

/-- The inputs of the computation: rings admitted and removed, margins, cell states, the arm currents, SIEVE (R29, R60,
R144, R149, R254). -/
def compInputs (hops : HopList) (s : State) : State :=
  let s1 := s.admitRings
  let s2 := (s1.ringPorts.foldl (fun s p => s.removeDone p) s1).latchPlans
  let s3 := (s2.pipeMargins hops).bothArms modPrepare
  (s3.bothArms armCurrent).bothArms (fun a s => if s.armInUse a then s.sieveRun a else s)

/-- The computation of the present CUE starts: when the last expected report has arrived, else at the cutoff. -/
def compStart (hops : HopList) (s : State) : State :=
  if !s.activeHead ∨ s.tm.compDone then s
  else
    let s0 := s.setCutoff hops
    let s1 := if s0.reportsIn then s0.groupsNow else s0.loopTo0 ((s0.tm.cueStart + 8 * s0.og Obj.cutoffNow) % 2 ^ 64)
    let t8 := s1.now8
    let s2 := s1.tmSet fun t => { t with compDone := true, compSent := false, compAt := t.tb2 }
    let s3 := s2.pairSet fun w =>
      { w with finalCue := if w.handover && w.finalCue.isNone then some s2.tm.cue else w.finalCue }
    let s4 := (((s3.compInputs hops).groupSuspend t8).groupCompute t8).to8 (t8 + 32 * 210)
    let half : Rat := (s4.modT : Rat) / 2
    let s5 := ((s4.ncoCompute 0).ncoCompute 1).bothArms (fun a s => s.armCompose a half)
    (s5.bothArms modulate).liftsOfCue

/-! ### SHEET frames (R56, R100, R101, Table 03-6) -/

/-- The hops an end serves in a SHEET frame, farthest first, and whether they ascend. -/
def sheetHops (s : State) (p : Nat) (own : Bool) : List Nat × Bool :=
  let up := own == s.pair.tookOver
  let l := if (s.ringRec p).admitted then
      ((List.range (s.lastHop p)).map (· + 1)).filter (fun h => s.plannedEnd p h == some own)
    else []
  (if up then l else l.reverse, up)

/-- AUX of a SHEET frame: STEP, HOP_FIRST, NREC. -/
def sheetAux (x : List Nat × Bool) : Nat := b2n x.2 * 2 ^ 15 + x.1.headD 0 % 128 * 256 + x.1.length % 128

/-- Payload of a SHEET frame for CUE k + 1: the CUE mark, ICRC, the records. -/
def sheetPayload (s : State) (p : Nat) (hops : List Nat) : Bytes :=
  let mark := leBytes 8 s.nextStart
  let k1 := inc 32 s.tm.cue
  mark ++ leBytes 4 (crc32 mark) ++
    hops.flatMap (fun h => let n := 96 * p + h - 1; recordBytes (s.schedRec n) (s.slotCaddr n) k1)

/-- Header, mark and ICRC leave ahead of the end of computation, at which the first byte of record 0 leaves (R101): code groups
from /S/ to there. -/
def sheetLead : Nat := 33

/-- The SHEET frame of ring p leaves from this HEAD's own port, or from the other end, at rank 2 of Tables 03-9 and 04-5. It
serves the hops of the plan latched at the computation start. -/
def sendSheet (p : Nat) (own : Bool) (s : State) : State :=
  let x := s.sheetHops p own
  let pl := s.sheetPayload p x.1
  let src := caddrOf (s.og Obj.pairId) p 0
  let k1 := inc 32 s.tm.cue
  let direct (q : Nat) (s : State) : State :=
    if !s.portUp q then s
    else if s.injActs q 5 ∧ !x.1.isEmpty then
      (s.spendInj q).originate q 2 sheetLead 0x10 0 (s.ringCast p) src (sheetAux x) k1 (spoil pl 27)
    else s.originate q 2 sheetLead 0x10 0 (s.ringCast p) src (sheetAux x) k1 pl
  if own then direct p s
  else
    match s.pw.ringMode with
    | 2 => direct (p + 1) s
    | 1 =>
      let n := s.nextSeq p (farSeq 0x10)
      n.2.relayDn p (mkFrame 0x10 0 (s.ringCast p) src n.1 (sheetAux x) k1 pl)
    | _ => s

/-- Rings enumerated at their operating rate (R50). -/
def markedRings (s : State) : List Nat := s.ringPorts.filter (fun p => let r := s.ringRec p; r.enumerated && r.opRate.isSome)
/-- The SHEET frames of a CUE: the own ends, then the other ends in ascending port order (R136). -/
def sendSheets (s : State) : State :=
  let l := s.markedRings
  l.foldl (fun s p => s.sendSheet p false) (l.foldl (fun s p => s.sendSheet p true) s)

/-! ### PEER (R128, R258, Table 04-4) -/

/-- Five values of an arm in PEER. -/
def peerArm (s : State) (a : Nat) : Bytes :=
  let o := s.arm a
  leBytes 4 (F32.ofRat o.i) ++ leBytes 4 (F32.ofRat o.v0) ++ leBytes 4 (o.agg.getD 1 0) ++ leBytes 4 (o.agg.getD 2 0) ++
    leBytes 4 (F32.ofRat o.pb)
/-- The arm's valid bit (R258). -/
def peerValid (s : State) (a : Nat) : Bool := s.armInUse a && s.og (Obj.modMode a) != 0 && !(s.arm a).iBad
/-- The PEER payload. -/
def peerBytes (s : State) : Bytes :=
  let curt := s.ringPorts.any (fun p => (s.ringRec p).curtain)
  leBytes 1 (s.og Obj.pairId) ++ leBytes 1 (packBits [s.peerValid 0, s.peerValid 1, curt]) ++ zeros 2 ++ leBytes 4 s.tm.cue ++
    s.peerArm 0 ++ s.peerArm 1
/-- One PEER frame on XL1, XL2 and XL0. -/
def sendPeer (s : State) : State :=
  let pl := s.peerBytes
  [1, 2, 0].foldl (fun s l => if s.xlUp l then s.xlSend l 0x40 0 pl else s) s

/-! ### The end of the computation (R166) -/

/-- The computation ends 2,400 ns after its start: COMPUTE streams sample (R297); records, SHEET frames, PEER and snapshots
leave. Also: R55. -/
def compEnd (s : State) : State :=
  if !s.activeHead ∨ !s.tm.compDone ∨ s.tm.compSent then s
  else
    let s1 := (s.loopTo2 (s.tm.compAt + 2400)).tmSet fun t => { t with compSent := true }
    let s2 := (((s1.capBaseAll 4 (fun _ => true)).bothArms traceRecord).sendSheets).sendPeer
    let s3 := if s2.paired then s2.sendFast.sendSlow else s2
    s3.irqPost 0 1

/-! ### The start of a CUE -/

/-- The CUE count and the length of the CUE that starts (R47 to R51, R77); an expected SYNC boundary is kept as it came
(R76). -/
def cueAdvance (start : Nat) (s : State) : State :=
  let c := inc 32 s.tm.cue
  let per := s.nextPeriod
  let len := s.nextLen
  let due := s.tm.periodNext.any (fun e => cueFrom c e.1)
  let lead := s.activeHead || (s.isHead && !s.understudy)
  let used : Int := if lead then (len : Int) - per else 0
  let s1 := s.tmSet fun t => { t with
    cue := c, cueStart := start,
    syncAt := if c % max 1 (s.og Obj.syncDiv) = 0 then some (start, t.cueLen) else t.syncAt,
    cueLen := if lead then len else if t.cueKnown then t.markLen else len,
    period := per, periodNext := t.periodNext.filter (fun e => !cueFrom c e.1),
    syncCorr := (match t.syncNew with | some e => e | none => t.syncCorr) - used, syncNew := none,
    mark := none, compDone := false, compSent := true }
  let s2 := if due then s1.irqPost 0 6 else s1
  (List.range 8).foldl (fun s n =>
    if s.og (Obj.tevtMode n) = 3 then s.setTevt n { s.tevt n with done := false } else s) (s2.irqPost 0 0)

/-- A lift stamped for the CUE that starts ends the cell's CURTAIN (R95, R215). -/
def cellLift (s : State) : State :=
  match s.ring.node.lift with
  | some l =>
    if cueAfter l s.tm.cue then s
    else
      let s1 := s.withForce (fun s => s.setNode { s.ring.node with curtain := false, lift := none })
      if s1.pwm.coast = 3 then
        (s1.withForce (fun s => s.pwmSet fun w => { w with coast := 0, m := 0 })).release 24 0
      else s1
  | none => s

/-- The gates of a HEAD at a CUE start: releases take effect and the local outputs return to their levels (R209, R193). -/
def headGates (s : State) : State :=
  let s1 := s.pwmParams
  (s1.pwmSet fun w => { w with held := s1.forcedNow }).driveLq s1.sl.lqOut

/-- A CELL at a CUE start, in the order of R336 and R210. -/
def cellCueStart (mark : Bool) (pins : Nat) (s : State) : State :=
  let n := s.ring.node
  let s0 := if n.gone ∧ !n.covered then s.unadmit else s
  let s1 := ((s0.setNode { s0.ring.node with gone := false, covered := false }).cellModeStart).cellLift
  let s2 := ((s1.pwmCueStart s1.tm.cue mark).batCueStart).calSettle
  (s2.setNode { s2.ring.node with report := none, trainSeen := false, sentOwn := false, held := [] }).stationCueStart pins

/-- A HEAD at a CUE start. -/
def headCueStart (s : State) : State :=
  let s0 := if s.activeHead then s.ringPorts.foldl (fun s p => s.healCount p) s else s
  let s1 := s0.headGates
  let s2 := (List.range 1152).foldl (fun s n =>
    if (s.cellRec n).have_ then s.setCellRec n { s.cellRec n with have_ := false } else s) s1
  let s3 := (s2.headModeStart).pairCueStart
  let s4 := if s3.activeHead then
      s3.ringPorts.foldl (fun s p => if (s.ringRec p).enumDue then s.startEnum p else s) s3
    else s3
  let s5 := if s4.activeHead ∧ s4.sl.nextAt.isNone ∧ !s4.stations.isEmpty then s4.slPhase else s4
  ((([0, 1, 2].foldl (fun s l => s.xlCueStart l) s5).xlTime).peerCueStart).ncoCueStart 0 |>.ncoCueStart 1

/-- A CUE boundary is reached (R47 to R51); source 57 follows the logs' one second of TB2 here too (Table 14-1). -/
def cueBegin (pins : Nat) (s : State) : State :=
  if !s.working then s
  else
    let own := s.isHead && !s.understudy
    let mark := match s.tm.mark with | some m => if m.1 = inc 32 s.tm.cue then some m.2 else none | none => none
    let s0 := match mark with
      | some t => if own then s else s.tmSet fun w => { w with cueLen := subMod 64 t w.cueStart / 8 }
      | none => s
    let start := if own then s0.nextStart else mark.getD s0.nextStart
    let s1 := if s0.isCell then s0.pwmCueEnd else s0
    let s2 := ((((s1.loopTo0 start).pumpPorts).pumpLinks).cueAdvance start).timeCueStart
    let s3 := if s2.isCell then s2.cellCueStart mark.isSome pins else s2.headCueStart
    let s4 := s3.recoveryEnds.rateCheck
    s4.seqStartAll 1 s4.now8

end State

/-- The computation starts (R53); `hops` are the measured hop delays of the rings, ps. -/
def execComputationStart (hops : List (Nat × List Nat)) (s : State) : Res := .next (s.compStart hops)

/-- The computation ends (R166). -/
def execComputationEnd (s : State) : Res := .next s.compEnd

/-- A CUE starts (R47); `pins` holds the levels of CAP0 and CAP1. -/
def execCueStart (pins : Nat) (s : State) : Res := .next (s.cueBegin pins)

end Sys2Proof.Machine
end

