-- ==== Sys2Proof/Machine/Pair.lean ====
section
/-! DEFINITION. Relay, snapshots, health, takeover and handover: the commands of the pair (R134 to R137, R383, R393 to R403). -/

namespace Sys2Proof.Machine

open State

/-- A REL_DN is received (R134); `fill` is how many /F/ its SHEET frame needs. -/
def execRelDn (lane : Nat) (frame : Bytes) (fend : FrameEnd) (fill : Nat) (s : State) : Res :=
  .next (s.rxXlTyped 0 lane frame fend 0x10 (fun r s => s.relDn r.chan r.pl r.xcrc fill))

/-- A REL_UP is received: the carried ring frame acts at the active HEAD as at its own far end (R135). -/
def execRelUp (lane : Nat) (frame : Bytes) (fend : FrameEnd) (cells : List CellId) (netHigh : Nat) (s : State) : Res :=
  .next (s.rxXlTyped 0 lane frame fend 0x11 (fun r s => s.relUp r.chan r.pl cells netHigh))

/-- A REL_REP is received: the active HEAD applies the tests of a report record (R135). -/
def execRelRep (lane : Nat) (frame : Bytes) (fend : FrameEnd) (s : State) : Res :=
  .next (s.rxXlTyped 0 lane frame fend 0x12 (fun r s => if s.activeHead then s.takeReport r.chan r.chan r.pl else s))

/-- A SNAP_FAST is received; CHAN is the fragment's index (R393). -/
def execSnapFast (lane : Nat) (frame : Bytes) (fend : FrameEnd) (s : State) : Res :=
  .next (s.rxXlTyped 0 lane frame fend 0x20 (fun r s => s.snapFast r.chan r.pl))

/-- A SNAP_SLOW is received (R137, R396). -/
def execSnapSlow (lane : Nat) (frame : Bytes) (fend : FrameEnd) (s : State) : Res :=
  .next (s.rxXlTyped 0 lane frame fend 0x21 (fun r s => s.snapSlow r.chan r.pl))

/-- A fast snapshot of CUE k is incomplete at the start of CUE k + 2 (R137). -/
def execSnapLate (s : State) : Res := .next (if s.lateSnap then s.fastLost else s)

/-- A HEALTH report is received (R398). -/
def execHealthFrame (lane : Nat) (frame : Bytes) (fend : FrameEnd) (s : State) : Res :=
  .next (s.rxXlTyped 0 lane frame fend 0x30 (fun r s => if s.activeHead ∧ r.pl.length = 64 then s.takeHealth r.pl else s))

/-- No valid HEALTH frame in 8 consecutive CUEs raises source 52 at the active HEAD of a pair (Table 14-1). -/
def execHealthTimeout (s : State) : Res :=
  if s.activeHead ∧ s.pw.ringMode = 1 ∧ 8 ≤ s.pair.healthMiss then .next (s.raise 52 0) else .next s

/-- The loss test holds at LOSS_CUES consecutive CUE starts (R399, R400). -/
def execLossDetected (s : State) : Res := .next s.lossActs

/-- TAKEOVER_CMD is written (R403). -/
def execTakeoverCmd (acc : Accessor) (s : State) : Res := .next (s.guardedValue acc Obj.takeoverCmd 1 applyTakeover)

end Sys2Proof.Machine
end

