-- ==== Sys2Proof/Machine/Seats.lean ====
section
/-! DEFINITION. Commands of the seats: the mailbox, QSPI, PCI Express, HOP, the station network's own frames, the token,
cell objects and the parameter store (Object dictionary, seats and HOP). -/

namespace Sys2Proof.Machine

open State

/-- A seat's transport is served: after start-up, in a role that has the seat. -/
def seatServed (s : State) (p : Nat) : Bool := s.running && (s.isHead || p != 0) && decide (p < 3)

/-! ### Mailbox, objects, registers -/

/-- OBJ_CMD with OP 0b01 on a path (R449): the mailbox registers name the access. -/
def execObjCmdRead (path : Fin 3) (s : State) : Res :=
  if seatServed s path.val then .next (s.mailbox path.val false) else .next s

/-- OBJ_CMD with OP 0b10 on a path (R449). -/
def execObjCmdWrite (path : Fin 3) (s : State) : Res :=
  if seatServed s path.val then .next (s.mailbox path.val true) else .next s

/-- A write of an object by an accessor (R439, R440): the tests in their order, then what the owning chapter says. -/
def execObjectWrite (acc : Accessor) (key : Nat) (data : Bytes) (s : State) : Res := .next (s.writeObject acc key data)

/-- A write of a register by a path (R9, R10, R444): `mask` holds the enabled bits (R446). -/
def execRegisterWrite (path : Fin 3) (addr value mask : Nat) (s : State) : Res :=
  .next (s.regWr path.val addr (value % 2 ^ 32) (mask % 2 ^ 32))

/-! ### QSPI: Seats 1 and 2 (R447, R448) -/

/-- One read word of a QSPI path: a register, or a word of a staging window. -/
def qspiRead (p a : Nat) (s : State) : State :=
  if 0x01000000 ≤ a ∧ a < 0x01800000 then
    let x := s.stageRd ((a - 0x01000000) / 0x100000) (a % 0x100000)
    x.2.2.emit (.word p x.1)
  else
    let x := s.regRd p a
    x.2.emit (.word p x.1)

/-- The words of a READ from an address on. -/
def qspiReads (p a n : Nat) (s : State) : State :=
  (List.range n).foldl (fun s i => qspiRead p ((a + 4 * i) % 2 ^ 32) s) s
/-- The words of a WRITE from an address on. -/
def qspiWrites (p a : Nat) (ws : List Nat) (s : State) : State :=
  (ws.foldl (fun x w => (x.1 + 4, x.2.regWr p (x.1 % 2 ^ 32) (w % 2 ^ 32) (2 ^ 32 - 1))) (a, s)).2

/-- A QSPI READ of `count` words (R447, R448): each word is returned, and acts, in turn; an unaligned address is logged and
nothing driven. -/
def execQspiRead (seat : Fin 2) (addr count : Nat) (s : State) : Res :=
  let p := seat.val + 1
  if !seatServed s p then .next s
  else if addr % 4 ≠ 0 then .next (s.transport (16 * p) 0x23 0x0B)
  else .next (qspiReads p addr count s)

/-- A QSPI WRITE (R447, R448). -/
def execQspiWrite (seat : Fin 2) (addr : Nat) (words : List Nat) (s : State) : Res :=
  let p := seat.val + 1
  if !seatServed s p then .next s
  else if addr % 4 ≠ 0 then .next (s.transport (16 * p) 0x23 0x32)
  else .next (qspiWrites p addr words s)

/-- A QSPI STATUS (R447, Table 16-5): the byte, whose reading clears bit 2. -/
def execQspiStatus (seat : Fin 2) (s : State) : Res :=
  let p := seat.val + 1
  if !seatServed s p then .next s
  else
    let b := packBits [s.mbox p 0 == 1, s.intLow (p + 4), hasBit s.seat.viol p, s.pw.faultHold, s.seat.holder == some p]
    .next ((s.seatSet fun w => { w with viol := clrBit w.viol p }).emit (.word p b))

/-- CS_N rises inside a command (R448): its complete words have their effect (`count` read words from an aligned address,
or the written `words`), and the cut is logged with the opcode. -/
def execQspiCut (seat : Fin 2) (opcode addr count : Nat) (words : List Nat) (s : State) : Res :=
  let p := seat.val + 1
  if !seatServed s p then .next s
  else
    let s1 := if addr % 4 ≠ 0 then s
      else if opcode = 0x0B then qspiReads p addr count s
      else if opcode = 0x32 then qspiWrites p addr words s
      else s
    .next (s1.transport (16 * p) 0x21 (opcode % 256))

/-- A QSPI command with an unknown opcode (R448). -/
def execQspiUnknown (seat : Fin 2) (opcode : Nat) (s : State) : Res :=
  let p := seat.val + 1
  if !seatServed s p ∨ opcode = 0x0B ∨ opcode = 0x32 ∨ opcode = 0x05 then .next s
  else .next (s.transport (16 * p) 0x22 (opcode % 256))

/-! ### PCI Express: Seat 0 (R445, R446, R509) -/

/-- What configuration space says of the Seat 0 function (R445): identifiers, class code, the bytes of BAR0 (32-bit, not
prefetchable) and BAR2 (64-bit, prefetchable), MSI-X vectors and the largest payload. -/
structure PciFunction where
  vendor : Nat
  device : Nat
  classCode : Nat
  subsystemVendor : Nat
  subsystem : Nat
  bar0Bytes : Nat
  bar2Bytes : Nat
  msixVectors : Nat
  maxPayload : Nat
  deriving DecidableEq, Repr

/-- The Seat 0 function as its host sees it: the subsystem identifiers are those taken at the last reset. -/
def pciFunction (s : State) : PciFunction :=
  { vendor := s.og Obj.pciVid, device := 0x7256, classCode := 0x118000, subsystemVendor := s.pw.pciSs % 65536,
    subsystem := s.pw.pciSs / 65536, bar0Bytes := 0x20000, bar2Bytes := 0x800000, msixVectors := 32, maxPayload := 256 }

/-- The bits of the bytes that a byte-enable mask enables. -/
def beMask (be : Nat) : Nat :=
  (List.range 4).foldl (fun m i => if hasBit be i then m + 255 * 256 ^ i else m) 0

/-- A BAR2 read of n words: the words, then the EP mark where one is uncorrectable (R469). -/
def bar2Read (off n : Nat) (s : State) : State :=
  let step (x : Bool × State) (i : Nat) : Bool × State :=
    let a := (off + 4 * i) % 0x800000
    let y := x.2.stageRd (a / 0x100000) (a % 0x100000)
    (x.1 || y.2.1, y.2.2.emit (.word 0 y.1))
  let r := (List.range n).foldl step (false, s)
  if r.1 then r.2.emit .poisoned else r.2

/-- A memory request to BAR0 or BAR2 (R444 to R446): `len` DWs from byte offset `off`, with the byte enables of a write's
DW. A poisoned write is discarded, logged and reported; any request but one DW of BAR0 and a read of up to 512 bytes of
BAR2 is Unsupported. -/
def execPcieRequest (bar2 write : Bool) (off len be value : Nat) (poison : Bool) (s : State) : Res :=
  if !seatServed s 0 ∨ !s.seat.perst then .next s
  else if write ∧ poison then .next ((s.transport 0 0x24 0).emit .aerPoisoned)
  else if !bar2 ∧ len = 1 ∧ off % 4 = 0 ∧ off < 0x20000 then
    if write then .next (s.regWr 0 off (value % 2 ^ 32) (beMask be))
    else
      let x := s.regRd 0 off
      .next (x.2.emit (.word 0 x.1))
  else if bar2 ∧ !write ∧ 1 ≤ len ∧ len ≤ 128 ∧ off % 4 = 0 ∧ off + 4 * len ≤ 0x800000 then .next (bar2Read off len s)
  else .next ((s.transport 0 0x25 0).emit .unsupported)

/-- A link-down, hot reset or function-level reset of Seat 0 (R446): the token passes on if Seat 0 holds it. -/
def execPcieLinkReset (s : State) : Res := if seatServed s 0 then .next (s.tokenLost 0 0) else .next s

/-- The Seat 0 function at reset: the MSI-X table and pending bits. -/
def fnReset (s : State) : State :=
  ({ s with regs := Kv.keep (fun a => !(decide (Blk.msix ≤ a) && decide (a < Blk.msix + 0x200))) s.regs }).irqSet
    fun w => { w with pba := 0 }

/-- PERST_N (R509): low resets the Seat 0 function only, and its path is lost (R446); high starts link training. -/
def execPerstN (high : Bool) (s : State) : Res :=
  if high then .next (s.seatSet fun w => { w with perst := true })
  else .next (((s.seatSet fun w => { w with perst := false }).tokenLost 0 0) |> fnReset)

/-! ### HOP: Seat 3 (R450 to R454) -/

/-- A HOP OPEN (R452). -/
def execHopOpen (ip port : Nat) (frame : Bytes) (s : State) : Res :=
  .next (s.hopRx ip port frame 0x01 (fun _ seq pl s => s.hopOpen ip port seq pl))

/-- A HOP CLOSE (R452, R456, R524). -/
def execHopClose (ip port : Nat) (frame : Bytes) (s : State) : Res :=
  .next (s.hopRx ip port frame 0x02 (fun sess seq _ s => s.hopClose ip port sess seq))

/-- A HOP KEEPALIVE (R453). -/
def execHopKeepalive (ip port : Nat) (frame : Bytes) (s : State) : Res :=
  .next (s.hopRx ip port frame 0x03 (fun sess seq _ s => s.hopKeep ip port sess seq))

/-- A HOP READ (R451, R453, R458). -/
def execHopRead (ip port : Nat) (frame : Bytes) (s : State) : Res :=
  .next (s.hopRx ip port frame 0x10 (fun sess seq pl s => s.hopAccess ip port 0x10 sess seq pl))

/-- A HOP WRITE (R451, R453, R455, R458). -/
def execHopWrite (ip port : Nat) (frame : Bytes) (s : State) : Res :=
  .next (s.hopRx ip port frame 0x11 (fun sess seq pl s => s.hopAccess ip port 0x11 sess seq pl))

/-- A HOP SUBSCRIBE (R454). -/
def execHopSubscribe (ip port : Nat) (frame : Bytes) (s : State) : Res :=
  .next (s.hopRx ip port frame 0x20 (fun sess seq pl s => s.hopSubscribe ip port sess seq pl))

/-- HOP_TIMEOUT ms of TB2 pass without a valid request on a session, which closes (R452). -/
def execHopSessionTimeout (session : Nat) (s : State) : Res :=
  match s.hopSession session with
  | none => .next s
  | some v =>
    if !seatServed s 0 then .next s
    else .next ((s.toTb2 (v.seenAt + s.og Obj.hopTimeout * 1000000)).sessionClose session)

/-- A stream's staging buffer holds 1,024 bytes, or 1 ms has passed since its oldest unsent record (R454). -/
def execHopStreamFlush (stream : Nat) (s : State) : Res :=
  let r := s.stream stream
  match r.stage with
  | [] => .next s
  | e :: _ =>
    if !s.headOn then .next s
    else .next ((if 1024 ≤ stageUsed r then s else s.toTb2 (e.1 + 1000000)).streamFlush stream)

/-! ### The station network's own frames (R450) -/

/-- A network port serves: its link is up, in a HEAD after start-up. -/
def netServed (s : State) (port : Nat) : Bool := s.running && s.isHead && (port == 1 || port == 2) && hasBit s.seat.netUp (port - 1)

/-- An ARP request on network port A (1) or B (2) for an IPv4 address: answered for the part's own address with MAC_ADDR;
`asker` is what the answer names the asker by. -/
def execArpRequest (port target : Nat) (asker : Bytes) (s : State) : Res :=
  if !netServed s port then .next s
  else if target = s.pw.ip then
    .next (s.emit (.net port 1 (leBytes 6 Config.macAddr.toNat ++ leBytes 4 s.pw.ip ++ asker)))
  else .next (s.bump Obj.netDropped)

/-- An ICMP echo request to the part is answered with its own bytes. -/
def execIcmpEcho (port : Nat) (echo : Bytes) (s : State) : Res :=
  if netServed s port then .next (s.emit (.net port 2 echo)) else .next s

/-- Any other frame is discarded and counted (R450). -/
def execNetDroppedFrame (port : Nat) (s : State) : Res :=
  if netServed s port then .next (s.bump Obj.netDropped) else .next s

/-- Network port A (0) or B (1) loses or regains its link (R410, Table 15-1). -/
def execNetworkLinkChange (port : Fin 2) (up : Bool) (s : State) : Res :=
  if s.running ∧ s.isHead ∧ hasBit s.seat.netUp port.val ≠ up then
    .next ((s.seatSet fun w => { w with netUp := putBit w.netUp port.val up }).irqPost 27 port.val)
  else .next s

/-! ### The token (R455 to R457, R524) -/

/-- TOKEN_CMD by an object write, or by a path's OBJ_TOK_CMD register. -/
def tokenVia (via : Via) (code : Nat) (s : State) : State :=
  match via with
  | .obj a => s.guardedValue a Obj.tokenCmd code (applyTokenCmd a)
  | .reg p => s.regWr p.val (Blk.obj + 0x24) code 0xFF

/-- TOKEN_CMD 0x01 (Table 16-8). -/
def execTokenRequest (via : Via) (s : State) : Res := .next (tokenVia via 1 s)
/-- TOKEN_CMD 0x02 (Table 16-8). -/
def execTokenRelease (via : Via) (s : State) : Res := .next (tokenVia via 2 s)
/-- TOKEN_CMD 0x03 (Table 16-8). -/
def execTokenForceCmd (via : Via) (s : State) : Res := .next (tokenVia via 3 s)
/-- TOKEN_CMD 0x04 (Table 16-8). -/
def execTokenRenew (via : Via) (s : State) : Res := .next (tokenVia via 4 s)
/-- TOKEN_CMD 0x05 (Table 16-8). -/
def execTokenWithdraw (via : Via) (s : State) : Res := .next (tokenVia via 5 s)
/-- The lease expires (Table 16-8). -/
def execTokenLeaseExpiry (s : State) : Res := .next s.tokenExpire

/-! ### Cell objects (R458, R459) -/

/-- An OBJ_REQ reaches a cell on a ring port (R459): FLAGS 0x80 is a STATION_OUT frame, other FLAGS are UNKNOWN_TYPE. -/
def execCellObjRequest (port : Nat) (frame : Bytes) (fend : FrameEnd) (s : State) : Res :=
  .next (s.rxTyped port frame fend 0x30 true (fun r s =>
    if !s.isCell ∨ !s.addressed r.hdr then s
    else if r.hdr.flags = 0 then (if r.hdr.dst = s.ring.node.caddr then s.serveCell port r.hdr r.pl else s)
    else if r.hdr.flags = 0x80 then s
    else s.ringLog port 6 r.hdr.src (vdetail r.hdr.ty r.hdr.seq)))

/-- An OBJ_RSP reaches the active HEAD on a ring port (R458, R459). -/
def execCellObjResponse (port : Nat) (frame : Bytes) (fend : FrameEnd) (s : State) : Res :=
  .next (s.rxTyped port frame fend 0x31 true (fun r s =>
    if !s.activeHead then s
    else if r.hdr.flags = 0 then s.objResponse r.pl r.hdr.src
    else if r.hdr.flags = 0x80 then s
    else s.ringLog port 6 r.hdr.src (vdetail r.hdr.ty r.hdr.seq)))

/-- An open cell request has waited CELL_OBJ_TIMEOUT CUEs (R459). -/
def execCellObjTimeout (id : Nat) (s : State) : Res :=
  match s.seat.cellReqs.find? (fun r => r.id == id) with
  | some r => if s.headOn ∧ s.og Obj.cellObjTimeout ≤ subMod 32 s.tm.cue r.cue then .next (s.cellTimeout r) else .next s
  | none => .next s

/-! ### Store and restore (R460, R461) -/

/-- STORE_CMD 0x01 (R460). -/
def execStoreCmdStore (acc : Accessor) (s : State) : Res := .next (s.writeObject acc Obj.storeCmd [0x01#8])
/-- STORE_CMD 0x02 (R461). -/
def execStoreCmdDefaults (acc : Accessor) (s : State) : Res := .next (s.writeObject acc Obj.storeCmd [0x02#8])
/-- STORE_CMD 0x03 (R461). -/
def execStoreCmdReload (acc : Accessor) (s : State) : Res := .next (s.writeObject acc Obj.storeCmd [0x03#8])
/-- The record of a store is written and read back, or has failed (R460, R473). -/
def execStoreDone (failed : Bool) (s : State) : Res := if s.running then .next (s.storeEnd failed) else .next s

/-- SEAT_VLOG_CMD 0x01 (R463). -/
def execSeatVlogCmdClear (acc : Accessor) (s : State) : Res := .next (s.guardedValue acc Obj.seatVlogCmd 1 applySeatVlogCmd)

end Sys2Proof.Machine
end

