-- ==== Sys2Proof/Machine/Sl.lean ====
section
/-! DEFINITION. Commands of the sequence logic: the instructions of Table 12-3, the engine's and the image's objects,
mode requests and station responses (Sequence logic). -/

namespace Sys2Proof.Machine

open State

/-- LDB, opcode 0x01 (R321). -/
def execSlLdb (area : Fin 16) (operand : Nat) (s : State) : Res := s.slOp 0x01 area.val operand

/-- LDNB, opcode 0x02 (R321). -/
def execSlLdnb (area : Fin 16) (operand : Nat) (s : State) : Res := s.slOp 0x02 area.val operand

/-- ANDB, opcode 0x03 (R321). -/
def execSlAndb (area : Fin 16) (operand : Nat) (s : State) : Res := s.slOp 0x03 area.val operand

/-- ANDNB, opcode 0x04 (R321). -/
def execSlAndnb (area : Fin 16) (operand : Nat) (s : State) : Res := s.slOp 0x04 area.val operand

/-- ORB, opcode 0x05 (R321). -/
def execSlOrb (area : Fin 16) (operand : Nat) (s : State) : Res := s.slOp 0x05 area.val operand

/-- ORNB, opcode 0x06 (R321). -/
def execSlOrnb (area : Fin 16) (operand : Nat) (s : State) : Res := s.slOp 0x06 area.val operand

/-- STB, opcode 0x07 (R321). -/
def execSlStb (area : Fin 16) (operand : Nat) (s : State) : Res := s.slOp 0x07 area.val operand

/-- SETB, opcode 0x08 (R321). -/
def execSlSetb (area : Fin 16) (operand : Nat) (s : State) : Res := s.slOp 0x08 area.val operand

/-- RSTB, opcode 0x09 (R321). -/
def execSlRstb (area : Fin 16) (operand : Nat) (s : State) : Res := s.slOp 0x09 area.val operand

/-- LD, opcode 0x0A (R321). -/
def execSlLd (area : Fin 16) (operand : Nat) (s : State) : Res := s.slOp 0x0A area.val operand

/-- ST, opcode 0x0B (R321). -/
def execSlSt (area : Fin 16) (operand : Nat) (s : State) : Res := s.slOp 0x0B area.val operand

/-- ADD, opcode 0x0C (R321). -/
def execSlAdd (area : Fin 16) (operand : Nat) (s : State) : Res := s.slOp 0x0C area.val operand

/-- SUB, opcode 0x0D (R321). -/
def execSlSub (area : Fin 16) (operand : Nat) (s : State) : Res := s.slOp 0x0D area.val operand

/-- MUL, opcode 0x0E (R321). -/
def execSlMul (area : Fin 16) (operand : Nat) (s : State) : Res := s.slOp 0x0E area.val operand

/-- CMPGT, opcode 0x0F (R321). -/
def execSlCmpgt (area : Fin 16) (operand : Nat) (s : State) : Res := s.slOp 0x0F area.val operand

/-- CMPEQ, opcode 0x10 (R321). -/
def execSlCmpeq (area : Fin 16) (operand : Nat) (s : State) : Res := s.slOp 0x10 area.val operand

/-- CMPLT, opcode 0x11 (R321). -/
def execSlCmplt (area : Fin 16) (operand : Nat) (s : State) : Res := s.slOp 0x11 area.val operand

/-- FIX, opcode 0x12 (R321). -/
def execSlFix (area : Fin 16) (operand : Nat) (s : State) : Res := s.slOp 0x12 area.val operand

/-- TON, opcode 0x13 (R321). -/
def execSlTon (area : Fin 16) (operand : Nat) (s : State) : Res := s.slOp 0x13 area.val operand

/-- RTRIG, opcode 0x14 (R321). -/
def execSlRtrig (area : Fin 16) (operand : Nat) (s : State) : Res := s.slOp 0x14 area.val operand

/-- JMP, opcode 0x15 (R321). -/
def execSlJmp (operand : Nat) (s : State) : Res := s.slOp 0x15 0 operand

/-- JMPC, opcode 0x16 (R321). -/
def execSlJmpc (operand : Nat) (s : State) : Res := s.slOp 0x16 0 operand

/-- JMPN, opcode 0x17 (R321). -/
def execSlJmpn (operand : Nat) (s : State) : Res := s.slOp 0x17 0 operand

/-- END, opcode 0x18 (R321). -/
def execSlEnd (s : State) : Res := s.slOp 0x18 0 0

/-- WROBJ, opcode 0x19 (R321). -/
def execSlWrobj (operand : Nat) (s : State) : Res := s.slOp 0x19 0 operand

/-- MODE, opcode 0x1A (R321). -/
def execSlMode (s : State) : Res := s.slOp 0x1A 0 0

/-- SACK, opcode 0x1B (R321). -/
def execSlSack (s : State) : Res := s.slOp 0x1B 0 0

/-- SL_CMD 0x01 (R316, R323, R331). -/
def execSlCmdRun (acc : Accessor) (s : State) : Res := .next (s.guardedValue acc Obj.slCmd 1 applySlCmd)

/-- SL_CMD 0x02 (R323). -/
def execSlCmdStop (acc : Accessor) (s : State) : Res := .next (s.guardedValue acc Obj.slCmd 2 applySlCmd)

/-- SL_CMD 0x03 (R330, R334). -/
def execSlCmdRevert (acc : Accessor) (s : State) : Res := .next (s.guardedValue acc Obj.slCmd 3 applySlCmd)

/-- A write of SL_CUES (R316). -/
def execSlCuesWrite (acc : Accessor) (v : Nat) (s : State) : Res :=
  .next (s.guardedValue acc Obj.slCues v applySlCues)

/-- A write of SL_LOAD: a U32 offset and image bytes (R329). -/
def execSlLoadWrite (acc : Accessor) (d : Bytes) (s : State) : Res :=
  .next (s.guardedWrite acc Obj.slLoad d (applySlLoad d))

/-- SL_CHANGE 0x01 (R329, R334, R340). -/
def execSlChange (acc : Accessor) (s : State) : Res := .next (s.guardedValue acc Obj.slChange 1 applySlChange)

/-- SL_CHANGE 0x02 (R334). -/
def execSlChangeClearForces (acc : Accessor) (s : State) : Res :=
  .next (s.guardedValue acc Obj.slChange 2 applySlChange)

/-- Verification of a loaded image completes (R329, R331). -/
def execSlVerifyDone (s : State) : Res :=
  if s.headOn ∧ s.sl.chg = .verifying then .next s.slVerify else .next s

/-- A write of FORCE_TABLE (R333). -/
def execForceTableWrite (acc : Accessor) (d : Bytes) (s : State) : Res :=
  .next (s.guardedWrite acc Obj.forceTable d (applyForceTable d))

/-- A write of STN_READMIT (R328). -/
def execStnReadmitWrite (acc : Accessor) (v : Nat) (s : State) : Res :=
  .next (s.guardedValue acc Obj.stnReadmit v applyReadmit)

/-- A write of MODE_REQ (R337). -/
def execModeReqWrite (acc : Accessor) (d : Bytes) (s : State) : Res :=
  .next (s.guardedWrite acc Obj.modeReq d (applyModeReq d))

/-- A station response arrives at a ring port of the HEAD (R324, R327). -/
def execStationResponse (port : Nat) (frame : Bytes) (fend : FrameEnd) (s : State) : Res :=
  .next (s.rxTyped port frame fend 0x31 true (fun r s =>
    if !s.activeHead ∨ r.pl.length ≠ 16 ∨ r.hdr.flags ≠ 0x80 then s
    else if hopOf r.hdr.src = 0 ∨ 96 < hopOf r.hdr.src then s
    else s.stnResponse (96 * s.ringOfPort port + hopOf r.hdr.src - 1) r.pl))

/-- No valid STATION_OUT for STN_TIMEOUT CUEs: G7 goes low and STN_STATE is 0x02 (R326). -/
def execStnTimeout (s : State) : Res :=
  if s.cellOn ∧ s.og Obj.stnTimeout ≤ s.sl.cAge ∧ s.og Obj.stnState ≠ 2 then
    .next (((s.drive 7 false s.tm.tb0).slSet fun w => { w with lqOut := 0 }).oset Obj.stnState 2)
  else .next s

end Sys2Proof.Machine
end

