-- ==== Sys2Proof/Machine/Dispatch.lean ====
section
/-! DEFINITION. One arm per command: the meaning each command calls. -/

namespace Sys2Proof.Machine

def exec (i : Instr) (s : State) : Host.Outcome State Fault Refusal :=
  match i with
  | .powerOnReset => Sys2Proof.Machine.execPowerOnReset s
  | .rstNReset cycles => Sys2Proof.Machine.execRstNReset cycles s
  | .internalResetRelease => Sys2Proof.Machine.execInternalResetRelease s
  | .roleSample level => Sys2Proof.Machine.execRoleSample level s
  | .roleResampleTimer => Sys2Proof.Machine.execRoleResampleTimer s
  | .firmwareStart bad reads blocks => Sys2Proof.Machine.execFirmwareStart bad reads blocks s
  | .startUpComplete high => Sys2Proof.Machine.execStartUpComplete high s
  | .watchdogReset core => Sys2Proof.Machine.execWatchdogReset core s
  | .softwareReset acc => Sys2Proof.Machine.execSoftwareReset acc s
  | .standbyRequest acc => Sys2Proof.Machine.execStandbyRequest acc s
  | .stbyIdleExpiry => Sys2Proof.Machine.execStbyIdleExpiry s
  | .wakeEdge rising cycles => Sys2Proof.Machine.execWakeEdge rising cycles s
  | .wakeTimerExpiry cycles => Sys2Proof.Machine.execWakeTimerExpiry cycles s
  | .storageCheck cycles vraw traws edge => Sys2Proof.Machine.execStorageCheck cycles vraw traws edge s
  | .uvloFall => Sys2Proof.Machine.execUvloFall s
  | .thermalLimit => Sys2Proof.Machine.execThermalLimit s
  | .thermalRelease => Sys2Proof.Machine.execThermalRelease s
  | .refLoss => Sys2Proof.Machine.execRefLoss s
  | .refRestored => Sys2Proof.Machine.execRefRestored s
  | .aonTrim ppm => Sys2Proof.Machine.execAonTrim ppm s
  | .auxEnWrite acc v => Sys2Proof.Machine.execAuxEnWrite acc v s
  | .aux33CurrentLimit => Sys2Proof.Machine.execAux33CurrentLimit s
  | .standingPartnerTimeout => Sys2Proof.Machine.execStandingPartnerTimeout s
  | .enumReenumerate acc port => Sys2Proof.Machine.execEnumReenumerate acc port s
  | .enumCommission acc port => Sys2Proof.Machine.execEnumCommission acc port s
  | .enumRemove acc port => Sys2Proof.Machine.execEnumRemove acc port s
  | .ringArmWrite acc port v => Sys2Proof.Machine.execRingArmWrite acc port v s
  | .enumFrame port frame fend n serial => Sys2Proof.Machine.execEnumFrame port frame fend n serial s
  | .enumReturn port frame fend cells => Sys2Proof.Machine.execEnumReturn port frame fend cells s
  | .cuePeriodWrite acc v => Sys2Proof.Machine.execCuePeriodWrite acc v s
  | .cueStart pins => Sys2Proof.Machine.execCueStart pins s
  | .reportAssembly => Sys2Proof.Machine.execReportAssembly s
  | .reportLaunch => Sys2Proof.Machine.execReportLaunch s
  | .computationStart hops => Sys2Proof.Machine.execComputationStart hops s
  | .computationEnd => Sys2Proof.Machine.execComputationEnd s
  | .probeFrame port lane frame fend at0 => Sys2Proof.Machine.execProbeFrame port lane frame fend at0 s
  | .timeFrame port lane frame fend at0 => Sys2Proof.Machine.execTimeFrame port lane frame fend at0 s
  | .timeFrameTimeout => Sys2Proof.Machine.execTimeFrameTimeout s
  | .holdoverLimit => Sys2Proof.Machine.execHoldoverLimit s
  | .reAnchorWrite acc v => Sys2Proof.Machine.execReAnchorWrite acc v s
  | .reAnchorFrame port frame fend => Sys2Proof.Machine.execReAnchorFrame port frame fend s
  | .ptpSync port domain logInterval master => Sys2Proof.Machine.execPtpSync port domain logInterval master s
  | .ptpAnnounce port domain rank utc => Sys2Proof.Machine.execPtpAnnounce port domain rank utc s
  | .announceTimeout port => Sys2Proof.Machine.execAnnounceTimeout port s
  | .pdelayReq port domain frame => Sys2Proof.Machine.execPdelayReq port domain frame s
  | .tb1CmdReanchor acc => Sys2Proof.Machine.execTb1CmdReanchor acc s
  | .tb3Write acc v => Sys2Proof.Machine.execTb3Write acc v s
  | .syncEdge rising at0 => Sys2Proof.Machine.execSyncEdge rising at0 s
  | .syncMiss => Sys2Proof.Machine.execSyncMiss s
  | .syncModeWrite acc v => Sys2Proof.Machine.execSyncModeWrite acc v s
  | .syncCmdReacquire acc => Sys2Proof.Machine.execSyncCmdReacquire acc s
  | .tevtFire n => Sys2Proof.Machine.execTevtFire n s
  | .tevtArm acc n v => Sys2Proof.Machine.execTevtArm acc n v s
  | .captureEdge input falling after => Sys2Proof.Machine.execCaptureEdge input falling after s
  | .entryRead acc input => Sys2Proof.Machine.execEntryRead acc input s
  | .portEnable port on => Sys2Proof.Machine.execPortEnable port on s
  | .portTest port on => Sys2Proof.Machine.execPortTest port on s
  | .signalDetect port => Sys2Proof.Machine.execSignalDetect port s
  | .offerTimer port => Sys2Proof.Machine.execOfferTimer port s
  | .offerReceived port set => Sys2Proof.Machine.execOfferReceived port set s
  | .trainStart port => Sys2Proof.Machine.execTrainStart port s
  | .trainingEnd port locked errors => Sys2Proof.Machine.execTrainingEnd port locked errors s
  | .laneSilenceEnd port => Sys2Proof.Machine.execLaneSilenceEnd port s
  | .linkDown port => Sys2Proof.Machine.execLinkDown port s
  | .rateCapFrame port frame fend => Sys2Proof.Machine.execRateCapFrame port frame fend s
  | .curtainSymbol port => Sys2Proof.Machine.execCurtainSymbol port s
  | .curtainRingEnd port => Sys2Proof.Machine.execCurtainRingEnd port s
  | .curtainLiftFrame port frame fend => Sys2Proof.Machine.execCurtainLiftFrame port frame fend s
  | .frameForward port frame fend => Sys2Proof.Machine.execFrameForward port frame fend s
  | .sheetFrame port frame fend at0 => Sys2Proof.Machine.execSheetFrame port frame fend at0 s
  | .reportTrain port records => Sys2Proof.Machine.execReportTrain port records s
  | .trainGraceExpiry => Sys2Proof.Machine.execTrainGraceExpiry s
  | .reportRecord port record => Sys2Proof.Machine.execReportRecord port record s
  | .backgroundWindow port => Sys2Proof.Machine.execBackgroundWindow port s
  | .linkFrame port frame fend => Sys2Proof.Machine.execLinkFrame port frame fend s
  | .healHoldExpiry port => Sys2Proof.Machine.execHealHoldExpiry port s
  | .vlogCmdClear acc => Sys2Proof.Machine.execVlogCmdClear acc s
  | .rngPerrRead path port => Sys2Proof.Machine.execRngPerrRead path port s
  | .rngPbitsRead path port => Sys2Proof.Machine.execRngPbitsRead path port s
  | .rngInjGo port v => Sys2Proof.Machine.execRngInjGo port v s
  | .xlEnable link on => Sys2Proof.Machine.execXlEnable link on s
  | .xlTest link on => Sys2Proof.Machine.execXlTest link on s
  | .xlClockPresent link => Sys2Proof.Machine.execXlClockPresent link s
  | .xlAlignDone link lane errs slips => Sys2Proof.Machine.execXlAlignDone link lane errs slips s
  | .helloReceived link lane frame fend => Sys2Proof.Machine.execHelloReceived link lane frame fend s
  | .helloTimer link => Sys2Proof.Machine.execHelloTimer link s
  | .laneMaskSymbol link mask => Sys2Proof.Machine.execLaneMaskSymbol link mask s
  | .xlLaneLoss link lane frame => Sys2Proof.Machine.execXlLaneLoss link lane frame s
  | .xlLinkDown link frame0 frame1 => Sys2Proof.Machine.execXlLinkDown link frame0 frame1 s
  | .rejoinHoldExpiry link lane => Sys2Proof.Machine.execRejoinHoldExpiry link lane s
  | .peerFrame link lane frame fend => Sys2Proof.Machine.execPeerFrame link lane frame fend s
  | .curtainSetXl0 lane set => Sys2Proof.Machine.execCurtainSetXl0 lane set s
  | .curtainSetPeer link lane set netHigh => Sys2Proof.Machine.execCurtainSetPeer link lane set netHigh s
  | .curtainSetTimeout link netHigh => Sys2Proof.Machine.execCurtainSetTimeout link netHigh s
  | .relDn lane frame fend fill => Sys2Proof.Machine.execRelDn lane frame fend fill s
  | .relUp lane frame fend cells netHigh => Sys2Proof.Machine.execRelUp lane frame fend cells netHigh s
  | .relRep lane frame fend => Sys2Proof.Machine.execRelRep lane frame fend s
  | .snapFast lane frame fend => Sys2Proof.Machine.execSnapFast lane frame fend s
  | .snapSlow lane frame fend => Sys2Proof.Machine.execSnapSlow lane frame fend s
  | .snapLate => Sys2Proof.Machine.execSnapLate s
  | .healthFrame lane frame fend => Sys2Proof.Machine.execHealthFrame lane frame fend s
  | .healthTimeout => Sys2Proof.Machine.execHealthTimeout s
  | .xlTrnErrRead path link lane => Sys2Proof.Machine.execXlTrnErrRead path link lane s
  | .xlPerrRead path link lane => Sys2Proof.Machine.execXlPerrRead path link lane s
  | .xlPbitsRead path link lane => Sys2Proof.Machine.execXlPbitsRead path link lane s
  | .xlInjGo link lane v => Sys2Proof.Machine.execXlInjGo link lane v s
  | .xlVlogCmdClear acc => Sys2Proof.Machine.execXlVlogCmdClear acc s
  | .modModeWrite acc arm v => Sys2Proof.Machine.execModModeWrite acc arm v s
  | .sortCmdWrite acc arm v => Sys2Proof.Machine.execSortCmdWrite acc arm v s
  | .keyGateWrite acc arm v => Sys2Proof.Machine.execKeyGateWrite acc arm v s
  | .orderHoldWrite acc arm v => Sys2Proof.Machine.execOrderHoldWrite acc arm v s
  | .eventEdge => Sys2Proof.Machine.execEventEdge s
  | .deadTimeEnd => Sys2Proof.Machine.execDeadTimeEnd s
  | .delayLineCal tap inTrim => Sys2Proof.Machine.execDelayLineCal tap inTrim s
  | .carrierBoundary peak => Sys2Proof.Machine.execCarrierBoundary peak s
  | .shadowPerWrite via v => Sys2Proof.Machine.execShadowPerWrite via v s
  | .shadowDutyWrite via v => Sys2Proof.Machine.execShadowDutyWrite via v s
  | .pwmHoldWrite path on => Sys2Proof.Machine.execPwmHoldWrite path on s
  | .tripActive input high n => Sys2Proof.Machine.execTripActive input high n s
  | .tripInactive input high n => Sys2Proof.Machine.execTripInactive input high n s
  | .tripClr via mask => Sys2Proof.Machine.execTripClr via mask s
  | .bypCmd acc => Sys2Proof.Machine.execBypCmd acc s
  | .bypassPulseStart => Sys2Proof.Machine.execBypassPulseStart s
  | .bypassPulseEnd => Sys2Proof.Machine.execBypassPulseEnd s
  | .bypassConfirmTimeout => Sys2Proof.Machine.execBypassConfirmTimeout s
  | .bypassSense high n => Sys2Proof.Machine.execBypassSense high n s
  | .debugHalt => Sys2Proof.Machine.execDebugHalt s
  | .debugResume => Sys2Proof.Machine.execDebugResume s
  | .pwmClockLoss => Sys2Proof.Machine.execPwmClockLoss s
  | .pwmClockGood => Sys2Proof.Machine.execPwmClockGood s
  | .batModeWrite acc v => Sys2Proof.Machine.execBatModeWrite acc v s
  | .batTestWrite acc v => Sys2Proof.Machine.execBatTestWrite acc v s
  | .batCmdClear acc => Sys2Proof.Machine.execBatCmdClear acc s
  | .batterySample => Sys2Proof.Machine.execBatterySample s
  | .socSetWrite acc v => Sys2Proof.Machine.execSocSetWrite acc v s
  | .socRestReset => Sys2Proof.Machine.execSocRestReset s
  | .loopGroupStart group => Sys2Proof.Machine.execLoopGroupStart group s
  | .loopDescWrite acc ch d => Sys2Proof.Machine.execLoopDescWrite acc ch d s
  | .loopGtabWrite acc ch d => Sys2Proof.Machine.execLoopGtabWrite acc ch d s
  | .gtabPokeWrite acc ch v => Sys2Proof.Machine.execGtabPokeWrite acc ch v s
  | .loopLimitWrite acc which ch v => Sys2Proof.Machine.execLoopLimitWrite acc which ch v s
  | .intSetWrite acc ch v => Sys2Proof.Machine.execIntSetWrite acc ch v s
  | .loopFlagsWrite acc ch v => Sys2Proof.Machine.execLoopFlagsWrite acc ch v s
  | .injCmdStart acc => Sys2Proof.Machine.execInjCmdStart acc s
  | .injCmdStop acc => Sys2Proof.Machine.execInjCmdStop acc s
  | .seqTableWrite w => Sys2Proof.Machine.execSeqTableWrite w s
  | .seqTimer seq => Sys2Proof.Machine.execSeqTimer seq s
  | .seqCmdStart acc seq => Sys2Proof.Machine.execSeqCmdStart acc seq s
  | .adcSwstart path mask => Sys2Proof.Machine.execAdcSwstart path mask s
  | .entrySample seq => Sys2Proof.Machine.execEntrySample seq s
  | .resultWrite seq raws netHigh => Sys2Proof.Machine.execResultWrite seq raws netHigh s
  | .adcResultRead path c n => Sys2Proof.Machine.execAdcResultRead path c n s
  | .resultObjectRead acc c n => Sys2Proof.Machine.execResultObjectRead acc c n s
  | .refEnWrite via v => Sys2Proof.Machine.execRefEnWrite via v s
  | .refReadyTimer => Sys2Proof.Machine.execRefReadyTimer s
  | .calCmd via => Sys2Proof.Machine.execCalCmd via s
  | .calDone shortsA shortsB => Sys2Proof.Machine.execCalDone shortsA shortsB s
  | .captureBaseSample stream => Sys2Proof.Machine.execCaptureBaseSample stream s
  | .capCmdStart acc stream => Sys2Proof.Machine.execCapCmdStart acc stream s
  | .capCmdStop acc stream => Sys2Proof.Machine.execCapCmdStop acc stream s
  | .capCmdArm acc stream => Sys2Proof.Machine.execCapCmdArm acc stream s
  | .capCmdForce acc stream => Sys2Proof.Machine.execCapCmdForce acc stream s
  | .captureTrigger stream => Sys2Proof.Machine.execCaptureTrigger stream s
  | .captureHoldoffExpiry stream => Sys2Proof.Machine.execCaptureHoldoffExpiry stream s
  | .winReleaseWrite acc v => Sys2Proof.Machine.execWinReleaseWrite acc v s
  | .captureFrame port frame fend => Sys2Proof.Machine.execCaptureFrame port frame fend s
  | .capqRdWrite path stream v => Sys2Proof.Machine.execCapqRdWrite path stream v s
  | .slCycleStart pins => Sys2Proof.Machine.execSlCycleStart pins s
  | .slLdb area operand => Sys2Proof.Machine.execSlLdb area operand s
  | .slLdnb area operand => Sys2Proof.Machine.execSlLdnb area operand s
  | .slAndb area operand => Sys2Proof.Machine.execSlAndb area operand s
  | .slAndnb area operand => Sys2Proof.Machine.execSlAndnb area operand s
  | .slOrb area operand => Sys2Proof.Machine.execSlOrb area operand s
  | .slOrnb area operand => Sys2Proof.Machine.execSlOrnb area operand s
  | .slStb area operand => Sys2Proof.Machine.execSlStb area operand s
  | .slSetb area operand => Sys2Proof.Machine.execSlSetb area operand s
  | .slRstb area operand => Sys2Proof.Machine.execSlRstb area operand s
  | .slLd area operand => Sys2Proof.Machine.execSlLd area operand s
  | .slSt area operand => Sys2Proof.Machine.execSlSt area operand s
  | .slAdd area operand => Sys2Proof.Machine.execSlAdd area operand s
  | .slSub area operand => Sys2Proof.Machine.execSlSub area operand s
  | .slMul area operand => Sys2Proof.Machine.execSlMul area operand s
  | .slCmpgt area operand => Sys2Proof.Machine.execSlCmpgt area operand s
  | .slCmpeq area operand => Sys2Proof.Machine.execSlCmpeq area operand s
  | .slCmplt area operand => Sys2Proof.Machine.execSlCmplt area operand s
  | .slFix area operand => Sys2Proof.Machine.execSlFix area operand s
  | .slTon area operand => Sys2Proof.Machine.execSlTon area operand s
  | .slRtrig area operand => Sys2Proof.Machine.execSlRtrig area operand s
  | .slJmp operand => Sys2Proof.Machine.execSlJmp operand s
  | .slJmpc operand => Sys2Proof.Machine.execSlJmpc operand s
  | .slJmpn operand => Sys2Proof.Machine.execSlJmpn operand s
  | .slEnd => Sys2Proof.Machine.execSlEnd s
  | .slWrobj operand => Sys2Proof.Machine.execSlWrobj operand s
  | .slMode => Sys2Proof.Machine.execSlMode s
  | .slSack => Sys2Proof.Machine.execSlSack s
  | .slCmdRun acc => Sys2Proof.Machine.execSlCmdRun acc s
  | .slCmdStop acc => Sys2Proof.Machine.execSlCmdStop acc s
  | .slCmdRevert acc => Sys2Proof.Machine.execSlCmdRevert acc s
  | .slCuesWrite acc v => Sys2Proof.Machine.execSlCuesWrite acc v s
  | .slLoadWrite acc d => Sys2Proof.Machine.execSlLoadWrite acc d s
  | .slChange acc => Sys2Proof.Machine.execSlChange acc s
  | .slChangeClearForces acc => Sys2Proof.Machine.execSlChangeClearForces acc s
  | .slVerifyDone => Sys2Proof.Machine.execSlVerifyDone s
  | .forceTableWrite acc d => Sys2Proof.Machine.execForceTableWrite acc d s
  | .stnReadmitWrite acc v => Sys2Proof.Machine.execStnReadmitWrite acc v s
  | .modeReqWrite acc d => Sys2Proof.Machine.execModeReqWrite acc d s
  | .stationOut port frame fend => Sys2Proof.Machine.execStationOut port frame fend s
  | .stationResponse port frame fend => Sys2Proof.Machine.execStationResponse port frame fend s
  | .stnTimeout => Sys2Proof.Machine.execStnTimeout s
  | .safeCmdConfig acc => Sys2Proof.Machine.execSafeCmdConfig acc s
  | .safeCmdVerify acc => Sys2Proof.Machine.execSafeCmdVerify acc s
  | .safeCrcCheck => Sys2Proof.Machine.execSafeCrcCheck s
  | .planeMismatch => Sys2Proof.Machine.execPlaneMismatch s
  | .siSample levels netHigh => Sys2Proof.Machine.execSiSample levels netHigh s
  | .soTestPulse out => Sys2Proof.Machine.execSoTestPulse out s
  | .soTestPulseEnd out => Sys2Proof.Machine.execSoTestPulseEnd out s
  | .soReadbackSample out level netHigh => Sys2Proof.Machine.execSoReadbackSample out level netHigh s
  | .safeMessage src netHigh => Sys2Proof.Machine.execSafeMessage src netHigh s
  | .safeTxTimer conn => Sys2Proof.Machine.execSafeTxTimer conn s
  | .safeWatchdogTimeout conn => Sys2Proof.Machine.execSafeWatchdogTimeout conn s
  | .safePathLoss conn path => Sys2Proof.Machine.execSafePathLoss conn path s
  | .curtainLiftDelay ring => Sys2Proof.Machine.execCurtainLiftDelay ring s
  | .curtainUnexpEnd port netHigh => Sys2Proof.Machine.execCurtainUnexpEnd port netHigh s
  | .safeTestWrite acc d => Sys2Proof.Machine.execSafeTestWrite acc d s
  | .safeTestEnd => Sys2Proof.Machine.execSafeTestEnd s
  | .faultPinAssert pins => Sys2Proof.Machine.execFaultPinAssert pins s
  | .faultPinRelease source inst => Sys2Proof.Machine.execFaultPinRelease source inst s
  | .faultQuietExpiry source => Sys2Proof.Machine.execFaultQuietExpiry source s
  | .faultForgiveExpiry source => Sys2Proof.Machine.execFaultForgiveExpiry source s
  | .fltCmdEmpty via => Sys2Proof.Machine.execFltCmdEmpty via s
  | .fltCmdClearLatched via => Sys2Proof.Machine.execFltCmdClearLatched via s
  | .fltCmdRelease via => Sys2Proof.Machine.execFltCmdRelease via s
  | .fltFstatClear acc word mask => Sys2Proof.Machine.execFltFstatClear acc word mask s
  | .faultCollectorReset => Sys2Proof.Machine.execFaultCollectorReset s
  | .collectorSelfCheck which => Sys2Proof.Machine.execCollectorSelfCheck which s
  | .fenceCmdFence acc port hop => Sys2Proof.Machine.execFenceCmdFence acc port hop s
  | .fenceCmdUnfence acc port hop => Sys2Proof.Machine.execFenceCmdUnfence acc port hop s
  | .lossDetected => Sys2Proof.Machine.execLossDetected s
  | .takeoverCmd acc => Sys2Proof.Machine.execTakeoverCmd acc s
  | .irqSourceEvent source => Sys2Proof.Machine.execIrqSourceEvent source s
  | .irqPendWrite acc word v => Sys2Proof.Machine.execIrqPendWrite acc word v s
  | .irqEnWrite acc word v => Sys2Proof.Machine.execIrqEnWrite acc word v s
  | .irqSetWrite acc word v => Sys2Proof.Machine.execIrqSetWrite acc word v s
  | .irqClrWrite acc word v => Sys2Proof.Machine.execIrqClrWrite acc word v s
  | .irqEnsetWrite acc word v => Sys2Proof.Machine.execIrqEnsetWrite acc word v s
  | .irqEnclrWrite acc word v => Sys2Proof.Machine.execIrqEnclrWrite acc word v s
  | .irqRouteWrite acc group v => Sys2Proof.Machine.execIrqRouteWrite acc group v s
  | .irqTctlSleep acc on => Sys2Proof.Machine.execIrqTctlSleep acc on s
  | .targetSleepChange target asleep => Sys2Proof.Machine.execTargetSleepChange target asleep s
  | .groupDelivery target => Sys2Proof.Machine.execGroupDelivery target s
  | .irqCoalTimeout group => Sys2Proof.Machine.execIrqCoalTimeout group s
  | .irqHoldoffExpiry group => Sys2Proof.Machine.execIrqHoldoffExpiry group s
  | .irqClaim acc => Sys2Proof.Machine.execIrqClaim acc s
  | .irqEoi acc group => Sys2Proof.Machine.execIrqEoi acc group s
  | .irqVlogCmdClear acc => Sys2Proof.Machine.execIrqVlogCmdClear acc s
  | .dspPushDirect acc flow tag a b => Sys2Proof.Machine.execDspPushDirect acc flow tag a b s
  | .dspPushOperand acc flow slot tag a => Sys2Proof.Machine.execDspPushOperand acc flow slot tag a s
  | .dspPushDelay acc flow list tag a b time => Sys2Proof.Machine.execDspPushDelay acc flow list tag a b time s
  | .dspPop acc queue => Sys2Proof.Machine.execDspPop acc queue s
  | .dspDone acc flow => Sys2Proof.Machine.execDspDone acc flow s
  | .dspCmdReturn acc => Sys2Proof.Machine.execDspCmdReturn acc s
  | .dspCmdDiscard acc => Sys2Proof.Machine.execDspCmdDiscard acc s
  | .dspCmdPurge acc => Sys2Proof.Machine.execDspCmdPurge acc s
  | .delayListRelease => Sys2Proof.Machine.execDelayListRelease s
  | .dspQdepthRead acc queue => Sys2Proof.Machine.execDspQdepthRead acc queue s
  | .dspQwaitRead acc queue => Sys2Proof.Machine.execDspQwaitRead acc queue s
  | .dspMstatRead acc => Sys2Proof.Machine.execDspMstatRead acc s
  | .dspLstatRead acc list => Sys2Proof.Machine.execDspLstatRead acc list s
  | .objCmdRead path => Sys2Proof.Machine.execObjCmdRead path s
  | .objCmdWrite path => Sys2Proof.Machine.execObjCmdWrite path s
  | .objectWrite acc key data => Sys2Proof.Machine.execObjectWrite acc key data s
  | .qspiRead seat addr count => Sys2Proof.Machine.execQspiRead seat addr count s
  | .qspiWrite seat addr words => Sys2Proof.Machine.execQspiWrite seat addr words s
  | .qspiStatus seat => Sys2Proof.Machine.execQspiStatus seat s
  | .qspiCut seat opcode addr count words => Sys2Proof.Machine.execQspiCut seat opcode addr count words s
  | .pcieRequest bar2 write off len be value poison => Sys2Proof.Machine.execPcieRequest bar2 write off len be value poison s
  | .pcieLinkReset => Sys2Proof.Machine.execPcieLinkReset s
  | .perstN high => Sys2Proof.Machine.execPerstN high s
  | .hopOpen ip port frame => Sys2Proof.Machine.execHopOpen ip port frame s
  | .hopClose ip port frame => Sys2Proof.Machine.execHopClose ip port frame s
  | .hopKeepalive ip port frame => Sys2Proof.Machine.execHopKeepalive ip port frame s
  | .hopRead ip port frame => Sys2Proof.Machine.execHopRead ip port frame s
  | .hopWrite ip port frame => Sys2Proof.Machine.execHopWrite ip port frame s
  | .hopSubscribe ip port frame => Sys2Proof.Machine.execHopSubscribe ip port frame s
  | .hopSessionTimeout session => Sys2Proof.Machine.execHopSessionTimeout session s
  | .hopStreamFlush stream => Sys2Proof.Machine.execHopStreamFlush stream s
  | .arpRequest port target asker => Sys2Proof.Machine.execArpRequest port target asker s
  | .icmpEcho port echo => Sys2Proof.Machine.execIcmpEcho port echo s
  | .tokenRequest via => Sys2Proof.Machine.execTokenRequest via s
  | .tokenRelease via => Sys2Proof.Machine.execTokenRelease via s
  | .tokenForceCmd via => Sys2Proof.Machine.execTokenForceCmd via s
  | .tokenRenew via => Sys2Proof.Machine.execTokenRenew via s
  | .tokenWithdraw via => Sys2Proof.Machine.execTokenWithdraw via s
  | .tokenLeaseExpiry => Sys2Proof.Machine.execTokenLeaseExpiry s
  | .cellObjRequest port frame fend => Sys2Proof.Machine.execCellObjRequest port frame fend s
  | .cellObjResponse port frame fend => Sys2Proof.Machine.execCellObjResponse port frame fend s
  | .cellObjTimeout id => Sys2Proof.Machine.execCellObjTimeout id s
  | .storeCmdStore acc => Sys2Proof.Machine.execStoreCmdStore acc s
  | .storeCmdDefaults acc => Sys2Proof.Machine.execStoreCmdDefaults acc s
  | .storeCmdReload acc => Sys2Proof.Machine.execStoreCmdReload acc s
  | .storeDone failed => Sys2Proof.Machine.execStoreDone failed s
  | .seatVlogCmdClear acc => Sys2Proof.Machine.execSeatVlogCmdClear acc s
  | .scrubRead => Sys2Proof.Machine.execScrubRead s
  | .memInjWrite acc v => Sys2Proof.Machine.execMemInjWrite acc v s
  | .updDataWrite acc d => Sys2Proof.Machine.execUpdDataWrite acc d s
  | .stagingProgrammed failed => Sys2Proof.Machine.execStagingProgrammed failed s
  | .updVerifyDone bad => Sys2Proof.Machine.execUpdVerifyDone bad s
  | .updCmdArm acc => Sys2Proof.Machine.execUpdCmdArm acc s
  | .updCmdRestart acc => Sys2Proof.Machine.execUpdCmdRestart acc s
  | .updCmdConfirm acc => Sys2Proof.Machine.execUpdCmdConfirm acc s
  | .updCmdAbort acc => Sys2Proof.Machine.execUpdCmdAbort acc s
  | .passCmd acc mask => Sys2Proof.Machine.execPassCmd acc mask s
  | .passChunk port frame fend => Sys2Proof.Machine.execPassChunk port frame fend s
  | .passAck port frame fend => Sys2Proof.Machine.execPassAck port frame fend s
  | .passAbort port frame fend => Sys2Proof.Machine.execPassAbort port frame fend s
  | .passResend port far => Sys2Proof.Machine.execPassResend port far s
  | .registerWrite path addr value mask => Sys2Proof.Machine.execRegisterWrite path addr value mask s
  | .checkerLock lane bits => Sys2Proof.Machine.execCheckerLock lane bits s
  | .networkLinkChange port up => Sys2Proof.Machine.execNetworkLinkChange port up s
  | .startPhaseEnd => Sys2Proof.Machine.execStartPhaseEnd s
  | .supplyWindowComparator input outside netHigh => Sys2Proof.Machine.execSupplyWindowComparator input outside netHigh s
  | .carrierDutyEdge => Sys2Proof.Machine.execCarrierDutyEdge s
  | .qspiUnknown seat opcode => Sys2Proof.Machine.execQspiUnknown seat opcode s
  | .memorySymbolError word errs => Sys2Proof.Machine.execMemorySymbolError word errs s
  | .netDroppedFrame port => Sys2Proof.Machine.execNetDroppedFrame port s

end Sys2Proof.Machine
end

