-- ==== Sys2Proof/Machine/Idle.lean ====
section
/-! DEFINITION. What an empty queue does: one SYS cycle passes. -/

namespace Sys2Proof.Machine

namespace State

/-- One SYS cycle (2 ns) passes while the part runs: the loop channels that have started execute (R250) and the
transmitters start what they may (R108). A sequence cycle that executes goes on with its next instruction instead, of one or
two SYS cycles (R320). DESIGN CHOICE (notes/assumptions/1.md): the table has no command for the passing of time. -/
def idle (s : State) : State :=
  if !s.running then s
  else if s.activeHead && s.sl.busy then s.slRunOne
  else (((s.elapse 16).groupsNow).pumpPorts).pumpLinks

end State

end Sys2Proof.Machine
end

