-- ==== Sys2Proof/Safety.lean ====
section
/-! DEFINITION. What counts as a safe run: no stop, every gate ball low while the part does not work, and no ball high
against a forced-safe cause. Then the parts of the state, by which the frames are said. -/

namespace Sys2Proof.Machine

/-- The state after a step, none where the machine stops. -/
def nextOf (s : State) : Option State :=
  match step s with
  | .next t => some t
  | _ => none

/-- The state after n steps, none where the machine stops before. -/
def runFor : Nat → State → Option State
  | 0, s => some s
  | n + 1, s => (nextOf s).bind (runFor n)

/-- Every gate ball is low (R192). -/
def State.gatesLow (s : State) : Bool := s.pwm.level % 256 == 0

/-- No gate ball is high that the present forced-safe causes hold (R207). -/
def State.gatesHeld (s : State) : Bool := s.pwm.level &&& s.forcedNow == 0

/-- A state is safe: gates low while the blocks do not work, and never high against a cause. -/
def State.safe (s : State) : Prop := (s.working = false → s.gatesLow = true) ∧ s.gatesHeld = true

/-- A run is safe for n steps: it does not stop and each of its states is safe. -/
def SafeRun : Nat → State → Prop
  | 0, s => s.safe
  | n + 1, s => s.safe ∧ ∃ t, step s = .next t ∧ SafeRun n t

/-! ### The parts of the state -/

/-- The parts of the machine's state, the waiting queue apart. -/
inductive Part
  | objs
  | doms
  | regs
  | pw
  | tm
  | flt
  | irq
  | dsp
  | seat
  | ring
  | xl
  | pair
  | pwm
  | bat
  | adc
  | loop
  | cap
  | sl
  | saf
  | mod
  | work
  | mem
  | tap
  | freeCtr
  | out
  deriving DecidableEq, Repr

/-- A part holds the same in two states. -/
def Part.same : Part → State → State → Prop
  | .objs, s, t => t.objs = s.objs
  | .doms, s, t => t.doms = s.doms
  | .regs, s, t => t.regs = s.regs
  | .pw, s, t => t.pw = s.pw
  | .tm, s, t => t.tm = s.tm
  | .flt, s, t => t.flt = s.flt
  | .irq, s, t => t.irq = s.irq
  | .dsp, s, t => t.dsp = s.dsp
  | .seat, s, t => t.seat = s.seat
  | .ring, s, t => t.ring = s.ring
  | .xl, s, t => t.xl = s.xl
  | .pair, s, t => t.pair = s.pair
  | .pwm, s, t => t.pwm = s.pwm
  | .bat, s, t => t.bat = s.bat
  | .adc, s, t => t.adc = s.adc
  | .loop, s, t => t.loop = s.loop
  | .cap, s, t => t.cap = s.cap
  | .sl, s, t => t.sl = s.sl
  | .saf, s, t => t.saf = s.saf
  | .mod, s, t => t.mod = s.mod
  | .work, s, t => t.work = s.work
  | .mem, s, t => t.mem = s.mem
  | .tap, s, t => t.tap = s.tap
  | .freeCtr, s, t => t.freeCtr = s.freeCtr
  | .out, s, t => t.out = s.out

end Sys2Proof.Machine
end

