-- ==== Sys2Proof/Certificates/Slice0/Obligations.lean ====
section
/-! DEFINITION. The statements for the provers. Most name a family of commands and say, command by command, in which
states and with which operands it completes and what the next state is; the others state rules of the spec, the frames
of the families, and what every step keeps. -/

namespace Sys2Proof.Machine

/-! ### Words the statements use -/

/-- The access tests let `acc` write `n` bytes to object `k` (R440, R394). -/
abbrev Admits (s : State) (acc : Accessor) (k n : Nat) : Prop :=
  s.running = true ∧ s.accPresent acc = true ∧ s.writeTests acc k n = 0 ∧ s.mirrorFull acc k = false
/-- Command `c`, which writes value `v` to object `k` by `acc`, leaves state `t` with the write accepted. -/
def Takes (c : Instr) (s : State) (acc : Accessor) (k v : Nat) (t : State) : Prop :=
  v < 2 ^ (8 * Dict.width k) → Admits s acc k (Dict.width k) →
    exec c s = .next (t.accepted acc k (leBytes (Dict.width k) v))
/-- Command `c`, which writes value `v` to object `k` by `acc`, changes nothing and is answered `code`, the mirror queue
full or not. -/
def Refuses (c : Instr) (s : State) (acc : Accessor) (k v code : Nat) : Prop :=
  v < 2 ^ (8 * Dict.width k) → s.running = true → s.accPresent acc = true → s.writeTests acc k (Dict.width k) = 0 →
    exec c s = .next (s.answer acc k code true)
/-- Command `c`, which writes bytes `d` to object `k` by `acc`, leaves state `t` with the write accepted. -/
def TakesBytes (c : Instr) (s : State) (acc : Accessor) (k : Nat) (d : Bytes) (t : State) : Prop :=
  Admits s acc k d.length → exec c s = .next (t.accepted acc k d)
/-- The access tests let `acc` read object `k` of a row on in the role (R440). -/
def Serves (s : State) (acc : Accessor) (k : Nat) : Prop :=
  s.running = true ∧ s.accPresent acc = true ∧ s.pw.faultHold = false ∧
    ∃ r, Dict.lookup k = some r ∧ s.rowPresent r = true ∧ State.rights r acc ≠ .no
/-- A frame of TYPE `ty` passes the reception tests of ring port `p` for this node (R97 to R115); `r` is the reception. -/
abbrev Received (s : State) (p : Nat) (f : Bytes) (e : FrameEnd) (ty : Nat) (fw : Bool) (r : State.Rx) : Prop :=
  rd f 0 1 = ty ∧ r = s.rxRing p f e fw ∧ r.act = true ∧ r.hdr.ty = ty ∧ (r.fcrc = true ∨ ty = 0x10)
/-- A frame of TYPE `ty` passes the reception tests of lane `lane` of cross-link `l` (R126, R127, R142). -/
abbrev XlReceived (s : State) (l lane : Nat) (f : Bytes) (e : FrameEnd) (ty : Nat) (r : XlRx) : Prop :=
  r = s.rxXl l lane f e ∧ r.act = true ∧ r.ty = ty
/-- A HOP datagram of TYPE `ty` is taken, as `g` without its PRP trailer and in state `t`, and passes the tests of R450 and R452;
`ty` 0x01 needs no open session. -/
abbrev HopServed (s : State) (ip : Nat) (f g : Bytes) (t : State) (ty : Nat) : Prop :=
  s.running = true ∧ s.isHead = true ∧ s.seat.netUp ≠ 0 ∧ s.prpTake ip f = (some g, t) ∧ t.hopAllowed ip = true ∧
  20 ≤ g.length ∧ rd g 0 2 = 0x4851 ∧ rd g 2 1 = 1 ∧ rd g (g.length - 4) 4 = crc32 (g.take (g.length - 4)) ∧
  rd g 6 2 + 20 = g.length ∧ rd g 3 1 = ty ∧ (ty = 1 ∨ (t.hopSession (rd g 4 2)).isSome = true)
/-- The canonical form of the stores: rising keys, and no entry equal to what an unlisted key reads as. -/
abbrev Canonical (s : State) : Prop :=
  Kv.wf Dict.dflt s.objs = true ∧ Kv.wf Dict.domDflt s.doms = true ∧ Kv.wf regReset s.regs = true

/-- Every part. -/
def allParts : List Part :=
  [.objs, .doms, .regs, .pw, .tm, .flt, .irq, .dsp, .seat, .ring, .xl, .pair, .pwm, .bat, .adc, .loop, .cap, .sl,
   .saf, .mod, .work, .mem, .tap, .freeCtr, .out]
/-- The parts of the state that a command may change: the widest set over all its operands and states. -/
def touched : Instr → List Part
  | .faultPinRelease .. | .fltFstatClear .. =>
    [.flt]
  | .irqSourceEvent .. | .irqPendWrite .. | .irqSetWrite .. | .irqClrWrite .. | .irqEnsetWrite .. | .irqEnclrWrite ..
  | .irqTctlSleep .. | .targetSleepChange .. =>
    [.irq]
  | .passResend .. =>
    [.mem]
  | .netDroppedFrame .. =>
    [.objs]
  | .pdelayReq .. | .offerTimer .. | .icmpEcho .. =>
    [.out]
  | .internalResetRelease .. | .roleSample .. | .roleResampleTimer .. | .thermalRelease .. | .aonTrim ..
  | .debugResume .. =>
    [.pw]
  | .memorySymbolError .. =>
    [.work]
  | .adcResultRead .. =>
    [.adc, .out]
  | .dspQdepthRead .. | .dspQwaitRead .. | .dspMstatRead .. | .dspLstatRead .. =>
    [.dsp, .out]
  | .pcieLinkReset .. | .networkLinkChange .. =>
    [.irq, .seat]
  | .arpRequest .. =>
    [.objs, .out]
  | .aux33CurrentLimit .. =>
    [.pw, .irq]
  | .rngPerrRead .. | .rngPbitsRead .. | .xlTrnErrRead .. | .xlPerrRead .. | .xlPbitsRead .. =>
    [.regs, .out]
  | .signalDetect .. | .trainStart .. | .laneSilenceEnd .. =>
    [.ring, .out]
  | .qspiStatus .. =>
    [.seat, .out]
  | .captureHoldoffExpiry .. =>
    [.tm, .cap]
  | .faultForgiveExpiry .. =>
    [.tm, .flt]
  | .startPhaseEnd .. =>
    [.tm, .irq]
  | .soTestPulse .. | .soTestPulseEnd .. =>
    [.tm, .saf]
  | .captureTrigger .. =>
    [.irq, .cap, .work]
  | .timeFrameTimeout .. | .ptpAnnounce .. | .syncEdge .. | .syncMiss .. =>
    [.objs, .tm, .irq]
  | .pwmClockGood .. =>
    [.pw, .flt, .irq]
  | .adcSwstart .. =>
    [.regs, .irq, .adc]
  | .perstN .. =>
    [.regs, .irq, .seat]
  | .portEnable .. | .rngInjGo .. =>
    [.regs, .ring, .out]
  | .xlAlignDone .. | .helloTimer .. | .xlInjGo .. =>
    [.regs, .xl, .out]
  | .refReadyTimer .. =>
    [.tm, .irq, .adc]
  | .hopSessionTimeout .. | .tokenLeaseExpiry .. =>
    [.tm, .irq, .seat]
  | .xlClockPresent .. =>
    [.tm, .xl, .out]
  | .slVerifyDone .. =>
    [.doms, .irq, .pair, .sl]
  | .stnTimeout .. =>
    [.objs, .pwm, .sl, .out]
  | .pwmHoldWrite .. =>
    [.objs, .regs, .irq, .pwm]
  | .socRestReset .. =>
    [.objs, .tm, .irq, .bat]
  | .announceTimeout .. =>
    [.objs, .tm, .irq, .loop]
  | .carrierDutyEdge .. =>
    [.objs, .tm, .pwm, .out]
  | .rejoinHoldExpiry .. =>
    [.regs, .flt, .xl, .out]
  | .checkerLock .. =>
    [.regs, .irq, .ring, .out]
  | .faultQuietExpiry .. =>
    [.regs, .tm, .flt, .irq]
  | .seqTimer .. | .entrySample .. =>
    [.regs, .tm, .irq, .adc]
  | .healthTimeout .. | .faultPinAssert .. | .collectorSelfCheck .. =>
    [.regs, .flt, .irq, .cap, .work]
  | .safePathLoss .. =>
    [.regs, .flt, .irq, .cap, .saf, .work]
  | .healHoldExpiry .. =>
    [.regs, .flt, .irq, .ring, .cap, .work]
  | .capqRdWrite .. | .qspiUnknown .. =>
    [.regs, .flt, .irq, .seat, .cap, .work]
  | .delayListRelease .. =>
    [.regs, .tm, .irq, .dsp, .work, .freeCtr]
  | .delayLineCal .. =>
    [.objs, .regs, .flt, .irq, .pwm, .cap, .work]
  | .captureEdge .. =>
    [.objs, .regs, .tm, .irq, .adc, .cap, .work]
  | .ptpSync .. =>
    [.objs, .tm, .irq, .dsp, .loop, .freeCtr, .out]
  | .hopOpen .. | .hopClose .. | .hopKeepalive .. | .hopSubscribe .. =>
    [.regs, .flt, .irq, .seat, .cap, .work, .out]
  | .xlEnable .. | .xlTest .. =>
    [.regs, .flt, .irq, .xl, .cap, .work, .out]
  | .groupDelivery .. =>
    [.regs, .irq, .dsp, .seat, .work, .freeCtr, .out]
  | .debugHalt .. =>
    [.regs, .pw, .irq, .pwm, .bat, .loop, .out]
  | .calDone .. =>
    [.regs, .tm, .flt, .irq, .adc, .cap, .work]
  | .curtainLiftDelay .. =>
    [.regs, .tm, .ring, .xl, .cap, .saf, .out]
  | .refRestored .. =>
    [.objs, .pw, .tm, .flt, .irq, .ring, .xl, .out]
  | .reportTrain .. =>
    [.objs, .regs, .flt, .irq, .ring, .cap, .work, .out]
  | .snapLate .. =>
    [.objs, .regs, .flt, .irq, .xl, .pair, .cap, .work]
  | .firmwareStart .. | .updVerifyDone .. =>
    [.objs, .regs, .pw, .flt, .irq, .cap, .work, .mem]
  | .scrubRead .. =>
    [.objs, .regs, .tm, .flt, .irq, .cap, .work, .freeCtr]
  | .cellObjTimeout .. =>
    [.regs, .pw, .flt, .irq, .seat, .cap, .work, .out]
  | .irqCoalTimeout .. | .irqHoldoffExpiry .. =>
    [.regs, .tm, .irq, .dsp, .seat, .work, .freeCtr, .out]
  | .safeTxTimer .. =>
    [.regs, .tm, .ring, .xl, .cap, .saf, .freeCtr, .out]
  | .standingPartnerTimeout .. =>
    [.objs, .pw, .tm, .flt, .irq, .seat, .ring, .pair, .out]
  | .enumReturn .. | .rateCapFrame .. | .curtainLiftFrame .. | .frameForward .. | .reportRecord .. | .linkFrame ..
  | .xlLaneLoss .. | .xlLinkDown .. | .peerFrame .. | .curtainSetXl0 .. | .relRep .. =>
    [.objs, .regs, .flt, .irq, .ring, .xl, .cap, .work, .out]
  | .stagingProgrammed .. =>
    [.objs, .regs, .pw, .flt, .irq, .cap, .work, .mem, .freeCtr]
  | .portTest .. | .linkDown .. =>
    [.objs, .regs, .pw, .flt, .irq, .ring, .cap, .work, .out]
  | .storeDone .. =>
    [.objs, .regs, .pw, .flt, .irq, .seat, .cap, .work, .mem]
  | .stbyIdleExpiry .. =>
    [.pw, .tm, .irq, .ring, .xl, .pwm, .bat, .saf, .out]
  | .tripActive .. | .tripInactive .. | .bypassSense .. =>
    [.regs, .flt, .irq, .pwm, .bat, .loop, .cap, .work, .out]
  | .curtainSymbol .. =>
    [.regs, .irq, .ring, .pwm, .bat, .loop, .cap, .work, .out]
  | .resultObjectRead .. =>
    [.regs, .pw, .flt, .irq, .seat, .adc, .cap, .work, .out]
  | .capCmdStart .. | .capCmdStop .. | .capCmdArm .. | .capCmdForce .. | .winReleaseWrite .. | .fenceCmdFence ..
  | .fenceCmdUnfence .. | .takeoverCmd .. | .irqEnWrite .. | .irqEoi .. | .irqVlogCmdClear .. | .seatVlogCmdClear ..
  | .memInjWrite .. =>
    [.regs, .pw, .flt, .irq, .seat, .pair, .cap, .work, .out]
  | .trainingEnd .. =>
    [.regs, .tm, .flt, .irq, .ring, .xl, .cap, .work, .out]
  | .batterySample .. =>
    [.objs, .regs, .flt, .irq, .pwm, .bat, .loop, .cap, .work, .out]
  | .stationResponse .. =>
    [.objs, .regs, .flt, .irq, .ring, .xl, .cap, .sl, .work, .out]
  | .captureFrame .. =>
    [.objs, .regs, .flt, .irq, .ring, .xl, .cap, .work, .freeCtr, .out]
  | .passAck .. =>
    [.objs, .regs, .flt, .irq, .ring, .xl, .cap, .work, .mem, .out]
  | .relDn .. | .healthFrame .. =>
    [.objs, .regs, .flt, .irq, .ring, .xl, .pair, .cap, .work, .out]
  | .auxEnWrite .. | .modModeWrite .. | .irqRouteWrite .. =>
    [.objs, .regs, .pw, .flt, .irq, .seat, .pair, .cap, .work, .out]
  | .entryRead .. =>
    [.objs, .regs, .pw, .tm, .flt, .irq, .seat, .cap, .work, .out]
  | .loopGroupStart .. =>
    [.objs, .regs, .tm, .flt, .irq, .pwm, .bat, .loop, .cap, .work]
  | .probeFrame .. | .reAnchorFrame .. =>
    [.objs, .regs, .tm, .flt, .irq, .ring, .xl, .cap, .work, .out]
  | .hopStreamFlush .. =>
    [.objs, .regs, .tm, .flt, .irq, .seat, .cap, .work, .freeCtr, .out]
  | .laneMaskSymbol .. =>
    [.objs, .regs, .tm, .flt, .irq, .xl, .pair, .cap, .work, .out]
  | .irqClaim .. =>
    [.regs, .pw, .flt, .irq, .dsp, .seat, .cap, .work, .freeCtr, .out]
  | .dspDone .. | .dspCmdReturn .. | .dspCmdDiscard .. | .dspCmdPurge .. =>
    [.regs, .pw, .flt, .irq, .dsp, .seat, .pair, .cap, .work, .out]
  | .pwmClockLoss .. =>
    [.regs, .pw, .flt, .irq, .pwm, .bat, .loop, .cap, .work, .out]
  | .seqCmdStart .. | .calCmd .. =>
    [.regs, .pw, .flt, .irq, .seat, .pair, .adc, .cap, .work, .out]
  | .socSetWrite .. =>
    [.regs, .pw, .flt, .irq, .seat, .pair, .bat, .cap, .work, .out]
  | .sortCmdWrite .. =>
    [.regs, .pw, .flt, .irq, .seat, .pair, .cap, .mod, .work, .out]
  | .slLoadWrite .. | .slChange .. | .slChangeClearForces .. | .stnReadmitWrite .. =>
    [.regs, .pw, .flt, .irq, .seat, .pair, .cap, .sl, .work, .out]
  | .updDataWrite .. =>
    [.regs, .pw, .flt, .irq, .seat, .pair, .cap, .work, .mem, .out]
  | .intSetWrite .. =>
    [.regs, .pw, .flt, .irq, .seat, .pair, .loop, .cap, .work, .out]
  | .tripClr .. | .bypCmd .. =>
    [.regs, .pw, .flt, .irq, .seat, .pair, .pwm, .cap, .work, .out]
  | .tb1CmdReanchor .. =>
    [.regs, .pw, .tm, .flt, .irq, .seat, .pair, .cap, .work, .out]
  | .safeTestWrite .. =>
    [.doms, .regs, .pw, .flt, .irq, .seat, .pair, .cap, .saf, .work, .out]
  | .slCmdRun .. | .slCmdStop .. | .slCmdRevert .. | .forceTableWrite .. | .modeReqWrite .. =>
    [.doms, .regs, .pw, .flt, .irq, .seat, .pair, .cap, .sl, .work, .out]
  | .qspiRead .. =>
    [.objs, .regs, .flt, .irq, .dsp, .seat, .adc, .cap, .work, .freeCtr, .out]
  | .backgroundWindow .. =>
    [.objs, .regs, .flt, .irq, .ring, .xl, .cap, .work, .mem, .freeCtr, .out]
  | .dspPop .. =>
    [.objs, .regs, .pw, .flt, .irq, .dsp, .seat, .cap, .work, .freeCtr, .out]
  | .passChunk .. | .passAbort .. =>
    [.objs, .regs, .pw, .flt, .irq, .ring, .xl, .cap, .work, .mem, .out]
  | .refEnWrite .. =>
    [.objs, .regs, .pw, .flt, .irq, .seat, .pair, .adc, .cap, .work, .out]
  | .keyGateWrite .. | .orderHoldWrite .. =>
    [.objs, .regs, .pw, .flt, .irq, .seat, .pair, .cap, .mod, .work, .out]
  | .slCuesWrite .. =>
    [.objs, .regs, .pw, .flt, .irq, .seat, .pair, .cap, .sl, .work, .out]
  | .injCmdStart .. | .injCmdStop .. =>
    [.objs, .regs, .pw, .flt, .irq, .seat, .pair, .loop, .cap, .work, .out]
  | .shadowPerWrite .. | .shadowDutyWrite .. =>
    [.objs, .regs, .pw, .flt, .irq, .seat, .pair, .pwm, .cap, .work, .out]
  | .ringArmWrite .. | .vlogCmdClear .. =>
    [.objs, .regs, .pw, .flt, .irq, .seat, .ring, .pair, .cap, .work, .out]
  | .cellObjResponse .. =>
    [.objs, .regs, .pw, .flt, .irq, .seat, .ring, .xl, .cap, .work, .out]
  | .xlVlogCmdClear .. =>
    [.objs, .regs, .pw, .flt, .irq, .seat, .xl, .pair, .cap, .work, .out]
  | .cuePeriodWrite .. | .syncModeWrite .. | .syncCmdReacquire .. | .tevtArm .. =>
    [.objs, .regs, .pw, .tm, .flt, .irq, .seat, .pair, .cap, .work, .out]
  | .captureBaseSample .. =>
    [.objs, .regs, .tm, .flt, .irq, .pwm, .bat, .loop, .cap, .work, .freeCtr]
  | .holdoverLimit .. | .eventEdge .. | .deadTimeEnd .. | .bypassPulseStart .. | .bypassPulseEnd ..
  | .bypassConfirmTimeout .. =>
    [.objs, .regs, .tm, .flt, .irq, .pwm, .bat, .loop, .cap, .work, .out]
  | .dspPushDirect .. | .dspPushOperand .. | .dspPushDelay .. =>
    [.regs, .pw, .flt, .irq, .dsp, .seat, .pair, .cap, .work, .freeCtr, .out]
  | .offerReceived .. =>
    [.regs, .pw, .flt, .irq, .ring, .pwm, .bat, .loop, .cap, .work, .out]
  | .tb3Write .. =>
    [.regs, .pw, .tm, .flt, .irq, .dsp, .seat, .pair, .cap, .work, .out]
  | .seqTableWrite .. =>
    [.objs, .doms, .regs, .pw, .flt, .irq, .seat, .pair, .adc, .cap, .work, .out]
  | .loopDescWrite .. | .loopGtabWrite .. | .gtabPokeWrite .. | .loopLimitWrite .. | .loopFlagsWrite .. =>
    [.objs, .doms, .regs, .pw, .flt, .irq, .seat, .pair, .loop, .cap, .work, .out]
  | .reAnchorWrite .. =>
    [.objs, .regs, .pw, .flt, .irq, .seat, .ring, .xl, .pair, .cap, .work, .out]
  | .timeFrame .. =>
    [.objs, .regs, .tm, .flt, .irq, .dsp, .ring, .xl, .cap, .work, .freeCtr, .out]
  | .slLdb .. | .slLdnb .. | .slAndb .. | .slAndnb .. | .slOrb .. | .slOrnb .. | .slStb .. | .slSetb .. | .slRstb ..
  | .slLd .. | .slSt .. | .slAdd .. | .slSub .. | .slMul .. | .slCmpgt .. | .slCmpeq .. | .slCmplt .. | .slFix ..
  | .slTon .. | .slRtrig .. | .slJmp .. | .slJmpc .. | .slJmpn .. | .slEnd .. | .slWrobj .. | .slMode ..
  | .slSack .. =>
    [.objs, .regs, .tm, .flt, .irq, .pair, .pwm, .bat, .loop, .cap, .sl, .work]
  | .carrierBoundary .. =>
    [.objs, .regs, .tm, .flt, .irq, .pwm, .bat, .adc, .loop, .cap, .work, .out]
  | .reportAssembly .. =>
    [.objs, .regs, .tm, .flt, .irq, .ring, .pwm, .bat, .adc, .loop, .cap, .work]
  | .reportLaunch .. | .trainGraceExpiry .. =>
    [.objs, .regs, .tm, .flt, .irq, .ring, .pwm, .bat, .loop, .cap, .work, .out]
  | .planeMismatch .. | .supplyWindowComparator .. =>
    [.regs, .flt, .irq, .ring, .xl, .pwm, .bat, .loop, .cap, .saf, .work, .out]
  | .passCmd .. =>
    [.regs, .pw, .flt, .irq, .seat, .ring, .xl, .pair, .cap, .work, .mem, .out]
  | .enumReenumerate .. | .enumCommission .. | .enumRemove .. =>
    [.doms, .regs, .pw, .flt, .irq, .seat, .ring, .xl, .pair, .cap, .mod, .work, .out]
  | .snapSlow .. =>
    [.objs, .doms, .regs, .flt, .irq, .ring, .xl, .pair, .cap, .sl, .mod, .work, .out]
  | .curtainRingEnd .. | .curtainSetPeer .. | .safeCrcCheck .. | .safeMessage .. =>
    [.objs, .regs, .flt, .irq, .ring, .xl, .pwm, .bat, .loop, .cap, .saf, .work, .out]
  | .refLoss .. | .enumFrame .. =>
    [.objs, .regs, .pw, .flt, .irq, .ring, .xl, .pwm, .bat, .loop, .cap, .work, .out]
  | .batModeWrite .. | .batTestWrite .. | .batCmdClear .. =>
    [.objs, .regs, .pw, .flt, .irq, .seat, .pair, .pwm, .bat, .loop, .cap, .work, .out]
  | .tevtFire .. =>
    [.objs, .regs, .tm, .flt, .irq, .pwm, .bat, .adc, .loop, .cap, .work, .freeCtr, .out]
  | .curtainSetTimeout .. | .siSample .. | .soReadbackSample .. | .safeWatchdogTimeout .. | .curtainUnexpEnd ..
  | .safeTestEnd .. =>
    [.regs, .tm, .flt, .irq, .ring, .xl, .pwm, .bat, .loop, .cap, .saf, .work, .out]
  | .helloReceived .. =>
    [.objs, .doms, .regs, .pw, .tm, .flt, .irq, .seat, .ring, .xl, .pair, .cap, .work, .out]
  | .sheetFrame .. =>
    [.objs, .regs, .tm, .flt, .irq, .seat, .ring, .xl, .pair, .pwm, .bat, .loop, .cap, .work, .out]
  | .computationEnd .. =>
    [.objs, .doms, .regs, .tm, .flt, .irq, .ring, .xl, .pair, .pwm, .bat, .loop, .cap, .work, .freeCtr, .out]
  | .safeCmdConfig .. | .safeCmdVerify .. =>
    [.objs, .regs, .pw, .flt, .irq, .seat, .ring, .xl, .pair, .pwm, .bat, .loop, .cap, .saf, .work, .out]
  | .computationStart .. =>
    [.objs, .doms, .regs, .tm, .flt, .irq, .ring, .xl, .pair, .pwm, .bat, .loop, .cap, .saf, .mod, .work, .out]
  | .resultWrite .. =>
    [.objs, .regs, .pw, .tm, .flt, .irq, .ring, .xl, .pwm, .bat, .adc, .loop, .cap, .saf, .work, .freeCtr, .out]
  | .relUp .. =>
    [.objs, .regs, .pw, .flt, .irq, .seat, .ring, .xl, .pwm, .bat, .loop, .cap, .sl, .saf, .work, .mem, .freeCtr,
     .out]
  | .lossDetected .. =>
    [.objs, .doms, .regs, .pw, .tm, .flt, .irq, .seat, .ring, .xl, .pair, .loop, .cap, .sl, .saf, .mod, .work,
     .freeCtr, .out]
  | .startUpComplete .. =>
    [.objs, .doms, .regs, .pw, .tm, .flt, .irq, .seat, .ring, .xl, .pair, .pwm, .bat, .adc, .loop, .cap, .sl, .saf,
     .work, .mem, .out]
  | .powerOnReset .. | .rstNReset .. | .watchdogReset .. | .softwareReset .. | .standbyRequest .. | .wakeEdge ..
  | .wakeTimerExpiry .. | .storageCheck .. | .uvloFall .. | .thermalLimit .. | .cueStart .. | .snapFast ..
  | .slCycleStart .. | .stationOut .. | .fltCmdEmpty .. | .fltCmdClearLatched .. | .fltCmdRelease ..
  | .faultCollectorReset .. | .objCmdRead .. | .objCmdWrite .. | .objectWrite .. | .qspiWrite .. | .qspiCut ..
  | .pcieRequest .. | .hopRead .. | .hopWrite .. | .tokenRequest .. | .tokenRelease .. | .tokenForceCmd ..
  | .tokenRenew .. | .tokenWithdraw .. | .cellObjRequest .. | .storeCmdStore .. | .storeCmdDefaults ..
  | .storeCmdReload .. | .updCmdArm .. | .updCmdRestart .. | .updCmdConfirm .. | .updCmdAbort ..
  | .registerWrite .. =>
    allParts

end Sys2Proof.Machine

section
open Sys2Proof Sys2Proof.Machine Sys2Proof.Machine.State


/-- A step with a command at the front of the queue is exec of that command on the state with the queue's rest. -/
def Obligations.AStepRunsTheFrontCommand : Prop := ∀ (c : Instr) (rest : List Instr) (s : State),
  step { s with pending := c :: rest } = exec c { s with pending := rest }

/-- On an empty queue the block idles: one SYS cycle passes while the part runs, or the running sequence cycle goes on with
its next instruction. The model's choice: the table has no row for the passing of time (log entry 1). -/
def Obligations.AnEmptyQueueLetsOneCyclePass : Prop := ∀ (s : State), s.pending = [] →
  (s.running = false → step s = .next s) ∧
  (s.running → s.activeHead = false ∨ s.sl.busy = false →
    step s = .next (((s.elapse 16).groupsNow).pumpPorts).pumpLinks) ∧
  (s.running → s.activeHead → s.sl.busy → step s = .next s.slRunOne)

/-- Every step keeps the canonical form of the object, block and register stores, and takes exactly the front command off
the queue. -/
def Obligations.EveryStepKeepsTheStoresCanonical : Prop := ∀ (s t : State), Canonical s → step s = .next t →
  Canonical t ∧ t.pending = s.pending.tail

/-- The stores are canonical after reset. -/
def Obligations.TheResetStoresAreCanonical : Prop := Canonical State.reset

/-- The frame of every command: the queue of the commands that wait behind it, and every part of the state the table
`touched` does not list for it, are as they were. -/
def Obligations.EveryCommandKeepsToItsParts : Prop := ∀ (c : Instr) (s t : State), exec c s = .next t →
  t.pending = s.pending ∧ ∀ p, p ∉ touched c → p.same s t

/-- Every command but the sequence logic instructions that name an operand goes on to a next state from every state. -/
def Obligations.OnlySequenceLogicOperandsStop : Prop := ∀ (c : Instr) (s : State),
  (∃ t, exec c s = .next t) ∨ (exec c s = .fault .noSuchOperand ∧ s.sl.busy = true ∧ s.activeHead = true)

/-- The stores read back: a written object, block or register holds its value, and every other one what it held, in states
whose stores are canonical. -/
def Obligations.AWrittenObjectReadsBack : Prop := ∀ (s : State) (k j : Nat), Canonical s →
  (∀ v, (s.oset k v).og j = if j = k then v else s.og j) ∧ (∀ d, (s.dset k d).dg j = if j = k then d else s.dg j) ∧
  (∀ v, (s.rset k v).rg j = if j = k then v else s.rg j)

/-- After a power-on reset no role is held, nothing is driven, the token is free, TB2 stands at 0, no hop number is held, no
command waits (R16, R74, R192, R456, R523). -/
def Obligations.TheStateAfterPowerOnReset : Prop := ∀ (s : State),
  State.reset.pw.role = none ∧ State.reset.gatesLow = true ∧ State.reset.seat.holder = none ∧ State.reset.seat.req = 0 ∧
  State.reset.tm.tb2 = 0 ∧ State.reset.ring.node.caddr = 0 ∧ State.reset.ring.node.orient = 0 ∧
  State.reset.ring.node.admitted = false ∧ State.reset.pending = [] ∧ State.reset.running = false ∧
  (s.resetPart 1 0).tm.tb2 = 0 ∧ (s.resetPart 1 0).pw.role = none

/-- Every reset leaves the gates low, forgets the hop number and the token, and is counted by its code; RESET_CAUSE
names it, or the highest code of those that meet in one SYS cycle; all but the power-on reset keep TB2, and those that do not sample ROLE keep the role (R16, R74, R192, R456, R505, R523). -/
def Obligations.WhatEveryResetLeaves : Prop := ∀ (s : State) (code cause : Nat),
  (s.resetPart code cause).gatesLow = true ∧ (s.resetPart code cause).ring.node.caddr = 0 ∧
  (s.resetPart code cause).ring.node.orient = 0 ∧ (s.resetPart code cause).ring.node.admitted = false ∧
  (s.resetPart code cause).seat.holder = none ∧ (s.resetPart code cause).pw.resetCause = s.causeAfter code ∧
  (s.resetPart code cause).pending = s.pending ∧ (code ≠ 1 → (s.resetPart code cause).tm.tb2 = s.tm.tb2) ∧
  (code ≠ 1 → code ≠ 2 → (s.resetPart code cause).pw.role = s.pw.role) ∧
  (s.resetPart code cause).mem.active = s.mem.active ∧ (s.resetPart code cause).mem.golden = s.mem.golden ∧
  (s.resetPart code cause).mem.paramA = s.mem.paramA ∧ (s.resetPart code cause).mem.paramB = s.mem.paramB ∧
  (s.resetPart code cause).mem.journal = s.mem.journal


/-- The access tests of a write answer with the first that fails: FAULT_HOLD, object known, present in the role, seat
column and the seat a capture stream is given to (R307), length, token; an UNDERSTUDY answers a seat 0x06 in place of 0x04. A write
that passes them all has 0, and its range and state are tested next (R440, in its order). -/
def Obligations.WriteTestsAnswerInOrder : Prop := ∀ (s : State) (a : Accessor) (k n : Nat),
  (s.pw.faultHold → State.servedInHold k = false → s.writeTests a k n = 0x0C) ∧
  (¬(s.pw.faultHold = true ∧ State.servedInHold k = false) → Dict.lookup k = none → s.writeTests a k n = 0x01) ∧
  (∀ r, ¬(s.pw.faultHold = true ∧ State.servedInHold k = false) → Dict.lookup k = some r → s.rowPresent r = false →
    s.writeTests a k n = 0x02) ∧
  (∀ r, ¬(s.pw.faultHold = true ∧ State.servedInHold k = false) → Dict.lookup k = some r → s.rowPresent r →
    State.rights r a ≠ .rw → s.writeTests a k n = 0x03) ∧
  (∀ r, ¬(s.pw.faultHold = true ∧ State.servedInHold k = false) → Dict.lookup k = some r → s.rowPresent r → s.capDenied a k →
    s.writeTests a k n = 0x03) ∧
  (∀ r, ¬(s.pw.faultHold = true ∧ State.servedInHold k = false) → Dict.lookup k = some r → s.rowPresent r →
    State.rights r a = .rw → s.capDenied a k = false → State.writeLenOk k r n = false → s.writeTests a k n = 0x07) ∧
  (∀ r q, ¬(s.pw.faultHold = true ∧ State.servedInHold k = false) → Dict.lookup k = some r → s.rowPresent r →
    State.rights r a = .rw → s.capDenied a k = false → State.writeLenOk k r n → r.ctl → State.accSeat a = some q → s.understudy →
    s.writeTests a k n = 0x06) ∧
  (∀ r, ¬(s.pw.faultHold = true ∧ State.servedInHold k = false) → Dict.lookup k = some r → s.rowPresent r →
    State.rights r a = .rw → s.capDenied a k = false → State.writeLenOk k r n → r.ctl → s.understudy = false →
    s.holdsToken a = false → s.writeTests a k n = 0x04) ∧
  (∀ r, ¬(s.pw.faultHold = true ∧ State.servedInHold k = false) → Dict.lookup k = some r → s.rowPresent r →
    State.rights r a = .rw → s.capDenied a k = false → State.writeLenOk k r n → (r.ctl → s.understudy = false ∧ s.holdsToken a) →
    s.writeTests a k n = 0)

/-- A write that a test stops is answered with the test's code and changes no object, block content or waiting command; nor
does the answer to any access (R440, R463). A write whose own tests pass is refused while the mirror queue is full, and counted
(R394). -/
def Obligations.RefusedWritesChangeNoObject : Prop := ∀ (s : State) (a : Accessor) (k : Nat) (d : Bytes),
  (s.running → s.accPresent a → s.writeTests a k d.length ≠ 0 →
    exec (.objectWrite a k d) s = .next (s.answer a k (s.writeTests a k d.length) true)) ∧
  (∀ t, s.running → s.accPresent a → s.writeTests a k d.length = 0 → s.mirrorFull a k → s.objHandler a k d = .ok t →
    exec (.objectWrite a k d) s = .next (State.writeAside a k d s ((s.answer a k 6 true).irqPost 23 4))) ∧
  (∀ c w, (s.answer a k c w).objs = s.objs ∧ (s.answer a k c w).doms = s.doms ∧ (s.answer a k c w).pending = s.pending ∧
    (s.answer a k c w).pwm = s.pwm ∧ (s.answer a k c w).ring = s.ring ∧ (s.answer a k c w).tm = s.tm) ∧
  ((s.accepted a k d).objs = s.objs ∧ (s.accepted a k d).doms = s.doms ∧ (s.accepted a k d).pwm = s.pwm ∧
    (s.accepted a k d).ring = s.ring ∧ (s.accepted a k d).tm = s.tm)

/-- R46: CUE_PERIOD takes even values from 10,000 to 200,000; an odd value or one outside is refused as out of range and the
period keeps its old value; a further even value is taken unless R28 refuses it. -/
def Obligations.CuePeriodRange : Prop := ∀ (s : State) (acc : Accessor) (v : Nat),
  v < 2 ^ 32 → Admits s acc Obj.cuePeriod 4 →
  (v % 2 = 1 ∨ v < 10000 ∨ 200000 < v → ∃ t, exec (.cuePeriodWrite acc v) s = .next t ∧
    t = s.answer acc Obj.cuePeriod 5 true ∧ t.og Obj.cuePeriod = s.og Obj.cuePeriod ∧ t.tm = s.tm) ∧
  (v % 2 = 0 → 10000 ≤ v → v ≤ 200000 → (∀ p ∈ s.ringPorts, (s.ringRec p).admitted → (s.ringRec p).foundAdm ≤ 48) →
    ∃ t : State, exec (.cuePeriodWrite acc v) s = .next (t.accepted acc Obj.cuePeriod (leBytes 4 v)) ∧
      t.objs = (s.oset Obj.cuePeriod v).objs ∧ ((s.tm.cue + 2) % 2 ^ 32, v) ∈ t.tm.periodNext)

/-- R28: a period below 20.000 µs is refused as not acceptable in the current state while any admitted ring holds more than
48 cells, and the period keeps its old value. -/
def Obligations.ShortPeriodsAreRefusedWithLongRings : Prop := ∀ (s : State) (acc : Accessor) (v p : Nat),
  v % 2 = 0 → 10000 ≤ v → v < 20000 → Admits s acc Obj.cuePeriod 4 → p ∈ s.ringPorts → (s.ringRec p).admitted →
  48 < (s.ringRec p).foundAdm → ∃ t, exec (.cuePeriodWrite acc v) s = .next t ∧ t = s.answer acc Obj.cuePeriod 6 true ∧
    t.og Obj.cuePeriod = s.og Obj.cuePeriod ∧ t.tm = s.tm

/-- R31: in DUAL_PAIRED mode a non-zero write of an odd port's RING_ARM entry is refused and the entry stays; 0x00 is
taken. -/
def Obligations.OddPortsHoldNoArmInDualPaired : Prop := ∀ (s : State) (acc : Accessor) (p v : Nat),
  s.pw.ringMode = 2 → p % 2 = 1 → p < 12 → v ≤ 2 → Admits s acc (Obj.ringArm p) (Dict.width (Obj.ringArm p)) →
  (v ≠ 0 → ∃ (t : State) (c : Nat), c ≠ 0 ∧ exec (.ringArmWrite acc p v) s = .next t ∧
    t = s.answer acc (Obj.ringArm p) c true ∧ t.og (Obj.ringArm p) = s.og (Obj.ringArm p)) ∧
  ((s.ringRec p).admitted = false → ∃ t, exec (.ringArmWrite acc p 0) s =
    .next (State.accepted acc (Obj.ringArm p) (leBytes (Dict.width (Obj.ringArm p)) 0) t) ∧
      t = (s.oset (Obj.ringArm p) 0).admissionTest p)

/-- R331: a change with the engine in STOP or HALTED switches the banks at once and starts nothing; the next SL_CMD 0x01
starts the new program at the cycle start that takes it. -/
def Obligations.AChangeInStopSwitchesAtOnce : Prop := ∀ (s t : State), s.sl.st ≠ .run → t = s.slArm →
  t.sl.act = 1 - s.sl.act ∧ t.sl.chg = .switched ∧ t.sl.st = s.sl.st ∧ t.sl.busy = s.sl.busy ∧
  (∀ u, u = (t.slSet fun w => { w with cmd := some 1 }).slCommand → u.sl.st = .run ∧ u.sl.act = 1 - s.sl.act ∧ u.sl.first = true)

/-- R411: a pending bit is set whether or not its source is enabled; only enabled pending sources count towards delivery and
enter a claim; enabling a source that is pending counts as one event. -/
def Obligations.PendingBitsAndEnables : Prop := ∀ (s : State) (g i : Nat), g < 32 → i < 8 →
  hasBit (s.irqEvent g i).irq.pend (8 * g + i) = true ∧
  (hasBit s.irq.en (8 * g + i) = false → (s.irqEvent g i).irq.groups = s.irq.groups) ∧
  (hasBit s.irq.en (8 * g + i) = true → ((s.irqEvent g i).grp g).count = min 255 ((s.grp g).count + 1)) ∧
  (hasBit (s.grpPending g) i = (hasBit s.irq.pend (8 * g + i) && hasBit s.irq.en (8 * g + i))) ∧
  (s.grpPending g = 0 → s.deliverable g = false) ∧
  (∀ t, (s.claimFor t).1 = 0 ∨ ∃ u h, u = s.arbitrate t ∧ (s.claimFor t).1 = claimWord (u.og (Obj.irqPrio h)) h (u.grpPending h)) ∧
  (hasBit s.irq.en (8 * g + i) = false → hasBit s.irq.pend (8 * g + i) = true → ∃ t : State, s.irqEnable (8 * g + i) =
    t.irqEvent g i ∧ t = { s with irq := { s.irq with en := setBit s.irq.en (8 * g + i) } })

/-- An IRQ_EOI completes a group that the writer's target holds: its in-service bits clear, its pending bits stay, and no
other group changes; any other one is ignored and logged as EOI_FOREIGN, code 1 (R422, R435). -/
def Obligations.CompletionClearsTheGroup : Prop := ∀ (s : State) (c : Fin 4) (g : Nat), s.regServed (.core c) →
  (g < 32 → (s.grp g).held = some c.val → ∃ t : State, exec (.irqEoi (.core c) g) s = .next t ∧ grpBits t.irq.insv g = 0 ∧
    t.irq.pend = s.irq.pend ∧ t.irq.en = s.irq.en ∧ (∀ h, h < 32 → h ≠ g → grpBits t.irq.insv h = grpBits s.irq.insv h) ∧
    t.objs = s.objs ∧ t.regs = s.regs ∧ t.flt = s.flt) ∧
  ((s.grp g).held ≠ some c.val → ∃ t : State, exec (.irqEoi (.core c) g) s = .next t ∧ t = s.irqLog 1 c.val g ∧
    t.irq.insv = s.irq.insv ∧ t.objs = s.objs)

/-- Arbitration picks, among the deliverable groups of a target whose PRIO lies below its running priority, the lowest PRIO
and then the lowest number (R420). -/
def Obligations.ArbitrationPicksTheLowestPriority : Prop := ∀ (s : State) (t : Nat),
  (s.winner t = none → ∀ g, g < 32 → s.deliverable g → s.effTarget g = some t → s.runPrio t ≤ s.og (Obj.irqPrio g)) ∧
  (∀ w, s.winner t = some w → w < 32 ∧ s.deliverable w = true ∧ s.effTarget w = some t ∧
    s.og (Obj.irqPrio w) < s.runPrio t ∧
    ∀ g, g < 32 → s.deliverable g → s.effTarget g = some t → s.og (Obj.irqPrio g) < s.runPrio t →
      s.og (Obj.irqPrio w) < s.og (Obj.irqPrio g) ∨ (s.og (Obj.irqPrio w) = s.og (Obj.irqPrio g) ∧ w ≤ g))

/-- The frames of the plain writes. The raw enable, disable, clear and pending writes of a core change nothing outside the
interrupt controller (R411 to R413); a write of a plain object changes no other object and no block
content, in states whose stores are canonical. -/
def Obligations.PlainWriteFrames : Prop := ∀ (s t : State),
  (∀ (c : Fin 4) (w : Fin 8) (v : Nat),
    (exec (.irqEnsetWrite (.core c) w v) s = .next t ∨ exec (.irqEnclrWrite (.core c) w v) s = .next t ∨
      exec (.irqClrWrite (.core c) w v) s = .next t ∨ exec (.irqSetWrite (.core c) w v) s = .next t ∨
      exec (.irqPendWrite (.core c) w v) s = .next t) →
    ∃ i, t = { s with irq := i } ∧ i.insv = s.irq.insv ∧ i.vlog = s.irq.vlog ∧ i.vcount = s.irq.vcount) ∧
  (Canonical s → ∀ acc (a : Fin 2) v j, j ≠ Obj.modMode a.val → exec (.modModeWrite acc a v) s = .next t →
    t.og j = s.og j ∧ t.doms = s.doms) ∧
  (Canonical s → ∀ acc (a : Fin 2) v j, j ≠ Obj.keyGate a.val → exec (.keyGateWrite acc a v) s = .next t →
    t.og j = s.og j ∧ t.doms = s.doms) ∧
  (Canonical s → ∀ acc (a : Fin 2) v j, j ≠ Obj.orderHold a.val → exec (.orderHoldWrite acc a v) s = .next t →
    t.og j = s.og j ∧ t.doms = s.doms) ∧
  (Canonical s → ∀ acc v j, j ≠ Obj.auxEn → exec (.auxEnWrite acc v) s = .next t → t.og j = s.og j ∧ t.doms = s.doms) ∧
  (Canonical s → ∀ acc v j, j ≠ Obj.cuePeriod → exec (.cuePeriodWrite acc v) s = .next t → t.og j = s.og j ∧ t.doms = s.doms) ∧
  (Canonical s → ∀ acc v j, j ≠ Obj.slCues → exec (.slCuesWrite acc v) s = .next t → t.og j = s.og j ∧ t.doms = s.doms)

/-- R467, R468: an error of one symbol is corrected, with the write-back, the count, the log, the pulse of source 13 and
source 0 of group 24; one of two symbols is detected and logged, and the read writes no word; what one of three or more does is open:
detected, corrected wrongly or unseen. -/
def Obligations.TheCodeCorrectsOneSymbolAndDetectsTwo : Prop := ∀ (s : State) (w agent : Nat) (x : State.WordRead),
  x = s.readWord w agent →
  (symsOf (s.wordErr w) = [] → x.lost = false ∧ x.diff = s.wordWrong w ∧ x.st = s) ∧
  (∀ i, symsOf (s.wordErr w) = [i] → x.lost = false ∧ x.diff = s.wordWrong w ∧
    x.st = ((((s.setWordErr w 0).bump Obj.memCorrCount).memLog w 1 i agent).pulse 13 0).irqPost 24 0) ∧
  (∀ i j, symsOf (s.wordErr w) = [i, j] → x.lost = true ∧ x.diff = Nat.xor (s.wordWrong w) (s.wordErr w) ∧
    x.st = (((s.bump Obj.memUncorrCount).memLog w 2 0xFF agent).pulse 12 0).irqPost 24 1) ∧
  (3 ≤ (symsOf (s.wordErr w)).length →
    (x.lost = true ∧ x.diff = Nat.xor (s.wordWrong w) (s.wordErr w) ∧ x.st = s.drawn.memUncorrectable w agent) ∨
    (x.lost = false ∧ x.diff = Nat.xor (s.wordWrong w) (s.wordErr w) ∧
      x.st = (s.drawn.setWordWrong w x.diff).setWordErr w 0) ∨
    (x.lost = false ∧ ∃ i, i < 36 ∧ x.st = (s.drawn.setWordWrong w x.diff).memCorrected w i agent))

/-- R471: MEM_INJ inverts all four bits of one or two named symbols of the stored word, once; the next read of the word finds
the error; it is refused with 0x06 in a HEAD that modulates on either arm and in an admitted CELL. -/
def Obligations.MemInjSpoilsNamedSymbols : Prop := ∀ (s : State) (acc : Accessor) (v a b w : Nat),
  v < 2 ^ 64 → a = fld v 29 24 → b = fld v 37 32 → w = fld v 21 0 → Admits s acc Obj.memInj 8 → a ≤ 35 →
  (b ≤ 35 ∨ b = 0x3F) → hasBit v 40 →
  ((s.isHead → s.og (Obj.modMode 0) = 0 ∧ s.og (Obj.modMode 1) = 0) → (s.isCell → s.ring.node.admitted = false) →
    s.wordErr w = 0 → ∃ t : State, exec (.memInjWrite acc v) s = .next (t.accepted acc Obj.memInj (leBytes 8 v)) ∧
      t.wordErr w = (if b = 0x3F ∨ b = a then 15 * 16 ^ a else 15 * 16 ^ a + 15 * 16 ^ b) ∧
      (∀ agent, (t.readWord w agent).lost = true ∨
        ((t.readWord w agent).lost = false ∧ (t.readWord w agent).diff = t.wordWrong w ∧
          (t.readWord w agent).st = t.memCorrected w a agent))) ∧
  ((s.isHead ∧ (s.og (Obj.modMode 0) ≠ 0 ∨ s.og (Obj.modMode 1) ≠ 0)) ∨ (s.isCell ∧ s.ring.node.admitted) →
    exec (.memInjWrite acc v) s = .next (s.answer acc Obj.memInj 6 true))

/-- R357: a pair of type 0x01 or 0x02 demands from the first sample at which either filtered state is demand, and stops at
the first sample at which both are no-demand, subject to the latch of R359. -/
def Obligations.PairsDemandOnEitherChannel : Prop := ∀ (p q : SiPair) (flt disc : Nat) (l1 l2 : Bool),
  p.ty = 1 ∨ p.ty = 2 → p.lat ≤ 2 → q = (p.sample flt disc l1 l2).1 →
  ((q.f1 = demandHigh p.ty 0 ∨ q.f2 = demandHigh p.ty 1) → q.dem = true) ∧
  (q.f1 ≠ demandHigh p.ty 0 → q.f2 ≠ demandHigh p.ty 1 → (q.dem = true ↔ p.lat = 1)) ∧
  (p.lat = 1 → q.lat = 1 ∨ (q.f1 = demandHigh p.ty 0 ∧ q.f2 = demandHigh p.ty 1 ∧ q.lat = 2)) ∧ q.ty = p.ty

/-- A latched trip stays latched until a clear names it while its level is inactive; a clear of one whose level is active is
ignored, and so is a clear of no latched one (R206). -/
def Obligations.TripsClearOnlyWhileInactive : Prop := ∀ (s : State) (mask i : Nat), i < 6 →
  hasBit (s.tripClear mask).pwm.tripLatch i =
    (hasBit s.pwm.tripLatch i && !(hasBit mask i && !hasBit s.pwm.tripLvl i)) ∧
  (s.tripClear mask).pwm.tripLvl = s.pwm.tripLvl ∧ (s.tripClear mask).objs = s.objs

/-- A frame the part builds carries its fields and passes its own reception tests: LEN, HCRC and FCRC hold, header and
payload read back (R83, R97). -/
def Obligations.FramesReadBack : Prop := ∀ (ty flags dst src seq aux cue : Nat) (pl f : Bytes),
  ty < 2 ^ 8 → flags < 2 ^ 8 → dst < 2 ^ 16 → src < 2 ^ 16 → seq < 2 ^ 16 → aux < 2 ^ 16 → cue < 2 ^ 32 →
  pl.length ≤ (if ty = 0x10 then 1548 else 1024) → f = mkFrame ty flags dst src seq aux cue pl →
  Hdr.read f = { ty := ty, flags := flags, dst := dst, src := src, seq := seq, len := pl.length, aux := aux, cue := cue } ∧
  payload f = pl ∧ hcrcOk f = true ∧ lenOk f = true ∧ fcrcOk f = true


/-- Resets, role, firmware start and start-up: each command of the start-up sequence completes (R16 to R19, R476, R484,
R486, R505 to R508). -/
def Obligations.StartUpCommandsComplete : Prop := ∀ (s : State),
  (s.pw.pwr = .off → exec .powerOnReset s = .next (s.resetPart 1 0)) ∧
  (∀ n, s.powered → exec (.rstNReset n) s = .next (s.resetPart 2 0)) ∧
  (∀ n, s.asleep → exec (.rstNReset n) s = .next ((s.aonTime n).resetPart 2 3)) ∧
  (s.pw.pwr = .start → s.pw.stage = .heldReset → s.pw.refGood → s.pw.thermalHold = false →
    exec .internalResetRelease s = .next (s.pwSet fun w => { w with
      stage := if w.sampling then .waitRole else .roleLatched, samples := [], pll := w.pll ||| 15,
      auxOn := s.pw.auxOn || s.og Obj.auxEn == 1 })) ∧
  (∀ a b, s.pw.stage = .waitRole → s.pw.samples = [a, a] → b ≠ a →
    exec (.roleSample b) s = .next ((s.pwSet fun w => { w with samples := [a, a, b] }).pwSet fun w =>
      { w with roleUnstable := true })) ∧
  (∀ a, s.pw.stage = .waitRole → s.pw.samples = [a, a] →
    exec (.roleSample a) s = .next ((s.pwSet fun w => { w with samples := [a, a, a] }).pwSet fun w =>
      { w with role := some (if a then .head else .cell), stage := .roleLatched, sampling := false })) ∧
  (s.pw.stage = .waitRole → s.pw.samples.length = 3 →
    exec .roleResampleTimer s = .next (s.pwSet fun w => { w with samples := [] })) ∧
  (∀ bad reads blocks left t u, s.pw.pwr = .start → s.pw.stage = .roleLatched →
    (s.flashSpoil reads).bootJournal bad blocks = (false, left, t) → t.bootImage bad left = (false, u) →
    exec (.firmwareStart bad reads blocks) s = .next (u.pwSet fun w => { w with stage := .firmware })) ∧
  (∀ high, s.pw.pwr = .start → s.pw.stage = .firmware →
    exec (.startUpComplete high) s = .next (s.startUp high)) ∧
  (∀ core, s.powered →
    exec (.watchdogReset core) s = .next ((s.resetPart 3 0).pwSet fun w => { w with wdogCore := some core })) ∧
  (∀ acc, Takes (.softwareReset acc) s acc Obj.pwrCmd 2 (s.resetPart 4 0)) ∧
  (s.powered → s.flt.resetDue → exec .faultCollectorReset s = .next s.collectorReset) ∧
  (exec .uvloFall s = .next ((s.resetPart 1 0).pwSet fun w =>
    { w with pwr := .off, resetCount := [0, 0, 0, 0, 0, 0, 0] }))

/-- Standby, wakes, the thermal limit, the reference clock and AUX33 (R495, R497 to R500, R503, R504, R518, R519, R236). -/
def Obligations.PowerCommandsComplete : Prop := ∀ (s : State),
  (∀ acc, s.standbyRefused = false → Takes (.standbyRequest acc) s acc Obj.pwrCmd 1 s.standbyEnter) ∧
  (∀ t, s.pw.idleSince = some t → s.cellOn → s.og Obj.stbyIdle ≠ 0 → s.portUp 0 = false → s.portUp 1 = false →
    s.standbyRefused = false →
    exec .stbyIdleExpiry s = .next (s.toTb2 (t + s.og Obj.stbyIdle * 1000000000)).standbyEnter) ∧
  (∀ rising n, s.asleep → s.og Obj.wakePol = (if rising then 1 else 2) →
    exec (.wakeEdge rising n) s = .next ((s.aonTime n).resetPart 7 1)) ∧
  (∀ rising n, s.asleep = false → s.pw.wakeStart → s.pw.wakeCause = 2 → s.pw.wakePol = (if rising then 1 else 2) →
    s.tm.tb2 = (s.aonTime n).tm.tb2 → exec (.wakeEdge rising n) s = .next (s.pwSet fun w => { w with wakeCause := 1 })) ∧
  (∀ n, s.pw.pwr = .standby → s.og Obj.wakeTimer ≠ 0 →
    s.og Obj.wakeTimer * 1000000000 ≤ n * 30517578125 / 1000000 →
    exec (.wakeTimerExpiry n) s = .next ((s.aonTime n).resetPart 7 2)) ∧
  (∀ n vraw traws, s.pw.pwr = .standby → s.og Obj.checkInterval ≠ 0 → s.isCell →
    s.og Obj.storeAction ≠ 1 →
    exec (.storageCheck n vraw traws false) s = .next ((s.aonTime n).batSet fun b =>
      { b with checks := (b.checks ++ [((s.aonTime n).storageRecord vraw traws).1]).drop (b.checks.length - 15) })) ∧
  (s.powered → s.flt.resetDue = false → exec .thermalLimit s = .next (s.resetPart 6 0)) ∧
  (exec .thermalRelease s = .next (s.pwSet fun w => { w with thermalHold := false })) ∧
  (s.powered → s.pw.refGood → exec .refLoss s = .next s.refLoss) ∧
  (s.powered → s.pw.refGood = false → exec .refRestored s = .next s.refBack) ∧
  (∀ ppm, s.running → s.pw.refGood →
    exec (.aonTrim ppm) s = .next (s.pwSet fun w => { w with aonTrimmed := true, aonPpm := ppm })) ∧
  (∀ acc v, v ≤ 1 → Takes (.auxEnWrite acc v) s acc Obj.auxEn v
    ((s.oset Obj.auxEn v).pwSet fun w => { w with auxOn := v == 1, auxLimit := w.auxLimit && v == 1 })) ∧
  (s.running → s.pw.auxOn →
    exec .aux33CurrentLimit s = .next ((s.pwSet fun w => { w with auxLimit := true }).irqPost 30 4)) ∧
  (s.headOn → s.pw.standing = .waiting → s.og Obj.headStanding = 1 → s.xlUp 0 = false →
    exec .standingPartnerTimeout s = .next ((s.takeStanding .active).pwSet fun w => { w with partnerAbsent := true }))


/-- Enumeration commands and the link frames of enumeration; a BREAK of a cell without a number moves no bound, which is
the model's choice (log entry 53) (R23, R30, R40 to R44, R86, R89, R110 to R114, R522, R523). -/
def Obligations.EnumerationCommandsComplete : Prop := ∀ (s : State),
  (∀ acc p, p < 12 → ¬(s.pw.ringMode = 2 ∧ p % 2 = 1) → s.portUp p → s.understudy = false →
    (s.ringRec p).admitted → Takes (.enumReenumerate acc p) s acc Obj.enumCmd (p * 256 + 1) (s.startEnum p)) ∧
  (∀ acc p, p < 12 → ¬(s.pw.ringMode = 2 ∧ p % 2 = 1) → s.portUp p → s.understudy = false →
    (s.ringRec p).admitted = false →
    Takes (.enumReenumerate acc p) s acc Obj.enumCmd (p * 256 + 1) (s.capRing p 3)) ∧
  (∀ acc p, p < 12 → ¬(s.pw.ringMode = 2 ∧ p % 2 = 1) → s.portUp p → s.understudy →
    Takes (.enumReenumerate acc p) s acc Obj.enumCmd (p * 256 + 1) s) ∧
  (∀ acc p t, State.applyEnumCmd (p * 256 + 2) s = .ok t →
    Takes (.enumCommission acc p) s acc Obj.enumCmd (p * 256 + 2) t) ∧
  (∀ acc p, p < 12 → ¬(s.pw.ringMode = 2 ∧ p % 2 = 1) → s.portUp p → (s.ringRec p).admitted →
    Takes (.enumRemove acc p) s acc Obj.enumCmd (p * 256 + 3)
      ((State.ringSlots p).foldl (fun t n => if t.cellAdmitted n then t.fence n 46 true else t)
        (s.setRing p { s.ringRec p with removing := true }))) ∧
  (∀ acc p v, v ≤ 2 → ¬(s.pw.ringMode = 2 ∧ p % 2 = 1 ∧ v ≠ 0) → (s.ringRec p).admitted = false →
    Takes (.ringArmWrite acc p v) s acc (Obj.ringArm p) v ((s.oset (Obj.ringArm p) v).admissionTest p)) ∧
  (∀ p f e r cells, Received s p f e 1 true r → r.st.activeHead → r.pl.length = 4 →
    exec (.enumReturn p f e cells) s = .next (r.st.enumBack (r.st.ringOfPort p)
      ((p == r.st.ringOfPort p) != r.st.pair.tookOver) r.pl cells)) ∧
  (∀ p f e r, Received s p f e 4 true r → r.st.activeHead → r.pl.length = 8 → rd r.pl 0 1 = 1 → hopOf r.hdr.src ≠ 0 →
    exec (.linkFrame p f e) s = .next ((r.st.irqPost 4 6).breakNotice (r.st.ringOfPort p) (hopOf r.hdr.src)
      ((p == r.st.ringOfPort p) != r.st.pair.tookOver) (rd r.pl 1 1))) ∧
  (∀ p f e r, Received s p f e 4 true r → r.st.activeHead → r.pl.length = 8 → rd r.pl 0 1 = 1 → hopOf r.hdr.src = 0 →
    exec (.linkFrame p f e) s = .next (r.st.irqPost 4 6)) ∧
  (∀ p f e r, Received s p f e 4 true r → r.st.activeHead → r.pl.length = 8 → rd r.pl 0 1 = 2 →
    exec (.linkFrame p f e) s = .next ((r.st.irqPost 4 6).healNotice (r.st.ringOfPort p) (rd r.pl 2 1))) ∧
  (∀ p n, (s.ringRec p).heal = some n → s.activeHead → s.og Obj.healHold ≤ n → (s.ringRec p).enumDue = false →
    (s.ringRec p).enumBusy = false →
    exec (.healHoldExpiry p) s = .next (s.healed p)) ∧
  (∀ acc, Takes (.vlogCmdClear acc) s acc Obj.vlogCmd 1 (clearRingLog s))

/-- A CELL numbers itself by an ENUM frame from its near side (R23, R40): hop number, address, orientation (past hop 96 none of
them, which is the model's choice, log entry 55), and the frame passed on with the lowest rate, or returned where the other port is not UP. -/
def Obligations.EnumFrameNumbersACell : Prop := ∀ (s : State) (p : Nat) (f : Bytes) (e : FrameEnd) (n serial : Nat) (r : State.Rx),
  Received s p f e 1 false r → r.st.isCell → r.st.betweenHeads = false → r.pl.length = 4 → rd r.pl 2 1 = 0 →
  ∃ t : State, exec (.enumFrame p f e n serial) s = .next (t.forwardOut (if r.st.portUp (otherPort p) then otherPort p else p)
      (mkFrame 1 r.hdr.flags r.hdr.dst r.hdr.src r.hdr.seq r.hdr.aux r.hdr.cue
        [BitVec.ofNat 8 (rd r.pl 0 1 + 1),
         BitVec.ofNat 8 (min (rd r.pl 1 1) (if r.st.portUp (otherPort p) then
           min (r.st.rport p).rate (r.st.rport (otherPort p)).rate else (r.st.rport p).rate)),
         BitVec.ofNat 8 (if r.st.portUp (otherPort p) then 0 else 2), 0#8])) ∧
    t.ring.node.caddr = (if 96 < rd r.pl 0 1 + 1 then 0 else r.hdr.src / 128 * 128 + (rd r.pl 0 1 + 1)) ∧
    t.ring.node.orient = (if 96 < rd r.pl 0 1 + 1 then 0 else p + 1) ∧
    t.ring.node.checked = true ∧ t.ring.ports = r.st.ring.ports ∧ t.out = r.st.out


/-- The CUE, the reports and the computation: each event of a CUE completes (R28, R46, R47, R52 to R54, R57, R104, R105,
R135, R166). -/
def Obligations.CueCommandsComplete : Prop := ∀ (s : State),
  (∀ acc v, v % 2 = 0 → 20000 ≤ v → v ≤ 200000 → Takes (.cuePeriodWrite acc v) s acc Obj.cuePeriod v
    ((s.oset Obj.cuePeriod v).tmSet fun t => { t with
      periodNext := t.periodNext.filter (fun e => e.1 != (s.tm.cue + 2) % 2 ^ 32) ++ [((s.tm.cue + 2) % 2 ^ 32, v)] })) ∧
  (∀ pins, s.working → exec (.cueStart pins) s = .next (s.cueBegin pins)) ∧
  (s.cellOn → (s.loopTo0 ((s.tm.cueStart + 2800) % 2 ^ 64)).reportMeasure.ring.node.admitted →
    ∃ t, exec .reportAssembly s = .next t ∧
      t.ring.node.report = some (s.loopTo0 ((s.tm.cueStart + 2800) % 2 ^ 64)).reportMeasure.reportBytes) ∧
  (∀ rep x n p, s.cellOn → s.ring.node.report = some rep → rep.length = 28 →
    p = (s.loopTo0 ((s.tm.cueStart + 3200) % 2 ^ 64)).reportPort →
    (s.loopTo0 ((s.tm.cueStart + 3200) % 2 ^ 64)).ownRecord p (setFar rep
      (p + 1 != (s.loopTo0 ((s.tm.cueStart + 3200) % 2 ^ 64)).ring.node.orient)) = x →
    n = { x.2.ring.node with report := some x.1, repPort := p } → n.index = 0 →
    exec .reportLaunch s = .next (((x.2.setNode n).setNode { n with sentOwn := true, held := [] }).sendTrain p
      (!n.held.isEmpty) (n.held ++ [x.1]))) ∧
  (∀ p recs own, p ≤ 1 → s.cellOn → s.portUp p → s.launched = some own → s.ring.node.repPort = otherPort p →
    exec (.reportTrain p recs) s =
      .next ((s.setNode { s.ring.node with sentOwn := true, trainSeen := true }).sendTrain (otherPort p) true (recs ++ [own]))) ∧
  (∀ own, s.cellOn → s.launched = some own → s.ring.node.trainSeen = false → ∃ t,
    exec .trainGraceExpiry s = .next ((t.setNode { t.ring.node with sentOwn := true }).sendTrain s.ring.node.repPort false [own]) ∧
      t = s.loopTo0 ((s.tm.cueStart + (400000 + s.ring.node.index * (28800 + s.og (Obj.hopDelay (otherPort
        s.ring.node.repPort))) + 1000 * s.og Obj.trainGrace) / 125) % 2 ^ 64)) ∧
  (∀ p rec, s.portUp p → s.activeHead → s.understudy = false →
    exec (.reportRecord p rec) s = .next (s.takeReport (s.ringOfPort p) p rec)) ∧
  (∀ p rec, s.portUp p → s.understudy → s.xlUp 0 →
    exec (.reportRecord p rec) s = .next (s.xlSend 0 0x12 p rec)) ∧
  (∀ hops, s.activeHead → s.tm.compDone = false → exec (.computationStart hops) s = .next (s.compStart hops)) ∧
  (∀ t, s.activeHead → s.tm.compDone → s.tm.compSent = false →
    t = (((((s.loopTo2 (s.tm.compAt + 2400)).tmSet fun t => { t with compSent := true }).capBaseAll 4
      (fun _ => true)).bothArms traceRecord).sendSheets).sendPeer →
    exec .computationEnd s = .next ((if t.paired then t.sendFast.sendSlow else t).irqPost 0 1))

/-- SHEET frames, their forwarding and the CURTAIN at the nodes of a ring (R48, R57, R92 to R96, R102, R106, R107, R163). -/
def Obligations.RingTrafficCompletes : Prop := ∀ (s : State),
  (∀ p f e at0 r, rd f 0 1 = 0x10 → r = s.rxRing p f e false → r.act → r.hdr.ty = 0x10 → r.st.isCell →
    exec (.sheetFrame p f e at0) s = .next (r.st.takeSheet p f r at0)) ∧
  (∀ p f e at0 r, rd f 0 1 = 0x10 → r = s.rxRing p f e false → r.act → r.hdr.ty = 0x10 → r.st.isCell = false →
    exec (.sheetFrame p f e at0) s = .next (r.st.seeSheet p r)) ∧
  (∀ p f e, s.portUp p → exec (.frameForward p f e) s = .next (s.rxRing p f e true).st) ∧
  (∀ p, s.cellOn → s.portUp p → exec (.curtainSymbol p) s = .next (s.cellCurtain p)) ∧
  (∀ p t, s.headOn → s.portUp p → t = (s.setPort p { s.rport p with gotC := some s.tm.tb2 }).rngEvt p 3 → t.echoes p →
    exec (.curtainRingEnd p) s = .next (((t.bump (Obj.curtainEcho p)).irqPost 4 7).unexpAgain p)) ∧
  (∀ p t, s.headOn → s.portUp p → t = (s.setPort p { s.rport p with gotC := some s.tm.tb2 }).rngEvt p 3 →
    t.echoes p = false → exec (.curtainRingEnd p) s = .next ((t.ringLog p 0x0E 0xFFFF 0).safUnexp p)) ∧
  (∀ p f e r, Received s p f e 6 true r → r.st.isCell → r.st.addressed r.hdr → r.pl.length = 4 →
    exec (.curtainLiftFrame p f e) s = .next (r.st.takeLift (rd r.pl 0 4))) ∧
  (∀ p, portLive s p → s.portUp p → (s.rport p).bgCue = some s.tm.cue →
    exec (.backgroundWindow p) s = .next (s.pump p)) ∧
  (∀ p, portLive s p → s.portUp p → (s.rport p).bgCue ≠ some s.tm.cue →
    (((s.queueTime p).passWindow p).isCell = true → ((s.queueTime p).passWindow p).ring.node.servedBy ≠ p) →
    exec (.backgroundWindow p) s = .next (openWindow p ((s.queueTime p).passWindow p))) ∧
  (∀ p f e r t u, Received s p f e 5 true r → r.st.isCell → r.pl.length = 1 →
    t = r.st.setNode { r.st.ring.node with opRate := false } →
    u = t.setPort 0 { t.rport 0 with rateCap := rd r.pl 0 1 } →
    (t.rport 0).rate ≤ rd r.pl 0 1 → (u.rport 1).rate ≤ rd r.pl 0 1 →
    exec (.rateCapFrame p f e) s = .next (u.setPort 1 { u.rport 1 with rateCap := rd r.pl 0 1 })) ∧
  (∀ p f e r, Received s p f e 0x50 true r → r.st.activeHead → r.st.addressed r.hdr →
    exec (.captureFrame p f e) s = .next (r.st.capFrame r.hdr.src r.pl))

/-- A cell's next start of a CUE, of whose mark its record is made, and the registers of the start: the count goes up by
one, and no computation of the new CUE has run (R47, R48, R51). -/
def Obligations.CueStartAdvancesTheCount : Prop := ∀ (s : State) (start : Nat),
  (s.cueAdvance start).tm.cue = (s.tm.cue + 1) % 2 ^ 32 ∧ (s.cueAdvance start).tm.cueStart = start ∧
  (s.cueAdvance start).tm.compDone = false ∧ (s.cueAdvance start).tm.mark = none ∧
  (s.cueAdvance start).objs = s.objs ∧ (s.cueAdvance start).doms = s.doms ∧ (s.cueAdvance start).pending = s.pending


/-- The time bases: probe and time frames, PTP, SYNC (R63 to R66, R68, R70 to R72, R75 to R78). The bytes of
the network frames and the Pdelay_Req after each Sync are the model's choice (log entry 17). -/
def Obligations.TimeCommandsComplete : Prop := ∀ (s : State),
  (∀ p l f e at0 r, p < 12 → Received s p f e 3 false r → r.pl.length = 24 →
    exec (.probeFrame p l f e at0) s = .next (r.st.takeProbe p r.pl at0)) ∧
  (∀ p l f e at0 r, 12 ≤ p → XlReceived s (p - 12) l f e 3 r → r.pl.length = 24 →
    exec (.probeFrame p l f e at0) s = .next (r.st.takeProbe p r.pl at0)) ∧
  (∀ p l f e at0 r, p < 12 → Received s p f e 2 false r → r.st.isCell → r.pl.length = 16 →
    exec (.timeFrame p l f e at0) s = .next (r.st.cellTime p r.hdr r.pl at0)) ∧
  (∀ l f e at0 r, XlReceived s 0 l f e 2 r → r.st.understudy → r.pl.length = 16 →
    exec (.timeFrame 12 l f e at0) s = .next (r.st.servo (r.st.timeEst 12 r.pl) at0
      (decide (r.st.og Obj.delayAvg ≤ (Kv.get (fun _ => []) r.st.tm.probes 12).length)) true)) ∧
  (s.working → s.activeHead = false → 2 ≤ s.tm.noFrame + b2n (!s.tm.frameSeen) → s.tm.tb0State = .acquire →
    exec .timeFrameTimeout s = .next (s.setTb0State .unsync)) ∧
  (s.working → s.activeHead = false → 2 ≤ s.tm.noFrame + b2n (!s.tm.frameSeen) → s.tm.tb0State = .locked →
    exec .timeFrameTimeout s = .next ((s.tmSet fun t => { t with holdCount := 0 }).setTb0State .holdover)) ∧
  (s.working → s.tm.tb0State = .holdover → s.og Obj.holdoverLimit ≤ s.tm.holdCount →
    exec .holdoverLimit s = .next (s.tb0Lost.raise 25 0)) ∧
  (∀ acc v t, State.applyReAnchor v s = .ok t → Takes (.reAnchorWrite acc v) s acc Obj.reAnchor v t) ∧
  (∀ p f e r, Received s p f e 7 true r → r.st.isCell → r.st.addressed r.hdr → r.st.gatesSafe →
    exec (.reAnchorFrame p f e) s = .next (r.st.tmSet fun t => { t with reanchor := true })) ∧
  (∀ p f e r, Received s p f e 7 true r → r.st.isCell → r.st.addressed r.hdr → r.st.gatesSafe = false →
    exec (.reAnchorFrame p f e) s = .next (r.st.emit (.answer (.ring true 3) Obj.reAnchor 6))) ∧
  (∀ p d i m, ptpMine s p d → s.tm.ptpPort = p → -4 ≤ i → i ≤ 0 → exec (.ptpSync p d i m) s =
    .next ((s.takeSync m).emit (.net p 5 (leBytes 1 d ++ leBytes 8 s.tm.tb1)))) ∧
  (∀ p d i m, ptpMine s p d = false ∨ i < -4 ∨ 0 < i → exec (.ptpSync p d i m) s = .next s) ∧
  (∀ d rank utc, ptpMine s 1 d → exec (.ptpAnnounce 1 d rank utc) s =
    .next ((s.tmSet fun t => { t with masterA := some { rank := rank, utc := utc } }).selectPort)) ∧
  (∀ d rank utc, ptpMine s 2 d → exec (.ptpAnnounce 2 d rank utc) s =
    .next ((s.tmSet fun t => { t with masterB := some { rank := rank, utc := utc } }).selectPort)) ∧
  (∀ p, s.headOn → p = 1 ∨ p = 2 → exec (.announceTimeout p) s = .next (s.masterLost p)) ∧
  (∀ p d f, ptpMine s p d → exec (.pdelayReq p d f) s =
    .next { s with out := s.out ++ [.net p 3 (f ++ leBytes 8 s.tm.tb1)] ++ [.net p 4 (f ++ leBytes 8 s.tm.tb1)] }) ∧
  (∀ acc, Takes (.tb1CmdReanchor acc) s acc Obj.tb1Cmd 1 (s.tmSet fun t => { t with reanchor1 := true })) ∧
  (∀ acc v, Takes (.tb3Write acc v) s acc Obj.tb3 v
    ((s.noteTbStep 3 s.tm.tb3 v).tmSet fun t => { t with tb3Step := some v })) ∧
  (∀ at0, s.activeHead → s.og Obj.syncMode = 1 → exec (.syncEdge true at0) s = .next (s.syncEdge at0)) ∧
  (∀ at0, s.activeHead → s.og Obj.syncMode = 2 → exec (.syncEdge false at0) s = .next (s.syncEdge at0)) ∧
  (s.activeHead → s.tm.sync = .track → s.tm.syncMiss + 1 < s.og Obj.syncMissLimit →
    exec .syncMiss s = .next (s.tmSet fun t => { t with syncMiss := s.tm.syncMiss + 1 })) ∧
  (s.activeHead → s.tm.sync = .track → s.og Obj.syncMissLimit ≤ s.tm.syncMiss + 1 →
    exec .syncMiss s = .next ((s.tmSet fun t => { t with syncMiss := s.tm.syncMiss + 1 }).dropCorr.setSync .free)) ∧
  (∀ acc, Takes (.syncModeWrite acc 0) s acc Obj.syncMode 0 ((s.oset Obj.syncMode 0).dropCorr.setSync .off)) ∧
  (∀ acc v, v = 1 ∨ v = 2 → s.tm.sync = .off → Takes (.syncModeWrite acc v) s acc Obj.syncMode v
    (((s.oset Obj.syncMode v).tmSet fun t => { t with syncMiss := 0 }).setSync .acquire)) ∧
  (∀ acc, s.tm.sync = .track ∨ s.tm.sync = .free → Takes (.syncCmdReacquire acc) s acc Obj.syncCmd 1
    ((s.tmSet fun t => { t with syncMiss := 0 }).setSync .acquire))

/-- Time events and edge queues (R79 to R81). -/
def Obligations.TimeEventCommandsComplete : Prop := ∀ (s : State),
  (∀ n : Fin 8, s.working → s.og (Obj.tevtArm n.val) = 1 → 1 ≤ s.og (Obj.tevtMode n.val) → s.og (Obj.tevtMode n.val) ≤ 3 →
    (s.tevt n.val).done = false → exec (.tevtFire n) s = .next ((s.tevtWait n.val).tevtFire n.val)) ∧
  (∀ acc (n : Fin 8), Takes (.tevtArm acc n 0) s acc (Obj.tevtArm n.val) 0 (s.oset (Obj.tevtArm n.val) 0)) ∧
  (∀ acc (n : Fin 8) u, 1 ≤ s.og (Obj.tevtMode n.val) → s.og (Obj.tevtMode n.val) ≤ 3 →
    u = (s.oset (Obj.tevtArm n.val) 1).oset (Obj.tevtStatus n.val) 0 →
    Takes (.tevtArm acc n 1) s acc (Obj.tevtArm n.val) 1
      (u.setTevt n.val { late := u.tevtDue n.val, stepped := false, done := false })) ∧
  (∀ (i : Fin 3) f n, s.working → exec (.captureEdge i f n) s = .next ((s.elapse n).captureEdge i.val f)) ∧
  (∀ (i : Fin 3) f n, s.working → hasBit (s.og (Obj.edgeSel i.val)) (b2n f) → 4 ≤ (s.edges i.val).length →
    exec (.captureEdge i f n) s = .next (((s.elapse n).oset (Obj.edgeOverrun i.val) 1).irqPost 2 (3 + i.val))) ∧
  (∀ acc (i : Fin 3) e es, Serves s acc (Obj.edgeEntry i.val) → s.edges i.val = e :: es →
    ∃ t, exec (.entryRead acc i) s = .next (t.emit (.data acc (Obj.edgeEntry i.val) (entryBytes e).length (entryBytes e))) ∧
      t = (s.answer acc (Obj.edgeEntry i.val) 0 false).setEdges i.val es)

/-- Modulation and SIEVE writes (R154, R177, R178, R184). -/
def Obligations.ModulationCommandsComplete : Prop := ∀ (s : State),
  (∀ acc (a : Fin 2) v, v < 3 → Takes (.modModeWrite acc a v) s acc (Obj.modMode a.val) v (s.oset (Obj.modMode a.val) v)) ∧
  (∀ acc (a : Fin 2), (s.armMod a.val).nav ≤ 31 * cpcOf (s.og (Obj.carRatio a.val)) →
    Takes (.modModeWrite acc a 3) s acc (Obj.modMode a.val) 3 (s.oset (Obj.modMode a.val) 3)) ∧
  (∀ acc (a : Fin 2), 31 * cpcOf (s.og (Obj.carRatio a.val)) < (s.armMod a.val).nav →
    Refuses (.modModeWrite acc a 3) s acc (Obj.modMode a.val) 3 6) ∧
  (∀ acc (a : Fin 2), Takes (.sortCmdWrite acc a 1) s acc (Obj.sortCmd a.val) 1
    (s.setArmMod a.val { s.armMod a.val with sortReq := true })) ∧
  (∀ acc (a : Fin 2), Takes (.keyGateWrite acc a 0) s acc (Obj.keyGate a.val) 0 (s.oset (Obj.keyGate a.val) 0)) ∧
  (∀ acc (a : Fin 2), s.og (Obj.keyGate a.val) = 0 → Takes (.keyGateWrite acc a 1) s acc (Obj.keyGate a.val) 1
    ((s.setArmMod a.val { s.armMod a.val with keyHeld := s.svWritten a.val }).oset (Obj.keyGate a.val) 1)) ∧
  (∀ acc (a : Fin 2), Takes (.orderHoldWrite acc a 1) s acc (Obj.orderHold a.val) 1 (s.oset (Obj.orderHold a.val) 1)) ∧
  (∀ acc (a : Fin 2), s.og (Obj.orderHold a.val) = 1 → Takes (.orderHoldWrite acc a 0) s acc (Obj.orderHold a.val) 0
    ((s.setArmMod a.val { s.armMod a.val with holdRel := true }).oset (Obj.orderHold a.val) 0))


/-- The ports of the cell rings: enable, test, bring-up, link down, lane test (R24, R86 to R88, R112, R117 to R119,
Table 03-3). -/
def Obligations.RingPortCommandsComplete : Prop := ∀ (s : State) (p : Nat), portLive s p →
  (exec (.portEnable p true) s = .next ((s.rset (rngReg p 0) (putBit (s.rg (rngReg p 0)) 0 true)).startPort p)) ∧
  (∀ t, t = s.rset (rngReg p 0) (putBit (s.rg (rngReg p 0)) 0 false) → exec (.portEnable p false) s =
    .next ((t.setPort p { PortRec.reset with
      txSeq := (s.rport p).txSeq, rxSeq := (s.rport p).rxSeq,
      rateCap := (s.rport p).rateCap }).sendSym p 10 [])) ∧
  (∀ t, t = s.rset (rngReg p 0) (putBit (s.rg (rngReg p 0)) 1 true) → (t.rport p).st = .up →
    exec (.portTest p true) s = .next (((t.setPort p { t.rport p with
      st := .test, silent := 0, training := false, bgCue := none, txq := [], bg := [], busy := 0 }).linkLost p).patSend p)) ∧
  (∀ t, t = s.rset (rngReg p 0) (putBit (s.rg (rngReg p 0)) 1 false) → (t.rport p).st = .test →
    exec (.portTest p false) s = .next (t.enterDetect p 0)) ∧
  (∀ t, (s.rport p).st = .detect → (s.rport p).silent = 0 → t = s.setPort p { s.rport p with
      st := .offer, sig := true, align := true, offers := 0, offer := [], accepts := 0, rateMax := s.og (Obj.rateMax p) } →
    exec (.signalDetect p) s = .next (t.sendSym p 1 (t.offerSet p 1 0))) ∧
  ((s.rport p).st = .offer → exec (.offerTimer p) s = .next (s.sendSym p 1 (s.offerSet p 1 0))) ∧
  (∀ set, set.length = 7 → rd set 0 1 = 2 → (s.rport p).st = .train → exec (.offerReceived p set) s =
    .next (leaveRing (s.setPort p { s.rport p with accepts := (s.rport p).accepts + 1, nbr := rd set 1 1 }))) ∧
  (∀ set, set.length = 7 → rd set 0 1 = 1 → (s.rport p).st = .offer → set ≠ (s.rport p).offer →
    exec (.offerReceived p set) s =
      .next (leaveRing (s.setPort p { s.rport p with offer := set, offers := 1, nbr := rd set 1 1 }))) ∧
  ((s.rport p).st = .train → (s.rport p).training = false → 3 ≤ (s.rport p).accepts → exec (.trainStart p) s =
    .next ((s.setPort p { s.rport p with training := true }).sendSym p 9 (leBytes 1 (s.rport p).rate))) ∧
  ((s.rport p).st = .train → (s.rport p).training → exec (.trainingEnd p true 0) s = .next ((reachUp p s).sendSym p 0 [])) ∧
  (∀ e, (s.rport p).st = .train → (s.rport p).training → 0 < (s.rport p).rate → exec (.trainingEnd p false e) s =
    .next ((s.setPort p { s.rport p with rate := (s.rport p).rate - 1 }).sendSym p 9 (leBytes 1 ((s.rport p).rate - 1)))) ∧
  (∀ e, (s.rport p).st = .train → (s.rport p).training → (s.rport p).rate = 0 →
    exec (.trainingEnd p false e) s = .next (s.enterDetect p 2)) ∧
  ((s.rport p).silent ≠ 0 → exec (.laneSilenceEnd p) s = .next ((s.setPort p { s.rport p with silent := 0 }).sendSym p 0 [])) ∧
  ((s.rport p).st = .up → exec (.linkDown p) s = .next ((s.linkLost p).enterDetect p 1)) ∧
  (∀ path, exec (.rngPerrRead path p) s =
    .next ((s.emit (.word path.val (s.rg (rngReg p 0x28)))).rset (rngReg p 0x28) 0)) ∧
  (∀ path, exec (.rngPbitsRead path p) s =
    .next ((s.emit (.word path.val (s.rg (rngReg p 0x2C)))).rset (rngReg p 0x2C) 0)) ∧
  (∀ v, exec (.rngInjGo p v) s = .next (injStart p (setBit v 31) s)) ∧
  (∀ bits, p < 12 → exec (.checkerLock p bits) s = .next (s.checkBits p ((s.rport p).st == .test) bits))


/-- The cross-links: enable, test, bring-up, lanes, HELLO, peers, CURTAIN sets, lane test, log (R37, R121 to R129, R132,
R138 to R143, R354). That a link not in service keeps its state when its clock is lost is the model's choice (log entry 47). -/
def Obligations.CrossLinkCommandsComplete : Prop := ∀ (s : State) (l : Nat), linkLive s l →
  (exec (.xlEnable l true) s = .next ((s.rset (xlReg l 0) (putBit (s.rg (xlReg l 0)) 0 true)).startXl l)) ∧
  (exec (.xlEnable l false) s = .next ((s.rset (xlReg l 0) (putBit (s.rg (xlReg l 0)) 0 false)).xlDown l
    (fun s => (s.setXl l (xlBlank (s.xlink l) .off 0 s.tm.tb2)).xlLanes l true))) ∧
  (∀ t, t = s.rset (xlReg l 0) (putBit (s.rg (xlReg l 0)) 1 true) → (t.xlink l).st ≠ .off →
    exec (.xlTest l true) s = .next (((t.xlDown l (fun s => s.setXl l
      (xlBlank (s.xlink l) .test 0 s.tm.tb2))).patSend (12 + 2 * l)).patSend (13 + 2 * l))) ∧
  (∀ t, t = s.rset (xlReg l 0) (putBit (s.rg (xlReg l 0)) 1 false) → (t.xlink l).st = .test →
    exec (.xlTest l false) s = .next (t.xlToClock l 0)) ∧
  (∀ t, t = s.xlSilenceEnd l → (t.xlink l).st = .clock → exec (.xlClockPresent l) s = .next (t.setXl l
    { t.xlink l with st := .align, clk := true, failA := 0, failB := 0, rx := 0, lock := 0, comma := 0 })) ∧
  (∀ errs slips tap slip t u, (s.xlink l).st = .align → s.xlManual l = false → hasBit (s.xlLaneEn l) 0 →
    alignLane (errs, slips) = (tap, slip, true) →
    t = ((s.setXl l { s.xlink l with eyeA := (errs, slips) }).rset (xlReg l 0x10) (slip * 256 + tap)).rset (xlReg l 0x18) 0 →
    u = t.laneSampled l 0 → hasBit (u.xlLaneEn l) 0 = hasBit (s.xlLaneEn l) 0 →
    exec (.xlAlignDone l 0 errs slips) s = .next ((u.setXl l
      { u.xlink l with rx := setBit (u.xlink l).rx 0, lock := setBit (u.xlink l).lock 0 }).alignCheck l)) ∧
  (∀ lane f e r, XlReceived s l lane f e 1 r → r.pl.length = 16 →
    exec (.helloReceived l lane f e) s = .next (r.st.takeHello l r.pl)) ∧
  (s.xlUp l ∨ (s.xlink l).st = .hello → exec (.helloTimer l) s = .next (s.xlHello l)) ∧
  (∀ m, exec (.laneMaskSymbol l m) s = .next (s.xlTakeL l (m % 4))) ∧
  (∀ f k, hasBit (s.xlink l).lock 0 →
    k = { s.xlink l with
      lock := clrBit (s.xlink l).lock 0, comma := clrBit (s.xlink l).comma 0, rx := clrBit (s.xlink l).rx 0, rejoinA := none,
      rxWait := false } →
    (hasBit (s.xlink l).rx 0 = true → s.xlUp l = false ∧ (s.xlink l).st ≠ .hello) →
    exec (.xlLaneLoss l 0 f) s = .next (s.setXl l k)) ∧
  (∀ f k t u, hasBit (s.xlink l).lock 0 → s.xlUp l ∨ (s.xlink l).st = .hello → hasBit (s.xlink l).rx 0 →
    k = { s.xlink l with
      lock := clrBit (s.xlink l).lock 0, comma := clrBit (s.xlink l).comma 0, rx := clrBit (s.xlink l).rx 0, rejoinA := none,
      rxWait := false } → k.rx ≠ 0 →
    t = ((s.setXl l { k with st := xlWidthSt k }).xlLog l 0 0x0B 0).xlEvt l 2 →
    u = (if f = [] then t else (t.relCut l f).bump (Obj.xlLost l)) →
    exec (.xlLaneLoss l 0 f) s = .next ((if l = 0 then u.raise 49 0 else u).xlSendL l k.rx)) ∧
  (∀ f0 f1 t u, s.xlUp l → t = (if hasBit (s.xlink l).rx 0 then s.xlLaneCut l 0 f0 else s) →
    u = (if hasBit (s.xlink l).rx 1 then t.xlLaneCut l 1 f1 else t) →
    exec (.xlLinkDown l f0 f1) s = .next (u.xlDown l (fun s => s.xlToClock l 2))) ∧
  (∀ f0 f1, s.xlUp l = false → exec (.xlLinkDown l f0 f1) s = .next (s.setXl l
    { s.xlink l with clk := false, lock := 0, comma := 0, rx := 0, rejoinA := none, rejoinB := none })) ∧
  (∀ c t, (s.xlink l).rejoinA = some c → s.xlUp l ∨ (s.xlink l).st = .hello → s.og Obj.rejoinHold ≤ c →
    t = (s.setXl l { s.xlink l with
        rx := setBit (s.xlink l).rx 0, rejoinA := none, rxWait := true,
        st := xlWidthSt { s.xlink l with rx := setBit (s.xlink l).rx 0, rejoinA := none, rxWait := true } }).xlSendL l
      (setBit (s.xlink l).rx 0) →
    exec (.rejoinHoldExpiry l 0) s = .next (if l = 0 then t.release 49 0 else t)) ∧
  (∀ lane f e r, XlReceived s l lane f e 0x40 r → exec (.peerFrame l lane f e) s = .next (r.st.takePeer l r.pl)) ∧
  (∀ n c t u, (s.xlink l).curtAt = some c → t = (s.toTb2 (c + 410)).repeatCs →
    u = t.setXl l { t.xlink l with curtAt := none, curtMask := 0 } → exec (.curtainSetTimeout l n) s = .next
    (if l = 0 then u else (u.safSet fun w => { w with peer := clrBit w.peer l }).safUpdate n)) ∧
  (∀ path (lane : Fin 2), ∃ w, exec (.xlTrnErrRead path l lane) s =
    .next ((s.emit (.word path.val w)).rset (xlReg l (0x18 + 4 * lane.val)) 0) ∧
      w = s.rg (xlReg l (0x18 + 4 * lane.val)) % 256 + b2n (hasBit (s.xlink l).lock lane.val) * 256 +
        b2n (s.xlTraining l lane.val && hasBit (s.xlink l).comma lane.val) * 512) ∧
  (∀ path (lane : Fin 2), exec (.xlPerrRead path l lane) s = .next ((s.emit (.word path.val
    (s.rg (xlReg l (0x48 + 0x40 * lane.val))))).rset (xlReg l (0x48 + 0x40 * lane.val)) 0)) ∧
  (∀ path (lane : Fin 2), exec (.xlPbitsRead path l lane) s = .next ((s.emit (.word path.val
    (s.rg (xlReg l (0x4C + 0x40 * lane.val))))).rset (xlReg l (0x4C + 0x40 * lane.val)) 0)) ∧
  (∀ (lane : Fin 2) v, exec (.xlInjGo l lane v) s = .next (xlInjStart l lane.val (setBit v 31) s)) ∧
  (∀ acc, Takes (.xlVlogCmdClear acc) s acc Obj.xlVlogCmd 1 (clearXlLog s)) ∧
  (∀ (lane : Fin 2) bits, exec (.checkerLock (12 + 2 * l + lane.val) bits) s =
    .next (s.checkBits (12 + 2 * l + lane.val) ((s.xlink l).st == .test) bits))

/-- The CURTAIN sets of the cross-links, the relay and the commands of the pair (R132 to R135, R137, R354, R383, R393 to
R400, R403). -/
def Obligations.PairCommandsComplete : Prop := ∀ (s : State),
  (∀ lane set, s.headOn → s.xlUp 0 → s.understudy → exec (.curtainSetXl0 lane set) s = .next
    ((List.range 12).foldl (fun t p => if hasBit (s.repeatCs.curtSet 0 lane set).1 p then t.sendC p else t)
      (s.repeatCs.curtSet 0 lane set).2)) ∧
  (∀ (l : Fin 2) lane set n, s.headOn → s.xlUp (l.val + 1) → exec (.curtainSetPeer l lane set n) s = .next
    (((s.curtSet (l.val + 1) lane set).2.safSet fun w => { w with peer := setBit w.peer (l.val + 1) }).safUpdate n)) ∧
  (∀ lane f e n r, XlReceived s 0 lane f e 0x10 r → exec (.relDn lane f e n) s = .next (r.st.relDn r.chan r.pl r.xcrc n)) ∧
  (∀ lane f e cells n r, XlReceived s 0 lane f e 0x11 r →
    exec (.relUp lane f e cells n) s = .next (r.st.relUp r.chan r.pl cells n)) ∧
  (∀ lane f e r, XlReceived s 0 lane f e 0x12 r → r.st.activeHead →
    exec (.relRep lane f e) s = .next (r.st.takeReport r.chan r.chan r.pl)) ∧
  (∀ lane f e r, XlReceived s 0 lane f e 0x20 r → exec (.snapFast lane f e) s = .next (r.st.snapFast r.chan r.pl)) ∧
  (∀ lane f e r, XlReceived s 0 lane f e 0x21 r → exec (.snapSlow lane f e) s = .next (r.st.snapSlow r.chan r.pl)) ∧
  (s.lateSnap → exec .snapLate s = .next s.fastLost) ∧
  (s.lateSnap = false → exec .snapLate s = .next s) ∧
  (∀ lane f e r, XlReceived s 0 lane f e 0x30 r → r.st.activeHead → r.pl.length = 64 →
    exec (.healthFrame lane f e) s = .next (r.st.takeHealth r.pl)) ∧
  (s.activeHead → s.pw.ringMode = 1 → 8 ≤ s.pair.healthMiss → exec .healthTimeout s = .next (s.raise 52 0)) ∧
  (s.understudy → s.og Obj.lossCues ≤ s.pair.lossRun → s.pair.lossTold = false → s.unfitReasons = 0 →
    exec .lossDetected s = .next ((s.takeover s.tm.cue).takeoverNote 0 0 s.tm.cue)) ∧
  (s.understudy → s.og Obj.lossCues ≤ s.pair.lossRun → s.pair.lossTold = false → s.unfitReasons ≠ 0 →
    s.og Obj.takeoverUnfit ≠ 1 → exec .lossDetected s = .next
      ((s.takeoverNote 1 s.unfitReasons s.tm.cue).pairSet fun w => { w with lossTold := true })) ∧
  (∀ acc, s.activeHead → rd s.pair.health 4 1 ≠ 2 → Takes (.takeoverCmd acc) s acc Obj.takeoverCmd 1
    { s with pair := { s.pair with handover := true } })


/-- Gates, carrier, trips, the bypass switch, debug halt and the PWM clock (R188, R195, R198 to R207, R210 to R212, R223). -/
def Obligations.PwmCommandsComplete : Prop := ∀ (s : State),
  (∀ e l, s.cellOn → s.pwm.todo = e :: l → exec .eventEdge s = .next (gatesTo e.2 s)) ∧
  (∀ x l, s.working → s.pwm.rises = x :: l → exec .deadTimeEnd s =
    .next (gatesTo (l.foldl (fun m y => min m y.2) x.2) s)) ∧
  (∀ tap, s.working → exec (.delayLineCal tap true) s = .next
    ((s.pwmSet fun w => { w with calBad := 0, coarse := false, calPend := some (tap % 65536) }).calSettle.release 16 0)) ∧
  (∀ tap, s.working → s.pwm.calBad < 3 → exec (.delayLineCal tap false) s =
    .next (s.pwmSet fun w => { w with calBad := s.pwm.calBad + 1 })) ∧
  (∀ tap, s.working → 3 ≤ s.pwm.calBad → exec (.delayLineCal tap false) s = .next
    ((((s.pwmSet fun w => { w with calBad := s.pwm.calBad + 1, coarse := true }).evt (Blk.pwm + 4) 0x80).irqPost 8 5).raise 16 0)) ∧
  (∀ peak, s.cellOn → s.hasStage → s.bat.st = .run → s.og Obj.carMode ≠ 0 → (peak = true → s.og Obj.carMode = 2) →
    s.pwm.carAt = none → exec (.carrierBoundary peak) s = .next (((s.carBoundary peak).senseTest).calSettle)) ∧
  (s.cellOn → exec .carrierDutyEdge s = .next s.carEdge.calSettle) ∧
  (∀ acc v, perOk s v → Takes (.shadowPerWrite (.obj acc) v) s acc Obj.carShper v (s.shadowPer v)) ∧
  (∀ p v, s.cellOn → perOk s (v % 2 ^ 20) → exec (.shadowPerWrite (.reg p) v) s = .next (s.shadowPer (v % 2 ^ 20))) ∧
  (∀ acc v, s.loopOwns = false → Takes (.shadowDutyWrite (.obj acc) v) s acc Obj.carShduty v (s.shadowDuty (s.hostDuty v))) ∧
  (∀ p v, s.cellOn → s.loopOwns = false → exec (.shadowDutyWrite (.reg p) v) s = .next (s.shadowDuty (s.hostDuty (v % 2 ^ 24)))) ∧
  (∀ p v, s.cellOn → s.loopOwns → exec (.shadowDutyWrite (.reg p) v) s = .next s.ownErr) ∧
  (∀ p on, s.cellOn → exec (.pwmHoldWrite p on) s = .next (s.setHold on)) ∧
  (∀ i h n, s.working → i < 6 → n ≠ 0 → h = (s.og (Obj.tripPol i) == 0) → hasBit s.pwm.tripLvl i = false →
    s.og (Obj.tripFlt i) ≤ s.pwm.tripCnt.getD i 0 + n → exec (.tripActive i h n) s =
      .next ((s.pwmSet fun w => { w with tripCnt := w.tripCnt.set i 0 }).tripOn i)) ∧
  (∀ i h n, s.working → i < 6 → n ≠ 0 → h = (s.og (Obj.tripPol i) == 0) → hasBit s.pwm.tripLvl i = false →
    s.pwm.tripCnt.getD i 0 + n < s.og (Obj.tripFlt i) → exec (.tripActive i h n) s =
      .next (s.pwmSet fun w => { w with tripCnt := w.tripCnt.set i (s.pwm.tripCnt.getD i 0 + n) })) ∧
  (∀ i h n, s.working → i < 6 → n ≠ 0 → h = (s.og (Obj.tripPol i) != 0) → hasBit s.pwm.tripLvl i →
    s.og (Obj.tripFlt i) ≤ s.pwm.tripCnt.getD i 0 + n → exec (.tripInactive i h n) s =
      .next ((s.pwmSet fun w => { w with tripCnt := w.tripCnt.set i 0 }).pwmSet fun w =>
        { w with tripLvl := clrBit w.tripLvl i })) ∧
  (∀ acc m, m < 64 → Takes (.tripClr (.obj acc) m) s acc Obj.tripClr m (s.tripClear m)) ∧
  (∀ p m, s.working → exec (.tripClr (.reg p) m) s = .next (s.tripClear (m % 64))) ∧
  (∀ acc, Takes (.bypCmd acc) s acc Obj.bypCmd 1 (s.pwmSet fun w => { w with bypCmd := true })) ∧
  (s.cellOn → s.pwm.bypSt = .delay → exec .bypassPulseStart s =
    .next ((s.loopTo2 (s.pwm.bypAt + s.og Obj.bypDelay)).bypassRise)) ∧
  (∀ t u, s.cellOn → s.pwm.bypSt = .pulse → s.og Obj.bypSense = 0xFF → t = s.loopTo2 (s.pwm.riseAt + s.og Obj.bypPulse) →
    u = t.drive 6 false t.tm.tb0 →
    exec .bypassPulseEnd s = .next ((u.pwmSet fun w => { w with bypSt := .confirm }).setByp)) ∧
  (∀ t u, s.cellOn → s.pwm.bypSt = .pulse → s.og Obj.bypSense ≠ 0xFF → t = s.loopTo2 (s.pwm.riseAt + s.og Obj.bypPulse) →
    u = t.drive 6 false t.tm.tb0 → exec .bypassPulseEnd s = .next (u.pwmSet fun w => { w with bypSt := .confirm })) ∧
  (∀ t, s.cellOn → s.pwm.bypSt = .confirm → s.og Obj.bypSense ≠ 0xFF → t = s.loopTo2 (s.pwm.riseAt + 1000 * s.og Obj.bypConfirm) →
    t.pwm.pulses ≤ t.og Obj.bypRetry → exec .bypassConfirmTimeout s = .next ((t.drive 6 false t.tm.tb0).bypassRise)) ∧
  (∀ t, s.cellOn → s.pwm.bypSt = .confirm → s.og Obj.bypSense ≠ 0xFF → t = s.loopTo2 (s.pwm.riseAt + 1000 * s.og Obj.bypConfirm) →
    t.og Obj.bypRetry < t.pwm.pulses → exec .bypassConfirmTimeout s =
      .next ((((t.drive 6 false t.tm.tb0).pwmSet fun w => { w with bypSt := .idle }).pwmEvt 4).raise 23 0)) ∧
  (∀ h n, s.cellOn → s.og Obj.bypSense < 6 → exec (.bypassSense h n) s =
    .next (s.tripSamples (s.og Obj.bypSense) h n)) ∧
  (s.running → exec .debugHalt s = .next (s.withForce fun t => t.pwSet fun w => { w with debugHalt := true })) ∧
  (exec .debugResume s = .next (s.pwSet fun w => { w with debugHalt := false })) ∧
  (s.running → exec .pwmClockLoss s = .next (((s.withForce fun t => t.pwSet fun w =>
    { w with pwmClock := false, pll := clrBit w.pll 3 }).raise 11 0).irqPost 30 2)) ∧
  (s.running → s.pw.pwmClock = false → exec .pwmClockGood s = .next
    (((s.pwSet fun w => { w with pwmClock := true, pll := setBit w.pll 3 }).release 11 0).irqPost 30 2))


/-- The battery stage (R218, R222, R229 to R231, R233). -/
def Obligations.BatteryCommandsComplete : Prop := ∀ (s : State),
  (∀ acc, Takes (.batModeWrite acc 0) s acc Obj.batMode 0 (s.oset Obj.batMode 0).batStep) ∧
  (∀ acc, s.batLimitsSet → s.og Obj.batCommissioned ≠ 0 →
    Takes (.batModeWrite acc 2) s acc Obj.batMode 2 (s.oset Obj.batMode 2).batStep) ∧
  (∀ acc, s.batLimitsSet = false → Refuses (.batModeWrite acc 2) s acc Obj.batMode 2 6) ∧
  (∀ acc v, v ≤ 2 → s.batLimitsSet → s.ring.node.admitted = false →
    Takes (.batTestWrite acc v) s acc Obj.batTest v (s.oset Obj.batTest v).batStep) ∧
  (∀ acc, s.bat.st = .fault → s.stopPresent = false →
    Takes (.batCmdClear acc) s acc Obj.batCmd 1 (s.batEnter .ready).batStep) ∧
  (s.running → s.hasStage → exec .batterySample s = .next s.batSample) ∧
  (∀ acc v, Takes (.socSetWrite acc v) s acc Obj.socSet v (s.batSet fun b => { b with socPend := some v })) ∧
  (∀ t u, s.bat.restAt = some t → s.running → s.hasStage → s.og Obj.restT ≠ 0 → s.bat.restDone = false →
    u = s.toTb2 (t + s.og Obj.restT * 1000000000) → exec .socRestReset s = .next
      (((u.batSet fun b => { b with q := u.socCharge u.ocvSoc, restDone := true }).bump Obj.socResets).irqPost 9 2))

/-- The loop engine (R247, R249, R259, R260, R263, R269 to R273). -/
def Obligations.LoopCommandsComplete : Prop := ∀ (s : State),
  (∀ (g : Fin 4) t, s.working → s.og (Obj.groupSrc g.val) = 2 → s.subtickNext g.val < s.og (Obj.groupRate g.val) →
    t = s.loopTo0 (s.tm.cueStart + 8 * (s.subtickNext g.val * s.tm.cueLen / s.og (Obj.groupRate g.val))) →
    ∃ u, exec (.loopGroupStart g) s = .next (u.groupArrive g.val u.now8) ∧
      u = t.setGroup g.val { t.grpRec g.val with cue := some t.tm.cue, j := s.subtickNext g.val + 1 }) ∧
  (∀ acc ch d, s.descOk d → TakesBytes (.loopDescWrite acc ch d) s acc (Obj.loopDesc ch) d
    ((s.dset (Obj.loopDesc ch) d).loopPend ch (.desc d))) ∧
  (∀ acc ch d, rd d 256 4 = crc32 (d.take 256) → TakesBytes (.loopGtabWrite acc ch d) s acc (Obj.loopGtab ch) d
    ((s.dset (Obj.loopGtab ch) d).loopPend ch (.gtab d))) ∧
  (∀ acc ch v, fld v 63 54 = 0 → fld v 47 32 = 0 → Takes (.gtabPokeWrite acc ch v) s acc (Obj.gtabPoke ch) v
    ((s.dset (Obj.loopGtab ch) (sealGtab (patch (s.dg (Obj.loopGtab ch)) (4 * fld v 53 48)
      (leBytes 2 (fld v 31 16) ++ leBytes 2 (fld v 15 0))))).loopPend ch (.poke (fld v 53 48) (fld v 31 16) (fld v 15 0)))) ∧
  (∀ acc ch v, toI 16 v ≤ dI16 (s.dg (Obj.loopDesc ch)) 28 →
    Takes (.loopLimitWrite acc 0 ch v) s acc (limitKey 0 ch) v (s.loopField ch 26 2 v)) ∧
  (∀ acc ch v, dI16 (s.dg (Obj.loopDesc ch)) 26 ≤ toI 16 v →
    Takes (.loopLimitWrite acc 1 ch v) s acc (limitKey 1 ch) v (s.loopField ch 28 2 v)) ∧
  (∀ acc ch v, toI 16 v ≤ dI16 (s.dg (Obj.loopDesc ch)) 32 →
    Takes (.loopLimitWrite acc 2 ch v) s acc (limitKey 2 ch) v (s.loopField ch 30 2 v)) ∧
  (∀ acc ch v, dI16 (s.dg (Obj.loopDesc ch)) 30 ≤ toI 16 v →
    Takes (.loopLimitWrite acc 3 ch v) s acc (limitKey 3 ch) v (s.loopField ch 32 2 v)) ∧
  (∀ acc ch v, dI16 (s.dg (Obj.loopDesc ch)) 28 < toI 16 v →
    Refuses (.loopLimitWrite acc 0 ch v) s acc (limitKey 0 ch) v 6) ∧
  (∀ acc ch v, Takes (.intSetWrite acc ch v) s acc (Obj.intSet ch) v
    (s.setCh ch { s.loopCh ch with intSet := some (s.ctlCycle, toI 16 v) })) ∧
  (∀ acc ch v, v ≤ 15 → Takes (.loopFlagsWrite acc ch v) s acc (Obj.loopFlags ch) v (s.loopField ch 7 1 v)) ∧
  (∀ acc, s.loop.injOn = false → s.chOn (s.og Obj.injCh) → (s.loopCh (s.og Obj.injCh)).fallback = false →
    Takes (.injCmdStart acc) s acc Obj.injCmd 1 ((s.loopSet fun l => { l with
      injOn := true, injCh := s.og Obj.injCh, injN := 0, prbs := 0x7FFF, injRec := true, resp := [] }).oset Obj.injState 1)) ∧
  (∀ acc, s.loop.injOn → Takes (.injCmdStop acc) s acc Obj.injCmd 2 (s.injEnd 2)) ∧
  (∀ acc, s.loop.injOn → Refuses (.injCmdStart acc) s acc Obj.injCmd 1 6)

/-- Measurement: sequences, results, the reference buffer, self-calibration (R279 to R282, R284, R285, R288 to R290,
R294). The rounding of a calibration's mean is the model's choice (log entry 49). -/
def Obligations.MeasurementCommandsComplete : Prop := ∀ (s : State),
  (∀ acc d t, s.setupWrite (fun u => u.dset Obj.seqabTable d) = .ok t →
    TakesBytes (.seqTableWrite (.table acc false d)) s acc Obj.seqabTable d t) ∧
  (∀ p c n v t, s.working → applySeqEntry c n.val v s = .ok t → exec (.seqTableWrite (.entry p c n v)) s = .next t) ∧
  (∀ (q : Fin 8) t, s.running → s.seqTrigOf q.val = 4 → (s.seqRec q.val).timer = some t →
    ∃ u, exec (.seqTimer q) s = .next (u.seqStart q.val u.now8) ∧ u = (s.toTb2 t).setSeq q.val
      { (s.toTb2 t).seqRec q.val with timer := some (max t (s.toTb2 t).tm.tb2 + (s.toTb2 t).seqPeriodOf q.val) }) ∧
  (∀ acc (q : Fin 8), s.seqReserved q.val = false → s.seqTrigOf q.val = 5 →
    Takes (.seqCmdStart acc q) s acc (Obj.seqCmd q.val) 1 (s.seqStart q.val s.now8)) ∧
  (∀ acc (q : Fin 8), s.seqReserved q.val → Refuses (.seqCmdStart acc q) s acc (Obj.seqCmd q.val) 1 6) ∧
  (∀ p m, s.working → exec (.adcSwstart p m) s = .next ((List.range 8).foldl (fun t q =>
    if hasBit m q ∧ t.seqTrigOf q = 5 then t.seqStart q t.now8 else t) s)) ∧
  (∀ q : Fin 8, s.running → exec (.entrySample q) s = .next (s.entrySample q.val)) ∧
  (∀ q raws n x l k i t u v, s.running → openFirst (s.seqRec q.val) = some (x, l) → t = s.groupsTill 256 x.2.2.1 →
    t.resultWrite q.val raws = some (k, i, u) → q.val ≠ 4 → v = ((u.monitorResult k i).measResult k).safUpdate n →
    exec (.resultWrite q raws n) s = .next (if (v.seqRec q.val).running = true ∧
      (v.seqRec q.val).starts = (t.seqRec q.val).starts then v else v.capBaseAll 3 (fun a => a == q.val))) ∧
  (∀ q raws n, s.running → (s.seqRec q.val).open_ = [] → exec (.resultWrite q raws n) s = .next s) ∧
  (∀ p (n : Fin 64), s.working → exec (.adcResultRead p true n) s =
    .next ((s.resRead (64 + n.val) (some p.val)).emit (.word p.val (resWord (s.resShown (64 + n.val)) (some p.val))))) ∧
  (∀ p (n : Fin 64), s.working → exec (.adcResultRead p false n) s =
    .next ((s.resRead n.val (some p.val)).emit (.word p.val (resWord (s.resShown n.val) (some p.val))))) ∧
  (∀ acc (n : Fin 64) c, Serves s acc (if c then Obj.resC n.val else Obj.resAb n.val) → ∃ t d,
    exec (.resultObjectRead acc c n) s = .next (t.emit (.data acc (if c then Obj.resC n.val else Obj.resAb n.val) d.length d)) ∧
    t = (s.answer acc (if c then Obj.resC n.val else Obj.resAb n.val) 0 false).resRead (if c then 64 + n.val else n.val)
      (accSeat acc) ∧ rd d 0 2 = (s.resShown (if c then 64 + n.val else n.val)).code % 2 ^ 16) ∧
  (∀ acc v, v ≤ 1 → Takes (.refEnWrite (.obj acc) v) s acc Obj.refEn v (s.setRef (v == 1))) ∧
  (∀ p v, s.working → exec (.refEnWrite (.reg p) v) s = .next (s.setRef (v % 2 == 1))) ∧
  (∀ t u, s.adc.refAt = some t → s.running → s.adc.refReady = false →
    u = ((s.toTb2 (t + 2000000)).adcSet fun w => { w with refReady := true }).irqPost 16 4 →
    exec .refReadyTimer s = .next (if u.adc.calOnce then u else u.calStart)) ∧
  (∀ acc, s.isCell → s.ring.node.admitted = false → s.isHead = false → s.adc.refReady → s.adc.cal ≠ 1 →
    Takes (.calCmd (.obj acc)) s acc Obj.calCmd 1 s.calStart) ∧
  (∀ a b, s.running → s.adc.cal = 1 → calMeanOk a → calMeanOk b → exec (.calDone a b) s = .next
    ((((s.toTb2 (s.adc.calAt + 16000)).irqPost 16 3).adcSet fun w =>
      { w with cal := 2, ofsA := calMean a, ofsB := calMean b }).release 35 0)) ∧
  (∀ a b, s.running → s.adc.cal = 1 → calMeanOk a = false ∨ calMeanOk b = false → exec (.calDone a b) s = .next
    ((((s.toTb2 (s.adc.calAt + 16000)).irqPost 16 3).adcSet fun w => { w with cal := 3 }).raise 35 0))

/-- Capture streams and the PANTRY (R297, R301, R303, R305, R306, R308 to R310). -/
def Obligations.CaptureCommandsComplete : Prop := ∀ (s : State),
  (∀ (n : Fin 8) j t u, s.working → n.val < s.capCount → (s.stream n.val).st ≠ .stopped → s.og (Obj.sampleSrc n.val) = 1 →
    sampleArgOk 1 (s.og (Obj.sampleArg n.val)) → j < s.og (Obj.sampleArg n.val) →
    j = (if (s.stream n.val).cue = some s.tm.cue then (s.stream n.val).j else 0) →
    t = s.loopTo0 (s.tm.cueStart + 8 * (j * s.tm.cueLen / s.og (Obj.sampleArg n.val))) →
    u = (subtickWith t (j * s.tm.cueLen / s.og (Obj.sampleArg n.val))).foldl (fun x m => x.capTest m) t →
    exec (.captureBaseSample n) s =
      .next ((u.setStream n.val { u.stream n.val with cue := some u.tm.cue, j := j + 1 }).capBase n.val)) ∧
  (∀ acc n, (s.stream n).st = .stopped → s.og (Obj.capPre n) = 0 → Takes (.capCmdStart acc n) s acc (Obj.capCmd n) 1
    (s.setStream n { CapStream.reset with
      st := .armed, stats := (s.stream n).stats, stage := (s.stream n).stage, rd := (s.stream n).rd,
      win := (s.stream n).win, block := none, cue := some s.tm.cue, j := s.subticksPast n })) ∧
  (∀ acc n, (s.stream n).st ≠ .stopped → Refuses (.capCmdStart acc n) s acc (Obj.capCmd n) 1 6) ∧
  (∀ acc n, (s.stream n).st ≠ .stopped → Takes (.capCmdStop acc n) s acc (Obj.capCmd n) 2 (s.capStop n)) ∧
  (∀ acc n, (s.stream n).st = .disarmed → Takes (.capCmdArm acc n) s acc (Obj.capCmd n) 3 (s.capArm n)) ∧
  (∀ acc n, (s.stream n).st ≠ .stopped → Takes (.capCmdForce acc n) s acc (Obj.capCmd n) 4 (capTrigger 9 n 7 s.tm.tb0 s)) ∧
  (∀ n : Fin 8, s.working → n.val < s.capCount → 1 ≤ s.og (Obj.trigSrc n.val) → s.og (Obj.trigSrc n.val) ≤ 6 →
    exec (.captureTrigger n) s = .next (capTrigger 9 n.val (s.og (Obj.trigSrc n.val)) s.tm.tb0 s)) ∧
  (∀ n : Fin 8, s.working → (s.stream n.val).st = .holdoff → s.og (Obj.holdoffMode n.val) = 1 →
    exec (.captureHoldoffExpiry n) s =
      .next ((s.toTb2 ((s.stream n.val).holdAt + 1000 * s.og (Obj.holdoffT n.val))).holdEnd n.val)) ∧
  (∀ acc v w, s.cap.wins.find? (fun w => w.id == v && w.ready) = some w →
    Takes (.winReleaseWrite acc v) s acc Obj.winRelease v
      ((s.capSet fun c => { c with wins := c.wins.filter (fun w => w.id != v) }).pantryRelease (some (w.base, w.len)))) ∧
  (∀ p (n : Fin 8) v, s.working → s.accPresent (.path p) → n.val < s.capCount →
    exec (.capqRdWrite p n v) s = .next (s.capqRd p.val n.val (v % 2 ^ 20)))


/-- The bit instructions of the sequence logic: while a cycle executes and the operand lies in its area, RLO and the bit
become what Table 12-3 says and the engine goes on one SYS cycle later (R320, R321). -/
def Obligations.SequenceBitInstructionsComplete : Prop := ∀ (s : State) (a : Fin 16) (o : Nat), s.activeHead → s.sl.busy →
  (operandOk .bitR a.val o s.slNObj s.slCodeLen →
    exec (.slLdb a o) s = .next ((s.setRlo (s.slBit a.val o)).slNext 1) ∧
    exec (.slLdnb a o) s = .next ((s.setRlo (!s.slBit a.val o)).slNext 1) ∧
    exec (.slAndb a o) s = .next ((s.setRlo (s.sl.rlo && s.slBit a.val o)).slNext 1) ∧
    exec (.slAndnb a o) s = .next ((s.setRlo (s.sl.rlo && !s.slBit a.val o)).slNext 1) ∧
    exec (.slOrb a o) s = .next ((s.setRlo (s.sl.rlo || s.slBit a.val o)).slNext 1) ∧
    exec (.slOrnb a o) s = .next ((s.setRlo (s.sl.rlo || !s.slBit a.val o)).slNext 1)) ∧
  (operandOk .bitW a.val o s.slNObj s.slCodeLen →
    exec (.slStb a o) s = .next ((s.slSetBit a.val o s.sl.rlo).slNext 1) ∧
    exec (.slSetb a o) s = .next ((if s.sl.rlo then s.slSetBit a.val o true else s).slNext 1) ∧
    exec (.slRstb a o) s = .next ((if s.sl.rlo then s.slSetBit a.val o false else s).slNext 1)) ∧
  (operandOk .bitM a.val o s.slNObj s.slCodeLen →
    exec (.slRtrig a o) s =
      .next (((s.slSetBit a.val o s.sl.rlo).setRlo (s.sl.rlo && !s.slBit a.val o)).slNext 1))

/-- The word instructions of the sequence logic: ACC, RLO and the word become what Table 12-3 says, saturated to I32; MUL,
FIX and TON take two SYS cycles (R320, R321). -/
def Obligations.SequenceWordInstructionsComplete : Prop := ∀ (s : State) (a : Fin 16) (o : Nat), s.activeHead → s.sl.busy →
  (operandOk .wordR a.val o s.slNObj s.slCodeLen →
    exec (.slLd a o) s = .next ((s.setAcc (toI 32 (s.slWord a.val o))).slNext 1) ∧
    exec (.slAdd a o) s = .next ((s.setAcc (s.accI + toI 32 (s.slWord a.val o))).slNext 1) ∧
    exec (.slSub a o) s = .next ((s.setAcc (s.accI - toI 32 (s.slWord a.val o))).slNext 1) ∧
    exec (.slMul a o) s = .next ((s.setAcc (s.accI * toI 32 (s.slWord a.val o))).slNext 2) ∧
    exec (.slCmpgt a o) s = .next ((s.setRlo (decide (toI 32 (s.slWord a.val o) < s.accI))).slNext 1) ∧
    exec (.slCmpeq a o) s = .next ((s.setRlo (decide (s.accI = toI 32 (s.slWord a.val o)))).slNext 1) ∧
    exec (.slCmplt a o) s = .next ((s.setRlo (decide (s.accI < toI 32 (s.slWord a.val o)))).slNext 1) ∧
    (F32.isNaN (s.slWord a.val o) = false → F32.isInf (s.slWord a.val o) = false →
      exec (.slFix a o) s = .next ((s.setAcc (roundAway (F32.val (s.slWord a.val o) * 1024))).slNext 2)) ∧
    (F32.isNaN (s.slWord a.val o) → exec (.slFix a o) s = .next ((s.setAcc 0).slNext 2))) ∧
  (operandOk .wordW a.val o s.slNObj s.slCodeLen →
    exec (.slSt a o) s = .next ((s.slWrite a.val (o % 2 ^ 22) s.sl.acc).slNext 1)) ∧
  (operandOk .timer a.val o s.slNObj s.slCodeLen → ∀ n t,
    n = (if s.sl.rlo then min (s.slRead 6 (o % 2 ^ 22 + 1) + 1) (s.slRead 6 (o % 2 ^ 22)) else 0) →
    t = s.slWrite 6 (o % 2 ^ 22 + 1) n →
    exec (.slTon a o) s =
      .next ((t.setRlo (decide (t.slRead 6 (o % 2 ^ 22) ≤ t.slRead 6 (o % 2 ^ 22 + 1)))).slNext 2))

/-- The control instructions of the sequence logic (R318, R321, R328, R337, Table 12-3): jumps, END, and the requests that
wait for the write point. -/
def Obligations.SequenceControlInstructionsComplete : Prop := ∀ (s : State) (o : Nat), s.activeHead → s.sl.busy →
  (operandOk .jump 0 o s.slNObj s.slCodeLen →
    exec (.slJmp o) s = .next (s.slStep 1 (o % 2 ^ 22)) ∧
    exec (.slJmpc o) s = .next (if s.sl.rlo then s.slStep 1 (o % 2 ^ 22) else s.slNext 1) ∧
    exec (.slJmpn o) s = .next (if s.sl.rlo then s.slNext 1 else s.slStep 1 (o % 2 ^ 22))) ∧
  (∃ t : State, exec .slEnd s = .next t ∧ t.sl.busy = false ∧ t.sl.ended = true ∧ t.sl.writes = s.sl.writes ∧
    t.sl.used = s.sl.used + 1) ∧
  (operandOk .obj 0 o s.slNObj s.slCodeLen → exec (.slWrobj o) s = .next ((if s.sl.rlo then
    s.slSet fun w => { w with writes := w.writes ++ [(o % 2 ^ 22, w.acc)] } else s).slNext 2)) ∧
  (exec .slMode s = .next
    ((if s.sl.rlo then s.slSet fun w => { w with wantModes := w.wantModes ++ [w.acc % 16] } else s).slNext 2)) ∧
  (exec .slSack s = .next
    ((if s.sl.rlo then s.slSet fun w => { w with sacks := w.sacks ++ [w.acc] } else s).slNext 1))

/-- An operand outside its area stops the machine by name: no verified image holds such an instruction (R320, R329); where
no cycle executes an instruction has no effect. The stop is the model's choice (log entry 6). -/
def Obligations.SequenceOperandOutsideItsAreaStops : Prop := ∀ (s : State) (a : Fin 16) (o : Nat),
  (s.activeHead → s.sl.busy → operandOk .bitR a.val o s.slNObj s.slCodeLen = false →
    exec (.slLdb a o) s = .fault .noSuchOperand ∧ exec (.slOrnb a o) s = .fault .noSuchOperand) ∧
  (s.activeHead → s.sl.busy → operandOk .wordW a.val o s.slNObj s.slCodeLen = false →
    exec (.slSt a o) s = .fault .noSuchOperand) ∧
  (s.activeHead → s.sl.busy → operandOk .jump 0 o s.slNObj s.slCodeLen = false →
    exec (.slJmp o) s = .fault .noSuchOperand) ∧
  (s.sl.busy = false → exec (.slLdb a o) s = .next s ∧ exec (.slSt a o) s = .next s ∧ exec (.slJmp o) s = .next s)

/-- An instruction of the sequence logic that stores nothing leaves M, the outputs, every buffer and every other block as
they were: it changes RLO or ACC, the place in the program, and the time bases (R321). After the first instruction of a
cycle it leaves every object, register, gate and flag too; before the first the loop channels that start in the 64 SYS
cycles ahead of it execute (R250, Table 12-1). -/
def Obligations.SequenceLogicFrame : Prop := ∀ (s t : State) (a : Fin 16) (o : Nat),
  (exec (.slLdb a o) s = .next t ∨ exec (.slAndnb a o) s = .next t ∨ exec (.slOrb a o) s = .next t ∨
    exec (.slLd a o) s = .next t ∨ exec (.slMul a o) s = .next t ∨ exec (.slCmpgt a o) s = .next t ∨
    exec (.slFix a o) s = .next t ∨ exec (.slJmpc o) s = .next t) →
  t.doms = s.doms ∧ t.sl.m = s.sl.m ∧ t.sl.lq = s.sl.lq ∧ t.sl.sq = s.sl.sq ∧ t.sl.writes = s.sl.writes ∧
  t.sl.act = s.sl.act ∧ t.ring = s.ring ∧ t.pw = s.pw ∧ t.seat = s.seat ∧ t.mem = s.mem ∧ t.pending = s.pending ∧
  t.out = s.out ∧
  (s.sl.used ≠ 0 → t.objs = s.objs ∧ t.regs = s.regs ∧ t.irq = s.irq ∧ t.flt = s.flt ∧ t.pwm = s.pwm ∧ t.bat = s.bat ∧
    t.loop = s.loop ∧ t.cap = s.cap ∧ t.work = s.work ∧ t.pair = s.pair)

/-- A store to M changes that word of M alone, as the forces on it leave it, and marks its 64-byte line; a store to LQ
changes LQ alone, of 8 bits (R320, R321, R333, R395). What the loop channels ahead of a cycle's first instruction change
apart, no object, register, gate or flag changes. -/
def Obligations.SequenceStoreFrame : Prop := ∀ (s t : State) (o : Nat), s.activeHead → s.sl.busy →
  (exec (.slSt 6 o) s = .next t →
    t.sl.m = Kv.put (fun _ => 0) (o % 2 ^ 22) (s.forced 6 (o % 2 ^ 22) (s.sl.acc % 2 ^ 32)) s.sl.m ∧
    t.pair.marked = insertNat (o % 2 ^ 22 / 16) s.pair.marked ∧ t.sl.lq = s.sl.lq ∧ t.sl.sq = s.sl.sq ∧
    t.sl.rlo = s.sl.rlo ∧ t.sl.acc = s.sl.acc ∧ t.doms = s.doms ∧ t.out = s.out ∧ t.pending = s.pending ∧
    (s.sl.used ≠ 0 → t.objs = s.objs ∧ t.regs = s.regs ∧ t.irq = s.irq ∧ t.pwm = s.pwm)) ∧
  (exec (.slSt 2 o) s = .next t →
    t.sl.lq = s.sl.acc % 256 ∧ t.sl.m = s.sl.m ∧ t.sl.sq = s.sl.sq ∧ t.pair = s.pair ∧ t.sl.rlo = s.sl.rlo ∧
    t.sl.acc = s.sl.acc ∧ t.doms = s.doms ∧ t.out = s.out ∧ t.pending = s.pending ∧
    (s.sl.used ≠ 0 → t.objs = s.objs ∧ t.regs = s.regs ∧ t.irq = s.irq ∧ t.pwm = s.pwm))


/-- The commands of the sequence logic engine, its image and its stations (R316, R323, R326 to R331, R333, R334, R337). -/
def Obligations.SequenceEngineCommandsComplete : Prop := ∀ (s : State),
  (∀ acc, s.slReady → s.sl.nextAt.isSome →
    Takes (.slCmdRun acc) s acc Obj.slCmd 1 (s.slSet fun w => { w with cmd := some 1 })) ∧
  (∀ acc, s.slReady = false → Refuses (.slCmdRun acc) s acc Obj.slCmd 1 6) ∧
  (∀ acc, s.slReady → s.sl.nextAt = none →
    Takes (.slCmdRun acc) s acc Obj.slCmd 1 ((s.slPhase).slSet fun w => { w with cmd := some 1 })) ∧
  (∀ acc, Takes (.slCmdStop acc) s acc Obj.slCmd 2 (s.slSet fun w => { w with cmd := some 2 })) ∧
  (∀ acc, s.sl.act = 0 → s.sl.ok1 → s.sl.st = .run →
    Takes (.slCmdRevert acc) s acc Obj.slCmd 3 (s.slSet fun w => { w with revert := true })) ∧
  (∀ acc, s.sl.act = 0 → s.sl.ok1 → s.sl.st ≠ .run →
    Takes (.slCmdRevert acc) s acc Obj.slCmd 3 (s.slSwitch true false)) ∧
  (∀ acc v, 5 ≤ v → v ≤ 5000 → s.sl.st = .stop → s.sl.mode = .idle → s.sl.nextAt = none →
    Takes (.slCuesWrite acc v) s acc Obj.slCues v (s.oset Obj.slCues v)) ∧
  (∀ acc v, 5 ≤ v → v ≤ 5000 → s.sl.st = .run → Refuses (.slCuesWrite acc v) s acc Obj.slCues v 6) ∧
  (∀ acc d t, State.applySlLoad d s = .ok t → TakesBytes (.slLoadWrite acc d) s acc Obj.slLoad d t) ∧
  (∀ acc, s.sl.chg ≠ .verifying → s.sl.chg ≠ .armed → mForced (s.dg Obj.forceTable) = false →
    Takes (.slChange acc) s acc Obj.slChange 1 ((s.slSet fun w => { w with chgClear := false }).setChg .verifying)) ∧
  (∀ acc, s.sl.chg ≠ .verifying → s.sl.chg ≠ .armed → mForced (s.dg Obj.forceTable) →
    Refuses (.slChange acc) s acc Obj.slChange 1 6) ∧
  (∀ acc, s.sl.chg ≠ .verifying → s.sl.chg ≠ .armed →
    Takes (.slChangeClearForces acc) s acc Obj.slChange 2 ((s.slSet fun w => { w with chgClear := true }).setChg .verifying)) ∧
  (s.headOn → s.sl.chg = .verifying → exec .slVerifyDone s = .next s.slVerify) ∧
  (∀ acc d old, forceOk d → old = (match s.sl.forceOld with
      | some e => if e.1 = s.tm.tb2 / 2 then e.2 else s.dg Obj.forceTable
      | none => s.dg Obj.forceTable) →
    TakesBytes (.forceTableWrite acc d) s acc Obj.forceTable d
      ((s.dset Obj.forceTable d).slSet fun w => { w with forceOld := some (s.tm.tb2 / 2, old) })) ∧
  (∀ acc v, v < 1152 → (s.stn v).st = .returning → Takes (.stnReadmitWrite acc v) s acc Obj.stnReadmit v
    (s.setStn v { s.stn v with readmit := true })) ∧
  (∀ acc d, rd d 0 1 ≤ 14 → rd d 1 1 = 0 → rd d 4 4 = 0 → rd d 2 2 < 4096 →
    s.modeRefused (rd d 0 1) (rd d 8 8 % 2 ^ 32) = false → TakesBytes (.modeReqWrite acc d) s acc Obj.modeReq d
      ((s.dset Obj.modeReq d).modeAccept (rd d 0 1) (rd d 8 8 % 2 ^ 32) (rd d 2 2))) ∧
  (∀ pins a, s.sl.nextAt = some a → s.activeHead → cueFrom s.tm.cue a →
    exec (.slCycleStart pins) s = .next (s.slCycleStart pins)) ∧
  (∀ p f e r, Received s p f e 0x30 true r → r.st.cellOn → r.hdr.flags = 0x80 → hopOf r.hdr.dst = 127 →
    exec (.stationOut p f e) s = .next (r.st.takeStationOut p r.hdr r.pl)) ∧
  (∀ p f e r, Received s p f e 0x31 true r → r.st.activeHead → r.pl.length = 16 → r.hdr.flags = 0x80 →
    1 ≤ hopOf r.hdr.src → hopOf r.hdr.src ≤ 96 → exec (.stationResponse p f e) s =
      .next (r.st.stnResponse (96 * r.st.ringOfPort p + hopOf r.hdr.src - 1) r.pl)) ∧
  (s.cellOn → s.og Obj.stnTimeout ≤ s.sl.cAge → s.og Obj.stnState ≠ 2 → exec .stnTimeout s =
    .next (((s.drive 7 false s.tm.tb0).slSet fun w => { w with lqOut := 0 }).oset Obj.stnState 2))


/-- The safety block: configuration, CRC, inputs, outputs, the supply windows (R343, R345, R346, R356, R362, R363,
Table 13-7). -/
def Obligations.SafetyBlockCommandsComplete : Prop := ∀ (s : State),
  (∀ acc, s.saf.st = .run → Takes (.safeCmdConfig acc) s acc Obj.safeCmd 1 ((s.setSaf .config).safUpdate 0)) ∧
  (∀ acc, s.saf.st ≠ .run → Refuses (.safeCmdConfig acc) s acc Obj.safeCmd 1 6) ∧
  (∀ acc, s.saf.st = .config → Takes (.safeCmdVerify acc) s acc Obj.safeCmd 2 s.safVerify) ∧
  (∀ acc, s.saf.st ≠ .config → Refuses (.safeCmdVerify acc) s acc Obj.safeCmd 2 6) ∧
  (s.working → s.saf.st = .run → s.safCrc = (s.oset Obj.safeCrcNow s.safCrc).og Obj.safeCrc →
    exec .safeCrcCheck s = .next (s.oset Obj.safeCrcNow s.safCrc)) ∧
  (s.working → s.saf.st = .run → s.safCrc ≠ (s.oset Obj.safeCrcNow s.safCrc).og Obj.safeCrc →
    exec .safeCrcCheck s = .next (s.oset Obj.safeCrcNow s.safCrc).safLockout) ∧
  (s.working → exec .planeMismatch s = .next s.safLockout) ∧
  (∀ l n, s.working → exec (.siSample l n) s = .next (s.siSample l n)) ∧
  (∀ (i : Fin 4) per off t u, s.working → (s.soRec i.val).on → (s.soRec i.val).pulse = none →
    (s.soRec (if i.val % 2 = 0 then i.val + 1 else i.val - 1)).pulse = none → per = s.og (Obj.soTpPeriod i.val) * 1000000 →
    off = (if i.val % 2 = 0 then 0 else per / 2) → t = (s.tm.tb2 + per - 1 - off) / per * per + off →
    (s.soRec i.val).lastPulse ≠ some t → u = s.toTb2 t → exec (.soTestPulse i) s =
      .next (u.setSo i.val { s.soRec i.val with pulse := some t, lowSeen := false, lastPulse := some t })) ∧
  (∀ (i : Fin 4) t, (s.soRec i.val).pulse = some t → s.working → exec (.soTestPulseEnd i) s =
    .next ((s.toTb2 (t + s.og (Obj.soTpWidth i.val) * 1000)).setSo i.val
      { s.soRec i.val with pulse := none, lows := 0, highs := 0 })) ∧
  (∀ (i : Fin 4) l n, s.working → exec (.soReadbackSample i l n) s = .next (s.soSample i.val l n)) ∧
  (∀ i n, s.running → 17 ≤ i → i ≤ 23 → exec (.supplyWindowComparator i true n) s = .next
    ((((s.safSet fun w => { w with supply := setBit s.saf.supply i }).raise 9 i).diagStop).safUpdate n)) ∧
  (∀ i n, s.running → 17 ≤ i → i ≤ 23 → exec (.supplyWindowComparator i false n) s = .next
    (((s.safSet fun w => { w with supply := clrBit s.saf.supply i }).release 9 i).safUpdate n))

/-- Safe messages, their supervision, the CURTAIN of a ring and the safety tests (R350, R353, R370 to R372, R376 to
R378). -/
def Obligations.SafetyMessageCommandsComplete : Prop := ∀ (s : State),
  (∀ (p : Fin 2) m n, s.headOn → exec (.safeMessage (.net p m) n) s = .next ((s.safNet p.val m).safUpdate n)) ∧
  (∀ p f e n r, Received s p f e 0x20 true r → r.st.isCell → r.st.addressed r.hdr → exec (.safeMessage (.ring p f e) n) s =
    .next ((r.st.safRing (r.st.ringOfPort p) p r.hdr.src r.hdr.dst r.pl).safUpdate n)) ∧
  (∀ c, s.activeHead → c < 16 → s.sconnUsed c → exec (.safeTxTimer c) s =
    .next ((s.toTb2 ((s.sconn c).sentAt + rd (s.dg (Obj.sconnCfg c)) 6 2 * 1000000)).safSend c)) ∧
  (∀ c, s.activeHead → 0x2000 ≤ c → c < 0x200C → rd (s.dg Obj.scellCfg) 0 2 ≤ subMod 32 s.tm.cue (s.sconn c).sentCue →
    s.portUp (c - 0x2000) ∨ s.farReachable (c - 0x2000) → exec (.safeTxTimer c) s = .next (s.safSend c)) ∧
  (∀ c t u, s.working → (s.sconn c).st = 1 → s.sconnUsed c → (s.sconn c).lagAt = none →
    t = s.toTb2 ((s.sconn c).at2 + s.sconnWd c) → u = (t.setSconn c { s.sconn c with st := 2 }).connLog 5 c (t.sconnEcho c) →
    exec (.safeWatchdogTimeout c) s = .next ((((u.safIrq 5).raise 6 c).diagStop).safUpdate 0)) ∧
  (∀ c, s.working → 8 ≤ (s.sconn c).missA → (s.sconn c).lostA = false →
    exec (.safePathLoss c 0) s = .next ((s.setSconn c { s.sconn c with lostA := true }).raise 7 c)) ∧
  (∀ c, s.working → 8 ≤ (s.sconn c).missB → (s.sconn c).lostB = false →
    exec (.safePathLoss c 1) s = .next ((s.setSconn c { s.sconn c with lostB := true }).raise 7 c)) ∧
  (∀ p t u l, Kv.get (fun _ => none) s.saf.relAt p = some t → s.activeHead → (s.ringRec p).curtain = false →
    u = s.toTb2 (t + 3520) → l = (u.tm.cue + Kv.get (fun _ => 2) u.saf.lead p) % 2 ^ 32 →
    ∃ v, exec (.curtainLiftDelay p) s = .next (v.sendLift p (v.ringCast p) l) ∧ v = u.safSet fun w => { w with
      relAt := Kv.put (fun _ => none) p none w.relAt, lift := Kv.put (fun _ => none) p (some l) w.lift }) ∧
  (∀ p n t, s.activeHead → hasBit s.saf.unexp p → t = s.toTb2 (Kv.get (fun _ => 0) s.saf.unexpAt p + 205) →
    exec (.curtainUnexpEnd p n) s = .next ((t.safSet fun w => { w with unexp := clrBit w.unexp p }).safUpdate n)) ∧
  (∀ acc d t, State.applySafeTest d s = .ok t → TakesBytes (.safeTestWrite acc d) s acc Obj.safeTest d t) ∧
  (∀ t, s.saf.test = some t → s.working → exec .safeTestEnd s = .next (s.safTestEnd t))


/-- The fault collector and the fences (R383, R385 to R392, Table 14-3). -/
def Obligations.FaultCommandsComplete : Prop := ∀ (s : State),
  (∀ src inst, s.running → exec (.faultPinAssert [(src, inst)]) s = .next (s.raise src inst)) ∧
  (∀ pins, s.running → exec (.faultPinAssert pins) s = .next (pins.foldl (fun t p => t.raise p.1 p.2) s)) ∧
  (∀ src inst, s.running → exec (.faultPinRelease src inst) s = .next (s.release src inst)) ∧
  (∀ src, s.running → (s.fsrc src).st = .quiet → exec (.faultQuietExpiry src) s =
    .next ((s.toTb2 ((s.fsrc src).quietAt + s.og (Obj.fltQuiet src) * 1000000)).quietEnd src)) ∧
  (∀ src t, s.running → s.og Obj.fltForgive ≠ 0 → 0 < (s.fsrc src).rcnt → (s.fsrc src).st ≠ .latched → (s.fsrc src).on = [] →
    t = s.toTb2 ((s.fsrc src).lastAt + s.og Obj.fltForgive * 1000000000) → exec (.faultForgiveExpiry src) s =
      .next (t.setFsrc src { s.fsrc src with rcnt := (s.fsrc src).rcnt - 1, lastAt := t.tm.tb2 })) ∧
  (∀ acc, Takes (.fltCmdEmpty (.obj acc)) s acc Obj.fltCmd 1 s.fltEmpty) ∧
  (∀ p, s.running → s.accPresent (.path p) → exec (.fltCmdEmpty (.reg p)) s = .next s.fltEmpty) ∧
  (∀ acc, Takes (.fltCmdClearLatched (.obj acc)) s acc Obj.fltCmd 2 (s.fltClear (2 ^ 64 - 1))) ∧
  (∀ p, s.running → s.accPresent (.path p) → exec (.fltCmdClearLatched (.reg p)) s = .next (s.fltClear (2 ^ 64 - 1))) ∧
  (∀ acc, s.pw.faultHold → Takes (.fltCmdRelease (.obj acc)) s acc Obj.fltCmd 3 s.holdRelease) ∧
  (∀ acc, s.pw.faultHold = false → Refuses (.fltCmdRelease (.obj acc)) s acc Obj.fltCmd 3 6) ∧
  (∀ p, s.running → s.accPresent (.path p) → s.pw.faultHold → exec (.fltCmdRelease (.reg p)) s = .next s.holdRelease) ∧
  (∀ acc (w : Fin 2) m, s.running → s.accPresent acc →
    exec (.fltFstatClear acc w m) s = .next (s.fltClear (m % 2 ^ 32 * 2 ^ (32 * w.val)))) ∧
  (∀ w, s.powered → exec (.collectorSelfCheck w) s = .next (s.selfCheck w)) ∧
  (∀ acc p h, p < 12 → 1 ≤ h → h ≤ 96 → (s.cellRec (96 * p + h - 1)).st ≠ .none →
    Takes (.fenceCmdFence acc p h) s acc Obj.fenceCmd (0x10000 + p * 256 + h)
      ((s.fence (96 * p + h - 1) 46 false).fltSet fun f => { f with
        byp := Kv.put (fun _ => false) (96 * p + h - 1) false f.byp })) ∧
  (∀ acc p h, p < 12 → 1 ≤ h → h ≤ 96 → (s.cellRec (96 * p + h - 1)).st ≠ .none → s.cellNamed (96 * p + h - 1) = false →
    (∀ r, (s.cellRec (96 * p + h - 1)).last = some r → hasBit r.rstat 11 = false) →
    Takes (.fenceCmdUnfence acc p h) s acc Obj.fenceCmd (0x20000 + p * 256 + h) (s.unfence (96 * p + h - 1))) ∧
  (∀ acc p h, p < 12 → 1 ≤ h → h ≤ 96 → (s.cellRec (96 * p + h - 1)).st ≠ .none → s.cellNamed (96 * p + h - 1) →
    Refuses (.fenceCmdUnfence acc p h) s acc Obj.fenceCmd (0x20000 + p * 256 + h) 6)


/-- The interrupt controller (R411 to R425). -/
def Obligations.InterruptCommandsComplete : Prop := ∀ (s : State),
  (∀ n : Fin 256, s.running → exec (.irqSourceEvent n) s = .next (s.irqPost (n.val / 8) (n.val % 8))) ∧
  (∀ acc (w : Fin 8) v, s.regServed acc → exec (.irqPendWrite acc w v) s = .next (s.irqPendRaw (accTarget acc) w.val v)) ∧
  (∀ (c : Fin 4) (w : Fin 8) v, s.regServed (.core c) →
    exec (.irqEnWrite (.core c) w v) s = .next (s.irqEnRaw c.val w.val v)) ∧
  (∀ acc (w : Fin 8) v, s.regServed acc → exec (.irqSetWrite acc w v) s = .next (s.irqSetBits (accTarget acc) w.val v)) ∧
  (∀ acc (w : Fin 8) v, s.regServed acc → exec (.irqClrWrite acc w v) s = .next (s.irqClrBits (accTarget acc) w.val v)) ∧
  (∀ acc (w : Fin 8) v, s.regServed acc → exec (.irqEnsetWrite acc w v) s = .next (s.irqEnsetBits (accTarget acc) w.val v)) ∧
  (∀ acc (w : Fin 8) v, s.regServed acc → exec (.irqEnclrWrite acc w v) s = .next (s.irqEnclrBits (accTarget acc) w.val v)) ∧
  (∀ (c : Fin 4) (g : Fin 32) v, v < 8 → s.targetPresent v → s.og (Obj.irqDmode g.val) = 0 →
    Takes (.irqRouteWrite (.core c) g v) s (.core c) (Obj.irqRoute g.val) v ((s.oset (Obj.irqRoute g.val) v).withdraw)) ∧
  (∀ acc on, s.regServed acc → accTarget acc = 5 ∨ accTarget acc = 6 → exec (.irqTctlSleep acc on) s =
    .next ((s.irqSet fun w => { w with asleep := putBit w.asleep (accTarget acc) on }).withdraw)) ∧
  (∀ (t : Fin 8) b, s.running → t.val < 5 → exec (.targetSleepChange t b) s =
    .next ((s.irqSet fun w => { w with asleep := putBit w.asleep t.val b }).withdraw)) ∧
  (∀ t : Fin 8, s.working → exec (.groupDelivery t) s = .next (s.arbitrate t.val)) ∧
  (∀ (g : Fin 32) t, (s.grp g.val).firstAt = some t → s.working → s.og (Obj.irqCoalT g.val) ≠ 0 →
    ∃ u, u = s.toTb2 (t + 1000 * s.og (Obj.irqCoalT g.val)) ∧
      exec (.irqCoalTimeout g) s = .next (match u.effTarget g.val with | some x => u.arbitrate x | none => u)) ∧
  (∀ (g : Fin 32) t, (s.grp g.val).claimAt = some t → s.working → s.holdOff g.val →
    ∃ u v, u = s.toTb2 (t + 1000 * s.og (Obj.irqHoldoffT g.val)) ∧
      v = (if u.grpPending g.val = 0 then u
           else u.setGrp g.val { u.grp g.val with holdWaits := inc 32 (u.grp g.val).holdWaits }) ∧
      exec (.irqHoldoffExpiry g) s = .next (match v.effTarget g.val with | some x => v.arbitrate x | none => v)) ∧
  (∀ c : Fin 4, s.regServed (.core c) → exec (.irqClaim (.core c)) s =
    .next ((s.claimFor c.val).2.emit (.word c.val (s.claimFor c.val).1))) ∧
  (∀ (c : Fin 4) g, s.regServed (.core c) → g < 32 → (s.grp g).held = some c.val →
    exec (.irqEoi (.core c) g) s = .next (s.completeGroup g)) ∧
  (∀ (c : Fin 4) g, s.regServed (.core c) → (s.grp g).held ≠ some c.val →
    exec (.irqEoi (.core c) g) s = .next (s.irqLog 1 c.val g)) ∧
  (∀ acc, Takes (.irqVlogCmdClear acc) s acc Obj.irqVlogCmd 1
    ((s.irqSet fun w => { w with vlog := [], vcount := [] }).rateCheck)) ∧
  (∀ t, s.irq.safeRunAt = some t → exec .startPhaseEnd s =
    .next ((s.toTb2 (t + 1000000000)).irqSet fun w => { w with startPhase := false }))

/-- The dispatcher (R426 to R433). -/
def Obligations.DispatchCommandsComplete : Prop := ∀ (s : State),
  (∀ (c : Fin 4) (f : Fin 1024) tag a b u, s.regServed (.core c) → u = pushRegs (.core c) [(0, tag), (4, a), (8, b)] s → u.regServed (.core c) →
    exec (.dspPushDirect (.core c) f tag a b) s =
      .next (u.dspPushBy c.val f.val 0 0 (tag % 2 ^ 32) (a % 2 ^ 32) (b % 2 ^ 32) 0)) ∧
  (∀ (c : Fin 4) (f : Fin 1024) (l : Fin 2) tag a u, s.regServed (.core c) → u = pushRegs (.core c) [(0, tag), (4, a)] s →
    u.regServed (.core c) → exec (.dspPushOperand (.core c) f l tag a) s =
      .next (u.dspPushBy c.val f.val (1 + l.val) 0 (tag % 2 ^ 32) (a % 2 ^ 32) 0 0)) ∧
  (∀ (c : Fin 4) (f : Fin 1024) (l : Fin 4) tag a b w u, s.regServed (.core c) → u = pushRegs (.core c) [(0, tag), (4, a), (8, b), (0x10, w), (0x14, w / 2 ^ 32)] s →
    u.regServed (.core c) → exec (.dspPushDelay (.core c) f l tag a b w) s =
      .next (u.dspPushBy c.val f.val 3 l.val (tag % 2 ^ 32) (a % 2 ^ 32) (b % 2 ^ 32) (w % 2 ^ 64))) ∧
  (∀ (c : Fin 4) (q : Fin 12), s.regServed (.core c) → s.popQueue q.val = none →
    exec (.dspPop (.core c) q) s = .next (s.emit (.word c.val 0xFFFF))) ∧
  (∀ (c : Fin 4) (q : Fin 12) it t, s.regServed (.core c) → s.popQueue q.val = some (it, t) →
    t.work.bad = [] → t.work.wrong = [] → it.tag < 2 ^ 32 → it.a < 2 ^ 32 → it.b < 2 ^ 32 →
    exec (.dspPop (.core c) q) s = .next ((((t.setDspPath c.val 1 it.tag).setDspPath c.val 2 it.a).setDspPath c.val 3
      it.b).emit (.word c.val ((it.flow + 65536 * it.kind + 16777216 * it.flags) % 2 ^ 32)))) ∧
  (∀ (c : Fin 4) (q : Fin 12) it t x, s.regServed (.core c) → s.popQueue q.val = some (it, t) →
    x = t.memLoad 5 it.word id (itemBytes it) →
    exec (.dspPop (.core c) q) s = .next ((((x.2.2.setDspPath c.val 1 (rd x.1 4 4)).setDspPath c.val 2
      (rd x.1 8 4)).setDspPath c.val 3 (rd x.1 12 4)).emit (.word c.val (rd x.1 0 4)))) ∧
  (∀ (c : Fin 4) f, s.regServed (.core c) → s.ownsFlow c.val f → (s.flow f).busy.isSome →
    exec (.dspDone (.core c) f) s = .next (s.endItem f)) ∧
  (∀ (c : Fin 4) f, s.regServed (.core c) → (s.flow f).busy = none →
    exec (.dspDone (.core c) f) s = .next ((s.irqLog 3 c.val f).evt (Blk.dsp + 0x120) 32)) ∧
  (∀ c : Fin 4, s.regServed (.core c) → exec (.dspCmdReturn (.core c)) s = .next (s.dspReturn c.val)) ∧
  (∀ c : Fin 4, s.regServed (.core c) → exec (.dspCmdDiscard (.core c)) s = .next (s.dspDiscard c.val)) ∧
  (∀ c : Fin 4, s.regServed (.core c) → exec (.dspCmdPurge (.core c)) s = .next (s.dspPurge c.val)) ∧
  (s.working → exec .delayListRelease s = .next s.delayTick) ∧
  (∀ acc (q : Fin 16), s.regServed acc → exec (.dspQdepthRead acc q) s =
    .next ((s.qdepthRead q.val).2.emit (.word (accTarget acc) (s.qdepthRead q.val).1))) ∧
  (∀ acc (q : Fin 16), s.regServed acc → exec (.dspQwaitRead acc q) s =
    .next ((s.qwaitRead q.val).2.emit (.word (accTarget acc) (s.qwaitRead q.val).1))) ∧
  (∀ acc, s.regServed acc → exec (.dspMstatRead acc) s = .next (s.mstatRead.2.emit (.word (accTarget acc) s.mstatRead.1))) ∧
  (∀ acc (l : Fin 4), s.regServed acc → exec (.dspLstatRead acc l) s =
    .next ((s.lstatRead l.val).2.emit (.word (accTarget acc) (s.lstatRead l.val).1)))


/-- Mailboxes, objects, registers, QSPI and PCI Express (R439, R440, R444 to R449, R509). -/
def Obligations.SeatCommandsComplete : Prop := ∀ (s : State),
  (∀ p : Fin 3, seatServed s p.val → exec (.objCmdRead p) s = .next (s.mailbox p.val false)) ∧
  (∀ p : Fin 3, seatServed s p.val → exec (.objCmdWrite p) s = .next (s.mailbox p.val true)) ∧
  (∀ acc k d t, Admits s acc k d.length → s.objHandler acc k d = .ok t →
    exec (.objectWrite acc k d) s = .next (State.writeAside acc k d s (t.accepted acc k d))) ∧
  (∀ (p : Fin 3) a v m, s.blockServed a → s.accPresent (.path p) → m % 2 ^ 32 ≠ 0 →
    exec (.registerWrite p a v m) s = .next (s.regWr p.val a (v % 2 ^ 32) (m % 2 ^ 32))) ∧
  (∀ (q : Fin 2) a n, seatServed s (q.val + 1) → a % 4 = 0 →
    exec (.qspiRead q a n) s = .next (qspiReads (q.val + 1) a n s)) ∧
  (∀ (q : Fin 2) a n, seatServed s (q.val + 1) → a % 4 ≠ 0 →
    exec (.qspiRead q a n) s = .next (s.transport (16 * (q.val + 1)) 0x23 0x0B)) ∧
  (∀ (q : Fin 2) a ws, seatServed s (q.val + 1) → a % 4 = 0 →
    exec (.qspiWrite q a ws) s = .next (qspiWrites (q.val + 1) a ws s)) ∧
  (∀ q : Fin 2, seatServed s (q.val + 1) → exec (.qspiStatus q) s =
    .next ((s.seatSet fun w => { w with viol := clrBit w.viol (q.val + 1) }).emit (.word (q.val + 1)
      (packBits [s.mbox (q.val + 1) 0 == 1, s.intLow (q.val + 5), hasBit s.seat.viol (q.val + 1), s.pw.faultHold,
        s.seat.holder == some (q.val + 1)])))) ∧
  (∀ (q : Fin 2) a n ws, seatServed s (q.val + 1) → a % 4 = 0 → exec (.qspiCut q 0x0B a n ws) s =
    .next ((qspiReads (q.val + 1) a n s).transport (16 * (q.val + 1)) 0x21 0x0B)) ∧
  (∀ (q : Fin 2) a n ws, seatServed s (q.val + 1) → a % 4 = 0 → exec (.qspiCut q 0x32 a n ws) s =
    .next ((qspiWrites (q.val + 1) a ws s).transport (16 * (q.val + 1)) 0x21 0x32)) ∧
  (∀ (q : Fin 2) o, seatServed s (q.val + 1) → o ≠ 0x0B → o ≠ 0x32 → o ≠ 0x05 →
    exec (.qspiUnknown q o) s = .next (s.transport (16 * (q.val + 1)) 0x22 (o % 256))) ∧
  (∀ off be v, seatServed s 0 → s.seat.perst → off % 4 = 0 → off < 0x20000 →
    exec (.pcieRequest false true off 1 be v false) s = .next (s.regWr 0 off (v % 2 ^ 32) (beMask be))) ∧
  (∀ off be v, seatServed s 0 → s.seat.perst → off % 4 = 0 → off < 0x20000 →
    exec (.pcieRequest false false off 1 be v false) s = .next ((s.regRd 0 off).2.emit (.word 0 (s.regRd 0 off).1))) ∧
  (∀ b off len be v, seatServed s 0 → s.seat.perst →
    exec (.pcieRequest b true off len be v true) s = .next ((s.transport 0 0x24 0).emit .aerPoisoned)) ∧
  (∀ off len be v, seatServed s 0 → s.seat.perst → 128 < len →
    exec (.pcieRequest true false off len be v false) s = .next ((s.transport 0 0x25 0).emit .unsupported)) ∧
  (seatServed s 0 → exec .pcieLinkReset s = .next (s.tokenLost 0 0)) ∧
  (exec (.perstN true) s = .next (s.seatSet fun w => { w with perst := true })) ∧
  (exec (.perstN false) s = .next (fnReset ((s.seatSet fun w => { w with perst := false }).tokenLost 0 0)))

/-- HOP, the station network's own frames and its links (R410, R450 to R454); a PRP trailer is laid out as the family lays it
out (log entry 68). -/
def Obligations.NetworkCommandsComplete : Prop := ∀ (s : State) (ip port : Nat) (f : Bytes),
  (∀ g t, HopServed s ip f g t 0x01 →
    exec (.hopOpen ip port f) s = .next (t.hopOpen ip port (rd g 8 4) (slice g 16 (rd g 6 2)))) ∧
  (∀ g t, HopServed s ip f g t 0x02 → exec (.hopClose ip port f) s = .next (t.hopClose ip port (rd g 4 2) (rd g 8 4))) ∧
  (∀ g t, HopServed s ip f g t 0x03 →
    exec (.hopKeepalive ip port f) s = .next (t.hopKeep ip port (rd g 4 2) (rd g 8 4))) ∧
  (∀ g t, HopServed s ip f g t 0x10 → exec (.hopRead ip port f) s =
    .next (t.hopAccess ip port 0x10 (rd g 4 2) (rd g 8 4) (slice g 16 (rd g 6 2)))) ∧
  (∀ g t, HopServed s ip f g t 0x11 → exec (.hopWrite ip port f) s =
    .next (t.hopAccess ip port 0x11 (rd g 4 2) (rd g 8 4) (slice g 16 (rd g 6 2)))) ∧
  (∀ g t, HopServed s ip f g t 0x20 → exec (.hopSubscribe ip port f) s =
    .next (t.hopSubscribe ip port (rd g 4 2) (rd g 8 4) (slice g 16 (rd g 6 2)))) ∧
  (∀ t, s.running → s.isHead → s.seat.netUp ≠ 0 → s.prpTake ip f = (none, t) →
    exec (.hopRead ip port f) s = .next t ∧ exec (.hopWrite ip port f) s = .next t) ∧
  (∀ n v, s.hopSession n = some v → seatServed s 0 → exec (.hopSessionTimeout n) s =
    .next ((s.toTb2 (v.seenAt + s.og Obj.hopTimeout * 1000000)).sessionClose n)) ∧
  (∀ n e l, (s.stream n).stage = e :: l → s.headOn → stageUsed (s.stream n) < 1024 →
    exec (.hopStreamFlush n) s = .next ((s.toTb2 (e.1 + 1000000)).streamFlush n)) ∧
  (∀ n e l, (s.stream n).stage = e :: l → s.headOn → 1024 ≤ stageUsed (s.stream n) →
    exec (.hopStreamFlush n) s = .next (s.streamFlush n)) ∧
  (∀ q, netServed s q → exec (.arpRequest q s.pw.ip f) s =
    .next (s.emit (.net q 1 (leBytes 6 Config.macAddr.toNat ++ leBytes 4 s.pw.ip ++ f)))) ∧
  (∀ q a, netServed s q → a ≠ s.pw.ip → exec (.arpRequest q a f) s = .next (s.bump Obj.netDropped)) ∧
  (∀ q, netServed s q → exec (.icmpEcho q f) s = .next (s.emit (.net q 2 f))) ∧
  (∀ q, netServed s q → exec (.netDroppedFrame q) s = .next (s.bump Obj.netDropped)) ∧
  (∀ (q : Fin 2) up, s.running → s.isHead → hasBit s.seat.netUp q.val ≠ up → exec (.networkLinkChange q up) s =
    .next ((s.seatSet fun w => { w with netUp := putBit w.netUp q.val up }).irqPost 27 q.val))

/-- The control-authority token (R455 to R457, R524, Table 16-8), by an object write of a seat's path. -/
def Obligations.TokenCommandsComplete : Prop := ∀ (s : State) (p : Fin 3),
  (s.understudy = false → s.isCell = false → s.seat.holder = none →
    Takes (.tokenRequest (.obj (.path p))) s (.path p) Obj.tokenCmd 1 (s.tokenGive p.val 0)) ∧
  (∀ h, s.understudy = false → s.isCell = false → s.seat.holder = some h → h ≠ p.val →
    Takes (.tokenRequest (.obj (.path p))) s (.path p) Obj.tokenCmd 1 (s.tokenAsk p.val 0)) ∧
  (s.seat.holder = some p.val → Takes (.tokenRelease (.obj (.path p))) s (.path p) Obj.tokenCmd 2 s.tokenPass) ∧
  (s.seat.holder ≠ some p.val → Refuses (.tokenRelease (.obj (.path p))) s (.path p) Obj.tokenCmd 2 6) ∧
  (∀ h, hasBit (s.og Obj.tokenForce) p.val → s.seat.holder = some h → h ≠ p.val →
    Takes (.tokenForceCmd (.obj (.path p))) s (.path p) Obj.tokenCmd 3 (s.tokenGive p.val 0)) ∧
  (hasBit (s.og Obj.tokenForce) p.val = false →
    Refuses (.tokenForceCmd (.obj (.path p))) s (.path p) Obj.tokenCmd 3 3) ∧
  (s.seat.holder = some p.val → Takes (.tokenRenew (.obj (.path p))) s (.path p) Obj.tokenCmd 4 s.leaseRestart) ∧
  (s.seat.holder ≠ some p.val → Refuses (.tokenRenew (.obj (.path p))) s (.path p) Obj.tokenCmd 4 6) ∧
  (Takes (.tokenWithdraw (.obj (.path p))) s (.path p) Obj.tokenCmd 5 (s.tokenUnask p.val 0)) ∧
  (∀ h, s.seat.holder = some h → s.og Obj.tokenLease ≠ 0 → exec .tokenLeaseExpiry s =
    .next ((s.toTb2 (s.seat.leaseAt + s.og Obj.tokenLease * 1000000)).tokenPass)) ∧
  (∀ h, s.seat.holder = some h → s.og Obj.tokenLease = 0 → exec .tokenLeaseExpiry s = .next s) ∧
  (s.seat.holder = none → exec .tokenLeaseExpiry s = .next s)

/-- The objects of the cells, the parameter store, the seat log (R458 to R461, R463, R473). -/
def Obligations.CellObjectAndStoreCommandsComplete : Prop := ∀ (s : State),
  (∀ p f e r, Received s p f e 0x30 true r → r.st.isCell → r.st.addressed r.hdr → r.hdr.flags = 0 →
    r.hdr.dst = r.st.ring.node.caddr → exec (.cellObjRequest p f e) s = .next (r.st.serveCell p r.hdr r.pl)) ∧
  (∀ p f e r, Received s p f e 0x31 true r → r.st.activeHead → r.hdr.flags = 0 →
    exec (.cellObjResponse p f e) s = .next (r.st.objResponse r.pl r.hdr.src)) ∧
  (∀ id r, s.seat.cellReqs.find? (fun x => x.id == id) = some r → s.headOn →
    s.og Obj.cellObjTimeout ≤ subMod 32 s.tm.cue r.cue → exec (.cellObjTimeout id) s = .next (s.cellTimeout r)) ∧
  (∀ acc, Admits s acc Obj.storeCmd 1 → s.og Obj.storeState ≠ 1 → s.mem.st ≠ .trial →
    exec (.storeCmdStore acc) s = .next (s.storeStart.accepted acc Obj.storeCmd [1#8])) ∧
  (∀ acc, Admits s acc Obj.storeCmd 1 → s.og Obj.storeState = 1 →
    exec (.storeCmdStore acc) s = .next (s.answer acc Obj.storeCmd 6 true)) ∧
  (∀ acc, Admits s acc Obj.storeCmd 1 → s.og Obj.storeState ≠ 1 → s.restoreBarred = false → ∃ t : State,
    exec (.storeCmdDefaults acc) s =
      .next (State.accepted acc Obj.storeCmd [2#8] ((t.oset Obj.storeState 4).irqPost 26 3))) ∧
  (∀ acc r, Admits s acc Obj.storeCmd 1 → s.og Obj.storeState ≠ 1 → s.restoreBarred = false → s.recordInUse = some r →
    s.mem.paramSpoilt.contains (3 + s.og Obj.storeSlot) = false →
    ∃ t : State, exec (.storeCmdReload acc) s = .next (State.accepted acc Obj.storeCmd [3#8] (t.irqPost 26 3))) ∧
  (∀ acc r, Admits s acc Obj.storeCmd 1 → s.og Obj.storeState ≠ 1 → s.restoreBarred = false → s.recordInUse = some r →
    s.mem.paramSpoilt.contains (3 + s.og Obj.storeSlot) = true → exec (.storeCmdReload acc) s =
      .next (State.accepted acc Obj.storeCmd [3#8] (s.flashError (3 + s.og Obj.storeSlot)))) ∧
  (∀ failed, s.running → exec (.storeDone failed) s = .next (s.storeEnd failed)) ∧
  (∀ acc, Takes (.seatVlogCmdClear acc) s acc Obj.seatVlogCmd 1
    ((s.seatSet fun w => { w with vlog := [], vcount := [] }).rateCheck))


/-- Working memory and the firmware update (R467, R470, R471, R475 to R479, R485, R486). -/
def Obligations.MemoryAndUpdateCommandsComplete : Prop := ∀ (s : State),
  (s.working → exec .scrubRead s = .next s.scrubRead) ∧
  (∀ acc v, fld v 29 24 ≤ 35 → fld v 37 32 = 0x3F → hasBit v 40 → s.isHead = false → s.ring.node.admitted = false →
    Takes (.memInjWrite acc v) s acc Obj.memInj v
      (s.setWordErr (fld v 21 0) (Nat.xor (s.wordErr (fld v 21 0)) (15 * 16 ^ fld v 29 24)))) ∧
  (∀ acc v, fld v 29 24 ≤ 35 → fld v 37 32 ≤ 35 → fld v 37 32 ≠ fld v 29 24 → hasBit v 40 → s.isHead = false →
    s.ring.node.admitted = false → Takes (.memInjWrite acc v) s acc Obj.memInj v (s.setWordErr (fld v 21 0)
      (Nat.xor (Nat.xor (s.wordErr (fld v 21 0)) (15 * 16 ^ fld v 29 24)) (15 * 16 ^ fld v 37 32)))) ∧
  (∀ acc v, fld v 29 24 ≤ 35 → fld v 37 32 = 0x3F → s.isCell → s.ring.node.admitted →
    Refuses (.memInjWrite acc v) s acc Obj.memInj v 6) ∧
  (∀ w e, exec (.memorySymbolError w e) s = .next (s.setWordErr w.toNat (Nat.xor (s.wordErr w.toNat) e.toNat))) ∧
  (∀ acc d, s.og Obj.updTarget = 2 → rd d 0 4 = 0 → d.length ≤ 1024 → TakesBytes (.updDataWrite acc d) s acc Obj.updData d
    ((s.memStore Config.passWord (fun i => rd d 0 4 + i) (d.drop 4).length).memSet fun m => { m with store := d.drop 4 })) ∧
  (∀ acc d t, s.og Obj.updTarget = 1 → s.updSeat (rd d 0 4) (d.drop 4) = .ok t →
    TakesBytes (.updDataWrite acc d) s acc Obj.updData d t) ∧
  (∀ b, s.working → exec (.stagingProgrammed b) s = .next (s.stagingDone b)) ∧
  (∀ bad, s.working → exec (.updVerifyDone bad) s = .next (s.verifyDone bad)) ∧
  (∀ acc, s.mem.st = .verified → Takes (.updCmdArm acc) s acc Obj.updCmd 2
    ((s.jadd 3 1 0 0 s.mem.staging.head).setUpd .armed)) ∧
  (∀ acc, s.mem.st ≠ .verified → Refuses (.updCmdArm acc) s acc Obj.updCmd 2 6) ∧
  (∀ acc, s.isCell = false → s.activeHead = false → Takes (.updCmdRestart acc) s acc Obj.updCmd 3 (s.resetPart 4 0)) ∧
  (∀ acc, s.activeHead → s.og (Obj.modMode 0) ≠ 0 → Refuses (.updCmdRestart acc) s acc Obj.updCmd 3 6) ∧
  (∀ acc, s.mem.st = .trial → Takes (.updCmdConfirm acc) s acc Obj.updCmd 4 ((s.jadd 7 0 0 0 s.mem.active.head).setUpd .idle)) ∧
  (∀ acc, s.mem.st ≠ .trial → Refuses (.updCmdConfirm acc) s acc Obj.updCmd 4 6) ∧
  (∀ acc, s.mem.st = .receiving → Takes (.updCmdAbort acc) s acc Obj.updCmd 5
    ((s.updDiscard.memSet fun m => { m with reason := 12 }).setUpd .rejected)) ∧
  (∀ acc, s.mem.st = .armed → Takes (.updCmdAbort acc) s acc Obj.updCmd 5
    ((s.jadd 2 0 1 0 s.mem.staging.head).setUpd .verified)) ∧
  (∀ acc, s.mem.st = .idle → Refuses (.updCmdAbort acc) s acc Obj.updCmd 5 6)

/-- PASS, the firmware's way along the rings (R480 to R483). -/
def Obligations.PassCommandsComplete : Prop := ∀ (s : State),
  (∀ acc, Takes (.passCmd acc 0) s acc Obj.passCmd 0 ((List.range 24).foldl (fun t k => t.passStop k) s)) ∧
  (∀ acc m, m ≠ 0 → m ≤ 0xFFF → s.mem.store.length < 512 → Refuses (.passCmd acc m) s acc Obj.passCmd m 6) ∧
  (∀ acc m t, State.applyPassCmd m s = .ok t → Takes (.passCmd acc m) s acc Obj.passCmd m t) ∧
  (∀ p f e r, Received s p f e 0x40 true r → r.st.cellOn → r.st.ring.node.caddr ≠ 0 → r.st.addressed r.hdr →
    17 ≤ r.pl.length → (PassHdr.read r.pl).kind = 2 → exec (.passChunk p f e) s =
      .next (r.st.passChunk p r.hdr.src (PassHdr.read r.pl) (r.pl.drop 16))) ∧
  (∀ p f e r, Received s p f e 0x40 true r → r.st.addressed r.hdr → 16 ≤ r.pl.length → (PassHdr.read r.pl).kind = 3 →
    r.st.isCell → exec (.passAck p f e) s = .next (r.st.passAck p (PassHdr.read r.pl))) ∧
  (∀ p f e r, Received s p f e 0x40 true r → r.st.cellOn → r.st.ring.node.caddr ≠ 0 → r.st.addressed r.hdr →
    16 ≤ r.pl.length → (PassHdr.read r.pl).kind = 4 →
    exec (.passAbort p f e) s = .next (r.st.passAborted p (PassHdr.read r.pl))) ∧
  (∀ p far, s.cellOn → exec (.passResend p far) s = .next (s.passResend p)) ∧
  (∀ p, s.cellOn = false → s.activeHead →
    exec (.passResend p true) s = .next (s.passResend (2 * s.ringOfPort p + 1)))

end
end

