-- ==== Sys2Proof/Laws/Access.lean ====
section
/-! SUPPORT. What the shared tests of accesses and of received frames can do: one lemma per outcome. -/

namespace Sys2Proof.Machine.State
variable {s t : State} {a : Accessor} {k : Nat} {d : Bytes} {h : State → Except Nat State}

/-- As many bytes as asked for. -/
theorem leBytes_length (n v : Nat) : (leBytes n v).length = n := by
  induction n generalizing v with
  | zero => rfl
  | succ n ih => simp [leBytes, ih]

/-- An access before start-up completes, or by a path absent in the role, has no effect. -/
theorem guardedWrite_absent (h1 : s.running = false ∨ s.accPresent a = false) : s.guardedWrite a k d h = s := by
  unfold guardedWrite
  rcases h1 with h1 | h1 <;> simp [h1]

/-- A write that a test stops is answered with the test's code. -/
theorem guardedWrite_tested (h1 : s.running = true) (h2 : s.accPresent a = true) (h3 : s.writeTests a k d.length ≠ 0) :
    s.guardedWrite a k d h = s.answer a k (s.writeTests a k d.length) true := by
  unfold guardedWrite
  simp only [h1, h2]
  split
  · contradiction
  · rfl

/-- A write that the tests pass and the object's handler accepts. -/
theorem guardedWrite_ok (h1 : s.running = true) (h2 : s.accPresent a = true) (h3 : s.writeTests a k d.length = 0)
    (h4 : s.mirrorFull a k = false) (hk : h s = .ok t) : s.guardedWrite a k d h = t.accepted a k d := by
  simp [guardedWrite, h1, h2, h3, h4, hk]

/-- A write that the tests pass and the object's handler refuses. -/
theorem guardedWrite_error {c : Nat} (h1 : s.running = true) (h2 : s.accPresent a = true)
    (h3 : s.writeTests a k d.length = 0) (h4 : s.mirrorFull a k = false) (hk : h s = .error c) :
    s.guardedWrite a k d h = s.answer a k c true := by
  simp [guardedWrite, h1, h2, h3, h4, hk]

/-- A value write that the tests pass and the object's handler accepts. -/
theorem guardedValue_ok {v : Nat} {g : Nat → State → Except Nat State} (hv : v < 2 ^ (8 * Dict.width k))
    (h1 : s.running = true) (h2 : s.accPresent a = true) (h3 : s.writeTests a k (Dict.width k) = 0)
    (h4 : s.mirrorFull a k = false) (hk : g v s = .ok t) :
    s.guardedValue a k v g = t.accepted a k (leBytes (Dict.width k) v) := by
  unfold guardedValue
  rw [Nat.mod_eq_of_lt hv]
  exact guardedWrite_ok h1 h2 (by rw [leBytes_length]; exact h3) h4 hk

/-- A value write that the tests pass and the object's handler refuses. -/
theorem guardedValue_error {v c : Nat} {g : Nat → State → Except Nat State} (hv : v < 2 ^ (8 * Dict.width k))
    (h1 : s.running = true) (h2 : s.accPresent a = true) (h3 : s.writeTests a k (Dict.width k) = 0)
    (h4 : s.mirrorFull a k = false) (hk : g v s = .error c) :
    s.guardedValue a k v g = s.answer a k c true := by
  unfold guardedValue
  rw [Nat.mod_eq_of_lt hv]
  exact guardedWrite_error h1 h2 (by rw [leBytes_length]; exact h3) h4 hk

/-- A ring frame of the TYPE asked for that passes its tests is handed on. -/
theorem rxTyped_ok {p ty : Nat} {f : Bytes} {e : FrameEnd} {fw : Bool} {g : Rx → State → State} (h1 : rd f 0 1 = ty)
    (h2 : (s.rxRing p f e fw).act = true) (h3 : (s.rxRing p f e fw).hdr.ty = ty)
    (h4 : (s.rxRing p f e fw).fcrc = true ∨ ty = 0x10) :
    s.rxTyped p f e ty fw g = g (s.rxRing p f e fw) (s.rxRing p f e fw).st := by
  simp [rxTyped, h1, h2, h3, h4]

/-- A cross-link frame of the TYPE asked for that passes its tests is handed on. -/
theorem rxXlTyped_ok {l lane ty : Nat} {f : Bytes} {e : FrameEnd} {g : XlRx → State → State}
    (h1 : (s.rxXl l lane f e).act = true) (h2 : (s.rxXl l lane f e).ty = ty) :
    s.rxXlTyped l lane f e ty g = g (s.rxXl l lane f e) (s.rxXl l lane f e).st := by
  simp only [rxXlTyped, h1, h2, and_self, if_true]

end Sys2Proof.Machine.State
end

