-- ==== Sys2Proof/Laws/Keep.lean ====
section
/-! SUPPORT. What every command keeps: the waiting queue, the canonical form of the three stores, and every part of the
state outside the set W of the parts it may change. -/

set_option Elab.async false
namespace Sys2Proof.Laws
open Sys2Proof.Machine
/-- A part is among those that may change. -/
class Lets (W : Part → Prop) (p : Part) : Prop where
  yes : W p
structure Keep (W : Part → Prop) (z : State) (s : State) : Prop where
  pend : s.pending = z.pending
  objs : Kv.wf Dict.dflt z.objs = true → Kv.wf Dict.dflt s.objs = true
  doms : Kv.wf Dict.domDflt z.doms = true → Kv.wf Dict.domDflt s.doms = true
  regs : Kv.wf regReset z.regs = true → Kv.wf regReset s.regs = true
  rest : ∀ p, ¬ Lets W p → p.same z s
def KeepE (W : Part → Prop) (z : State) : Except Nat State → Prop
  | .ok t => Keep W z t
  | .error _ => True
def KeepR (W : Part → Prop) (z : State) : Res → Prop
  | .next t => Keep W z t
  | _ => True
def KeepP {α : Type} (W : Part → Prop) (z : State) (x : α × State) : Prop := Keep W z x.2
def KeepP2 {α β : Type} (W : Part → Prop) (z : State) (x : α × β × State) : Prop := Keep W z x.2.2
def KeepP3 {α β γ : Type} (W : Part → Prop) (z : State) (x : α × β × γ × State) : Prop := Keep W z x.2.2.2
def KeepO {α : Type} (W : Part → Prop) (z : State) : Option (α × State) → Prop
  | some x => Keep W z x.2
  | none => True
def KeepO2 {α β : Type} (W : Part → Prop) (z : State) : Option (α × β × State) → Prop
  | some x => Keep W z x.2.2
  | none => True
variable {W : Part → Prop} {z s : State}
theorem keepE_ok (t : State) : KeepE W z (.ok t) = Keep W z t := rfl
theorem keepE_error (c : Nat) : KeepE W z (.error c) = True := rfl
theorem keepR_next (t : State) : KeepR W z (.next t) = Keep W z t := rfl
theorem keepR_fault (f : Fault) : KeepR W z (.fault f) = True := rfl
theorem keepR_refused (f : Refusal) : KeepR W z (.refused f) = True := rfl
theorem keepP_mk {α : Type} (a : α) (t : State) : KeepP W z (a, t) = Keep W z t := rfl
theorem keepP_snd {α : Type} (x : α × State) (h : KeepP W z x) : Keep W z x.2 := h
theorem keepP2_mk {α β : Type} (a : α) (b : β) (t : State) : KeepP2 W z (a, b, t) = Keep W z t := rfl
theorem keepP2_snd {α β : Type} (x : α × β × State) (h : KeepP2 W z x) : Keep W z x.2.2 := h
theorem keepP3_mk {α β γ : Type} (a : α) (b : β) (c : γ) (t : State) : KeepP3 W z (a, b, c, t) = Keep W z t := rfl
theorem keepP3_snd {α β γ : Type} (x : α × β × γ × State) (h : KeepP3 W z x) : Keep W z x.2.2.2 := h
theorem keepO_some {α : Type} (a : α × State) : KeepO W z (some a) = KeepP W z a := rfl
theorem keepO_none {α : Type} : KeepO (α := α) W z none = True := rfl
theorem keepO2_some {α β : Type} (a : α × β × State) : KeepO2 W z (some a) = KeepP2 W z a := rfl
theorem keepO2_none {α β : Type} : KeepO2 (α := α) (β := β) W z none = True := rfl
theorem Part.same_trans {p : Part} {a b c : State} (h : p.same a b) (k : p.same b c) : p.same a c := by
  cases p <;> exact Eq.trans k h
theorem Keep.upd {t : State} (h : Keep W z s) (e1 : t.pending = s.pending)
    (e2 : Kv.wf Dict.dflt s.objs = true → Kv.wf Dict.dflt t.objs = true)
    (e3 : Kv.wf Dict.domDflt s.doms = true → Kv.wf Dict.domDflt t.doms = true)
    (e4 : Kv.wf regReset s.regs = true → Kv.wf regReset t.regs = true)
    (e5 : ∀ p, ¬ Lets W p → p.same s t) : Keep W z t :=
  ⟨e1.trans h.pend, fun c => e2 (h.objs c), fun c => e3 (h.doms c), fun c => e4 (h.regs c),
   fun p hp => Part.same_trans (h.rest p hp) (e5 p hp)⟩
theorem keep_rest (x_pw x_tm x_flt x_irq x_dsp x_seat x_ring x_xl x_pair x_pwm x_bat x_adc x_loop x_cap x_sl x_saf x_mod x_work x_mem x_tap x_freeCtr x_out)
    (h_pw : x_pw = s.pw ∨ Lets W .pw)
    (h_tm : x_tm = s.tm ∨ Lets W .tm)
    (h_flt : x_flt = s.flt ∨ Lets W .flt)
    (h_irq : x_irq = s.irq ∨ Lets W .irq)
    (h_dsp : x_dsp = s.dsp ∨ Lets W .dsp)
    (h_seat : x_seat = s.seat ∨ Lets W .seat)
    (h_ring : x_ring = s.ring ∨ Lets W .ring)
    (h_xl : x_xl = s.xl ∨ Lets W .xl)
    (h_pair : x_pair = s.pair ∨ Lets W .pair)
    (h_pwm : x_pwm = s.pwm ∨ Lets W .pwm)
    (h_bat : x_bat = s.bat ∨ Lets W .bat)
    (h_adc : x_adc = s.adc ∨ Lets W .adc)
    (h_loop : x_loop = s.loop ∨ Lets W .loop)
    (h_cap : x_cap = s.cap ∨ Lets W .cap)
    (h_sl : x_sl = s.sl ∨ Lets W .sl)
    (h_saf : x_saf = s.saf ∨ Lets W .saf)
    (h_mod : x_mod = s.mod ∨ Lets W .mod)
    (h_work : x_work = s.work ∨ Lets W .work)
    (h_mem : x_mem = s.mem ∨ Lets W .mem)
    (h_tap : x_tap = s.tap ∨ Lets W .tap)
    (h_freeCtr : x_freeCtr = s.freeCtr ∨ Lets W .freeCtr)
    (h_out : x_out = s.out ∨ Lets W .out)
    (h : Keep W z s) : Keep W z (State.mk s.objs s.doms s.regs x_pw x_tm x_flt x_irq x_dsp x_seat x_ring x_xl x_pair x_pwm x_bat x_adc x_loop x_cap x_sl x_saf x_mod x_work x_mem x_tap x_freeCtr x_out s.pending) :=
  h.upd rfl id id id (by
    intro p hp
    cases p <;> first | rfl | (dsimp only [Part.same]; simp_all))
grind_pattern keep_rest => Keep W z s, State.mk s.objs s.doms s.regs x_pw x_tm x_flt x_irq x_dsp x_seat x_ring x_xl x_pair x_pwm x_bat x_adc x_loop x_cap x_sl x_saf x_mod x_work x_mem x_tap x_freeCtr x_out s.pending
theorem keepE_map {x : Except Nat State} {f : State → State} (h : KeepE W z x) (hf : ∀ t, Keep W z t → Keep W z (f t)) :
    KeepE W z (x.map f) := by
  cases x with
  | error c => exact True.intro
  | ok t => exact hf t h
theorem keep_ite {c : Prop} [Decidable c] {a b : State} (ha : Keep W z a) (hb : Keep W z b) : Keep W z (if c then a else b) := by
  split <;> assumption
theorem keep_foldl {α : Type} (f : State → α → State) (l : List α) (hs : Keep W z s) (hf : ∀ t a, Keep W z t → Keep W z (f t a)) :
    Keep W z (l.foldl f s) := by
  induction l generalizing s with
  | nil => exact hs
  | cons x t ih => exact ih (hf s x hs)
grind_pattern keep_foldl => Keep W z s, l.foldl f s
theorem keep_foldlP {α β : Type} (f : α × State → β → α × State) (l : List β) (x : α × State)
    (hf : ∀ y b, KeepP W z y → KeepP W z (f y b)) (hx : KeepP W z x) : KeepP W z (l.foldl f x) := by
  induction l generalizing x with
  | nil => exact hx
  | cons b t ih => exact ih _ (hf x b hx)
theorem keep_foldlP2 {α γ β : Type} (f : α × γ × State → β → α × γ × State) (l : List β) (x : α × γ × State)
    (hf : ∀ y b, KeepP2 W z y → KeepP2 W z (f y b)) (hx : KeepP2 W z x) : KeepP2 W z (l.foldl f x) := by
  induction l generalizing x with
  | nil => exact hx
  | cons b t ih => exact ih _ (hf x b hx)
section kv
variable {α : Type} [DecidableEq α] (d : Nat → α)
theorem wfFrom_mono {a b : Nat} {m : Kv α} (hab : a ≤ b) (h : Kv.wfFrom d b m = true) : Kv.wfFrom d a m = true := by
  cases m with
  | nil => rfl
  | cons x t =>
    obtain ⟨j, v⟩ := x
    simp only [Kv.wfFrom, Bool.and_eq_true, decide_eq_true_eq] at *
    exact ⟨⟨by omega, h.1.2⟩, h.2⟩
theorem wfFrom_put {lo k : Nat} (v : α) (hk : lo ≤ k) (m : Kv α) (h : Kv.wfFrom d lo m = true) :
    Kv.wfFrom d lo (Kv.put d k v m) = true := by
  induction m generalizing lo with
  | nil => simp only [Kv.put]; split <;> simp_all [Kv.wfFrom]
  | cons x t ih =>
    obtain ⟨j, w⟩ := x
    simp only [Kv.wfFrom, Bool.and_eq_true, decide_eq_true_eq] at h
    obtain ⟨⟨h1, h2⟩, h3⟩ := h
    simp only [Kv.put]
    by_cases hkj : k < j
    · rw [if_pos hkj]
      split
      · simp_all [Kv.wfFrom]
      · simp_all [Kv.wfFrom]
    · rw [if_neg hkj]
      split
      · split
        · exact wfFrom_mono d (by omega) h3
        · subst_vars; simp_all [Kv.wfFrom]
      · have := ih (lo := j + 1) (by omega) h3
        simp_all [Kv.wfFrom]
theorem wf_put (k : Nat) (v : α) (m : Kv α) (h : Kv.wf d m = true) : Kv.wf d (Kv.put d k v m) = true :=
  wfFrom_put d v (Nat.zero_le k) m h
theorem wfFrom_keep (p : Nat → Bool) (m : Kv α) (lo : Nat) (h : Kv.wfFrom d lo m = true) : Kv.wfFrom d lo (Kv.keep p m) = true := by
  induction m generalizing lo with
  | nil => rfl
  | cons x t ih =>
    obtain ⟨j, w⟩ := x
    simp only [Kv.wfFrom, Bool.and_eq_true, decide_eq_true_eq] at h
    unfold Kv.keep
    split
    · simp only [Kv.wfFrom, Bool.and_eq_true, decide_eq_true_eq]
      exact ⟨h.1, ih _ h.2⟩
    · exact wfFrom_mono d (by omega) (ih _ h.2)
theorem wf_keep (p : Nat → Bool) (m : Kv α) (h : Kv.wf d m = true) : Kv.wf d (Kv.keep p m) = true :=
  wfFrom_keep d p m 0 h
end kv
theorem keep_State_oset [Lets W .objs] {k v : Nat} (h : Keep W z s) : Keep W z (s.oset k v) :=
  h.upd rfl (wf_put _ _ _ _) id id (by intro p hp; cases p <;> first | contradiction | rfl)
grind_pattern keep_State_oset => Keep W z s, s.oset k v
theorem keep_State_dset [Lets W .doms] {k : Nat} {v : Bytes} (h : Keep W z s) : Keep W z (s.dset k v) :=
  h.upd rfl id (wf_put _ _ _ _) id (by intro p hp; cases p <;> first | contradiction | rfl)
grind_pattern keep_State_dset => Keep W z s, s.dset k v
theorem keep_State_rset [Lets W .regs] {k v : Nat} (h : Keep W z s) : Keep W z (s.rset k v) :=
  h.upd rfl id id (wf_put _ _ _ _) (by intro p hp; cases p <;> first | contradiction | rfl)
grind_pattern keep_State_rset => Keep W z s, s.rset k v

end Sys2Proof.Laws
end

