-- ==== Sys2Proof/Laws/KeepSetters.lean ====
section
/-! SUPPORT. What the operations of Machine/Setters keep (see Laws/Keep). -/

set_option Elab.async false
namespace Sys2Proof.Laws
open Sys2Proof.Machine
variable {W : Part → Prop} {z : State}

theorem keep_State_pwSet [Lets W .pw] {a0 a1} (ha1 : Keep W z a1) :
    Keep W z (State.pwSet a0 a1) := by
  first | exact ha1.upd rfl id id id (by intro p hp; cases p <;> first | contradiction | rfl) | (unfold State.pwSet; grind only [usr keep_rest, usr keep_foldl])
grind_pattern keep_State_pwSet => Keep W z a1, State.pwSet a0 a1

theorem keep_State_capSet [Lets W .cap] {a0 a1} (ha1 : Keep W z a1) :
    Keep W z (State.capSet a0 a1) := by
  first | exact ha1.upd rfl id id id (by intro p hp; cases p <;> first | contradiction | rfl) | (unfold State.capSet; grind only [usr keep_rest, usr keep_foldl])
grind_pattern keep_State_capSet => Keep W z a1, State.capSet a0 a1

theorem keep_State_workSet [Lets W .work] {a0 a1} (ha1 : Keep W z a1) :
    Keep W z (State.workSet a0 a1) := by
  first | exact ha1.upd rfl id id id (by intro p hp; cases p <;> first | contradiction | rfl) | (unfold State.workSet; grind only [usr keep_rest, usr keep_foldl])
grind_pattern keep_State_workSet => Keep W z a1, State.workSet a0 a1

theorem keep_State_adcSet [Lets W .adc] {a0 a1} (ha1 : Keep W z a1) :
    Keep W z (State.adcSet a0 a1) := by
  first | exact ha1.upd rfl id id id (by intro p hp; cases p <;> first | contradiction | rfl) | (unfold State.adcSet; grind only [usr keep_rest, usr keep_foldl])
grind_pattern keep_State_adcSet => Keep W z a1, State.adcSet a0 a1

theorem keep_State_batSet [Lets W .bat] {a0 a1} (ha1 : Keep W z a1) :
    Keep W z (State.batSet a0 a1) := by
  first | exact ha1.upd rfl id id id (by intro p hp; cases p <;> first | contradiction | rfl) | (unfold State.batSet; grind only [usr keep_rest, usr keep_foldl])
grind_pattern keep_State_batSet => Keep W z a1, State.batSet a0 a1

theorem keep_State_pwmSet [Lets W .pwm] {a0 a1} (ha1 : Keep W z a1) :
    Keep W z (State.pwmSet a0 a1) := by
  first | exact ha1.upd rfl id id id (by intro p hp; cases p <;> first | contradiction | rfl) | (unfold State.pwmSet; grind only [usr keep_rest, usr keep_foldl])
grind_pattern keep_State_pwmSet => Keep W z a1, State.pwmSet a0 a1

theorem keep_State_loopSet [Lets W .loop] {a0 a1} (ha1 : Keep W z a1) :
    Keep W z (State.loopSet a0 a1) := by
  first | exact ha1.upd rfl id id id (by intro p hp; cases p <;> first | contradiction | rfl) | (unfold State.loopSet; grind only [usr keep_rest, usr keep_foldl])
grind_pattern keep_State_loopSet => Keep W z a1, State.loopSet a0 a1

theorem keep_State_tmSet [Lets W .tm] {a0 a1} (ha1 : Keep W z a1) :
    Keep W z (State.tmSet a0 a1) := by
  first | exact ha1.upd rfl id id id (by intro p hp; cases p <;> first | contradiction | rfl) | (unfold State.tmSet; grind only [usr keep_rest, usr keep_foldl])
grind_pattern keep_State_tmSet => Keep W z a1, State.tmSet a0 a1

theorem keep_State_slSet [Lets W .sl] {a0 a1} (ha1 : Keep W z a1) :
    Keep W z (State.slSet a0 a1) := by
  first | exact ha1.upd rfl id id id (by intro p hp; cases p <;> first | contradiction | rfl) | (unfold State.slSet; grind only [usr keep_rest, usr keep_foldl])
grind_pattern keep_State_slSet => Keep W z a1, State.slSet a0 a1

theorem keep_State_seatSet [Lets W .seat] {a0 a1} (ha1 : Keep W z a1) :
    Keep W z (State.seatSet a0 a1) := by
  first | exact ha1.upd rfl id id id (by intro p hp; cases p <;> first | contradiction | rfl) | (unfold State.seatSet; grind only [usr keep_rest, usr keep_foldl])
grind_pattern keep_State_seatSet => Keep W z a1, State.seatSet a0 a1

theorem keep_State_memSet [Lets W .mem] {a0 a1} (ha1 : Keep W z a1) :
    Keep W z (State.memSet a0 a1) := by
  first | exact ha1.upd rfl id id id (by intro p hp; cases p <;> first | contradiction | rfl) | (unfold State.memSet; grind only [usr keep_rest, usr keep_foldl])
grind_pattern keep_State_memSet => Keep W z a1, State.memSet a0 a1

theorem keep_State_dspSet [Lets W .dsp] {a0 a1} (ha1 : Keep W z a1) :
    Keep W z (State.dspSet a0 a1) := by
  first | exact ha1.upd rfl id id id (by intro p hp; cases p <;> first | contradiction | rfl) | (unfold State.dspSet; grind only [usr keep_rest, usr keep_foldl])
grind_pattern keep_State_dspSet => Keep W z a1, State.dspSet a0 a1

theorem keep_State_irqSet [Lets W .irq] {a0 a1} (ha1 : Keep W z a1) :
    Keep W z (State.irqSet a0 a1) := by
  first | exact ha1.upd rfl id id id (by intro p hp; cases p <;> first | contradiction | rfl) | (unfold State.irqSet; grind only [usr keep_rest, usr keep_foldl])
grind_pattern keep_State_irqSet => Keep W z a1, State.irqSet a0 a1

theorem keep_State_safSet [Lets W .saf] {a0 a1} (ha1 : Keep W z a1) :
    Keep W z (State.safSet a0 a1) := by
  first | exact ha1.upd rfl id id id (by intro p hp; cases p <;> first | contradiction | rfl) | (unfold State.safSet; grind only [usr keep_rest, usr keep_foldl])
grind_pattern keep_State_safSet => Keep W z a1, State.safSet a0 a1

theorem keep_State_fltSet [Lets W .flt] {a0 a1} (ha1 : Keep W z a1) :
    Keep W z (State.fltSet a0 a1) := by
  first | exact ha1.upd rfl id id id (by intro p hp; cases p <;> first | contradiction | rfl) | (unfold State.fltSet; grind only [usr keep_rest, usr keep_foldl])
grind_pattern keep_State_fltSet => Keep W z a1, State.fltSet a0 a1

theorem keep_State_modSet [Lets W .mod] {a0 a1} (ha1 : Keep W z a1) :
    Keep W z (State.modSet a0 a1) := by
  first | exact ha1.upd rfl id id id (by intro p hp; cases p <;> first | contradiction | rfl) | (unfold State.modSet; grind only [usr keep_rest, usr keep_foldl])
grind_pattern keep_State_modSet => Keep W z a1, State.modSet a0 a1

theorem keep_State_pairSet [Lets W .pair] {a0 a1} (ha1 : Keep W z a1) :
    Keep W z (State.pairSet a0 a1) := by
  first | exact ha1.upd rfl id id id (by intro p hp; cases p <;> first | contradiction | rfl) | (unfold State.pairSet; grind only [usr keep_rest, usr keep_foldl])
grind_pattern keep_State_pairSet => Keep W z a1, State.pairSet a0 a1

theorem keep_State_ringSet [Lets W .ring] {a0 a1} (ha1 : Keep W z a1) :
    Keep W z (State.ringSet a0 a1) := by
  first | exact ha1.upd rfl id id id (by intro p hp; cases p <;> first | contradiction | rfl) | (unfold State.ringSet; grind only [usr keep_rest, usr keep_foldl])
grind_pattern keep_State_ringSet => Keep W z a1, State.ringSet a0 a1

theorem keep_State_xlSet [Lets W .xl] {a0 a1} (ha1 : Keep W z a1) :
    Keep W z (State.xlSet a0 a1) := by
  first | exact ha1.upd rfl id id id (by intro p hp; cases p <;> first | contradiction | rfl) | (unfold State.xlSet; grind only [usr keep_rest, usr keep_foldl])
grind_pattern keep_State_xlSet => Keep W z a1, State.xlSet a0 a1

end Sys2Proof.Laws
end

