-- ==== Sys2Proof/Laws/KeepOps.lean ====
section
/-! SUPPORT. What the operations of Machine/Ops keep (see Laws/Keep). -/

set_option Elab.async false
namespace Sys2Proof.Laws
open Sys2Proof.Machine
variable {W : Part → Prop} {z : State}

theorem keep_State_emit [Lets W .out] {a0 a1} (ha1 : Keep W z a1) :
    Keep W z (State.emit a0 a1) := by
  first | exact ha1.upd rfl id id id (by intro p hp; cases p <;> first | contradiction | rfl) | (unfold State.emit; grind only [usr keep_rest, usr keep_foldl])
grind_pattern keep_State_emit => Keep W z a1, State.emit a0 a1

theorem keep_State_idleBreak [Lets W .pw] {a0} (ha0 : Keep W z a0) :
    Keep W z (State.idleBreak a0) := by
  unfold State.idleBreak
  grind only [usr keep_rest, usr keep_foldl, usr keep_State_pwSet]
grind_pattern keep_State_idleBreak => Keep W z a0, State.idleBreak a0

theorem keep_State_evt [Lets W .regs] {a0 a1 a2} (ha0 : Keep W z a0) :
    Keep W z (State.evt a0 a1 a2) := by
  unfold State.evt
  grind only [usr keep_rest, usr keep_foldl, usr keep_State_rset]
grind_pattern keep_State_evt => Keep W z a0, State.evt a0 a1 a2

theorem keep_State_elapse [Lets W .tm] {a0 a1} (ha0 : Keep W z a0) :
    Keep W z (State.elapse a0 a1) := by
  first | exact ha0.upd rfl id id id (by intro p hp; cases p <;> first | contradiction | rfl) | (unfold State.elapse; grind only [usr keep_rest, usr keep_foldl])
grind_pattern keep_State_elapse => Keep W z a0, State.elapse a0 a1

theorem keep_State_toTb2 [Lets W .tm] {a0 a1} (ha0 : Keep W z a0) :
    Keep W z (State.toTb2 a0 a1) := by
  unfold State.toTb2
  grind only [usr keep_rest, usr keep_foldl, usr keep_State_elapse]
grind_pattern keep_State_toTb2 => Keep W z a0, State.toTb2 a0 a1

theorem keep_State_drawn [Lets W .freeCtr] {a0} (ha0 : Keep W z a0) :
    Keep W z (State.drawn a0) := by
  first | exact ha0.upd rfl id id id (by intro p hp; cases p <;> first | contradiction | rfl) | (unfold State.drawn; grind only [usr keep_rest, usr keep_foldl])
grind_pattern keep_State_drawn => Keep W z a0, State.drawn a0

theorem keep_State_bump [Lets W .objs] {a0 a1} (ha0 : Keep W z a0) :
    Keep W z (State.bump a0 a1) := by
  unfold State.bump
  grind only [usr keep_rest, usr keep_foldl, usr keep_State_oset]
grind_pattern keep_State_bump => Keep W z a0, State.bump a0 a1

theorem keep_State_toTb0 [Lets W .tm] {a0 a1} (ha0 : Keep W z a0) :
    Keep W z (State.toTb0 a0 a1) := by
  unfold State.toTb0
  generalize toI 64 _ = d
  dsimp only
  split
  · exact Keep.upd (keep_State_elapse (a1 := d.toNat) ha0) rfl id id id (by intro p hp; cases p <;> first | contradiction | rfl)
  · exact ha0
grind_pattern keep_State_toTb0 => Keep W z a0, State.toTb0 a0 a1

theorem keep_State_addTo [Lets W .objs] {a0 a1 a2} (ha0 : Keep W z a0) :
    Keep W z (State.addTo a0 a1 a2) := by
  unfold State.addTo
  grind only [usr keep_rest, usr keep_foldl, usr keep_State_oset]
grind_pattern keep_State_addTo => Keep W z a0, State.addTo a0 a1 a2

end Sys2Proof.Laws
end

