-- ==== Sys2Proof/Laws/KeepIrq.lean ====
section
/-! SUPPORT. What the operations of Machine/Irq keep (see Laws/Keep). -/

set_option Elab.async false
namespace Sys2Proof.Laws
open Sys2Proof.Machine
variable {W : Part → Prop} {z : State}

theorem keep_State_setGrp [Lets W .irq] {a0 a1 a2} (ha0 : Keep W z a0) :
    Keep W z (State.setGrp a0 a1 a2) := by
  first | exact ha0.upd rfl id id id (by intro p hp; cases p <;> first | contradiction | rfl) | (unfold State.setGrp; grind only [usr keep_rest, usr keep_foldl])
grind_pattern keep_State_setGrp => Keep W z a0, State.setGrp a0 a1 a2

theorem keep_State_irqEvent [Lets W .irq] {a0 a1 a2} (ha2 : Keep W z a2) :
    Keep W z (State.irqEvent a0 a1 a2) := by
  unfold State.irqEvent
  grind only [usr keep_rest, usr keep_foldl, usr keep_State_setGrp]
grind_pattern keep_State_irqEvent => Keep W z a2, State.irqEvent a0 a1 a2

theorem keep_State_irqPost [Lets W .irq] {a0 a1 a2} (ha2 : Keep W z a2) :
    Keep W z (State.irqPost a0 a1 a2) := by
  unfold State.irqPost
  grind only [usr keep_rest, usr keep_foldl, usr keep_State_irqEvent]
grind_pattern keep_State_irqPost => Keep W z a2, State.irqPost a0 a1 a2

theorem keep_State_withdraw [Lets W .irq] {a0} (ha0 : Keep W z a0) :
    Keep W z (State.withdraw a0) := by
  unfold State.withdraw
  grind only [usr keep_rest, usr keep_foldl, usr keep_State_setGrp]
grind_pattern keep_State_withdraw => Keep W z a0, State.withdraw a0

theorem keep_State_completeGroup [Lets W .irq] {a0 a1} (ha1 : Keep W z a1) :
    Keep W z (State.completeGroup a0 a1) := by
  unfold State.completeGroup
  grind only [usr keep_rest, usr keep_foldl, usr keep_State_setGrp]
grind_pattern keep_State_completeGroup => Keep W z a1, State.completeGroup a0 a1

theorem keep_State_irqCalm [Lets W .irq] {a0 a1} (ha1 : Keep W z a1) :
    Keep W z (State.irqCalm a0 a1) := by
  unfold State.irqCalm
  grind only [usr keep_rest, usr keep_foldl, usr keep_State_setGrp]
grind_pattern keep_State_irqCalm => Keep W z a1, State.irqCalm a0 a1

theorem keep_State_irqDisable [Lets W .irq] {a0 a1} (ha1 : Keep W z a1) :
    Keep W z (State.irqDisable a0 a1) := by
  unfold State.irqDisable
  grind only [usr keep_rest, usr keep_foldl, usr keep_State_irqCalm]
grind_pattern keep_State_irqDisable => Keep W z a1, State.irqDisable a0 a1

theorem keep_State_irqEnable [Lets W .irq] {a0 a1} (ha1 : Keep W z a1) :
    Keep W z (State.irqEnable a0 a1) := by
  unfold State.irqEnable
  grind only [usr keep_rest, usr keep_foldl, usr keep_State_irqEvent]
grind_pattern keep_State_irqEnable => Keep W z a1, State.irqEnable a0 a1

theorem keep_State_recoveryEnds [Lets W .irq] {a0} (ha0 : Keep W z a0) :
    Keep W z (State.recoveryEnds a0) := by
  unfold State.recoveryEnds
  split
  · split
    · exact ha0
    · exact keep_rest (h := ha0) (h_irq := .inr inferInstance) (h_pw := .inl rfl) (h_tm := .inl rfl) (h_flt := .inl rfl) (h_dsp := .inl rfl) (h_seat := .inl rfl) (h_ring := .inl rfl) (h_xl := .inl rfl) (h_pair := .inl rfl) (h_pwm := .inl rfl) (h_bat := .inl rfl) (h_adc := .inl rfl) (h_loop := .inl rfl) (h_cap := .inl rfl) (h_sl := .inl rfl) (h_saf := .inl rfl) (h_mod := .inl rfl) (h_work := .inl rfl) (h_mem := .inl rfl) (h_tap := .inl rfl) (h_freeCtr := .inl rfl) (h_out := .inl rfl)
  · exact ha0
grind_pattern keep_State_recoveryEnds => Keep W z a0, State.recoveryEnds a0

theorem keep_State_claimGroup [Lets W .irq] {a0 a1 a2 a3} (ha3 : Keep W z a3) :
    Keep W z (State.claimGroup a0 a1 a2 a3) := by
  unfold State.claimGroup
  grind only [usr keep_rest, usr keep_foldl, usr keep_State_setGrp]
grind_pattern keep_State_claimGroup => Keep W z a3, State.claimGroup a0 a1 a2 a3

theorem keep_State_irqDiscard [Lets W .irq] {a0 a1} (ha1 : Keep W z a1) :
    Keep W z (State.irqDiscard a0 a1) := by
  unfold State.irqDiscard
  grind only [usr keep_rest, usr keep_foldl, usr keep_State_irqCalm]
grind_pattern keep_State_irqDiscard => Keep W z a1, State.irqDiscard a0 a1

theorem keep_State_irqPostMask [Lets W .irq] {a0 a1 a2} (ha2 : Keep W z a2) :
    Keep W z (State.irqPostMask a0 a1 a2) := by
  unfold State.irqPostMask
  grind only [usr keep_rest, usr keep_foldl, usr keep_State_irqPost]
grind_pattern keep_State_irqPostMask => Keep W z a2, State.irqPostMask a0 a1 a2

end Sys2Proof.Laws
end

