-- ==== Sys2Proof/Laws/KeepCapCore.lean ====
section
/-! SUPPORT. What the operations of Machine/CapCore keep (see Laws/Keep). -/

set_option Elab.async false
namespace Sys2Proof.Laws
open Sys2Proof.Machine
variable {W : Part → Prop} {z : State}

theorem keep_State_setStream [Lets W .cap] {a0 a1 a2} (ha0 : Keep W z a0) :
    Keep W z (State.setStream a0 a1 a2) := by
  unfold State.setStream
  grind only [usr keep_rest, usr keep_foldl, usr keep_State_capSet]
grind_pattern keep_State_setStream => Keep W z a0, State.setStream a0 a1 a2

theorem keep_State_capStat [Lets W .cap] {a0 a1 a2} (ha2 : Keep W z a2) :
    Keep W z (State.capStat a0 a1 a2) := by
  unfold State.capStat
  grind only [usr keep_rest, usr keep_foldl, usr keep_State_setStream]
grind_pattern keep_State_capStat => Keep W z a2, State.capStat a0 a1 a2

theorem keep_State_capArm [Lets W .cap] {a0 a1} (ha1 : Keep W z a1) :
    Keep W z (State.capArm a0 a1) := by
  unfold State.capArm
  grind only [usr keep_rest, usr keep_foldl, usr keep_State_setStream]
grind_pattern keep_State_capArm => Keep W z a1, State.capArm a0 a1

theorem keep_State_holdEnd [Lets W .cap] {a0 a1} (ha1 : Keep W z a1) :
    Keep W z (State.holdEnd a0 a1) := by
  unfold State.holdEnd
  grind only [usr keep_rest, usr keep_foldl, usr keep_State_capArm]
grind_pattern keep_State_holdEnd => Keep W z a1, State.holdEnd a0 a1

theorem keep_State_capHeldOff [Lets W .cap] {a0 a1} (ha1 : Keep W z a1) :
    Keep W z (State.capHeldOff a0 a1) := by
  unfold State.capHeldOff
  grind only [usr keep_rest, usr keep_foldl, usr keep_State_holdEnd, usr keep_State_capStat, usr keep_State_setStream]
grind_pattern keep_State_capHeldOff => Keep W z a1, State.capHeldOff a0 a1

theorem keep_State_trigMerge [Lets W .cap] {a0 a1 a2} (ha2 : Keep W z a2) :
    Keep W z (State.trigMerge a0 a1 a2) := by
  unfold State.trigMerge
  grind only [usr keep_rest, usr keep_foldl, usr keep_State_capSet, usr keep_State_setStream]
grind_pattern keep_State_trigMerge => Keep W z a2, State.trigMerge a0 a1 a2

theorem keep_State_memStore [Lets W .work] {a0 a1 a2 a3} (ha3 : Keep W z a3) :
    Keep W z (State.memStore a0 a1 a2 a3) := by
  unfold State.memStore
  grind only [usr keep_rest, usr keep_foldl, usr keep_State_workSet]
grind_pattern keep_State_memStore => Keep W z a3, State.memStore a0 a1 a2 a3

theorem keep_State_winStore [Lets W .work] {a0 a1 a2 a3} (ha3 : Keep W z a3) :
    Keep W z (State.winStore a0 a1 a2 a3) := by
  unfold State.winStore
  grind only [usr keep_rest, usr keep_foldl, usr keep_State_memStore]
grind_pattern keep_State_winStore => Keep W z a3, State.winStore a0 a1 a2 a3

theorem keep_State_winStart [Lets W .cap] [Lets W .work] {a0 a1 a2 a3} (ha3 : Keep W z a3) :
    KeepP2 W z (State.winStart a0 a1 a2 a3) := by
  unfold State.winStart
  grind only [= keepP_mk, → keepP_snd, ← keep_foldlP, = keepP2_mk, → keepP2_snd, ← keep_foldlP2, usr keep_rest, usr keep_foldl, usr keep_State_capStat, usr keep_State_setStream, usr keep_State_capSet, usr keep_State_winStore]
grind_pattern keep_State_winStart => Keep W z a3, State.winStart a0 a1 a2 a3

theorem keep_State_capTriggerBy [Lets W .irq] [Lets W .cap] [Lets W .work] {a0 a1 a2 a3 a4 a5} (ha5 : Keep W z a5) :
    Keep W z (State.capTriggerBy a0 a1 a2 a3 a4 a5) := by
  induction a0 generalizing a1 a2 a3 a4 a5 with
  | zero => exact ha5
  | succ n ih =>
    unfold State.capTriggerBy
    extract_lets +onlyGivenNames s0 r
    have h0 : Keep W z s0 := keep_State_holdEnd ha5
    clear_value s0 r
    split
    · exact keep_State_trigMerge h0
    · split
      · exact keep_State_capHeldOff h0
      · extract_lets +onlyGivenNames s1
        have h1 : Keep W z s1 := keep_State_irqPost (keep_State_capStat h0)
        clear_value s1
        have hw := keepP2_snd _ (keep_State_winStart (a0 := a2) (a1 := a3) (a2 := a4) h1)
        split
        rename_i flags id s2 e
        rw [e] at hw
        extract_lets +onlyGivenNames r2 now s3 s4
        have h4 : Keep W z s4 := keep_State_holdEnd (keep_State_setStream hw)
        clear_value s4
        refine keep_foldl _ _ h4 fun t a ht => ?_
        split
        · exact ih ht
        · exact ht
grind_pattern keep_State_capTriggerBy => Keep W z a5, State.capTriggerBy a0 a1 a2 a3 a4 a5

theorem keep_State_capTrigger [Lets W .irq] [Lets W .cap] [Lets W .work] {a0 a1 a2 a3 a4} (ha4 : Keep W z a4) :
    Keep W z (State.capTrigger a0 a1 a2 a3 a4) := by
  unfold State.capTrigger
  grind [keep_foldl, keep_State_capTriggerBy, = keepE_ok, = keepE_error, = keepR_next, = keepR_fault, = keepR_refused, = keepP_mk, → keepP_snd, = keepP2_mk, → keepP2_snd, = keepP3_mk, → keepP3_snd, = keepO_some, = keepO_none, = keepO2_some, = keepO2_none]
grind_pattern keep_State_capTrigger => Keep W z a4, State.capTrigger a0 a1 a2 a3 a4

theorem keep_State_capHappen [Lets W .irq] [Lets W .cap] [Lets W .work] {a0 a1 a2} (ha2 : Keep W z a2) :
    Keep W z (State.capHappen a0 a1 a2) := by
  unfold State.capHappen
  grind only [usr keep_rest, usr keep_foldl, usr keep_State_capTrigger]
grind_pattern keep_State_capHappen => Keep W z a2, State.capHappen a0 a1 a2

theorem keep_State_capForget [Lets W .ring] {a0 a1} (ha1 : Keep W z a1) :
    Keep W z (State.capForget a0 a1) := by
  first | exact ha1.upd rfl id id id (by intro p hp; cases p <;> first | contradiction | rfl) | (unfold State.capForget; grind only [usr keep_rest, usr keep_foldl])
grind_pattern keep_State_capForget => Keep W z a1, State.capForget a0 a1

theorem keep_State_setWin [Lets W .cap] {a0 a1 a2} (ha2 : Keep W z a2) :
    Keep W z (State.setWin a0 a1 a2) := by
  unfold State.setWin
  grind only [usr keep_rest, usr keep_foldl, usr keep_State_capSet]
grind_pattern keep_State_setWin => Keep W z a2, State.setWin a0 a1 a2

theorem keep_State_winHead [Lets W .work] {a0 a1} (ha1 : Keep W z a1) :
    Keep W z (State.winHead a0 a1) := by
  unfold State.winHead
  grind only [usr keep_rest, usr keep_foldl, usr keep_State_winStore]
grind_pattern keep_State_winHead => Keep W z a1, State.winHead a0 a1

theorem keep_State_winReady [Lets W .irq] [Lets W .cap] [Lets W .work] {a0 a1} (ha1 : Keep W z a1) :
    Keep W z (State.winReady a0 a1) := by
  unfold State.winReady
  grind only [usr keep_rest, usr keep_foldl, usr keep_State_winHead, usr keep_State_irqPost, usr keep_State_setStream, usr keep_State_setWin]
grind_pattern keep_State_winReady => Keep W z a1, State.winReady a0 a1

theorem keep_State_winAdd [Lets W .irq] [Lets W .cap] [Lets W .work] {a0 a1 a2 a3} (ha3 : Keep W z a3) :
    Keep W z (State.winAdd a0 a1 a2 a3) := by
  unfold State.winAdd
  grind only [usr keep_rest, usr keep_foldl, usr keep_State_setWin, usr keep_State_winStore, usr keep_State_winReady]
grind_pattern keep_State_winAdd => Keep W z a3, State.winAdd a0 a1 a2 a3

theorem keep_State_capKeep [Lets W .irq] [Lets W .cap] [Lets W .work] {a0 a1 a2 a3} (ha3 : Keep W z a3) :
    Keep W z (State.capKeep a0 a1 a2 a3) := by
  unfold State.capKeep
  grind only [usr keep_rest, usr keep_foldl, usr keep_State_winAdd, usr keep_State_setStream]
grind_pattern keep_State_capKeep => Keep W z a3, State.capKeep a0 a1 a2 a3

theorem keep_State_stageWrite [Lets W .work] {a0 a1 a2 a3} (ha3 : Keep W z a3) :
    Keep W z (State.stageWrite a0 a1 a2 a3) := by
  unfold State.stageWrite
  grind only [usr keep_rest, usr keep_foldl, usr keep_State_memStore]
grind_pattern keep_State_stageWrite => Keep W z a3, State.stageWrite a0 a1 a2 a3

theorem keep_State_capProduce [Lets W .irq] [Lets W .cap] [Lets W .work] {a0 a1 a2 a3 a4} (ha4 : Keep W z a4) :
    KeepP W z (State.capProduce a0 a1 a2 a3 a4) := by
  unfold State.capProduce
  grind [= keepP_mk, → keepP_snd, ← keep_foldlP, keep_foldl, keep_State_capStat, keep_State_setStream, keep_State_stageWrite, keep_State_irqPost, = keepE_ok, = keepE_error, = keepR_next, = keepR_fault, = keepR_refused, = keepP2_mk, → keepP2_snd, = keepP3_mk, → keepP3_snd, = keepO_some, = keepO_none, = keepO2_some, = keepO2_none]
grind_pattern keep_State_capProduce => Keep W z a4, State.capProduce a0 a1 a2 a3 a4

theorem keep_State_capMark [Lets W .irq] [Lets W .cap] [Lets W .work] {a0 a1 a2 a3} (ha3 : Keep W z a3) :
    Keep W z (State.capMark a0 a1 a2 a3) := by
  unfold State.capMark
  grind only [= keepP_mk, → keepP_snd, ← keep_foldlP, usr keep_rest, usr keep_foldl, usr keep_State_capProduce]
grind_pattern keep_State_capMark => Keep W z a3, State.capMark a0 a1 a2 a3

theorem keep_State_capMarks [Lets W .irq] [Lets W .cap] [Lets W .work] {a0 a1 a2} (ha2 : Keep W z a2) :
    Keep W z (State.capMarks a0 a1 a2) := by
  induction a1 generalizing a2 with
  | nil => exact ha2
  | cons t rest ih =>
    unfold State.capMarks
    exact ih (keep_State_capMark ha2)
grind_pattern keep_State_capMarks => Keep W z a2, State.capMarks a0 a1 a2

theorem keep_State_winTrunc [Lets W .irq] [Lets W .cap] [Lets W .work] {a0 a1} (ha1 : Keep W z a1) :
    Keep W z (State.winTrunc a0 a1) := by
  unfold State.winTrunc
  grind only [usr keep_rest, usr keep_foldl, usr keep_State_winReady, usr keep_State_setWin]
grind_pattern keep_State_winTrunc => Keep W z a1, State.winTrunc a0 a1

theorem keep_State_capReset [Lets W .irq] [Lets W .cap] [Lets W .work] {a0} (ha0 : Keep W z a0) :
    Keep W z (State.capReset a0) := by
  unfold State.capReset
  grind only [usr keep_rest, usr keep_foldl, usr keep_State_winTrunc, usr keep_State_capSet]
grind_pattern keep_State_capReset => Keep W z a0, State.capReset a0

theorem keep_State_stageFree [Lets W .cap] {a0 a1 a2} (ha2 : Keep W z a2) :
    Keep W z (State.stageFree a0 a1 a2) := by
  unfold State.stageFree
  grind only [usr keep_rest, usr keep_foldl, usr keep_State_setStream]
grind_pattern keep_State_stageFree => Keep W z a2, State.stageFree a0 a1 a2

theorem keep_State_capSent [Lets W .cap] {a0 a1} (ha1 : Keep W z a1) :
    Keep W z (State.capSent a0 a1) := by
  unfold State.capSent
  grind only [usr keep_rest, usr keep_foldl, usr keep_State_stageFree]
grind_pattern keep_State_capSent => Keep W z a1, State.capSent a0 a1

theorem keep_State_irqUnpost [Lets W .irq] {a0 a1 a2 a3 a4} (ha4 : Keep W z a4) :
    Keep W z (State.irqUnpost a0 a1 a2 a3 a4) := by
  unfold State.irqUnpost
  grind only [usr keep_rest, usr keep_foldl, usr keep_State_setGrp]
grind_pattern keep_State_irqUnpost => Keep W z a4, State.irqUnpost a0 a1 a2 a3 a4

theorem keep_State_capUntrigger [Lets W .irq] [Lets W .cap] {a0 a1 a2} (ha2 : Keep W z a2) :
    Keep W z (State.capUntrigger a0 a1 a2) := by
  induction a0 generalizing a1 a2 with
  | zero => exact ha2
  | succ n ih =>
    unfold State.capUntrigger
    extract_lets +onlyGivenNames r
    split
    · exact ha2
    · split
      · exact ha2
      · extract_lets +onlyGivenNames s1 s2
        have h1 : Keep W z s1 := keep_State_capStat (keep_State_setStream ha2)
        clear_value s1
        have h2 : Keep W z s2 := keep_State_capSet h1
        clear_value s2
        refine keep_foldl _ _ (keep_State_irqUnpost h2) fun t a ht => ?_
        split
        · exact ih ht
        · exact ht
grind_pattern keep_State_capUntrigger => Keep W z a2, State.capUntrigger a0 a1 a2

theorem keep_State_pantryRelease [Lets W .cap] {a0 a1} (ha1 : Keep W z a1) :
    Keep W z (State.pantryRelease a0 a1) := by
  unfold State.pantryRelease
  grind only [usr keep_rest, usr keep_foldl, usr keep_State_capSet]
grind_pattern keep_State_pantryRelease => Keep W z a1, State.pantryRelease a0 a1

theorem keep_State_capStop [Lets W .irq] [Lets W .cap] [Lets W .work] {a0 a1} (ha1 : Keep W z a1) :
    Keep W z (State.capStop a0 a1) := by
  unfold State.capStop
  grind only [usr keep_rest, usr keep_foldl, usr keep_State_winTrunc, usr keep_State_capUntrigger, usr keep_State_pantryRelease, usr keep_State_setStream]
grind_pattern keep_State_capStop => Keep W z a1, State.capStop a0 a1

end Sys2Proof.Laws
end

