-- ==== Sys2Proof/Laws/KeepFaultOps.lean ====
section
/-! SUPPORT. What the operations of Machine/FaultOps keep (see Laws/Keep). -/

set_option Elab.async false
namespace Sys2Proof.Laws
open Sys2Proof.Machine
variable {W : Part → Prop} {z : State}

theorem keep_State_capFault [Lets W .irq] [Lets W .cap] [Lets W .work] {a0 a1} (ha1 : Keep W z a1) :
    Keep W z (State.capFault a0 a1) := by
  unfold State.capFault
  grind only [usr keep_rest, usr keep_foldl, usr keep_State_capHappen]
grind_pattern keep_State_capFault => Keep W z a1, State.capFault a0 a1

theorem keep_State_fltEvt [Lets W .regs] {a0 a1} (ha1 : Keep W z a1) :
    Keep W z (State.fltEvt a0 a1) := by
  unfold State.fltEvt
  grind only [usr keep_rest, usr keep_foldl, usr keep_State_evt]
grind_pattern keep_State_fltEvt => Keep W z a1, State.fltEvt a0 a1

theorem keep_State_firstFault [Lets W .regs] [Lets W .flt] [Lets W .irq] {a0 a1 a2} (ha2 : Keep W z a2) :
    Keep W z (State.firstFault a0 a1 a2) := by
  unfold State.firstFault
  grind only [usr keep_rest, usr keep_foldl, usr keep_State_irqPost, usr keep_State_fltEvt]
grind_pattern keep_State_firstFault => Keep W z a2, State.firstFault a0 a1 a2

theorem keep_State_fence [Lets W .regs] [Lets W .flt] [Lets W .irq] {a0 a1 a2 a3} (ha3 : Keep W z a3) :
    Keep W z (State.fence a0 a1 a2 a3) := by
  unfold State.fence
  grind only [usr keep_rest, usr keep_foldl, usr keep_State_irqPost, usr keep_State_fltEvt]
grind_pattern keep_State_fence => Keep W z a3, State.fence a0 a1 a2 a3

theorem keep_State_react [Lets W .regs] [Lets W .flt] [Lets W .irq] {a0 a1 a2} (ha2 : Keep W z a2) :
    Keep W z (State.react a0 a1 a2) := by
  unfold State.react
  grind only [usr keep_rest, usr keep_foldl, usr keep_State_fence]
grind_pattern keep_State_react => Keep W z a2, State.react a0 a1 a2

theorem keep_State_ilog [Lets W .flt] {a0 a1 a2 a3} (ha3 : Keep W z a3) :
    Keep W z (State.ilog a0 a1 a2 a3) := by
  first | exact ha3.upd rfl id id id (by intro p hp; cases p <;> first | contradiction | rfl) | (unfold State.ilog; grind only [usr keep_rest, usr keep_foldl])
grind_pattern keep_State_ilog => Keep W z a3, State.ilog a0 a1 a2 a3

theorem keep_State_record [Lets W .flt] [Lets W .irq] {a0 a1 a2} (ha2 : Keep W z a2) :
    Keep W z (State.record a0 a1 a2) := by
  unfold State.record
  grind only [usr keep_rest, usr keep_foldl, usr keep_State_ilog, usr keep_State_irqPost]
grind_pattern keep_State_record => Keep W z a2, State.record a0 a1 a2

theorem keep_State_setFsrc [Lets W .flt] {a0 a1 a2} (ha0 : Keep W z a0) :
    Keep W z (State.setFsrc a0 a1 a2) := by
  first | exact ha0.upd rfl id id id (by intro p hp; cases p <;> first | contradiction | rfl) | (unfold State.setFsrc; grind only [usr keep_rest, usr keep_foldl])
grind_pattern keep_State_setFsrc => Keep W z a0, State.setFsrc a0 a1 a2

theorem keep_State_undoIdle [Lets W .flt] {a0 a1} (ha1 : Keep W z a1) :
    Keep W z (State.undoIdle a0 a1) := by
  unfold State.undoIdle
  grind only [usr keep_rest, usr keep_foldl, usr keep_State_setFsrc]
grind_pattern keep_State_undoIdle => Keep W z a1, State.undoIdle a0 a1

theorem keep_State_raise [Lets W .regs] [Lets W .flt] [Lets W .irq] [Lets W .cap] [Lets W .work] {a0 a1 a2} (ha2 : Keep W z a2) :
    Keep W z (State.raise a0 a1 a2) := by
  unfold State.raise
  grind [keep_foldl, keep_State_undoIdle, keep_State_capFault, keep_State_react, keep_State_firstFault, keep_State_record, keep_State_setFsrc, = keepE_ok, = keepE_error, = keepR_next, = keepR_fault, = keepR_refused, = keepP_mk, → keepP_snd, = keepP2_mk, → keepP2_snd, = keepP3_mk, → keepP3_snd, = keepO_some, = keepO_none, = keepO2_some, = keepO2_none]
grind_pattern keep_State_raise => Keep W z a2, State.raise a0 a1 a2

theorem keep_State_release [Lets W .flt] {a0 a1 a2} (ha2 : Keep W z a2) :
    Keep W z (State.release a0 a1 a2) := by
  unfold State.release
  grind only [usr keep_rest, usr keep_foldl, usr keep_State_setFsrc, usr keep_State_ilog]
grind_pattern keep_State_release => Keep W z a2, State.release a0 a1 a2

theorem keep_State_raiseIf [Lets W .regs] [Lets W .flt] [Lets W .irq] [Lets W .cap] [Lets W .work] {a0 a1 a2 a3} (ha3 : Keep W z a3) :
    Keep W z (State.raiseIf a0 a1 a2 a3) := by
  unfold State.raiseIf
  grind only [usr keep_rest, usr keep_foldl, usr keep_State_raise, usr keep_State_release]
grind_pattern keep_State_raiseIf => Keep W z a3, State.raiseIf a0 a1 a2 a3

theorem keep_State_rateCheck [Lets W .regs] [Lets W .flt] [Lets W .irq] [Lets W .cap] [Lets W .work] {a0} (ha0 : Keep W z a0) :
    Keep W z (State.rateCheck a0) := by
  unfold State.rateCheck
  grind only [usr keep_rest, usr keep_foldl, usr keep_State_raiseIf]
grind_pattern keep_State_rateCheck => Keep W z a0, State.rateCheck a0

theorem keep_State_pulse [Lets W .regs] [Lets W .flt] [Lets W .irq] [Lets W .cap] [Lets W .work] {a0 a1 a2} (ha2 : Keep W z a2) :
    Keep W z (State.pulse a0 a1 a2) := by
  unfold State.pulse
  grind only [usr keep_rest, usr keep_foldl, usr keep_State_release, usr keep_State_raise]
grind_pattern keep_State_pulse => Keep W z a2, State.pulse a0 a1 a2

theorem keep_State_irqLog [Lets W .regs] [Lets W .flt] [Lets W .irq] [Lets W .cap] [Lets W .work] {a0 a1 a2 a3} (ha3 : Keep W z a3) :
    Keep W z (State.irqLog a0 a1 a2 a3) := by
  unfold State.irqLog
  grind only [usr keep_rest, usr keep_foldl, usr keep_State_rateCheck]
grind_pattern keep_State_irqLog => Keep W z a3, State.irqLog a0 a1 a2 a3

theorem keep_State_ilogTest [Lets W .flt] {a0 a1 a2} (ha2 : Keep W z a2) :
    Keep W z (State.ilogTest a0 a1 a2) := by
  first | exact ha2.upd rfl id id id (by intro p hp; cases p <;> first | contradiction | rfl) | (unfold State.ilogTest; grind only [usr keep_rest, usr keep_foldl])
grind_pattern keep_State_ilogTest => Keep W z a2, State.ilogTest a0 a1 a2

theorem keep_State_setCellRec [Lets W .ring] {a0 a1 a2} (ha0 : Keep W z a0) :
    Keep W z (State.setCellRec a0 a1 a2) := by
  first | exact ha0.upd rfl id id id (by intro p hp; cases p <;> first | contradiction | rfl) | (unfold State.setCellRec; grind only [usr keep_rest, usr keep_foldl])
grind_pattern keep_State_setCellRec => Keep W z a0, State.setCellRec a0 a1 a2

theorem keep_State_unfence [Lets W .flt] {a0 a1} (ha1 : Keep W z a1) :
    Keep W z (State.unfence a0 a1) := by
  first | exact ha1.upd rfl id id id (by intro p hp; cases p <;> first | contradiction | rfl) | (unfold State.unfence; grind only [usr keep_rest, usr keep_foldl])
grind_pattern keep_State_unfence => Keep W z a1, State.unfence a0 a1

theorem keep_State_goIdle [Lets W .flt] {a0 a1 a2} (ha2 : Keep W z a2) :
    Keep W z (State.goIdle a0 a1 a2) := by
  unfold State.goIdle
  grind only [usr keep_rest, usr keep_foldl, usr keep_State_setFsrc]
grind_pattern keep_State_goIdle => Keep W z a2, State.goIdle a0 a1 a2

theorem keep_State_clearLatched [Lets W .flt] {a0 a1} (ha1 : Keep W z a1) :
    Keep W z (State.clearLatched a0 a1) := by
  unfold State.clearLatched
  grind only [usr keep_rest, usr keep_foldl, usr keep_State_goIdle]
grind_pattern keep_State_clearLatched => Keep W z a1, State.clearLatched a0 a1

theorem keep_State_quietEnd [Lets W .regs] [Lets W .flt] [Lets W .irq] {a0 a1} (ha1 : Keep W z a1) :
    Keep W z (State.quietEnd a0 a1) := by
  unfold State.quietEnd
  grind only [usr keep_rest, usr keep_foldl, usr keep_State_goIdle, usr keep_State_irqPost, usr keep_State_fltEvt, usr keep_State_setFsrc]
grind_pattern keep_State_quietEnd => Keep W z a1, State.quietEnd a0 a1

end Sys2Proof.Laws
end

