-- ==== Sys2Proof/Laws/KeepDsp.lean ====
section
/-! SUPPORT. What the operations of Machine/Dsp keep (see Laws/Keep). -/

set_option Elab.async false
namespace Sys2Proof.Laws
open Sys2Proof.Machine
variable {W : Part → Prop} {z : State}

theorem keep_State_setQueue [Lets W .dsp] {a0 a1 a2} (ha0 : Keep W z a0) :
    Keep W z (State.setQueue a0 a1 a2) := by
  first | exact ha0.upd rfl id id id (by intro p hp; cases p <;> first | contradiction | rfl) | (unfold State.setQueue; grind only [usr keep_rest, usr keep_foldl])
grind_pattern keep_State_setQueue => Keep W z a0, State.setQueue a0 a1 a2

theorem keep_State_loadTick [Lets W .dsp] {a0 a1} (ha1 : Keep W z a1) :
    Keep W z (State.loadTick a0 a1) := by
  unfold State.loadTick
  grind only [usr keep_rest, usr keep_foldl, usr keep_State_setQueue]
grind_pattern keep_State_loadTick => Keep W z a1, State.loadTick a0 a1

theorem keep_State_setDelayList [Lets W .dsp] {a0 a1 a2} (ha0 : Keep W z a0) :
    Keep W z (State.setDelayList a0 a1 a2) := by
  first | exact ha0.upd rfl id id id (by intro p hp; cases p <;> first | contradiction | rfl) | (unfold State.setDelayList; grind only [usr keep_rest, usr keep_foldl])
grind_pattern keep_State_setDelayList => Keep W z a0, State.setDelayList a0 a1 a2

theorem keep_State_setFlow [Lets W .dsp] {a0 a1 a2} (ha0 : Keep W z a0) :
    Keep W z (State.setFlow a0 a1 a2) := by
  first | exact ha0.upd rfl id id id (by intro p hp; cases p <;> first | contradiction | rfl) | (unfold State.setFlow; grind only [usr keep_rest, usr keep_foldl])
grind_pattern keep_State_setFlow => Keep W z a0, State.setFlow a0 a1 a2

theorem keep_State_depthRise [Lets W .regs] [Lets W .irq] [Lets W .dsp] {a0 a1} (ha1 : Keep W z a1) :
    Keep W z (State.depthRise a0 a1) := by
  unfold State.depthRise
  grind only [usr keep_rest, usr keep_foldl, usr keep_State_setQueue, usr keep_State_irqPost, usr keep_State_evt]
grind_pattern keep_State_depthRise => Keep W z a1, State.depthRise a0 a1

theorem keep_State_endItem [Lets W .irq] [Lets W .dsp] {a0 a1} (ha1 : Keep W z a1) :
    Keep W z (State.endItem a0 a1) := by
  unfold State.endItem
  grind only [usr keep_rest, usr keep_foldl, usr keep_State_loadTick, usr keep_State_setFlow, usr keep_State_setQueue, usr keep_State_completeGroup]
grind_pattern keep_State_endItem => Keep W z a1, State.endItem a0 a1

theorem keep_State_enqueue [Lets W .regs] [Lets W .irq] [Lets W .dsp] [Lets W .work] [Lets W .freeCtr] {a0 a1} (ha1 : Keep W z a1) :
    Keep W z (State.enqueue a0 a1) := by
  unfold State.enqueue
  grind only [usr keep_rest, usr keep_foldl, usr keep_State_memStore, usr keep_State_drawn, usr keep_State_depthRise, usr keep_State_setFlow]
grind_pattern keep_State_enqueue => Keep W z a1, State.enqueue a0 a1

theorem keep_State_push [Lets W .regs] [Lets W .flt] [Lets W .irq] [Lets W .dsp] [Lets W .cap] [Lets W .work] [Lets W .freeCtr] {a0 a1 a2 a3 a4 a5 a6 a7 a8} (ha0 : Keep W z a0) :
    KeepP W z (State.push a0 a1 a2 a3 a4 a5 a6 a7 a8) := by
  unfold State.push
  grind only [= keepP_mk, → keepP_snd, ← keep_foldlP, usr keep_rest, usr keep_foldl, usr keep_State_irqLog, usr keep_State_evt, usr keep_State_enqueue, usr keep_State_irqPost, usr keep_State_setDelayList]
grind_pattern keep_State_push => Keep W z a0, State.push a0 a1 a2 a3 a4 a5 a6 a7 a8

theorem keep_State_setDspPath [Lets W .dsp] {a0 a1 a2 a3} (ha0 : Keep W z a0) :
    Keep W z (State.setDspPath a0 a1 a2 a3) := by
  first | exact ha0.upd rfl id id id (by intro p hp; cases p <;> first | contradiction | rfl) | (unfold State.setDspPath; grind only [usr keep_rest, usr keep_foldl])
grind_pattern keep_State_setDspPath => Keep W z a0, State.setDspPath a0 a1 a2 a3

theorem keep_State_noteStep [Lets W .dsp] {a0 a1 a2 a3} (ha3 : Keep W z a3) :
    Keep W z (State.noteStep a0 a1 a2 a3) := by
  unfold State.noteStep
  grind only [usr keep_rest, usr keep_foldl, usr keep_State_setDelayList]
grind_pattern keep_State_noteStep => Keep W z a3, State.noteStep a0 a1 a2 a3

theorem keep_State_popQueue [Lets W .regs] [Lets W .irq] [Lets W .dsp] {a0 a1} (ha1 : Keep W z a1) :
    KeepO W z (State.popQueue a0 a1) := by
  unfold State.popQueue
  grind [= keepP_mk, → keepP_snd, ← keep_foldlP, = keepO_some, = keepO_none, keep_foldl, keep_State_loadTick, keep_State_setFlow, keep_State_setQueue, keep_State_evt, keep_State_irqPost, = keepE_ok, = keepE_error, = keepR_next, = keepR_fault, = keepR_refused, = keepP2_mk, → keepP2_snd, = keepP3_mk, → keepP3_snd, = keepO2_some, = keepO2_none]
grind_pattern keep_State_popQueue => Keep W z a1, State.popQueue a0 a1

theorem keep_State_releaseList [Lets W .regs] [Lets W .irq] [Lets W .dsp] [Lets W .work] [Lets W .freeCtr] {a0 a1} (ha1 : Keep W z a1) :
    Keep W z (State.releaseList a0 a1) := by
  unfold State.releaseList
  grind only [usr keep_rest, usr keep_foldl, usr keep_State_enqueue, usr keep_State_setDelayList]
grind_pattern keep_State_releaseList => Keep W z a1, State.releaseList a0 a1

end Sys2Proof.Laws
end

