-- ==== Sys2Proof/Laws/KeepWorkMem.lean ====
section
/-! SUPPORT. What the operations of Machine/WorkMem keep (see Laws/Keep). -/

set_option Elab.async false
namespace Sys2Proof.Laws
open Sys2Proof.Machine
variable {W : Part → Prop} {z : State}

theorem keep_State_setWordErr [Lets W .work] {a0 a1 a2} (ha2 : Keep W z a2) :
    Keep W z (State.setWordErr a0 a1 a2) := by
  unfold State.setWordErr
  grind only [usr keep_rest, usr keep_foldl, usr keep_State_workSet]
grind_pattern keep_State_setWordErr => Keep W z a2, State.setWordErr a0 a1 a2

theorem keep_State_applyMemInj [Lets W .work] {a0 a1} (ha1 : Keep W z a1) :
    KeepE W z (State.applyMemInj a0 a1) := by
  unfold State.applyMemInj
  grind only [= keepE_ok, = keepE_error, usr keep_rest, usr keep_foldl, usr keep_State_setWordErr]
grind_pattern keep_State_applyMemInj => Keep W z a1, State.applyMemInj a0 a1

theorem keep_State_memLog [Lets W .work] {a0 a1 a2 a3 a4} (ha4 : Keep W z a4) :
    Keep W z (State.memLog a0 a1 a2 a3 a4) := by
  unfold State.memLog
  grind only [usr keep_rest, usr keep_foldl, usr keep_State_workSet]
grind_pattern keep_State_memLog => Keep W z a4, State.memLog a0 a1 a2 a3 a4

theorem keep_State_memCorrected [Lets W .objs] [Lets W .regs] [Lets W .flt] [Lets W .irq] [Lets W .cap] [Lets W .work] {a0 a1 a2 a3} (ha3 : Keep W z a3) :
    Keep W z (State.memCorrected a0 a1 a2 a3) := by
  unfold State.memCorrected
  grind only [usr keep_rest, usr keep_foldl, usr keep_State_irqPost, usr keep_State_pulse, usr keep_State_memLog, usr keep_State_bump, usr keep_State_setWordErr]
grind_pattern keep_State_memCorrected => Keep W z a3, State.memCorrected a0 a1 a2 a3

theorem keep_State_memUncorrectable [Lets W .objs] [Lets W .regs] [Lets W .flt] [Lets W .irq] [Lets W .cap] [Lets W .work] {a0 a1 a2} (ha2 : Keep W z a2) :
    Keep W z (State.memUncorrectable a0 a1 a2) := by
  unfold State.memUncorrectable
  grind only [usr keep_rest, usr keep_foldl, usr keep_State_irqPost, usr keep_State_pulse, usr keep_State_memLog, usr keep_State_bump]
grind_pattern keep_State_memUncorrectable => Keep W z a2, State.memUncorrectable a0 a1 a2

theorem keep_State_setWordWrong [Lets W .work] {a0 a1 a2} (ha2 : Keep W z a2) :
    Keep W z (State.setWordWrong a0 a1 a2) := by
  unfold State.setWordWrong
  grind only [usr keep_rest, usr keep_foldl, usr keep_State_workSet]
grind_pattern keep_State_setWordWrong => Keep W z a2, State.setWordWrong a0 a1 a2

theorem keep_State_readWord [Lets W .objs] [Lets W .regs] [Lets W .flt] [Lets W .irq] [Lets W .cap] [Lets W .work] [Lets W .freeCtr] {a0 a1 a2} (ha2 : Keep W z a2) :
    Keep W z (State.readWord a0 a1 a2).st := by
  unfold State.readWord
  grind only [= keepR_next, = keepR_fault, = keepR_refused, usr keep_rest, usr keep_foldl, usr keep_State_memCorrected, usr keep_State_memUncorrectable, usr keep_State_drawn, usr keep_State_setWordWrong, usr keep_State_setWordErr]
grind_pattern keep_State_readWord => Keep W z a2, State.readWord a0 a1 a2

theorem keep_State_readWords [Lets W .objs] [Lets W .regs] [Lets W .flt] [Lets W .irq] [Lets W .cap] [Lets W .work] [Lets W .freeCtr] {a0 a1 a2} (ha2 : Keep W z a2) :
    KeepP W z (State.readWords a0 a1 a2) := by
  induction a1 generalizing a2 with
  | nil => exact ha2
  | cons w l ih =>
    unfold State.readWords
    exact ih (keep_State_readWord ha2)
grind_pattern keep_State_readWords => Keep W z a2, State.readWords a0 a1 a2

theorem keep_State_memLoad [Lets W .objs] [Lets W .regs] [Lets W .flt] [Lets W .irq] [Lets W .cap] [Lets W .work] [Lets W .freeCtr] {a0 a1 a2 a3 a4} (ha4 : Keep W z a4) :
    KeepP2 W z (State.memLoad a0 a1 a2 a3 a4) := by
  unfold State.memLoad
  grind only [= keepP_mk, → keepP_snd, ← keep_foldlP, = keepP2_mk, → keepP2_snd, ← keep_foldlP2, usr keep_rest, usr keep_foldl, usr keep_State_readWords]
grind_pattern keep_State_memLoad => Keep W z a4, State.memLoad a0 a1 a2 a3 a4

theorem keep_State_WordRead_st {a0} (ha0 : Keep W z a0.st) :
    Keep W z (State.WordRead.st a0) := by
  unfold State.WordRead.st
  grind only [usr keep_rest, usr keep_foldl]
grind_pattern keep_State_WordRead_st => Keep W z a0.st, State.WordRead.st a0

theorem keep_State_scrubRead [Lets W .objs] [Lets W .regs] [Lets W .tm] [Lets W .flt] [Lets W .irq] [Lets W .cap] [Lets W .work] [Lets W .freeCtr] {a0} (ha0 : Keep W z a0) :
    Keep W z (State.scrubRead a0) := by
  unfold State.scrubRead
  extract_lets +onlyGivenNames s s1 n
  have h : Keep W z s := keep_State_toTb2 ha0
  clear_value s
  have h1 : Keep W z s1 := keep_State_readWord h
  clear_value s1
  split
  · exact keep_State_workSet h1
  · exact keep_State_irqPost (keep_State_workSet h1)
grind_pattern keep_State_scrubRead => Keep W z a0, State.scrubRead a0

end Sys2Proof.Laws
end

