-- ==== Sys2Proof/Laws/KeepAccess.lean ====
section
/-! SUPPORT. What the operations of Machine/Access keep (see Laws/Keep). -/

set_option Elab.async false
namespace Sys2Proof.Laws
open Sys2Proof.Machine
variable {W : Part → Prop} {z : State}

theorem keep_State_seatLogAdd [Lets W .seat] {a0 a1 a2 a3} (ha3 : Keep W z a3) :
    Keep W z (State.seatLogAdd a0 a1 a2 a3) := by
  first | exact ha3.upd rfl id id id (by intro p hp; cases p <;> first | contradiction | rfl) | (unfold State.seatLogAdd; grind only [usr keep_rest, usr keep_foldl])
grind_pattern keep_State_seatLogAdd => Keep W z a3, State.seatLogAdd a0 a1 a2 a3

theorem keep_State_seatLogEntry [Lets W .regs] [Lets W .flt] [Lets W .irq] [Lets W .seat] [Lets W .cap] [Lets W .work] {a0 a1 a2 a3} (ha3 : Keep W z a3) :
    Keep W z (State.seatLogEntry a0 a1 a2 a3) := by
  unfold State.seatLogEntry
  grind only [usr keep_rest, usr keep_foldl, usr keep_State_seatLogAdd, usr keep_State_rateCheck, usr keep_State_irqPost]
grind_pattern keep_State_seatLogEntry => Keep W z a3, State.seatLogEntry a0 a1 a2 a3

theorem keep_State_answer [Lets W .regs] [Lets W .pw] [Lets W .flt] [Lets W .irq] [Lets W .seat] [Lets W .cap] [Lets W .work] [Lets W .out] {a0 a1 a2 a3 a4} (ha4 : Keep W z a4) :
    Keep W z (State.answer a0 a1 a2 a3 a4) := by
  unfold State.answer
  grind only [usr keep_rest, usr keep_foldl, usr keep_State_emit, usr keep_State_idleBreak, usr keep_State_rateCheck, usr keep_State_seatLogAdd, usr keep_State_seatLogEntry]
grind_pattern keep_State_answer => Keep W z a4, State.answer a0 a1 a2 a3 a4

theorem keep_State_leaseRestart [Lets W .seat] {a0} (ha0 : Keep W z a0) :
    Keep W z (State.leaseRestart a0) := by
  first | exact ha0.upd rfl id id id (by intro p hp; cases p <;> first | contradiction | rfl) | (unfold State.leaseRestart; grind only [usr keep_rest, usr keep_foldl])
grind_pattern keep_State_leaseRestart => Keep W z a0, State.leaseRestart a0

theorem keep_State_mirrorAdd [Lets W .pair] {a0 a1} (ha1 : Keep W z a1) :
    Keep W z (State.mirrorAdd a0 a1) := by
  first | exact ha1.upd rfl id id id (by intro p hp; cases p <;> first | contradiction | rfl) | (unfold State.mirrorAdd; grind only [usr keep_rest, usr keep_foldl])
grind_pattern keep_State_mirrorAdd => Keep W z a1, State.mirrorAdd a0 a1

theorem keep_State_accepted [Lets W .regs] [Lets W .pw] [Lets W .flt] [Lets W .irq] [Lets W .seat] [Lets W .pair] [Lets W .cap] [Lets W .work] [Lets W .out] {a0 a1 a2 a3} (ha3 : Keep W z a3) :
    Keep W z (State.accepted a0 a1 a2 a3) := by
  unfold State.accepted
  grind only [usr keep_rest, usr keep_foldl, usr keep_State_leaseRestart, usr keep_State_mirrorAdd, usr keep_State_answer]
grind_pattern keep_State_accepted => Keep W z a3, State.accepted a0 a1 a2 a3

theorem keep_State_guardedRead [Lets W .regs] [Lets W .pw] [Lets W .flt] [Lets W .irq] [Lets W .seat] [Lets W .cap] [Lets W .work] [Lets W .out] {a0 a1 a2 a3 a4} (ha3 : ∀ x0, Keep W z x0 → Keep W z (a3 x0)) (ha4 : Keep W z a4) :
    Keep W z (State.guardedRead a0 a1 a2 a3 a4) := by
  unfold State.guardedRead
  grind only [usr keep_rest, usr keep_foldl, usr keep_State_answer, usr keep_State_emit]

theorem keep_State_guardedWrite [Lets W .regs] [Lets W .pw] [Lets W .flt] [Lets W .irq] [Lets W .seat] [Lets W .pair] [Lets W .cap] [Lets W .work] [Lets W .out] {a0 a1 a2 a3 a4} (ha3 : ∀ x0, Keep W z x0 → KeepE W z (a3 x0)) (ha4 : Keep W z a4) :
    Keep W z (State.guardedWrite a0 a1 a2 a3 a4) := by
  unfold State.guardedWrite
  grind only [= keepE_ok, = keepE_error, usr keep_rest, usr keep_foldl, usr keep_State_irqPost, usr keep_State_answer, usr keep_State_accepted]

theorem keep_State_guardedValue [Lets W .regs] [Lets W .pw] [Lets W .flt] [Lets W .irq] [Lets W .seat] [Lets W .pair] [Lets W .cap] [Lets W .work] [Lets W .out] {a0 a1 a2 a3 a4} (ha3 : ∀ x0 x1, Keep W z x1 → KeepE W z (a3 x0 x1)) (ha4 : Keep W z a4) :
    Keep W z (State.guardedValue a0 a1 a2 a3 a4) := by
  unfold State.guardedValue
  grind only [= keepE_ok, = keepE_error, usr keep_rest, usr keep_foldl, keep_State_guardedWrite]

theorem keep_State_plainWrite [Lets W .objs] {a0 a1 a2} (ha2 : Keep W z a2) :
    KeepE W z (State.plainWrite a0 a1 a2) := by
  unfold State.plainWrite
  grind only [= keepE_ok, = keepE_error, usr keep_rest, usr keep_foldl, usr keep_State_oset]
grind_pattern keep_State_plainWrite => Keep W z a2, State.plainWrite a0 a1 a2

theorem keep_State_tokenGive [Lets W .irq] [Lets W .seat] {a0 a1 a2} (ha2 : Keep W z a2) :
    Keep W z (State.tokenGive a0 a1 a2) := by
  unfold State.tokenGive
  grind only [usr keep_rest, usr keep_foldl, usr keep_State_irqPost]
grind_pattern keep_State_tokenGive => Keep W z a2, State.tokenGive a0 a1 a2

theorem keep_State_tokenPass [Lets W .irq] [Lets W .seat] {a0} (ha0 : Keep W z a0) :
    Keep W z (State.tokenPass a0) := by
  unfold State.tokenPass
  grind only [usr keep_rest, usr keep_foldl, usr keep_State_tokenGive]
grind_pattern keep_State_tokenPass => Keep W z a0, State.tokenPass a0

theorem keep_State_tokenReset [Lets W .seat] {a0} (ha0 : Keep W z a0) :
    Keep W z (State.tokenReset a0) := by
  first | exact ha0.upd rfl id id id (by intro p hp; cases p <;> first | contradiction | rfl) | (unfold State.tokenReset; grind only [usr keep_rest, usr keep_foldl])
grind_pattern keep_State_tokenReset => Keep W z a0, State.tokenReset a0

end Sys2Proof.Laws
end

