-- ==== Sys2Proof/Laws/KeepLinkOps.lean ====
section
/-! SUPPORT. What the operations of Machine/LinkOps keep (see Laws/Keep). -/

set_option Elab.async false
namespace Sys2Proof.Laws
open Sys2Proof.Machine
variable {W : Part → Prop} {z : State}

theorem keep_State_setPort [Lets W .ring] {a0 a1 a2} (ha0 : Keep W z a0) :
    Keep W z (State.setPort a0 a1 a2) := by
  first | exact ha0.upd rfl id id id (by intro p hp; cases p <;> first | contradiction | rfl) | (unfold State.setPort; grind only [usr keep_rest, usr keep_foldl])
grind_pattern keep_State_setPort => Keep W z a0, State.setPort a0 a1 a2

theorem keep_State_spendInj [Lets W .regs] [Lets W .ring] {a0 a1} (ha1 : Keep W z a1) :
    Keep W z (State.spendInj a0 a1) := by
  unfold State.spendInj
  grind only [usr keep_rest, usr keep_foldl, usr keep_State_setPort, usr keep_State_rset]
grind_pattern keep_State_spendInj => Keep W z a1, State.spendInj a0 a1

theorem keep_State_leave [Lets W .regs] [Lets W .ring] [Lets W .out] {a0 a1 a2 a3} (ha3 : Keep W z a3) :
    Keep W z (State.leave a0 a1 a2 a3) := by
  unfold State.leave
  grind only [usr keep_rest, usr keep_foldl, usr keep_State_emit, usr keep_State_spendInj]
grind_pattern keep_State_leave => Keep W z a3, State.leave a0 a1 a2 a3

theorem keep_State_txStart [Lets W .regs] [Lets W .ring] [Lets W .cap] [Lets W .out] {a0 a1 a2 a3} (ha3 : Keep W z a3) :
    Keep W z (State.txStart a0 a1 a2 a3) := by
  unfold State.txStart
  grind only [usr keep_rest, usr keep_foldl, usr keep_State_setPort, usr keep_State_leave, usr keep_State_capSent, usr keep_State_emit]
grind_pattern keep_State_txStart => Keep W z a3, State.txStart a0 a1 a2 a3

theorem keep_State_pumpN [Lets W .regs] [Lets W .ring] [Lets W .cap] [Lets W .out] {a0 a1 a2} (ha2 : Keep W z a2) :
    Keep W z (State.pumpN a0 a1 a2) := by
  induction a1 generalizing a2 with
  | zero => exact ha2
  | succ n ih =>
    unfold State.pumpN
    extract_lets +onlyGivenNames r
    split
    · exact ha2
    · split
      · exact ih (keep_State_txStart (keep_State_setPort ha2))
      · split
        · exact ih (keep_State_txStart (keep_State_setPort ha2))
        · exact ha2
grind_pattern keep_State_pumpN => Keep W z a2, State.pumpN a0 a1 a2

theorem keep_State_repeatC [Lets W .ring] [Lets W .out] {a0 a1} (ha1 : Keep W z a1) :
    Keep W z (State.repeatC a0 a1) := by
  unfold State.repeatC
  grind only [usr keep_rest, usr keep_foldl, usr keep_State_emit, usr keep_State_setPort]
grind_pattern keep_State_repeatC => Keep W z a1, State.repeatC a0 a1

theorem keep_State_pump [Lets W .regs] [Lets W .ring] [Lets W .cap] [Lets W .out] {a0 a1} (ha1 : Keep W z a1) :
    Keep W z (State.pump a0 a1) := by
  unfold State.pump
  grind only [usr keep_rest, usr keep_foldl, usr keep_State_repeatC, usr keep_State_pumpN]
grind_pattern keep_State_pump => Keep W z a1, State.pump a0 a1

theorem keep_State_rngEvt [Lets W .regs] [Lets W .irq] {a0 a1 a2} (ha2 : Keep W z a2) :
    Keep W z (State.rngEvt a0 a1 a2) := by
  unfold State.rngEvt
  grind only [usr keep_rest, usr keep_foldl, usr keep_State_evt, usr keep_State_irqPost]
grind_pattern keep_State_rngEvt => Keep W z a2, State.rngEvt a0 a1 a2

theorem keep_State_ringLog [Lets W .objs] [Lets W .regs] [Lets W .flt] [Lets W .irq] [Lets W .ring] [Lets W .cap] [Lets W .work] {a0 a1 a2 a3 a4} (ha4 : Keep W z a4) :
    Keep W z (State.ringLog a0 a1 a2 a3 a4) := by
  unfold State.ringLog
  grind only [usr keep_rest, usr keep_foldl, usr keep_State_bump, usr keep_State_rateCheck, usr keep_State_rngEvt]
grind_pattern keep_State_ringLog => Keep W z a4, State.ringLog a0 a1 a2 a3 a4

theorem keep_State_sendSym [Lets W .out] {a0 a1 a2 a3} (ha3 : Keep W z a3) :
    Keep W z (State.sendSym a0 a1 a2 a3) := by
  unfold State.sendSym
  grind only [usr keep_rest, usr keep_foldl, usr keep_State_emit]
grind_pattern keep_State_sendSym => Keep W z a3, State.sendSym a0 a1 a2 a3

theorem keep_State_txAdd [Lets W .regs] [Lets W .ring] [Lets W .cap] [Lets W .out] {a0 a1 a2 a3 a4 a5} (ha5 : Keep W z a5) :
    Keep W z (State.txAdd a0 a1 a2 a3 a4 a5) := by
  unfold State.txAdd
  grind only [usr keep_rest, usr keep_foldl, usr keep_State_pump, usr keep_State_setPort]
grind_pattern keep_State_txAdd => Keep W z a5, State.txAdd a0 a1 a2 a3 a4 a5

theorem keep_State_txForward [Lets W .objs] [Lets W .regs] [Lets W .flt] [Lets W .irq] [Lets W .ring] [Lets W .cap] [Lets W .work] [Lets W .out] {a0 a1 a2 a3 a4 a5} (ha5 : Keep W z a5) :
    Keep W z (State.txForward a0 a1 a2 a3 a4 a5) := by
  unfold State.txForward
  grind only [usr keep_rest, usr keep_foldl, usr keep_State_pump, usr keep_State_ringLog, usr keep_State_sendSym, usr keep_State_txAdd]
grind_pattern keep_State_txForward => Keep W z a5, State.txForward a0 a1 a2 a3 a4 a5

theorem keep_State_forwardBad [Lets W .objs] [Lets W .regs] [Lets W .flt] [Lets W .irq] [Lets W .ring] [Lets W .cap] [Lets W .work] [Lets W .out] {a0 a1 a2} (ha2 : Keep W z a2) :
    Keep W z (State.forwardBad a0 a1 a2) := by
  unfold State.forwardBad
  grind only [usr keep_rest, usr keep_foldl, usr keep_State_txForward]
grind_pattern keep_State_forwardBad => Keep W z a2, State.forwardBad a0 a1 a2

theorem keep_State_forwardOut [Lets W .objs] [Lets W .regs] [Lets W .flt] [Lets W .irq] [Lets W .ring] [Lets W .cap] [Lets W .work] [Lets W .out] {a0 a1 a2} (ha2 : Keep W z a2) :
    Keep W z (State.forwardOut a0 a1 a2) := by
  unfold State.forwardOut
  grind only [usr keep_rest, usr keep_foldl, usr keep_State_txForward]
grind_pattern keep_State_forwardOut => Keep W z a2, State.forwardOut a0 a1 a2

theorem keep_State_setXl [Lets W .xl] {a0 a1 a2} (ha0 : Keep W z a0) :
    Keep W z (State.setXl a0 a1 a2) := by
  first | exact ha0.upd rfl id id id (by intro p hp; cases p <;> first | contradiction | rfl) | (unfold State.setXl; grind only [usr keep_rest, usr keep_foldl])
grind_pattern keep_State_setXl => Keep W z a0, State.setXl a0 a1 a2

theorem keep_State_xlMark [Lets W .xl] {a0 a1 a2} (ha2 : Keep W z a2) :
    Keep W z (State.xlMark a0 a1 a2) := by
  unfold State.xlMark
  grind only [usr keep_rest, usr keep_foldl, usr keep_State_setXl]
grind_pattern keep_State_xlMark => Keep W z a2, State.xlMark a0 a1 a2

theorem keep_State_sendCurtainSet [Lets W .xl] [Lets W .out] {a0 a1} (ha1 : Keep W z a1) :
    Keep W z (State.sendCurtainSet a0 a1) := by
  unfold State.sendCurtainSet
  grind only [usr keep_rest, usr keep_foldl, usr keep_State_xlMark, usr keep_State_emit, usr keep_State_setXl]
grind_pattern keep_State_sendCurtainSet => Keep W z a1, State.sendCurtainSet a0 a1

theorem keep_State_repeatSet [Lets W .xl] [Lets W .out] {a0 a1} (ha1 : Keep W z a1) :
    Keep W z (State.repeatSet a0 a1) := by
  unfold State.repeatSet
  grind only [usr keep_rest, usr keep_foldl, usr keep_State_emit, usr keep_State_setXl, usr keep_State_sendCurtainSet]
grind_pattern keep_State_repeatSet => Keep W z a1, State.repeatSet a0 a1

theorem keep_State_xlStart [Lets W .regs] [Lets W .xl] [Lets W .out] {a0 a1 a2 a3 a4} (ha4 : Keep W z a4) :
    Keep W z (State.xlStart a0 a1 a2 a3 a4) := by
  unfold State.xlStart
  grind only [usr keep_rest, usr keep_foldl, usr keep_State_setXl, usr keep_State_rset, usr keep_State_emit]
grind_pattern keep_State_xlStart => Keep W z a4, State.xlStart a0 a1 a2 a3 a4

theorem keep_State_xlPumpN [Lets W .regs] [Lets W .xl] [Lets W .out] {a0 a1 a2} (ha2 : Keep W z a2) :
    Keep W z (State.xlPumpN a0 a1 a2) := by
  induction a1 generalizing a2 with
  | zero => exact ha2
  | succ n ih =>
    unfold State.xlPumpN
    extract_lets +onlyGivenNames k free go q0 first
    split
    · exact ih (keep_State_xlStart (keep_State_setXl ha2))
    · exact ha2
grind_pattern keep_State_xlPumpN => Keep W z a2, State.xlPumpN a0 a1 a2

theorem keep_State_xlPump [Lets W .regs] [Lets W .xl] [Lets W .out] {a0 a1} (ha1 : Keep W z a1) :
    Keep W z (State.xlPump a0 a1) := by
  unfold State.xlPump
  grind only [usr keep_rest, usr keep_foldl, usr keep_State_repeatSet, usr keep_State_xlPumpN]
grind_pattern keep_State_xlPump => Keep W z a1, State.xlPump a0 a1

theorem keep_State_xlSendOn [Lets W .regs] [Lets W .xl] [Lets W .out] {a0 a1 a2 a3 a4 a5} (ha5 : Keep W z a5) :
    Keep W z (State.xlSendOn a0 a1 a2 a3 a4 a5) := by
  unfold State.xlSendOn
  grind only [usr keep_rest, usr keep_foldl, usr keep_State_xlPump, usr keep_State_setXl]
grind_pattern keep_State_xlSendOn => Keep W z a5, State.xlSendOn a0 a1 a2 a3 a4 a5

theorem keep_State_xlSend [Lets W .regs] [Lets W .xl] [Lets W .out] {a0 a1 a2 a3 a4} (ha4 : Keep W z a4) :
    Keep W z (State.xlSend a0 a1 a2 a3 a4) := by
  unfold State.xlSend
  grind only [usr keep_rest, usr keep_foldl, usr keep_State_xlSendOn]
grind_pattern keep_State_xlSend => Keep W z a4, State.xlSend a0 a1 a2 a3 a4

theorem keep_State_relayUp [Lets W .regs] [Lets W .xl] [Lets W .out] {a0 a1 a2} (ha2 : Keep W z a2) :
    Keep W z (State.relayUp a0 a1 a2) := by
  unfold State.relayUp
  grind only [usr keep_rest, usr keep_foldl, usr keep_State_xlSend]
grind_pattern keep_State_relayUp => Keep W z a2, State.relayUp a0 a1 a2

theorem keep_State_passOn [Lets W .objs] [Lets W .regs] [Lets W .flt] [Lets W .irq] [Lets W .ring] [Lets W .xl] [Lets W .cap] [Lets W .work] [Lets W .out] {a0 a1 a2 a3 a4} (ha4 : Keep W z a4) :
    Keep W z (State.passOn a0 a1 a2 a3 a4) := by
  unfold State.passOn
  grind only [usr keep_rest, usr keep_foldl, usr keep_State_forwardBad, usr keep_State_forwardOut, usr keep_State_relayUp]
grind_pattern keep_State_passOn => Keep W z a4, State.passOn a0 a1 a2 a3 a4

theorem keep_State_setNode [Lets W .ring] {a0 a1} (ha0 : Keep W z a0) :
    Keep W z (State.setNode a0 a1) := by
  first | exact ha0.upd rfl id id id (by intro p hp; cases p <;> first | contradiction | rfl) | (unfold State.setNode; grind only [usr keep_rest, usr keep_foldl])
grind_pattern keep_State_setNode => Keep W z a0, State.setNode a0 a1

theorem keep_State_trackSeq [Lets W .objs] [Lets W .regs] [Lets W .flt] [Lets W .irq] [Lets W .ring] [Lets W .cap] [Lets W .work] {a0 a1 a2} (ha2 : Keep W z a2) :
    Keep W z (State.trackSeq a0 a1 a2) := by
  unfold State.trackSeq
  grind only [usr keep_rest, usr keep_foldl, usr keep_State_setPort, usr keep_State_ringLog]
grind_pattern keep_State_trackSeq => Keep W z a2, State.trackSeq a0 a1 a2

theorem keep_State_rxRing [Lets W .objs] [Lets W .regs] [Lets W .flt] [Lets W .irq] [Lets W .ring] [Lets W .xl] [Lets W .cap] [Lets W .work] [Lets W .out] {a0 a1 a2 a3 a4} (ha4 : Keep W z a4) :
    Keep W z (State.rxRing a0 a1 a2 a3 a4).st := by
  unfold State.rxRing
  try dsimp only
  repeat' (first | with_reducible assumption | with_reducible exact True.intro | intro _ | with_reducible apply keep_State_passOn | with_reducible apply keep_State_ringLog | with_reducible apply keep_State_bump | with_reducible apply keep_State_setNode | with_reducible apply keep_State_trackSeq | with_reducible apply keep_ite | with_reducible apply keep_foldl | (simp only [keepE_ok, keepE_error, keepR_next, keepR_fault, keepR_refused, keepP_mk, keepP2_mk, keepP3_mk, keepO_some, keepO_none, keepO2_some, keepO2_none]) | split)
grind_pattern keep_State_rxRing => Keep W z a4, State.rxRing a0 a1 a2 a3 a4

theorem keep_State_rxTyped [Lets W .objs] [Lets W .regs] [Lets W .flt] [Lets W .irq] [Lets W .ring] [Lets W .xl] [Lets W .cap] [Lets W .work] [Lets W .out] {a0 a1 a2 a3 a4 a5 a6} (ha5 : ∀ x0 x1, Keep W z x0.st → Keep W z x1 → Keep W z (a5 x0 x1)) (ha6 : Keep W z a6) :
    Keep W z (State.rxTyped a0 a1 a2 a3 a4 a5 a6) := by
  unfold State.rxTyped
  grind only [usr keep_rest, usr keep_foldl, usr keep_State_rxRing]

theorem keep_State_repeatCs [Lets W .ring] [Lets W .out] {a0} (ha0 : Keep W z a0) :
    Keep W z (State.repeatCs a0) := by
  unfold State.repeatCs
  grind only [usr keep_rest, usr keep_foldl, usr keep_State_repeatC]
grind_pattern keep_State_repeatCs => Keep W z a0, State.repeatCs a0

theorem keep_State_curtainsOut [Lets W .ring] [Lets W .xl] [Lets W .out] {a0} (ha0 : Keep W z a0) :
    Keep W z (State.curtainsOut a0) := by
  unfold State.curtainsOut
  grind only [usr keep_rest, usr keep_foldl, usr keep_State_repeatSet, usr keep_State_repeatCs]
grind_pattern keep_State_curtainsOut => Keep W z a0, State.curtainsOut a0

theorem keep_State_setRing [Lets W .ring] {a0 a1 a2} (ha0 : Keep W z a0) :
    Keep W z (State.setRing a0 a1 a2) := by
  first | exact ha0.upd rfl id id id (by intro p hp; cases p <;> first | contradiction | rfl) | (unfold State.setRing; grind only [usr keep_rest, usr keep_foldl])
grind_pattern keep_State_setRing => Keep W z a0, State.setRing a0 a1 a2

theorem keep_State_sendC [Lets W .ring] [Lets W .out] {a0 a1} (ha1 : Keep W z a1) :
    Keep W z (State.sendC a0 a1) := by
  unfold State.sendC
  grind only [usr keep_rest, usr keep_foldl, usr keep_State_setPort, usr keep_State_sendSym]
grind_pattern keep_State_sendC => Keep W z a1, State.sendC a0 a1

theorem keep_State_sendCurtainSets [Lets W .xl] [Lets W .out] {a0} (ha0 : Keep W z a0) :
    Keep W z (State.sendCurtainSets a0) := by
  unfold State.sendCurtainSets
  grind only [usr keep_rest, usr keep_foldl, usr keep_State_sendCurtainSet]
grind_pattern keep_State_sendCurtainSets => Keep W z a0, State.sendCurtainSets a0

theorem keep_State_nextSeq [Lets W .ring] {a0 a1 a2} (ha2 : Keep W z a2) :
    KeepP W z (State.nextSeq a0 a1 a2) := by
  unfold State.nextSeq
  grind only [= keepP_mk, → keepP_snd, ← keep_foldlP, usr keep_rest, usr keep_foldl, usr keep_State_setPort]
grind_pattern keep_State_nextSeq => Keep W z a2, State.nextSeq a0 a1 a2

theorem keep_State_bgAdd [Lets W .regs] [Lets W .ring] [Lets W .cap] [Lets W .out] {a0 a1 a2 a3 a4} (ha4 : Keep W z a4) :
    Keep W z (State.bgAdd a0 a1 a2 a3 a4) := by
  unfold State.bgAdd
  grind only [usr keep_rest, usr keep_foldl, usr keep_State_pump, usr keep_State_setPort]
grind_pattern keep_State_bgAdd => Keep W z a4, State.bgAdd a0 a1 a2 a3 a4

theorem keep_State_queueBg [Lets W .regs] [Lets W .ring] [Lets W .cap] [Lets W .out] {a0 a1 a2 a3 a4 a5 a6 a7 a8} (ha8 : Keep W z a8) :
    Keep W z (State.queueBg a0 a1 a2 a3 a4 a5 a6 a7 a8) := by
  unfold State.queueBg
  grind only [= keepP_mk, → keepP_snd, ← keep_foldlP, usr keep_rest, usr keep_foldl, usr keep_State_nextSeq, usr keep_State_bgAdd]
grind_pattern keep_State_queueBg => Keep W z a8, State.queueBg a0 a1 a2 a3 a4 a5 a6 a7 a8

theorem keep_State_relayDn [Lets W .regs] [Lets W .xl] [Lets W .out] {a0 a1 a2} (ha2 : Keep W z a2) :
    Keep W z (State.relayDn a0 a1 a2) := by
  unfold State.relayDn
  grind only [usr keep_rest, usr keep_foldl, usr keep_State_xlSend]
grind_pattern keep_State_relayDn => Keep W z a2, State.relayDn a0 a1 a2

theorem keep_State_originate [Lets W .regs] [Lets W .ring] [Lets W .cap] [Lets W .out] {a0 a1 a2 a3 a4 a5 a6 a7 a8 a9 a10} (ha10 : Keep W z a10) :
    Keep W z (State.originate a0 a1 a2 a3 a4 a5 a6 a7 a8 a9 a10) := by
  unfold State.originate
  grind only [= keepP_mk, → keepP_snd, ← keep_foldlP, usr keep_rest, usr keep_foldl, usr keep_State_nextSeq, usr keep_State_txAdd]
grind_pattern keep_State_originate => Keep W z a10, State.originate a0 a1 a2 a3 a4 a5 a6 a7 a8 a9 a10

theorem keep_State_pumpLinks [Lets W .regs] [Lets W .xl] [Lets W .out] {a0} (ha0 : Keep W z a0) :
    Keep W z (State.pumpLinks a0) := by
  unfold State.pumpLinks
  grind only [usr keep_rest, usr keep_foldl, usr keep_State_xlPump]
grind_pattern keep_State_pumpLinks => Keep W z a0, State.pumpLinks a0

theorem keep_State_pumpPorts [Lets W .regs] [Lets W .ring] [Lets W .cap] [Lets W .out] {a0} (ha0 : Keep W z a0) :
    Keep W z (State.pumpPorts a0) := by
  unfold State.pumpPorts
  grind only [usr keep_rest, usr keep_foldl, usr keep_State_pump]
grind_pattern keep_State_pumpPorts => Keep W z a0, State.pumpPorts a0

theorem keep_State_setPat [Lets W .ring] {a0 a1 a2} (ha2 : Keep W z a2) :
    Keep W z (State.setPat a0 a1 a2) := by
  first | exact ha2.upd rfl id id id (by intro p hp; cases p <;> first | contradiction | rfl) | (unfold State.setPat; grind only [usr keep_rest, usr keep_foldl])
grind_pattern keep_State_setPat => Keep W z a2, State.setPat a0 a1 a2

theorem keep_State_xlEvt [Lets W .regs] [Lets W .irq] {a0 a1 a2} (ha2 : Keep W z a2) :
    Keep W z (State.xlEvt a0 a1 a2) := by
  unfold State.xlEvt
  grind only [usr keep_rest, usr keep_foldl, usr keep_State_irqPost, usr keep_State_evt]
grind_pattern keep_State_xlEvt => Keep W z a2, State.xlEvt a0 a1 a2

theorem keep_State_checkBits [Lets W .regs] [Lets W .irq] [Lets W .ring] [Lets W .out] {a0 a1 a2 a3} (ha3 : Keep W z a3) :
    Keep W z (State.checkBits a0 a1 a2 a3) := by
  unfold State.checkBits
  grind only [usr keep_rest, usr keep_foldl, usr keep_State_emit, usr keep_State_setPat, usr keep_State_rset, usr keep_State_rngEvt, usr keep_State_xlEvt]
grind_pattern keep_State_checkBits => Keep W z a3, State.checkBits a0 a1 a2 a3

theorem keep_State_xlLog [Lets W .objs] [Lets W .regs] [Lets W .flt] [Lets W .irq] [Lets W .xl] [Lets W .cap] [Lets W .work] {a0 a1 a2 a3 a4} (ha4 : Keep W z a4) :
    Keep W z (State.xlLog a0 a1 a2 a3 a4) := by
  unfold State.xlLog
  grind only [usr keep_rest, usr keep_foldl, usr keep_State_bump, usr keep_State_rateCheck, usr keep_State_xlEvt]
grind_pattern keep_State_xlLog => Keep W z a4, State.xlLog a0 a1 a2 a3 a4

theorem keep_State_patSend [Lets W .out] {a0 a1} (ha1 : Keep W z a1) :
    Keep W z (State.patSend a0 a1) := by
  unfold State.patSend
  grind only [usr keep_rest, usr keep_foldl, usr keep_State_emit]
grind_pattern keep_State_patSend => Keep W z a1, State.patSend a0 a1

end Sys2Proof.Laws
end

