-- ==== Sys2Proof/Laws/KeepRingOps.lean ====
section
/-! SUPPORT. What the operations of Machine/RingOps keep (see Laws/Keep). -/

set_option Elab.async false
namespace Sys2Proof.Laws
open Sys2Proof.Machine
variable {W : Part → Prop} {z : State}

theorem keep_State_applyArmBridge [Lets W .objs] {a0 a1 a2} (ha2 : Keep W z a2) :
    KeepE W z (State.applyArmBridge a0 a1 a2) := by
  unfold State.applyArmBridge
  grind only [= keepE_ok, = keepE_error, usr keep_rest, usr keep_foldl, usr keep_State_oset]
grind_pattern keep_State_applyArmBridge => Keep W z a2, State.applyArmBridge a0 a1 a2

theorem keep_State_sendRing [Lets W .regs] [Lets W .ring] [Lets W .xl] [Lets W .cap] [Lets W .out] {a0 a1 a2 a3 a4 a5 a6 a7 a8 a9} (ha9 : Keep W z a9) :
    Keep W z (State.sendRing a0 a1 a2 a3 a4 a5 a6 a7 a8 a9) := by
  unfold State.sendRing
  grind only [= keepP_mk, → keepP_snd, ← keep_foldlP, usr keep_rest, usr keep_foldl, usr keep_State_queueBg, usr keep_State_nextSeq, usr keep_State_relayDn]
grind_pattern keep_State_sendRing => Keep W z a9, State.sendRing a0 a1 a2 a3 a4 a5 a6 a7 a8 a9

theorem keep_State_sendEnum [Lets W .regs] [Lets W .ring] [Lets W .xl] [Lets W .cap] [Lets W .out] {a0 a1 a2} (ha2 : Keep W z a2) :
    Keep W z (State.sendEnum a0 a1 a2) := by
  unfold State.sendEnum
  grind only [usr keep_rest, usr keep_foldl, usr keep_State_sendRing]
grind_pattern keep_State_sendEnum => Keep W z a2, State.sendEnum a0 a1 a2

theorem keep_State_startEnum [Lets W .regs] [Lets W .ring] [Lets W .xl] [Lets W .cap] [Lets W .out] {a0 a1} (ha1 : Keep W z a1) :
    Keep W z (State.startEnum a0 a1) := by
  unfold State.startEnum
  grind only [usr keep_rest, usr keep_foldl, usr keep_State_setRing, usr keep_State_sendEnum]
grind_pattern keep_State_startEnum => Keep W z a1, State.startEnum a0 a1

theorem keep_State_capRing [Lets W .regs] [Lets W .ring] [Lets W .xl] [Lets W .cap] [Lets W .out] {a0 a1 a2} (ha2 : Keep W z a2) :
    Keep W z (State.capRing a0 a1 a2) := by
  unfold State.capRing
  grind only [usr keep_rest, usr keep_foldl, usr keep_State_setPort, usr keep_State_setRing, usr keep_State_startEnum, usr keep_State_sendRing]
grind_pattern keep_State_capRing => Keep W z a2, State.capRing a0 a1 a2

theorem keep_State_judgeCell [Lets W .regs] [Lets W .flt] [Lets W .irq] [Lets W .ring] [Lets W .cap] [Lets W .work] {a0 a1 a2 a3} (ha3 : Keep W z a3) :
    Keep W z (State.judgeCell a0 a1 a2 a3) := by
  unfold State.judgeCell
  grind only [usr keep_rest, usr keep_foldl, usr keep_State_irqPost, usr keep_State_setCellRec, usr keep_State_raise, usr keep_State_release]
grind_pattern keep_State_judgeCell => Keep W z a3, State.judgeCell a0 a1 a2 a3

theorem keep_State_applyEnumCmd [Lets W .doms] [Lets W .regs] [Lets W .flt] [Lets W .irq] [Lets W .ring] [Lets W .xl] [Lets W .pair] [Lets W .cap] [Lets W .mod] [Lets W .work] [Lets W .out] {a0 a1} (ha1 : Keep W z a1) :
    KeepE W z (State.applyEnumCmd a0 a1) := by
  unfold State.applyEnumCmd
  grind only [= keepE_ok, = keepE_error, usr keep_rest, usr keep_foldl, usr keep_State_startEnum, usr keep_State_capRing, usr keep_State_unfence, usr keep_State_mirrorAdd, usr keep_State_dset, usr keep_State_modSet, usr keep_State_judgeCell, usr keep_State_setRing, usr keep_State_fence]
grind_pattern keep_State_applyEnumCmd => Keep W z a1, State.applyEnumCmd a0 a1

theorem keep_State_admissionTest [Lets W .regs] [Lets W .flt] [Lets W .irq] [Lets W .ring] [Lets W .cap] [Lets W .work] {a0 a1} (ha1 : Keep W z a1) :
    Keep W z (State.admissionTest a0 a1) := by
  unfold State.admissionTest
  grind only [usr keep_rest, usr keep_foldl, usr keep_State_raiseIf, usr keep_State_setRing, usr keep_State_raise, usr keep_State_release]
grind_pattern keep_State_admissionTest => Keep W z a1, State.admissionTest a0 a1

theorem keep_State_applyRingArm [Lets W .objs] [Lets W .regs] [Lets W .flt] [Lets W .irq] [Lets W .ring] [Lets W .cap] [Lets W .work] {a0 a1 a2} (ha2 : Keep W z a2) :
    KeepE W z (State.applyRingArm a0 a1 a2) := by
  unfold State.applyRingArm
  grind only [= keepE_ok, = keepE_error, usr keep_rest, usr keep_foldl, usr keep_State_admissionTest, usr keep_State_oset]
grind_pattern keep_State_applyRingArm => Keep W z a2, State.applyRingArm a0 a1 a2

theorem keep_State_sendCell [Lets W .objs] [Lets W .regs] [Lets W .flt] [Lets W .irq] [Lets W .ring] [Lets W .xl] [Lets W .cap] [Lets W .work] [Lets W .out] {a0 a1 a2 a3 a4 a5 a6 a7} (ha7 : Keep W z a7) :
    Keep W z (State.sendCell a0 a1 a2 a3 a4 a5 a6 a7) := by
  unfold State.sendCell
  grind only [usr keep_rest, usr keep_foldl, usr keep_State_sendRing, usr keep_State_ringLog]
grind_pattern keep_State_sendCell => Keep W z a7, State.sendCell a0 a1 a2 a3 a4 a5 a6 a7

theorem keep_State_stopPorts [Lets W .ring] {a0} (ha0 : Keep W z a0) :
    Keep W z (State.stopPorts a0) := by
  unfold State.stopPorts
  grind only [usr keep_rest, usr keep_foldl, usr keep_State_setPort]
grind_pattern keep_State_stopPorts => Keep W z a0, State.stopPorts a0

theorem keep_State_enterDetect [Lets W .ring] [Lets W .out] {a0 a1 a2} (ha2 : Keep W z a2) :
    Keep W z (State.enterDetect a0 a1 a2) := by
  unfold State.enterDetect
  grind only [usr keep_rest, usr keep_foldl, usr keep_State_sendSym, usr keep_State_setPort]
grind_pattern keep_State_enterDetect => Keep W z a2, State.enterDetect a0 a1 a2

theorem keep_State_startPort [Lets W .ring] [Lets W .out] {a0 a1} (ha1 : Keep W z a1) :
    Keep W z (State.startPort a0 a1) := by
  unfold State.startPort
  grind only [usr keep_rest, usr keep_foldl, usr keep_State_enterDetect]
grind_pattern keep_State_startPort => Keep W z a1, State.startPort a0 a1

theorem keep_State_startPorts [Lets W .ring] [Lets W .out] {a0} (ha0 : Keep W z a0) :
    Keep W z (State.startPorts a0) := by
  unfold State.startPorts
  grind only [usr keep_rest, usr keep_foldl, usr keep_State_startPort]
grind_pattern keep_State_startPorts => Keep W z a0, State.startPorts a0

theorem keep_State_admitRings [Lets W .regs] [Lets W .flt] [Lets W .irq] [Lets W .ring] [Lets W .cap] [Lets W .work] {a0} (ha0 : Keep W z a0) :
    Keep W z (State.admitRings a0) := by
  unfold State.admitRings
  grind only [usr keep_rest, usr keep_foldl, usr keep_State_admissionTest, usr keep_State_setRing, usr keep_State_judgeCell]
grind_pattern keep_State_admitRings => Keep W z a0, State.admitRings a0

theorem keep_State_latchPlans [Lets W .ring] {a0} (ha0 : Keep W z a0) :
    Keep W z (State.latchPlans a0) := by
  unfold State.latchPlans
  grind only [usr keep_rest, usr keep_foldl, usr keep_State_setRing]
grind_pattern keep_State_latchPlans => Keep W z a0, State.latchPlans a0

theorem keep_State_removeDone [Lets W .flt] [Lets W .ring] [Lets W .mod] {a0 a1} (ha1 : Keep W z a1) :
    Keep W z (State.removeDone a0 a1) := by
  unfold State.removeDone
  grind only [usr keep_rest, usr keep_foldl, usr keep_State_modSet, usr keep_State_setRing, usr keep_State_unfence, usr keep_State_setCellRec]
grind_pattern keep_State_removeDone => Keep W z a1, State.removeDone a0 a1

theorem keep_State_healCount [Lets W .ring] {a0 a1} (ha1 : Keep W z a1) :
    Keep W z (State.healCount a0 a1) := by
  unfold State.healCount
  grind only [usr keep_rest, usr keep_foldl, usr keep_State_setRing]
grind_pattern keep_State_healCount => Keep W z a1, State.healCount a0 a1

theorem keep_State_setBreak [Lets W .regs] [Lets W .flt] [Lets W .irq] [Lets W .ring] [Lets W .cap] [Lets W .work] {a0 a1 a2 a3 a4 a5} (ha5 : Keep W z a5) :
    Keep W z (State.setBreak a0 a1 a2 a3 a4 a5) := by
  unfold State.setBreak
  grind only [usr keep_rest, usr keep_foldl, usr keep_State_raiseIf, usr keep_State_setRing]
grind_pattern keep_State_setBreak => Keep W z a5, State.setBreak a0 a1 a2 a3 a4 a5

theorem keep_State_enumDone [Lets W .objs] [Lets W .regs] [Lets W .flt] [Lets W .irq] [Lets W .ring] [Lets W .cap] [Lets W .work] {a0 a1 a2 a3 a4 a5 a6 a7} (ha7 : Keep W z a7) :
    Keep W z (State.enumDone a0 a1 a2 a3 a4 a5 a6 a7) := by
  unfold State.enumDone
  grind only [usr keep_rest, usr keep_foldl, usr keep_State_setRing, usr keep_State_irqPost, usr keep_State_oset, usr keep_State_setCellRec, usr keep_State_judgeCell, usr keep_State_setBreak, usr keep_State_admissionTest]
grind_pattern keep_State_enumDone => Keep W z a7, State.enumDone a0 a1 a2 a3 a4 a5 a6 a7

theorem keep_State_rateNote [Lets W .regs] [Lets W .flt] [Lets W .irq] [Lets W .cap] [Lets W .work] {a0 a1} (ha1 : Keep W z a1) :
    Keep W z (State.rateNote a0 a1) := by
  unfold State.rateNote
  grind only [usr keep_rest, usr keep_foldl, usr keep_State_raiseIf]
grind_pattern keep_State_rateNote => Keep W z a1, State.rateNote a0 a1

theorem keep_State_enumBack [Lets W .objs] [Lets W .regs] [Lets W .flt] [Lets W .irq] [Lets W .ring] [Lets W .xl] [Lets W .cap] [Lets W .work] [Lets W .out] {a0 a1 a2 a3 a4} (ha4 : Keep W z a4) :
    Keep W z (State.enumBack a0 a1 a2 a3 a4) := by
  unfold State.enumBack
  grind only [usr keep_rest, usr keep_foldl, usr keep_State_capRing, usr keep_State_rateNote, usr keep_State_setRing, usr keep_State_sendEnum, usr keep_State_startEnum, usr keep_State_enumDone]
grind_pattern keep_State_enumBack => Keep W z a4, State.enumBack a0 a1 a2 a3 a4

theorem keep_State_healed [Lets W .regs] [Lets W .flt] [Lets W .irq] [Lets W .ring] [Lets W .cap] [Lets W .work] {a0 a1} (ha1 : Keep W z a1) :
    Keep W z (State.healed a0 a1) := by
  unfold State.healed
  grind only [usr keep_rest, usr keep_foldl, usr keep_State_rateNote, usr keep_State_setBreak, usr keep_State_setRing]
grind_pattern keep_State_healed => Keep W z a1, State.healed a0 a1

theorem keep_State_breakNotice [Lets W .regs] [Lets W .flt] [Lets W .irq] [Lets W .ring] [Lets W .cap] [Lets W .work] {a0 a1 a2 a3 a4} (ha4 : Keep W z a4) :
    Keep W z (State.breakNotice a0 a1 a2 a3 a4) := by
  unfold State.breakNotice
  grind only [usr keep_rest, usr keep_foldl, usr keep_State_setRing, usr keep_State_setBreak]
grind_pattern keep_State_breakNotice => Keep W z a4, State.breakNotice a0 a1 a2 a3 a4

theorem keep_State_linkNotice [Lets W .regs] [Lets W .ring] [Lets W .cap] [Lets W .out] {a0 a1 a2 a3} (ha3 : Keep W z a3) :
    Keep W z (State.linkNotice a0 a1 a2 a3) := by
  unfold State.linkNotice
  grind only [usr keep_rest, usr keep_foldl, usr keep_State_originate]
grind_pattern keep_State_linkNotice => Keep W z a3, State.linkNotice a0 a1 a2 a3

theorem keep_State_linkLost [Lets W .objs] [Lets W .regs] [Lets W .pw] [Lets W .flt] [Lets W .irq] [Lets W .ring] [Lets W .cap] [Lets W .work] [Lets W .out] {a0 a1} (ha1 : Keep W z a1) :
    Keep W z (State.linkLost a0 a1) := by
  unfold State.linkLost
  grind only [usr keep_rest, usr keep_foldl, usr keep_State_ringLog, usr keep_State_rngEvt, usr keep_State_idleBreak, usr keep_State_setPort, usr keep_State_linkNotice, usr keep_State_breakNotice]
grind_pattern keep_State_linkLost => Keep W z a1, State.linkLost a0 a1

theorem keep_State_hopBack [Lets W .regs] [Lets W .flt] [Lets W .irq] [Lets W .ring] [Lets W .cap] [Lets W .work] {a0 a1 a2} (ha2 : Keep W z a2) :
    Keep W z (State.hopBack a0 a1 a2) := by
  unfold State.hopBack
  grind only [usr keep_rest, usr keep_foldl, usr keep_State_rateNote, usr keep_State_setRing]
grind_pattern keep_State_hopBack => Keep W z a2, State.hopBack a0 a1 a2

theorem keep_State_healNotice [Lets W .regs] [Lets W .flt] [Lets W .irq] [Lets W .ring] [Lets W .cap] [Lets W .work] {a0 a1 a2} (ha2 : Keep W z a2) :
    Keep W z (State.healNotice a0 a1 a2) := by
  unfold State.healNotice
  grind only [usr keep_rest, usr keep_foldl, usr keep_State_hopBack]
grind_pattern keep_State_healNotice => Keep W z a2, State.healNotice a0 a1 a2

end Sys2Proof.Laws
end

