-- ==== Sys2Proof/Laws/KeepPwmOps.lean ====
section
/-! SUPPORT. What the operations of Machine/PwmOps keep (see Laws/Keep). -/

set_option Elab.async false
namespace Sys2Proof.Laws
open Sys2Proof.Machine
variable {W : Part → Prop} {z : State}

theorem keep_State_drive [Lets W .pwm] [Lets W .out] {a0 a1 a2 a3} (ha3 : Keep W z a3) :
    Keep W z (State.drive a0 a1 a2 a3) := by
  unfold State.drive
  grind only [usr keep_rest, usr keep_foldl, usr keep_State_emit]
grind_pattern keep_State_drive => Keep W z a3, State.drive a0 a1 a2 a3

theorem keep_State_loop0Zero [Lets W .loop] {a0} (ha0 : Keep W z a0) :
    Keep W z (State.loop0Zero a0) := by
  unfold State.loop0Zero
  grind only [usr keep_rest, usr keep_foldl, usr keep_State_loopSet]
grind_pattern keep_State_loop0Zero => Keep W z a0, State.loop0Zero a0

theorem keep_State_commitLate [Lets W .objs] [Lets W .regs] [Lets W .irq] [Lets W .pwm] {a0} (ha0 : Keep W z a0) :
    Keep W z (State.commitLate a0) := by
  unfold State.commitLate
  grind only [usr keep_rest, usr keep_foldl, usr keep_State_irqPost, usr keep_State_bump, usr keep_State_evt, usr keep_State_pwmSet]
grind_pattern keep_State_commitLate => Keep W z a0, State.commitLate a0

theorem keep_State_shadowDuty [Lets W .objs] [Lets W .regs] [Lets W .irq] [Lets W .pwm] {a0 a1} (ha1 : Keep W z a1) :
    Keep W z (State.shadowDuty a0 a1) := by
  unfold State.shadowDuty
  grind only [usr keep_rest, usr keep_foldl, usr keep_State_commitLate, usr keep_State_pwmSet]
grind_pattern keep_State_shadowDuty => Keep W z a1, State.shadowDuty a0 a1

theorem keep_State_ownErr [Lets W .regs] [Lets W .irq] {a0} (ha0 : Keep W z a0) :
    Keep W z (State.ownErr a0) := by
  unfold State.ownErr
  grind only [usr keep_rest, usr keep_foldl, usr keep_State_irqPost, usr keep_State_evt]
grind_pattern keep_State_ownErr => Keep W z a0, State.ownErr a0

theorem keep_State_command [Lets W .pwm] [Lets W .out] {a0 a1 a2 a3} (ha3 : Keep W z a3) :
    Keep W z (State.command a0 a1 a2 a3) := by
  unfold State.command
  grind only [usr keep_rest, usr keep_foldl, usr keep_State_drive, usr keep_State_pwmSet]
grind_pattern keep_State_command => Keep W z a3, State.command a0 a1 a2 a3

theorem keep_State_carrierBoundary [Lets W .objs] [Lets W .regs] [Lets W .irq] [Lets W .pwm] {a0} (ha0 : Keep W z a0) :
    Keep W z (State.carrierBoundary a0) := by
  unfold State.carrierBoundary
  grind only [usr keep_rest, usr keep_foldl, usr keep_State_pwmSet, usr keep_State_bump, usr keep_State_evt, usr keep_State_irqPost]
grind_pattern keep_State_carrierBoundary => Keep W z a0, State.carrierBoundary a0

theorem keep_State_cutRecord [Lets W .pwm] [Lets W .bat] {a0} (ha0 : Keep W z a0) :
    Keep W z (State.cutRecord a0) := by
  unfold State.cutRecord
  grind only [usr keep_rest, usr keep_foldl, usr keep_State_batSet, usr keep_State_pwmSet]
grind_pattern keep_State_cutRecord => Keep W z a0, State.cutRecord a0

theorem keep_State_dropOutputs [Lets W .pwm] [Lets W .out] {a0 a1} (ha1 : Keep W z a1) :
    Keep W z (State.dropOutputs a0 a1) := by
  unfold State.dropOutputs
  grind only [usr keep_rest, usr keep_foldl, usr keep_State_pwmSet, usr keep_State_drive]
grind_pattern keep_State_dropOutputs => Keep W z a1, State.dropOutputs a0 a1

theorem keep_State_blockBridge [Lets W .pwm] [Lets W .bat] [Lets W .out] {a0} (ha0 : Keep W z a0) :
    Keep W z (State.blockBridge a0) := by
  unfold State.blockBridge
  grind only [usr keep_rest, usr keep_foldl, usr keep_State_dropOutputs, usr keep_State_cutRecord, usr keep_State_pwmSet]
grind_pattern keep_State_blockBridge => Keep W z a0, State.blockBridge a0

theorem keep_State_pauseStage [Lets W .pwm] [Lets W .bat] [Lets W .loop] {a0} (ha0 : Keep W z a0) :
    Keep W z (State.pauseStage a0) := by
  unfold State.pauseStage
  grind only [usr keep_rest, usr keep_foldl, usr keep_State_pwmSet, usr keep_State_batSet, usr keep_State_loop0Zero]
grind_pattern keep_State_pauseStage => Keep W z a0, State.pauseStage a0

theorem keep_State_pwmEvt [Lets W .regs] [Lets W .irq] {a0 a1} (ha1 : Keep W z a1) :
    Keep W z (State.pwmEvt a0 a1) := by
  unfold State.pwmEvt
  grind only [usr keep_rest, usr keep_foldl, usr keep_State_irqPost, usr keep_State_evt]
grind_pattern keep_State_pwmEvt => Keep W z a1, State.pwmEvt a0 a1

theorem keep_State_applyForce [Lets W .regs] [Lets W .irq] [Lets W .pwm] [Lets W .bat] [Lets W .loop] [Lets W .out] {a0 a1} (ha1 : Keep W z a1) :
    Keep W z (State.applyForce a0 a1) := by
  unfold State.applyForce
  grind only [usr keep_rest, usr keep_foldl, usr keep_State_pwmEvt, usr keep_State_pwmSet, usr keep_State_blockBridge, usr keep_State_pauseStage, usr keep_State_dropOutputs]
grind_pattern keep_State_applyForce => Keep W z a1, State.applyForce a0 a1

theorem keep_State_withForce [Lets W .regs] [Lets W .irq] [Lets W .pwm] [Lets W .bat] [Lets W .loop] [Lets W .out] {a0 a1} (ha0 : ∀ x0, Keep W z x0 → Keep W z (a0 x0)) (ha1 : Keep W z a1) :
    Keep W z (State.withForce a0 a1) := by
  unfold State.withForce
  grind only [usr keep_rest, usr keep_foldl, usr keep_State_applyForce]

theorem keep_State_shadowPer [Lets W .objs] [Lets W .regs] [Lets W .irq] [Lets W .pwm] {a0 a1} (ha1 : Keep W z a1) :
    Keep W z (State.shadowPer a0 a1) := by
  unfold State.shadowPer
  grind only [usr keep_rest, usr keep_foldl, usr keep_State_commitLate, usr keep_State_pwmSet]
grind_pattern keep_State_shadowPer => Keep W z a1, State.shadowPer a0 a1

theorem keep_State_tripClear [Lets W .flt] [Lets W .pwm] {a0 a1} (ha1 : Keep W z a1) :
    Keep W z (State.tripClear a0 a1) := by
  unfold State.tripClear
  grind only [usr keep_rest, usr keep_foldl, usr keep_State_release, usr keep_State_pwmSet]
grind_pattern keep_State_tripClear => Keep W z a1, State.tripClear a0 a1

theorem keep_State_bypassRise [Lets W .pwm] [Lets W .out] {a0} (ha0 : Keep W z a0) :
    Keep W z (State.bypassRise a0) := by
  unfold State.bypassRise
  grind only [usr keep_rest, usr keep_foldl, usr keep_State_pwmSet, usr keep_State_drive]
grind_pattern keep_State_bypassRise => Keep W z a0, State.bypassRise a0

theorem keep_State_enterState [Lets W .pwm] {a0 a1} (ha1 : Keep W z a1) :
    Keep W z (State.enterState a0 a1) := by
  unfold State.enterState
  grind only [usr keep_rest, usr keep_foldl, usr keep_State_pwmSet]
grind_pattern keep_State_enterState => Keep W z a1, State.enterState a0 a1

theorem keep_State_recordDone [Lets W .objs] [Lets W .pwm] [Lets W .bat] {a0 a1} (ha1 : Keep W z a1) :
    Keep W z (State.recordDone a0 a1) := by
  unfold State.recordDone
  grind only [usr keep_rest, usr keep_foldl, usr keep_State_pwmSet, usr keep_State_bump, usr keep_State_batSet]
grind_pattern keep_State_recordDone => Keep W z a1, State.recordDone a0 a1

theorem keep_State_showBridge [Lets W .pwm] [Lets W .out] {a0 a1} (ha1 : Keep W z a1) :
    Keep W z (State.showBridge a0 a1) := by
  unfold State.showBridge
  grind only [usr keep_rest, usr keep_foldl, usr keep_State_command]
grind_pattern keep_State_showBridge => Keep W z a1, State.showBridge a0 a1

theorem keep_State_carriedEvents [Lets W .objs] [Lets W .pwm] [Lets W .bat] [Lets W .out] {a0 a1 a2 a3} (ha3 : Keep W z a3) :
    Keep W z (State.carriedEvents a0 a1 a2 a3) := by
  unfold State.carriedEvents
  grind only [usr keep_rest, usr keep_foldl, usr keep_State_pwmSet, usr keep_State_enterState, usr keep_State_showBridge, usr keep_State_recordDone]
grind_pattern keep_State_carriedEvents => Keep W z a3, State.carriedEvents a0 a1 a2 a3

theorem keep_State_bypassStart [Lets W .pwm] [Lets W .bat] [Lets W .out] {a0 a1} (ha1 : Keep W z a1) :
    Keep W z (State.bypassStart a0 a1) := by
  unfold State.bypassStart
  grind only [usr keep_rest, usr keep_foldl, usr keep_State_pwmSet, usr keep_State_blockBridge]
grind_pattern keep_State_bypassStart => Keep W z a1, State.bypassStart a0 a1

theorem keep_State_bypCmdStart [Lets W .pwm] [Lets W .bat] [Lets W .out] {a0} (ha0 : Keep W z a0) :
    Keep W z (State.bypCmdStart a0) := by
  unfold State.bypCmdStart
  grind only [usr keep_rest, usr keep_foldl, usr keep_State_bypassStart, usr keep_State_pwmSet]
grind_pattern keep_State_bypCmdStart => Keep W z a0, State.bypCmdStart a0

theorem keep_State_coastCurtain [Lets W .regs] [Lets W .flt] [Lets W .irq] [Lets W .pwm] [Lets W .bat] [Lets W .loop] [Lets W .cap] [Lets W .work] [Lets W .out] {a0} (ha0 : Keep W z a0) :
    Keep W z (State.coastCurtain a0) := by
  unfold State.coastCurtain
  grind [keep_foldl, keep_State_raise, keep_State_pwmEvt, keep_State_withForce, keep_State_pwmSet, = keepE_ok, = keepE_error, = keepR_next, = keepR_fault, = keepR_refused, = keepP_mk, → keepP_snd, = keepP2_mk, → keepP2_snd, = keepP3_mk, → keepP3_snd, = keepO_some, = keepO_none, = keepO2_some, = keepO2_none]
grind_pattern keep_State_coastCurtain => Keep W z a0, State.coastCurtain a0

theorem keep_State_coastStart [Lets W .objs] [Lets W .regs] [Lets W .flt] [Lets W .irq] [Lets W .pwm] [Lets W .bat] [Lets W .loop] [Lets W .cap] [Lets W .work] [Lets W .out] {a0} (ha0 : Keep W z a0) :
    Keep W z (State.coastStart a0) := by
  unfold State.coastStart
  grind only [usr keep_rest, usr keep_foldl, usr keep_State_bypCmdStart, usr keep_State_bump, usr keep_State_pwmSet, usr keep_State_coastCurtain]
grind_pattern keep_State_coastStart => Keep W z a0, State.coastStart a0

theorem keep_State_cueHeld [Lets W .pwm] {a0 a1} (ha1 : Keep W z a1) :
    Keep W z (State.cueHeld a0 a1) := by
  unfold State.cueHeld
  grind only [usr keep_rest, usr keep_foldl, usr keep_State_pwmSet]
grind_pattern keep_State_cueHeld => Keep W z a1, State.cueHeld a0 a1

theorem keep_State_forcedStart [Lets W .objs] [Lets W .pwm] [Lets W .bat] [Lets W .out] {a0} (ha0 : Keep W z a0) :
    Keep W z (State.forcedStart a0) := by
  unfold State.forcedStart
  grind only [usr keep_rest, usr keep_foldl, usr keep_State_bypCmdStart, usr keep_State_bump]
grind_pattern keep_State_forcedStart => Keep W z a0, State.forcedStart a0

theorem keep_State_pwmParams [Lets W .pwm] {a0} (ha0 : Keep W z a0) :
    Keep W z (State.pwmParams a0) := by
  unfold State.pwmParams
  grind only [usr keep_rest, usr keep_foldl, usr keep_State_pwmSet]
grind_pattern keep_State_pwmParams => Keep W z a0, State.pwmParams a0

theorem keep_State_applyEvent [Lets W .pwm] [Lets W .bat] [Lets W .out] {a0 a1 a2} (ha2 : Keep W z a2) :
    Keep W z (State.applyEvent a0 a1 a2) := by
  unfold State.applyEvent
  grind only [usr keep_rest, usr keep_foldl, usr keep_State_cutRecord, usr keep_State_showBridge, usr keep_State_enterState]
grind_pattern keep_State_applyEvent => Keep W z a2, State.applyEvent a0 a1 a2

theorem keep_State_finishRecord [Lets W .objs] [Lets W .pwm] [Lets W .bat] {a0} (ha0 : Keep W z a0) :
    Keep W z (State.finishRecord a0) := by
  unfold State.finishRecord
  grind only [usr keep_rest, usr keep_foldl, usr keep_State_recordDone, usr keep_State_pwmSet]
grind_pattern keep_State_finishRecord => Keep W z a0, State.finishRecord a0

theorem keep_State_actOnce [Lets W .objs] [Lets W .pwm] [Lets W .bat] [Lets W .out] {a0 a1} (ha1 : Keep W z a1) :
    Keep W z (State.actOnce a0 a1) := by
  unfold State.actOnce
  grind only [usr keep_rest, usr keep_foldl, usr keep_State_drive, usr keep_State_finishRecord, usr keep_State_applyEvent, usr keep_State_pwmSet]
grind_pattern keep_State_actOnce => Keep W z a1, State.actOnce a0 a1

theorem keep_State_actUntil [Lets W .objs] [Lets W .pwm] [Lets W .bat] [Lets W .out] {a0 a1 a2} (ha2 : Keep W z a2) :
    Keep W z (State.actUntil a0 a1 a2) := by
  induction a1 generalizing a2 with
  | zero => exact ha2
  | succ n ih =>
    unfold State.actUntil
    split
    · split
      · exact ih (keep_State_actOnce ha2)
      · exact ha2
    · exact ha2
grind_pattern keep_State_actUntil => Keep W z a2, State.actUntil a0 a1 a2

theorem keep_State_recordStart [Lets W .objs] [Lets W .pwm] [Lets W .bat] [Lets W .out] {a0 a1} (ha1 : Keep W z a1) :
    Keep W z (State.recordStart a0 a1) := by
  unfold State.recordStart
  grind only [usr keep_rest, usr keep_foldl, usr keep_State_pwmSet, usr keep_State_finishRecord, usr keep_State_actUntil, usr keep_State_bypCmdStart, usr keep_State_bypassStart]
grind_pattern keep_State_recordStart => Keep W z a1, State.recordStart a0 a1

theorem keep_State_pwmCueStart [Lets W .objs] [Lets W .regs] [Lets W .flt] [Lets W .irq] [Lets W .ring] [Lets W .pwm] [Lets W .bat] [Lets W .loop] [Lets W .cap] [Lets W .work] [Lets W .out] {a0 a1 a2} (ha2 : Keep W z a2) :
    Keep W z (State.pwmCueStart a0 a1 a2) := by
  unfold State.pwmCueStart
  try dsimp only
  repeat' (first | with_reducible assumption | with_reducible exact True.intro | intro _ | with_reducible apply keep_State_pwmParams | with_reducible apply keep_State_pwmSet | with_reducible apply keep_State_setNode | with_reducible apply keep_State_cueHeld | with_reducible apply keep_State_bypassRise | with_reducible apply keep_State_carriedEvents | with_reducible apply keep_State_forcedStart | with_reducible apply keep_State_recordStart | with_reducible apply keep_State_coastStart | with_reducible apply keep_ite | with_reducible apply keep_foldl | (simp only [keepE_ok, keepE_error, keepR_next, keepR_fault, keepR_refused, keepP_mk, keepP2_mk, keepP3_mk, keepO_some, keepO_none, keepO2_some, keepO2_none]) | split)
grind_pattern keep_State_pwmCueStart => Keep W z a2, State.pwmCueStart a0 a1 a2

theorem keep_State_pwmCueEnd [Lets W .objs] [Lets W .regs] [Lets W .irq] [Lets W .pwm] [Lets W .bat] [Lets W .out] {a0} (ha0 : Keep W z a0) :
    Keep W z (State.pwmCueEnd a0) := by
  unfold State.pwmCueEnd
  grind only [usr keep_rest, usr keep_foldl, usr keep_State_actUntil, usr keep_State_pwmSet, usr keep_State_pwmEvt, usr keep_State_addTo]
grind_pattern keep_State_pwmCueEnd => Keep W z a0, State.pwmCueEnd a0

theorem keep_State_setByp [Lets W .regs] [Lets W .irq] [Lets W .pwm] [Lets W .bat] [Lets W .loop] [Lets W .out] {a0} (ha0 : Keep W z a0) :
    Keep W z (State.setByp a0) := by
  unfold State.setByp
  grind only [usr keep_rest, usr keep_foldl, keep_State_withForce, usr keep_State_pwmSet]
grind_pattern keep_State_setByp => Keep W z a0, State.setByp a0

theorem keep_State_bypassTrip [Lets W .pwm] [Lets W .bat] [Lets W .out] {a0} (ha0 : Keep W z a0) :
    Keep W z (State.bypassTrip a0) := by
  unfold State.bypassTrip
  grind only [usr keep_rest, usr keep_foldl, usr keep_State_blockBridge, usr keep_State_bypassStart]
grind_pattern keep_State_bypassTrip => Keep W z a0, State.bypassTrip a0

theorem keep_State_tripOn [Lets W .regs] [Lets W .flt] [Lets W .irq] [Lets W .pwm] [Lets W .bat] [Lets W .loop] [Lets W .cap] [Lets W .work] [Lets W .out] {a0 a1} (ha1 : Keep W z a1) :
    Keep W z (State.tripOn a0 a1) := by
  unfold State.tripOn
  grind [keep_foldl, keep_State_pwmSet, keep_State_setByp, keep_State_withForce, keep_State_raise, keep_State_pwmEvt, keep_State_bypassTrip, = keepE_ok, = keepE_error, = keepR_next, = keepR_fault, = keepR_refused, = keepP_mk, → keepP_snd, = keepP2_mk, → keepP2_snd, = keepP3_mk, → keepP3_snd, = keepO_some, = keepO_none, = keepO2_some, = keepO2_none]
grind_pattern keep_State_tripOn => Keep W z a1, State.tripOn a0 a1

theorem keep_State_tripSamples [Lets W .regs] [Lets W .flt] [Lets W .irq] [Lets W .pwm] [Lets W .bat] [Lets W .loop] [Lets W .cap] [Lets W .work] [Lets W .out] {a0 a1 a2 a3} (ha3 : Keep W z a3) :
    Keep W z (State.tripSamples a0 a1 a2 a3) := by
  unfold State.tripSamples
  grind only [usr keep_rest, usr keep_foldl, usr keep_State_pwmSet, usr keep_State_tripOn]
grind_pattern keep_State_tripSamples => Keep W z a3, State.tripSamples a0 a1 a2 a3

theorem keep_State_setHold [Lets W .objs] [Lets W .regs] [Lets W .irq] [Lets W .pwm] {a0 a1} (ha1 : Keep W z a1) :
    Keep W z (State.setHold a0 a1) := by
  unfold State.setHold
  grind only [usr keep_rest, usr keep_foldl, usr keep_State_commitLate, usr keep_State_pwmSet]
grind_pattern keep_State_setHold => Keep W z a1, State.setHold a0 a1

end Sys2Proof.Laws
end

