-- ==== Sys2Proof/Laws/KeepAdcOps.lean ====
section
/-! SUPPORT. What the operations of Machine/AdcOps keep (see Laws/Keep). -/

set_option Elab.async false
namespace Sys2Proof.Laws
open Sys2Proof.Machine
variable {W : Part → Prop} {z : State}

theorem keep_State_setRes [Lets W .adc] {a0 a1 a2} (ha0 : Keep W z a0) :
    Keep W z (State.setRes a0 a1 a2) := by
  unfold State.setRes
  grind only [usr keep_rest, usr keep_foldl, usr keep_State_adcSet]
grind_pattern keep_State_setRes => Keep W z a0, State.setRes a0 a1 a2

theorem keep_State_resRead [Lets W .adc] {a0 a1 a2} (ha2 : Keep W z a2) :
    Keep W z (State.resRead a0 a1 a2) := by
  unfold State.resRead
  grind only [usr keep_rest, usr keep_foldl, usr keep_State_setRes]
grind_pattern keep_State_resRead => Keep W z a2, State.resRead a0 a1 a2

theorem keep_State_adcEvt [Lets W .regs] {a0 a1} (ha1 : Keep W z a1) :
    Keep W z (State.adcEvt a0 a1) := by
  unfold State.adcEvt
  grind only [usr keep_rest, usr keep_foldl, usr keep_State_evt]
grind_pattern keep_State_adcEvt => Keep W z a1, State.adcEvt a0 a1

theorem keep_State_setSeq [Lets W .adc] {a0 a1 a2} (ha0 : Keep W z a0) :
    Keep W z (State.setSeq a0 a1 a2) := by
  unfold State.setSeq
  grind only [usr keep_rest, usr keep_foldl, usr keep_State_adcSet]
grind_pattern keep_State_setSeq => Keep W z a0, State.setSeq a0 a1 a2

theorem keep_State_seqStart [Lets W .regs] [Lets W .irq] [Lets W .adc] {a0 a1 a2} (ha2 : Keep W z a2) :
    Keep W z (State.seqStart a0 a1 a2) := by
  unfold State.seqStart
  grind only [usr keep_rest, usr keep_foldl, usr keep_State_setSeq, usr keep_State_irqPost, usr keep_State_adcEvt, usr keep_State_setRes]
grind_pattern keep_State_seqStart => Keep W z a2, State.seqStart a0 a1 a2

theorem keep_State_calStart [Lets W .adc] {a0} (ha0 : Keep W z a0) :
    Keep W z (State.calStart a0) := by
  unfold State.calStart
  grind only [usr keep_rest, usr keep_foldl, usr keep_State_adcSet]
grind_pattern keep_State_calStart => Keep W z a0, State.calStart a0

theorem keep_State_applyCalCmd [Lets W .adc] {a0 a1} (ha1 : Keep W z a1) :
    KeepE W z (State.applyCalCmd a0 a1) := by
  unfold State.applyCalCmd
  grind only [= keepE_ok, = keepE_error, usr keep_rest, usr keep_foldl, usr keep_State_calStart]
grind_pattern keep_State_applyCalCmd => Keep W z a1, State.applyCalCmd a0 a1

theorem keep_State_countWait [Lets W .regs] [Lets W .irq] [Lets W .adc] {a0 a1} (ha1 : Keep W z a1) :
    Keep W z (State.countWait a0 a1) := by
  unfold State.countWait
  grind only [usr keep_rest, usr keep_foldl, usr keep_State_irqPost, usr keep_State_adcEvt, usr keep_State_setSeq]
grind_pattern keep_State_countWait => Keep W z a1, State.countWait a0 a1

theorem keep_State_to8 [Lets W .tm] {a0 a1} (ha0 : Keep W z a0) :
    Keep W z (State.to8 a0 a1) := by
  unfold State.to8
  grind only [usr keep_rest, usr keep_foldl, usr keep_State_elapse]
grind_pattern keep_State_to8 => Keep W z a0, State.to8 a0 a1

theorem keep_State_entrySample [Lets W .regs] [Lets W .tm] [Lets W .irq] [Lets W .adc] {a0 a1} (ha1 : Keep W z a1) :
    Keep W z (State.entrySample a0 a1) := by
  unfold State.entrySample
  grind only [usr keep_rest, usr keep_foldl, usr keep_State_countWait, usr keep_State_setSeq, usr keep_State_to8, usr keep_State_adcSet]
grind_pattern keep_State_entrySample => Keep W z a1, State.entrySample a0 a1

theorem keep_State_setRef [Lets W .objs] [Lets W .adc] {a0 a1} (ha1 : Keep W z a1) :
    Keep W z (State.setRef a0 a1) := by
  unfold State.setRef
  grind only [usr keep_rest, usr keep_foldl, usr keep_State_oset, usr keep_State_adcSet]
grind_pattern keep_State_setRef => Keep W z a1, State.setRef a0 a1

theorem keep_State_applyRefEn [Lets W .objs] [Lets W .adc] {a0 a1} (ha1 : Keep W z a1) :
    KeepE W z (State.applyRefEn a0 a1) := by
  unfold State.applyRefEn
  grind only [= keepE_ok, = keepE_error, usr keep_rest, usr keep_foldl, usr keep_State_setRef]
grind_pattern keep_State_applyRefEn => Keep W z a1, State.applyRefEn a0 a1

theorem keep_State_applySeqCmd [Lets W .regs] [Lets W .irq] [Lets W .adc] {a0 a1 a2} (ha2 : Keep W z a2) :
    KeepE W z (State.applySeqCmd a0 a1 a2) := by
  unfold State.applySeqCmd
  grind only [= keepE_ok, = keepE_error, usr keep_rest, usr keep_foldl, usr keep_State_seqStart]
grind_pattern keep_State_applySeqCmd => Keep W z a2, State.applySeqCmd a0 a1 a2

theorem keep_State_setupWrite {a0 a1} (ha0 : ∀ x0, Keep W z x0 → Keep W z (a0 x0)) (ha1 : Keep W z a1) :
    KeepE W z (State.setupWrite a0 a1) := by
  unfold State.setupWrite
  grind only [= keepE_ok, = keepE_error, usr keep_rest, usr keep_foldl]

theorem keep_State_applySeqEntry [Lets W .doms] {a0 a1 a2 a3} (ha3 : Keep W z a3) :
    KeepE W z (State.applySeqEntry a0 a1 a2 a3) := by
  unfold State.applySeqEntry
  grind only [= keepE_ok, = keepE_error, usr keep_rest, usr keep_foldl, keep_State_setupWrite, usr keep_State_dset]
grind_pattern keep_State_applySeqEntry => Keep W z a3, State.applySeqEntry a0 a1 a2 a3

theorem keep_State_seqFree {a0 a1 a2} (ha1 : Keep W z a1) (ha2 : KeepE W z (a2)) :
    KeepE W z (State.seqFree a0 a1 a2) := by
  unfold State.seqFree
  grind only [= keepE_ok, = keepE_error, usr keep_rest, usr keep_foldl]
grind_pattern keep_State_seqFree => Keep W z a1, State.seqFree a0 a1 a2

theorem keep_State_applySeqRange [Lets W .objs] {a0 a1 a2} (ha2 : Keep W z a2) :
    KeepE W z (State.applySeqRange a0 a1 a2) := by
  unfold State.applySeqRange
  grind only [= keepE_ok, = keepE_error, usr keep_rest, usr keep_foldl, usr keep_State_seqFree, keep_State_setupWrite, usr keep_State_oset]
grind_pattern keep_State_applySeqRange => Keep W z a2, State.applySeqRange a0 a1 a2

theorem keep_State_applySeqTable [Lets W .doms] {a0 a1 a2} (ha2 : Keep W z a2) :
    KeepE W z (State.applySeqTable a0 a1 a2) := by
  unfold State.applySeqTable
  grind only [= keepE_ok, = keepE_error, usr keep_rest, usr keep_foldl, keep_State_setupWrite, usr keep_State_dset]
grind_pattern keep_State_applySeqTable => Keep W z a2, State.applySeqTable a0 a1 a2

theorem keep_State_seqTimerArm [Lets W .adc] {a0 a1} (ha1 : Keep W z a1) :
    Keep W z (State.seqTimerArm a0 a1) := by
  unfold State.seqTimerArm
  grind only [usr keep_rest, usr keep_foldl, usr keep_State_setSeq]
grind_pattern keep_State_seqTimerArm => Keep W z a1, State.seqTimerArm a0 a1

theorem keep_State_applySeqTrig [Lets W .objs] [Lets W .adc] {a0 a1 a2} (ha2 : Keep W z a2) :
    KeepE W z (State.applySeqTrig a0 a1 a2) := by
  unfold State.applySeqTrig
  split
  · exact True.intro
  · have h : KeepE W z (a2.seqFree a0 (a2.setupWrite (fun s => s.oset (Obj.seqTrig a0) a1))) :=
      keep_State_seqFree ha2 (keep_State_setupWrite (fun _ h => keep_State_oset h) ha2)
    split
    · rename_i t e
      rw [e] at h
      have h' : Keep W z t := h
      show Keep W z _
      split
      · exact keep_State_seqTimerArm h'
      · exact h'
    · exact True.intro
grind_pattern keep_State_applySeqTrig => Keep W z a2, State.applySeqTrig a0 a1 a2

theorem keep_State_applySeqPeriod [Lets W .objs] [Lets W .adc] {a0 a1 a2} (ha2 : Keep W z a2) :
    KeepE W z (State.applySeqPeriod a0 a1 a2) := by
  unfold State.applySeqPeriod
  grind only [= keepE_ok, = keepE_error, usr keep_rest, usr keep_foldl, usr keep_State_seqFree, usr keep_State_plainWrite, usr keep_State_seqTimerArm]
grind_pattern keep_State_applySeqPeriod => Keep W z a2, State.applySeqPeriod a0 a1 a2

theorem keep_State_applySeqPlain [Lets W .objs] {a0 a1 a2 a3} (ha3 : Keep W z a3) :
    KeepE W z (State.applySeqPlain a0 a1 a2 a3) := by
  unfold State.applySeqPlain
  grind only [= keepE_ok, = keepE_error, usr keep_rest, usr keep_foldl, usr keep_State_seqFree, usr keep_State_plainWrite]
grind_pattern keep_State_applySeqPlain => Keep W z a3, State.applySeqPlain a0 a1 a2 a3

theorem keep_State_openWire [Lets W .regs] [Lets W .flt] [Lets W .irq] [Lets W .adc] [Lets W .cap] [Lets W .work] {a0 a1 a2} (ha2 : Keep W z a2) :
    Keep W z (State.openWire a0 a1 a2) := by
  unfold State.openWire
  grind only [usr keep_rest, usr keep_foldl, usr keep_State_adcSet, usr keep_State_raise, usr keep_State_irqPost, usr keep_State_adcEvt, usr keep_State_release]
grind_pattern keep_State_openWire => Keep W z a2, State.openWire a0 a1 a2

theorem keep_State_reportMeasure [Lets W .adc] {a0} (ha0 : Keep W z a0) :
    Keep W z (State.reportMeasure a0) := by
  unfold State.reportMeasure
  grind only [usr keep_rest, usr keep_foldl, usr keep_State_adcSet]
grind_pattern keep_State_reportMeasure => Keep W z a0, State.reportMeasure a0

theorem keep_State_resultWrite [Lets W .regs] [Lets W .tm] [Lets W .flt] [Lets W .irq] [Lets W .adc] [Lets W .cap] [Lets W .work] [Lets W .freeCtr] {a0 a1 a2} (ha2 : Keep W z a2) :
    KeepO2 W z (State.resultWrite a0 a1 a2) := by
  unfold State.resultWrite
  grind [= keepP_mk, → keepP_snd, ← keep_foldlP, = keepP2_mk, → keepP2_snd, ← keep_foldlP2, = keepO2_some, = keepO2_none, keep_foldl, keep_State_to8, keep_State_drawn, keep_State_setRes, keep_State_setSeq, keep_State_irqPost, keep_State_adcEvt, keep_State_openWire, keep_State_seqStart, = keepE_ok, = keepE_error, = keepR_next, = keepR_fault, = keepR_refused, = keepP3_mk, → keepP3_snd, = keepO_some, = keepO_none]
grind_pattern keep_State_resultWrite => Keep W z a2, State.resultWrite a0 a1 a2

theorem keep_State_seqStartAll [Lets W .regs] [Lets W .irq] [Lets W .adc] {a0 a1 a2} (ha2 : Keep W z a2) :
    Keep W z (State.seqStartAll a0 a1 a2) := by
  unfold State.seqStartAll
  grind only [usr keep_rest, usr keep_foldl, usr keep_State_seqStart]
grind_pattern keep_State_seqStartAll => Keep W z a2, State.seqStartAll a0 a1 a2

theorem keep_State_seqStartTevt [Lets W .regs] [Lets W .irq] [Lets W .adc] {a0 a1 a2 a3} (ha3 : Keep W z a3) :
    Keep W z (State.seqStartTevt a0 a1 a2 a3) := by
  unfold State.seqStartTevt
  grind only [usr keep_rest, usr keep_foldl, usr keep_State_seqStart]
grind_pattern keep_State_seqStartTevt => Keep W z a3, State.seqStartTevt a0 a1 a2 a3

end Sys2Proof.Laws
end

