-- ==== Sys2Proof/Laws/KeepAdc.lean ====
section
/-! SUPPORT. What the operations of Machine/Adc keep (see Laws/Keep). -/

set_option Elab.async false
namespace Sys2Proof.Laws
open Sys2Proof.Machine
variable {W : Part → Prop} {z : State}

theorem keep_execAdcResultRead [Lets W .adc] [Lets W .out] {a0 a1 a2 a3} (ha3 : Keep W z a3) :
    KeepR W z (execAdcResultRead a0 a1 a2 a3) := by
  unfold execAdcResultRead
  grind only [= keepR_next, = keepR_fault, = keepR_refused, usr keep_rest, usr keep_foldl, usr keep_State_emit, usr keep_State_resRead]
grind_pattern keep_execAdcResultRead => Keep W z a3, execAdcResultRead a0 a1 a2 a3

theorem keep_regOn {a0 a1} (ha0 : Keep W z a0) (ha1 : ∀ x0, Keep W z x0 → Keep W z (a1 x0)) :
    Keep W z (regOn a0 a1) := by
  unfold regOn
  grind only [usr keep_rest, usr keep_foldl]

theorem keep_execAdcSwstart [Lets W .regs] [Lets W .irq] [Lets W .adc] {a0 a1 a2} (ha2 : Keep W z a2) :
    KeepR W z (execAdcSwstart a0 a1 a2) := by
  unfold execAdcSwstart
  grind only [= keepR_next, = keepR_fault, = keepR_refused, usr keep_rest, usr keep_foldl, keep_regOn, usr keep_State_seqStart]
grind_pattern keep_execAdcSwstart => Keep W z a2, execAdcSwstart a0 a1 a2

theorem keep_regTry {a0 a1} (ha0 : Keep W z a0) (ha1 : ∀ x0, Keep W z x0 → KeepE W z (a1 x0)) :
    Keep W z (regTry a0 a1) := by
  unfold regTry
  grind only [= keepE_ok, = keepE_error, usr keep_rest, usr keep_foldl, keep_regOn]

theorem keep_execCalCmd [Lets W .regs] [Lets W .pw] [Lets W .flt] [Lets W .irq] [Lets W .seat] [Lets W .pair] [Lets W .adc] [Lets W .cap] [Lets W .work] [Lets W .out] {a0 a1} (ha1 : Keep W z a1) :
    KeepR W z (execCalCmd a0 a1) := by
  unfold execCalCmd
  grind only [= keepE_ok, = keepE_error, = keepR_next, = keepR_fault, = keepR_refused, usr keep_rest, usr keep_foldl, keep_State_guardedValue, usr keep_State_applyCalCmd, keep_regTry]
grind_pattern keep_execCalCmd => Keep W z a1, execCalCmd a0 a1

theorem keep_execCalDone [Lets W .regs] [Lets W .tm] [Lets W .flt] [Lets W .irq] [Lets W .adc] [Lets W .cap] [Lets W .work] {a0 a1 a2} (ha2 : Keep W z a2) :
    KeepR W z (execCalDone a0 a1 a2) := by
  unfold execCalDone
  grind only [= keepR_next, = keepR_fault, = keepR_refused, usr keep_rest, usr keep_foldl, usr keep_State_irqPost, usr keep_State_toTb2, usr keep_State_release, usr keep_State_adcSet, usr keep_State_raise]
grind_pattern keep_execCalDone => Keep W z a2, execCalDone a0 a1 a2

theorem keep_execEntrySample [Lets W .regs] [Lets W .tm] [Lets W .irq] [Lets W .adc] {a0 a1} (ha1 : Keep W z a1) :
    KeepR W z (execEntrySample a0 a1) := by
  unfold execEntrySample
  grind only [= keepR_next, = keepR_fault, = keepR_refused, usr keep_rest, usr keep_foldl, usr keep_State_entrySample]
grind_pattern keep_execEntrySample => Keep W z a1, execEntrySample a0 a1

theorem keep_execRefEnWrite [Lets W .objs] [Lets W .regs] [Lets W .pw] [Lets W .flt] [Lets W .irq] [Lets W .seat] [Lets W .pair] [Lets W .adc] [Lets W .cap] [Lets W .work] [Lets W .out] {a0 a1 a2} (ha2 : Keep W z a2) :
    KeepR W z (execRefEnWrite a0 a1 a2) := by
  unfold execRefEnWrite
  grind only [= keepE_ok, = keepE_error, = keepR_next, = keepR_fault, = keepR_refused, usr keep_rest, usr keep_foldl, keep_State_guardedValue, usr keep_State_applyRefEn, keep_regOn, usr keep_State_setRef]
grind_pattern keep_execRefEnWrite => Keep W z a2, execRefEnWrite a0 a1 a2

theorem keep_execRefReadyTimer [Lets W .tm] [Lets W .irq] [Lets W .adc] {a0} (ha0 : Keep W z a0) :
    KeepR W z (execRefReadyTimer a0) := by
  unfold execRefReadyTimer
  try dsimp only
  repeat' (first | with_reducible assumption | with_reducible exact True.intro | intro _ | with_reducible apply keep_State_irqPost | with_reducible apply keep_State_adcSet | with_reducible apply keep_State_toTb2 | with_reducible apply keep_State_calStart | with_reducible apply keep_ite | with_reducible apply keep_foldl | (simp only [keepE_ok, keepE_error, keepR_next, keepR_fault, keepR_refused, keepP_mk, keepP2_mk, keepP3_mk, keepO_some, keepO_none, keepO2_some, keepO2_none]) | split)
grind_pattern keep_execRefReadyTimer => Keep W z a0, execRefReadyTimer a0

theorem keep_execResultObjectRead [Lets W .regs] [Lets W .pw] [Lets W .flt] [Lets W .irq] [Lets W .seat] [Lets W .adc] [Lets W .cap] [Lets W .work] [Lets W .out] {a0 a1 a2 a3} (ha3 : Keep W z a3) :
    KeepR W z (execResultObjectRead a0 a1 a2 a3) := by
  unfold execResultObjectRead
  grind only [= keepR_next, = keepR_fault, = keepR_refused, usr keep_rest, usr keep_foldl, keep_State_guardedRead, usr keep_State_resRead]
grind_pattern keep_execResultObjectRead => Keep W z a3, execResultObjectRead a0 a1 a2 a3

theorem keep_execSeqCmdStart [Lets W .regs] [Lets W .pw] [Lets W .flt] [Lets W .irq] [Lets W .seat] [Lets W .pair] [Lets W .adc] [Lets W .cap] [Lets W .work] [Lets W .out] {a0 a1 a2} (ha2 : Keep W z a2) :
    KeepR W z (execSeqCmdStart a0 a1 a2) := by
  unfold execSeqCmdStart
  grind only [= keepE_ok, = keepE_error, = keepR_next, = keepR_fault, = keepR_refused, usr keep_rest, usr keep_foldl, keep_State_guardedValue, usr keep_State_applySeqCmd]
grind_pattern keep_execSeqCmdStart => Keep W z a2, execSeqCmdStart a0 a1 a2

theorem keep_execSeqTableWrite [Lets W .objs] [Lets W .doms] [Lets W .regs] [Lets W .pw] [Lets W .flt] [Lets W .irq] [Lets W .seat] [Lets W .pair] [Lets W .adc] [Lets W .cap] [Lets W .work] [Lets W .out] {a0 a1} (ha1 : Keep W z a1) :
    KeepR W z (execSeqTableWrite a0 a1) := by
  unfold execSeqTableWrite
  grind only [= keepE_ok, = keepE_error, = keepR_next, = keepR_fault, = keepR_refused, usr keep_rest, usr keep_foldl, keep_State_guardedWrite, usr keep_State_applySeqTable, keep_regTry, usr keep_State_applySeqEntry, keep_State_guardedValue, usr keep_State_applySeqRange, usr keep_State_applySeqTrig]
grind_pattern keep_execSeqTableWrite => Keep W z a1, execSeqTableWrite a0 a1

theorem keep_execSeqTimer [Lets W .regs] [Lets W .tm] [Lets W .irq] [Lets W .adc] {a0 a1} (ha1 : Keep W z a1) :
    KeepR W z (execSeqTimer a0 a1) := by
  unfold execSeqTimer
  grind only [= keepR_next, = keepR_fault, = keepR_refused, usr keep_rest, usr keep_foldl, usr keep_State_toTb2, usr keep_State_setSeq, usr keep_State_seqStart, usr keep_State_seqTimerArm]
grind_pattern keep_execSeqTimer => Keep W z a1, execSeqTimer a0 a1

end Sys2Proof.Laws
end

