-- ==== Sys2Proof/Laws/KeepBatOps.lean ====
section
/-! SUPPORT. What the operations of Machine/BatOps keep (see Laws/Keep). -/

set_option Elab.async false
namespace Sys2Proof.Laws
open Sys2Proof.Machine
variable {W : Part → Prop} {z : State}

theorem keep_State_applyBatAinT [Lets W .objs] [Lets W .bat] {a0 a1 a2 a3} (ha3 : Keep W z a3) :
    KeepE W z (State.applyBatAinT a0 a1 a2 a3) := by
  unfold State.applyBatAinT
  exact keepE_map (keep_State_plainWrite ha3) fun t h => keep_State_batSet h
grind_pattern keep_State_applyBatAinT => Keep W z a3, State.applyBatAinT a0 a1 a2 a3

theorem keep_State_carStop [Lets W .pwm] [Lets W .out] {a0} (ha0 : Keep W z a0) :
    Keep W z (State.carStop a0) := by
  unfold State.carStop
  grind only [usr keep_rest, usr keep_foldl, usr keep_State_pwmSet, usr keep_State_drive]
grind_pattern keep_State_carStop => Keep W z a0, State.carStop a0

theorem keep_State_carSync [Lets W .pwm] [Lets W .out] {a0} (ha0 : Keep W z a0) :
    Keep W z (State.carSync a0) := by
  unfold State.carSync
  grind only [usr keep_rest, usr keep_foldl, usr keep_State_pwmSet, usr keep_State_carStop]
grind_pattern keep_State_carSync => Keep W z a0, State.carSync a0

theorem keep_State_batEnter [Lets W .irq] [Lets W .pwm] [Lets W .bat] [Lets W .out] {a0 a1} (ha1 : Keep W z a1) :
    Keep W z (State.batEnter a0 a1) := by
  unfold State.batEnter
  grind only [usr keep_rest, usr keep_foldl, usr keep_State_carSync, usr keep_State_irqPost, usr keep_State_batSet]
grind_pattern keep_State_batEnter => Keep W z a1, State.batEnter a0 a1

theorem keep_State_setDuty [Lets W .objs] [Lets W .regs] [Lets W .irq] [Lets W .pwm] {a0 a1} (ha1 : Keep W z a1) :
    Keep W z (State.setDuty a0 a1) := by
  unfold State.setDuty
  grind only [usr keep_rest, usr keep_foldl, usr keep_State_shadowDuty]
grind_pattern keep_State_setDuty => Keep W z a1, State.setDuty a0 a1

theorem keep_State_batOnce [Lets W .objs] [Lets W .regs] [Lets W .irq] [Lets W .pwm] [Lets W .bat] [Lets W .loop] [Lets W .out] {a0} (ha0 : Keep W z a0) :
    Keep W z (State.batOnce a0) := by
  unfold State.batOnce
  grind only [usr keep_rest, usr keep_foldl, usr keep_State_batEnter, usr keep_State_setDuty, usr keep_State_batSet, usr keep_State_loop0Zero]
grind_pattern keep_State_batOnce => Keep W z a0, State.batOnce a0

theorem keep_State_batStep [Lets W .objs] [Lets W .regs] [Lets W .irq] [Lets W .pwm] [Lets W .bat] [Lets W .loop] [Lets W .out] {a0} (ha0 : Keep W z a0) :
    Keep W z (State.batStep a0) := by
  unfold State.batStep
  grind only [usr keep_rest, usr keep_foldl, usr keep_State_batOnce]
grind_pattern keep_State_batStep => Keep W z a0, State.batStep a0

theorem keep_State_applyBatCmd [Lets W .objs] [Lets W .regs] [Lets W .irq] [Lets W .pwm] [Lets W .bat] [Lets W .loop] [Lets W .out] {a0 a1} (ha1 : Keep W z a1) :
    KeepE W z (State.applyBatCmd a0 a1) := by
  unfold State.applyBatCmd
  grind only [= keepE_ok, = keepE_error, usr keep_rest, usr keep_foldl, usr keep_State_batStep, usr keep_State_batEnter]
grind_pattern keep_State_applyBatCmd => Keep W z a1, State.applyBatCmd a0 a1

theorem keep_State_applyBatMode [Lets W .objs] [Lets W .regs] [Lets W .irq] [Lets W .pwm] [Lets W .bat] [Lets W .loop] [Lets W .out] {a0 a1} (ha1 : Keep W z a1) :
    KeepE W z (State.applyBatMode a0 a1) := by
  unfold State.applyBatMode
  grind only [= keepE_ok, = keepE_error, usr keep_rest, usr keep_foldl, usr keep_State_batStep, usr keep_State_oset]
grind_pattern keep_State_applyBatMode => Keep W z a1, State.applyBatMode a0 a1

theorem keep_State_applyBatTest [Lets W .objs] [Lets W .regs] [Lets W .irq] [Lets W .pwm] [Lets W .bat] [Lets W .loop] [Lets W .out] {a0 a1} (ha1 : Keep W z a1) :
    KeepE W z (State.applyBatTest a0 a1) := by
  unfold State.applyBatTest
  grind only [= keepE_ok, = keepE_error, usr keep_rest, usr keep_foldl, usr keep_State_batStep, usr keep_State_oset]
grind_pattern keep_State_applyBatTest => Keep W z a1, State.applyBatTest a0 a1

theorem keep_State_applyCarMode [Lets W .objs] [Lets W .pwm] [Lets W .out] {a0 a1 a2} (ha2 : Keep W z a2) :
    KeepE W z (State.applyCarMode a0 a1 a2) := by
  unfold State.applyCarMode
  split
  · exact True.intro
  · exact keepE_map (keep_State_plainWrite ha2) fun t h => keep_State_carSync h
grind_pattern keep_State_applyCarMode => Keep W z a2, State.applyCarMode a0 a1 a2

theorem keep_State_seatDuty [Lets W .objs] [Lets W .regs] [Lets W .irq] [Lets W .pwm] {a0 a1} (ha1 : Keep W z a1) :
    Keep W z (State.seatDuty a0 a1) := by
  unfold State.seatDuty
  grind only [usr keep_rest, usr keep_foldl, usr keep_State_ownErr, usr keep_State_shadowDuty]
grind_pattern keep_State_seatDuty => Keep W z a1, State.seatDuty a0 a1

theorem keep_State_applyShDuty [Lets W .objs] [Lets W .regs] [Lets W .irq] [Lets W .pwm] {a0 a1} (ha1 : Keep W z a1) :
    KeepE W z (State.applyShDuty a0 a1) := by
  unfold State.applyShDuty
  grind only [= keepE_ok, = keepE_error, usr keep_rest, usr keep_foldl, usr keep_State_seatDuty]
grind_pattern keep_State_applyShDuty => Keep W z a1, State.applyShDuty a0 a1

theorem keep_State_applySocSet [Lets W .bat] {a0 a1} (ha1 : Keep W z a1) :
    KeepE W z (State.applySocSet a0 a1) := by
  unfold State.applySocSet
  grind only [= keepE_ok, = keepE_error, usr keep_rest, usr keep_foldl, usr keep_State_batSet]
grind_pattern keep_State_applySocSet => Keep W z a1, State.applySocSet a0 a1

theorem keep_State_batAdmitted [Lets W .objs] [Lets W .regs] [Lets W .irq] [Lets W .pwm] [Lets W .bat] [Lets W .loop] [Lets W .out] {a0} (ha0 : Keep W z a0) :
    Keep W z (State.batAdmitted a0) := by
  unfold State.batAdmitted
  grind only [usr keep_rest, usr keep_foldl, usr keep_State_oset, usr keep_State_batEnter, usr keep_State_batStep]
grind_pattern keep_State_batAdmitted => Keep W z a0, State.batAdmitted a0

theorem keep_State_restTrack [Lets W .bat] {a0 a1} (ha1 : Keep W z a1) :
    Keep W z (State.restTrack a0 a1) := by
  unfold State.restTrack
  grind only [usr keep_rest, usr keep_foldl, usr keep_State_batSet]
grind_pattern keep_State_restTrack => Keep W z a1, State.restTrack a0 a1

theorem keep_State_batLatch [Lets W .bat] {a0} (ha0 : Keep W z a0) :
    Keep W z (State.batLatch a0) := by
  unfold State.batLatch
  grind only [usr keep_rest, usr keep_foldl, usr keep_State_batSet, usr keep_State_restTrack]
grind_pattern keep_State_batLatch => Keep W z a0, State.batLatch a0

theorem keep_State_batStop [Lets W .regs] [Lets W .flt] [Lets W .irq] [Lets W .pwm] [Lets W .bat] [Lets W .cap] [Lets W .work] [Lets W .out] {a0 a1} (ha1 : Keep W z a1) :
    Keep W z (State.batStop a0 a1) := by
  unfold State.batStop
  grind only [usr keep_rest, usr keep_foldl, usr keep_State_irqPost, usr keep_State_batEnter, usr keep_State_raise]
grind_pattern keep_State_batStop => Keep W z a1, State.batStop a0 a1

theorem keep_State_senseTest [Lets W .regs] [Lets W .flt] [Lets W .irq] [Lets W .pwm] [Lets W .bat] [Lets W .cap] [Lets W .work] [Lets W .out] {a0} (ha0 : Keep W z a0) :
    Keep W z (State.senseTest a0) := by
  unfold State.senseTest
  grind only [usr keep_rest, usr keep_foldl, usr keep_State_batStop, usr keep_State_batSet, usr keep_State_release]
grind_pattern keep_State_senseTest => Keep W z a0, State.senseTest a0

theorem keep_State_batCueStart [Lets W .objs] [Lets W .regs] [Lets W .flt] [Lets W .irq] [Lets W .pwm] [Lets W .bat] [Lets W .loop] [Lets W .cap] [Lets W .work] [Lets W .out] {a0} (ha0 : Keep W z a0) :
    Keep W z (State.batCueStart a0) := by
  unfold State.batCueStart
  try dsimp only
  repeat' (first | with_reducible assumption | with_reducible exact True.intro | intro _ | with_reducible apply keep_State_batSet | with_reducible apply keep_State_carSync | with_reducible apply keep_State_batStep | with_reducible apply keep_State_senseTest | with_reducible apply keep_State_batLatch | with_reducible apply keep_ite | with_reducible apply keep_foldl | (simp only [keepE_ok, keepE_error, keepR_next, keepR_fault, keepR_refused, keepP_mk, keepP2_mk, keepP3_mk, keepO_some, keepO_none, keepO2_some, keepO2_none]) | split)
grind_pattern keep_State_batCueStart => Keep W z a0, State.batCueStart a0

theorem keep_State_batFlag [Lets W .objs] {a0 a1 a2} (ha2 : Keep W z a2) :
    Keep W z (State.batFlag a0 a1 a2) := by
  unfold State.batFlag
  grind only [usr keep_rest, usr keep_foldl, usr keep_State_oset]
grind_pattern keep_State_batFlag => Keep W z a2, State.batFlag a0 a1 a2

theorem keep_State_batError [Lets W .objs] {a0} (ha0 : Keep W z a0) :
    KeepP W z (State.batError a0) := by
  unfold State.batError
  grind only [= keepP_mk, → keepP_snd, ← keep_foldlP, usr keep_rest, usr keep_foldl, usr keep_State_batFlag]
grind_pattern keep_State_batError => Keep W z a0, State.batError a0

theorem keep_State_batOutput [Lets W .objs] [Lets W .regs] [Lets W .flt] [Lets W .irq] [Lets W .pwm] [Lets W .bat] [Lets W .cap] [Lets W .work] {a0 a1} (ha1 : Keep W z a1) :
    Keep W z (State.batOutput a0 a1) := by
  unfold State.batOutput
  grind only [usr keep_rest, usr keep_foldl, usr keep_State_batFlag, usr keep_State_batSet, usr keep_State_raiseIf, usr keep_State_setDuty]
grind_pattern keep_State_batOutput => Keep W z a1, State.batOutput a0 a1

theorem keep_State_derateTest [Lets W .regs] [Lets W .flt] [Lets W .irq] [Lets W .cap] [Lets W .work] {a0} (ha0 : Keep W z a0) :
    Keep W z (State.derateTest a0) := by
  unfold State.derateTest
  grind only [usr keep_rest, usr keep_foldl, usr keep_State_release, usr keep_State_raise]
grind_pattern keep_State_derateTest => Keep W z a0, State.derateTest a0

theorem keep_State_overRun [Lets W .bat] {a0 a1 a2} (ha2 : Keep W z a2) :
    Keep W z (State.overRun a0 a1 a2) := by
  unfold State.overRun
  grind only [usr keep_rest, usr keep_foldl, usr keep_State_batSet]
grind_pattern keep_State_overRun => Keep W z a2, State.overRun a0 a1 a2

theorem keep_State_protTest [Lets W .regs] [Lets W .flt] [Lets W .irq] [Lets W .pwm] [Lets W .bat] [Lets W .cap] [Lets W .work] [Lets W .out] {a0 a1} (ha1 : Keep W z a1) :
    Keep W z (State.protTest a0 a1) := by
  unfold State.protTest
  grind only [usr keep_rest, usr keep_foldl, usr keep_State_overRun, usr keep_State_batStop, usr keep_State_release]
grind_pattern keep_State_protTest => Keep W z a1, State.protTest a0 a1

theorem keep_State_batSample [Lets W .objs] [Lets W .regs] [Lets W .flt] [Lets W .irq] [Lets W .pwm] [Lets W .bat] [Lets W .loop] [Lets W .cap] [Lets W .work] [Lets W .out] {a0} (ha0 : Keep W z a0) :
    Keep W z (State.batSample a0) := by
  unfold State.batSample
  grind [keep_foldl, keep_State_batSet, keep_State_overRun, keep_State_batStep, keep_State_derateTest, keep_State_senseTest, keep_State_protTest, = keepE_ok, = keepE_error, = keepR_next, = keepR_fault, = keepR_refused, = keepP_mk, → keepP_snd, = keepP2_mk, → keepP2_snd, = keepP3_mk, → keepP3_snd, = keepO_some, = keepO_none, = keepO2_some, = keepO2_none]
grind_pattern keep_State_batSample => Keep W z a0, State.batSample a0

theorem keep_State_batTemp [Lets W .regs] [Lets W .flt] [Lets W .irq] [Lets W .pwm] [Lets W .bat] [Lets W .cap] [Lets W .work] [Lets W .out] {a0 a1 a2} (ha2 : Keep W z a2) :
    Keep W z (State.batTemp a0 a1 a2) := by
  unfold State.batTemp
  grind only [usr keep_rest, usr keep_foldl, usr keep_State_batSet, usr keep_State_batStop, usr keep_State_release, usr keep_State_derateTest]
grind_pattern keep_State_batTemp => Keep W z a2, State.batTemp a0 a1 a2

theorem keep_State_calSettle [Lets W .objs] [Lets W .pwm] {a0} (ha0 : Keep W z a0) :
    Keep W z (State.calSettle a0) := by
  unfold State.calSettle
  grind only [usr keep_rest, usr keep_foldl, usr keep_State_pwmSet, usr keep_State_oset]
grind_pattern keep_State_calSettle => Keep W z a0, State.calSettle a0

theorem keep_State_carCommand [Lets W .pwm] [Lets W .out] {a0 a1 a2} (ha2 : Keep W z a2) :
    Keep W z (State.carCommand a0 a1 a2) := by
  unfold State.carCommand
  grind only [usr keep_rest, usr keep_foldl, usr keep_State_command]
grind_pattern keep_State_carCommand => Keep W z a2, State.carCommand a0 a1 a2

theorem keep_State_carBoundary [Lets W .objs] [Lets W .regs] [Lets W .irq] [Lets W .pwm] [Lets W .adc] [Lets W .out] {a0 a1} (ha1 : Keep W z a1) :
    Keep W z (State.carBoundary a0 a1) := by
  unfold State.carBoundary
  grind only [usr keep_rest, usr keep_foldl, usr keep_State_carrierBoundary, usr keep_State_carCommand, usr keep_State_pwmSet, usr keep_State_seqStart]
grind_pattern keep_State_carBoundary => Keep W z a1, State.carBoundary a0 a1

theorem keep_State_carEdge [Lets W .tm] [Lets W .pwm] [Lets W .out] {a0} (ha0 : Keep W z a0) :
    Keep W z (State.carEdge a0) := by
  unfold State.carEdge
  grind only [usr keep_rest, usr keep_foldl, usr keep_State_pwmSet, usr keep_State_carCommand, usr keep_State_toTb0]
grind_pattern keep_State_carEdge => Keep W z a0, State.carEdge a0

theorem keep_State_carEdgeBy [Lets W .tm] [Lets W .pwm] [Lets W .out] {a0 a1} (ha1 : Keep W z a1) :
    Keep W z (State.carEdgeBy a0 a1) := by
  unfold State.carEdgeBy
  grind only [usr keep_rest, usr keep_foldl, usr keep_State_carEdge]
grind_pattern keep_State_carEdgeBy => Keep W z a1, State.carEdgeBy a0 a1

theorem keep_State_shareSlew [Lets W .bat] {a0} (ha0 : Keep W z a0) :
    Keep W z (State.shareSlew a0) := by
  unfold State.shareSlew
  grind only [usr keep_rest, usr keep_foldl, usr keep_State_batSet]
grind_pattern keep_State_shareSlew => Keep W z a0, State.shareSlew a0

end Sys2Proof.Laws
end

