-- ==== Sys2Proof/Laws/KeepLoopOps.lean ====
section
/-! SUPPORT. What the operations of Machine/LoopOps keep (see Laws/Keep). -/

set_option Elab.async false
namespace Sys2Proof.Laws
open Sys2Proof.Machine
variable {W : Part → Prop} {z : State}

theorem keep_State_setCh [Lets W .loop] {a0 a1 a2} (ha0 : Keep W z a0) :
    Keep W z (State.setCh a0 a1 a2) := by
  unfold State.setCh
  grind only [usr keep_rest, usr keep_foldl, usr keep_State_loopSet]
grind_pattern keep_State_setCh => Keep W z a0, State.setCh a0 a1 a2

theorem keep_State_chFeedback [Lets W .objs] [Lets W .loop] {a0 a1 a2 a3} (ha3 : Keep W z a3) :
    KeepP3 W z (State.chFeedback a0 a1 a2 a3) := by
  unfold State.chFeedback
  grind only [= keepP_mk, → keepP_snd, ← keep_foldlP, = keepP2_mk, → keepP2_snd, ← keep_foldlP2, = keepP3_mk, → keepP3_snd, usr keep_rest, usr keep_foldl, usr keep_State_oset, usr keep_State_setCh]
grind_pattern keep_State_chFeedback => Keep W z a3, State.chFeedback a0 a1 a2 a3

theorem keep_State_chPublish [Lets W .objs] [Lets W .loop] {a0 a1 a2 a3 a4 a5 a6 a7} (ha7 : Keep W z a7) :
    Keep W z (State.chPublish a0 a1 a2 a3 a4 a5 a6 a7) := by
  unfold State.chPublish
  grind [keep_foldl, keep_State_setCh, keep_State_bump, keep_State_oset, = keepE_ok, = keepE_error, = keepR_next, = keepR_fault, = keepR_refused, = keepP_mk, → keepP_snd, = keepP2_mk, → keepP2_snd, = keepP3_mk, → keepP3_snd, = keepO_some, = keepO_none, = keepO2_some, = keepO2_none]
grind_pattern keep_State_chPublish => Keep W z a7, State.chPublish a0 a1 a2 a3 a4 a5 a6 a7

theorem keep_State_fallbackSet [Lets W .objs] [Lets W .regs] [Lets W .flt] [Lets W .irq] [Lets W .loop] [Lets W .cap] [Lets W .work] {a0 a1 a2} (ha2 : Keep W z a2) :
    Keep W z (State.fallbackSet a0 a1 a2) := by
  unfold State.fallbackSet
  grind only [usr keep_rest, usr keep_foldl, usr keep_State_irqPost, usr keep_State_setCh, usr keep_State_bump, usr keep_State_raise, usr keep_State_release]
grind_pattern keep_State_fallbackSet => Keep W z a2, State.fallbackSet a0 a1 a2

theorem keep_State_injEnd [Lets W .objs] [Lets W .irq] [Lets W .loop] {a0 a1} (ha1 : Keep W z a1) :
    Keep W z (State.injEnd a0 a1) := by
  unfold State.injEnd
  grind only [usr keep_rest, usr keep_foldl, usr keep_State_irqPost, usr keep_State_oset, usr keep_State_loopSet]
grind_pattern keep_State_injEnd => Keep W z a1, State.injEnd a0 a1

theorem keep_State_injRecord [Lets W .objs] [Lets W .irq] [Lets W .loop] {a0 a1 a2 a3 a4 a5 a6 a7} (ha7 : Keep W z a7) :
    Keep W z (State.injRecord a0 a1 a2 a3 a4 a5 a6 a7) := by
  unfold State.injRecord
  grind only [usr keep_rest, usr keep_foldl, usr keep_State_loopSet, usr keep_State_injEnd]
grind_pattern keep_State_injRecord => Keep W z a7, State.injRecord a0 a1 a2 a3 a4 a5 a6 a7

theorem keep_State_injValue [Lets W .loop] {a0} (ha0 : Keep W z a0) :
    KeepP W z (State.injValue a0) := by
  unfold State.injValue
  grind only [= keepP_mk, → keepP_snd, ← keep_foldlP, usr keep_rest, usr keep_foldl, usr keep_State_loopSet]
grind_pattern keep_State_injValue => Keep W z a0, State.injValue a0

theorem keep_State_chEnable [Lets W .objs] [Lets W .regs] [Lets W .flt] [Lets W .irq] [Lets W .loop] [Lets W .cap] [Lets W .work] {a0 a1} (ha1 : Keep W z a1) :
    Keep W z (State.chEnable a0 a1) := by
  unfold State.chEnable
  grind only [usr keep_rest, usr keep_foldl, usr keep_State_fallbackSet, usr keep_State_setCh]
grind_pattern keep_State_chEnable => Keep W z a1, State.chEnable a0 a1

theorem keep_State_loopApply [Lets W .objs] [Lets W .regs] [Lets W .flt] [Lets W .irq] [Lets W .loop] [Lets W .cap] [Lets W .work] {a0 a1 a2} (ha2 : Keep W z a2) :
    Keep W z (State.loopApply a0 a1 a2) := by
  unfold State.loopApply
  grind only [usr keep_rest, usr keep_foldl, usr keep_State_irqPost, usr keep_State_addTo, usr keep_State_setCh, usr keep_State_chEnable]
grind_pattern keep_State_loopApply => Keep W z a2, State.loopApply a0 a1 a2

theorem keep_State_chExec [Lets W .objs] [Lets W .regs] [Lets W .flt] [Lets W .irq] [Lets W .pwm] [Lets W .bat] [Lets W .loop] [Lets W .cap] [Lets W .work] {a0 a1 a2} (ha2 : Keep W z a2) :
    Keep W z (State.chExec a0 a1 a2) := by
  unfold State.chExec
  extract_lets +onlyGivenNames n set_ d0 g0 s1 d g bound
  have h1 : Keep W z s1 := keep_State_loopApply ha2
  clear_value s1 d g bound n d0 g0 set_
  split
  · extract_lets +onlyGivenNames s2
    have h2 : Keep W z s2 := by
      show Keep W z (if _ then _ else _)
      repeat' (first | with_reducible assumption | with_reducible apply keep_State_injEnd | split)
    clear_value s2
    extract_lets
    exact keep_State_oset (keep_State_setCh h2)
  · extract_lets +onlyGivenNames rising s2 at_ yPrev fresh spx spGood spv ffx ffGood ff sp0 src3 s3
    have h2 : Keep W z s2 := h1
    have h3 : Keep W z s3 := keep_State_setCh h2
    clear_value s3 src3 sp0 ff ffGood ffx spv spGood spx fresh yPrev at_ s2 rising
    have hf := keepP3_snd _ (keep_State_chFeedback (a0 := a0) (a1 := d) (a2 := if bound = true then 0x700 else rd d 2 2) h3)
    split
    rename_i fb lost frozen s4 e4
    rw [e4] at hf
    replace hf : Keep W z s4 := hf
    extract_lets +onlyGivenNames bad was good leaving src5 s5 fall inj0 s6 inj
    have h5 : Keep W z s5 := by
      show Keep W z (if bad = true then _ else _)
      repeat' (first | with_reducible assumption | with_reducible apply keep_State_setCh | with_reducible apply keep_State_fallbackSet | split)
    clear_value s5 src5 leaving good was bad
    have h6 : Keep W z s6 := by
      show Keep W z (if _ then _ else _)
      repeat' (first | with_reducible assumption | with_reducible apply keep_State_injEnd | split)
    clear_value s6 fall inj0 inj
    have h7 : KeepP W z (if inj = true then s6.injValue else (0, s6)) := by
      split
      · exact keep_State_injValue h6
      · exact h6
    revert h7
    generalize (if inj = true then s6.injValue else (0, s6)) = x7
    intro h7
    obtain ⟨w, s7⟩ := x7
    replace h7 : Keep W z s7 := h7
    dsimp -zeta only
    extract_lets +onlyGivenNames pt w1 w2 w3 sp
    clear_value pt w1 w2 w3 sp
    have h8 : KeepP W z (if bound = true then have p := s7.shareSlew.batError; (roundAway (p.1 * 32768), p.2) else (sp - fb, s7)) := by
      split
      · exact keepP_snd _ (keep_State_batError (keep_State_shareSlew h7))
      · exact h7
    revert h8
    generalize (if bound = true then have p := s7.shareSlew.batError; (roundAway (p.1 * 32768), p.2) else (sp - fb, s7)) = x8
    intro h8
    obtain ⟨eRaw, s8⟩ := x8
    replace h8 : Keep W z s8 := h8
    clear e4
    dsimp -zeta only
    extract_lets +onlyGivenNames e r iHeld
    clear_value e r iHeld
    split
    · extract_lets +onlyGivenNames safe step y0 taken i cut st s9 s10
      have h9 : Keep W z s9 := keep_State_chPublish (keep_ite (keep_State_setCh h8) h8)
      clear_value s9 st i y0 cut safe step taken
      have h10 : Keep W z s10 := by
        show Keep W z (if _ then _ else _)
        repeat' (first | with_reducible assumption | with_reducible apply keep_State_injRecord | split)
      clear_value s10
      repeat' (first | with_reducible assumption | with_reducible apply keep_State_batOutput | split)
    · extract_lets +onlyGivenNames useSet bumpless adjust start normal t0 io ao atLim i0 i yr y yo excl st s9 s10
      have h9 : Keep W z s9 := keep_State_chPublish (keep_ite (keep_State_setCh h8) h8)
      clear_value s9 st excl yo y yr i i0 atLim ao io t0 normal start adjust bumpless useSet
      have h10 : Keep W z s10 := by
        show Keep W z (if _ then _ else _)
        repeat' (first | with_reducible assumption | with_reducible apply keep_State_injRecord | split)
      clear_value s10
      repeat' (first | with_reducible assumption | with_reducible apply keep_State_batOutput | split)
grind_pattern keep_State_chExec => Keep W z a2, State.chExec a0 a1 a2

theorem keep_State_chExecAt [Lets W .objs] [Lets W .regs] [Lets W .tm] [Lets W .flt] [Lets W .irq] [Lets W .pwm] [Lets W .bat] [Lets W .loop] [Lets W .cap] [Lets W .work] {a0 a1 a2 a3} (ha3 : Keep W z a3) :
    Keep W z (State.chExecAt a0 a1 a2 a3) := by
  unfold State.chExecAt
  grind only [usr keep_rest, usr keep_foldl, usr keep_State_to8, usr keep_State_chExec, usr keep_State_tmSet]
grind_pattern keep_State_chExecAt => Keep W z a3, State.chExecAt a0 a1 a2 a3

theorem keep_State_setGroup [Lets W .loop] {a0 a1 a2} (ha0 : Keep W z a0) :
    Keep W z (State.setGroup a0 a1 a2) := by
  unfold State.setGroup
  grind only [usr keep_rest, usr keep_foldl, usr keep_State_loopSet]
grind_pattern keep_State_setGroup => Keep W z a0, State.setGroup a0 a1 a2

theorem keep_State_groupOne [Lets W .objs] [Lets W .regs] [Lets W .tm] [Lets W .flt] [Lets W .irq] [Lets W .pwm] [Lets W .bat] [Lets W .loop] [Lets W .cap] [Lets W .work] {a0 a1 a2} (ha2 : Keep W z a2) :
    Keep W z (State.groupOne a0 a1 a2) := by
  unfold State.groupOne
  grind only [usr keep_rest, usr keep_foldl, usr keep_State_chExecAt, usr keep_State_setGroup, usr keep_State_loopSet, usr keep_State_irqPost]
grind_pattern keep_State_groupOne => Keep W z a2, State.groupOne a0 a1 a2

theorem keep_State_groupOpen [Lets W .irq] [Lets W .loop] {a0 a1 a2} (ha2 : Keep W z a2) :
    Keep W z (State.groupOpen a0 a1 a2) := by
  unfold State.groupOpen
  grind only [usr keep_rest, usr keep_foldl, usr keep_State_setGroup, usr keep_State_irqPost]
grind_pattern keep_State_groupOpen => Keep W z a2, State.groupOpen a0 a1 a2

theorem keep_State_openHeld [Lets W .irq] [Lets W .loop] {a0 a1} (ha1 : Keep W z a1) :
    Keep W z (State.openHeld a0 a1) := by
  unfold State.openHeld
  grind only [usr keep_rest, usr keep_foldl, usr keep_State_groupOpen]
grind_pattern keep_State_openHeld => Keep W z a1, State.openHeld a0 a1

theorem keep_State_groupsTill [Lets W .objs] [Lets W .regs] [Lets W .tm] [Lets W .flt] [Lets W .irq] [Lets W .pwm] [Lets W .bat] [Lets W .loop] [Lets W .cap] [Lets W .work] {a0 a1 a2} (ha2 : Keep W z a2) :
    Keep W z (State.groupsTill a0 a1 a2) := by
  induction a0 generalizing a2 with
  | zero => exact ha2
  | succ n ih =>
    unfold State.groupsTill
    extract_lets +onlyGivenNames s
    have h : Keep W z s := keep_State_openHeld ha2
    clear_value s
    split
    · exact h
    · extract_lets +onlyGivenNames t
      split
      · exact ih (keep_State_groupOne h)
      · exact h
grind_pattern keep_State_groupsTill => Keep W z a2, State.groupsTill a0 a1 a2

theorem keep_State_loopTo0 [Lets W .objs] [Lets W .regs] [Lets W .tm] [Lets W .flt] [Lets W .irq] [Lets W .pwm] [Lets W .bat] [Lets W .loop] [Lets W .cap] [Lets W .work] {a0 a1} (ha0 : Keep W z a0) :
    Keep W z (State.loopTo0 a0 a1) := by
  unfold State.loopTo0
  grind only [usr keep_rest, usr keep_foldl, usr keep_State_toTb0, usr keep_State_groupsTill]
grind_pattern keep_State_loopTo0 => Keep W z a0, State.loopTo0 a0 a1

theorem keep_State_loopPend [Lets W .objs] [Lets W .regs] [Lets W .flt] [Lets W .irq] [Lets W .loop] [Lets W .cap] [Lets W .work] {a0 a1 a2} (ha2 : Keep W z a2) :
    Keep W z (State.loopPend a0 a1 a2) := by
  unfold State.loopPend
  grind only [usr keep_rest, usr keep_foldl, usr keep_State_setCh, usr keep_State_loopApply]
grind_pattern keep_State_loopPend => Keep W z a2, State.loopPend a0 a1 a2

theorem keep_State_applyLoopDesc [Lets W .objs] [Lets W .doms] [Lets W .regs] [Lets W .flt] [Lets W .irq] [Lets W .loop] [Lets W .cap] [Lets W .work] {a0 a1 a2} (ha2 : Keep W z a2) :
    KeepE W z (State.applyLoopDesc a0 a1 a2) := by
  unfold State.applyLoopDesc
  grind only [= keepE_ok, = keepE_error, usr keep_rest, usr keep_foldl, usr keep_State_loopPend, usr keep_State_dset]
grind_pattern keep_State_applyLoopDesc => Keep W z a2, State.applyLoopDesc a0 a1 a2

theorem keep_State_applyLoopGtab [Lets W .objs] [Lets W .doms] [Lets W .regs] [Lets W .flt] [Lets W .irq] [Lets W .loop] [Lets W .cap] [Lets W .work] {a0 a1 a2} (ha2 : Keep W z a2) :
    KeepE W z (State.applyLoopGtab a0 a1 a2) := by
  unfold State.applyLoopGtab
  grind only [= keepE_ok, = keepE_error, usr keep_rest, usr keep_foldl, usr keep_State_loopPend, usr keep_State_dset]
grind_pattern keep_State_applyLoopGtab => Keep W z a2, State.applyLoopGtab a0 a1 a2

theorem keep_State_loopField [Lets W .objs] [Lets W .doms] [Lets W .regs] [Lets W .flt] [Lets W .irq] [Lets W .loop] [Lets W .cap] [Lets W .work] {a0 a1 a2 a3 a4} (ha4 : Keep W z a4) :
    Keep W z (State.loopField a0 a1 a2 a3 a4) := by
  unfold State.loopField
  grind only [usr keep_rest, usr keep_foldl, usr keep_State_loopPend, usr keep_State_dset]
grind_pattern keep_State_loopField => Keep W z a4, State.loopField a0 a1 a2 a3 a4

theorem keep_State_applyFfGain [Lets W .objs] [Lets W .doms] [Lets W .regs] [Lets W .flt] [Lets W .irq] [Lets W .loop] [Lets W .cap] [Lets W .work] {a0 a1 a2} (ha2 : Keep W z a2) :
    KeepE W z (State.applyFfGain a0 a1 a2) := by
  unfold State.applyFfGain
  grind only [= keepE_ok, = keepE_error, usr keep_rest, usr keep_foldl, usr keep_State_loopField]
grind_pattern keep_State_applyFfGain => Keep W z a2, State.applyFfGain a0 a1 a2

theorem keep_State_applyGroupSrc [Lets W .objs] [Lets W .regs] [Lets W .flt] [Lets W .irq] [Lets W .loop] [Lets W .cap] [Lets W .work] {a0 a1 a2} (ha2 : Keep W z a2) :
    KeepE W z (State.applyGroupSrc a0 a1 a2) := by
  unfold State.applyGroupSrc
  grind only [= keepE_ok, = keepE_error, usr keep_rest, usr keep_foldl, usr keep_State_oset, usr keep_State_loopApply]
grind_pattern keep_State_applyGroupSrc => Keep W z a2, State.applyGroupSrc a0 a1 a2

theorem keep_State_applyGtabPoke [Lets W .objs] [Lets W .doms] [Lets W .regs] [Lets W .flt] [Lets W .irq] [Lets W .loop] [Lets W .cap] [Lets W .work] {a0 a1 a2} (ha2 : Keep W z a2) :
    KeepE W z (State.applyGtabPoke a0 a1 a2) := by
  unfold State.applyGtabPoke
  grind only [= keepE_ok, = keepE_error, usr keep_rest, usr keep_foldl, usr keep_State_loopPend, usr keep_State_dset]
grind_pattern keep_State_applyGtabPoke => Keep W z a2, State.applyGtabPoke a0 a1 a2

theorem keep_State_applyInjCmd [Lets W .objs] [Lets W .irq] [Lets W .loop] {a0 a1} (ha1 : Keep W z a1) :
    KeepE W z (State.applyInjCmd a0 a1) := by
  unfold State.applyInjCmd
  grind only [= keepE_ok, = keepE_error, usr keep_rest, usr keep_foldl, usr keep_State_oset, usr keep_State_loopSet, usr keep_State_injEnd]
grind_pattern keep_State_applyInjCmd => Keep W z a1, State.applyInjCmd a0 a1

theorem keep_State_applyIntSet [Lets W .loop] {a0 a1 a2} (ha2 : Keep W z a2) :
    KeepE W z (State.applyIntSet a0 a1 a2) := by
  unfold State.applyIntSet
  grind only [= keepE_ok, = keepE_error, usr keep_rest, usr keep_foldl, usr keep_State_setCh]
grind_pattern keep_State_applyIntSet => Keep W z a2, State.applyIntSet a0 a1 a2

theorem keep_State_applyLoopFlags [Lets W .objs] [Lets W .doms] [Lets W .regs] [Lets W .flt] [Lets W .irq] [Lets W .loop] [Lets W .cap] [Lets W .work] {a0 a1 a2} (ha2 : Keep W z a2) :
    KeepE W z (State.applyLoopFlags a0 a1 a2) := by
  unfold State.applyLoopFlags
  grind only [= keepE_ok, = keepE_error, usr keep_rest, usr keep_foldl, usr keep_State_loopField]
grind_pattern keep_State_applyLoopFlags => Keep W z a2, State.applyLoopFlags a0 a1 a2

theorem keep_State_applyLoopLimit [Lets W .objs] [Lets W .doms] [Lets W .regs] [Lets W .flt] [Lets W .irq] [Lets W .loop] [Lets W .cap] [Lets W .work] {a0 a1 a2 a3} (ha3 : Keep W z a3) :
    KeepE W z (State.applyLoopLimit a0 a1 a2 a3) := by
  unfold State.applyLoopLimit
  grind only [= keepE_ok, = keepE_error, usr keep_rest, usr keep_foldl, usr keep_State_loopField]
grind_pattern keep_State_applyLoopLimit => Keep W z a3, State.applyLoopLimit a0 a1 a2 a3

theorem keep_State_applyLoopShift [Lets W .objs] [Lets W .doms] [Lets W .regs] [Lets W .flt] [Lets W .irq] [Lets W .loop] [Lets W .cap] [Lets W .work] {a0 a1 a2 a3} (ha3 : Keep W z a3) :
    KeepE W z (State.applyLoopShift a0 a1 a2 a3) := by
  unfold State.applyLoopShift
  grind only [= keepE_ok, = keepE_error, usr keep_rest, usr keep_foldl, usr keep_State_loopField]
grind_pattern keep_State_applyLoopShift => Keep W z a3, State.applyLoopShift a0 a1 a2 a3

theorem keep_State_loopTo2 [Lets W .objs] [Lets W .regs] [Lets W .tm] [Lets W .flt] [Lets W .irq] [Lets W .pwm] [Lets W .bat] [Lets W .loop] [Lets W .cap] [Lets W .work] {a0 a1} (ha0 : Keep W z a0) :
    Keep W z (State.loopTo2 a0 a1) := by
  unfold State.loopTo2
  grind only [usr keep_rest, usr keep_foldl, usr keep_State_toTb2, usr keep_State_groupsTill]
grind_pattern keep_State_loopTo2 => Keep W z a0, State.loopTo2 a0 a1

theorem keep_State_setArm [Lets W .loop] {a0 a1 a2} (ha0 : Keep W z a0) :
    Keep W z (State.setArm a0 a1 a2) := by
  unfold State.setArm
  grind only [usr keep_rest, usr keep_foldl, usr keep_State_loopSet]
grind_pattern keep_State_setArm => Keep W z a0, State.setArm a0 a1 a2

theorem keep_State_armCurrent [Lets W .loop] {a0 a1} (ha1 : Keep W z a1) :
    Keep W z (State.armCurrent a0 a1) := by
  unfold State.armCurrent
  grind only [usr keep_rest, usr keep_foldl, usr keep_State_setArm]
grind_pattern keep_State_armCurrent => Keep W z a1, State.armCurrent a0 a1

theorem keep_State_armCompose [Lets W .loop] {a0 a1 a2} (ha2 : Keep W z a2) :
    Keep W z (State.armCompose a0 a1 a2) := by
  unfold State.armCompose
  grind only [usr keep_rest, usr keep_foldl, usr keep_State_setArm]
grind_pattern keep_State_armCompose => Keep W z a2, State.armCompose a0 a1 a2

theorem keep_State_groupCompute [Lets W .objs] [Lets W .regs] [Lets W .tm] [Lets W .flt] [Lets W .irq] [Lets W .pwm] [Lets W .bat] [Lets W .loop] [Lets W .cap] [Lets W .work] {a0 a1} (ha1 : Keep W z a1) :
    Keep W z (State.groupCompute a0 a1) := by
  unfold State.groupCompute
  grind only [usr keep_rest, usr keep_foldl, usr keep_State_chExec, usr keep_State_to8, usr keep_State_irqPost]
grind_pattern keep_State_groupCompute => Keep W z a1, State.groupCompute a0 a1

theorem keep_State_groupSuspend [Lets W .objs] [Lets W .irq] [Lets W .loop] {a0 a1} (ha1 : Keep W z a1) :
    Keep W z (State.groupSuspend a0 a1) := by
  unfold State.groupSuspend
  grind only [usr keep_rest, usr keep_foldl, usr keep_State_loopSet, usr keep_State_irqPost, usr keep_State_bump, usr keep_State_setGroup]
grind_pattern keep_State_groupSuspend => Keep W z a1, State.groupSuspend a0 a1

theorem keep_State_groupsNow [Lets W .objs] [Lets W .regs] [Lets W .tm] [Lets W .flt] [Lets W .irq] [Lets W .pwm] [Lets W .bat] [Lets W .loop] [Lets W .cap] [Lets W .work] {a0} (ha0 : Keep W z a0) :
    Keep W z (State.groupsNow a0) := by
  unfold State.groupsNow
  grind only [usr keep_rest, usr keep_foldl, usr keep_State_groupsTill]
grind_pattern keep_State_groupsNow => Keep W z a0, State.groupsNow a0

theorem keep_State_setNco [Lets W .loop] {a0 a1 a2} (ha0 : Keep W z a0) :
    Keep W z (State.setNco a0 a1 a2) := by
  unfold State.setNco
  grind only [usr keep_rest, usr keep_foldl, usr keep_State_loopSet]
grind_pattern keep_State_setNco => Keep W z a0, State.setNco a0 a1 a2

theorem keep_State_ncoCompute [Lets W .loop] {a0 a1} (ha1 : Keep W z a1) :
    Keep W z (State.ncoCompute a0 a1) := by
  unfold State.ncoCompute
  grind only [usr keep_rest, usr keep_foldl, usr keep_State_setNco]
grind_pattern keep_State_ncoCompute => Keep W z a1, State.ncoCompute a0 a1

theorem keep_State_ncoCueStart [Lets W .loop] {a0 a1} (ha1 : Keep W z a1) :
    Keep W z (State.ncoCueStart a0 a1) := by
  unfold State.ncoCueStart
  grind only [usr keep_rest, usr keep_foldl, usr keep_State_setNco]
grind_pattern keep_State_ncoCueStart => Keep W z a1, State.ncoCueStart a0 a1

theorem keep_State_ncoTb1Lost [Lets W .loop] {a0 a1} (ha1 : Keep W z a1) :
    Keep W z (State.ncoTb1Lost a0 a1) := by
  unfold State.ncoTb1Lost
  grind only [usr keep_rest, usr keep_foldl, usr keep_State_setNco]
grind_pattern keep_State_ncoTb1Lost => Keep W z a1, State.ncoTb1Lost a0 a1

theorem keep_State_groupArrive [Lets W .objs] [Lets W .irq] [Lets W .loop] {a0 a1 a2} (ha2 : Keep W z a2) :
    Keep W z (State.groupArrive a0 a1 a2) := by
  unfold State.groupArrive
  grind only [usr keep_rest, usr keep_foldl, usr keep_State_openHeld, usr keep_State_groupOpen, usr keep_State_irqPost, usr keep_State_bump, usr keep_State_setGroup]
grind_pattern keep_State_groupArrive => Keep W z a2, State.groupArrive a0 a1 a2

theorem keep_State_groupTevt [Lets W .objs] [Lets W .irq] [Lets W .loop] {a0 a1} (ha1 : Keep W z a1) :
    Keep W z (State.groupTevt a0 a1) := by
  unfold State.groupTevt
  grind only [usr keep_rest, usr keep_foldl, usr keep_State_groupArrive]
grind_pattern keep_State_groupTevt => Keep W z a1, State.groupTevt a0 a1

end Sys2Proof.Laws
end

