-- ==== Sys2Proof/Laws/KeepPwm.lean ====
section
/-! SUPPORT. What the operations of Machine/Pwm keep (see Laws/Keep). -/

set_option Elab.async false
namespace Sys2Proof.Laws
open Sys2Proof.Machine
variable {W : Part → Prop} {z : State}

theorem keep_cellReg {a0 a1} (ha0 : Keep W z a0) (ha1 : ∀ x0, Keep W z x0 → Keep W z (a1 x0)) :
    Keep W z (cellReg a0 a1) := by
  unfold cellReg
  grind only [usr keep_rest, usr keep_foldl]

theorem keep_applyBypCmd [Lets W .pwm] {a0 a1} (ha1 : Keep W z a1) :
    KeepE W z (applyBypCmd a0 a1) := by
  unfold applyBypCmd
  grind only [= keepE_ok, = keepE_error, usr keep_rest, usr keep_foldl, usr keep_State_pwmSet]
grind_pattern keep_applyBypCmd => Keep W z a1, applyBypCmd a0 a1

theorem keep_applyShPer [Lets W .objs] [Lets W .regs] [Lets W .irq] [Lets W .pwm] {a0 a1} (ha1 : Keep W z a1) :
    KeepE W z (applyShPer a0 a1) := by
  unfold applyShPer
  grind only [= keepE_ok, = keepE_error, usr keep_rest, usr keep_foldl, usr keep_State_shadowPer]
grind_pattern keep_applyShPer => Keep W z a1, applyShPer a0 a1

theorem keep_applyTripClr [Lets W .flt] [Lets W .pwm] {a0 a1} (ha1 : Keep W z a1) :
    KeepE W z (applyTripClr a0 a1) := by
  unfold applyTripClr
  grind only [= keepE_ok, = keepE_error, usr keep_rest, usr keep_foldl, usr keep_State_tripClear]
grind_pattern keep_applyTripClr => Keep W z a1, applyTripClr a0 a1

theorem keep_execBypCmd [Lets W .regs] [Lets W .pw] [Lets W .flt] [Lets W .irq] [Lets W .seat] [Lets W .pair] [Lets W .pwm] [Lets W .cap] [Lets W .work] [Lets W .out] {a0 a1} (ha1 : Keep W z a1) :
    KeepR W z (execBypCmd a0 a1) := by
  unfold execBypCmd
  grind only [= keepE_ok, = keepE_error, = keepR_next, = keepR_fault, = keepR_refused, usr keep_rest, usr keep_foldl, keep_State_guardedValue, usr keep_applyBypCmd]
grind_pattern keep_execBypCmd => Keep W z a1, execBypCmd a0 a1

theorem keep_execBypassConfirmTimeout [Lets W .objs] [Lets W .regs] [Lets W .tm] [Lets W .flt] [Lets W .irq] [Lets W .pwm] [Lets W .bat] [Lets W .loop] [Lets W .cap] [Lets W .work] [Lets W .out] {a0} (ha0 : Keep W z a0) :
    KeepR W z (execBypassConfirmTimeout a0) := by
  unfold execBypassConfirmTimeout
  grind only [= keepR_next, = keepR_fault, = keepR_refused, usr keep_rest, usr keep_foldl, usr keep_State_loopTo2, usr keep_State_bypassRise, usr keep_State_drive, usr keep_State_pwmSet, usr keep_State_raise, usr keep_State_pwmEvt]
grind_pattern keep_execBypassConfirmTimeout => Keep W z a0, execBypassConfirmTimeout a0

theorem keep_execBypassPulseEnd [Lets W .objs] [Lets W .regs] [Lets W .tm] [Lets W .flt] [Lets W .irq] [Lets W .pwm] [Lets W .bat] [Lets W .loop] [Lets W .cap] [Lets W .work] [Lets W .out] {a0} (ha0 : Keep W z a0) :
    KeepR W z (execBypassPulseEnd a0) := by
  unfold execBypassPulseEnd
  grind only [= keepR_next, = keepR_fault, = keepR_refused, usr keep_rest, usr keep_foldl, usr keep_State_loopTo2, usr keep_State_drive, usr keep_State_setByp, usr keep_State_pwmSet]
grind_pattern keep_execBypassPulseEnd => Keep W z a0, execBypassPulseEnd a0

theorem keep_execBypassPulseStart [Lets W .objs] [Lets W .regs] [Lets W .tm] [Lets W .flt] [Lets W .irq] [Lets W .pwm] [Lets W .bat] [Lets W .loop] [Lets W .cap] [Lets W .work] [Lets W .out] {a0} (ha0 : Keep W z a0) :
    KeepR W z (execBypassPulseStart a0) := by
  unfold execBypassPulseStart
  grind only [= keepR_next, = keepR_fault, = keepR_refused, usr keep_rest, usr keep_foldl, usr keep_State_bypassRise, usr keep_State_loopTo2]
grind_pattern keep_execBypassPulseStart => Keep W z a0, execBypassPulseStart a0

theorem keep_execBypassSense [Lets W .regs] [Lets W .flt] [Lets W .irq] [Lets W .pwm] [Lets W .bat] [Lets W .loop] [Lets W .cap] [Lets W .work] [Lets W .out] {a0 a1 a2} (ha2 : Keep W z a2) :
    KeepR W z (execBypassSense a0 a1 a2) := by
  unfold execBypassSense
  grind only [= keepR_next, = keepR_fault, = keepR_refused, usr keep_rest, usr keep_foldl, usr keep_State_tripSamples]
grind_pattern keep_execBypassSense => Keep W z a2, execBypassSense a0 a1 a2

theorem keep_gatesTo [Lets W .objs] [Lets W .regs] [Lets W .tm] [Lets W .flt] [Lets W .irq] [Lets W .pwm] [Lets W .bat] [Lets W .loop] [Lets W .cap] [Lets W .work] [Lets W .out] {a0 a1} (ha1 : Keep W z a1) :
    Keep W z (gatesTo a0 a1) := by
  unfold gatesTo
  grind only [usr keep_rest, usr keep_foldl, usr keep_State_calSettle, usr keep_State_batStep, usr keep_State_actUntil, usr keep_State_loopTo0]
grind_pattern keep_gatesTo => Keep W z a1, gatesTo a0 a1

theorem keep_execDeadTimeEnd [Lets W .objs] [Lets W .regs] [Lets W .tm] [Lets W .flt] [Lets W .irq] [Lets W .pwm] [Lets W .bat] [Lets W .loop] [Lets W .cap] [Lets W .work] [Lets W .out] {a0} (ha0 : Keep W z a0) :
    KeepR W z (execDeadTimeEnd a0) := by
  unfold execDeadTimeEnd
  grind only [= keepR_next, = keepR_fault, = keepR_refused, usr keep_rest, usr keep_foldl, usr keep_gatesTo]
grind_pattern keep_execDeadTimeEnd => Keep W z a0, execDeadTimeEnd a0

theorem keep_execDebugHalt [Lets W .regs] [Lets W .pw] [Lets W .irq] [Lets W .pwm] [Lets W .bat] [Lets W .loop] [Lets W .out] {a0} (ha0 : Keep W z a0) :
    KeepR W z (execDebugHalt a0) := by
  unfold execDebugHalt
  grind only [= keepR_next, = keepR_fault, = keepR_refused, usr keep_rest, usr keep_foldl, keep_State_withForce, usr keep_State_pwSet]
grind_pattern keep_execDebugHalt => Keep W z a0, execDebugHalt a0

theorem keep_execDebugResume [Lets W .pw] {a0} (ha0 : Keep W z a0) :
    KeepR W z (execDebugResume a0) := by
  unfold execDebugResume
  grind only [= keepR_next, = keepR_fault, = keepR_refused, usr keep_rest, usr keep_foldl, usr keep_State_pwSet]
grind_pattern keep_execDebugResume => Keep W z a0, execDebugResume a0

theorem keep_execDelayLineCal [Lets W .objs] [Lets W .regs] [Lets W .flt] [Lets W .irq] [Lets W .pwm] [Lets W .cap] [Lets W .work] {a0 a1 a2} (ha2 : Keep W z a2) :
    KeepR W z (execDelayLineCal a0 a1 a2) := by
  unfold execDelayLineCal
  grind only [= keepR_next, = keepR_fault, = keepR_refused, usr keep_rest, usr keep_foldl, usr keep_State_pwmSet, usr keep_State_release, usr keep_State_calSettle, usr keep_State_raise, usr keep_State_irqPost, usr keep_State_evt]
grind_pattern keep_execDelayLineCal => Keep W z a2, execDelayLineCal a0 a1 a2

theorem keep_execEventEdge [Lets W .objs] [Lets W .regs] [Lets W .tm] [Lets W .flt] [Lets W .irq] [Lets W .pwm] [Lets W .bat] [Lets W .loop] [Lets W .cap] [Lets W .work] [Lets W .out] {a0} (ha0 : Keep W z a0) :
    KeepR W z (execEventEdge a0) := by
  unfold execEventEdge
  grind only [= keepR_next, = keepR_fault, = keepR_refused, usr keep_rest, usr keep_foldl, usr keep_gatesTo]
grind_pattern keep_execEventEdge => Keep W z a0, execEventEdge a0

theorem keep_execPwmClockGood [Lets W .pw] [Lets W .flt] [Lets W .irq] {a0} (ha0 : Keep W z a0) :
    KeepR W z (execPwmClockGood a0) := by
  unfold execPwmClockGood
  grind only [= keepR_next, = keepR_fault, = keepR_refused, usr keep_rest, usr keep_foldl, usr keep_State_irqPost, usr keep_State_release, usr keep_State_pwSet]
grind_pattern keep_execPwmClockGood => Keep W z a0, execPwmClockGood a0

theorem keep_execPwmClockLoss [Lets W .regs] [Lets W .pw] [Lets W .flt] [Lets W .irq] [Lets W .pwm] [Lets W .bat] [Lets W .loop] [Lets W .cap] [Lets W .work] [Lets W .out] {a0} (ha0 : Keep W z a0) :
    KeepR W z (execPwmClockLoss a0) := by
  unfold execPwmClockLoss
  grind [= keepR_next, = keepR_fault, = keepR_refused, keep_foldl, keep_State_withForce, keep_State_pwSet, keep_State_irqPost, keep_State_raise, = keepE_ok, = keepE_error, = keepP_mk, → keepP_snd, = keepP2_mk, → keepP2_snd, = keepP3_mk, → keepP3_snd, = keepO_some, = keepO_none, = keepO2_some, = keepO2_none]
grind_pattern keep_execPwmClockLoss => Keep W z a0, execPwmClockLoss a0

theorem keep_execPwmHoldWrite [Lets W .objs] [Lets W .regs] [Lets W .irq] [Lets W .pwm] {a0 a1 a2} (ha2 : Keep W z a2) :
    KeepR W z (execPwmHoldWrite a0 a1 a2) := by
  unfold execPwmHoldWrite
  grind only [= keepR_next, = keepR_fault, = keepR_refused, usr keep_rest, usr keep_foldl, keep_cellReg, usr keep_State_setHold]
grind_pattern keep_execPwmHoldWrite => Keep W z a2, execPwmHoldWrite a0 a1 a2

theorem keep_execShadowPerWrite [Lets W .objs] [Lets W .regs] [Lets W .pw] [Lets W .flt] [Lets W .irq] [Lets W .seat] [Lets W .pair] [Lets W .pwm] [Lets W .cap] [Lets W .work] [Lets W .out] {a0 a1 a2} (ha2 : Keep W z a2) :
    KeepR W z (execShadowPerWrite a0 a1 a2) := by
  unfold execShadowPerWrite
  grind only [= keepE_ok, = keepE_error, = keepR_next, = keepR_fault, = keepR_refused, usr keep_rest, usr keep_foldl, keep_State_guardedValue, usr keep_applyShPer, keep_cellReg, usr keep_State_shadowPer]
grind_pattern keep_execShadowPerWrite => Keep W z a2, execShadowPerWrite a0 a1 a2

theorem keep_execTripActive [Lets W .regs] [Lets W .flt] [Lets W .irq] [Lets W .pwm] [Lets W .bat] [Lets W .loop] [Lets W .cap] [Lets W .work] [Lets W .out] {a0 a1 a2 a3} (ha3 : Keep W z a3) :
    KeepR W z (execTripActive a0 a1 a2 a3) := by
  unfold execTripActive
  grind only [= keepR_next, = keepR_fault, = keepR_refused, usr keep_rest, usr keep_foldl, usr keep_State_tripSamples]
grind_pattern keep_execTripActive => Keep W z a3, execTripActive a0 a1 a2 a3

theorem keep_execTripClr [Lets W .regs] [Lets W .pw] [Lets W .flt] [Lets W .irq] [Lets W .seat] [Lets W .pair] [Lets W .pwm] [Lets W .cap] [Lets W .work] [Lets W .out] {a0 a1 a2} (ha2 : Keep W z a2) :
    KeepR W z (execTripClr a0 a1 a2) := by
  unfold execTripClr
  grind only [= keepE_ok, = keepE_error, = keepR_next, = keepR_fault, = keepR_refused, usr keep_rest, usr keep_foldl, keep_State_guardedValue, usr keep_applyTripClr, usr keep_State_tripClear]
grind_pattern keep_execTripClr => Keep W z a2, execTripClr a0 a1 a2

theorem keep_execTripInactive [Lets W .regs] [Lets W .flt] [Lets W .irq] [Lets W .pwm] [Lets W .bat] [Lets W .loop] [Lets W .cap] [Lets W .work] [Lets W .out] {a0 a1 a2 a3} (ha3 : Keep W z a3) :
    KeepR W z (execTripInactive a0 a1 a2 a3) := by
  unfold execTripInactive
  grind only [= keepR_next, = keepR_fault, = keepR_refused, usr keep_rest, usr keep_foldl, usr keep_State_tripSamples]
grind_pattern keep_execTripInactive => Keep W z a3, execTripInactive a0 a1 a2 a3

end Sys2Proof.Laws
end

