-- ==== Sys2Proof/Laws/KeepBattery.lean ====
section
/-! SUPPORT. What the operations of Machine/Battery keep (see Laws/Keep). -/

set_option Elab.async false
namespace Sys2Proof.Laws
open Sys2Proof.Machine
variable {W : Part → Prop} {z : State}

theorem keep_execBatCmdClear [Lets W .objs] [Lets W .regs] [Lets W .pw] [Lets W .flt] [Lets W .irq] [Lets W .seat] [Lets W .pair] [Lets W .pwm] [Lets W .bat] [Lets W .loop] [Lets W .cap] [Lets W .work] [Lets W .out] {a0 a1} (ha1 : Keep W z a1) :
    KeepR W z (execBatCmdClear a0 a1) := by
  unfold execBatCmdClear
  grind only [= keepE_ok, = keepE_error, = keepR_next, = keepR_fault, = keepR_refused, usr keep_rest, usr keep_foldl, keep_State_guardedValue, usr keep_State_applyBatCmd]
grind_pattern keep_execBatCmdClear => Keep W z a1, execBatCmdClear a0 a1

theorem keep_execBatModeWrite [Lets W .objs] [Lets W .regs] [Lets W .pw] [Lets W .flt] [Lets W .irq] [Lets W .seat] [Lets W .pair] [Lets W .pwm] [Lets W .bat] [Lets W .loop] [Lets W .cap] [Lets W .work] [Lets W .out] {a0 a1 a2} (ha2 : Keep W z a2) :
    KeepR W z (execBatModeWrite a0 a1 a2) := by
  unfold execBatModeWrite
  grind only [= keepE_ok, = keepE_error, = keepR_next, = keepR_fault, = keepR_refused, usr keep_rest, usr keep_foldl, keep_State_guardedValue, usr keep_State_applyBatMode]
grind_pattern keep_execBatModeWrite => Keep W z a2, execBatModeWrite a0 a1 a2

theorem keep_execBatTestWrite [Lets W .objs] [Lets W .regs] [Lets W .pw] [Lets W .flt] [Lets W .irq] [Lets W .seat] [Lets W .pair] [Lets W .pwm] [Lets W .bat] [Lets W .loop] [Lets W .cap] [Lets W .work] [Lets W .out] {a0 a1 a2} (ha2 : Keep W z a2) :
    KeepR W z (execBatTestWrite a0 a1 a2) := by
  unfold execBatTestWrite
  grind only [= keepE_ok, = keepE_error, = keepR_next, = keepR_fault, = keepR_refused, usr keep_rest, usr keep_foldl, keep_State_guardedValue, usr keep_State_applyBatTest]
grind_pattern keep_execBatTestWrite => Keep W z a2, execBatTestWrite a0 a1 a2

theorem keep_execBatterySample [Lets W .objs] [Lets W .regs] [Lets W .flt] [Lets W .irq] [Lets W .pwm] [Lets W .bat] [Lets W .loop] [Lets W .cap] [Lets W .work] [Lets W .out] {a0} (ha0 : Keep W z a0) :
    KeepR W z (execBatterySample a0) := by
  unfold execBatterySample
  grind only [= keepR_next, = keepR_fault, = keepR_refused, usr keep_rest, usr keep_foldl, usr keep_State_batSample]
grind_pattern keep_execBatterySample => Keep W z a0, execBatterySample a0

theorem keep_execCarrierBoundary [Lets W .objs] [Lets W .regs] [Lets W .tm] [Lets W .flt] [Lets W .irq] [Lets W .pwm] [Lets W .bat] [Lets W .adc] [Lets W .loop] [Lets W .cap] [Lets W .work] [Lets W .out] {a0 a1} (ha1 : Keep W z a1) :
    KeepR W z (execCarrierBoundary a0 a1) := by
  unfold execCarrierBoundary
  try dsimp only
  repeat' (first | with_reducible assumption | with_reducible exact True.intro | intro _ | with_reducible apply keep_State_toTb0 | with_reducible apply keep_State_carEdgeBy | with_reducible apply keep_State_groupsTill | with_reducible apply keep_State_calSettle | with_reducible apply keep_State_senseTest | with_reducible apply keep_State_carBoundary | with_reducible apply keep_ite | with_reducible apply keep_foldl | (simp only [keepE_ok, keepE_error, keepR_next, keepR_fault, keepR_refused, keepP_mk, keepP2_mk, keepP3_mk, keepO_some, keepO_none, keepO2_some, keepO2_none]) | split)
grind_pattern keep_execCarrierBoundary => Keep W z a1, execCarrierBoundary a0 a1

theorem keep_execCarrierDutyEdge [Lets W .objs] [Lets W .tm] [Lets W .pwm] [Lets W .out] {a0} (ha0 : Keep W z a0) :
    KeepR W z (execCarrierDutyEdge a0) := by
  unfold execCarrierDutyEdge
  grind only [= keepR_next, = keepR_fault, = keepR_refused, usr keep_rest, usr keep_foldl, usr keep_State_calSettle, usr keep_State_carEdge]
grind_pattern keep_execCarrierDutyEdge => Keep W z a0, execCarrierDutyEdge a0

theorem keep_execShadowDutyWrite [Lets W .objs] [Lets W .regs] [Lets W .pw] [Lets W .flt] [Lets W .irq] [Lets W .seat] [Lets W .pair] [Lets W .pwm] [Lets W .cap] [Lets W .work] [Lets W .out] {a0 a1 a2} (ha2 : Keep W z a2) :
    KeepR W z (execShadowDutyWrite a0 a1 a2) := by
  unfold execShadowDutyWrite
  grind only [= keepE_ok, = keepE_error, = keepR_next, = keepR_fault, = keepR_refused, usr keep_rest, usr keep_foldl, keep_State_guardedValue, usr keep_State_applyShDuty, keep_cellReg, usr keep_State_seatDuty]
grind_pattern keep_execShadowDutyWrite => Keep W z a2, execShadowDutyWrite a0 a1 a2

theorem keep_execSocRestReset [Lets W .objs] [Lets W .tm] [Lets W .irq] [Lets W .bat] {a0} (ha0 : Keep W z a0) :
    KeepR W z (execSocRestReset a0) := by
  unfold execSocRestReset
  grind only [= keepR_next, = keepR_fault, = keepR_refused, usr keep_rest, usr keep_foldl, usr keep_State_toTb2, usr keep_State_irqPost, usr keep_State_bump, usr keep_State_batSet]
grind_pattern keep_execSocRestReset => Keep W z a0, execSocRestReset a0

theorem keep_execSocSetWrite [Lets W .regs] [Lets W .pw] [Lets W .flt] [Lets W .irq] [Lets W .seat] [Lets W .pair] [Lets W .bat] [Lets W .cap] [Lets W .work] [Lets W .out] {a0 a1 a2} (ha2 : Keep W z a2) :
    KeepR W z (execSocSetWrite a0 a1 a2) := by
  unfold execSocSetWrite
  grind only [= keepE_ok, = keepE_error, = keepR_next, = keepR_fault, = keepR_refused, usr keep_rest, usr keep_foldl, keep_State_guardedValue, usr keep_State_applySocSet]
grind_pattern keep_execSocSetWrite => Keep W z a2, execSocSetWrite a0 a1 a2

end Sys2Proof.Laws
end

