-- ==== Sys2Proof/Laws/KeepCapOps.lean ====
section
/-! SUPPORT. What the operations of Machine/CapOps keep (see Laws/Keep). -/

set_option Elab.async false
namespace Sys2Proof.Laws
open Sys2Proof.Machine
variable {W : Part → Prop} {z : State}

theorem keep_State_applyCap [Lets W .objs] [Lets W .ring] [Lets W .cap] {a0 a1 a2 a3} (ha3 : Keep W z a3) :
    KeepE W z (State.applyCap a0 a1 a2 a3) := by
  unfold State.applyCap
  grind only [= keepE_ok, = keepE_error, usr keep_rest, usr keep_foldl, usr keep_State_oset, usr keep_State_capForget, usr keep_State_setStream]
grind_pattern keep_State_applyCap => Keep W z a3, State.applyCap a0 a1 a2 a3

theorem keep_State_applyCapCmd [Lets W .irq] [Lets W .cap] [Lets W .work] {a0 a1 a2} (ha2 : Keep W z a2) :
    KeepE W z (State.applyCapCmd a0 a1 a2) := by
  unfold State.applyCapCmd
  grind only [= keepE_ok, = keepE_error, usr keep_rest, usr keep_foldl, usr keep_State_setStream, usr keep_State_capStop, usr keep_State_capArm, usr keep_State_capTrigger]
grind_pattern keep_State_applyCapCmd => Keep W z a2, State.applyCapCmd a0 a1 a2

theorem keep_State_applyCapSig [Lets W .doms] {a0 a1 a2} (ha2 : Keep W z a2) :
    KeepE W z (State.applyCapSig a0 a1 a2) := by
  unfold State.applyCapSig
  grind only [= keepE_ok, = keepE_error, usr keep_rest, usr keep_foldl, usr keep_State_dset]
grind_pattern keep_State_applyCapSig => Keep W z a2, State.applyCapSig a0 a1 a2

theorem keep_State_applyWinRelease [Lets W .cap] {a0 a1} (ha1 : Keep W z a1) :
    KeepE W z (State.applyWinRelease a0 a1) := by
  unfold State.applyWinRelease
  grind only [= keepE_ok, = keepE_error, usr keep_rest, usr keep_foldl, usr keep_State_pantryRelease, usr keep_State_capSet]
grind_pattern keep_State_applyWinRelease => Keep W z a1, State.applyWinRelease a0 a1

theorem keep_State_capClose [Lets W .irq] [Lets W .cap] [Lets W .work] {a0 a1} (ha1 : Keep W z a1) :
    Keep W z (State.capClose a0 a1) := by
  unfold State.capClose
  grind only [= keepP_mk, → keepP_snd, ← keep_foldlP, usr keep_rest, usr keep_foldl, usr keep_State_capMarks, usr keep_State_capProduce, usr keep_State_capKeep, usr keep_State_setStream]
grind_pattern keep_State_capClose => Keep W z a1, State.capClose a0 a1

theorem keep_State_levelSample [Lets W .irq] [Lets W .cap] [Lets W .work] {a0 a1 a2 a3 a4 a5} (ha5 : Keep W z a5) :
    Keep W z (State.levelSample a0 a1 a2 a3 a4 a5) := by
  unfold State.levelSample
  grind only [usr keep_rest, usr keep_foldl, usr keep_State_setStream, usr keep_State_capTrigger]
grind_pattern keep_State_levelSample => Keep W z a5, State.levelSample a0 a1 a2 a3 a4 a5

theorem keep_State_capTest [Lets W .irq] [Lets W .cap] [Lets W .work] {a0 a1} (ha1 : Keep W z a1) :
    Keep W z (State.capTest a0 a1) := by
  unfold State.capTest
  grind only [usr keep_rest, usr keep_foldl, usr keep_State_levelSample, usr keep_State_holdEnd, usr keep_State_setStream]
grind_pattern keep_State_capTest => Keep W z a1, State.capTest a0 a1

theorem keep_State_capBase [Lets W .irq] [Lets W .cap] [Lets W .work] [Lets W .freeCtr] {a0 a1} (ha1 : Keep W z a1) :
    Keep W z (State.capBase a0 a1) := by
  unfold State.capBase
  grind only [usr keep_rest, usr keep_foldl, usr keep_State_capTest, usr keep_State_drawn, usr keep_State_setStream, usr keep_State_capClose]
grind_pattern keep_State_capBase => Keep W z a1, State.capBase a0 a1

theorem keep_State_capBaseAll [Lets W .irq] [Lets W .cap] [Lets W .work] [Lets W .freeCtr] {a0 a1 a2} (ha2 : Keep W z a2) :
    Keep W z (State.capBaseAll a0 a1 a2) := by
  unfold State.capBaseAll
  grind only [usr keep_rest, usr keep_foldl, usr keep_State_capBase, usr keep_State_capTest]
grind_pattern keep_State_capBaseAll => Keep W z a2, State.capBaseAll a0 a1 a2

theorem keep_State_capRelayTest [Lets W .irq] [Lets W .cap] [Lets W .work] {a0 a1 a2} (ha2 : Keep W z a2) :
    Keep W z (State.capRelayTest a0 a1 a2) := by
  unfold State.capRelayTest
  grind only [usr keep_rest, usr keep_foldl, usr keep_State_levelSample]
grind_pattern keep_State_capRelayTest => Keep W z a2, State.capRelayTest a0 a1 a2

theorem keep_State_seqAt [Lets W .cap] {a0 a1 a2} (ha2 : Keep W z a2) :
    Keep W z (State.seqAt a0 a1 a2) := by
  unfold State.seqAt
  grind only [usr keep_rest, usr keep_foldl, usr keep_State_setStream]
grind_pattern keep_State_seqAt => Keep W z a2, State.seqAt a0 a1 a2

theorem keep_State_capRelay [Lets W .irq] [Lets W .cap] [Lets W .work] [Lets W .freeCtr] {a0 a1 a2} (ha2 : Keep W z a2) :
    Keep W z (State.capRelay a0 a1 a2) := by
  unfold State.capRelay
  extract_lets +onlyGivenNames q data at0 r told skip body b1 mk sq g s1 s2 due trigs s3 s4 rest5 src5 s5
  have h1 : Keep W z s1 := by
    show Keep W z (if skip = 0 then a2 else _)
    split
    · exact ha2
    · exact keep_State_irqPost (keep_State_capStat (keepP_snd _ (keep_State_capProduce (keep_State_seqAt (keep_State_drawn ha2)))))
  clear_value s1
  have h2 : Keep W z s2 := by
    show Keep W z (if _ then _ else _)
    split
    · exact keep_State_capRelayTest h1
    · exact h1
  clear_value s2 trigs
  have h3 : Keep W z s3 := keep_foldl _ _ h2 fun t a ht => keep_State_capMark (keep_State_seqAt ht)
  clear_value s3
  have h4 : Keep W z s4 := keepP_snd _ (keep_State_capProduce (keep_State_seqAt h3))
  clear_value s4
  have h5 : Keep W z s5 := keep_State_setStream h4
  clear_value s5
  split
  · exact keep_State_capKeep h5
  · exact h5
grind_pattern keep_State_capRelay => Keep W z a2, State.capRelay a0 a1 a2

theorem keep_State_capFrame [Lets W .irq] [Lets W .cap] [Lets W .work] [Lets W .freeCtr] {a0 a1 a2} (ha2 : Keep W z a2) :
    Keep W z (State.capFrame a0 a1 a2) := by
  unfold State.capFrame
  grind only [usr keep_rest, usr keep_foldl, usr keep_State_capRelay, usr keep_State_holdEnd]
grind_pattern keep_State_capFrame => Keep W z a2, State.capFrame a0 a1 a2

theorem keep_State_capqRd [Lets W .regs] [Lets W .flt] [Lets W .irq] [Lets W .seat] [Lets W .cap] [Lets W .work] {a0 a1 a2 a3} (ha3 : Keep W z a3) :
    Keep W z (State.capqRd a0 a1 a2 a3) := by
  unfold State.capqRd
  grind only [usr keep_rest, usr keep_foldl, usr keep_State_stageFree, usr keep_State_seatLogEntry]
grind_pattern keep_State_capqRd => Keep W z a3, State.capqRd a0 a1 a2 a3

end Sys2Proof.Laws
end

