-- ==== Sys2Proof/Laws/KeepCapture.lean ====
section
/-! SUPPORT. What the operations of Machine/Capture keep (see Laws/Keep). -/

set_option Elab.async false
namespace Sys2Proof.Laws
open Sys2Proof.Machine
variable {W : Part → Prop} {z : State}

theorem keep_execCapCmdArm [Lets W .regs] [Lets W .pw] [Lets W .flt] [Lets W .irq] [Lets W .seat] [Lets W .pair] [Lets W .cap] [Lets W .work] [Lets W .out] {a0 a1 a2} (ha2 : Keep W z a2) :
    KeepR W z (execCapCmdArm a0 a1 a2) := by
  unfold execCapCmdArm
  grind only [= keepE_ok, = keepE_error, = keepR_next, = keepR_fault, = keepR_refused, usr keep_rest, usr keep_foldl, keep_State_guardedValue, usr keep_State_applyCapCmd]
grind_pattern keep_execCapCmdArm => Keep W z a2, execCapCmdArm a0 a1 a2

theorem keep_execCapCmdForce [Lets W .regs] [Lets W .pw] [Lets W .flt] [Lets W .irq] [Lets W .seat] [Lets W .pair] [Lets W .cap] [Lets W .work] [Lets W .out] {a0 a1 a2} (ha2 : Keep W z a2) :
    KeepR W z (execCapCmdForce a0 a1 a2) := by
  unfold execCapCmdForce
  grind only [= keepE_ok, = keepE_error, = keepR_next, = keepR_fault, = keepR_refused, usr keep_rest, usr keep_foldl, keep_State_guardedValue, usr keep_State_applyCapCmd]
grind_pattern keep_execCapCmdForce => Keep W z a2, execCapCmdForce a0 a1 a2

theorem keep_execCapCmdStart [Lets W .regs] [Lets W .pw] [Lets W .flt] [Lets W .irq] [Lets W .seat] [Lets W .pair] [Lets W .cap] [Lets W .work] [Lets W .out] {a0 a1 a2} (ha2 : Keep W z a2) :
    KeepR W z (execCapCmdStart a0 a1 a2) := by
  unfold execCapCmdStart
  grind only [= keepE_ok, = keepE_error, = keepR_next, = keepR_fault, = keepR_refused, usr keep_rest, usr keep_foldl, keep_State_guardedValue, usr keep_State_applyCapCmd]
grind_pattern keep_execCapCmdStart => Keep W z a2, execCapCmdStart a0 a1 a2

theorem keep_execCapCmdStop [Lets W .regs] [Lets W .pw] [Lets W .flt] [Lets W .irq] [Lets W .seat] [Lets W .pair] [Lets W .cap] [Lets W .work] [Lets W .out] {a0 a1 a2} (ha2 : Keep W z a2) :
    KeepR W z (execCapCmdStop a0 a1 a2) := by
  unfold execCapCmdStop
  grind only [= keepE_ok, = keepE_error, = keepR_next, = keepR_fault, = keepR_refused, usr keep_rest, usr keep_foldl, keep_State_guardedValue, usr keep_State_applyCapCmd]
grind_pattern keep_execCapCmdStop => Keep W z a2, execCapCmdStop a0 a1 a2

theorem keep_execCapqRdWrite [Lets W .regs] [Lets W .flt] [Lets W .irq] [Lets W .seat] [Lets W .cap] [Lets W .work] {a0 a1 a2 a3} (ha3 : Keep W z a3) :
    KeepR W z (execCapqRdWrite a0 a1 a2 a3) := by
  unfold execCapqRdWrite
  grind only [= keepR_next, = keepR_fault, = keepR_refused, usr keep_rest, usr keep_foldl, usr keep_State_capqRd]
grind_pattern keep_execCapqRdWrite => Keep W z a3, execCapqRdWrite a0 a1 a2 a3

theorem keep_execCaptureBaseSample [Lets W .objs] [Lets W .regs] [Lets W .tm] [Lets W .flt] [Lets W .irq] [Lets W .pwm] [Lets W .bat] [Lets W .loop] [Lets W .cap] [Lets W .work] [Lets W .freeCtr] {a0 a1} (ha1 : Keep W z a1) :
    KeepR W z (execCaptureBaseSample a0 a1) := by
  unfold execCaptureBaseSample
  grind only [= keepR_next, = keepR_fault, = keepR_refused, usr keep_rest, usr keep_foldl, usr keep_State_loopTo0, usr keep_State_capTest, usr keep_State_capBase, usr keep_State_setStream]
grind_pattern keep_execCaptureBaseSample => Keep W z a1, execCaptureBaseSample a0 a1

theorem keep_execCaptureFrame [Lets W .objs] [Lets W .regs] [Lets W .flt] [Lets W .irq] [Lets W .ring] [Lets W .xl] [Lets W .cap] [Lets W .work] [Lets W .freeCtr] [Lets W .out] {a0 a1 a2 a3} (ha3 : Keep W z a3) :
    KeepR W z (execCaptureFrame a0 a1 a2 a3) := by
  unfold execCaptureFrame
  grind only [= keepR_next, = keepR_fault, = keepR_refused, usr keep_rest, usr keep_foldl, keep_State_rxTyped, usr keep_State_capFrame]
grind_pattern keep_execCaptureFrame => Keep W z a3, execCaptureFrame a0 a1 a2 a3

theorem keep_execCaptureHoldoffExpiry [Lets W .tm] [Lets W .cap] {a0 a1} (ha1 : Keep W z a1) :
    KeepR W z (execCaptureHoldoffExpiry a0 a1) := by
  unfold execCaptureHoldoffExpiry
  grind only [= keepR_next, = keepR_fault, = keepR_refused, usr keep_rest, usr keep_foldl, usr keep_State_toTb2, usr keep_State_holdEnd]
grind_pattern keep_execCaptureHoldoffExpiry => Keep W z a1, execCaptureHoldoffExpiry a0 a1

theorem keep_execCaptureTrigger [Lets W .irq] [Lets W .cap] [Lets W .work] {a0 a1} (ha1 : Keep W z a1) :
    KeepR W z (execCaptureTrigger a0 a1) := by
  unfold execCaptureTrigger
  grind only [= keepR_next, = keepR_fault, = keepR_refused, usr keep_rest, usr keep_foldl, usr keep_State_capTrigger]
grind_pattern keep_execCaptureTrigger => Keep W z a1, execCaptureTrigger a0 a1

theorem keep_execWinReleaseWrite [Lets W .regs] [Lets W .pw] [Lets W .flt] [Lets W .irq] [Lets W .seat] [Lets W .pair] [Lets W .cap] [Lets W .work] [Lets W .out] {a0 a1 a2} (ha2 : Keep W z a2) :
    KeepR W z (execWinReleaseWrite a0 a1 a2) := by
  unfold execWinReleaseWrite
  grind only [= keepE_ok, = keepE_error, = keepR_next, = keepR_fault, = keepR_refused, usr keep_rest, usr keep_foldl, keep_State_guardedValue, usr keep_State_applyWinRelease]
grind_pattern keep_execWinReleaseWrite => Keep W z a2, execWinReleaseWrite a0 a1 a2

end Sys2Proof.Laws
end

