-- ==== Sys2Proof/Laws/KeepSieveOps.lean ====
section
/-! SUPPORT. What the operations of Machine/SieveOps keep (see Laws/Keep). -/

set_option Elab.async false
namespace Sys2Proof.Laws
open Sys2Proof.Machine
variable {W : Part → Prop} {z : State}

theorem keep_State_setArmMod [Lets W .mod] {a0 a1 a2} (ha2 : Keep W z a2) :
    Keep W z (State.setArmMod a0 a1 a2) := by
  unfold State.setArmMod
  grind only [usr keep_rest, usr keep_foldl, usr keep_State_modSet]
grind_pattern keep_State_setArmMod => Keep W z a2, State.setArmMod a0 a1 a2

theorem keep_State_applyKeyGate [Lets W .objs] [Lets W .mod] {a0 a1 a2} (ha2 : Keep W z a2) :
    KeepE W z (State.applyKeyGate a0 a1 a2) := by
  unfold State.applyKeyGate
  grind only [= keepE_ok, = keepE_error, usr keep_rest, usr keep_foldl, usr keep_State_setArmMod, usr keep_State_oset]
grind_pattern keep_State_applyKeyGate => Keep W z a2, State.applyKeyGate a0 a1 a2

theorem keep_State_applyOrderHold [Lets W .objs] [Lets W .mod] {a0 a1 a2} (ha2 : Keep W z a2) :
    KeepE W z (State.applyOrderHold a0 a1 a2) := by
  unfold State.applyOrderHold
  grind only [= keepE_ok, = keepE_error, usr keep_rest, usr keep_foldl, usr keep_State_setArmMod, usr keep_State_oset]
grind_pattern keep_State_applyOrderHold => Keep W z a2, State.applyOrderHold a0 a1 a2

theorem keep_State_applySortCmd [Lets W .mod] {a0 a1 a2} (ha2 : Keep W z a2) :
    KeepE W z (State.applySortCmd a0 a1 a2) := by
  unfold State.applySortCmd
  grind only [= keepE_ok, = keepE_error, usr keep_rest, usr keep_foldl, usr keep_State_setArmMod]
grind_pattern keep_State_applySortCmd => Keep W z a2, State.applySortCmd a0 a1 a2

theorem keep_State_setWofs [Lets W .doms] {a0 a1 a2} (ha2 : Keep W z a2) :
    Keep W z (State.setWofs a0 a1 a2) := by
  unfold State.setWofs
  grind only [usr keep_rest, usr keep_foldl, usr keep_State_dset]
grind_pattern keep_State_setWofs => Keep W z a2, State.setWofs a0 a1 a2

theorem keep_State_setSvCell [Lets W .mod] {a0 a1 a2} (ha2 : Keep W z a2) :
    Keep W z (State.setSvCell a0 a1 a2) := by
  unfold State.setSvCell
  grind only [usr keep_rest, usr keep_foldl, usr keep_State_modSet]
grind_pattern keep_State_setSvCell => Keep W z a2, State.setSvCell a0 a1 a2

theorem keep_State_svIntake [Lets W .objs] [Lets W .mod] {a0 a1 a2} (ha2 : Keep W z a2) :
    Keep W z (State.svIntake a0 a1 a2) := by
  unfold State.svIntake
  grind only [usr keep_rest, usr keep_foldl, usr keep_State_setSvCell, usr keep_State_bump]
grind_pattern keep_State_svIntake => Keep W z a2, State.svIntake a0 a1 a2

theorem keep_State_sieveRun [Lets W .objs] [Lets W .doms] [Lets W .irq] [Lets W .mod] {a0 a1} (ha1 : Keep W z a1) :
    Keep W z (State.sieveRun a0 a1) := by
  unfold State.sieveRun
  try dsimp only
  repeat' (first | with_reducible assumption | with_reducible exact True.intro | intro _ | with_reducible apply keep_State_bump | with_reducible apply keep_State_svIntake | with_reducible apply keep_State_modSet | with_reducible apply keep_State_setWofs | with_reducible apply keep_State_irqPost | with_reducible apply keep_State_oset | with_reducible apply keep_State_setArmMod | with_reducible apply keep_ite | with_reducible apply keep_foldl | (simp only [keepE_ok, keepE_error, keepR_next, keepR_fault, keepR_refused, keepP_mk, keepP2_mk, keepP3_mk, keepO_some, keepO_none, keepO2_some, keepO2_none]) | split)
grind_pattern keep_State_sieveRun => Keep W z a1, State.sieveRun a0 a1

end Sys2Proof.Laws
end

