-- ==== Sys2Proof/Laws/KeepModOps.lean ====
section
/-! SUPPORT. What the operations of Machine/ModOps keep (see Laws/Keep). -/

set_option Elab.async false
namespace Sys2Proof.Laws
open Sys2Proof.Machine
variable {W : Part → Prop} {z : State}

theorem keep_State_applyModMode [Lets W .objs] {a0 a1 a2} (ha2 : Keep W z a2) :
    KeepE W z (State.applyModMode a0 a1 a2) := by
  unfold State.applyModMode
  grind only [= keepE_ok, = keepE_error, usr keep_rest, usr keep_foldl, usr keep_State_oset]
grind_pattern keep_State_applyModMode => Keep W z a2, State.applyModMode a0 a1 a2

theorem keep_State_traceRecord [Lets W .doms] {a0 a1} (ha1 : Keep W z a1) :
    Keep W z (State.traceRecord a0 a1) := by
  unfold State.traceRecord
  grind only [usr keep_rest, usr keep_foldl, usr keep_State_dset]
grind_pattern keep_State_traceRecord => Keep W z a1, State.traceRecord a0 a1

theorem keep_State_aggregate [Lets W .loop] {a0 a1 a2} (ha2 : Keep W z a2) :
    Keep W z (State.aggregate a0 a1 a2) := by
  unfold State.aggregate
  grind only [usr keep_rest, usr keep_foldl, usr keep_State_setArm]
grind_pattern keep_State_aggregate => Keep W z a2, State.aggregate a0 a1 a2

theorem keep_State_cellFaults [Lets W .regs] [Lets W .flt] [Lets W .irq] [Lets W .ring] [Lets W .cap] [Lets W .work] {a0 a1} (ha1 : Keep W z a1) :
    Keep W z (State.cellFaults a0 a1) := by
  unfold State.cellFaults
  grind only [usr keep_rest, usr keep_foldl, usr keep_State_raiseIf, usr keep_State_setCellRec, usr keep_State_release]
grind_pattern keep_State_cellFaults => Keep W z a1, State.cellFaults a0 a1

theorem keep_State_modPrepare [Lets W .objs] [Lets W .regs] [Lets W .flt] [Lets W .irq] [Lets W .ring] [Lets W .loop] [Lets W .cap] [Lets W .mod] [Lets W .work] {a0 a1} (ha1 : Keep W z a1) :
    Keep W z (State.modPrepare a0 a1) := by
  unfold State.modPrepare
  grind only [usr keep_rest, usr keep_foldl, usr keep_State_addTo, usr keep_State_cellFaults, usr keep_State_setArmMod, usr keep_State_oset, usr keep_State_raiseIf, usr keep_State_aggregate]
grind_pattern keep_State_modPrepare => Keep W z a1, State.modPrepare a0 a1

theorem keep_State_powerShares [Lets W .objs] [Lets W .irq] {a0 a1} (ha1 : Keep W z a1) :
    KeepP W z (State.powerShares a0 a1) := by
  unfold State.powerShares
  grind only [= keepP_mk, → keepP_snd, ← keep_foldlP, usr keep_rest, usr keep_foldl, usr keep_State_irqPost, usr keep_State_oset]
grind_pattern keep_State_powerShares => Keep W z a1, State.powerShares a0 a1

theorem keep_State_setModCell [Lets W .mod] {a0 a1 a2} (ha2 : Keep W z a2) :
    Keep W z (State.setModCell a0 a1 a2) := by
  unfold State.setModCell
  grind only [usr keep_rest, usr keep_foldl, usr keep_State_modSet]
grind_pattern keep_State_setModCell => Keep W z a2, State.setModCell a0 a1 a2

theorem keep_State_setSched [Lets W .mod] {a0 a1 a2} (ha2 : Keep W z a2) :
    Keep W z (State.setSched a0 a1 a2) := by
  unfold State.setSched
  grind only [usr keep_rest, usr keep_foldl, usr keep_State_modSet]
grind_pattern keep_State_setSched => Keep W z a2, State.setSched a0 a1 a2

theorem keep_State_modulate [Lets W .objs] [Lets W .regs] [Lets W .flt] [Lets W .irq] [Lets W .cap] [Lets W .mod] [Lets W .work] {a0 a1} (ha1 : Keep W z a1) :
    Keep W z (State.modulate a0 a1) := by
  unfold State.modulate
  grind [= keepP_mk, → keepP_snd, ← keep_foldlP, keep_foldl, keep_State_powerShares, keep_State_setSched, keep_State_setModCell, keep_State_oset, keep_State_bump, keep_State_irqPost, keep_State_raiseIf, = keepE_ok, = keepE_error, = keepR_next, = keepR_fault, = keepR_refused, = keepP2_mk, → keepP2_snd, = keepP3_mk, → keepP3_snd, = keepO_some, = keepO_none, = keepO2_some, = keepO2_none]
grind_pattern keep_State_modulate => Keep W z a1, State.modulate a0 a1

end Sys2Proof.Laws
end

