-- ==== Sys2Proof/Laws/KeepPipeOps.lean ====
section
/-! SUPPORT. What the operations of Machine/PipeOps keep (see Laws/Keep). -/

set_option Elab.async false
namespace Sys2Proof.Laws
open Sys2Proof.Machine
variable {W : Part → Prop} {z : State}

theorem keep_State_pipeMargins [Lets W .objs] [Lets W .regs] [Lets W .flt] [Lets W .irq] [Lets W .ring] [Lets W .cap] [Lets W .work] {a0 a1} (ha1 : Keep W z a1) :
    Keep W z (State.pipeMargins a0 a1) := by
  unfold State.pipeMargins
  grind only [usr keep_rest, usr keep_foldl, usr keep_State_raiseIf, usr keep_State_oset, usr keep_State_irqPost, usr keep_State_setRing]
grind_pattern keep_State_pipeMargins => Keep W z a1, State.pipeMargins a0 a1

theorem keep_State_setCutoff [Lets W .objs] {a0 a1} (ha1 : Keep W z a1) :
    Keep W z (State.setCutoff a0 a1) := by
  unfold State.setCutoff
  grind only [usr keep_rest, usr keep_foldl, usr keep_State_oset]
grind_pattern keep_State_setCutoff => Keep W z a1, State.setCutoff a0 a1

end Sys2Proof.Laws
end

