-- ==== Sys2Proof/Laws/KeepIrqOps.lean ====
section
/-! SUPPORT. What the operations of Machine/IrqOps keep (see Laws/Keep). -/

set_option Elab.async false
namespace Sys2Proof.Laws
open Sys2Proof.Machine
variable {W : Part → Prop} {z : State}

theorem keep_State_dspDiscard [Lets W .dsp] {a0 a1} (ha1 : Keep W z a1) :
    Keep W z (State.dspDiscard a0 a1) := by
  unfold State.dspDiscard
  grind only [usr keep_rest, usr keep_foldl, usr keep_State_setFlow, usr keep_State_loadTick, usr keep_State_setQueue, usr keep_State_setDelayList]
grind_pattern keep_State_dspDiscard => Keep W z a1, State.dspDiscard a0 a1

theorem keep_State_dspPurge [Lets W .dsp] {a0 a1} (ha1 : Keep W z a1) :
    Keep W z (State.dspPurge a0 a1) := by
  unfold State.dspPurge
  grind only [usr keep_rest, usr keep_foldl, usr keep_State_dspSet]
grind_pattern keep_State_dspPurge => Keep W z a1, State.dspPurge a0 a1

theorem keep_State_dspReturn [Lets W .regs] [Lets W .irq] [Lets W .dsp] {a0 a1} (ha1 : Keep W z a1) :
    Keep W z (State.dspReturn a0 a1) := by
  unfold State.dspReturn
  grind only [usr keep_rest, usr keep_foldl, usr keep_State_depthRise, usr keep_State_setFlow, usr keep_State_loadTick, usr keep_State_setQueue]
grind_pattern keep_State_dspReturn => Keep W z a1, State.dspReturn a0 a1

theorem keep_State_dspCmdBy [Lets W .regs] [Lets W .irq] [Lets W .dsp] {a0 a1 a2} (ha2 : Keep W z a2) :
    Keep W z (State.dspCmdBy a0 a1 a2) := by
  unfold State.dspCmdBy
  grind only [usr keep_rest, usr keep_foldl, usr keep_State_dspReturn, usr keep_State_dspDiscard, usr keep_State_dspPurge]
grind_pattern keep_State_dspCmdBy => Keep W z a2, State.dspCmdBy a0 a1 a2

theorem keep_State_applyDspCmd [Lets W .regs] [Lets W .irq] [Lets W .dsp] {a0 a1 a2} (ha2 : Keep W z a2) :
    KeepE W z (State.applyDspCmd a0 a1 a2) := by
  unfold State.applyDspCmd
  grind only [= keepE_ok, = keepE_error, usr keep_rest, usr keep_foldl, usr keep_State_dspCmdBy]
grind_pattern keep_State_applyDspCmd => Keep W z a2, State.applyDspCmd a0 a1 a2

theorem keep_State_applyDspWm [Lets W .objs] {a0 a1 a2 a3 a4} (ha4 : Keep W z a4) :
    KeepE W z (State.applyDspWm a0 a1 a2 a3 a4) := by
  unfold State.applyDspWm
  grind only [= keepE_ok, = keepE_error, usr keep_rest, usr keep_foldl, usr keep_State_plainWrite]
grind_pattern keep_State_applyDspWm => Keep W z a4, State.applyDspWm a0 a1 a2 a3 a4

theorem keep_State_applyIrqDmode [Lets W .objs] {a0 a1 a2} (ha2 : Keep W z a2) :
    KeepE W z (State.applyIrqDmode a0 a1 a2) := by
  unfold State.applyIrqDmode
  grind only [= keepE_ok, = keepE_error, usr keep_rest, usr keep_foldl, usr keep_State_oset]
grind_pattern keep_State_applyIrqDmode => Keep W z a2, State.applyIrqDmode a0 a1 a2

theorem keep_State_applyIrqFallback [Lets W .objs] [Lets W .irq] {a0 a1 a2} (ha2 : Keep W z a2) :
    KeepE W z (State.applyIrqFallback a0 a1 a2) := by
  unfold State.applyIrqFallback
  grind only [= keepE_ok, = keepE_error, usr keep_rest, usr keep_foldl, usr keep_State_withdraw, usr keep_State_oset]
grind_pattern keep_State_applyIrqFallback => Keep W z a2, State.applyIrqFallback a0 a1 a2

theorem keep_State_applyIrqFlow [Lets W .objs] {a0 a1 a2} (ha2 : Keep W z a2) :
    KeepE W z (State.applyIrqFlow a0 a1 a2) := by
  unfold State.applyIrqFlow
  grind only [= keepE_ok, = keepE_error, usr keep_rest, usr keep_foldl, usr keep_State_oset]
grind_pattern keep_State_applyIrqFlow => Keep W z a2, State.applyIrqFlow a0 a1 a2

theorem keep_State_applyIrqRoute [Lets W .objs] [Lets W .irq] {a0 a1 a2 a3} (ha3 : Keep W z a3) :
    KeepE W z (State.applyIrqRoute a0 a1 a2 a3) := by
  unfold State.applyIrqRoute
  grind only [= keepE_ok, = keepE_error, usr keep_rest, usr keep_foldl, usr keep_State_withdraw, usr keep_State_oset]
grind_pattern keep_State_applyIrqRoute => Keep W z a3, State.applyIrqRoute a0 a1 a2 a3

theorem keep_State_applyIrqVlogCmd [Lets W .regs] [Lets W .flt] [Lets W .irq] [Lets W .cap] [Lets W .work] {a0 a1} (ha1 : Keep W z a1) :
    KeepE W z (State.applyIrqVlogCmd a0 a1) := by
  unfold State.applyIrqVlogCmd
  grind only [= keepE_ok, = keepE_error, usr keep_rest, usr keep_foldl, usr keep_State_rateCheck, usr keep_State_irqSet]
grind_pattern keep_State_applyIrqVlogCmd => Keep W z a1, State.applyIrqVlogCmd a0 a1

theorem keep_State_dspDoneBy [Lets W .regs] [Lets W .flt] [Lets W .irq] [Lets W .dsp] [Lets W .cap] [Lets W .work] {a0 a1 a2} (ha2 : Keep W z a2) :
    Keep W z (State.dspDoneBy a0 a1 a2) := by
  unfold State.dspDoneBy
  grind only [usr keep_rest, usr keep_foldl, usr keep_State_endItem, usr keep_State_evt, usr keep_State_irqLog]
grind_pattern keep_State_dspDoneBy => Keep W z a2, State.dspDoneBy a0 a1 a2

theorem keep_State_eoi [Lets W .regs] [Lets W .flt] [Lets W .irq] [Lets W .cap] [Lets W .work] {a0 a1 a2} (ha2 : Keep W z a2) :
    Keep W z (State.eoi a0 a1 a2) := by
  unfold State.eoi
  grind only [usr keep_rest, usr keep_foldl, usr keep_State_completeGroup, usr keep_State_irqLog]
grind_pattern keep_State_eoi => Keep W z a2, State.eoi a0 a1 a2

theorem keep_State_irqEach {a0 a1 a2 a3 a4 a5} (ha4 : ∀ x0 x1, Keep W z x1 → Keep W z (a4 x0 x1)) (ha5 : Keep W z a5) :
    Keep W z (State.irqEach a0 a1 a2 a3 a4 a5) := by
  unfold State.irqEach
  grind only [usr keep_rest, usr keep_foldl]

theorem keep_State_irqEnRaw [Lets W .irq] {a0 a1 a2 a3} (ha3 : Keep W z a3) :
    Keep W z (State.irqEnRaw a0 a1 a2 a3) := by
  unfold State.irqEnRaw
  grind only [usr keep_rest, usr keep_foldl, keep_State_irqEach, usr keep_State_irqDisable, usr keep_State_irqEnable]
grind_pattern keep_State_irqEnRaw => Keep W z a3, State.irqEnRaw a0 a1 a2 a3

theorem keep_State_dspPushBy [Lets W .regs] [Lets W .flt] [Lets W .irq] [Lets W .dsp] [Lets W .cap] [Lets W .work] [Lets W .freeCtr] {a0 a1 a2 a3 a4 a5 a6 a7 a8} (ha8 : Keep W z a8) :
    Keep W z (State.dspPushBy a0 a1 a2 a3 a4 a5 a6 a7 a8) := by
  unfold State.dspPushBy
  grind only [= keepP_mk, → keepP_snd, ← keep_foldlP, usr keep_rest, usr keep_foldl, usr keep_State_push, usr keep_State_setDspPath]
grind_pattern keep_State_dspPushBy => Keep W z a8, State.dspPushBy a0 a1 a2 a3 a4 a5 a6 a7 a8

theorem keep_State_dspPushBody [Lets W .regs] [Lets W .flt] [Lets W .irq] [Lets W .dsp] [Lets W .cap] [Lets W .work] [Lets W .freeCtr] {a0 a1 a2} (ha2 : Keep W z a2) :
    Keep W z (State.dspPushBody a0 a1 a2) := by
  unfold State.dspPushBody
  grind only [usr keep_rest, usr keep_foldl, usr keep_State_dspPushBy]
grind_pattern keep_State_dspPushBody => Keep W z a2, State.dspPushBody a0 a1 a2

theorem keep_State_applyDspPush [Lets W .regs] [Lets W .flt] [Lets W .irq] [Lets W .dsp] [Lets W .cap] [Lets W .work] [Lets W .freeCtr] {a0 a1 a2} (ha2 : Keep W z a2) :
    KeepE W z (State.applyDspPush a0 a1 a2) := by
  unfold State.applyDspPush
  grind only [= keepE_ok, = keepE_error, usr keep_rest, usr keep_foldl, usr keep_State_dspPushBody]
grind_pattern keep_State_applyDspPush => Keep W z a2, State.applyDspPush a0 a1 a2

theorem keep_State_hopEmit [Lets W .seat] [Lets W .out] {a0 a1 a2 a3} (ha3 : Keep W z a3) :
    Keep W z (State.hopEmit a0 a1 a2 a3) := by
  unfold State.hopEmit
  grind only [usr keep_rest, usr keep_foldl, usr keep_State_emit]
grind_pattern keep_State_hopEmit => Keep W z a3, State.hopEmit a0 a1 a2 a3

theorem keep_State_setSession [Lets W .seat] {a0 a1 a2} (ha2 : Keep W z a2) :
    Keep W z (State.setSession a0 a1 a2) := by
  unfold State.setSession
  grind only [usr keep_rest, usr keep_foldl, usr keep_State_seatSet]
grind_pattern keep_State_setSession => Keep W z a2, State.setSession a0 a1 a2

theorem keep_State_hopPush [Lets W .seat] [Lets W .out] {a0 a1 a2 a3} (ha3 : Keep W z a3) :
    Keep W z (State.hopPush a0 a1 a2 a3) := by
  unfold State.hopPush
  grind only [usr keep_rest, usr keep_foldl, usr keep_State_setSession, usr keep_State_hopEmit]
grind_pattern keep_State_hopPush => Keep W z a3, State.hopPush a0 a1 a2 a3

theorem keep_State_hopNotify [Lets W .seat] [Lets W .out] {a0 a1} (ha1 : Keep W z a1) :
    Keep W z (State.hopNotify a0 a1) := by
  unfold State.hopNotify
  grind only [usr keep_rest, usr keep_foldl, usr keep_State_hopPush]
grind_pattern keep_State_hopNotify => Keep W z a1, State.hopNotify a0 a1

theorem keep_State_msix [Lets W .irq] [Lets W .out] {a0 a1} (ha1 : Keep W z a1) :
    Keep W z (State.msix a0 a1) := by
  unfold State.msix
  grind only [usr keep_rest, usr keep_foldl, usr keep_State_irqSet, usr keep_State_emit]
grind_pattern keep_State_msix => Keep W z a1, State.msix a0 a1

theorem keep_State_deliver [Lets W .regs] [Lets W .irq] [Lets W .dsp] [Lets W .seat] [Lets W .work] [Lets W .freeCtr] [Lets W .out] {a0 a1 a2} (ha2 : Keep W z a2) :
    Keep W z (State.deliver a0 a1 a2) := by
  unfold State.deliver
  grind only [usr keep_rest, usr keep_foldl, usr keep_State_claimGroup, usr keep_State_setGrp, usr keep_State_enqueue, usr keep_State_msix, usr keep_State_hopNotify]
grind_pattern keep_State_deliver => Keep W z a2, State.deliver a0 a1 a2

theorem keep_State_dropStale [Lets W .irq] {a0} (ha0 : Keep W z a0) :
    Keep W z (State.dropStale a0) := by
  unfold State.dropStale
  grind only [usr keep_rest, usr keep_foldl, usr keep_State_setGrp]
grind_pattern keep_State_dropStale => Keep W z a0, State.dropStale a0

theorem keep_State_arbitrate [Lets W .regs] [Lets W .irq] [Lets W .dsp] [Lets W .seat] [Lets W .work] [Lets W .freeCtr] [Lets W .out] {a0 a1} (ha1 : Keep W z a1) :
    Keep W z (State.arbitrate a0 a1) := by
  unfold State.arbitrate
  grind only [usr keep_rest, usr keep_foldl, usr keep_State_dropStale, usr keep_State_withdraw, usr keep_State_deliver]
grind_pattern keep_State_arbitrate => Keep W z a1, State.arbitrate a0 a1

theorem keep_State_claimFor [Lets W .regs] [Lets W .irq] [Lets W .dsp] [Lets W .seat] [Lets W .work] [Lets W .freeCtr] [Lets W .out] {a0 a1} (ha1 : Keep W z a1) :
    KeepP W z (State.claimFor a0 a1) := by
  unfold State.claimFor
  grind only [= keepP_mk, → keepP_snd, ← keep_foldlP, usr keep_rest, usr keep_foldl, usr keep_State_arbitrate, usr keep_State_claimGroup]
grind_pattern keep_State_claimFor => Keep W z a1, State.claimFor a0 a1

theorem keep_State_dspPopBy [Lets W .objs] [Lets W .regs] [Lets W .flt] [Lets W .irq] [Lets W .dsp] [Lets W .cap] [Lets W .work] [Lets W .freeCtr] {a0 a1 a2} (ha2 : Keep W z a2) :
    KeepP W z (State.dspPopBy a0 a1 a2) := by
  unfold State.dspPopBy
  have hp : KeepO W z (a2.popQueue (State.popQueueOf a0 a1)) := keep_State_popQueue ha2
  split
  · exact ha2
  · rename_i it s1 e
    rw [e] at hp
    have h1 : Keep W z s1 := hp
    have hx : Keep W z (s1.memLoad 5 it.word id (State.itemBytes it)).2.2 := keepP2_snd _ (keep_State_memLoad h1)
    exact keep_State_setDspPath (keep_State_setDspPath (keep_State_setDspPath hx))
grind_pattern keep_State_dspPopBy => Keep W z a2, State.dspPopBy a0 a1 a2

theorem keep_State_irqRawRead [Lets W .irq] {a0 a1 a2} (ha2 : Keep W z a2) :
    KeepP W z (State.irqRawRead a0 a1 a2) := by
  unfold State.irqRawRead
  grind only [= keepP_mk, → keepP_snd, ← keep_foldlP, usr keep_rest, usr keep_foldl, usr keep_State_irqSet]
grind_pattern keep_State_irqRawRead => Keep W z a2, State.irqRawRead a0 a1 a2

theorem keep_State_delayTick [Lets W .regs] [Lets W .tm] [Lets W .irq] [Lets W .dsp] [Lets W .work] [Lets W .freeCtr] {a0} (ha0 : Keep W z a0) :
    Keep W z (State.delayTick a0) := by
  unfold State.delayTick
  grind only [usr keep_rest, usr keep_foldl, usr keep_State_toTb2, usr keep_State_releaseList, usr keep_State_dspSet]
grind_pattern keep_State_delayTick => Keep W z a0, State.delayTick a0

theorem keep_State_regOrObj [Lets W .regs] [Lets W .pw] [Lets W .flt] [Lets W .irq] [Lets W .seat] [Lets W .pair] [Lets W .cap] [Lets W .work] [Lets W .out] {a0 a1 a2 a3 a4} (ha3 : ∀ x0, Keep W z x0 → Keep W z (a3 x0)) (ha4 : Keep W z a4) :
    Keep W z (State.regOrObj a0 a1 a2 a3 a4) := by
  unfold State.regOrObj
  grind only [= keepE_ok, = keepE_error, usr keep_rest, usr keep_foldl, keep_State_guardedWrite]

theorem keep_State_lstatRead [Lets W .dsp] {a0 a1} (ha1 : Keep W z a1) :
    KeepP W z (State.lstatRead a0 a1) := by
  unfold State.lstatRead
  grind only [= keepP_mk, → keepP_snd, ← keep_foldlP, usr keep_rest, usr keep_foldl, usr keep_State_dspSet]
grind_pattern keep_State_lstatRead => Keep W z a1, State.lstatRead a0 a1

theorem keep_State_regRead [Lets W .out] {a0 a1 a2} (ha1 : ∀ x0, Keep W z x0 → KeepP W z (a1 x0)) (ha2 : Keep W z a2) :
    Keep W z (State.regRead a0 a1 a2) := by
  unfold State.regRead
  grind only [= keepP_mk, → keepP_snd, ← keep_foldlP, usr keep_rest, usr keep_foldl, usr keep_State_emit]

theorem keep_State_mstatRead [Lets W .dsp] {a0} (ha0 : Keep W z a0) :
    KeepP W z (State.mstatRead a0) := by
  unfold State.mstatRead
  grind only [= keepP_mk, → keepP_snd, ← keep_foldlP, usr keep_rest, usr keep_foldl, usr keep_State_dspSet]
grind_pattern keep_State_mstatRead => Keep W z a0, State.mstatRead a0

theorem keep_State_qdepthRead [Lets W .dsp] {a0 a1} (ha1 : Keep W z a1) :
    KeepP W z (State.qdepthRead a0 a1) := by
  unfold State.qdepthRead
  grind only [= keepP_mk, → keepP_snd, ← keep_foldlP, usr keep_rest, usr keep_foldl, usr keep_State_setQueue]
grind_pattern keep_State_qdepthRead => Keep W z a1, State.qdepthRead a0 a1

theorem keep_State_qwaitRead [Lets W .dsp] {a0 a1} (ha1 : Keep W z a1) :
    KeepP W z (State.qwaitRead a0 a1) := by
  unfold State.qwaitRead
  grind only [= keepP_mk, → keepP_snd, ← keep_foldlP, usr keep_rest, usr keep_foldl, usr keep_State_setQueue]
grind_pattern keep_State_qwaitRead => Keep W z a1, State.qwaitRead a0 a1

theorem keep_State_irqClrBits [Lets W .irq] {a0 a1 a2 a3} (ha3 : Keep W z a3) :
    Keep W z (State.irqClrBits a0 a1 a2 a3) := by
  unfold State.irqClrBits
  grind only [usr keep_rest, usr keep_foldl, keep_State_irqEach, usr keep_State_irqDiscard]
grind_pattern keep_State_irqClrBits => Keep W z a3, State.irqClrBits a0 a1 a2 a3

theorem keep_State_irqEnclrBits [Lets W .irq] {a0 a1 a2 a3} (ha3 : Keep W z a3) :
    Keep W z (State.irqEnclrBits a0 a1 a2 a3) := by
  unfold State.irqEnclrBits
  grind only [usr keep_rest, usr keep_foldl, keep_State_irqEach, usr keep_State_irqDisable]
grind_pattern keep_State_irqEnclrBits => Keep W z a3, State.irqEnclrBits a0 a1 a2 a3

theorem keep_State_irqEnsetBits [Lets W .irq] {a0 a1 a2 a3} (ha3 : Keep W z a3) :
    Keep W z (State.irqEnsetBits a0 a1 a2 a3) := by
  unfold State.irqEnsetBits
  grind only [usr keep_rest, usr keep_foldl, keep_State_irqEach, usr keep_State_irqEnable]
grind_pattern keep_State_irqEnsetBits => Keep W z a3, State.irqEnsetBits a0 a1 a2 a3

theorem keep_State_irqPendRaw [Lets W .irq] {a0 a1 a2 a3} (ha3 : Keep W z a3) :
    Keep W z (State.irqPendRaw a0 a1 a2 a3) := by
  unfold State.irqPendRaw
  grind only [usr keep_rest, usr keep_foldl, usr keep_State_irqSet, keep_State_irqEach, usr keep_State_irqDiscard]
grind_pattern keep_State_irqPendRaw => Keep W z a3, State.irqPendRaw a0 a1 a2 a3

theorem keep_State_irqRouteWrite [Lets W .objs] [Lets W .regs] [Lets W .pw] [Lets W .flt] [Lets W .irq] [Lets W .seat] [Lets W .pair] [Lets W .cap] [Lets W .work] [Lets W .out] {a0 a1 a2 a3} (ha3 : Keep W z a3) :
    Keep W z (State.irqRouteWrite a0 a1 a2 a3) := by
  unfold State.irqRouteWrite
  grind [= keepE_ok, = keepE_error, keep_foldl, keep_State_guardedValue, keep_State_applyIrqRoute, keep_State_irqLog, = keepR_next, = keepR_fault, = keepR_refused, = keepP_mk, → keepP_snd, = keepP2_mk, → keepP2_snd, = keepP3_mk, → keepP3_snd, = keepO_some, = keepO_none, = keepO2_some, = keepO2_none]
grind_pattern keep_State_irqRouteWrite => Keep W z a3, State.irqRouteWrite a0 a1 a2 a3

theorem keep_State_irqSetBits [Lets W .irq] {a0 a1 a2 a3} (ha3 : Keep W z a3) :
    Keep W z (State.irqSetBits a0 a1 a2 a3) := by
  unfold State.irqSetBits
  grind only [usr keep_rest, usr keep_foldl, keep_State_irqEach, usr keep_State_irqEvent]
grind_pattern keep_State_irqSetBits => Keep W z a3, State.irqSetBits a0 a1 a2 a3

end Sys2Proof.Laws
end

