-- ==== Sys2Proof/Laws/KeepSlOps.lean ====
section
/-! SUPPORT. What the operations of Machine/SlOps keep (see Laws/Keep). -/

set_option Elab.async false
namespace Sys2Proof.Laws
open Sys2Proof.Machine
variable {W : Part → Prop} {z : State}

theorem keep_State_applyForceTable [Lets W .doms] [Lets W .sl] {a0 a1} (ha1 : Keep W z a1) :
    KeepE W z (State.applyForceTable a0 a1) := by
  unfold State.applyForceTable
  grind only [= keepE_ok, = keepE_error, usr keep_rest, usr keep_foldl, usr keep_State_slSet, usr keep_State_dset]
grind_pattern keep_State_applyForceTable => Keep W z a1, State.applyForceTable a0 a1

theorem keep_State_setStn [Lets W .sl] {a0 a1 a2} (ha0 : Keep W z a0) :
    Keep W z (State.setStn a0 a1 a2) := by
  unfold State.setStn
  grind only [usr keep_rest, usr keep_foldl, usr keep_State_slSet]
grind_pattern keep_State_setStn => Keep W z a0, State.setStn a0 a1 a2

theorem keep_State_slIrq [Lets W .irq] {a0 a1} (ha1 : Keep W z a1) :
    Keep W z (State.slIrq a0 a1) := by
  unfold State.slIrq
  grind only [usr keep_rest, usr keep_foldl, usr keep_State_irqPost]
grind_pattern keep_State_slIrq => Keep W z a1, State.slIrq a0 a1

theorem keep_State_modeAccept [Lets W .irq] [Lets W .sl] {a0 a1 a2 a3} (ha3 : Keep W z a3) :
    Keep W z (State.modeAccept a0 a1 a2 a3) := by
  unfold State.modeAccept
  grind only [usr keep_rest, usr keep_foldl, usr keep_State_setStn, usr keep_State_slIrq, usr keep_State_slSet]
grind_pattern keep_State_modeAccept => Keep W z a3, State.modeAccept a0 a1 a2 a3

theorem keep_State_applyModeReq [Lets W .doms] [Lets W .irq] [Lets W .sl] {a0 a1} (ha1 : Keep W z a1) :
    KeepE W z (State.applyModeReq a0 a1) := by
  unfold State.applyModeReq
  grind only [= keepE_ok, = keepE_error, usr keep_rest, usr keep_foldl, usr keep_State_modeAccept, usr keep_State_dset]
grind_pattern keep_State_applyModeReq => Keep W z a1, State.applyModeReq a0 a1

theorem keep_State_applyProfile [Lets W .doms] {a0 a1 a2 a3} (ha3 : Keep W z a3) :
    KeepE W z (State.applyProfile a0 a1 a2 a3) := by
  unfold State.applyProfile
  grind only [= keepE_ok, = keepE_error, usr keep_rest, usr keep_foldl, usr keep_State_dset]
grind_pattern keep_State_applyProfile => Keep W z a3, State.applyProfile a0 a1 a2 a3

theorem keep_State_applySlLoad [Lets W .sl] {a0 a1} (ha1 : Keep W z a1) :
    KeepE W z (State.applySlLoad a0 a1) := by
  unfold State.applySlLoad
  grind only [= keepE_ok, = keepE_error, usr keep_rest, usr keep_foldl, usr keep_State_slSet]
grind_pattern keep_State_applySlLoad => Keep W z a1, State.applySlLoad a0 a1

theorem keep_State_slPhase [Lets W .sl] {a0} (ha0 : Keep W z a0) :
    Keep W z (State.slPhase a0) := by
  unfold State.slPhase
  grind only [usr keep_rest, usr keep_foldl, usr keep_State_slSet]
grind_pattern keep_State_slPhase => Keep W z a0, State.slPhase a0

theorem keep_State_applyStations [Lets W .doms] [Lets W .flt] [Lets W .sl] {a0 a1} (ha1 : Keep W z a1) :
    KeepE W z (State.applyStations a0 a1) := by
  unfold State.applyStations
  grind only [= keepE_ok, = keepE_error, usr keep_rest, usr keep_foldl, usr keep_State_release, usr keep_State_setStn, usr keep_State_dset, usr keep_State_slSet, usr keep_State_slPhase]
grind_pattern keep_State_applyStations => Keep W z a1, State.applyStations a0 a1

theorem keep_State_applyModeLead [Lets W .objs] {a0 a1} (ha1 : Keep W z a1) :
    KeepE W z (State.applyModeLead a0 a1) := by
  unfold State.applyModeLead
  grind only [= keepE_ok, = keepE_error, usr keep_rest, usr keep_foldl, usr keep_State_oset]
grind_pattern keep_State_applyModeLead => Keep W z a1, State.applyModeLead a0 a1

theorem keep_State_applyReadmit [Lets W .sl] {a0 a1} (ha1 : Keep W z a1) :
    KeepE W z (State.applyReadmit a0 a1) := by
  unfold State.applyReadmit
  grind only [= keepE_ok, = keepE_error, usr keep_rest, usr keep_foldl, usr keep_State_setStn]
grind_pattern keep_State_applyReadmit => Keep W z a1, State.applyReadmit a0 a1

theorem keep_State_setChg [Lets W .irq] [Lets W .sl] {a0 a1} (ha1 : Keep W z a1) :
    Keep W z (State.setChg a0 a1) := by
  unfold State.setChg
  grind only [usr keep_rest, usr keep_foldl, usr keep_State_slIrq, usr keep_State_slSet]
grind_pattern keep_State_setChg => Keep W z a1, State.setChg a0 a1

theorem keep_State_applySlChange [Lets W .irq] [Lets W .sl] {a0 a1} (ha1 : Keep W z a1) :
    KeepE W z (State.applySlChange a0 a1) := by
  unfold State.applySlChange
  grind only [= keepE_ok, = keepE_error, usr keep_rest, usr keep_foldl, usr keep_State_setChg, usr keep_State_slSet]
grind_pattern keep_State_applySlChange => Keep W z a1, State.applySlChange a0 a1

theorem keep_State_clearMForces [Lets W .doms] [Lets W .sl] {a0} (ha0 : Keep W z a0) :
    Keep W z (State.clearMForces a0) := by
  unfold State.clearMForces
  grind only [usr keep_rest, usr keep_foldl, usr keep_State_slSet, usr keep_State_dset]
grind_pattern keep_State_clearMForces => Keep W z a0, State.clearMForces a0

theorem keep_State_slWrite [Lets W .pair] [Lets W .sl] {a0 a1 a2 a3} (ha3 : Keep W z a3) :
    Keep W z (State.slWrite a0 a1 a2 a3) := by
  unfold State.slWrite
  grind only [usr keep_rest, usr keep_foldl, usr keep_State_slSet, usr keep_State_pairSet]
grind_pattern keep_State_slWrite => Keep W z a3, State.slWrite a0 a1 a2 a3

theorem keep_State_slInit [Lets W .pair] [Lets W .sl] {a0 a1} (ha1 : Keep W z a1) :
    Keep W z (State.slInit a0 a1) := by
  unfold State.slInit
  grind only [usr keep_rest, usr keep_foldl, usr keep_State_slWrite]
grind_pattern keep_State_slInit => Keep W z a1, State.slInit a0 a1

theorem keep_State_slSwitch [Lets W .doms] [Lets W .pair] [Lets W .sl] {a0 a1 a2} (ha2 : Keep W z a2) :
    Keep W z (State.slSwitch a0 a1 a2) := by
  unfold State.slSwitch
  grind only [usr keep_rest, usr keep_foldl, usr keep_State_clearMForces, usr keep_State_slSet, usr keep_State_slInit]
grind_pattern keep_State_slSwitch => Keep W z a2, State.slSwitch a0 a1 a2

theorem keep_State_applySlCmd [Lets W .doms] [Lets W .pair] [Lets W .sl] {a0 a1} (ha1 : Keep W z a1) :
    KeepE W z (State.applySlCmd a0 a1) := by
  unfold State.applySlCmd
  grind only [= keepE_ok, = keepE_error, usr keep_rest, usr keep_foldl, usr keep_State_slSet, usr keep_State_slPhase, usr keep_State_slSwitch]
grind_pattern keep_State_applySlCmd => Keep W z a1, State.applySlCmd a0 a1

theorem keep_State_applySlCues [Lets W .objs] [Lets W .sl] {a0 a1} (ha1 : Keep W z a1) :
    KeepE W z (State.applySlCues a0 a1) := by
  unfold State.applySlCues
  grind only [= keepE_ok, = keepE_error, usr keep_rest, usr keep_foldl, usr keep_State_slPhase, usr keep_State_oset]
grind_pattern keep_State_applySlCues => Keep W z a1, State.applySlCues a0 a1

theorem keep_State_applyStnLost [Lets W .objs] {a0 a1} (ha1 : Keep W z a1) :
    KeepE W z (State.applyStnLost a0 a1) := by
  unfold State.applyStnLost
  grind only [= keepE_ok, = keepE_error, usr keep_rest, usr keep_foldl, usr keep_State_oset]
grind_pattern keep_State_applyStnLost => Keep W z a1, State.applyStnLost a0 a1

theorem keep_State_slStat [Lets W .sl] {a0 a1 a2} (ha2 : Keep W z a2) :
    Keep W z (State.slStat a0 a1 a2) := by
  unfold State.slStat
  grind only [usr keep_rest, usr keep_foldl, usr keep_State_slSet]
grind_pattern keep_State_slStat => Keep W z a2, State.slStat a0 a1 a2

theorem keep_State_stnResponse [Lets W .sl] {a0 a1 a2} (ha2 : Keep W z a2) :
    Keep W z (State.stnResponse a0 a1 a2) := by
  unfold State.stnResponse
  grind only [usr keep_rest, usr keep_foldl, usr keep_State_setStn, usr keep_State_slStat]
grind_pattern keep_State_stnResponse => Keep W z a2, State.stnResponse a0 a1 a2

theorem keep_State_setAcc [Lets W .sl] {a0 a1} (ha1 : Keep W z a1) :
    Keep W z (State.setAcc a0 a1) := by
  unfold State.setAcc
  grind only [usr keep_rest, usr keep_foldl, usr keep_State_slSet]
grind_pattern keep_State_setAcc => Keep W z a1, State.setAcc a0 a1

theorem keep_State_setRlo [Lets W .sl] {a0 a1} (ha1 : Keep W z a1) :
    Keep W z (State.setRlo a0 a1) := by
  unfold State.setRlo
  grind only [usr keep_rest, usr keep_foldl, usr keep_State_slSet]
grind_pattern keep_State_setRlo => Keep W z a1, State.setRlo a0 a1

theorem keep_State_slBegin [Lets W .objs] [Lets W .regs] [Lets W .tm] [Lets W .flt] [Lets W .irq] [Lets W .pwm] [Lets W .bat] [Lets W .loop] [Lets W .cap] [Lets W .work] {a0} (ha0 : Keep W z a0) :
    Keep W z (State.slBegin a0) := by
  unfold State.slBegin
  grind only [usr keep_rest, usr keep_foldl, usr keep_State_loopTo0]
grind_pattern keep_State_slBegin => Keep W z a0, State.slBegin a0

theorem keep_State_slStep [Lets W .objs] [Lets W .regs] [Lets W .tm] [Lets W .flt] [Lets W .irq] [Lets W .pwm] [Lets W .bat] [Lets W .loop] [Lets W .cap] [Lets W .sl] [Lets W .work] {a0 a1 a2} (ha2 : Keep W z a2) :
    Keep W z (State.slStep a0 a1 a2) := by
  unfold State.slStep
  grind only [usr keep_rest, usr keep_foldl, usr keep_State_elapse, usr keep_State_slSet, usr keep_State_slBegin]
grind_pattern keep_State_slStep => Keep W z a2, State.slStep a0 a1 a2

theorem keep_State_slNext [Lets W .objs] [Lets W .regs] [Lets W .tm] [Lets W .flt] [Lets W .irq] [Lets W .pwm] [Lets W .bat] [Lets W .loop] [Lets W .cap] [Lets W .sl] [Lets W .work] {a0 a1} (ha1 : Keep W z a1) :
    Keep W z (State.slNext a0 a1) := by
  unfold State.slNext
  grind only [usr keep_rest, usr keep_foldl, usr keep_State_slStep]
grind_pattern keep_State_slNext => Keep W z a1, State.slNext a0 a1

theorem keep_State_slSetBit [Lets W .pair] [Lets W .sl] {a0 a1 a2 a3} (ha3 : Keep W z a3) :
    Keep W z (State.slSetBit a0 a1 a2 a3) := by
  unfold State.slSetBit
  grind only [usr keep_rest, usr keep_foldl, usr keep_State_slWrite]
grind_pattern keep_State_slSetBit => Keep W z a3, State.slSetBit a0 a1 a2 a3

theorem keep_State_slAction [Lets W .objs] [Lets W .regs] [Lets W .tm] [Lets W .flt] [Lets W .irq] [Lets W .pair] [Lets W .pwm] [Lets W .bat] [Lets W .loop] [Lets W .cap] [Lets W .sl] [Lets W .work] {a0 a1 a2 a3} (ha3 : Keep W z a3) :
    Keep W z (State.slAction a0 a1 a2 a3) := by
  unfold State.slAction
  grind only [usr keep_rest, usr keep_foldl, usr keep_State_slNext, usr keep_State_setRlo, usr keep_State_slSetBit, usr keep_State_setAcc, usr keep_State_slWrite, usr keep_State_slStep, usr keep_State_slIrq, usr keep_State_slStat, usr keep_State_slSet]
grind_pattern keep_State_slAction => Keep W z a3, State.slAction a0 a1 a2 a3

theorem keep_State_slDo {a0 a1 a2 a3 a4} (ha3 : ∀ x0, Keep W z x0 → Keep W z (a3 x0)) (ha4 : Keep W z a4) :
    KeepR W z (State.slDo a0 a1 a2 a3 a4) := by
  unfold State.slDo
  grind only [= keepR_next, = keepR_fault, = keepR_refused, usr keep_rest, usr keep_foldl]

theorem keep_State_slOp [Lets W .objs] [Lets W .regs] [Lets W .tm] [Lets W .flt] [Lets W .irq] [Lets W .pair] [Lets W .pwm] [Lets W .bat] [Lets W .loop] [Lets W .cap] [Lets W .sl] [Lets W .work] {a0 a1 a2 a3} (ha3 : Keep W z a3) :
    KeepR W z (State.slOp a0 a1 a2 a3) := by
  unfold State.slOp
  grind only [= keepR_next, = keepR_fault, = keepR_refused, usr keep_rest, usr keep_foldl, keep_State_slDo, usr keep_State_slAction]
grind_pattern keep_State_slOp => Keep W z a3, State.slOp a0 a1 a2 a3

theorem keep_State_slArm [Lets W .doms] [Lets W .irq] [Lets W .pair] [Lets W .sl] {a0} (ha0 : Keep W z a0) :
    Keep W z (State.slArm a0) := by
  unfold State.slArm
  grind only [usr keep_rest, usr keep_foldl, usr keep_State_slSet, usr keep_State_setChg, usr keep_State_slSwitch]
grind_pattern keep_State_slArm => Keep W z a0, State.slArm a0

theorem keep_State_slVerify [Lets W .doms] [Lets W .irq] [Lets W .pair] [Lets W .sl] {a0} (ha0 : Keep W z a0) :
    Keep W z (State.slVerify a0) := by
  unfold State.slVerify
  grind only [usr keep_rest, usr keep_foldl, usr keep_State_setChg, usr keep_State_slSet, usr keep_State_slArm]
grind_pattern keep_State_slVerify => Keep W z a0, State.slVerify a0

theorem keep_State_slRunOne [Lets W .objs] [Lets W .regs] [Lets W .tm] [Lets W .flt] [Lets W .irq] [Lets W .pair] [Lets W .pwm] [Lets W .bat] [Lets W .loop] [Lets W .cap] [Lets W .sl] [Lets W .work] {a0} (ha0 : Keep W z a0) :
    Keep W z (State.slRunOne a0) := by
  unfold State.slRunOne
  grind [keep_foldl, keep_State_slOp, = keepE_ok, = keepE_error, = keepR_next, = keepR_fault, = keepR_refused, = keepP_mk, → keepP_snd, = keepP2_mk, → keepP2_snd, = keepP3_mk, → keepP3_snd, = keepO_some, = keepO_none, = keepO2_some, = keepO2_none]
grind_pattern keep_State_slRunOne => Keep W z a0, State.slRunOne a0

end Sys2Proof.Laws
end

