-- ==== Sys2Proof/Laws/KeepMemOps.lean ====
section
/-! SUPPORT. What the operations of Machine/MemOps keep (see Laws/Keep). -/

set_option Elab.async false
namespace Sys2Proof.Laws
open Sys2Proof.Machine
variable {W : Part → Prop} {z : State}

theorem keep_State_flashError [Lets W .objs] [Lets W .regs] [Lets W .flt] [Lets W .irq] [Lets W .cap] [Lets W .work] {a0 a1} (ha1 : Keep W z a1) :
    Keep W z (State.flashError a0 a1) := by
  unfold State.flashError
  grind only [usr keep_rest, usr keep_foldl, usr keep_State_irqPost, usr keep_State_pulse, usr keep_State_bump]
grind_pattern keep_State_flashError => Keep W z a1, State.flashError a0 a1

theorem keep_State_loadValue [Lets W .objs] [Lets W .doms] [Lets W .loop] [Lets W .sl] {a0 a1 a2} (ha2 : Keep W z a2) :
    Keep W z (State.loadValue a0 a1 a2) := by
  unfold State.loadValue
  grind only [usr keep_rest, usr keep_foldl, usr keep_State_slSet, usr keep_State_setCh, usr keep_State_dset, usr keep_State_oset]
grind_pattern keep_State_loadValue => Keep W z a2, State.loadValue a0 a1 a2

theorem keep_State_logWrite [Lets W .flt] {a0 a1} (ha1 : Keep W z a1) :
    Keep W z (State.logWrite a0 a1) := by
  unfold State.logWrite
  grind only [usr keep_rest, usr keep_foldl, usr keep_State_fltSet]
grind_pattern keep_State_logWrite => Keep W z a1, State.logWrite a0 a1

theorem keep_State_setUpd [Lets W .regs] [Lets W .pw] [Lets W .flt] [Lets W .irq] [Lets W .cap] [Lets W .work] [Lets W .mem] {a0 a1} (ha1 : Keep W z a1) :
    Keep W z (State.setUpd a0 a1) := by
  unfold State.setUpd
  grind only [usr keep_rest, usr keep_foldl, usr keep_State_irqPost, usr keep_State_logWrite, usr keep_State_memSet, usr keep_State_idleBreak, usr keep_State_pulse]
grind_pattern keep_State_setUpd => Keep W z a1, State.setUpd a0 a1

theorem keep_State_jadd [Lets W .mem] {a0 a1 a2 a3 a4 a5} (ha5 : Keep W z a5) :
    Keep W z (State.jadd a0 a1 a2 a3 a4 a5) := by
  unfold State.jadd
  grind only [usr keep_rest, usr keep_foldl, usr keep_State_memSet]
grind_pattern keep_State_jadd => Keep W z a5, State.jadd a0 a1 a2 a3 a4 a5

theorem keep_State_setImgSlot [Lets W .mem] {a0 a1 a2} (ha2 : Keep W z a2) :
    Keep W z (State.setImgSlot a0 a1 a2) := by
  unfold State.setImgSlot
  grind only [usr keep_rest, usr keep_foldl, usr keep_State_memSet]
grind_pattern keep_State_setImgSlot => Keep W z a2, State.setImgSlot a0 a1 a2

theorem keep_State_updDiscard [Lets W .mem] {a0} (ha0 : Keep W z a0) :
    Keep W z (State.updDiscard a0) := by
  unfold State.updDiscard
  grind only [usr keep_rest, usr keep_foldl, usr keep_State_jadd, usr keep_State_setImgSlot, usr keep_State_memSet]
grind_pattern keep_State_updDiscard => Keep W z a0, State.updDiscard a0

theorem keep_State_updStart [Lets W .regs] [Lets W .pw] [Lets W .flt] [Lets W .irq] [Lets W .cap] [Lets W .work] [Lets W .mem] {a0 a1} (ha1 : Keep W z a1) :
    Keep W z (State.updStart a0 a1) := by
  unfold State.updStart
  grind only [usr keep_rest, usr keep_foldl, usr keep_State_setImgSlot, usr keep_State_setUpd, usr keep_State_memSet, usr keep_State_jadd]
grind_pattern keep_State_updStart => Keep W z a1, State.updStart a0 a1

theorem keep_State_offer [Lets W .regs] [Lets W .pw] [Lets W .flt] [Lets W .irq] [Lets W .cap] [Lets W .work] [Lets W .mem] {a0 a1} (ha1 : Keep W z a1) :
    KeepP W z (State.offer a0 a1) := by
  unfold State.offer
  grind only [= keepP_mk, → keepP_snd, ← keep_foldlP, usr keep_rest, usr keep_foldl, usr keep_State_memSet, usr keep_State_updStart, usr keep_State_irqPost, usr keep_State_setUpd, usr keep_State_updDiscard]
grind_pattern keep_State_offer => Keep W z a1, State.offer a0 a1

theorem keep_State_updSeat [Lets W .regs] [Lets W .pw] [Lets W .flt] [Lets W .irq] [Lets W .cap] [Lets W .work] [Lets W .mem] {a0 a1 a2} (ha2 : Keep W z a2) :
    KeepE W z (State.updSeat a0 a1 a2) := by
  unfold State.updSeat
  grind only [= keepE_ok, = keepE_error, = keepP_mk, → keepP_snd, ← keep_foldlP, usr keep_rest, usr keep_foldl, usr keep_State_memSet, usr keep_State_memStore, usr keep_State_offer]
grind_pattern keep_State_updSeat => Keep W z a2, State.updSeat a0 a1 a2

theorem keep_State_applyUpdData [Lets W .regs] [Lets W .pw] [Lets W .flt] [Lets W .irq] [Lets W .cap] [Lets W .work] [Lets W .mem] {a0 a1} (ha1 : Keep W z a1) :
    KeepE W z (State.applyUpdData a0 a1) := by
  unfold State.applyUpdData
  grind only [= keepE_ok, = keepE_error, usr keep_rest, usr keep_foldl, usr keep_State_memSet, usr keep_State_memStore, usr keep_State_updSeat]
grind_pattern keep_State_applyUpdData => Keep W z a1, State.applyUpdData a0 a1

theorem keep_State_applyUpdCmd [Lets W .regs] [Lets W .pw] [Lets W .flt] [Lets W .irq] [Lets W .cap] [Lets W .work] [Lets W .mem] {a0 a1} (ha1 : Keep W z a1) :
    KeepE W z (State.applyUpdCmd a0 a1) := by
  unfold State.applyUpdCmd
  grind only [= keepE_ok, = keepE_error, usr keep_rest, usr keep_foldl, usr keep_State_setUpd, usr keep_State_jadd, usr keep_State_memSet, usr keep_State_updDiscard]
grind_pattern keep_State_applyUpdCmd => Keep W z a1, State.applyUpdCmd a0 a1

theorem keep_State_updRefused [Lets W .regs] [Lets W .pw] [Lets W .flt] [Lets W .irq] [Lets W .cap] [Lets W .work] [Lets W .mem] {a0 a1 a2} (ha2 : Keep W z a2) :
    Keep W z (State.updRefused a0 a1 a2) := by
  unfold State.updRefused
  grind only [= keepP_mk, → keepP_snd, ← keep_foldlP, usr keep_rest, usr keep_foldl, usr keep_State_offer]
grind_pattern keep_State_updRefused => Keep W z a2, State.updRefused a0 a1 a2

theorem keep_State_copyBlocks [Lets W .objs] [Lets W .regs] [Lets W .flt] [Lets W .irq] [Lets W .cap] [Lets W .work] [Lets W .mem] {a0 a1 a2 a3 a4 a5 a6} (ha6 : Keep W z a6) :
    KeepP2 W z (State.copyBlocks a0 a1 a2 a3 a4 a5 a6) := by
  induction a3 generalizing a4 a5 a6 with
  | zero => exact ha6
  | succ n ih =>
    unfold State.copyBlocks
    split
    · exact ha6
    · extract_lets +onlyGivenNames h b x lost s1
      have h1 : Keep W z s1 := by
        apply keep_State_setImgSlot
        split
        · exact keep_State_flashError ha6
        · exact ha6
      clear_value s1
      split
      · exact keep_State_flashError (keep_State_setImgSlot h1)
      · exact ih (keep_State_jadd h1)
grind_pattern keep_State_copyBlocks => Keep W z a6, State.copyBlocks a0 a1 a2 a3 a4 a5 a6

theorem keep_State_copyDone [Lets W .mem] {a0 a1 a2 a3} (ha3 : KeepP2 W z (a3)) :
    KeepP2 W z (State.copyDone a0 a1 a2 a3) := by
  unfold State.copyDone
  grind only [= keepP_mk, → keepP_snd, ← keep_foldlP, = keepP2_mk, → keepP2_snd, ← keep_foldlP2, usr keep_rest, usr keep_foldl, usr keep_State_jadd, usr keep_State_setImgSlot]
grind_pattern keep_State_copyDone => KeepP2 W z (a3), State.copyDone a0 a1 a2 a3

theorem keep_State_copyImage [Lets W .objs] [Lets W .regs] [Lets W .flt] [Lets W .irq] [Lets W .cap] [Lets W .work] [Lets W .mem] {a0 a1 a2 a3 a4} (ha4 : Keep W z a4) :
    KeepP2 W z (State.copyImage a0 a1 a2 a3 a4) := by
  unfold State.copyImage
  try dsimp only
  repeat' (first | with_reducible assumption | with_reducible exact True.intro | intro _ | with_reducible apply keep_State_setImgSlot | with_reducible apply keep_State_flashError | with_reducible apply keep_State_copyDone | with_reducible apply keep_State_copyBlocks | with_reducible apply keep_ite | with_reducible apply keep_foldl | (simp only [keepE_ok, keepE_error, keepR_next, keepR_fault, keepR_refused, keepP_mk, keepP2_mk, keepP3_mk, keepO_some, keepO_none, keepO2_some, keepO2_none]) | split)
grind_pattern keep_State_copyImage => Keep W z a4, State.copyImage a0 a1 a2 a3 a4

theorem keep_State_runImage [Lets W .objs] [Lets W .mem] {a0 a1} (ha1 : Keep W z a1) :
    Keep W z (State.runImage a0 a1) := by
  unfold State.runImage
  grind only [usr keep_rest, usr keep_foldl, usr keep_State_oset, usr keep_State_memSet]
grind_pattern keep_State_runImage => Keep W z a1, State.runImage a0 a1

theorem keep_State_slotRead [Lets W .objs] [Lets W .regs] [Lets W .flt] [Lets W .irq] [Lets W .cap] [Lets W .work] {a0 a1} (ha1 : Keep W z a1) :
    Keep W z (State.slotRead a0 a1) := by
  unfold State.slotRead
  grind only [usr keep_rest, usr keep_foldl, usr keep_State_flashError]
grind_pattern keep_State_slotRead => Keep W z a1, State.slotRead a0 a1

theorem keep_State_bootImage [Lets W .objs] [Lets W .regs] [Lets W .pw] [Lets W .flt] [Lets W .irq] [Lets W .cap] [Lets W .work] [Lets W .mem] {a0 a1 a2} (ha2 : Keep W z a2) :
    KeepP W z (State.bootImage a0 a1 a2) := by
  unfold State.bootImage
  extract_lets +onlyGivenNames s golden copied
  have hs : Keep W z s := keep_State_slotRead ha2
  clear_value s
  have hg : ∀ t, Keep W z t → Keep W z (golden t) := fun t h => keep_State_setUpd (keep_State_runImage h)
  have hc : ∀ x, KeepP2 W z x → KeepP W z (copied x) := by
    intro x h
    replace h : Keep W z x.2.2 := h
    show Keep W z (if _ then _ else _)
    split
    · exact h
    · split
      · exact keep_State_runImage h
      · exact hg _ h
  clear_value golden copied
  split
  · rw [keepP_mk]; exact keep_State_runImage hs
  · split
    · exact hc _ (keep_State_copyImage hs)
    · exact hg _ (keep_State_slotRead hs)
grind_pattern keep_State_bootImage => Keep W z a2, State.bootImage a0 a1 a2

theorem keep_State_cutEnd {a0} (ha0 : KeepP2 W z (a0)) :
    KeepP2 W z (State.cutEnd a0) := by
  unfold State.cutEnd
  grind only [= keepP_mk, → keepP_snd, ← keep_foldlP, = keepP2_mk, → keepP2_snd, ← keep_foldlP2, usr keep_rest, usr keep_foldl]
grind_pattern keep_State_cutEnd => KeepP2 W z (a0), State.cutEnd a0

theorem keep_State_revertEnd [Lets W .regs] [Lets W .pw] [Lets W .flt] [Lets W .irq] [Lets W .cap] [Lets W .work] [Lets W .mem] {a0} (ha0 : KeepP2 W z (a0)) :
    KeepP2 W z (State.revertEnd a0) := by
  unfold State.revertEnd
  grind only [= keepP_mk, → keepP_snd, ← keep_foldlP, = keepP2_mk, → keepP2_snd, ← keep_foldlP2, usr keep_rest, usr keep_foldl, usr keep_State_memSet, usr keep_State_jadd, usr keep_State_irqPost, usr keep_State_setUpd]
grind_pattern keep_State_revertEnd => KeepP2 W z (a0), State.revertEnd a0

theorem keep_State_revertImage [Lets W .objs] [Lets W .regs] [Lets W .pw] [Lets W .flt] [Lets W .irq] [Lets W .cap] [Lets W .work] [Lets W .mem] {a0 a1 a2} (ha2 : Keep W z a2) :
    KeepP2 W z (State.revertImage a0 a1 a2) := by
  unfold State.revertImage
  grind only [= keepP_mk, → keepP_snd, ← keep_foldlP, = keepP2_mk, → keepP2_snd, ← keep_foldlP2, usr keep_rest, usr keep_foldl, usr keep_State_revertEnd, usr keep_State_copyImage, usr keep_State_slotRead]
grind_pattern keep_State_revertImage => Keep W z a2, State.revertImage a0 a1 a2

theorem keep_State_trialEnd [Lets W .regs] [Lets W .pw] [Lets W .flt] [Lets W .irq] [Lets W .cap] [Lets W .work] [Lets W .mem] {a0} (ha0 : KeepP2 W z (a0)) :
    KeepP2 W z (State.trialEnd a0) := by
  unfold State.trialEnd
  grind only [= keepP_mk, → keepP_snd, ← keep_foldlP, = keepP2_mk, → keepP2_snd, ← keep_foldlP2, usr keep_rest, usr keep_foldl, usr keep_State_irqPost, usr keep_State_setUpd, usr keep_State_jadd]
grind_pattern keep_State_trialEnd => KeepP2 W z (a0), State.trialEnd a0

theorem keep_State_trialCopy [Lets W .objs] [Lets W .regs] [Lets W .pw] [Lets W .flt] [Lets W .irq] [Lets W .cap] [Lets W .work] [Lets W .mem] {a0 a1} (ha1 : KeepP2 W z (a1)) :
    KeepP2 W z (State.trialCopy a0 a1) := by
  unfold State.trialCopy
  split
  · exact ha1
  · exact keep_State_trialEnd (keep_State_copyImage ha1)
grind_pattern keep_State_trialCopy => KeepP2 W z (a1), State.trialCopy a0 a1

theorem keep_State_bootJournal [Lets W .objs] [Lets W .regs] [Lets W .pw] [Lets W .flt] [Lets W .irq] [Lets W .cap] [Lets W .work] [Lets W .mem] {a0 a1 a2} (ha2 : Keep W z a2) :
    KeepP2 W z (State.bootJournal a0 a1 a2) := by
  unfold State.bootJournal
  try dsimp only
  repeat' (first | with_reducible assumption | with_reducible exact True.intro | intro _ | with_reducible apply keep_State_flashError | with_reducible apply keep_State_trialCopy | with_reducible apply keep_State_copyImage | with_reducible apply keep_State_jadd | with_reducible apply keep_State_cutEnd | with_reducible apply keep_State_revertImage | with_reducible apply keep_State_setUpd | with_reducible apply keep_State_memSet | with_reducible apply keep_ite | with_reducible apply keep_foldl | (simp only [keepE_ok, keepE_error, keepR_next, keepR_fault, keepR_refused, keepP_mk, keepP2_mk, keepP3_mk, keepO_some, keepO_none, keepO2_some, keepO2_none]) | split)
grind_pattern keep_State_bootJournal => Keep W z a2, State.bootJournal a0 a1 a2

theorem keep_State_flashSpoil [Lets W .mem] {a0 a1} (ha1 : Keep W z a1) :
    Keep W z (State.flashSpoil a0 a1) := by
  unfold State.flashSpoil
  grind only [usr keep_rest, usr keep_foldl, usr keep_State_memSet]
grind_pattern keep_State_flashSpoil => Keep W z a1, State.flashSpoil a0 a1

theorem keep_State_stagingDone [Lets W .objs] [Lets W .regs] [Lets W .pw] [Lets W .flt] [Lets W .irq] [Lets W .cap] [Lets W .work] [Lets W .mem] [Lets W .freeCtr] {a0 a1} (ha1 : Keep W z a1) :
    Keep W z (State.stagingDone a0 a1) := by
  unfold State.stagingDone
  split
  · exact ha1
  · extract_lets +onlyGivenNames y x src1 s1
    have hy : Keep W z y.2.2 := keepP2_snd _ (keep_State_memLoad ha1)
    have h1 : Keep W z s1 := keep_State_setImgSlot hy
    clear_value s1 y x
    split
    · exact keep_State_setUpd (keep_State_memSet (keep_State_flashError h1))
    · exact keep_State_setUpd (keep_State_jadd h1)
grind_pattern keep_State_stagingDone => Keep W z a1, State.stagingDone a0 a1

theorem keep_State_loadEntry [Lets W .objs] [Lets W .doms] [Lets W .loop] [Lets W .sl] {a0 a1} (ha1 : Keep W z a1) :
    Keep W z (State.loadEntry a0 a1) := by
  unfold State.loadEntry
  grind only [usr keep_rest, usr keep_foldl, usr keep_State_loadValue, usr keep_State_oset]
grind_pattern keep_State_loadEntry => Keep W z a1, State.loadEntry a0 a1

theorem keep_State_loadEntries [Lets W .objs] [Lets W .doms] [Lets W .loop] [Lets W .sl] {a0 a1} (ha1 : Keep W z a1) :
    Keep W z (State.loadEntries a0 a1) := by
  unfold State.loadEntries
  grind only [usr keep_rest, usr keep_foldl, usr keep_State_loadEntry]
grind_pattern keep_State_loadEntries => Keep W z a1, State.loadEntries a0 a1

theorem keep_State_roleDefaults [Lets W .objs] {a0} (ha0 : Keep W z a0) :
    Keep W z (State.roleDefaults a0) := by
  unfold State.roleDefaults
  grind only [usr keep_rest, usr keep_foldl, usr keep_State_oset]
grind_pattern keep_State_roleDefaults => Keep W z a0, State.roleDefaults a0

theorem keep_State_storeUse [Lets W .objs] {a0 a1 a2 a3} (ha3 : Keep W z a3) :
    Keep W z (State.storeUse a0 a1 a2 a3) := by
  unfold State.storeUse
  grind only [usr keep_rest, usr keep_foldl, usr keep_State_oset]
grind_pattern keep_State_storeUse => Keep W z a3, State.storeUse a0 a1 a2 a3

theorem keep_State_paramLoad [Lets W .objs] [Lets W .doms] [Lets W .regs] [Lets W .flt] [Lets W .irq] [Lets W .loop] [Lets W .cap] [Lets W .sl] [Lets W .work] [Lets W .mem] {a0} (ha0 : Keep W z a0) :
    Keep W z (State.paramLoad a0) := by
  unfold State.paramLoad
  grind only [usr keep_rest, usr keep_foldl, usr keep_State_flashError, usr keep_State_roleDefaults, usr keep_State_storeUse, usr keep_State_loadEntries, usr keep_State_memSet]
grind_pattern keep_State_paramLoad => Keep W z a0, State.paramLoad a0

theorem keep_State_verifyDone [Lets W .objs] [Lets W .regs] [Lets W .pw] [Lets W .flt] [Lets W .irq] [Lets W .cap] [Lets W .work] [Lets W .mem] {a0 a1} (ha1 : Keep W z a1) :
    Keep W z (State.verifyDone a0 a1) := by
  unfold State.verifyDone
  grind only [usr keep_rest, usr keep_foldl, usr keep_State_slotRead, usr keep_State_flashSpoil, usr keep_State_irqPost, usr keep_State_setUpd, usr keep_State_jadd, usr keep_State_memSet]
grind_pattern keep_State_verifyDone => Keep W z a1, State.verifyDone a0 a1

end Sys2Proof.Laws
end

