-- ==== Sys2Proof/Laws/KeepSafOps.lean ====
section
/-! SUPPORT. What the operations of Machine/SafOps keep (see Laws/Keep). -/

set_option Elab.async false
namespace Sys2Proof.Laws
open Sys2Proof.Machine
variable {W : Part → Prop} {z : State}

theorem keep_State_setMeas [Lets W .saf] {a0 a1 a2} (ha2 : Keep W z a2) :
    Keep W z (State.setMeas a0 a1 a2) := by
  unfold State.setMeas
  grind only [usr keep_rest, usr keep_foldl, usr keep_State_safSet]
grind_pattern keep_State_setMeas => Keep W z a2, State.setMeas a0 a1 a2

theorem keep_State_measOff [Lets W .flt] [Lets W .saf] {a0} (ha0 : Keep W z a0) :
    Keep W z (State.measOff a0) := by
  unfold State.measOff
  grind only [usr keep_rest, usr keep_foldl, usr keep_State_release, usr keep_State_setMeas]
grind_pattern keep_State_measOff => Keep W z a0, State.measOff a0

theorem keep_State_diagStop [Lets W .saf] {a0} (ha0 : Keep W z a0) :
    Keep W z (State.diagStop a0) := by
  unfold State.diagStop
  grind only [usr keep_rest, usr keep_foldl, usr keep_State_safSet]
grind_pattern keep_State_diagStop => Keep W z a0, State.diagStop a0

theorem keep_State_netTest [Lets W .regs] [Lets W .flt] [Lets W .irq] [Lets W .cap] [Lets W .saf] [Lets W .work] {a0 a1} (ha1 : Keep W z a1) :
    Keep W z (State.netTest a0 a1) := by
  unfold State.netTest
  grind only [usr keep_rest, usr keep_foldl, usr keep_State_diagStop, usr keep_State_raise, usr keep_State_safSet, usr keep_State_release, usr keep_State_ilogTest]
grind_pattern keep_State_netTest => Keep W z a1, State.netTest a0 a1

theorem keep_State_ringQuiet [Lets W .ring] {a0 a1} (ha1 : Keep W z a1) :
    Keep W z (State.ringQuiet a0 a1) := by
  unfold State.ringQuiet
  grind only [usr keep_rest, usr keep_foldl, usr keep_State_setRing]
grind_pattern keep_State_ringQuiet => Keep W z a1, State.ringQuiet a0 a1

theorem keep_State_ringCurtain [Lets W .irq] [Lets W .ring] [Lets W .cap] [Lets W .saf] [Lets W .work] [Lets W .out] {a0 a1 a2 a3} (ha3 : Keep W z a3) :
    Keep W z (State.ringCurtain a0 a1 a2 a3) := by
  unfold State.ringCurtain
  grind only [usr keep_rest, usr keep_foldl, usr keep_State_safSet, usr keep_State_setRing, usr keep_State_sendC, usr keep_State_capHappen, usr keep_State_ringQuiet]
grind_pattern keep_State_ringCurtain => Keep W z a3, State.ringCurtain a0 a1 a2 a3

theorem keep_State_safIrq [Lets W .irq] {a0 a1} (ha1 : Keep W z a1) :
    Keep W z (State.safIrq a0 a1) := by
  unfold State.safIrq
  grind only [usr keep_rest, usr keep_foldl, usr keep_State_irqPost]
grind_pattern keep_State_safIrq => Keep W z a1, State.safIrq a0 a1

theorem keep_State_setSo [Lets W .saf] {a0 a1 a2} (ha2 : Keep W z a2) :
    Keep W z (State.setSo a0 a1 a2) := by
  unfold State.setSo
  grind only [usr keep_rest, usr keep_foldl, usr keep_State_safSet]
grind_pattern keep_State_setSo => Keep W z a2, State.setSo a0 a1 a2

theorem keep_State_soFollow [Lets W .saf] {a0 a1 a2} (ha2 : Keep W z a2) :
    Keep W z (State.soFollow a0 a1 a2) := by
  unfold State.soFollow
  grind only [usr keep_rest, usr keep_foldl, usr keep_State_setSo]
grind_pattern keep_State_soFollow => Keep W z a2, State.soFollow a0 a1 a2

theorem keep_State_safUpdate [Lets W .regs] [Lets W .flt] [Lets W .irq] [Lets W .ring] [Lets W .xl] [Lets W .pwm] [Lets W .bat] [Lets W .loop] [Lets W .cap] [Lets W .saf] [Lets W .work] [Lets W .out] {a0 a1} (ha1 : Keep W z a1) :
    Keep W z (State.safUpdate a0 a1) := by
  unfold State.safUpdate
  try dsimp only
  repeat' (first | with_reducible assumption | with_reducible exact True.intro | intro _ | with_reducible apply keep_State_safSet | with_reducible apply keep_State_curtainsOut | with_reducible apply keep_State_measOff | with_reducible apply keep_State_netTest | with_reducible apply keep_State_safIrq | with_reducible apply keep_State_withForce | with_reducible apply keep_State_pwmSet | with_reducible apply keep_State_ringCurtain | with_reducible apply keep_State_sendCurtainSets | with_reducible apply keep_State_sendC | with_reducible apply keep_State_soFollow | with_reducible apply keep_ite | with_reducible apply keep_foldl | (simp only [keepE_ok, keepE_error, keepR_next, keepR_fault, keepR_refused, keepP_mk, keepP2_mk, keepP3_mk, keepO_some, keepO_none, keepO2_some, keepO2_none]) | split)
grind_pattern keep_State_safUpdate => Keep W z a1, State.safUpdate a0 a1

theorem keep_State_applySafeDom [Lets W .doms] [Lets W .regs] [Lets W .flt] [Lets W .irq] [Lets W .ring] [Lets W .xl] [Lets W .pwm] [Lets W .bat] [Lets W .loop] [Lets W .cap] [Lets W .saf] [Lets W .work] [Lets W .out] {a0 a1 a2} (ha2 : Keep W z a2) :
    KeepE W z (State.applySafeDom a0 a1 a2) := by
  unfold State.applySafeDom
  grind only [= keepE_ok, = keepE_error, usr keep_rest, usr keep_foldl, usr keep_State_safUpdate, usr keep_State_dset]
grind_pattern keep_State_applySafeDom => Keep W z a2, State.applySafeDom a0 a1 a2

theorem keep_State_applySafeTest [Lets W .doms] [Lets W .saf] {a0 a1} (ha1 : Keep W z a1) :
    KeepE W z (State.applySafeTest a0 a1) := by
  unfold State.applySafeTest
  grind only [= keepE_ok, = keepE_error, usr keep_rest, usr keep_foldl, usr keep_State_safSet, usr keep_State_dset]
grind_pattern keep_State_applySafeTest => Keep W z a1, State.applySafeTest a0 a1

theorem keep_State_setSconn [Lets W .saf] {a0 a1 a2} (ha2 : Keep W z a2) :
    Keep W z (State.setSconn a0 a1 a2) := by
  unfold State.setSconn
  grind only [usr keep_rest, usr keep_foldl, usr keep_State_safSet]
grind_pattern keep_State_setSconn => Keep W z a2, State.setSconn a0 a1 a2

theorem keep_State_safConnStart [Lets W .saf] {a0} (ha0 : Keep W z a0) :
    Keep W z (State.safConnStart a0) := by
  unfold State.safConnStart
  grind only [usr keep_rest, usr keep_foldl, usr keep_State_setSconn]
grind_pattern keep_State_safConnStart => Keep W z a0, State.safConnStart a0

theorem keep_State_setSaf [Lets W .irq] [Lets W .saf] {a0 a1} (ha1 : Keep W z a1) :
    Keep W z (State.setSaf a0 a1) := by
  unfold State.setSaf
  grind only [usr keep_rest, usr keep_foldl, usr keep_State_safIrq, usr keep_State_safSet, usr keep_State_irqSet]
grind_pattern keep_State_setSaf => Keep W z a1, State.setSaf a0 a1

theorem keep_State_setSiPair [Lets W .saf] {a0 a1 a2} (ha2 : Keep W z a2) :
    Keep W z (State.setSiPair a0 a1 a2) := by
  unfold State.setSiPair
  grind only [usr keep_rest, usr keep_foldl, usr keep_State_safSet]
grind_pattern keep_State_setSiPair => Keep W z a2, State.setSiPair a0 a1 a2

theorem keep_State_safVerify [Lets W .objs] [Lets W .regs] [Lets W .flt] [Lets W .irq] [Lets W .ring] [Lets W .xl] [Lets W .pwm] [Lets W .bat] [Lets W .loop] [Lets W .cap] [Lets W .saf] [Lets W .work] [Lets W .out] {a0} (ha0 : Keep W z a0) :
    Keep W z (State.safVerify a0) := by
  unfold State.safVerify
  grind only [usr keep_rest, usr keep_foldl, usr keep_State_setSaf, usr keep_State_oset, usr keep_State_safUpdate, usr keep_State_raise, usr keep_State_release, usr keep_State_setSiPair, usr keep_State_safConnStart, usr keep_State_safSet]
grind_pattern keep_State_safVerify => Keep W z a0, State.safVerify a0

theorem keep_State_applySafeCmd [Lets W .objs] [Lets W .regs] [Lets W .flt] [Lets W .irq] [Lets W .ring] [Lets W .xl] [Lets W .pwm] [Lets W .bat] [Lets W .loop] [Lets W .cap] [Lets W .saf] [Lets W .work] [Lets W .out] {a0 a1} (ha1 : Keep W z a1) :
    KeepE W z (State.applySafeCmd a0 a1) := by
  unfold State.applySafeCmd
  grind only [= keepE_ok, = keepE_error, usr keep_rest, usr keep_foldl, usr keep_State_safUpdate, usr keep_State_setSaf, usr keep_State_safVerify]
grind_pattern keep_State_applySafeCmd => Keep W z a1, State.applySafeCmd a0 a1

theorem keep_State_applySafeParam [Lets W .objs] [Lets W .regs] [Lets W .flt] [Lets W .irq] [Lets W .ring] [Lets W .xl] [Lets W .pwm] [Lets W .bat] [Lets W .loop] [Lets W .cap] [Lets W .saf] [Lets W .work] [Lets W .out] {a0 a1 a2} (ha2 : Keep W z a2) :
    KeepE W z (State.applySafeParam a0 a1 a2) := by
  unfold State.applySafeParam
  grind only [= keepE_ok, = keepE_error, usr keep_rest, usr keep_foldl, usr keep_State_plainWrite, usr keep_State_safUpdate]
grind_pattern keep_State_applySafeParam => Keep W z a2, State.applySafeParam a0 a1 a2

theorem keep_State_sendLift [Lets W .regs] [Lets W .ring] [Lets W .xl] [Lets W .cap] [Lets W .out] {a0 a1 a2 a3} (ha3 : Keep W z a3) :
    Keep W z (State.sendLift a0 a1 a2 a3) := by
  unfold State.sendLift
  grind only [usr keep_rest, usr keep_foldl, usr keep_State_sendRing]
grind_pattern keep_State_sendLift => Keep W z a3, State.sendLift a0 a1 a2 a3

theorem keep_State_liftCells [Lets W .regs] [Lets W .ring] [Lets W .xl] [Lets W .cap] [Lets W .out] {a0 a1} (ha1 : Keep W z a1) :
    Keep W z (State.liftCells a0 a1) := by
  unfold State.liftCells
  grind only [usr keep_rest, usr keep_foldl, usr keep_State_sendLift]
grind_pattern keep_State_liftCells => Keep W z a1, State.liftCells a0 a1

theorem keep_State_liftsOfCue [Lets W .regs] [Lets W .ring] [Lets W .xl] [Lets W .cap] [Lets W .saf] [Lets W .out] {a0} (ha0 : Keep W z a0) :
    Keep W z (State.liftsOfCue a0) := by
  unfold State.liftsOfCue
  try dsimp only
  repeat' (first | with_reducible assumption | with_reducible exact True.intro | intro _ | with_reducible apply keep_State_sendLift | with_reducible apply keep_State_safSet | with_reducible apply keep_State_liftCells | with_reducible apply keep_ite | with_reducible apply keep_foldl | (simp only [keepE_ok, keepE_error, keepR_next, keepR_fault, keepR_refused, keepP_mk, keepP2_mk, keepP3_mk, keepO_some, keepO_none, keepO2_some, keepO2_none]) | split)
grind_pattern keep_State_liftsOfCue => Keep W z a0, State.liftsOfCue a0

theorem keep_State_safUnexpUp [Lets W .regs] [Lets W .xl] [Lets W .saf] [Lets W .out] {a0 a1} (ha1 : Keep W z a1) :
    Keep W z (State.safUnexpUp a0 a1) := by
  unfold State.safUnexpUp
  grind only [usr keep_rest, usr keep_foldl, usr keep_State_xlSendOn, usr keep_State_setSconn]
grind_pattern keep_State_safUnexpUp => Keep W z a1, State.safUnexpUp a0 a1

theorem keep_State_safUnexp [Lets W .regs] [Lets W .flt] [Lets W .irq] [Lets W .ring] [Lets W .xl] [Lets W .pwm] [Lets W .bat] [Lets W .loop] [Lets W .cap] [Lets W .saf] [Lets W .work] [Lets W .out] {a0 a1} (ha1 : Keep W z a1) :
    Keep W z (State.safUnexp a0 a1) := by
  unfold State.safUnexp
  grind only [usr keep_rest, usr keep_foldl, usr keep_State_safUpdate, usr keep_State_safSet, usr keep_State_safUnexpUp]
grind_pattern keep_State_safUnexp => Keep W z a1, State.safUnexp a0 a1

theorem keep_State_safLockout [Lets W .regs] [Lets W .flt] [Lets W .irq] [Lets W .ring] [Lets W .xl] [Lets W .pwm] [Lets W .bat] [Lets W .loop] [Lets W .cap] [Lets W .saf] [Lets W .work] [Lets W .out] {a0} (ha0 : Keep W z a0) :
    Keep W z (State.safLockout a0) := by
  unfold State.safLockout
  grind only [usr keep_rest, usr keep_foldl, usr keep_State_safUpdate, usr keep_State_raise, usr keep_State_setSaf]
grind_pattern keep_State_safLockout => Keep W z a0, State.safLockout a0

theorem keep_State_safStat [Lets W .saf] {a0 a1} (ha1 : Keep W z a1) :
    Keep W z (State.safStat a0 a1) := by
  unfold State.safStat
  grind only [usr keep_rest, usr keep_foldl, usr keep_State_safSet]
grind_pattern keep_State_safStat => Keep W z a1, State.safStat a0 a1

theorem keep_State_safLog [Lets W .regs] [Lets W .flt] [Lets W .irq] [Lets W .cap] [Lets W .saf] [Lets W .work] {a0 a1 a2 a3} (ha3 : Keep W z a3) :
    Keep W z (State.safLog a0 a1 a2 a3) := by
  unfold State.safLog
  grind only [usr keep_rest, usr keep_foldl, usr keep_State_rateCheck, usr keep_State_safIrq, usr keep_State_safSet, usr keep_State_safStat]
grind_pattern keep_State_safLog => Keep W z a3, State.safLog a0 a1 a2 a3

theorem keep_State_connLog [Lets W .regs] [Lets W .flt] [Lets W .irq] [Lets W .cap] [Lets W .saf] [Lets W .work] {a0 a1 a2 a3} (ha3 : Keep W z a3) :
    Keep W z (State.connLog a0 a1 a2 a3) := by
  unfold State.connLog
  grind only [usr keep_rest, usr keep_foldl, usr keep_State_safLog, usr keep_State_setSconn]
grind_pattern keep_State_connLog => Keep W z a3, State.connLog a0 a1 a2 a3

theorem keep_State_safReset [Lets W .flt] [Lets W .saf] {a0 a1} (ha1 : Keep W z a1) :
    Keep W z (State.safReset a0 a1) := by
  unfold State.safReset
  grind only [usr keep_rest, usr keep_foldl, usr keep_State_safSet, usr keep_State_safStat, usr keep_State_release, usr keep_State_setSo]
grind_pattern keep_State_safReset => Keep W z a1, State.safReset a0 a1

theorem keep_State_safConfirm [Lets W .regs] [Lets W .flt] [Lets W .irq] [Lets W .cap] [Lets W .saf] [Lets W .work] {a0 a1 a2} (ha2 : Keep W z a2) :
    Keep W z (State.safConfirm a0 a1 a2) := by
  unfold State.safConfirm
  grind only [usr keep_rest, usr keep_foldl, usr keep_State_setSconn, usr keep_State_safIrq, usr keep_State_release, usr keep_State_connLog, usr keep_State_safReset]
grind_pattern keep_State_safConfirm => Keep W z a2, State.safConfirm a0 a1 a2

theorem keep_State_safNew [Lets W .regs] [Lets W .flt] [Lets W .irq] [Lets W .cap] [Lets W .saf] [Lets W .work] {a0 a1 a2 a3 a4 a5} (ha4 : ∀ x0 x1, Keep W z x1 → Keep W z (a4 x0 x1)) (ha5 : Keep W z a5) :
    Keep W z (State.safNew a0 a1 a2 a3 a4 a5) := by
  unfold State.safNew
  extract_lets +onlyGivenNames r first one r0 lag r1 s1 s2 s3 s4
  have h1 : Keep W z s1 := ha4 _ _ (keep_State_setSconn ha5)
  clear_value s1
  have h2 : Keep W z s2 := by
    show Keep W z (if _ then _ else _)
    split
    · exact keep_State_safIrq h1
    · exact h1
  clear_value s2
  have h3 : Keep W z s3 := by
    show Keep W z (if _ then _ else _)
    split
    · exact keep_State_connLog h2
    · exact h2
  clear_value s3
  have h4 : Keep W z s4 := by
    show Keep W z (if _ then _ else _)
    split
    · exact keep_State_safSet h3
    · exact h3
  clear_value s4
  repeat' split
  all_goals first | exact keep_State_safConfirm h4 | exact h4

theorem keep_State_testCopy [Lets W .flt] [Lets W .saf] {a0 a1 a2 a3} (ha3 : Keep W z a3) :
    Keep W z (State.testCopy a0 a1 a2 a3) := by
  unfold State.testCopy
  grind only [usr keep_rest, usr keep_foldl, usr keep_State_safSet, usr keep_State_ilogTest]
grind_pattern keep_State_testCopy => Keep W z a3, State.testCopy a0 a1 a2 a3

theorem keep_State_safCopy [Lets W .regs] [Lets W .flt] [Lets W .irq] [Lets W .cap] [Lets W .saf] [Lets W .work] {a0 a1 a2 a3 a4 a5} (ha5 : Keep W z a5) :
    Keep W z (State.safCopy a0 a1 a2 a3 a4 a5) := by
  unfold State.safCopy
  try dsimp only
  repeat' (first | with_reducible assumption | with_reducible exact True.intro | intro _ | with_reducible apply keep_State_testCopy | with_reducible apply keep_State_connLog | with_reducible apply keep_State_release | with_reducible apply keep_State_setSconn | with_reducible apply keep_State_safConfirm | with_reducible apply keep_State_diagStop | with_reducible apply keep_State_pulse | with_reducible apply keep_State_safNew | with_reducible apply keep_ite | with_reducible apply keep_foldl | (simp only [keepE_ok, keepE_error, keepR_next, keepR_fault, keepR_refused, keepP_mk, keepP2_mk, keepP3_mk, keepO_some, keepO_none, keepO2_some, keepO2_none]) | split)
grind_pattern keep_State_safCopy => Keep W z a5, State.safCopy a0 a1 a2 a3 a4 a5

theorem keep_State_safRing [Lets W .regs] [Lets W .flt] [Lets W .irq] [Lets W .cap] [Lets W .saf] [Lets W .work] {a0 a1 a2 a3 a4 a5} (ha5 : Keep W z a5) :
    Keep W z (State.safRing a0 a1 a2 a3 a4 a5) := by
  unfold State.safRing
  grind only [usr keep_rest, usr keep_foldl, usr keep_State_safCopy]
grind_pattern keep_State_safRing => Keep W z a5, State.safRing a0 a1 a2 a3 a4 a5

theorem keep_State_measResult [Lets W .regs] [Lets W .flt] [Lets W .irq] [Lets W .cap] [Lets W .saf] [Lets W .work] {a0 a1} (ha1 : Keep W z a1) :
    Keep W z (State.measResult a0 a1) := by
  unfold State.measResult
  grind only [usr keep_rest, usr keep_foldl, usr keep_State_setMeas, usr keep_State_diagStop, usr keep_State_raise, usr keep_State_release, usr keep_State_safSet, usr keep_State_ilogTest]
grind_pattern keep_State_measResult => Keep W z a1, State.measResult a0 a1

theorem keep_State_safNet [Lets W .regs] [Lets W .flt] [Lets W .irq] [Lets W .cap] [Lets W .saf] [Lets W .work] {a0 a1 a2} (ha2 : Keep W z a2) :
    Keep W z (State.safNet a0 a1 a2) := by
  unfold State.safNet
  grind only [usr keep_rest, usr keep_foldl, usr keep_State_safLog, usr keep_State_safCopy]
grind_pattern keep_State_safNet => Keep W z a2, State.safNet a0 a1 a2

theorem keep_State_safTestEnd [Lets W .regs] [Lets W .tm] [Lets W .flt] [Lets W .irq] [Lets W .ring] [Lets W .xl] [Lets W .pwm] [Lets W .bat] [Lets W .loop] [Lets W .cap] [Lets W .saf] [Lets W .work] [Lets W .out] {a0 a1} (ha1 : Keep W z a1) :
    Keep W z (State.safTestEnd a0 a1) := by
  unfold State.safTestEnd
  grind [keep_foldl, keep_State_toTb2, keep_State_safSet, keep_State_safIrq, keep_State_safUpdate, keep_State_diagStop, keep_State_pulse, = keepE_ok, = keepE_error, = keepR_next, = keepR_fault, = keepR_refused, = keepP_mk, → keepP_snd, = keepP2_mk, → keepP2_snd, = keepP3_mk, → keepP3_snd, = keepO_some, = keepO_none, = keepO2_some, = keepO2_none]
grind_pattern keep_State_safTestEnd => Keep W z a1, State.safTestEnd a0 a1

theorem keep_State_safSend [Lets W .regs] [Lets W .ring] [Lets W .xl] [Lets W .cap] [Lets W .saf] [Lets W .freeCtr] [Lets W .out] {a0 a1} (ha1 : Keep W z a1) :
    Keep W z (State.safSend a0 a1) := by
  unfold State.safSend
  try dsimp only
  repeat' (first | with_reducible assumption | with_reducible exact True.intro | intro _ | with_reducible apply keep_State_drawn | with_reducible apply keep_State_setSconn | with_reducible apply keep_State_queueBg | with_reducible apply keep_State_sendRing | with_reducible apply keep_State_emit | with_reducible apply keep_ite | with_reducible apply keep_foldl | (simp only [keepE_ok, keepE_error, keepR_next, keepR_fault, keepR_refused, keepP_mk, keepP2_mk, keepP3_mk, keepO_some, keepO_none, keepO2_some, keepO2_none]) | split)
grind_pattern keep_State_safSend => Keep W z a1, State.safSend a0 a1

theorem keep_State_siSample [Lets W .regs] [Lets W .tm] [Lets W .flt] [Lets W .irq] [Lets W .ring] [Lets W .xl] [Lets W .pwm] [Lets W .bat] [Lets W .loop] [Lets W .cap] [Lets W .saf] [Lets W .work] [Lets W .out] {a0 a1 a2} (ha2 : Keep W z a2) :
    Keep W z (State.siSample a0 a1 a2) := by
  unfold State.siSample
  extract_lets +onlyGivenNames t s0 step r s1 s2 s3
  have h0 : Keep W z s0 := keep_State_safSet (keep_State_toTb2 ha2)
  have hs : ∀ (y : State × Nat) (p : Nat), Keep W z y.1 → Keep W z (step y p).1 := by
    intro y p h
    show Keep W z (if _ then _ else _)
    repeat' (first | with_reducible assumption | with_reducible apply keep_State_safIrq | with_reducible apply keep_State_diagStop | with_reducible apply keep_State_raise | with_reducible apply keep_State_release | with_reducible apply keep_State_setSiPair | split)
  have hr : Keep W z r.1 := by
    show Keep W z ((List.range 4).foldl step (s0, 0)).1
    generalize List.range 4 = l
    clear_value step s0
    have : ∀ (y : State × Nat), Keep W z y.1 → Keep W z (l.foldl step y).1 := by
      induction l with
      | nil => exact fun _ h => h
      | cons a l ih => exact fun y h => ih _ (hs y a h)
    exact this _ h0
  have h1 : Keep W z s1 := hr
  clear_value r s1
  have h2 : Keep W z s2 := by
    unfold s2
    split
    · split
      · extract_lets +onlyGivenNames p c inj lv l1 l2 x first s3 s4
        have h3 : Keep W z s3 := keep_State_safSet h1
        have h4 : Keep W z s4 := by
          clear_value s3
          show Keep W z (if _ then _ else _)
          split
          · exact keep_State_safSet (keep_State_ilogTest h3)
          · exact h3
        clear_value s4
        split
        · exact keep_State_diagStop (keep_State_ilogTest h4)
        · exact h4
      · exact h1
    · exact h1
  have h3 : Keep W z s3 := keep_State_safUpdate h2
  clear_value s3
  split
  · exact h3
  · exact keep_State_safUpdate (keep_State_safReset h3)
grind_pattern keep_State_siSample => Keep W z a2, State.siSample a0 a1 a2

theorem keep_State_soSample [Lets W .regs] [Lets W .tm] [Lets W .flt] [Lets W .irq] [Lets W .ring] [Lets W .xl] [Lets W .pwm] [Lets W .bat] [Lets W .loop] [Lets W .cap] [Lets W .saf] [Lets W .work] [Lets W .out] {a0 a1 a2 a3} (ha3 : Keep W z a3) :
    Keep W z (State.soSample a0 a1 a2 a3) := by
  unfold State.soSample
  grind [keep_foldl, keep_State_toTb2, keep_State_safIrq, keep_State_diagStop, keep_State_raise, keep_State_setSo, keep_State_safSet, keep_State_ilogTest, keep_State_safUpdate, = keepE_ok, = keepE_error, = keepR_next, = keepR_fault, = keepR_refused, = keepP_mk, → keepP_snd, = keepP2_mk, → keepP2_snd, = keepP3_mk, → keepP3_snd, = keepO_some, = keepO_none, = keepO2_some, = keepO2_none]
grind_pattern keep_State_soSample => Keep W z a3, State.soSample a0 a1 a2 a3

end Sys2Proof.Laws
end

