-- ==== Sys2Proof/Laws/KeepXlOps.lean ====
section
/-! SUPPORT. What the operations of Machine/XlOps keep (see Laws/Keep). -/

set_option Elab.async false
namespace Sys2Proof.Laws
open Sys2Proof.Machine
variable {W : Part → Prop} {z : State}

theorem keep_State_stopXls [Lets W .xl] {a0} (ha0 : Keep W z a0) :
    Keep W z (State.stopXls a0) := by
  unfold State.stopXls
  grind only [usr keep_rest, usr keep_foldl, usr keep_State_setXl]
grind_pattern keep_State_stopXls => Keep W z a0, State.stopXls a0

theorem keep_State_conflictStanding [Lets W .objs] [Lets W .regs] [Lets W .pw] [Lets W .flt] [Lets W .irq] [Lets W .cap] [Lets W .work] {a0 a1 a2} (ha2 : Keep W z a2) :
    Keep W z (State.conflictStanding a0 a1 a2) := by
  unfold State.conflictStanding
  grind only [usr keep_rest, usr keep_foldl, usr keep_State_pwSet, usr keep_State_irqPost, usr keep_State_oset, usr keep_State_raise]
grind_pattern keep_State_conflictStanding => Keep W z a2, State.conflictStanding a0 a1 a2

theorem keep_State_aonFences [Lets W .flt] {a0 a1} (ha1 : Keep W z a1) :
    Keep W z (State.aonFences a0 a1) := by
  unfold State.aonFences
  grind only [usr keep_rest, usr keep_foldl, usr keep_State_fltSet]
grind_pattern keep_State_aonFences => Keep W z a1, State.aonFences a0 a1

theorem keep_State_setTb0State [Lets W .objs] [Lets W .tm] [Lets W .irq] {a0 a1} (ha1 : Keep W z a1) :
    Keep W z (State.setTb0State a0 a1) := by
  unfold State.setTb0State
  grind only [usr keep_rest, usr keep_foldl, usr keep_State_tmSet, usr keep_State_oset, usr keep_State_irqPost]
grind_pattern keep_State_setTb0State => Keep W z a1, State.setTb0State a0 a1

theorem keep_State_takeStanding [Lets W .objs] [Lets W .pw] [Lets W .tm] [Lets W .flt] [Lets W .irq] [Lets W .seat] [Lets W .ring] [Lets W .pair] [Lets W .out] {a0 a1} (ha1 : Keep W z a1) :
    Keep W z (State.takeStanding a0 a1) := by
  unfold State.takeStanding
  grind [keep_foldl, keep_State_pwSet, keep_State_setTb0State, keep_State_pairSet, keep_State_tmSet, keep_State_aonFences, keep_State_startPorts, keep_State_irqPost, keep_State_release, keep_State_tokenReset, keep_State_oset, = keepE_ok, = keepE_error, = keepR_next, = keepR_fault, = keepR_refused, = keepP_mk, → keepP_snd, = keepP2_mk, → keepP2_snd, = keepP3_mk, → keepP3_snd, = keepO_some, = keepO_none, = keepO2_some, = keepO2_none]
grind_pattern keep_State_takeStanding => Keep W z a1, State.takeStanding a0 a1

theorem keep_State_takeoverNote [Lets W .doms] [Lets W .regs] [Lets W .flt] [Lets W .irq] [Lets W .cap] [Lets W .work] {a0 a1 a2 a3} (ha3 : Keep W z a3) :
    Keep W z (State.takeoverNote a0 a1 a2 a3) := by
  unfold State.takeoverNote
  grind only [usr keep_rest, usr keep_foldl, usr keep_State_dset, usr keep_State_pulse]
grind_pattern keep_State_takeoverNote => Keep W z a3, State.takeoverNote a0 a1 a2 a3

theorem keep_State_settle [Lets W .objs] [Lets W .doms] [Lets W .regs] [Lets W .pw] [Lets W .tm] [Lets W .flt] [Lets W .irq] [Lets W .seat] [Lets W .ring] [Lets W .pair] [Lets W .cap] [Lets W .work] [Lets W .out] {a0} (ha0 : Keep W z a0) :
    Keep W z (State.settle a0) := by
  unfold State.settle
  grind only [usr keep_rest, usr keep_foldl, usr keep_State_conflictStanding, usr keep_State_takeStanding, usr keep_State_takeoverNote]
grind_pattern keep_State_settle => Keep W z a0, State.settle a0

theorem keep_State_setPeer [Lets W .xl] {a0 a1 a2} (ha0 : Keep W z a0) :
    Keep W z (State.setPeer a0 a1 a2) := by
  first | exact ha0.upd rfl id id id (by intro p hp; cases p <;> first | contradiction | rfl) | (unfold State.setPeer; grind only [usr keep_rest, usr keep_foldl])
grind_pattern keep_State_setPeer => Keep W z a0, State.setPeer a0 a1 a2

theorem keep_State_peerCueStart [Lets W .regs] [Lets W .flt] [Lets W .irq] [Lets W .xl] [Lets W .cap] [Lets W .work] {a0} (ha0 : Keep W z a0) :
    Keep W z (State.peerCueStart a0) := by
  unfold State.peerCueStart
  grind only [usr keep_rest, usr keep_foldl, usr keep_State_raiseIf, usr keep_State_setPeer]
grind_pattern keep_State_peerCueStart => Keep W z a0, State.peerCueStart a0

theorem keep_State_xlCueStart [Lets W .xl] {a0 a1} (ha1 : Keep W z a1) :
    Keep W z (State.xlCueStart a0 a1) := by
  unfold State.xlCueStart
  grind only [usr keep_rest, usr keep_foldl, usr keep_State_setXl]
grind_pattern keep_State_xlCueStart => Keep W z a1, State.xlCueStart a0 a1

theorem keep_State_curtSet [Lets W .objs] [Lets W .regs] [Lets W .flt] [Lets W .irq] [Lets W .xl] [Lets W .cap] [Lets W .work] {a0 a1 a2 a3} (ha3 : Keep W z a3) :
    KeepP W z (State.curtSet a0 a1 a2 a3) := by
  unfold State.curtSet
  grind only [= keepP_mk, → keepP_snd, ← keep_foldlP, usr keep_rest, usr keep_foldl, usr keep_State_xlLog, usr keep_State_xlEvt, usr keep_State_setXl]
grind_pattern keep_State_curtSet => Keep W z a3, State.curtSet a0 a1 a2 a3

theorem keep_State_relCut [Lets W .objs] [Lets W .regs] [Lets W .flt] [Lets W .irq] [Lets W .ring] [Lets W .cap] [Lets W .work] [Lets W .out] {a0 a1 a2} (ha2 : Keep W z a2) :
    Keep W z (State.relCut a0 a1 a2) := by
  unfold State.relCut
  grind only [usr keep_rest, usr keep_foldl, usr keep_State_forwardBad]
grind_pattern keep_State_relCut => Keep W z a2, State.relCut a0 a1 a2

theorem keep_State_rxXl [Lets W .objs] [Lets W .regs] [Lets W .flt] [Lets W .irq] [Lets W .ring] [Lets W .xl] [Lets W .cap] [Lets W .work] [Lets W .out] {l lane : Nat} {f : Bytes} {e : FrameEnd} {s : State} (h : Keep W z s) :
    Keep W z (State.rxXl l lane f e s).st := by
  unfold State.rxXl
  extract_lets +onlyGivenNames ty seq d no k
  split
  · exact h
  · split
    · show Keep W z (if _ then _ else _)
      repeat' (first | with_reducible assumption | with_reducible apply keep_State_xlLog | with_reducible apply keep_State_relCut | with_reducible apply keep_State_bump | with_reducible apply keep_ite | split)
    · exact keep_State_relCut h
    · exact keep_State_xlLog (keep_State_relCut h)
    · split
      · exact keep_State_xlLog h
      · extract_lets +onlyGivenNames n lim
        split
        · exact keep_State_xlLog (keep_State_relCut h)
        · extract_lets +onlyGivenNames gap s1 s2
          have h1 : Keep W z s1 := keep_State_setXl h
          clear_value s1
          have h2 : Keep W z s2 := by
            show Keep W z (if _ then _ else _)
            repeat' (first | with_reducible assumption | with_reducible apply keep_State_xlLog | with_reducible apply keep_State_relCut | with_reducible apply keep_State_bump | with_reducible apply keep_ite | split)
          clear_value s2
          repeat' (first | with_reducible assumption | with_reducible apply keep_State_xlLog | with_reducible apply keep_State_relCut | with_reducible apply keep_State_bump | with_reducible apply keep_ite | split)
          all_goals dsimp only
          all_goals repeat' (first | with_reducible assumption | with_reducible apply keep_State_xlLog | with_reducible apply keep_State_relCut | with_reducible apply keep_State_bump | with_reducible apply keep_ite | split)
theorem keep_State_rxXlTyped [Lets W .objs] [Lets W .regs] [Lets W .flt] [Lets W .irq] [Lets W .ring] [Lets W .xl] [Lets W .cap] [Lets W .work] [Lets W .out] {a0 a1 a2 a3 a4 a5 a6} (ha5 : ∀ x0 x1, Keep W z x1 → Keep W z (a5 x0 x1)) (ha6 : Keep W z a6) :
    Keep W z (State.rxXlTyped a0 a1 a2 a3 a4 a5 a6) := by
  unfold State.rxXlTyped
  extract_lets +onlyGivenNames r
  have h : Keep W z r.st := keep_State_rxXl ha6
  split
  · exact ha5 _ _ h
  · exact h

theorem keep_State_pairUp [Lets W .flt] [Lets W .pair] {a0} (ha0 : Keep W z a0) :
    Keep W z (State.pairUp a0) := by
  unfold State.pairUp
  grind only [usr keep_rest, usr keep_foldl, usr keep_State_pairSet, usr keep_State_release]
grind_pattern keep_State_pairUp => Keep W z a0, State.pairUp a0

theorem keep_State_xlTryUp [Lets W .regs] [Lets W .tm] [Lets W .flt] [Lets W .irq] [Lets W .xl] [Lets W .pair] [Lets W .out] {a0 a1} (ha1 : Keep W z a1) :
    Keep W z (State.xlTryUp a0 a1) := by
  unfold State.xlTryUp
  grind only [usr keep_rest, usr keep_foldl, usr keep_State_tmSet, usr keep_State_xlEvt, usr keep_State_setXl, usr keep_State_sendCurtainSet, usr keep_State_pairUp]
grind_pattern keep_State_xlTryUp => Keep W z a1, State.xlTryUp a0 a1

theorem keep_State_takeHello [Lets W .objs] [Lets W .doms] [Lets W .regs] [Lets W .pw] [Lets W .tm] [Lets W .flt] [Lets W .irq] [Lets W .seat] [Lets W .ring] [Lets W .xl] [Lets W .pair] [Lets W .cap] [Lets W .work] [Lets W .out] {a0 a1 a2} (ha2 : Keep W z a2) :
    Keep W z (State.takeHello a0 a1 a2) := by
  unfold State.takeHello
  grind only [usr keep_rest, usr keep_foldl, usr keep_State_setXl, usr keep_State_oset, usr keep_State_raise, usr keep_State_xlLog, usr keep_State_release, usr keep_State_xlTryUp, usr keep_State_settle]
grind_pattern keep_State_takeHello => Keep W z a2, State.takeHello a0 a1 a2

theorem keep_State_xlHello [Lets W .regs] [Lets W .xl] [Lets W .out] {a0 a1} (ha1 : Keep W z a1) :
    Keep W z (State.xlHello a0 a1) := by
  unfold State.xlHello
  grind only [usr keep_rest, usr keep_foldl, usr keep_State_xlSend]
grind_pattern keep_State_xlHello => Keep W z a1, State.xlHello a0 a1

theorem keep_State_xlDown [Lets W .regs] [Lets W .flt] [Lets W .irq] [Lets W .cap] [Lets W .work] {a0 a1 a2} (ha1 : ∀ x0, Keep W z x0 → Keep W z (a1 x0)) (ha2 : Keep W z a2) :
    Keep W z (State.xlDown a0 a1 a2) := by
  unfold State.xlDown
  grind only [usr keep_rest, usr keep_foldl, usr keep_State_xlEvt, usr keep_State_raise]

theorem keep_State_xlLanes [Lets W .out] {a0 a1 a2} (ha2 : Keep W z a2) :
    Keep W z (State.xlLanes a0 a1 a2) := by
  unfold State.xlLanes
  grind only [usr keep_rest, usr keep_foldl, usr keep_State_emit]
grind_pattern keep_State_xlLanes => Keep W z a2, State.xlLanes a0 a1 a2

theorem keep_State_xlToClock [Lets W .xl] [Lets W .out] {a0 a1 a2} (ha2 : Keep W z a2) :
    Keep W z (State.xlToClock a0 a1 a2) := by
  unfold State.xlToClock
  grind only [usr keep_rest, usr keep_foldl, usr keep_State_xlLanes, usr keep_State_setXl]
grind_pattern keep_State_xlToClock => Keep W z a2, State.xlToClock a0 a1 a2

theorem keep_State_xlTxDrop [Lets W .objs] [Lets W .regs] [Lets W .xl] [Lets W .out] {a0 a1 a2} (ha2 : Keep W z a2) :
    Keep W z (State.xlTxDrop a0 a1 a2) := by
  unfold State.xlTxDrop
  grind only [usr keep_rest, usr keep_foldl, usr keep_State_xlPump, usr keep_State_setXl, usr keep_State_bump, usr keep_State_emit]
grind_pattern keep_State_xlTxDrop => Keep W z a2, State.xlTxDrop a0 a1 a2

theorem keep_State_xlTakeL [Lets W .objs] [Lets W .regs] [Lets W .tm] [Lets W .flt] [Lets W .irq] [Lets W .xl] [Lets W .pair] [Lets W .cap] [Lets W .work] [Lets W .out] {a0 a1 a2} (ha2 : Keep W z a2) :
    Keep W z (State.xlTakeL a0 a1 a2) := by
  unfold State.xlTakeL
  grind only [usr keep_rest, usr keep_foldl, usr keep_State_setXl, usr keep_State_xlTryUp, usr keep_State_xlTxDrop, keep_State_xlDown, usr keep_State_xlToClock]
grind_pattern keep_State_xlTakeL => Keep W z a2, State.xlTakeL a0 a1 a2

theorem keep_State_laneSampled [Lets W .regs] [Lets W .xl] {a0 a1 a2} (ha2 : Keep W z a2) :
    Keep W z (State.laneSampled a0 a1 a2) := by
  unfold State.laneSampled
  grind only [usr keep_rest, usr keep_foldl, usr keep_State_setXl, usr keep_State_rset]
grind_pattern keep_State_laneSampled => Keep W z a2, State.laneSampled a0 a1 a2

theorem keep_State_startXl [Lets W .xl] [Lets W .out] {a0 a1} (ha1 : Keep W z a1) :
    Keep W z (State.startXl a0 a1) := by
  unfold State.startXl
  grind only [usr keep_rest, usr keep_foldl, usr keep_State_xlToClock]
grind_pattern keep_State_startXl => Keep W z a1, State.startXl a0 a1

theorem keep_State_takePeer [Lets W .regs] [Lets W .flt] [Lets W .xl] [Lets W .out] {a0 a1 a2} (ha2 : Keep W z a2) :
    Keep W z (State.takePeer a0 a1 a2) := by
  unfold State.takePeer
  grind only [usr keep_rest, usr keep_foldl, usr keep_State_setPeer, usr keep_State_release, usr keep_State_xlSend]
grind_pattern keep_State_takePeer => Keep W z a2, State.takePeer a0 a1 a2

theorem keep_State_startXls [Lets W .xl] [Lets W .out] {a0} (ha0 : Keep W z a0) :
    Keep W z (State.startXls a0) := by
  unfold State.startXls
  grind only [usr keep_rest, usr keep_foldl, usr keep_State_startXl]
grind_pattern keep_State_startXls => Keep W z a0, State.startXls a0

theorem keep_State_xlSendL [Lets W .regs] [Lets W .xl] [Lets W .out] {a0 a1 a2} (ha2 : Keep W z a2) :
    Keep W z (State.xlSendL a0 a1 a2) := by
  unfold State.xlSendL
  grind only [usr keep_rest, usr keep_foldl, usr keep_State_emit, usr keep_State_xlMark, usr keep_State_xlPump]
grind_pattern keep_State_xlSendL => Keep W z a2, State.xlSendL a0 a1 a2

theorem keep_State_alignCheck [Lets W .regs] [Lets W .xl] [Lets W .out] {a0 a1} (ha1 : Keep W z a1) :
    Keep W z (State.alignCheck a0 a1) := by
  unfold State.alignCheck
  grind only [usr keep_rest, usr keep_foldl, usr keep_State_xlToClock, usr keep_State_xlHello, usr keep_State_xlSendL, usr keep_State_setXl]
grind_pattern keep_State_alignCheck => Keep W z a1, State.alignCheck a0 a1

theorem keep_State_xlSilenceEnd [Lets W .tm] [Lets W .xl] [Lets W .out] {a0 a1} (ha1 : Keep W z a1) :
    Keep W z (State.xlSilenceEnd a0 a1) := by
  unfold State.xlSilenceEnd
  grind only [usr keep_rest, usr keep_foldl, usr keep_State_toTb2, usr keep_State_xlLanes, usr keep_State_setXl]
grind_pattern keep_State_xlSilenceEnd => Keep W z a1, State.xlSilenceEnd a0 a1

theorem keep_State_xlLaneCut [Lets W .objs] [Lets W .regs] [Lets W .flt] [Lets W .irq] [Lets W .ring] [Lets W .xl] [Lets W .cap] [Lets W .work] [Lets W .out] {a0 a1 a2 a3} (ha3 : Keep W z a3) :
    Keep W z (State.xlLaneCut a0 a1 a2 a3) := by
  unfold State.xlLaneCut
  grind only [usr keep_rest, usr keep_foldl, usr keep_State_xlEvt, usr keep_State_xlLog, usr keep_State_bump, usr keep_State_relCut, usr keep_State_raise]
grind_pattern keep_State_xlLaneCut => Keep W z a3, State.xlLaneCut a0 a1 a2 a3

end Sys2Proof.Laws
end

