-- ==== Sys2Proof/Laws/KeepTimeOps.lean ====
section
/-! SUPPORT. What the operations of Machine/TimeOps keep (see Laws/Keep). -/

set_option Elab.async false
namespace Sys2Proof.Laws
open Sys2Proof.Machine
variable {W : Part → Prop} {z : State}

theorem keep_State_applyCuePeriod [Lets W .objs] [Lets W .tm] {a0 a1} (ha1 : Keep W z a1) :
    KeepE W z (State.applyCuePeriod a0 a1) := by
  unfold State.applyCuePeriod
  grind only [= keepE_ok, = keepE_error, usr keep_rest, usr keep_foldl, usr keep_State_tmSet, usr keep_State_oset]
grind_pattern keep_State_applyCuePeriod => Keep W z a1, State.applyCuePeriod a0 a1

theorem keep_State_applyEdgeOverrun [Lets W .objs] {a0 a1 a2} (ha2 : Keep W z a2) :
    KeepE W z (State.applyEdgeOverrun a0 a1 a2) := by
  unfold State.applyEdgeOverrun
  grind only [= keepE_ok, = keepE_error, usr keep_rest, usr keep_foldl, usr keep_State_oset]
grind_pattern keep_State_applyEdgeOverrun => Keep W z a2, State.applyEdgeOverrun a0 a1 a2

theorem keep_State_applyReAnchor [Lets W .objs] [Lets W .regs] [Lets W .flt] [Lets W .irq] [Lets W .ring] [Lets W .xl] [Lets W .cap] [Lets W .work] [Lets W .out] {a0 a1} (ha1 : Keep W z a1) :
    KeepE W z (State.applyReAnchor a0 a1) := by
  unfold State.applyReAnchor
  grind only [= keepE_ok, = keepE_error, usr keep_rest, usr keep_foldl, usr keep_State_sendRing, usr keep_State_sendCell]
grind_pattern keep_State_applyReAnchor => Keep W z a1, State.applyReAnchor a0 a1

theorem keep_State_setSync [Lets W .objs] [Lets W .tm] [Lets W .irq] {a0 a1} (ha1 : Keep W z a1) :
    Keep W z (State.setSync a0 a1) := by
  unfold State.setSync
  grind only [usr keep_rest, usr keep_foldl, usr keep_State_tmSet, usr keep_State_oset, usr keep_State_irqPost]
grind_pattern keep_State_setSync => Keep W z a1, State.setSync a0 a1

theorem keep_State_applySyncCmd [Lets W .objs] [Lets W .tm] [Lets W .irq] {a0 a1} (ha1 : Keep W z a1) :
    KeepE W z (State.applySyncCmd a0 a1) := by
  unfold State.applySyncCmd
  grind only [= keepE_ok, = keepE_error, usr keep_rest, usr keep_foldl, usr keep_State_setSync, usr keep_State_tmSet]
grind_pattern keep_State_applySyncCmd => Keep W z a1, State.applySyncCmd a0 a1

theorem keep_State_dropCorr [Lets W .tm] {a0} (ha0 : Keep W z a0) :
    Keep W z (State.dropCorr a0) := by
  unfold State.dropCorr
  grind only [usr keep_rest, usr keep_foldl, usr keep_State_tmSet]
grind_pattern keep_State_dropCorr => Keep W z a0, State.dropCorr a0

theorem keep_State_applySyncMode [Lets W .objs] [Lets W .tm] [Lets W .irq] {a0 a1} (ha1 : Keep W z a1) :
    KeepE W z (State.applySyncMode a0 a1) := by
  unfold State.applySyncMode
  grind only [= keepE_ok, = keepE_error, usr keep_rest, usr keep_foldl, usr keep_State_oset, usr keep_State_setSync, usr keep_State_dropCorr, usr keep_State_tmSet]
grind_pattern keep_State_applySyncMode => Keep W z a1, State.applySyncMode a0 a1

theorem keep_State_applyTb1Cmd [Lets W .tm] {a0 a1} (ha1 : Keep W z a1) :
    KeepE W z (State.applyTb1Cmd a0 a1) := by
  unfold State.applyTb1Cmd
  grind only [= keepE_ok, = keepE_error, usr keep_rest, usr keep_foldl, usr keep_State_tmSet]
grind_pattern keep_State_applyTb1Cmd => Keep W z a1, State.applyTb1Cmd a0 a1

theorem keep_State_setTevt [Lets W .tm] {a0 a1 a2} (ha0 : Keep W z a0) :
    Keep W z (State.setTevt a0 a1 a2) := by
  unfold State.setTevt
  grind only [usr keep_rest, usr keep_foldl, usr keep_State_tmSet]
grind_pattern keep_State_setTevt => Keep W z a0, State.setTevt a0 a1 a2

theorem keep_State_noteTbStep [Lets W .tm] [Lets W .dsp] {a0 a1 a2 a3} (ha3 : Keep W z a3) :
    Keep W z (State.noteTbStep a0 a1 a2 a3) := by
  unfold State.noteTbStep
  try dsimp only
  repeat' (first | with_reducible assumption | with_reducible exact True.intro | intro _ | with_reducible apply keep_State_tmSet | with_reducible apply keep_State_noteStep | with_reducible apply keep_State_setTevt | with_reducible apply keep_ite | with_reducible apply keep_foldl | (simp only [keepE_ok, keepE_error, keepR_next, keepR_fault, keepR_refused, keepP_mk, keepP2_mk, keepP3_mk, keepO_some, keepO_none, keepO2_some, keepO2_none]) | split)
grind_pattern keep_State_noteTbStep => Keep W z a3, State.noteTbStep a0 a1 a2 a3

theorem keep_State_applyTb3 [Lets W .tm] [Lets W .dsp] {a0 a1} (ha1 : Keep W z a1) :
    KeepE W z (State.applyTb3 a0 a1) := by
  unfold State.applyTb3
  grind only [= keepE_ok, = keepE_error, usr keep_rest, usr keep_foldl, usr keep_State_tmSet, usr keep_State_noteTbStep]
grind_pattern keep_State_applyTb3 => Keep W z a1, State.applyTb3 a0 a1

theorem keep_State_applyTb3Rate [Lets W .objs] {a0 a1} (ha1 : Keep W z a1) :
    KeepE W z (State.applyTb3Rate a0 a1) := by
  unfold State.applyTb3Rate
  grind only [= keepE_ok, = keepE_error, usr keep_rest, usr keep_foldl, usr keep_State_oset]
grind_pattern keep_State_applyTb3Rate => Keep W z a1, State.applyTb3Rate a0 a1

theorem keep_State_applyTevtArm [Lets W .objs] [Lets W .tm] {a0 a1 a2} (ha2 : Keep W z a2) :
    KeepE W z (State.applyTevtArm a0 a1 a2) := by
  unfold State.applyTevtArm
  grind only [= keepE_ok, = keepE_error, usr keep_rest, usr keep_foldl, usr keep_State_oset, usr keep_State_setTevt]
grind_pattern keep_State_applyTevtArm => Keep W z a2, State.applyTevtArm a0 a1 a2

theorem keep_State_xlTime [Lets W .regs] [Lets W .xl] [Lets W .out] {a0} (ha0 : Keep W z a0) :
    Keep W z (State.xlTime a0) := by
  unfold State.xlTime
  grind only [usr keep_rest, usr keep_foldl, usr keep_State_xlSend]
grind_pattern keep_State_xlTime => Keep W z a0, State.xlTime a0

theorem keep_State_timeCueStart [Lets W .tm] {a0} (ha0 : Keep W z a0) :
    Keep W z (State.timeCueStart a0) := by
  unfold State.timeCueStart
  grind only [usr keep_rest, usr keep_foldl, usr keep_State_tmSet]
grind_pattern keep_State_timeCueStart => Keep W z a0, State.timeCueStart a0

theorem keep_State_followPort [Lets W .objs] [Lets W .tm] [Lets W .irq] {a0 a1} (ha1 : Keep W z a1) :
    Keep W z (State.followPort a0 a1) := by
  unfold State.followPort
  grind only [usr keep_rest, usr keep_foldl, usr keep_State_oset, usr keep_State_tmSet, usr keep_State_irqPost]
grind_pattern keep_State_followPort => Keep W z a1, State.followPort a0 a1

theorem keep_State_setTb1State [Lets W .objs] [Lets W .tm] [Lets W .irq] [Lets W .loop] {a0 a1} (ha1 : Keep W z a1) :
    Keep W z (State.setTb1State a0 a1) := by
  unfold State.setTb1State
  grind only [usr keep_rest, usr keep_foldl, usr keep_State_tmSet, usr keep_State_oset, usr keep_State_ncoTb1Lost, usr keep_State_irqPost]
grind_pattern keep_State_setTb1State => Keep W z a1, State.setTb1State a0 a1

theorem keep_State_masterLost [Lets W .objs] [Lets W .tm] [Lets W .irq] [Lets W .loop] {a0 a1} (ha1 : Keep W z a1) :
    Keep W z (State.masterLost a0 a1) := by
  unfold State.masterLost
  grind only [usr keep_rest, usr keep_foldl, usr keep_State_tmSet, usr keep_State_followPort, usr keep_State_setTb1State]
grind_pattern keep_State_masterLost => Keep W z a1, State.masterLost a0 a1

theorem keep_State_queueTime [Lets W .regs] [Lets W .ring] [Lets W .cap] [Lets W .out] {a0 a1} (ha1 : Keep W z a1) :
    Keep W z (State.queueTime a0 a1) := by
  unfold State.queueTime
  grind only [usr keep_rest, usr keep_foldl, usr keep_State_setPort, usr keep_State_queueBg]
grind_pattern keep_State_queueTime => Keep W z a1, State.queueTime a0 a1

theorem keep_State_setEdges [Lets W .objs] [Lets W .tm] {a0 a1 a2} (ha2 : Keep W z a2) :
    Keep W z (State.setEdges a0 a1 a2) := by
  unfold State.setEdges
  grind only [usr keep_rest, usr keep_foldl, usr keep_State_tmSet, usr keep_State_oset]
grind_pattern keep_State_setEdges => Keep W z a2, State.setEdges a0 a1 a2

theorem keep_State_captureEdge [Lets W .objs] [Lets W .regs] [Lets W .tm] [Lets W .irq] [Lets W .adc] [Lets W .cap] [Lets W .work] {a0 a1 a2} (ha2 : Keep W z a2) :
    Keep W z (State.captureEdge a0 a1 a2) := by
  unfold State.captureEdge
  grind only [usr keep_rest, usr keep_foldl, usr keep_State_irqPost, usr keep_State_oset, usr keep_State_setEdges, usr keep_State_seqStartAll, usr keep_State_capHappen]
grind_pattern keep_State_captureEdge => Keep W z a2, State.captureEdge a0 a1 a2

theorem keep_State_takeProbe [Lets W .objs] [Lets W .tm] {a0 a1 a2 a3} (ha3 : Keep W z a3) :
    Keep W z (State.takeProbe a0 a1 a2 a3) := by
  unfold State.takeProbe
  grind only [usr keep_rest, usr keep_foldl, usr keep_State_tmSet, usr keep_State_oset]
grind_pattern keep_State_takeProbe => Keep W z a3, State.takeProbe a0 a1 a2 a3

theorem keep_State_selectPort [Lets W .objs] [Lets W .tm] [Lets W .irq] {a0} (ha0 : Keep W z a0) :
    Keep W z (State.selectPort a0) := by
  unfold State.selectPort
  grind only [usr keep_rest, usr keep_foldl, usr keep_State_followPort]
grind_pattern keep_State_selectPort => Keep W z a0, State.selectPort a0

theorem keep_State_discipline [Lets W .tm] [Lets W .freeCtr] {a0 a1} (ha1 : Keep W z a1) :
    Keep W z (State.discipline a0 a1) := by
  unfold State.discipline
  grind only [usr keep_rest, usr keep_foldl, usr keep_State_tmSet, usr keep_State_drawn]
grind_pattern keep_State_discipline => Keep W z a1, State.discipline a0 a1

theorem keep_State_servoTrim [Lets W .freeCtr] {a0 a1} (ha1 : Keep W z a1) :
    KeepP W z (State.servoTrim a0 a1) := by
  unfold State.servoTrim
  grind only [= keepP_mk, → keepP_snd, ← keep_foldlP, usr keep_rest, usr keep_foldl, usr keep_State_drawn]
grind_pattern keep_State_servoTrim => Keep W z a1, State.servoTrim a0 a1

theorem keep_State_stepTb1 [Lets W .tm] [Lets W .dsp] {a0 a1} (ha1 : Keep W z a1) :
    Keep W z (State.stepTb1 a0 a1) := by
  unfold State.stepTb1
  grind only [usr keep_rest, usr keep_foldl, usr keep_State_tmSet, usr keep_State_noteTbStep]
grind_pattern keep_State_stepTb1 => Keep W z a1, State.stepTb1 a0 a1

theorem keep_State_takeSync [Lets W .objs] [Lets W .tm] [Lets W .irq] [Lets W .dsp] [Lets W .loop] [Lets W .freeCtr] {a0 a1} (ha1 : Keep W z a1) :
    Keep W z (State.takeSync a0 a1) := by
  unfold State.takeSync
  extract_lets +onlyGivenNames off s1 big trim s2
  have h1 : Keep W z s1 := keep_State_oset ha1
  have ht : ∀ t, Keep W z t → Keep W z (trim t) := fun t h => keep_State_tmSet (keepP_snd _ (keep_State_servoTrim h))
  clear_value trim big s1 off
  apply keep_State_discipline
  unfold s2
  split
  · exact keep_State_stepTb1 (keep_State_setTb1State h1)
  · split
    · have h3 : ∀ f, Keep W z (s1.tmSet f) := fun f => keep_State_tmSet h1
      dsimp only
      repeat' split
      all_goals first | exact keep_State_setTb1State (h3 _) | exact h3 _
    · split
      · exact keep_State_setTb1State h1
      · exact ht _ h1
    · split
      · exact h1
      · exact keep_State_setTb1State (ht _ h1)
    · exact keep_State_stepTb1 (keep_State_setTb1State h1)
grind_pattern keep_State_takeSync => Keep W z a1, State.takeSync a0 a1

theorem keep_State_syncEdge [Lets W .objs] [Lets W .tm] [Lets W .irq] {a0 a1} (ha1 : Keep W z a1) :
    Keep W z (State.syncEdge a0 a1) := by
  unfold State.syncEdge
  try dsimp only
  repeat' (first | with_reducible assumption | with_reducible exact True.intro | intro _ | with_reducible apply keep_State_oset | with_reducible apply keep_State_setSync | with_reducible apply keep_State_tmSet | with_reducible apply keep_State_bump | with_reducible apply keep_ite | with_reducible apply keep_foldl | (simp only [keepE_ok, keepE_error, keepR_next, keepR_fault, keepR_refused, keepP_mk, keepP2_mk, keepP3_mk, keepO_some, keepO_none, keepO2_some, keepO2_none]) | split)
grind_pattern keep_State_syncEdge => Keep W z a1, State.syncEdge a0 a1

theorem keep_State_tevtFire [Lets W .objs] [Lets W .regs] [Lets W .tm] [Lets W .irq] [Lets W .adc] [Lets W .loop] [Lets W .cap] [Lets W .work] [Lets W .freeCtr] [Lets W .out] {a0 a1} (ha1 : Keep W z a1) :
    Keep W z (State.tevtFire a0 a1) := by
  unfold State.tevtFire
  grind [keep_foldl, keep_State_oset, keep_State_setTevt, keep_State_seqStartTevt, keep_State_capHappen, keep_State_capBaseAll, keep_State_irqPost, keep_State_emit, keep_State_groupTevt, = keepE_ok, = keepE_error, = keepR_next, = keepR_fault, = keepR_refused, = keepP_mk, → keepP_snd, = keepP2_mk, → keepP2_snd, = keepP3_mk, → keepP3_snd, = keepO_some, = keepO_none, = keepO2_some, = keepO2_none]
grind_pattern keep_State_tevtFire => Keep W z a1, State.tevtFire a0 a1

theorem keep_State_tevtWait [Lets W .objs] [Lets W .regs] [Lets W .tm] [Lets W .flt] [Lets W .irq] [Lets W .pwm] [Lets W .bat] [Lets W .loop] [Lets W .cap] [Lets W .work] {a0 a1} (ha1 : Keep W z a1) :
    Keep W z (State.tevtWait a0 a1) := by
  unfold State.tevtWait
  try dsimp only
  repeat' (first | with_reducible assumption | with_reducible exact True.intro | intro _ | with_reducible apply keep_State_loopTo0 | with_reducible apply keep_State_loopTo2 | with_reducible apply keep_State_elapse | with_reducible apply keep_State_groupsTill | with_reducible apply keep_ite | with_reducible apply keep_foldl | (simp only [keepE_ok, keepE_error, keepR_next, keepR_fault, keepR_refused, keepP_mk, keepP2_mk, keepP3_mk, keepO_some, keepO_none, keepO2_some, keepO2_none]) | split)
grind_pattern keep_State_tevtWait => Keep W z a1, State.tevtWait a0 a1

theorem keep_State_forwardTime [Lets W .objs] [Lets W .regs] [Lets W .flt] [Lets W .irq] [Lets W .ring] [Lets W .cap] [Lets W .work] [Lets W .out] {a0 a1 a2 a3} (ha3 : Keep W z a3) :
    Keep W z (State.forwardTime a0 a1 a2 a3) := by
  unfold State.forwardTime
  grind only [usr keep_rest, usr keep_foldl, usr keep_State_forwardOut]
grind_pattern keep_State_forwardTime => Keep W z a3, State.forwardTime a0 a1 a2 a3

theorem keep_State_refuseStep [Lets W .objs] [Lets W .irq] {a0} (ha0 : Keep W z a0) :
    Keep W z (State.refuseStep a0) := by
  unfold State.refuseStep
  grind only [usr keep_rest, usr keep_foldl, usr keep_State_irqPost, usr keep_State_bump]
grind_pattern keep_State_refuseStep => Keep W z a0, State.refuseStep a0

theorem keep_State_stepTb0 [Lets W .tm] [Lets W .dsp] {a0 a1 a2} (ha2 : Keep W z a2) :
    Keep W z (State.stepTb0 a0 a1 a2) := by
  unfold State.stepTb0
  grind only [usr keep_rest, usr keep_foldl, usr keep_State_tmSet, usr keep_State_noteTbStep]
grind_pattern keep_State_stepTb0 => Keep W z a2, State.stepTb0 a0 a1 a2

theorem keep_State_trimTb0 [Lets W .tm] [Lets W .freeCtr] {a0} (ha0 : Keep W z a0) :
    Keep W z (State.trimTb0 a0) := by
  unfold State.trimTb0
  grind only [= keepP_mk, → keepP_snd, ← keep_foldlP, usr keep_rest, usr keep_foldl, usr keep_State_servoTrim, usr keep_State_tmSet]
grind_pattern keep_State_trimTb0 => Keep W z a0, State.trimTb0 a0

theorem keep_State_servo [Lets W .objs] [Lets W .tm] [Lets W .flt] [Lets W .irq] [Lets W .dsp] [Lets W .freeCtr] {a0 a1 a2 a3 a4} (ha4 : Keep W z a4) :
    Keep W z (State.servo a0 a1 a2 a3 a4) := by
  unfold State.servo
  try dsimp only
  repeat' (first | with_reducible assumption | with_reducible exact True.intro | intro _ | with_reducible apply keep_State_oset | with_reducible apply keep_State_tmSet | with_reducible apply keep_State_release | with_reducible apply keep_State_setTb0State | with_reducible apply keep_State_stepTb0 | with_reducible apply keep_State_refuseStep | with_reducible apply keep_State_trimTb0 | with_reducible apply keep_ite | with_reducible apply keep_foldl | (simp only [keepE_ok, keepE_error, keepR_next, keepR_fault, keepR_refused, keepP_mk, keepP2_mk, keepP3_mk, keepO_some, keepO_none, keepO2_some, keepO2_none]) | split)
grind_pattern keep_State_servo => Keep W z a4, State.servo a0 a1 a2 a3 a4

theorem keep_State_cellTime [Lets W .objs] [Lets W .regs] [Lets W .tm] [Lets W .flt] [Lets W .irq] [Lets W .dsp] [Lets W .ring] [Lets W .cap] [Lets W .work] [Lets W .freeCtr] [Lets W .out] {a0 a1 a2 a3 a4} (ha4 : Keep W z a4) :
    Keep W z (State.cellTime a0 a1 a2 a3 a4) := by
  unfold State.cellTime
  grind only [usr keep_rest, usr keep_foldl, usr keep_State_servo, usr keep_State_tmSet, usr keep_State_forwardTime]
grind_pattern keep_State_cellTime => Keep W z a4, State.cellTime a0 a1 a2 a3 a4

end Sys2Proof.Laws
end

