-- ==== Sys2Proof/Laws/KeepPowerOps.lean ====
section
/-! SUPPORT. What the operations of Machine/PowerOps keep (see Laws/Keep). -/

set_option Elab.async false
namespace Sys2Proof.Laws
open Sys2Proof.Machine
variable {W : Part → Prop} {z : State}

theorem keep_State_applyFenceCmd [Lets W .regs] [Lets W .flt] [Lets W .irq] {a0 a1} (ha1 : Keep W z a1) :
    KeepE W z (State.applyFenceCmd a0 a1) := by
  unfold State.applyFenceCmd
  grind only [= keepE_ok, = keepE_error, usr keep_rest, usr keep_foldl, usr keep_State_fltSet, usr keep_State_fence, usr keep_State_unfence]
grind_pattern keep_State_applyFenceCmd => Keep W z a1, State.applyFenceCmd a0 a1

theorem keep_State_fltClear [Lets W .flt] {a0 a1} (ha1 : Keep W z a1) :
    Keep W z (State.fltClear a0 a1) := by
  unfold State.fltClear
  grind only [usr keep_rest, usr keep_foldl, usr keep_State_clearLatched]
grind_pattern keep_State_fltClear => Keep W z a1, State.fltClear a0 a1

theorem keep_State_fltEmpty [Lets W .flt] {a0} (ha0 : Keep W z a0) :
    Keep W z (State.fltEmpty a0) := by
  unfold State.fltEmpty
  grind only [usr keep_rest, usr keep_foldl, usr keep_State_fltSet]
grind_pattern keep_State_fltEmpty => Keep W z a0, State.fltEmpty a0

theorem keep_State_resetPart [Lets W .objs] [Lets W .doms] [Lets W .regs] [Lets W .pw] [Lets W .tm] [Lets W .flt] [Lets W .irq] [Lets W .dsp] [Lets W .seat] [Lets W .ring] [Lets W .xl] [Lets W .pair] [Lets W .pwm] [Lets W .bat] [Lets W .adc] [Lets W .loop] [Lets W .cap] [Lets W .sl] [Lets W .saf] [Lets W .mod] [Lets W .work] [Lets W .mem] [Lets W .tap] [Lets W .freeCtr] [Lets W .out] {a0 a1 a2} (ha2 : Keep W z a2) :
    Keep W z (State.resetPart a0 a1 a2) := by
  unfold State.resetPart
  extract_lets +onlyGivenNames sampled fromStandby memLost s0 p tdie
  refine ha2.upd rfl (fun _ => ?_) (fun _ => rfl) (fun _ => rfl) (by intro p hp; cases p <;> first | contradiction | rfl)
  show Kv.wf Dict.dflt (if a0 = 1 then [] else _) = true
  split
  · rfl
  · exact wf_put _ _ _ _ rfl
grind_pattern keep_State_resetPart => Keep W z a2, State.resetPart a0 a1 a2

theorem keep_State_holdRelease [Lets W .objs] [Lets W .doms] [Lets W .regs] [Lets W .pw] [Lets W .tm] [Lets W .flt] [Lets W .irq] [Lets W .dsp] [Lets W .seat] [Lets W .ring] [Lets W .xl] [Lets W .pair] [Lets W .pwm] [Lets W .bat] [Lets W .adc] [Lets W .loop] [Lets W .cap] [Lets W .sl] [Lets W .saf] [Lets W .mod] [Lets W .work] [Lets W .mem] [Lets W .tap] [Lets W .freeCtr] [Lets W .out] {a0} (ha0 : Keep W z a0) :
    Keep W z (State.holdRelease a0) := by
  unfold State.holdRelease
  grind only [usr keep_rest, usr keep_foldl, usr keep_State_fltSet, usr keep_State_resetPart, usr keep_State_pwSet]
grind_pattern keep_State_holdRelease => Keep W z a0, State.holdRelease a0

theorem keep_State_applyFltCmd [Lets W .objs] [Lets W .doms] [Lets W .regs] [Lets W .pw] [Lets W .tm] [Lets W .flt] [Lets W .irq] [Lets W .dsp] [Lets W .seat] [Lets W .ring] [Lets W .xl] [Lets W .pair] [Lets W .pwm] [Lets W .bat] [Lets W .adc] [Lets W .loop] [Lets W .cap] [Lets W .sl] [Lets W .saf] [Lets W .mod] [Lets W .work] [Lets W .mem] [Lets W .tap] [Lets W .freeCtr] [Lets W .out] {a0 a1} (ha1 : Keep W z a1) :
    KeepE W z (State.applyFltCmd a0 a1) := by
  unfold State.applyFltCmd
  grind only [= keepE_ok, = keepE_error, usr keep_rest, usr keep_foldl, usr keep_State_fltEmpty, usr keep_State_fltClear, usr keep_State_holdRelease]
grind_pattern keep_State_applyFltCmd => Keep W z a1, State.applyFltCmd a0 a1

theorem keep_State_standbyEnter [Lets W .pw] [Lets W .irq] [Lets W .ring] [Lets W .xl] [Lets W .pwm] [Lets W .bat] [Lets W .saf] [Lets W .out] {a0} (ha0 : Keep W z a0) :
    Keep W z (State.standbyEnter a0) := by
  unfold State.standbyEnter
  grind only [usr keep_rest, usr keep_foldl, usr keep_State_dropOutputs, usr keep_State_batEnter, usr keep_State_setSo, usr keep_State_pwSet, usr keep_State_stopXls, usr keep_State_stopPorts]
grind_pattern keep_State_standbyEnter => Keep W z a0, State.standbyEnter a0

theorem keep_State_applyPwrCmd [Lets W .objs] [Lets W .doms] [Lets W .regs] [Lets W .pw] [Lets W .tm] [Lets W .flt] [Lets W .irq] [Lets W .dsp] [Lets W .seat] [Lets W .ring] [Lets W .xl] [Lets W .pair] [Lets W .pwm] [Lets W .bat] [Lets W .adc] [Lets W .loop] [Lets W .cap] [Lets W .sl] [Lets W .saf] [Lets W .mod] [Lets W .work] [Lets W .mem] [Lets W .tap] [Lets W .freeCtr] [Lets W .out] {a0 a1} (ha1 : Keep W z a1) :
    KeepE W z (State.applyPwrCmd a0 a1) := by
  unfold State.applyPwrCmd
  grind only [= keepE_ok, = keepE_error, usr keep_rest, usr keep_foldl, usr keep_State_standbyEnter, usr keep_State_resetPart]
grind_pattern keep_State_applyPwrCmd => Keep W z a1, State.applyPwrCmd a0 a1

theorem keep_State_selfCheck [Lets W .regs] [Lets W .flt] [Lets W .irq] [Lets W .cap] [Lets W .work] {a0 a1} (ha1 : Keep W z a1) :
    Keep W z (State.selfCheck a0 a1) := by
  unfold State.selfCheck
  grind only [usr keep_rest, usr keep_foldl, usr keep_State_fltSet, usr keep_State_raise]
grind_pattern keep_State_selfCheck => Keep W z a1, State.selfCheck a0 a1

theorem keep_State_causersCount [Lets W .pw] [Lets W .flt] {a0} (ha0 : Keep W z a0) :
    Keep W z (State.causersCount a0) := by
  unfold State.causersCount
  grind only [usr keep_rest, usr keep_foldl, usr keep_State_setFsrc, usr keep_State_pwSet]
grind_pattern keep_State_causersCount => Keep W z a0, State.causersCount a0

theorem keep_State_collectorReset [Lets W .objs] [Lets W .doms] [Lets W .regs] [Lets W .pw] [Lets W .tm] [Lets W .flt] [Lets W .irq] [Lets W .dsp] [Lets W .seat] [Lets W .ring] [Lets W .xl] [Lets W .pair] [Lets W .pwm] [Lets W .bat] [Lets W .adc] [Lets W .loop] [Lets W .cap] [Lets W .sl] [Lets W .saf] [Lets W .mod] [Lets W .work] [Lets W .mem] [Lets W .tap] [Lets W .freeCtr] [Lets W .out] {a0} (ha0 : Keep W z a0) :
    Keep W z (State.collectorReset a0) := by
  unfold State.collectorReset
  grind only [usr keep_rest, usr keep_foldl, usr keep_State_causersCount, usr keep_State_resetPart, usr keep_State_fltSet]
grind_pattern keep_State_collectorReset => Keep W z a0, State.collectorReset a0

theorem keep_State_resetRelease [Lets W .pw] {a0} (ha0 : Keep W z a0) :
    Keep W z (State.resetRelease a0) := by
  unfold State.resetRelease
  grind only [usr keep_rest, usr keep_foldl, usr keep_State_pwSet]
grind_pattern keep_State_resetRelease => Keep W z a0, State.resetRelease a0

theorem keep_State_refLoss [Lets W .objs] [Lets W .regs] [Lets W .pw] [Lets W .flt] [Lets W .irq] [Lets W .ring] [Lets W .xl] [Lets W .pwm] [Lets W .bat] [Lets W .loop] [Lets W .cap] [Lets W .work] [Lets W .out] {a0} (ha0 : Keep W z a0) :
    Keep W z (State.refLoss a0) := by
  unfold State.refLoss
  try dsimp only
  repeat' (first | with_reducible assumption | with_reducible exact True.intro | intro _ | with_reducible apply keep_State_withForce | with_reducible apply keep_State_pwSet | with_reducible apply keep_State_irqPost | with_reducible apply keep_State_raise | with_reducible apply keep_State_linkLost | with_reducible apply keep_State_xlDown | with_reducible apply keep_State_stopPorts | with_reducible apply keep_State_stopXls | with_reducible apply keep_ite | with_reducible apply keep_foldl | (simp only [keepE_ok, keepE_error, keepR_next, keepR_fault, keepR_refused, keepP_mk, keepP2_mk, keepP3_mk, keepO_some, keepO_none, keepO2_some, keepO2_none]) | split)
grind_pattern keep_State_refLoss => Keep W z a0, State.refLoss a0

theorem keep_State_refBack [Lets W .objs] [Lets W .pw] [Lets W .tm] [Lets W .flt] [Lets W .irq] [Lets W .ring] [Lets W .xl] [Lets W .out] {a0} (ha0 : Keep W z a0) :
    Keep W z (State.refBack a0) := by
  unfold State.refBack
  grind only [usr keep_rest, usr keep_foldl, usr keep_State_pwSet, usr keep_State_irqPost, usr keep_State_release, usr keep_State_setTb0State, usr keep_State_startXls, usr keep_State_startPorts]
grind_pattern keep_State_refBack => Keep W z a0, State.refBack a0

theorem keep_State_roleSample [Lets W .pw] {a0 a1} (ha1 : Keep W z a1) :
    Keep W z (State.roleSample a0 a1) := by
  unfold State.roleSample
  grind only [usr keep_rest, usr keep_foldl, usr keep_State_pwSet]
grind_pattern keep_State_roleSample => Keep W z a1, State.roleSample a0 a1

theorem keep_State_resetNow [Lets W .objs] [Lets W .doms] [Lets W .regs] [Lets W .pw] [Lets W .tm] [Lets W .flt] [Lets W .irq] [Lets W .dsp] [Lets W .seat] [Lets W .ring] [Lets W .xl] [Lets W .pair] [Lets W .pwm] [Lets W .bat] [Lets W .adc] [Lets W .loop] [Lets W .cap] [Lets W .sl] [Lets W .saf] [Lets W .mod] [Lets W .work] [Lets W .mem] [Lets W .tap] [Lets W .freeCtr] [Lets W .out] {a0 a1} (ha1 : Keep W z a1) :
    Keep W z (State.resetNow a0 a1) := by
  unfold State.resetNow
  grind only [usr keep_rest, usr keep_foldl, usr keep_State_resetPart]
grind_pattern keep_State_resetNow => Keep W z a1, State.resetNow a0 a1

theorem keep_State_aonTime [Lets W .tm] {a0 a1} (ha1 : Keep W z a1) :
    Keep W z (State.aonTime a0 a1) := by
  unfold State.aonTime
  grind only [usr keep_rest, usr keep_foldl, usr keep_State_tmSet]
grind_pattern keep_State_aonTime => Keep W z a1, State.aonTime a0 a1

theorem keep_State_wakeStart [Lets W .objs] [Lets W .doms] [Lets W .regs] [Lets W .pw] [Lets W .tm] [Lets W .flt] [Lets W .irq] [Lets W .dsp] [Lets W .seat] [Lets W .ring] [Lets W .xl] [Lets W .pair] [Lets W .pwm] [Lets W .bat] [Lets W .adc] [Lets W .loop] [Lets W .cap] [Lets W .sl] [Lets W .saf] [Lets W .mod] [Lets W .work] [Lets W .mem] [Lets W .tap] [Lets W .freeCtr] [Lets W .out] {a0 a1 a2} (ha2 : Keep W z a2) :
    Keep W z (State.wakeStart a0 a1 a2) := by
  unfold State.wakeStart
  grind only [usr keep_rest, usr keep_foldl, usr keep_State_resetPart, usr keep_State_aonTime]
grind_pattern keep_State_wakeStart => Keep W z a2, State.wakeStart a0 a1 a2

theorem keep_State_startReports [Lets W .objs] [Lets W .regs] [Lets W .pw] [Lets W .flt] [Lets W .irq] [Lets W .cap] [Lets W .work] {a0} (ha0 : Keep W z a0) :
    Keep W z (State.startReports a0) := by
  unfold State.startReports
  grind [keep_foldl, keep_State_pulse, keep_State_irqPost, keep_State_fltEvt, keep_State_pwSet, keep_State_oset, = keepE_ok, = keepE_error, = keepR_next, = keepR_fault, = keepR_refused, = keepP_mk, → keepP_snd, = keepP2_mk, → keepP2_snd, = keepP3_mk, → keepP3_snd, = keepO_some, = keepO_none, = keepO2_some, = keepO2_none]
grind_pattern keep_State_startReports => Keep W z a0, State.startReports a0

theorem keep_State_takeParams [Lets W .objs] [Lets W .pw] [Lets W .tm] [Lets W .irq] [Lets W .cap] {a0} (ha0 : Keep W z a0) :
    Keep W z (State.takeParams a0) := by
  unfold State.takeParams
  grind only [usr keep_rest, usr keep_foldl, usr keep_State_pwSet, usr keep_State_tmSet, usr keep_State_capSet, usr keep_State_oset, usr keep_State_setSync]
grind_pattern keep_State_takeParams => Keep W z a0, State.takeParams a0

theorem keep_State_startUp [Lets W .objs] [Lets W .doms] [Lets W .regs] [Lets W .pw] [Lets W .tm] [Lets W .flt] [Lets W .irq] [Lets W .seat] [Lets W .ring] [Lets W .xl] [Lets W .pair] [Lets W .pwm] [Lets W .bat] [Lets W .adc] [Lets W .loop] [Lets W .cap] [Lets W .sl] [Lets W .saf] [Lets W .work] [Lets W .mem] [Lets W .out] {a0 a1} (ha1 : Keep W z a1) :
    Keep W z (State.startUp a0 a1) := by
  unfold State.startUp
  grind [keep_foldl, keep_State_pwSet, keep_State_logWrite, keep_State_startReports, keep_State_takeParams, keep_State_paramLoad, keep_State_setRef, keep_State_netTest, keep_State_safSet, keep_State_safUpdate, keep_State_raise, keep_State_safVerify, keep_State_seqTimerArm, keep_State_settle, keep_State_startXls, keep_State_startPorts, = keepE_ok, = keepE_error, = keepR_next, = keepR_fault, = keepR_refused, = keepP_mk, → keepP_snd, = keepP2_mk, → keepP2_snd, = keepP3_mk, → keepP3_snd, = keepO_some, = keepO_none, = keepO2_some, = keepO2_none]
grind_pattern keep_State_startUp => Keep W z a1, State.startUp a0 a1

theorem keep_State_turnOff [Lets W .objs] [Lets W .doms] [Lets W .regs] [Lets W .pw] [Lets W .tm] [Lets W .flt] [Lets W .irq] [Lets W .dsp] [Lets W .seat] [Lets W .ring] [Lets W .xl] [Lets W .pair] [Lets W .pwm] [Lets W .bat] [Lets W .adc] [Lets W .loop] [Lets W .cap] [Lets W .sl] [Lets W .saf] [Lets W .mod] [Lets W .work] [Lets W .mem] [Lets W .tap] [Lets W .freeCtr] [Lets W .out] {a0} (ha0 : Keep W z a0) :
    Keep W z (State.turnOff a0) := by
  unfold State.turnOff
  grind only [usr keep_rest, usr keep_foldl, usr keep_State_pwSet, usr keep_State_resetPart]
grind_pattern keep_State_turnOff => Keep W z a0, State.turnOff a0

end Sys2Proof.Laws
end

