-- ==== Sys2Proof/Laws/KeepFaults.lean ====
section
/-! SUPPORT. What the operations of Machine/Faults keep (see Laws/Keep). -/

set_option Elab.async false
namespace Sys2Proof.Laws
open Sys2Proof.Machine
variable {W : Part → Prop} {z : State}

theorem keep_execCollectorSelfCheck [Lets W .regs] [Lets W .flt] [Lets W .irq] [Lets W .cap] [Lets W .work] {a0 a1} (ha1 : Keep W z a1) :
    KeepR W z (execCollectorSelfCheck a0 a1) := by
  unfold execCollectorSelfCheck
  grind only [= keepR_next, = keepR_fault, = keepR_refused, usr keep_rest, usr keep_foldl, usr keep_State_selfCheck]
grind_pattern keep_execCollectorSelfCheck => Keep W z a1, execCollectorSelfCheck a0 a1

theorem keep_execFaultCollectorReset [Lets W .objs] [Lets W .doms] [Lets W .regs] [Lets W .pw] [Lets W .tm] [Lets W .flt] [Lets W .irq] [Lets W .dsp] [Lets W .seat] [Lets W .ring] [Lets W .xl] [Lets W .pair] [Lets W .pwm] [Lets W .bat] [Lets W .adc] [Lets W .loop] [Lets W .cap] [Lets W .sl] [Lets W .saf] [Lets W .mod] [Lets W .work] [Lets W .mem] [Lets W .tap] [Lets W .freeCtr] [Lets W .out] {a0} (ha0 : Keep W z a0) :
    KeepR W z (execFaultCollectorReset a0) := by
  unfold execFaultCollectorReset
  grind only [= keepR_next, = keepR_fault, = keepR_refused, usr keep_rest, usr keep_foldl, usr keep_State_collectorReset]
grind_pattern keep_execFaultCollectorReset => Keep W z a0, execFaultCollectorReset a0

theorem keep_execFaultForgiveExpiry [Lets W .tm] [Lets W .flt] {a0 a1} (ha1 : Keep W z a1) :
    KeepR W z (execFaultForgiveExpiry a0 a1) := by
  unfold execFaultForgiveExpiry
  grind only [= keepR_next, = keepR_fault, = keepR_refused, usr keep_rest, usr keep_foldl, usr keep_State_toTb2, usr keep_State_setFsrc]
grind_pattern keep_execFaultForgiveExpiry => Keep W z a1, execFaultForgiveExpiry a0 a1

theorem keep_execFaultPinAssert [Lets W .regs] [Lets W .flt] [Lets W .irq] [Lets W .cap] [Lets W .work] {a0 a1} (ha1 : Keep W z a1) :
    KeepR W z (execFaultPinAssert a0 a1) := by
  unfold execFaultPinAssert
  grind only [= keepR_next, = keepR_fault, = keepR_refused, usr keep_rest, usr keep_foldl, usr keep_State_raise]
grind_pattern keep_execFaultPinAssert => Keep W z a1, execFaultPinAssert a0 a1

theorem keep_execFaultPinRelease [Lets W .flt] {a0 a1 a2} (ha2 : Keep W z a2) :
    KeepR W z (execFaultPinRelease a0 a1 a2) := by
  unfold execFaultPinRelease
  grind only [= keepR_next, = keepR_fault, = keepR_refused, usr keep_rest, usr keep_foldl, usr keep_State_release]
grind_pattern keep_execFaultPinRelease => Keep W z a2, execFaultPinRelease a0 a1 a2

theorem keep_execFaultQuietExpiry [Lets W .regs] [Lets W .tm] [Lets W .flt] [Lets W .irq] {a0 a1} (ha1 : Keep W z a1) :
    KeepR W z (execFaultQuietExpiry a0 a1) := by
  unfold execFaultQuietExpiry
  grind only [= keepR_next, = keepR_fault, = keepR_refused, usr keep_rest, usr keep_foldl, usr keep_State_quietEnd, usr keep_State_toTb2]
grind_pattern keep_execFaultQuietExpiry => Keep W z a1, execFaultQuietExpiry a0 a1

theorem keep_execFenceCmdFence [Lets W .regs] [Lets W .pw] [Lets W .flt] [Lets W .irq] [Lets W .seat] [Lets W .pair] [Lets W .cap] [Lets W .work] [Lets W .out] {a0 a1 a2 a3} (ha3 : Keep W z a3) :
    KeepR W z (execFenceCmdFence a0 a1 a2 a3) := by
  unfold execFenceCmdFence
  grind only [= keepE_ok, = keepE_error, = keepR_next, = keepR_fault, = keepR_refused, usr keep_rest, usr keep_foldl, keep_State_guardedValue, usr keep_State_applyFenceCmd]
grind_pattern keep_execFenceCmdFence => Keep W z a3, execFenceCmdFence a0 a1 a2 a3

theorem keep_execFenceCmdUnfence [Lets W .regs] [Lets W .pw] [Lets W .flt] [Lets W .irq] [Lets W .seat] [Lets W .pair] [Lets W .cap] [Lets W .work] [Lets W .out] {a0 a1 a2 a3} (ha3 : Keep W z a3) :
    KeepR W z (execFenceCmdUnfence a0 a1 a2 a3) := by
  unfold execFenceCmdUnfence
  grind only [= keepE_ok, = keepE_error, = keepR_next, = keepR_fault, = keepR_refused, usr keep_rest, usr keep_foldl, keep_State_guardedValue, usr keep_State_applyFenceCmd]
grind_pattern keep_execFenceCmdUnfence => Keep W z a3, execFenceCmdUnfence a0 a1 a2 a3

theorem keep_execFltCmdClearLatched [Lets W .objs] [Lets W .doms] [Lets W .regs] [Lets W .pw] [Lets W .tm] [Lets W .flt] [Lets W .irq] [Lets W .dsp] [Lets W .seat] [Lets W .ring] [Lets W .xl] [Lets W .pair] [Lets W .pwm] [Lets W .bat] [Lets W .adc] [Lets W .loop] [Lets W .cap] [Lets W .sl] [Lets W .saf] [Lets W .mod] [Lets W .work] [Lets W .mem] [Lets W .tap] [Lets W .freeCtr] [Lets W .out] {a0 a1} (ha1 : Keep W z a1) :
    KeepR W z (execFltCmdClearLatched a0 a1) := by
  unfold execFltCmdClearLatched
  grind only [= keepE_ok, = keepE_error, = keepR_next, = keepR_fault, = keepR_refused, usr keep_rest, usr keep_foldl, keep_State_guardedValue, usr keep_State_applyFltCmd, usr keep_State_fltClear]
grind_pattern keep_execFltCmdClearLatched => Keep W z a1, execFltCmdClearLatched a0 a1

theorem keep_execFltCmdEmpty [Lets W .objs] [Lets W .doms] [Lets W .regs] [Lets W .pw] [Lets W .tm] [Lets W .flt] [Lets W .irq] [Lets W .dsp] [Lets W .seat] [Lets W .ring] [Lets W .xl] [Lets W .pair] [Lets W .pwm] [Lets W .bat] [Lets W .adc] [Lets W .loop] [Lets W .cap] [Lets W .sl] [Lets W .saf] [Lets W .mod] [Lets W .work] [Lets W .mem] [Lets W .tap] [Lets W .freeCtr] [Lets W .out] {a0 a1} (ha1 : Keep W z a1) :
    KeepR W z (execFltCmdEmpty a0 a1) := by
  unfold execFltCmdEmpty
  grind only [= keepE_ok, = keepE_error, = keepR_next, = keepR_fault, = keepR_refused, usr keep_rest, usr keep_foldl, keep_State_guardedValue, usr keep_State_applyFltCmd, usr keep_State_fltEmpty]
grind_pattern keep_execFltCmdEmpty => Keep W z a1, execFltCmdEmpty a0 a1

theorem keep_execFltCmdRelease [Lets W .objs] [Lets W .doms] [Lets W .regs] [Lets W .pw] [Lets W .tm] [Lets W .flt] [Lets W .irq] [Lets W .dsp] [Lets W .seat] [Lets W .ring] [Lets W .xl] [Lets W .pair] [Lets W .pwm] [Lets W .bat] [Lets W .adc] [Lets W .loop] [Lets W .cap] [Lets W .sl] [Lets W .saf] [Lets W .mod] [Lets W .work] [Lets W .mem] [Lets W .tap] [Lets W .freeCtr] [Lets W .out] {a0 a1} (ha1 : Keep W z a1) :
    KeepR W z (execFltCmdRelease a0 a1) := by
  unfold execFltCmdRelease
  grind only [= keepE_ok, = keepE_error, = keepR_next, = keepR_fault, = keepR_refused, usr keep_rest, usr keep_foldl, keep_State_guardedValue, usr keep_State_applyFltCmd, usr keep_State_holdRelease]
grind_pattern keep_execFltCmdRelease => Keep W z a1, execFltCmdRelease a0 a1

theorem keep_execFltFstatClear [Lets W .flt] {a0 a1 a2 a3} (ha3 : Keep W z a3) :
    KeepR W z (execFltFstatClear a0 a1 a2 a3) := by
  unfold execFltFstatClear
  grind only [= keepR_next, = keepR_fault, = keepR_refused, usr keep_rest, usr keep_foldl, usr keep_State_fltClear]
grind_pattern keep_execFltFstatClear => Keep W z a3, execFltFstatClear a0 a1 a2 a3

end Sys2Proof.Laws
end

