-- ==== Sys2Proof/Laws/KeepEvents.lean ====
section
/-! SUPPORT. What the operations of Machine/Events keep (see Laws/Keep). -/

set_option Elab.async false
namespace Sys2Proof.Laws
open Sys2Proof.Machine
variable {W : Part → Prop} {z : State}

theorem keep_execDelayListRelease [Lets W .regs] [Lets W .tm] [Lets W .irq] [Lets W .dsp] [Lets W .work] [Lets W .freeCtr] {a0} (ha0 : Keep W z a0) :
    KeepR W z (execDelayListRelease a0) := by
  unfold execDelayListRelease
  grind only [= keepR_next, = keepR_fault, = keepR_refused, usr keep_rest, usr keep_foldl, usr keep_State_delayTick]
grind_pattern keep_execDelayListRelease => Keep W z a0, execDelayListRelease a0

theorem keep_execDspCmdDiscard [Lets W .regs] [Lets W .pw] [Lets W .flt] [Lets W .irq] [Lets W .dsp] [Lets W .seat] [Lets W .pair] [Lets W .cap] [Lets W .work] [Lets W .out] {a0 a1} (ha1 : Keep W z a1) :
    KeepR W z (execDspCmdDiscard a0 a1) := by
  unfold execDspCmdDiscard
  grind only [= keepR_next, = keepR_fault, = keepR_refused, usr keep_rest, usr keep_foldl, keep_State_regOrObj, usr keep_State_dspCmdBy]
grind_pattern keep_execDspCmdDiscard => Keep W z a1, execDspCmdDiscard a0 a1

theorem keep_execDspCmdPurge [Lets W .regs] [Lets W .pw] [Lets W .flt] [Lets W .irq] [Lets W .dsp] [Lets W .seat] [Lets W .pair] [Lets W .cap] [Lets W .work] [Lets W .out] {a0 a1} (ha1 : Keep W z a1) :
    KeepR W z (execDspCmdPurge a0 a1) := by
  unfold execDspCmdPurge
  grind only [= keepR_next, = keepR_fault, = keepR_refused, usr keep_rest, usr keep_foldl, keep_State_regOrObj, usr keep_State_dspCmdBy]
grind_pattern keep_execDspCmdPurge => Keep W z a1, execDspCmdPurge a0 a1

theorem keep_execDspCmdReturn [Lets W .regs] [Lets W .pw] [Lets W .flt] [Lets W .irq] [Lets W .dsp] [Lets W .seat] [Lets W .pair] [Lets W .cap] [Lets W .work] [Lets W .out] {a0 a1} (ha1 : Keep W z a1) :
    KeepR W z (execDspCmdReturn a0 a1) := by
  unfold execDspCmdReturn
  grind only [= keepR_next, = keepR_fault, = keepR_refused, usr keep_rest, usr keep_foldl, keep_State_regOrObj, usr keep_State_dspCmdBy]
grind_pattern keep_execDspCmdReturn => Keep W z a1, execDspCmdReturn a0 a1

theorem keep_execDspDone [Lets W .regs] [Lets W .pw] [Lets W .flt] [Lets W .irq] [Lets W .dsp] [Lets W .seat] [Lets W .pair] [Lets W .cap] [Lets W .work] [Lets W .out] {a0 a1 a2} (ha2 : Keep W z a2) :
    KeepR W z (execDspDone a0 a1 a2) := by
  unfold execDspDone
  grind only [= keepR_next, = keepR_fault, = keepR_refused, usr keep_rest, usr keep_foldl, keep_State_regOrObj, usr keep_State_dspDoneBy]
grind_pattern keep_execDspDone => Keep W z a2, execDspDone a0 a1 a2

theorem keep_execDspLstatRead [Lets W .dsp] [Lets W .out] {a0 a1 a2} (ha2 : Keep W z a2) :
    KeepR W z (execDspLstatRead a0 a1 a2) := by
  unfold execDspLstatRead
  grind only [= keepR_next, = keepR_fault, = keepR_refused, = keepP_mk, → keepP_snd, ← keep_foldlP, usr keep_rest, usr keep_foldl, keep_State_regRead, usr keep_State_lstatRead]
grind_pattern keep_execDspLstatRead => Keep W z a2, execDspLstatRead a0 a1 a2

theorem keep_execDspMstatRead [Lets W .dsp] [Lets W .out] {a0 a1} (ha1 : Keep W z a1) :
    KeepR W z (execDspMstatRead a0 a1) := by
  unfold execDspMstatRead
  grind only [= keepR_next, = keepR_fault, = keepR_refused, = keepP_mk, → keepP_snd, ← keep_foldlP, usr keep_rest, usr keep_foldl, keep_State_regRead, usr keep_State_mstatRead]
grind_pattern keep_execDspMstatRead => Keep W z a1, execDspMstatRead a0 a1

theorem keep_execDspPop [Lets W .objs] [Lets W .regs] [Lets W .pw] [Lets W .flt] [Lets W .irq] [Lets W .dsp] [Lets W .seat] [Lets W .cap] [Lets W .work] [Lets W .freeCtr] [Lets W .out] {a0 a1 a2} (ha2 : Keep W z a2) :
    KeepR W z (execDspPop a0 a1 a2) := by
  unfold execDspPop
  grind only [= keepR_next, = keepR_fault, = keepR_refused, = keepP_mk, → keepP_snd, ← keep_foldlP, usr keep_rest, usr keep_foldl, keep_State_regRead, usr keep_State_dspPopBy, keep_State_guardedRead]
grind_pattern keep_execDspPop => Keep W z a2, execDspPop a0 a1 a2

theorem keep_pushRegs [Lets W .regs] {a0 a1 a2} (ha2 : Keep W z a2) :
    Keep W z (pushRegs a0 a1 a2) := by
  unfold pushRegs
  grind only [usr keep_rest, usr keep_foldl, usr keep_State_rset]
grind_pattern keep_pushRegs => Keep W z a2, pushRegs a0 a1 a2

theorem keep_execDspPushDelay [Lets W .regs] [Lets W .pw] [Lets W .flt] [Lets W .irq] [Lets W .dsp] [Lets W .seat] [Lets W .pair] [Lets W .cap] [Lets W .work] [Lets W .freeCtr] [Lets W .out] {a0 a1 a2 a3 a4 a5 a6 a7} (ha7 : Keep W z a7) :
    KeepR W z (execDspPushDelay a0 a1 a2 a3 a4 a5 a6 a7) := by
  unfold execDspPushDelay
  grind only [= keepR_next, = keepR_fault, = keepR_refused, usr keep_rest, usr keep_foldl, keep_State_regOrObj, usr keep_State_dspPushBy, usr keep_pushRegs]
grind_pattern keep_execDspPushDelay => Keep W z a7, execDspPushDelay a0 a1 a2 a3 a4 a5 a6 a7

theorem keep_execDspPushDirect [Lets W .regs] [Lets W .pw] [Lets W .flt] [Lets W .irq] [Lets W .dsp] [Lets W .seat] [Lets W .pair] [Lets W .cap] [Lets W .work] [Lets W .freeCtr] [Lets W .out] {a0 a1 a2 a3 a4 a5} (ha5 : Keep W z a5) :
    KeepR W z (execDspPushDirect a0 a1 a2 a3 a4 a5) := by
  unfold execDspPushDirect
  grind only [= keepR_next, = keepR_fault, = keepR_refused, usr keep_rest, usr keep_foldl, keep_State_regOrObj, usr keep_State_dspPushBy, usr keep_pushRegs]
grind_pattern keep_execDspPushDirect => Keep W z a5, execDspPushDirect a0 a1 a2 a3 a4 a5

theorem keep_execDspPushOperand [Lets W .regs] [Lets W .pw] [Lets W .flt] [Lets W .irq] [Lets W .dsp] [Lets W .seat] [Lets W .pair] [Lets W .cap] [Lets W .work] [Lets W .freeCtr] [Lets W .out] {a0 a1 a2 a3 a4 a5} (ha5 : Keep W z a5) :
    KeepR W z (execDspPushOperand a0 a1 a2 a3 a4 a5) := by
  unfold execDspPushOperand
  grind only [= keepR_next, = keepR_fault, = keepR_refused, usr keep_rest, usr keep_foldl, keep_State_regOrObj, usr keep_State_dspPushBy, usr keep_pushRegs]
grind_pattern keep_execDspPushOperand => Keep W z a5, execDspPushOperand a0 a1 a2 a3 a4 a5

theorem keep_execDspQdepthRead [Lets W .dsp] [Lets W .out] {a0 a1 a2} (ha2 : Keep W z a2) :
    KeepR W z (execDspQdepthRead a0 a1 a2) := by
  unfold execDspQdepthRead
  grind only [= keepR_next, = keepR_fault, = keepR_refused, = keepP_mk, → keepP_snd, ← keep_foldlP, usr keep_rest, usr keep_foldl, keep_State_regRead, usr keep_State_qdepthRead]
grind_pattern keep_execDspQdepthRead => Keep W z a2, execDspQdepthRead a0 a1 a2

theorem keep_execDspQwaitRead [Lets W .dsp] [Lets W .out] {a0 a1 a2} (ha2 : Keep W z a2) :
    KeepR W z (execDspQwaitRead a0 a1 a2) := by
  unfold execDspQwaitRead
  grind only [= keepR_next, = keepR_fault, = keepR_refused, = keepP_mk, → keepP_snd, ← keep_foldlP, usr keep_rest, usr keep_foldl, keep_State_regRead, usr keep_State_qwaitRead]
grind_pattern keep_execDspQwaitRead => Keep W z a2, execDspQwaitRead a0 a1 a2

theorem keep_execGroupDelivery [Lets W .regs] [Lets W .irq] [Lets W .dsp] [Lets W .seat] [Lets W .work] [Lets W .freeCtr] [Lets W .out] {a0 a1} (ha1 : Keep W z a1) :
    KeepR W z (execGroupDelivery a0 a1) := by
  unfold execGroupDelivery
  grind only [= keepR_next, = keepR_fault, = keepR_refused, usr keep_rest, usr keep_foldl, usr keep_State_arbitrate]
grind_pattern keep_execGroupDelivery => Keep W z a1, execGroupDelivery a0 a1

theorem keep_execIrqClaim [Lets W .regs] [Lets W .pw] [Lets W .flt] [Lets W .irq] [Lets W .dsp] [Lets W .seat] [Lets W .cap] [Lets W .work] [Lets W .freeCtr] [Lets W .out] {a0 a1} (ha1 : Keep W z a1) :
    KeepR W z (execIrqClaim a0 a1) := by
  unfold execIrqClaim
  grind only [= keepR_next, = keepR_fault, = keepR_refused, = keepP_mk, → keepP_snd, ← keep_foldlP, usr keep_rest, usr keep_foldl, keep_State_regRead, usr keep_State_claimFor, keep_State_guardedRead]
grind_pattern keep_execIrqClaim => Keep W z a1, execIrqClaim a0 a1

theorem keep_execIrqClrWrite [Lets W .irq] {a0 a1 a2 a3} (ha3 : Keep W z a3) :
    KeepR W z (execIrqClrWrite a0 a1 a2 a3) := by
  unfold execIrqClrWrite
  grind only [= keepR_next, = keepR_fault, = keepR_refused, usr keep_rest, usr keep_foldl, usr keep_State_irqClrBits]
grind_pattern keep_execIrqClrWrite => Keep W z a3, execIrqClrWrite a0 a1 a2 a3

theorem keep_execIrqCoalTimeout [Lets W .regs] [Lets W .tm] [Lets W .irq] [Lets W .dsp] [Lets W .seat] [Lets W .work] [Lets W .freeCtr] [Lets W .out] {a0 a1} (ha1 : Keep W z a1) :
    KeepR W z (execIrqCoalTimeout a0 a1) := by
  unfold execIrqCoalTimeout
  grind only [= keepR_next, = keepR_fault, = keepR_refused, usr keep_rest, usr keep_foldl, usr keep_State_toTb2, usr keep_State_arbitrate]
grind_pattern keep_execIrqCoalTimeout => Keep W z a1, execIrqCoalTimeout a0 a1

theorem keep_execIrqEnWrite [Lets W .regs] [Lets W .pw] [Lets W .flt] [Lets W .irq] [Lets W .seat] [Lets W .pair] [Lets W .cap] [Lets W .work] [Lets W .out] {a0 a1 a2 a3} (ha3 : Keep W z a3) :
    KeepR W z (execIrqEnWrite a0 a1 a2 a3) := by
  unfold execIrqEnWrite
  grind only [= keepR_next, = keepR_fault, = keepR_refused, usr keep_rest, usr keep_foldl, keep_State_regOrObj, usr keep_State_irqEnRaw]
grind_pattern keep_execIrqEnWrite => Keep W z a3, execIrqEnWrite a0 a1 a2 a3

theorem keep_execIrqEnclrWrite [Lets W .irq] {a0 a1 a2 a3} (ha3 : Keep W z a3) :
    KeepR W z (execIrqEnclrWrite a0 a1 a2 a3) := by
  unfold execIrqEnclrWrite
  grind only [= keepR_next, = keepR_fault, = keepR_refused, usr keep_rest, usr keep_foldl, usr keep_State_irqEnclrBits]
grind_pattern keep_execIrqEnclrWrite => Keep W z a3, execIrqEnclrWrite a0 a1 a2 a3

theorem keep_execIrqEnsetWrite [Lets W .irq] {a0 a1 a2 a3} (ha3 : Keep W z a3) :
    KeepR W z (execIrqEnsetWrite a0 a1 a2 a3) := by
  unfold execIrqEnsetWrite
  grind only [= keepR_next, = keepR_fault, = keepR_refused, usr keep_rest, usr keep_foldl, usr keep_State_irqEnsetBits]
grind_pattern keep_execIrqEnsetWrite => Keep W z a3, execIrqEnsetWrite a0 a1 a2 a3

theorem keep_execIrqEoi [Lets W .regs] [Lets W .pw] [Lets W .flt] [Lets W .irq] [Lets W .seat] [Lets W .pair] [Lets W .cap] [Lets W .work] [Lets W .out] {a0 a1 a2} (ha2 : Keep W z a2) :
    KeepR W z (execIrqEoi a0 a1 a2) := by
  unfold execIrqEoi
  grind only [= keepR_next, = keepR_fault, = keepR_refused, usr keep_rest, usr keep_foldl, keep_State_regOrObj, usr keep_State_eoi]
grind_pattern keep_execIrqEoi => Keep W z a2, execIrqEoi a0 a1 a2

theorem keep_execIrqHoldoffExpiry [Lets W .regs] [Lets W .tm] [Lets W .irq] [Lets W .dsp] [Lets W .seat] [Lets W .work] [Lets W .freeCtr] [Lets W .out] {a0 a1} (ha1 : Keep W z a1) :
    KeepR W z (execIrqHoldoffExpiry a0 a1) := by
  unfold execIrqHoldoffExpiry
  grind only [= keepR_next, = keepR_fault, = keepR_refused, usr keep_rest, usr keep_foldl, usr keep_State_toTb2, usr keep_State_setGrp, usr keep_State_arbitrate]
grind_pattern keep_execIrqHoldoffExpiry => Keep W z a1, execIrqHoldoffExpiry a0 a1

theorem keep_execIrqPendWrite [Lets W .irq] {a0 a1 a2 a3} (ha3 : Keep W z a3) :
    KeepR W z (execIrqPendWrite a0 a1 a2 a3) := by
  unfold execIrqPendWrite
  grind only [= keepR_next, = keepR_fault, = keepR_refused, usr keep_rest, usr keep_foldl, usr keep_State_irqPendRaw]
grind_pattern keep_execIrqPendWrite => Keep W z a3, execIrqPendWrite a0 a1 a2 a3

theorem keep_execIrqRouteWrite [Lets W .objs] [Lets W .regs] [Lets W .pw] [Lets W .flt] [Lets W .irq] [Lets W .seat] [Lets W .pair] [Lets W .cap] [Lets W .work] [Lets W .out] {a0 a1 a2 a3} (ha3 : Keep W z a3) :
    KeepR W z (execIrqRouteWrite a0 a1 a2 a3) := by
  unfold execIrqRouteWrite
  grind only [= keepR_next, = keepR_fault, = keepR_refused, usr keep_rest, usr keep_foldl, usr keep_State_irqRouteWrite]
grind_pattern keep_execIrqRouteWrite => Keep W z a3, execIrqRouteWrite a0 a1 a2 a3

theorem keep_execIrqSetWrite [Lets W .irq] {a0 a1 a2 a3} (ha3 : Keep W z a3) :
    KeepR W z (execIrqSetWrite a0 a1 a2 a3) := by
  unfold execIrqSetWrite
  grind only [= keepR_next, = keepR_fault, = keepR_refused, usr keep_rest, usr keep_foldl, usr keep_State_irqSetBits]
grind_pattern keep_execIrqSetWrite => Keep W z a3, execIrqSetWrite a0 a1 a2 a3

theorem keep_execIrqSourceEvent [Lets W .irq] {a0 a1} (ha1 : Keep W z a1) :
    KeepR W z (execIrqSourceEvent a0 a1) := by
  unfold execIrqSourceEvent
  grind only [= keepR_next, = keepR_fault, = keepR_refused, usr keep_rest, usr keep_foldl, usr keep_State_irqPost]
grind_pattern keep_execIrqSourceEvent => Keep W z a1, execIrqSourceEvent a0 a1

theorem keep_execIrqTctlSleep [Lets W .irq] {a0 a1 a2} (ha2 : Keep W z a2) :
    KeepR W z (execIrqTctlSleep a0 a1 a2) := by
  unfold execIrqTctlSleep
  grind only [= keepR_next, = keepR_fault, = keepR_refused, usr keep_rest, usr keep_foldl, usr keep_State_withdraw, usr keep_State_irqSet]
grind_pattern keep_execIrqTctlSleep => Keep W z a2, execIrqTctlSleep a0 a1 a2

theorem keep_execIrqVlogCmdClear [Lets W .regs] [Lets W .pw] [Lets W .flt] [Lets W .irq] [Lets W .seat] [Lets W .pair] [Lets W .cap] [Lets W .work] [Lets W .out] {a0 a1} (ha1 : Keep W z a1) :
    KeepR W z (execIrqVlogCmdClear a0 a1) := by
  unfold execIrqVlogCmdClear
  grind only [= keepE_ok, = keepE_error, = keepR_next, = keepR_fault, = keepR_refused, usr keep_rest, usr keep_foldl, keep_State_guardedValue, usr keep_State_applyIrqVlogCmd]
grind_pattern keep_execIrqVlogCmdClear => Keep W z a1, execIrqVlogCmdClear a0 a1

theorem keep_execStartPhaseEnd [Lets W .tm] [Lets W .irq] {a0} (ha0 : Keep W z a0) :
    KeepR W z (execStartPhaseEnd a0) := by
  unfold execStartPhaseEnd
  grind only [= keepR_next, = keepR_fault, = keepR_refused, usr keep_rest, usr keep_foldl, usr keep_State_irqSet, usr keep_State_toTb2]
grind_pattern keep_execStartPhaseEnd => Keep W z a0, execStartPhaseEnd a0

theorem keep_execTargetSleepChange [Lets W .irq] {a0 a1 a2} (ha2 : Keep W z a2) :
    KeepR W z (execTargetSleepChange a0 a1 a2) := by
  unfold execTargetSleepChange
  grind only [= keepR_next, = keepR_fault, = keepR_refused, usr keep_rest, usr keep_foldl, usr keep_State_withdraw, usr keep_State_irqSet]
grind_pattern keep_execTargetSleepChange => Keep W z a2, execTargetSleepChange a0 a1 a2

end Sys2Proof.Laws
end

