-- ==== Sys2Proof/Laws/KeepLoops.lean ====
section
/-! SUPPORT. What the operations of Machine/Loops keep (see Laws/Keep). -/

set_option Elab.async false
namespace Sys2Proof.Laws
open Sys2Proof.Machine
variable {W : Part → Prop} {z : State}

theorem keep_execGtabPokeWrite [Lets W .objs] [Lets W .doms] [Lets W .regs] [Lets W .pw] [Lets W .flt] [Lets W .irq] [Lets W .seat] [Lets W .pair] [Lets W .loop] [Lets W .cap] [Lets W .work] [Lets W .out] {a0 a1 a2 a3} (ha3 : Keep W z a3) :
    KeepR W z (execGtabPokeWrite a0 a1 a2 a3) := by
  unfold execGtabPokeWrite
  grind only [= keepE_ok, = keepE_error, = keepR_next, = keepR_fault, = keepR_refused, usr keep_rest, usr keep_foldl, keep_State_guardedValue, usr keep_State_applyGtabPoke]
grind_pattern keep_execGtabPokeWrite => Keep W z a3, execGtabPokeWrite a0 a1 a2 a3

theorem keep_execInjCmdStart [Lets W .objs] [Lets W .regs] [Lets W .pw] [Lets W .flt] [Lets W .irq] [Lets W .seat] [Lets W .pair] [Lets W .loop] [Lets W .cap] [Lets W .work] [Lets W .out] {a0 a1} (ha1 : Keep W z a1) :
    KeepR W z (execInjCmdStart a0 a1) := by
  unfold execInjCmdStart
  grind only [= keepE_ok, = keepE_error, = keepR_next, = keepR_fault, = keepR_refused, usr keep_rest, usr keep_foldl, keep_State_guardedValue, usr keep_State_applyInjCmd]
grind_pattern keep_execInjCmdStart => Keep W z a1, execInjCmdStart a0 a1

theorem keep_execInjCmdStop [Lets W .objs] [Lets W .regs] [Lets W .pw] [Lets W .flt] [Lets W .irq] [Lets W .seat] [Lets W .pair] [Lets W .loop] [Lets W .cap] [Lets W .work] [Lets W .out] {a0 a1} (ha1 : Keep W z a1) :
    KeepR W z (execInjCmdStop a0 a1) := by
  unfold execInjCmdStop
  grind only [= keepE_ok, = keepE_error, = keepR_next, = keepR_fault, = keepR_refused, usr keep_rest, usr keep_foldl, keep_State_guardedValue, usr keep_State_applyInjCmd]
grind_pattern keep_execInjCmdStop => Keep W z a1, execInjCmdStop a0 a1

theorem keep_execIntSetWrite [Lets W .regs] [Lets W .pw] [Lets W .flt] [Lets W .irq] [Lets W .seat] [Lets W .pair] [Lets W .loop] [Lets W .cap] [Lets W .work] [Lets W .out] {a0 a1 a2 a3} (ha3 : Keep W z a3) :
    KeepR W z (execIntSetWrite a0 a1 a2 a3) := by
  unfold execIntSetWrite
  grind only [= keepE_ok, = keepE_error, = keepR_next, = keepR_fault, = keepR_refused, usr keep_rest, usr keep_foldl, keep_State_guardedValue, usr keep_State_applyIntSet]
grind_pattern keep_execIntSetWrite => Keep W z a3, execIntSetWrite a0 a1 a2 a3

theorem keep_execLoopDescWrite [Lets W .objs] [Lets W .doms] [Lets W .regs] [Lets W .pw] [Lets W .flt] [Lets W .irq] [Lets W .seat] [Lets W .pair] [Lets W .loop] [Lets W .cap] [Lets W .work] [Lets W .out] {a0 a1 a2 a3} (ha3 : Keep W z a3) :
    KeepR W z (execLoopDescWrite a0 a1 a2 a3) := by
  unfold execLoopDescWrite
  grind only [= keepE_ok, = keepE_error, = keepR_next, = keepR_fault, = keepR_refused, usr keep_rest, usr keep_foldl, keep_State_guardedWrite, usr keep_State_applyLoopDesc]
grind_pattern keep_execLoopDescWrite => Keep W z a3, execLoopDescWrite a0 a1 a2 a3

theorem keep_execLoopFlagsWrite [Lets W .objs] [Lets W .doms] [Lets W .regs] [Lets W .pw] [Lets W .flt] [Lets W .irq] [Lets W .seat] [Lets W .pair] [Lets W .loop] [Lets W .cap] [Lets W .work] [Lets W .out] {a0 a1 a2 a3} (ha3 : Keep W z a3) :
    KeepR W z (execLoopFlagsWrite a0 a1 a2 a3) := by
  unfold execLoopFlagsWrite
  grind only [= keepE_ok, = keepE_error, = keepR_next, = keepR_fault, = keepR_refused, usr keep_rest, usr keep_foldl, keep_State_guardedValue, usr keep_State_applyLoopFlags]
grind_pattern keep_execLoopFlagsWrite => Keep W z a3, execLoopFlagsWrite a0 a1 a2 a3

theorem keep_execLoopGroupStart [Lets W .objs] [Lets W .regs] [Lets W .tm] [Lets W .flt] [Lets W .irq] [Lets W .pwm] [Lets W .bat] [Lets W .loop] [Lets W .cap] [Lets W .work] {a0 a1} (ha1 : Keep W z a1) :
    KeepR W z (execLoopGroupStart a0 a1) := by
  unfold execLoopGroupStart
  grind only [= keepR_next, = keepR_fault, = keepR_refused, usr keep_rest, usr keep_foldl, usr keep_State_loopTo0, usr keep_State_setGroup, usr keep_State_groupArrive]
grind_pattern keep_execLoopGroupStart => Keep W z a1, execLoopGroupStart a0 a1

theorem keep_execLoopGtabWrite [Lets W .objs] [Lets W .doms] [Lets W .regs] [Lets W .pw] [Lets W .flt] [Lets W .irq] [Lets W .seat] [Lets W .pair] [Lets W .loop] [Lets W .cap] [Lets W .work] [Lets W .out] {a0 a1 a2 a3} (ha3 : Keep W z a3) :
    KeepR W z (execLoopGtabWrite a0 a1 a2 a3) := by
  unfold execLoopGtabWrite
  grind only [= keepE_ok, = keepE_error, = keepR_next, = keepR_fault, = keepR_refused, usr keep_rest, usr keep_foldl, keep_State_guardedWrite, usr keep_State_applyLoopGtab]
grind_pattern keep_execLoopGtabWrite => Keep W z a3, execLoopGtabWrite a0 a1 a2 a3

theorem keep_execLoopLimitWrite [Lets W .objs] [Lets W .doms] [Lets W .regs] [Lets W .pw] [Lets W .flt] [Lets W .irq] [Lets W .seat] [Lets W .pair] [Lets W .loop] [Lets W .cap] [Lets W .work] [Lets W .out] {a0 a1 a2 a3 a4} (ha4 : Keep W z a4) :
    KeepR W z (execLoopLimitWrite a0 a1 a2 a3 a4) := by
  unfold execLoopLimitWrite
  grind only [= keepE_ok, = keepE_error, = keepR_next, = keepR_fault, = keepR_refused, usr keep_rest, usr keep_foldl, keep_State_guardedValue, usr keep_State_applyLoopLimit]
grind_pattern keep_execLoopLimitWrite => Keep W z a4, execLoopLimitWrite a0 a1 a2 a3 a4

end Sys2Proof.Laws
end

