-- ==== Sys2Proof/Laws/KeepPassOps.lean ====
section
/-! SUPPORT. What the operations of Machine/PassOps keep (see Laws/Keep). -/

set_option Elab.async false
namespace Sys2Proof.Laws
open Sys2Proof.Machine
variable {W : Part → Prop} {z : State}

theorem keep_State_setPassSend [Lets W .mem] {a0 a1 a2} (ha2 : Keep W z a2) :
    Keep W z (State.setPassSend a0 a1 a2) := by
  unfold State.setPassSend
  grind only [usr keep_rest, usr keep_foldl, usr keep_State_memSet]
grind_pattern keep_State_setPassSend => Keep W z a2, State.setPassSend a0 a1 a2

theorem keep_State_passBegin [Lets W .mem] {a0 a1 a2 a3} (ha3 : Keep W z a3) :
    Keep W z (State.passBegin a0 a1 a2 a3) := by
  unfold State.passBegin
  grind only [usr keep_rest, usr keep_foldl, usr keep_State_setPassSend]
grind_pattern keep_State_passBegin => Keep W z a3, State.passBegin a0 a1 a2 a3

theorem keep_State_passFrame [Lets W .regs] [Lets W .ring] [Lets W .xl] [Lets W .cap] [Lets W .out] {a0 a1 a2} (ha2 : Keep W z a2) :
    Keep W z (State.passFrame a0 a1 a2) := by
  unfold State.passFrame
  grind only [usr keep_rest, usr keep_foldl, usr keep_State_sendRing, usr keep_State_queueBg]
grind_pattern keep_State_passFrame => Keep W z a2, State.passFrame a0 a1 a2

theorem keep_State_passStop [Lets W .regs] [Lets W .ring] [Lets W .xl] [Lets W .cap] [Lets W .mem] [Lets W .out] {a0 a1} (ha1 : Keep W z a1) :
    Keep W z (State.passStop a0 a1) := by
  unfold State.passStop
  grind only [usr keep_rest, usr keep_foldl, usr keep_State_setPassSend, usr keep_State_passFrame]
grind_pattern keep_State_passStop => Keep W z a1, State.passStop a0 a1

theorem keep_State_applyPassCmd [Lets W .regs] [Lets W .ring] [Lets W .xl] [Lets W .cap] [Lets W .mem] [Lets W .out] {a0 a1} (ha1 : Keep W z a1) :
    KeepE W z (State.applyPassCmd a0 a1) := by
  unfold State.applyPassCmd
  grind only [= keepE_ok, = keepE_error, usr keep_rest, usr keep_foldl, usr keep_State_passStop, usr keep_State_passBegin]
grind_pattern keep_State_applyPassCmd => Keep W z a1, State.applyPassCmd a0 a1

theorem keep_State_passOne [Lets W .objs] [Lets W .regs] [Lets W .flt] [Lets W .irq] [Lets W .ring] [Lets W .xl] [Lets W .cap] [Lets W .work] [Lets W .mem] [Lets W .freeCtr] [Lets W .out] {a0 a1} (ha1 : Keep W z a1) :
    Keep W z (State.passOne a0 a1) := by
  unfold State.passOne
  grind only [= keepP_mk, → keepP_snd, ← keep_foldlP, = keepP2_mk, → keepP2_snd, ← keep_foldlP2, usr keep_rest, usr keep_foldl, usr keep_State_memLoad, usr keep_State_setPassSend, usr keep_State_passFrame, usr keep_State_irqPost, usr keep_State_memSet]
grind_pattern keep_State_passOne => Keep W z a1, State.passOne a0 a1

theorem keep_State_passSome [Lets W .objs] [Lets W .regs] [Lets W .flt] [Lets W .irq] [Lets W .ring] [Lets W .xl] [Lets W .cap] [Lets W .work] [Lets W .mem] [Lets W .freeCtr] [Lets W .out] {a0 a1 a2} (ha2 : Keep W z a2) :
    Keep W z (State.passSome a0 a1 a2) := by
  induction a1 generalizing a2 with
  | zero => exact ha2
  | succ n ih =>
    unfold State.passSome
    exact ih (keep_State_passOne ha2)
grind_pattern keep_State_passSome => Keep W z a2, State.passSome a0 a1 a2

theorem keep_State_passRun [Lets W .objs] [Lets W .regs] [Lets W .flt] [Lets W .irq] [Lets W .ring] [Lets W .xl] [Lets W .cap] [Lets W .work] [Lets W .mem] [Lets W .freeCtr] [Lets W .out] {a0 a1} (ha1 : Keep W z a1) :
    Keep W z (State.passRun a0 a1) := by
  unfold State.passRun
  grind only [usr keep_rest, usr keep_foldl, usr keep_State_passSome]
grind_pattern keep_State_passRun => Keep W z a1, State.passRun a0 a1

theorem keep_State_passWindow [Lets W .objs] [Lets W .regs] [Lets W .flt] [Lets W .irq] [Lets W .ring] [Lets W .xl] [Lets W .cap] [Lets W .work] [Lets W .mem] [Lets W .freeCtr] [Lets W .out] {a0 a1} (ha1 : Keep W z a1) :
    Keep W z (State.passWindow a0 a1) := by
  unfold State.passWindow
  grind only [usr keep_rest, usr keep_foldl, usr keep_State_passRun]
grind_pattern keep_State_passWindow => Keep W z a1, State.passWindow a0 a1

theorem keep_State_abortOut [Lets W .regs] [Lets W .ring] [Lets W .xl] [Lets W .cap] [Lets W .out] {a0 a1 a2 a3 a4} (ha4 : Keep W z a4) :
    Keep W z (State.abortOut a0 a1 a2 a3 a4) := by
  unfold State.abortOut
  grind only [usr keep_rest, usr keep_foldl, usr keep_State_passFrame]
grind_pattern keep_State_abortOut => Keep W z a4, State.abortOut a0 a1 a2 a3 a4

theorem keep_State_relayEnd [Lets W .mem] {a0} (ha0 : Keep W z a0) :
    Keep W z (State.relayEnd a0) := by
  unfold State.relayEnd
  grind only [usr keep_rest, usr keep_foldl, usr keep_State_memSet, usr keep_State_setPassSend]
grind_pattern keep_State_relayEnd => Keep W z a0, State.relayEnd a0

theorem keep_State_passAborted [Lets W .regs] [Lets W .pw] [Lets W .flt] [Lets W .irq] [Lets W .ring] [Lets W .xl] [Lets W .cap] [Lets W .work] [Lets W .mem] [Lets W .out] {a0 a1 a2} (ha2 : Keep W z a2) :
    Keep W z (State.passAborted a0 a1 a2) := by
  unfold State.passAborted
  grind only [usr keep_rest, usr keep_foldl, usr keep_State_abortOut, usr keep_State_relayEnd, usr keep_State_setUpd, usr keep_State_updDiscard]
grind_pattern keep_State_passAborted => Keep W z a2, State.passAborted a0 a1 a2

theorem keep_State_passAck [Lets W .mem] {a0 a1 a2} (ha2 : Keep W z a2) :
    Keep W z (State.passAck a0 a1 a2) := by
  unfold State.passAck
  grind only [usr keep_rest, usr keep_foldl, usr keep_State_setPassSend]
grind_pattern keep_State_passAck => Keep W z a2, State.passAck a0 a1 a2

theorem keep_State_relayBegin [Lets W .work] [Lets W .mem] {a0 a1 a2} (ha2 : Keep W z a2) :
    Keep W z (State.relayBegin a0 a1 a2) := by
  unfold State.relayBegin
  grind only [usr keep_rest, usr keep_foldl, usr keep_State_memSet, usr keep_State_relayEnd, usr keep_State_memStore]
grind_pattern keep_State_relayBegin => Keep W z a2, State.relayBegin a0 a1 a2

theorem keep_State_relayStore [Lets W .work] [Lets W .mem] {a0 a1 a2} (ha2 : Keep W z a2) :
    Keep W z (State.relayStore a0 a1 a2) := by
  unfold State.relayStore
  grind only [usr keep_rest, usr keep_foldl, usr keep_State_memSet, usr keep_State_memStore]
grind_pattern keep_State_relayStore => Keep W z a2, State.relayStore a0 a1 a2

theorem keep_State_relayTake [Lets W .regs] [Lets W .ring] [Lets W .xl] [Lets W .cap] [Lets W .work] [Lets W .mem] [Lets W .out] {a0 a1 a2 a3} (ha3 : Keep W z a3) :
    Keep W z (State.relayTake a0 a1 a2 a3) := by
  unfold State.relayTake
  grind only [usr keep_rest, usr keep_foldl, usr keep_State_relayBegin, usr keep_State_passStop, usr keep_State_abortOut, usr keep_State_memSet, usr keep_State_relayEnd, usr keep_State_relayStore]
grind_pattern keep_State_relayTake => Keep W z a3, State.relayTake a0 a1 a2 a3

theorem keep_State_stagingTake [Lets W .regs] [Lets W .pw] [Lets W .flt] [Lets W .irq] [Lets W .cap] [Lets W .work] [Lets W .mem] {a0 a1 a2} (ha2 : Keep W z a2) :
    Keep W z (State.stagingTake a0 a1 a2) := by
  unfold State.stagingTake
  grind only [= keepP_mk, → keepP_snd, ← keep_foldlP, usr keep_rest, usr keep_foldl, usr keep_State_memSet, usr keep_State_memStore, usr keep_State_offer]
grind_pattern keep_State_stagingTake => Keep W z a2, State.stagingTake a0 a1 a2

theorem keep_State_passChunk [Lets W .regs] [Lets W .pw] [Lets W .flt] [Lets W .irq] [Lets W .ring] [Lets W .xl] [Lets W .cap] [Lets W .work] [Lets W .mem] [Lets W .out] {a0 a1 a2 a3 a4} (ha4 : Keep W z a4) :
    Keep W z (State.passChunk a0 a1 a2 a3 a4) := by
  unfold State.passChunk
  grind only [usr keep_rest, usr keep_foldl, usr keep_State_stagingTake, usr keep_State_relayTake, usr keep_State_setPassSend, usr keep_State_passBegin, usr keep_State_queueBg]
grind_pattern keep_State_passChunk => Keep W z a4, State.passChunk a0 a1 a2 a3 a4

theorem keep_State_passResend [Lets W .mem] {a0 a1} (ha1 : Keep W z a1) :
    Keep W z (State.passResend a0 a1) := by
  unfold State.passResend
  grind only [usr keep_rest, usr keep_foldl, usr keep_State_setPassSend, usr keep_State_memSet]
grind_pattern keep_State_passResend => Keep W z a1, State.passResend a0 a1

end Sys2Proof.Laws
end

