-- ==== Sys2Proof/Laws/KeepMemory.lean ====
section
/-! SUPPORT. What the operations of Machine/Memory keep (see Laws/Keep). -/

set_option Elab.async false
namespace Sys2Proof.Laws
open Sys2Proof.Machine
variable {W : Part → Prop} {z : State}

theorem keep_applyUpdRestart [Lets W .objs] [Lets W .doms] [Lets W .regs] [Lets W .pw] [Lets W .tm] [Lets W .flt] [Lets W .irq] [Lets W .dsp] [Lets W .seat] [Lets W .ring] [Lets W .xl] [Lets W .pair] [Lets W .pwm] [Lets W .bat] [Lets W .adc] [Lets W .loop] [Lets W .cap] [Lets W .sl] [Lets W .saf] [Lets W .mod] [Lets W .work] [Lets W .mem] [Lets W .tap] [Lets W .freeCtr] [Lets W .out] {a0} (ha0 : Keep W z a0) :
    KeepE W z (applyUpdRestart a0) := by
  unfold applyUpdRestart
  grind only [= keepE_ok, = keepE_error, usr keep_rest, usr keep_foldl, usr keep_State_resetPart]
grind_pattern keep_applyUpdRestart => Keep W z a0, applyUpdRestart a0

theorem keep_applyUpdCmdAll [Lets W .objs] [Lets W .doms] [Lets W .regs] [Lets W .pw] [Lets W .tm] [Lets W .flt] [Lets W .irq] [Lets W .dsp] [Lets W .seat] [Lets W .ring] [Lets W .xl] [Lets W .pair] [Lets W .pwm] [Lets W .bat] [Lets W .adc] [Lets W .loop] [Lets W .cap] [Lets W .sl] [Lets W .saf] [Lets W .mod] [Lets W .work] [Lets W .mem] [Lets W .tap] [Lets W .freeCtr] [Lets W .out] {a0 a1} (ha1 : Keep W z a1) :
    KeepE W z (applyUpdCmdAll a0 a1) := by
  unfold applyUpdCmdAll
  grind only [= keepE_ok, = keepE_error, usr keep_rest, usr keep_foldl, usr keep_applyUpdRestart, usr keep_State_applyUpdCmd]
grind_pattern keep_applyUpdCmdAll => Keep W z a1, applyUpdCmdAll a0 a1

theorem keep_execMemInjWrite [Lets W .regs] [Lets W .pw] [Lets W .flt] [Lets W .irq] [Lets W .seat] [Lets W .pair] [Lets W .cap] [Lets W .work] [Lets W .out] {a0 a1 a2} (ha2 : Keep W z a2) :
    KeepR W z (execMemInjWrite a0 a1 a2) := by
  unfold execMemInjWrite
  grind only [= keepE_ok, = keepE_error, = keepR_next, = keepR_fault, = keepR_refused, usr keep_rest, usr keep_foldl, keep_State_guardedValue, usr keep_State_applyMemInj]
grind_pattern keep_execMemInjWrite => Keep W z a2, execMemInjWrite a0 a1 a2

theorem keep_execMemorySymbolError [Lets W .work] {a0 a1 a2} (ha2 : Keep W z a2) :
    KeepR W z (execMemorySymbolError a0 a1 a2) := by
  unfold execMemorySymbolError
  grind only [= keepR_next, = keepR_fault, = keepR_refused, usr keep_rest, usr keep_foldl, usr keep_State_setWordErr]
grind_pattern keep_execMemorySymbolError => Keep W z a2, execMemorySymbolError a0 a1 a2

theorem keep_execPassAbort [Lets W .objs] [Lets W .regs] [Lets W .pw] [Lets W .flt] [Lets W .irq] [Lets W .ring] [Lets W .xl] [Lets W .cap] [Lets W .work] [Lets W .mem] [Lets W .out] {a0 a1 a2 a3} (ha3 : Keep W z a3) :
    KeepR W z (execPassAbort a0 a1 a2 a3) := by
  unfold execPassAbort
  grind only [= keepR_next, = keepR_fault, = keepR_refused, usr keep_rest, usr keep_foldl, keep_State_rxTyped, usr keep_State_passAborted]
grind_pattern keep_execPassAbort => Keep W z a3, execPassAbort a0 a1 a2 a3

theorem keep_execPassAck [Lets W .objs] [Lets W .regs] [Lets W .flt] [Lets W .irq] [Lets W .ring] [Lets W .xl] [Lets W .cap] [Lets W .work] [Lets W .mem] [Lets W .out] {a0 a1 a2 a3} (ha3 : Keep W z a3) :
    KeepR W z (execPassAck a0 a1 a2 a3) := by
  unfold execPassAck
  grind only [= keepR_next, = keepR_fault, = keepR_refused, usr keep_rest, usr keep_foldl, keep_State_rxTyped, usr keep_State_passAck]
grind_pattern keep_execPassAck => Keep W z a3, execPassAck a0 a1 a2 a3

theorem keep_execPassChunk [Lets W .objs] [Lets W .regs] [Lets W .pw] [Lets W .flt] [Lets W .irq] [Lets W .ring] [Lets W .xl] [Lets W .cap] [Lets W .work] [Lets W .mem] [Lets W .out] {a0 a1 a2 a3} (ha3 : Keep W z a3) :
    KeepR W z (execPassChunk a0 a1 a2 a3) := by
  unfold execPassChunk
  grind only [= keepR_next, = keepR_fault, = keepR_refused, usr keep_rest, usr keep_foldl, keep_State_rxTyped, usr keep_State_passChunk]
grind_pattern keep_execPassChunk => Keep W z a3, execPassChunk a0 a1 a2 a3

theorem keep_execPassCmd [Lets W .regs] [Lets W .pw] [Lets W .flt] [Lets W .irq] [Lets W .seat] [Lets W .ring] [Lets W .xl] [Lets W .pair] [Lets W .cap] [Lets W .work] [Lets W .mem] [Lets W .out] {a0 a1 a2} (ha2 : Keep W z a2) :
    KeepR W z (execPassCmd a0 a1 a2) := by
  unfold execPassCmd
  grind only [= keepE_ok, = keepE_error, = keepR_next, = keepR_fault, = keepR_refused, usr keep_rest, usr keep_foldl, keep_State_guardedValue, usr keep_State_applyPassCmd]
grind_pattern keep_execPassCmd => Keep W z a2, execPassCmd a0 a1 a2

theorem keep_execPassResend [Lets W .mem] {a0 a1 a2} (ha2 : Keep W z a2) :
    KeepR W z (execPassResend a0 a1 a2) := by
  unfold execPassResend
  grind only [= keepR_next, = keepR_fault, = keepR_refused, usr keep_rest, usr keep_foldl, usr keep_State_passResend]
grind_pattern keep_execPassResend => Keep W z a2, execPassResend a0 a1 a2

theorem keep_execScrubRead [Lets W .objs] [Lets W .regs] [Lets W .tm] [Lets W .flt] [Lets W .irq] [Lets W .cap] [Lets W .work] [Lets W .freeCtr] {a0} (ha0 : Keep W z a0) :
    KeepR W z (execScrubRead a0) := by
  unfold execScrubRead
  grind only [= keepR_next, = keepR_fault, = keepR_refused, usr keep_rest, usr keep_foldl, usr keep_State_scrubRead]
grind_pattern keep_execScrubRead => Keep W z a0, execScrubRead a0

theorem keep_execStagingProgrammed [Lets W .objs] [Lets W .regs] [Lets W .pw] [Lets W .flt] [Lets W .irq] [Lets W .cap] [Lets W .work] [Lets W .mem] [Lets W .freeCtr] {a0 a1} (ha1 : Keep W z a1) :
    KeepR W z (execStagingProgrammed a0 a1) := by
  unfold execStagingProgrammed
  grind only [= keepR_next, = keepR_fault, = keepR_refused, usr keep_rest, usr keep_foldl, usr keep_State_stagingDone]
grind_pattern keep_execStagingProgrammed => Keep W z a1, execStagingProgrammed a0 a1

theorem keep_execUpdCmdAbort [Lets W .objs] [Lets W .doms] [Lets W .regs] [Lets W .pw] [Lets W .tm] [Lets W .flt] [Lets W .irq] [Lets W .dsp] [Lets W .seat] [Lets W .ring] [Lets W .xl] [Lets W .pair] [Lets W .pwm] [Lets W .bat] [Lets W .adc] [Lets W .loop] [Lets W .cap] [Lets W .sl] [Lets W .saf] [Lets W .mod] [Lets W .work] [Lets W .mem] [Lets W .tap] [Lets W .freeCtr] [Lets W .out] {a0 a1} (ha1 : Keep W z a1) :
    KeepR W z (execUpdCmdAbort a0 a1) := by
  unfold execUpdCmdAbort
  grind only [= keepE_ok, = keepE_error, = keepR_next, = keepR_fault, = keepR_refused, usr keep_rest, usr keep_foldl, keep_State_guardedValue, usr keep_applyUpdCmdAll]
grind_pattern keep_execUpdCmdAbort => Keep W z a1, execUpdCmdAbort a0 a1

theorem keep_execUpdCmdArm [Lets W .objs] [Lets W .doms] [Lets W .regs] [Lets W .pw] [Lets W .tm] [Lets W .flt] [Lets W .irq] [Lets W .dsp] [Lets W .seat] [Lets W .ring] [Lets W .xl] [Lets W .pair] [Lets W .pwm] [Lets W .bat] [Lets W .adc] [Lets W .loop] [Lets W .cap] [Lets W .sl] [Lets W .saf] [Lets W .mod] [Lets W .work] [Lets W .mem] [Lets W .tap] [Lets W .freeCtr] [Lets W .out] {a0 a1} (ha1 : Keep W z a1) :
    KeepR W z (execUpdCmdArm a0 a1) := by
  unfold execUpdCmdArm
  grind only [= keepE_ok, = keepE_error, = keepR_next, = keepR_fault, = keepR_refused, usr keep_rest, usr keep_foldl, keep_State_guardedValue, usr keep_applyUpdCmdAll]
grind_pattern keep_execUpdCmdArm => Keep W z a1, execUpdCmdArm a0 a1

theorem keep_execUpdCmdConfirm [Lets W .objs] [Lets W .doms] [Lets W .regs] [Lets W .pw] [Lets W .tm] [Lets W .flt] [Lets W .irq] [Lets W .dsp] [Lets W .seat] [Lets W .ring] [Lets W .xl] [Lets W .pair] [Lets W .pwm] [Lets W .bat] [Lets W .adc] [Lets W .loop] [Lets W .cap] [Lets W .sl] [Lets W .saf] [Lets W .mod] [Lets W .work] [Lets W .mem] [Lets W .tap] [Lets W .freeCtr] [Lets W .out] {a0 a1} (ha1 : Keep W z a1) :
    KeepR W z (execUpdCmdConfirm a0 a1) := by
  unfold execUpdCmdConfirm
  grind only [= keepE_ok, = keepE_error, = keepR_next, = keepR_fault, = keepR_refused, usr keep_rest, usr keep_foldl, keep_State_guardedValue, usr keep_applyUpdCmdAll]
grind_pattern keep_execUpdCmdConfirm => Keep W z a1, execUpdCmdConfirm a0 a1

theorem keep_execUpdCmdRestart [Lets W .objs] [Lets W .doms] [Lets W .regs] [Lets W .pw] [Lets W .tm] [Lets W .flt] [Lets W .irq] [Lets W .dsp] [Lets W .seat] [Lets W .ring] [Lets W .xl] [Lets W .pair] [Lets W .pwm] [Lets W .bat] [Lets W .adc] [Lets W .loop] [Lets W .cap] [Lets W .sl] [Lets W .saf] [Lets W .mod] [Lets W .work] [Lets W .mem] [Lets W .tap] [Lets W .freeCtr] [Lets W .out] {a0 a1} (ha1 : Keep W z a1) :
    KeepR W z (execUpdCmdRestart a0 a1) := by
  unfold execUpdCmdRestart
  grind only [= keepE_ok, = keepE_error, = keepR_next, = keepR_fault, = keepR_refused, usr keep_rest, usr keep_foldl, keep_State_guardedValue, usr keep_applyUpdCmdAll]
grind_pattern keep_execUpdCmdRestart => Keep W z a1, execUpdCmdRestart a0 a1

theorem keep_execUpdDataWrite [Lets W .regs] [Lets W .pw] [Lets W .flt] [Lets W .irq] [Lets W .seat] [Lets W .pair] [Lets W .cap] [Lets W .work] [Lets W .mem] [Lets W .out] {a0 a1 a2} (ha2 : Keep W z a2) :
    KeepR W z (execUpdDataWrite a0 a1 a2) := by
  unfold execUpdDataWrite
  grind [= keepE_ok, = keepE_error, = keepR_next, = keepR_fault, = keepR_refused, keep_foldl, keep_State_guardedWrite, keep_State_applyUpdData, keep_State_updRefused, = keepP_mk, → keepP_snd, = keepP2_mk, → keepP2_snd, = keepP3_mk, → keepP3_snd, = keepO_some, = keepO_none, = keepO2_some, = keepO2_none]
grind_pattern keep_execUpdDataWrite => Keep W z a2, execUpdDataWrite a0 a1 a2

theorem keep_execUpdVerifyDone [Lets W .objs] [Lets W .regs] [Lets W .pw] [Lets W .flt] [Lets W .irq] [Lets W .cap] [Lets W .work] [Lets W .mem] {a0 a1} (ha1 : Keep W z a1) :
    KeepR W z (execUpdVerifyDone a0 a1) := by
  unfold execUpdVerifyDone
  grind only [= keepR_next, = keepR_fault, = keepR_refused, usr keep_rest, usr keep_foldl, usr keep_State_verifyDone]
grind_pattern keep_execUpdVerifyDone => Keep W z a1, execUpdVerifyDone a0 a1

end Sys2Proof.Laws
end

