-- ==== Sys2Proof/Laws/KeepPower.lean ====
section
/-! SUPPORT. What the operations of Machine/Power keep (see Laws/Keep). -/

set_option Elab.async false
namespace Sys2Proof.Laws
open Sys2Proof.Machine
variable {W : Part → Prop} {z : State}

theorem keep_applyAuxEn [Lets W .objs] [Lets W .pw] {a0 a1} (ha1 : Keep W z a1) :
    KeepE W z (applyAuxEn a0 a1) := by
  unfold applyAuxEn
  grind only [= keepE_ok, = keepE_error, usr keep_rest, usr keep_foldl, usr keep_State_pwSet, usr keep_State_oset]
grind_pattern keep_applyAuxEn => Keep W z a1, applyAuxEn a0 a1

theorem keep_execAonTrim [Lets W .pw] {a0 a1} (ha1 : Keep W z a1) :
    KeepR W z (execAonTrim a0 a1) := by
  unfold execAonTrim
  grind only [= keepR_next, = keepR_fault, = keepR_refused, usr keep_rest, usr keep_foldl, usr keep_State_pwSet]
grind_pattern keep_execAonTrim => Keep W z a1, execAonTrim a0 a1

theorem keep_execAux33CurrentLimit [Lets W .pw] [Lets W .irq] {a0} (ha0 : Keep W z a0) :
    KeepR W z (execAux33CurrentLimit a0) := by
  unfold execAux33CurrentLimit
  grind only [= keepR_next, = keepR_fault, = keepR_refused, usr keep_rest, usr keep_foldl, usr keep_State_irqPost, usr keep_State_pwSet]
grind_pattern keep_execAux33CurrentLimit => Keep W z a0, execAux33CurrentLimit a0

theorem keep_execAuxEnWrite [Lets W .objs] [Lets W .regs] [Lets W .pw] [Lets W .flt] [Lets W .irq] [Lets W .seat] [Lets W .pair] [Lets W .cap] [Lets W .work] [Lets W .out] {a0 a1 a2} (ha2 : Keep W z a2) :
    KeepR W z (execAuxEnWrite a0 a1 a2) := by
  unfold execAuxEnWrite
  grind only [= keepE_ok, = keepE_error, = keepR_next, = keepR_fault, = keepR_refused, usr keep_rest, usr keep_foldl, keep_State_guardedValue, usr keep_applyAuxEn]
grind_pattern keep_execAuxEnWrite => Keep W z a2, execAuxEnWrite a0 a1 a2

theorem keep_execFirmwareStart [Lets W .objs] [Lets W .regs] [Lets W .pw] [Lets W .flt] [Lets W .irq] [Lets W .cap] [Lets W .work] [Lets W .mem] {a0 a1 a2 a3} (ha3 : Keep W z a3) :
    KeepR W z (execFirmwareStart a0 a1 a2 a3) := by
  unfold execFirmwareStart
  grind only [= keepR_next, = keepR_fault, = keepR_refused, = keepP_mk, → keepP_snd, ← keep_foldlP, = keepP2_mk, → keepP2_snd, ← keep_foldlP2, usr keep_rest, usr keep_foldl, usr keep_State_bootJournal, usr keep_State_flashSpoil, usr keep_State_bootImage, usr keep_State_pwSet]
grind_pattern keep_execFirmwareStart => Keep W z a3, execFirmwareStart a0 a1 a2 a3

theorem keep_execInternalResetRelease [Lets W .pw] {a0} (ha0 : Keep W z a0) :
    KeepR W z (execInternalResetRelease a0) := by
  unfold execInternalResetRelease
  grind only [= keepR_next, = keepR_fault, = keepR_refused, usr keep_rest, usr keep_foldl, usr keep_State_resetRelease]
grind_pattern keep_execInternalResetRelease => Keep W z a0, execInternalResetRelease a0

theorem keep_execPowerOnReset [Lets W .objs] [Lets W .doms] [Lets W .regs] [Lets W .pw] [Lets W .tm] [Lets W .flt] [Lets W .irq] [Lets W .dsp] [Lets W .seat] [Lets W .ring] [Lets W .xl] [Lets W .pair] [Lets W .pwm] [Lets W .bat] [Lets W .adc] [Lets W .loop] [Lets W .cap] [Lets W .sl] [Lets W .saf] [Lets W .mod] [Lets W .work] [Lets W .mem] [Lets W .tap] [Lets W .freeCtr] [Lets W .out] {a0} (ha0 : Keep W z a0) :
    KeepR W z (execPowerOnReset a0) := by
  unfold execPowerOnReset
  grind only [= keepR_next, = keepR_fault, = keepR_refused, usr keep_rest, usr keep_foldl, usr keep_State_resetPart]
grind_pattern keep_execPowerOnReset => Keep W z a0, execPowerOnReset a0

theorem keep_execRefLoss [Lets W .objs] [Lets W .regs] [Lets W .pw] [Lets W .flt] [Lets W .irq] [Lets W .ring] [Lets W .xl] [Lets W .pwm] [Lets W .bat] [Lets W .loop] [Lets W .cap] [Lets W .work] [Lets W .out] {a0} (ha0 : Keep W z a0) :
    KeepR W z (execRefLoss a0) := by
  unfold execRefLoss
  grind only [= keepR_next, = keepR_fault, = keepR_refused, usr keep_rest, usr keep_foldl, usr keep_State_refLoss]
grind_pattern keep_execRefLoss => Keep W z a0, execRefLoss a0

theorem keep_execRefRestored [Lets W .objs] [Lets W .pw] [Lets W .tm] [Lets W .flt] [Lets W .irq] [Lets W .ring] [Lets W .xl] [Lets W .out] {a0} (ha0 : Keep W z a0) :
    KeepR W z (execRefRestored a0) := by
  unfold execRefRestored
  grind only [= keepR_next, = keepR_fault, = keepR_refused, usr keep_rest, usr keep_foldl, usr keep_State_refBack]
grind_pattern keep_execRefRestored => Keep W z a0, execRefRestored a0

theorem keep_execRoleResampleTimer [Lets W .pw] {a0} (ha0 : Keep W z a0) :
    KeepR W z (execRoleResampleTimer a0) := by
  unfold execRoleResampleTimer
  grind only [= keepR_next, = keepR_fault, = keepR_refused, usr keep_rest, usr keep_foldl, usr keep_State_pwSet]
grind_pattern keep_execRoleResampleTimer => Keep W z a0, execRoleResampleTimer a0

theorem keep_execRoleSample [Lets W .pw] {a0 a1} (ha1 : Keep W z a1) :
    KeepR W z (execRoleSample a0 a1) := by
  unfold execRoleSample
  grind only [= keepR_next, = keepR_fault, = keepR_refused, usr keep_rest, usr keep_foldl, usr keep_State_roleSample]
grind_pattern keep_execRoleSample => Keep W z a1, execRoleSample a0 a1

theorem keep_execRstNReset [Lets W .objs] [Lets W .doms] [Lets W .regs] [Lets W .pw] [Lets W .tm] [Lets W .flt] [Lets W .irq] [Lets W .dsp] [Lets W .seat] [Lets W .ring] [Lets W .xl] [Lets W .pair] [Lets W .pwm] [Lets W .bat] [Lets W .adc] [Lets W .loop] [Lets W .cap] [Lets W .sl] [Lets W .saf] [Lets W .mod] [Lets W .work] [Lets W .mem] [Lets W .tap] [Lets W .freeCtr] [Lets W .out] {a0 a1} (ha1 : Keep W z a1) :
    KeepR W z (execRstNReset a0 a1) := by
  unfold execRstNReset
  grind only [= keepR_next, = keepR_fault, = keepR_refused, usr keep_rest, usr keep_foldl, usr keep_State_wakeStart, usr keep_State_resetNow]
grind_pattern keep_execRstNReset => Keep W z a1, execRstNReset a0 a1

theorem keep_execSoftwareReset [Lets W .objs] [Lets W .doms] [Lets W .regs] [Lets W .pw] [Lets W .tm] [Lets W .flt] [Lets W .irq] [Lets W .dsp] [Lets W .seat] [Lets W .ring] [Lets W .xl] [Lets W .pair] [Lets W .pwm] [Lets W .bat] [Lets W .adc] [Lets W .loop] [Lets W .cap] [Lets W .sl] [Lets W .saf] [Lets W .mod] [Lets W .work] [Lets W .mem] [Lets W .tap] [Lets W .freeCtr] [Lets W .out] {a0 a1} (ha1 : Keep W z a1) :
    KeepR W z (execSoftwareReset a0 a1) := by
  unfold execSoftwareReset
  grind only [= keepE_ok, = keepE_error, = keepR_next, = keepR_fault, = keepR_refused, usr keep_rest, usr keep_foldl, keep_State_guardedValue, usr keep_State_applyPwrCmd]
grind_pattern keep_execSoftwareReset => Keep W z a1, execSoftwareReset a0 a1

theorem keep_execStandbyRequest [Lets W .objs] [Lets W .doms] [Lets W .regs] [Lets W .pw] [Lets W .tm] [Lets W .flt] [Lets W .irq] [Lets W .dsp] [Lets W .seat] [Lets W .ring] [Lets W .xl] [Lets W .pair] [Lets W .pwm] [Lets W .bat] [Lets W .adc] [Lets W .loop] [Lets W .cap] [Lets W .sl] [Lets W .saf] [Lets W .mod] [Lets W .work] [Lets W .mem] [Lets W .tap] [Lets W .freeCtr] [Lets W .out] {a0 a1} (ha1 : Keep W z a1) :
    KeepR W z (execStandbyRequest a0 a1) := by
  unfold execStandbyRequest
  grind only [= keepE_ok, = keepE_error, = keepR_next, = keepR_fault, = keepR_refused, usr keep_rest, usr keep_foldl, keep_State_guardedValue, usr keep_State_applyPwrCmd]
grind_pattern keep_execStandbyRequest => Keep W z a1, execStandbyRequest a0 a1

theorem keep_execStartUpComplete [Lets W .objs] [Lets W .doms] [Lets W .regs] [Lets W .pw] [Lets W .tm] [Lets W .flt] [Lets W .irq] [Lets W .seat] [Lets W .ring] [Lets W .xl] [Lets W .pair] [Lets W .pwm] [Lets W .bat] [Lets W .adc] [Lets W .loop] [Lets W .cap] [Lets W .sl] [Lets W .saf] [Lets W .work] [Lets W .mem] [Lets W .out] {a0 a1} (ha1 : Keep W z a1) :
    KeepR W z (execStartUpComplete a0 a1) := by
  unfold execStartUpComplete
  grind only [= keepR_next, = keepR_fault, = keepR_refused, usr keep_rest, usr keep_foldl, usr keep_State_startUp]
grind_pattern keep_execStartUpComplete => Keep W z a1, execStartUpComplete a0 a1

theorem keep_execStbyIdleExpiry [Lets W .pw] [Lets W .tm] [Lets W .irq] [Lets W .ring] [Lets W .xl] [Lets W .pwm] [Lets W .bat] [Lets W .saf] [Lets W .out] {a0} (ha0 : Keep W z a0) :
    KeepR W z (execStbyIdleExpiry a0) := by
  unfold execStbyIdleExpiry
  grind only [= keepR_next, = keepR_fault, = keepR_refused, usr keep_rest, usr keep_foldl, usr keep_State_standbyEnter, usr keep_State_toTb2]
grind_pattern keep_execStbyIdleExpiry => Keep W z a0, execStbyIdleExpiry a0

theorem keep_execStorageCheck [Lets W .objs] [Lets W .doms] [Lets W .regs] [Lets W .pw] [Lets W .tm] [Lets W .flt] [Lets W .irq] [Lets W .dsp] [Lets W .seat] [Lets W .ring] [Lets W .xl] [Lets W .pair] [Lets W .pwm] [Lets W .bat] [Lets W .adc] [Lets W .loop] [Lets W .cap] [Lets W .sl] [Lets W .saf] [Lets W .mod] [Lets W .work] [Lets W .mem] [Lets W .tap] [Lets W .freeCtr] [Lets W .out] {a0 a1 a2 a3 a4} (ha4 : Keep W z a4) :
    KeepR W z (execStorageCheck a0 a1 a2 a3 a4) := by
  unfold execStorageCheck
  grind only [= keepR_next, = keepR_fault, = keepR_refused, usr keep_rest, usr keep_foldl, usr keep_State_wakeStart, usr keep_State_aonTime, usr keep_State_batSet]
grind_pattern keep_execStorageCheck => Keep W z a4, execStorageCheck a0 a1 a2 a3 a4

theorem keep_execThermalLimit [Lets W .objs] [Lets W .doms] [Lets W .regs] [Lets W .pw] [Lets W .tm] [Lets W .flt] [Lets W .irq] [Lets W .dsp] [Lets W .seat] [Lets W .ring] [Lets W .xl] [Lets W .pair] [Lets W .pwm] [Lets W .bat] [Lets W .adc] [Lets W .loop] [Lets W .cap] [Lets W .sl] [Lets W .saf] [Lets W .mod] [Lets W .work] [Lets W .mem] [Lets W .tap] [Lets W .freeCtr] [Lets W .out] {a0} (ha0 : Keep W z a0) :
    KeepR W z (execThermalLimit a0) := by
  unfold execThermalLimit
  grind only [= keepR_next, = keepR_fault, = keepR_refused, usr keep_rest, usr keep_foldl, usr keep_State_collectorReset, usr keep_State_resetPart]
grind_pattern keep_execThermalLimit => Keep W z a0, execThermalLimit a0

theorem keep_execThermalRelease [Lets W .pw] {a0} (ha0 : Keep W z a0) :
    KeepR W z (execThermalRelease a0) := by
  unfold execThermalRelease
  grind only [= keepR_next, = keepR_fault, = keepR_refused, usr keep_rest, usr keep_foldl, usr keep_State_pwSet]
grind_pattern keep_execThermalRelease => Keep W z a0, execThermalRelease a0

theorem keep_execUvloFall [Lets W .objs] [Lets W .doms] [Lets W .regs] [Lets W .pw] [Lets W .tm] [Lets W .flt] [Lets W .irq] [Lets W .dsp] [Lets W .seat] [Lets W .ring] [Lets W .xl] [Lets W .pair] [Lets W .pwm] [Lets W .bat] [Lets W .adc] [Lets W .loop] [Lets W .cap] [Lets W .sl] [Lets W .saf] [Lets W .mod] [Lets W .work] [Lets W .mem] [Lets W .tap] [Lets W .freeCtr] [Lets W .out] {a0} (ha0 : Keep W z a0) :
    KeepR W z (execUvloFall a0) := by
  unfold execUvloFall
  grind only [= keepR_next, = keepR_fault, = keepR_refused, usr keep_rest, usr keep_foldl, usr keep_State_turnOff]
grind_pattern keep_execUvloFall => Keep W z a0, execUvloFall a0

theorem keep_execWakeEdge [Lets W .objs] [Lets W .doms] [Lets W .regs] [Lets W .pw] [Lets W .tm] [Lets W .flt] [Lets W .irq] [Lets W .dsp] [Lets W .seat] [Lets W .ring] [Lets W .xl] [Lets W .pair] [Lets W .pwm] [Lets W .bat] [Lets W .adc] [Lets W .loop] [Lets W .cap] [Lets W .sl] [Lets W .saf] [Lets W .mod] [Lets W .work] [Lets W .mem] [Lets W .tap] [Lets W .freeCtr] [Lets W .out] {a0 a1 a2} (ha2 : Keep W z a2) :
    KeepR W z (execWakeEdge a0 a1 a2) := by
  unfold execWakeEdge
  grind only [= keepR_next, = keepR_fault, = keepR_refused, usr keep_rest, usr keep_foldl, usr keep_State_wakeStart, usr keep_State_aonTime, usr keep_State_pwSet]
grind_pattern keep_execWakeEdge => Keep W z a2, execWakeEdge a0 a1 a2

theorem keep_execWakeTimerExpiry [Lets W .objs] [Lets W .doms] [Lets W .regs] [Lets W .pw] [Lets W .tm] [Lets W .flt] [Lets W .irq] [Lets W .dsp] [Lets W .seat] [Lets W .ring] [Lets W .xl] [Lets W .pair] [Lets W .pwm] [Lets W .bat] [Lets W .adc] [Lets W .loop] [Lets W .cap] [Lets W .sl] [Lets W .saf] [Lets W .mod] [Lets W .work] [Lets W .mem] [Lets W .tap] [Lets W .freeCtr] [Lets W .out] {a0 a1} (ha1 : Keep W z a1) :
    KeepR W z (execWakeTimerExpiry a0 a1) := by
  unfold execWakeTimerExpiry
  grind only [= keepR_next, = keepR_fault, = keepR_refused, usr keep_rest, usr keep_foldl, usr keep_State_wakeStart]
grind_pattern keep_execWakeTimerExpiry => Keep W z a1, execWakeTimerExpiry a0 a1

theorem keep_execWatchdogReset [Lets W .objs] [Lets W .doms] [Lets W .regs] [Lets W .pw] [Lets W .tm] [Lets W .flt] [Lets W .irq] [Lets W .dsp] [Lets W .seat] [Lets W .ring] [Lets W .xl] [Lets W .pair] [Lets W .pwm] [Lets W .bat] [Lets W .adc] [Lets W .loop] [Lets W .cap] [Lets W .sl] [Lets W .saf] [Lets W .mod] [Lets W .work] [Lets W .mem] [Lets W .tap] [Lets W .freeCtr] [Lets W .out] {a0 a1} (ha1 : Keep W z a1) :
    KeepR W z (execWatchdogReset a0 a1) := by
  unfold execWatchdogReset
  grind only [= keepR_next, = keepR_fault, = keepR_refused, usr keep_rest, usr keep_foldl, usr keep_State_pwSet, usr keep_State_resetPart]
grind_pattern keep_execWatchdogReset => Keep W z a1, execWatchdogReset a0 a1

end Sys2Proof.Laws
end

