-- ==== Sys2Proof/Laws/KeepSheetOps.lean ====
section
/-! SUPPORT. What the operations of Machine/SheetOps keep (see Laws/Keep). -/

set_option Elab.async false
namespace Sys2Proof.Laws
open Sys2Proof.Machine
variable {W : Part → Prop} {z : State}

theorem keep_State_unadmit [Lets W .regs] [Lets W .pw] [Lets W .irq] [Lets W .ring] [Lets W .pwm] [Lets W .bat] [Lets W .loop] [Lets W .out] {a0} (ha0 : Keep W z a0) :
    Keep W z (State.unadmit a0) := by
  unfold State.unadmit
  grind only [usr keep_rest, usr keep_foldl, keep_State_withForce, usr keep_State_pwmSet, usr keep_State_setNode, usr keep_State_idleBreak]
grind_pattern keep_State_unadmit => Keep W z a0, State.unadmit a0

theorem keep_State_takeLift [Lets W .ring] {a0 a1} (ha1 : Keep W z a1) :
    Keep W z (State.takeLift a0 a1) := by
  unfold State.takeLift
  try dsimp only
  repeat' (first | with_reducible assumption | with_reducible exact True.intro | intro _ | with_reducible apply keep_State_setNode | with_reducible apply keep_ite | with_reducible apply keep_foldl | (simp only [keepE_ok, keepE_error, keepR_next, keepR_fault, keepR_refused, keepP_mk, keepP2_mk, keepP3_mk, keepO_some, keepO_none, keepO2_some, keepO2_none]) | split)
grind_pattern keep_State_takeLift => Keep W z a1, State.takeLift a0 a1

theorem keep_State_unexpAgain [Lets W .saf] {a0 a1} (ha1 : Keep W z a1) :
    Keep W z (State.unexpAgain a0 a1) := by
  unfold State.unexpAgain
  grind only [usr keep_rest, usr keep_foldl, usr keep_State_safSet]
grind_pattern keep_State_unexpAgain => Keep W z a1, State.unexpAgain a0 a1

theorem keep_State_cellCurtain [Lets W .regs] [Lets W .irq] [Lets W .ring] [Lets W .pwm] [Lets W .bat] [Lets W .loop] [Lets W .cap] [Lets W .work] [Lets W .out] {a0 a1} (ha1 : Keep W z a1) :
    Keep W z (State.cellCurtain a0 a1) := by
  unfold State.cellCurtain
  grind [keep_foldl, keep_State_rngEvt, keep_State_setPort, keep_State_sendC, keep_State_capHappen, keep_State_withForce, keep_State_setNode, = keepE_ok, = keepE_error, = keepR_next, = keepR_fault, = keepR_refused, = keepP_mk, → keepP_snd, = keepP2_mk, → keepP2_snd, = keepP3_mk, → keepP3_snd, = keepO_some, = keepO_none, = keepO2_some, = keepO2_none]
grind_pattern keep_State_cellCurtain => Keep W z a1, State.cellCurtain a0 a1

theorem keep_State_noteSheet [Lets W .objs] [Lets W .ring] [Lets W .pair] {a0 a1 a2 a3 a4} (ha4 : Keep W z a4) :
    Keep W z (State.noteSheet a0 a1 a2 a3 a4) := by
  unfold State.noteSheet
  grind only [usr keep_rest, usr keep_foldl, usr keep_State_pairSet, usr keep_State_setRing, usr keep_State_setCellRec, usr keep_State_oset]
grind_pattern keep_State_noteSheet => Keep W z a4, State.noteSheet a0 a1 a2 a3 a4

theorem keep_State_takeReport [Lets W .objs] [Lets W .regs] [Lets W .flt] [Lets W .irq] [Lets W .ring] [Lets W .cap] [Lets W .work] {a0 a1 a2 a3} (ha3 : Keep W z a3) :
    Keep W z (State.takeReport a0 a1 a2 a3) := by
  unfold State.takeReport
  grind only [usr keep_rest, usr keep_foldl, usr keep_State_ringLog, usr keep_State_setCellRec, usr keep_State_fltSet]
grind_pattern keep_State_takeReport => Keep W z a3, State.takeReport a0 a1 a2 a3

theorem keep_State_ownRecord [Lets W .regs] [Lets W .ring] {a0 a1 a2} (ha2 : Keep W z a2) :
    KeepP W z (State.ownRecord a0 a1 a2) := by
  unfold State.ownRecord
  grind only [= keepP_mk, → keepP_snd, ← keep_foldlP, usr keep_rest, usr keep_foldl, usr keep_State_spendInj]
grind_pattern keep_State_ownRecord => Keep W z a2, State.ownRecord a0 a1 a2

theorem keep_State_sendTrain [Lets W .objs] [Lets W .regs] [Lets W .flt] [Lets W .irq] [Lets W .ring] [Lets W .cap] [Lets W .work] [Lets W .out] {a0 a1 a2 a3} (ha3 : Keep W z a3) :
    Keep W z (State.sendTrain a0 a1 a2 a3) := by
  unfold State.sendTrain
  grind only [usr keep_rest, usr keep_foldl, usr keep_State_txForward, usr keep_State_txAdd]
grind_pattern keep_State_sendTrain => Keep W z a3, State.sendTrain a0 a1 a2 a3

theorem keep_State_takeMark [Lets W .objs] [Lets W .tm] [Lets W .pair] {a0 a1 a2} (ha2 : Keep W z a2) :
    Keep W z (State.takeMark a0 a1 a2) := by
  unfold State.takeMark
  grind only [usr keep_rest, usr keep_foldl, usr keep_State_tmSet, usr keep_State_oset, usr keep_State_pairSet]
grind_pattern keep_State_takeMark => Keep W z a2, State.takeMark a0 a1 a2

theorem keep_State_seeSheet [Lets W .objs] [Lets W .tm] [Lets W .ring] [Lets W .pair] {a0 a1 a2} (ha1 : Keep W z a1.st) (ha2 : Keep W z a2) :
    Keep W z (State.seeSheet a0 a1 a2) := by
  unfold State.seeSheet
  grind only [usr keep_rest, usr keep_foldl, usr keep_State_noteSheet, usr keep_State_takeMark, usr keep_State_pairSet]
grind_pattern keep_State_seeSheet => Keep W z a2, State.seeSheet a0 a1 a2

theorem keep_State_takeRecord [Lets W .objs] [Lets W .regs] [Lets W .flt] [Lets W .irq] [Lets W .seat] [Lets W .ring] [Lets W .pwm] [Lets W .bat] [Lets W .loop] [Lets W .cap] [Lets W .work] [Lets W .out] {a0 a1 a2 a3 a4 a5 a6} (ha6 : Keep W z a6) :
    Keep W z (State.takeRecord a0 a1 a2 a3 a4 a5 a6) := by
  unfold State.takeRecord
  try dsimp only
  repeat' (first | with_reducible assumption | with_reducible exact True.intro | intro _ | with_reducible apply keep_State_setNode | with_reducible apply keep_State_ringLog | with_reducible apply keep_State_tokenReset | with_reducible apply keep_State_batAdmitted | with_reducible apply keep_State_pwmSet | with_reducible apply keep_State_bump | with_reducible apply keep_ite | with_reducible apply keep_foldl | (simp only [keepE_ok, keepE_error, keepR_next, keepR_fault, keepR_refused, keepP_mk, keepP2_mk, keepP3_mk, keepO_some, keepO_none, keepO2_some, keepO2_none]) | split)
grind_pattern keep_State_takeRecord => Keep W z a6, State.takeRecord a0 a1 a2 a3 a4 a5 a6

theorem keep_State_takeSheet [Lets W .objs] [Lets W .regs] [Lets W .tm] [Lets W .flt] [Lets W .irq] [Lets W .seat] [Lets W .ring] [Lets W .pair] [Lets W .pwm] [Lets W .bat] [Lets W .loop] [Lets W .cap] [Lets W .work] [Lets W .out] {a0 a1 a2 a3 a4} (ha2 : Keep W z a2.st) (ha4 : Keep W z a4) :
    Keep W z (State.takeSheet a0 a1 a2 a3 a4) := by
  unfold State.takeSheet
  grind only [usr keep_rest, usr keep_foldl, usr keep_State_ringLog, usr keep_State_forwardBad, usr keep_State_forwardOut, usr keep_State_takeMark, usr keep_State_setNode, usr keep_State_takeRecord]
grind_pattern keep_State_takeSheet => Keep W z a4, State.takeSheet a0 a1 a2 a3 a4

end Sys2Proof.Laws
end

