-- ==== Sys2Proof/Laws/KeepRings.lean ====
section
/-! SUPPORT. What the operations of Machine/Rings keep (see Laws/Keep). -/

set_option Elab.async false
namespace Sys2Proof.Laws
open Sys2Proof.Machine
variable {W : Part → Prop} {z : State}

theorem keep_clearRingLog [Lets W .objs] [Lets W .regs] [Lets W .flt] [Lets W .irq] [Lets W .ring] [Lets W .cap] [Lets W .work] {a0} (ha0 : Keep W z a0) :
    Keep W z (clearRingLog a0) := by
  unfold clearRingLog
  grind only [usr keep_rest, usr keep_foldl, usr keep_State_oset, usr keep_State_rset, usr keep_State_rateCheck]
grind_pattern keep_clearRingLog => Keep W z a0, clearRingLog a0

theorem keep_applyVlogCmd [Lets W .objs] [Lets W .regs] [Lets W .flt] [Lets W .irq] [Lets W .ring] [Lets W .cap] [Lets W .work] {a0 a1} (ha1 : Keep W z a1) :
    KeepE W z (applyVlogCmd a0 a1) := by
  unfold applyVlogCmd
  grind only [= keepE_ok, = keepE_error, usr keep_rest, usr keep_foldl, usr keep_clearRingLog]
grind_pattern keep_applyVlogCmd => Keep W z a1, applyVlogCmd a0 a1

theorem keep_State_sendCapture [Lets W .objs] [Lets W .regs] [Lets W .flt] [Lets W .irq] [Lets W .ring] [Lets W .cap] [Lets W .work] [Lets W .freeCtr] [Lets W .out] {a0 a1 a2 a3 a4} (ha4 : Keep W z a4) :
    Keep W z (State.sendCapture a0 a1 a2 a3 a4) := by
  unfold State.sendCapture
  grind only [= keepP_mk, → keepP_snd, ← keep_foldlP, = keepP2_mk, → keepP2_snd, ← keep_foldlP2, usr keep_rest, usr keep_foldl, usr keep_State_memLoad, usr keep_State_queueBg]
grind_pattern keep_State_sendCapture => Keep W z a4, State.sendCapture a0 a1 a2 a3 a4

theorem keep_openWindow [Lets W .regs] [Lets W .ring] [Lets W .cap] [Lets W .out] {a0 a1} (ha1 : Keep W z a1) :
    Keep W z (openWindow a0 a1) := by
  unfold openWindow
  grind only [usr keep_rest, usr keep_foldl, usr keep_State_pump, usr keep_State_setPort]
grind_pattern keep_openWindow => Keep W z a1, openWindow a0 a1

theorem keep_execBackgroundWindow [Lets W .objs] [Lets W .regs] [Lets W .flt] [Lets W .irq] [Lets W .ring] [Lets W .xl] [Lets W .cap] [Lets W .work] [Lets W .mem] [Lets W .freeCtr] [Lets W .out] {a0 a1} (ha1 : Keep W z a1) :
    KeepR W z (execBackgroundWindow a0 a1) := by
  unfold execBackgroundWindow
  grind only [= keepR_next, = keepR_fault, = keepR_refused, usr keep_rest, usr keep_foldl, usr keep_State_pump, usr keep_State_passWindow, usr keep_State_queueTime, usr keep_openWindow, usr keep_State_sendCapture]
grind_pattern keep_execBackgroundWindow => Keep W z a1, execBackgroundWindow a0 a1

theorem keep_execCheckerLock [Lets W .regs] [Lets W .irq] [Lets W .ring] [Lets W .out] {a0 a1 a2} (ha2 : Keep W z a2) :
    KeepR W z (execCheckerLock a0 a1 a2) := by
  unfold execCheckerLock
  grind only [= keepR_next, = keepR_fault, = keepR_refused, usr keep_rest, usr keep_foldl, usr keep_State_checkBits]
grind_pattern keep_execCheckerLock => Keep W z a2, execCheckerLock a0 a1 a2

theorem keep_execEnumCommission [Lets W .doms] [Lets W .regs] [Lets W .pw] [Lets W .flt] [Lets W .irq] [Lets W .seat] [Lets W .ring] [Lets W .xl] [Lets W .pair] [Lets W .cap] [Lets W .mod] [Lets W .work] [Lets W .out] {a0 a1 a2} (ha2 : Keep W z a2) :
    KeepR W z (execEnumCommission a0 a1 a2) := by
  unfold execEnumCommission
  grind only [= keepE_ok, = keepE_error, = keepR_next, = keepR_fault, = keepR_refused, usr keep_rest, usr keep_foldl, keep_State_guardedValue, usr keep_State_applyEnumCmd]
grind_pattern keep_execEnumCommission => Keep W z a2, execEnumCommission a0 a1 a2

theorem keep_execEnumFrame [Lets W .objs] [Lets W .regs] [Lets W .pw] [Lets W .flt] [Lets W .irq] [Lets W .ring] [Lets W .xl] [Lets W .pwm] [Lets W .bat] [Lets W .loop] [Lets W .cap] [Lets W .work] [Lets W .out] {a0 a1 a2 a3 a4 a5} (ha5 : Keep W z a5) :
    KeepR W z (execEnumFrame a0 a1 a2 a3 a4 a5) := by
  unfold execEnumFrame
  grind only [= keepR_next, = keepR_fault, = keepR_refused, usr keep_rest, usr keep_foldl, keep_State_rxTyped, usr keep_State_forwardOut, usr keep_State_setNode, usr keep_State_unadmit]
grind_pattern keep_execEnumFrame => Keep W z a5, execEnumFrame a0 a1 a2 a3 a4 a5

theorem keep_execEnumReenumerate [Lets W .doms] [Lets W .regs] [Lets W .pw] [Lets W .flt] [Lets W .irq] [Lets W .seat] [Lets W .ring] [Lets W .xl] [Lets W .pair] [Lets W .cap] [Lets W .mod] [Lets W .work] [Lets W .out] {a0 a1 a2} (ha2 : Keep W z a2) :
    KeepR W z (execEnumReenumerate a0 a1 a2) := by
  unfold execEnumReenumerate
  grind only [= keepE_ok, = keepE_error, = keepR_next, = keepR_fault, = keepR_refused, usr keep_rest, usr keep_foldl, keep_State_guardedValue, usr keep_State_applyEnumCmd]
grind_pattern keep_execEnumReenumerate => Keep W z a2, execEnumReenumerate a0 a1 a2

theorem keep_execEnumRemove [Lets W .doms] [Lets W .regs] [Lets W .pw] [Lets W .flt] [Lets W .irq] [Lets W .seat] [Lets W .ring] [Lets W .xl] [Lets W .pair] [Lets W .cap] [Lets W .mod] [Lets W .work] [Lets W .out] {a0 a1 a2} (ha2 : Keep W z a2) :
    KeepR W z (execEnumRemove a0 a1 a2) := by
  unfold execEnumRemove
  grind only [= keepE_ok, = keepE_error, = keepR_next, = keepR_fault, = keepR_refused, usr keep_rest, usr keep_foldl, keep_State_guardedValue, usr keep_State_applyEnumCmd]
grind_pattern keep_execEnumRemove => Keep W z a2, execEnumRemove a0 a1 a2

theorem keep_execEnumReturn [Lets W .objs] [Lets W .regs] [Lets W .flt] [Lets W .irq] [Lets W .ring] [Lets W .xl] [Lets W .cap] [Lets W .work] [Lets W .out] {a0 a1 a2 a3 a4} (ha4 : Keep W z a4) :
    KeepR W z (execEnumReturn a0 a1 a2 a3 a4) := by
  unfold execEnumReturn
  grind only [= keepR_next, = keepR_fault, = keepR_refused, usr keep_rest, usr keep_foldl, keep_State_rxTyped, usr keep_State_enumBack]
grind_pattern keep_execEnumReturn => Keep W z a4, execEnumReturn a0 a1 a2 a3 a4

theorem keep_execFrameForward [Lets W .objs] [Lets W .regs] [Lets W .flt] [Lets W .irq] [Lets W .ring] [Lets W .xl] [Lets W .cap] [Lets W .work] [Lets W .out] {a0 a1 a2 a3} (ha3 : Keep W z a3) :
    KeepR W z (execFrameForward a0 a1 a2 a3) := by
  unfold execFrameForward
  grind only [= keepR_next, = keepR_fault, = keepR_refused, usr keep_rest, usr keep_foldl, usr keep_State_rxRing]
grind_pattern keep_execFrameForward => Keep W z a3, execFrameForward a0 a1 a2 a3

theorem keep_execHealHoldExpiry [Lets W .regs] [Lets W .flt] [Lets W .irq] [Lets W .ring] [Lets W .cap] [Lets W .work] {a0 a1} (ha1 : Keep W z a1) :
    KeepR W z (execHealHoldExpiry a0 a1) := by
  unfold execHealHoldExpiry
  grind only [= keepR_next, = keepR_fault, = keepR_refused, usr keep_rest, usr keep_foldl, usr keep_State_healed]
grind_pattern keep_execHealHoldExpiry => Keep W z a1, execHealHoldExpiry a0 a1

theorem keep_execLaneSilenceEnd [Lets W .ring] [Lets W .out] {a0 a1} (ha1 : Keep W z a1) :
    KeepR W z (execLaneSilenceEnd a0 a1) := by
  unfold execLaneSilenceEnd
  grind only [= keepR_next, = keepR_fault, = keepR_refused, usr keep_rest, usr keep_foldl, usr keep_State_sendSym, usr keep_State_setPort]
grind_pattern keep_execLaneSilenceEnd => Keep W z a1, execLaneSilenceEnd a0 a1

theorem keep_execLinkDown [Lets W .objs] [Lets W .regs] [Lets W .pw] [Lets W .flt] [Lets W .irq] [Lets W .ring] [Lets W .cap] [Lets W .work] [Lets W .out] {a0 a1} (ha1 : Keep W z a1) :
    KeepR W z (execLinkDown a0 a1) := by
  unfold execLinkDown
  grind only [= keepR_next, = keepR_fault, = keepR_refused, usr keep_rest, usr keep_foldl, usr keep_State_enterDetect, usr keep_State_linkLost]
grind_pattern keep_execLinkDown => Keep W z a1, execLinkDown a0 a1

theorem keep_execLinkFrame [Lets W .objs] [Lets W .regs] [Lets W .flt] [Lets W .irq] [Lets W .ring] [Lets W .xl] [Lets W .cap] [Lets W .work] [Lets W .out] {a0 a1 a2 a3} (ha3 : Keep W z a3) :
    KeepR W z (execLinkFrame a0 a1 a2 a3) := by
  unfold execLinkFrame
  grind only [= keepR_next, = keepR_fault, = keepR_refused, usr keep_rest, usr keep_foldl, keep_State_rxTyped, usr keep_State_irqPost, usr keep_State_breakNotice, usr keep_State_healNotice]
grind_pattern keep_execLinkFrame => Keep W z a3, execLinkFrame a0 a1 a2 a3

theorem keep_leaveRing [Lets W .regs] [Lets W .pw] [Lets W .irq] [Lets W .ring] [Lets W .pwm] [Lets W .bat] [Lets W .loop] [Lets W .out] {a0} (ha0 : Keep W z a0) :
    Keep W z (leaveRing a0) := by
  unfold leaveRing
  grind only [usr keep_rest, usr keep_foldl, usr keep_State_unadmit, usr keep_State_setNode]
grind_pattern keep_leaveRing => Keep W z a0, leaveRing a0

theorem keep_execOfferReceived [Lets W .regs] [Lets W .pw] [Lets W .flt] [Lets W .irq] [Lets W .ring] [Lets W .pwm] [Lets W .bat] [Lets W .loop] [Lets W .cap] [Lets W .work] [Lets W .out] {a0 a1 a2} (ha2 : Keep W z a2) :
    KeepR W z (execOfferReceived a0 a1 a2) := by
  unfold execOfferReceived
  grind only [= keepR_next, = keepR_fault, = keepR_refused, usr keep_rest, usr keep_foldl, usr keep_leaveRing, usr keep_State_setPort, usr keep_State_raise, usr keep_State_release, usr keep_State_sendSym]
grind_pattern keep_execOfferReceived => Keep W z a2, execOfferReceived a0 a1 a2

theorem keep_execOfferTimer [Lets W .out] {a0 a1} (ha1 : Keep W z a1) :
    KeepR W z (execOfferTimer a0 a1) := by
  unfold execOfferTimer
  grind only [= keepR_next, = keepR_fault, = keepR_refused, usr keep_rest, usr keep_foldl, usr keep_State_sendSym]
grind_pattern keep_execOfferTimer => Keep W z a1, execOfferTimer a0 a1

theorem keep_execPortEnable [Lets W .regs] [Lets W .ring] [Lets W .out] {a0 a1 a2} (ha2 : Keep W z a2) :
    KeepR W z (execPortEnable a0 a1 a2) := by
  unfold execPortEnable
  grind only [= keepR_next, = keepR_fault, = keepR_refused, usr keep_rest, usr keep_foldl, usr keep_State_rset, usr keep_State_startPort, usr keep_State_sendSym, usr keep_State_setPort]
grind_pattern keep_execPortEnable => Keep W z a2, execPortEnable a0 a1 a2

theorem keep_execPortTest [Lets W .objs] [Lets W .regs] [Lets W .pw] [Lets W .flt] [Lets W .irq] [Lets W .ring] [Lets W .cap] [Lets W .work] [Lets W .out] {a0 a1 a2} (ha2 : Keep W z a2) :
    KeepR W z (execPortTest a0 a1 a2) := by
  unfold execPortTest
  grind only [= keepR_next, = keepR_fault, = keepR_refused, usr keep_rest, usr keep_foldl, usr keep_State_rset, usr keep_State_setPort, usr keep_State_patSend, usr keep_State_linkLost, usr keep_State_enterDetect, usr keep_State_startPort]
grind_pattern keep_execPortTest => Keep W z a2, execPortTest a0 a1 a2

theorem keep_injStart [Lets W .regs] [Lets W .ring] [Lets W .out] {a0 a1 a2} (ha2 : Keep W z a2) :
    Keep W z (injStart a0 a1 a2) := by
  unfold injStart
  grind only [usr keep_rest, usr keep_foldl, usr keep_State_rset, usr keep_State_sendSym, usr keep_State_setPort]
grind_pattern keep_injStart => Keep W z a2, injStart a0 a1 a2

theorem keep_execRateCapFrame [Lets W .objs] [Lets W .regs] [Lets W .flt] [Lets W .irq] [Lets W .ring] [Lets W .xl] [Lets W .cap] [Lets W .work] [Lets W .out] {a0 a1 a2 a3} (ha3 : Keep W z a3) :
    KeepR W z (execRateCapFrame a0 a1 a2 a3) := by
  unfold execRateCapFrame
  grind only [= keepR_next, = keepR_fault, = keepR_refused, usr keep_rest, usr keep_foldl, keep_State_rxTyped, usr keep_State_setNode, usr keep_State_setPort, usr keep_State_enterDetect]
grind_pattern keep_execRateCapFrame => Keep W z a3, execRateCapFrame a0 a1 a2 a3

theorem keep_execRingArmWrite [Lets W .objs] [Lets W .regs] [Lets W .pw] [Lets W .flt] [Lets W .irq] [Lets W .seat] [Lets W .ring] [Lets W .pair] [Lets W .cap] [Lets W .work] [Lets W .out] {a0 a1 a2 a3} (ha3 : Keep W z a3) :
    KeepR W z (execRingArmWrite a0 a1 a2 a3) := by
  unfold execRingArmWrite
  grind only [= keepE_ok, = keepE_error, = keepR_next, = keepR_fault, = keepR_refused, usr keep_rest, usr keep_foldl, keep_State_guardedValue, usr keep_State_applyRingArm]
grind_pattern keep_execRingArmWrite => Keep W z a3, execRingArmWrite a0 a1 a2 a3

theorem keep_execRngInjGo [Lets W .regs] [Lets W .ring] [Lets W .out] {a0 a1 a2} (ha2 : Keep W z a2) :
    KeepR W z (execRngInjGo a0 a1 a2) := by
  unfold execRngInjGo
  grind only [= keepR_next, = keepR_fault, = keepR_refused, usr keep_rest, usr keep_foldl, usr keep_injStart]
grind_pattern keep_execRngInjGo => Keep W z a2, execRngInjGo a0 a1 a2

theorem keep_readClear [Lets W .regs] [Lets W .out] {a0 a1 a2} (ha2 : Keep W z a2) :
    Keep W z (readClear a0 a1 a2) := by
  unfold readClear
  grind only [usr keep_rest, usr keep_foldl, usr keep_State_rset, usr keep_State_emit]
grind_pattern keep_readClear => Keep W z a2, readClear a0 a1 a2

theorem keep_execRngPbitsRead [Lets W .regs] [Lets W .out] {a0 a1 a2} (ha2 : Keep W z a2) :
    KeepR W z (execRngPbitsRead a0 a1 a2) := by
  unfold execRngPbitsRead
  grind only [= keepR_next, = keepR_fault, = keepR_refused, usr keep_rest, usr keep_foldl, usr keep_readClear, usr keep_State_emit]
grind_pattern keep_execRngPbitsRead => Keep W z a2, execRngPbitsRead a0 a1 a2

theorem keep_execRngPerrRead [Lets W .regs] [Lets W .out] {a0 a1 a2} (ha2 : Keep W z a2) :
    KeepR W z (execRngPerrRead a0 a1 a2) := by
  unfold execRngPerrRead
  grind only [= keepR_next, = keepR_fault, = keepR_refused, usr keep_rest, usr keep_foldl, usr keep_readClear, usr keep_State_emit]
grind_pattern keep_execRngPerrRead => Keep W z a2, execRngPerrRead a0 a1 a2

theorem keep_execSignalDetect [Lets W .ring] [Lets W .out] {a0 a1} (ha1 : Keep W z a1) :
    KeepR W z (execSignalDetect a0 a1) := by
  unfold execSignalDetect
  grind only [= keepR_next, = keepR_fault, = keepR_refused, usr keep_rest, usr keep_foldl, usr keep_State_setPort, usr keep_State_sendSym]
grind_pattern keep_execSignalDetect => Keep W z a1, execSignalDetect a0 a1

theorem keep_execTrainStart [Lets W .ring] [Lets W .out] {a0 a1} (ha1 : Keep W z a1) :
    KeepR W z (execTrainStart a0 a1) := by
  unfold execTrainStart
  grind only [= keepR_next, = keepR_fault, = keepR_refused, usr keep_rest, usr keep_foldl, usr keep_State_sendSym, usr keep_State_setPort]
grind_pattern keep_execTrainStart => Keep W z a1, execTrainStart a0 a1

theorem keep_State_curtainOnUp [Lets W .ring] [Lets W .out] {a0 a1} (ha1 : Keep W z a1) :
    Keep W z (State.curtainOnUp a0 a1) := by
  unfold State.curtainOnUp
  grind only [usr keep_rest, usr keep_foldl, usr keep_State_sendC]
grind_pattern keep_State_curtainOnUp => Keep W z a1, State.curtainOnUp a0 a1

theorem keep_reachUp [Lets W .regs] [Lets W .tm] [Lets W .flt] [Lets W .irq] [Lets W .ring] [Lets W .xl] [Lets W .cap] [Lets W .work] [Lets W .out] {a0 a1} (ha1 : Keep W z a1) :
    Keep W z (reachUp a0 a1) := by
  unfold reachUp
  grind only [usr keep_rest, usr keep_foldl, usr keep_State_curtainOnUp, usr keep_State_rngEvt, usr keep_State_setPort, usr keep_State_linkNotice, usr keep_State_hopBack, usr keep_State_startEnum]
grind_pattern keep_reachUp => Keep W z a1, reachUp a0 a1

theorem keep_execTrainingEnd [Lets W .regs] [Lets W .tm] [Lets W .flt] [Lets W .irq] [Lets W .ring] [Lets W .xl] [Lets W .cap] [Lets W .work] [Lets W .out] {a0 a1 a2 a3} (ha3 : Keep W z a3) :
    KeepR W z (execTrainingEnd a0 a1 a2 a3) := by
  unfold execTrainingEnd
  grind only [= keepR_next, = keepR_fault, = keepR_refused, usr keep_rest, usr keep_foldl, usr keep_State_sendSym, usr keep_reachUp, usr keep_State_setPort, usr keep_State_enterDetect]
grind_pattern keep_execTrainingEnd => Keep W z a3, execTrainingEnd a0 a1 a2 a3

theorem keep_execVlogCmdClear [Lets W .objs] [Lets W .regs] [Lets W .pw] [Lets W .flt] [Lets W .irq] [Lets W .seat] [Lets W .ring] [Lets W .pair] [Lets W .cap] [Lets W .work] [Lets W .out] {a0 a1} (ha1 : Keep W z a1) :
    KeepR W z (execVlogCmdClear a0 a1) := by
  unfold execVlogCmdClear
  grind only [= keepE_ok, = keepE_error, = keepR_next, = keepR_fault, = keepR_refused, usr keep_rest, usr keep_foldl, keep_State_guardedValue, usr keep_applyVlogCmd]
grind_pattern keep_execVlogCmdClear => Keep W z a1, execVlogCmdClear a0 a1

end Sys2Proof.Laws
end

