-- ==== Sys2Proof/Laws/KeepSeatOps.lean ====
section
/-! SUPPORT. What the operations of Machine/SeatOps keep (see Laws/Keep). -/

set_option Elab.async false
namespace Sys2Proof.Laws
open Sys2Proof.Machine
variable {W : Part → Prop} {z : State}

theorem keep_State_restoreOne [Lets W .objs] [Lets W .doms] [Lets W .loop] [Lets W .sl] {a0 a1 a2 a3} (ha0 : ∀ x0 x1 x2, Keep W z x2 → KeepE W z (a0 x0 x1 x2)) (ha3 : Keep W z a3) :
    Keep W z (State.restoreOne a0 a1 a2 a3) := by
  unfold State.restoreOne
  grind only [= keepE_ok, = keepE_error, usr keep_rest, usr keep_foldl, usr keep_State_loadValue]

theorem keep_State_setParam [Lets W .mem] {a0 a1 a2} (ha2 : Keep W z a2) :
    Keep W z (State.setParam a0 a1 a2) := by
  unfold State.setParam
  grind only [usr keep_rest, usr keep_foldl, usr keep_State_memSet]
grind_pattern keep_State_setParam => Keep W z a2, State.setParam a0 a1 a2

theorem keep_State_storeStart [Lets W .objs] [Lets W .seat] [Lets W .mem] {a0} (ha0 : Keep W z a0) :
    Keep W z (State.storeStart a0) := by
  unfold State.storeStart
  grind only [usr keep_rest, usr keep_foldl, usr keep_State_oset, usr keep_State_setParam, usr keep_State_seatSet]
grind_pattern keep_State_storeStart => Keep W z a0, State.storeStart a0

theorem keep_State_applyStoreCmd [Lets W .objs] [Lets W .doms] [Lets W .regs] [Lets W .flt] [Lets W .irq] [Lets W .seat] [Lets W .loop] [Lets W .cap] [Lets W .sl] [Lets W .work] [Lets W .mem] {a0 a1 a2} (ha0 : ∀ x0 x1 x2, Keep W z x2 → KeepE W z (a0 x0 x1 x2)) (ha2 : Keep W z a2) :
    KeepE W z (State.applyStoreCmd a0 a1 a2) := by
  unfold State.applyStoreCmd
  grind only [= keepE_ok, = keepE_error, usr keep_rest, usr keep_foldl, usr keep_State_storeStart, keep_State_restoreOne, usr keep_State_irqPost, usr keep_State_oset, usr keep_State_flashError, usr keep_State_loadValue]

theorem keep_State_applyTakeover [Lets W .pair] {a0 a1} (ha1 : Keep W z a1) :
    KeepE W z (State.applyTakeover a0 a1) := by
  unfold State.applyTakeover
  grind only [= keepE_ok, = keepE_error, usr keep_rest, usr keep_foldl]
grind_pattern keep_State_applyTakeover => Keep W z a1, State.applyTakeover a0 a1

theorem keep_State_applySeatVlogCmd [Lets W .regs] [Lets W .flt] [Lets W .irq] [Lets W .seat] [Lets W .cap] [Lets W .work] {a0 a1} (ha1 : Keep W z a1) :
    KeepE W z (State.applySeatVlogCmd a0 a1) := by
  unfold State.applySeatVlogCmd
  grind only [= keepE_ok, = keepE_error, usr keep_rest, usr keep_foldl, usr keep_State_rateCheck, usr keep_State_seatSet]
grind_pattern keep_State_applySeatVlogCmd => Keep W z a1, State.applySeatVlogCmd a0 a1

theorem keep_State_tokenAsk [Lets W .irq] [Lets W .seat] {a0 a1 a2} (ha2 : Keep W z a2) :
    Keep W z (State.tokenAsk a0 a1 a2) := by
  unfold State.tokenAsk
  grind only [usr keep_rest, usr keep_foldl, usr keep_State_irqPost, usr keep_State_seatSet]
grind_pattern keep_State_tokenAsk => Keep W z a2, State.tokenAsk a0 a1 a2

theorem keep_State_tokenUnask [Lets W .seat] {a0 a1 a2} (ha2 : Keep W z a2) :
    Keep W z (State.tokenUnask a0 a1 a2) := by
  unfold State.tokenUnask
  grind only [usr keep_rest, usr keep_foldl, usr keep_State_seatSet]
grind_pattern keep_State_tokenUnask => Keep W z a2, State.tokenUnask a0 a1 a2

theorem keep_State_applyTokenCmd [Lets W .irq] [Lets W .seat] {a0 a1 a2} (ha2 : Keep W z a2) :
    KeepE W z (State.applyTokenCmd a0 a1 a2) := by
  unfold State.applyTokenCmd
  grind only [= keepE_ok, = keepE_error, usr keep_rest, usr keep_foldl, usr keep_State_tokenGive, usr keep_State_tokenAsk, usr keep_State_tokenPass, usr keep_State_leaseRestart, usr keep_State_tokenUnask]
grind_pattern keep_State_applyTokenCmd => Keep W z a2, State.applyTokenCmd a0 a1 a2

theorem keep_State_tokenLost [Lets W .irq] [Lets W .seat] {a0 a1 a2} (ha2 : Keep W z a2) :
    Keep W z (State.tokenLost a0 a1 a2) := by
  unfold State.tokenLost
  grind only [usr keep_rest, usr keep_foldl, usr keep_State_tokenPass]
grind_pattern keep_State_tokenLost => Keep W z a2, State.tokenLost a0 a1 a2

theorem keep_State_storeEnd [Lets W .objs] [Lets W .regs] [Lets W .pw] [Lets W .flt] [Lets W .irq] [Lets W .seat] [Lets W .cap] [Lets W .work] [Lets W .mem] {a0 a1} (ha1 : Keep W z a1) :
    Keep W z (State.storeEnd a0 a1) := by
  unfold State.storeEnd
  grind only [usr keep_rest, usr keep_foldl, usr keep_State_idleBreak, usr keep_State_seatSet, usr keep_State_flashError, usr keep_State_oset, usr keep_State_irqPost, usr keep_State_storeUse, usr keep_State_setParam]
grind_pattern keep_State_storeEnd => Keep W z a1, State.storeEnd a0 a1

theorem keep_State_tokenExpire [Lets W .tm] [Lets W .irq] [Lets W .seat] {a0} (ha0 : Keep W z a0) :
    Keep W z (State.tokenExpire a0) := by
  unfold State.tokenExpire
  grind only [usr keep_rest, usr keep_foldl, usr keep_State_tokenPass, usr keep_State_toTb2]
grind_pattern keep_State_tokenExpire => Keep W z a0, State.tokenExpire a0

end Sys2Proof.Laws
end

