-- ==== Sys2Proof/Laws/KeepXl.lean ====
section
/-! SUPPORT. What the operations of Machine/Xl keep (see Laws/Keep). -/

set_option Elab.async false
namespace Sys2Proof.Laws
open Sys2Proof.Machine
variable {W : Part → Prop} {z : State}

theorem keep_clearXlLog [Lets W .objs] [Lets W .regs] [Lets W .flt] [Lets W .irq] [Lets W .xl] [Lets W .cap] [Lets W .work] {a0} (ha0 : Keep W z a0) :
    Keep W z (clearXlLog a0) := by
  unfold clearXlLog
  grind only [usr keep_rest, usr keep_foldl, usr keep_State_oset, usr keep_State_rateCheck]
grind_pattern keep_clearXlLog => Keep W z a0, clearXlLog a0

theorem keep_applyXlVlogCmd [Lets W .objs] [Lets W .regs] [Lets W .flt] [Lets W .irq] [Lets W .xl] [Lets W .cap] [Lets W .work] {a0 a1} (ha1 : Keep W z a1) :
    KeepE W z (applyXlVlogCmd a0 a1) := by
  unfold applyXlVlogCmd
  grind only [= keepE_ok, = keepE_error, usr keep_rest, usr keep_foldl, usr keep_clearXlLog]
grind_pattern keep_applyXlVlogCmd => Keep W z a1, applyXlVlogCmd a0 a1

theorem keep_execCurtainSetPeer [Lets W .objs] [Lets W .regs] [Lets W .flt] [Lets W .irq] [Lets W .ring] [Lets W .xl] [Lets W .pwm] [Lets W .bat] [Lets W .loop] [Lets W .cap] [Lets W .saf] [Lets W .work] [Lets W .out] {a0 a1 a2 a3 a4} (ha4 : Keep W z a4) :
    KeepR W z (execCurtainSetPeer a0 a1 a2 a3 a4) := by
  unfold execCurtainSetPeer
  grind only [= keepR_next, = keepR_fault, = keepR_refused, = keepP_mk, → keepP_snd, ← keep_foldlP, usr keep_rest, usr keep_foldl, usr keep_State_curtSet, usr keep_State_safUpdate, usr keep_State_safSet]
grind_pattern keep_execCurtainSetPeer => Keep W z a4, execCurtainSetPeer a0 a1 a2 a3 a4

theorem keep_execCurtainSetTimeout [Lets W .regs] [Lets W .tm] [Lets W .flt] [Lets W .irq] [Lets W .ring] [Lets W .xl] [Lets W .pwm] [Lets W .bat] [Lets W .loop] [Lets W .cap] [Lets W .saf] [Lets W .work] [Lets W .out] {a0 a1 a2} (ha2 : Keep W z a2) :
    KeepR W z (execCurtainSetTimeout a0 a1 a2) := by
  unfold execCurtainSetTimeout
  grind only [= keepR_next, = keepR_fault, = keepR_refused, usr keep_rest, usr keep_foldl, usr keep_State_repeatCs, usr keep_State_toTb2, usr keep_State_setXl, usr keep_State_safUpdate, usr keep_State_safSet]
grind_pattern keep_execCurtainSetTimeout => Keep W z a2, execCurtainSetTimeout a0 a1 a2

theorem keep_execCurtainSetXl0 [Lets W .objs] [Lets W .regs] [Lets W .flt] [Lets W .irq] [Lets W .ring] [Lets W .xl] [Lets W .cap] [Lets W .work] [Lets W .out] {a0 a1 a2} (ha2 : Keep W z a2) :
    KeepR W z (execCurtainSetXl0 a0 a1 a2) := by
  unfold execCurtainSetXl0
  grind only [= keepR_next, = keepR_fault, = keepR_refused, = keepP_mk, → keepP_snd, ← keep_foldlP, usr keep_rest, usr keep_foldl, usr keep_State_curtSet, usr keep_State_repeatCs, usr keep_State_sendC]
grind_pattern keep_execCurtainSetXl0 => Keep W z a2, execCurtainSetXl0 a0 a1 a2

theorem keep_execHelloReceived [Lets W .objs] [Lets W .doms] [Lets W .regs] [Lets W .pw] [Lets W .tm] [Lets W .flt] [Lets W .irq] [Lets W .seat] [Lets W .ring] [Lets W .xl] [Lets W .pair] [Lets W .cap] [Lets W .work] [Lets W .out] {a0 a1 a2 a3 a4} (ha4 : Keep W z a4) :
    KeepR W z (execHelloReceived a0 a1 a2 a3 a4) := by
  unfold execHelloReceived
  grind only [= keepR_next, = keepR_fault, = keepR_refused, usr keep_rest, usr keep_foldl, keep_State_rxXlTyped, usr keep_State_takeHello]
grind_pattern keep_execHelloReceived => Keep W z a4, execHelloReceived a0 a1 a2 a3 a4

theorem keep_execHelloTimer [Lets W .regs] [Lets W .xl] [Lets W .out] {a0 a1} (ha1 : Keep W z a1) :
    KeepR W z (execHelloTimer a0 a1) := by
  unfold execHelloTimer
  grind only [= keepR_next, = keepR_fault, = keepR_refused, usr keep_rest, usr keep_foldl, usr keep_State_xlHello]
grind_pattern keep_execHelloTimer => Keep W z a1, execHelloTimer a0 a1

theorem keep_execLaneMaskSymbol [Lets W .objs] [Lets W .regs] [Lets W .tm] [Lets W .flt] [Lets W .irq] [Lets W .xl] [Lets W .pair] [Lets W .cap] [Lets W .work] [Lets W .out] {a0 a1 a2} (ha2 : Keep W z a2) :
    KeepR W z (execLaneMaskSymbol a0 a1 a2) := by
  unfold execLaneMaskSymbol
  grind only [= keepR_next, = keepR_fault, = keepR_refused, usr keep_rest, usr keep_foldl, usr keep_State_xlTakeL]
grind_pattern keep_execLaneMaskSymbol => Keep W z a2, execLaneMaskSymbol a0 a1 a2

theorem keep_execXlEnable [Lets W .regs] [Lets W .flt] [Lets W .irq] [Lets W .xl] [Lets W .cap] [Lets W .work] [Lets W .out] {a0 a1 a2} (ha2 : Keep W z a2) :
    KeepR W z (execXlEnable a0 a1 a2) := by
  unfold execXlEnable
  grind only [= keepR_next, = keepR_fault, = keepR_refused, usr keep_rest, usr keep_foldl, usr keep_State_rset, usr keep_State_startXl, keep_State_xlDown, usr keep_State_xlLanes, usr keep_State_setXl]
grind_pattern keep_execXlEnable => Keep W z a2, execXlEnable a0 a1 a2

theorem keep_execXlTest [Lets W .regs] [Lets W .flt] [Lets W .irq] [Lets W .xl] [Lets W .cap] [Lets W .work] [Lets W .out] {a0 a1 a2} (ha2 : Keep W z a2) :
    KeepR W z (execXlTest a0 a1 a2) := by
  unfold execXlTest
  try dsimp only
  repeat' (first | with_reducible assumption | with_reducible exact True.intro | intro _ | with_reducible apply keep_State_rset | with_reducible apply keep_State_xlDown | with_reducible apply keep_State_setXl | with_reducible apply keep_State_patSend | with_reducible apply keep_State_xlToClock | with_reducible apply keep_State_startXl | with_reducible apply keep_ite | with_reducible apply keep_foldl | (simp only [keepE_ok, keepE_error, keepR_next, keepR_fault, keepR_refused, keepP_mk, keepP2_mk, keepP3_mk, keepO_some, keepO_none, keepO2_some, keepO2_none]) | split)
grind_pattern keep_execXlTest => Keep W z a2, execXlTest a0 a1 a2

theorem keep_xlInjStart [Lets W .regs] [Lets W .xl] [Lets W .out] {a0 a1 a2 a3} (ha3 : Keep W z a3) :
    Keep W z (xlInjStart a0 a1 a2 a3) := by
  unfold xlInjStart
  grind only [usr keep_rest, usr keep_foldl, usr keep_State_rset, usr keep_State_emit, usr keep_State_setXl]
grind_pattern keep_xlInjStart => Keep W z a3, xlInjStart a0 a1 a2 a3

theorem keep_execPeerFrame [Lets W .objs] [Lets W .regs] [Lets W .flt] [Lets W .irq] [Lets W .ring] [Lets W .xl] [Lets W .cap] [Lets W .work] [Lets W .out] {a0 a1 a2 a3 a4} (ha4 : Keep W z a4) :
    KeepR W z (execPeerFrame a0 a1 a2 a3 a4) := by
  unfold execPeerFrame
  grind only [= keepR_next, = keepR_fault, = keepR_refused, usr keep_rest, usr keep_foldl, keep_State_rxXlTyped, usr keep_State_takePeer]
grind_pattern keep_execPeerFrame => Keep W z a4, execPeerFrame a0 a1 a2 a3 a4

theorem keep_execRejoinHoldExpiry [Lets W .regs] [Lets W .flt] [Lets W .xl] [Lets W .out] {a0 a1 a2} (ha2 : Keep W z a2) :
    KeepR W z (execRejoinHoldExpiry a0 a1 a2) := by
  unfold execRejoinHoldExpiry
  grind only [= keepR_next, = keepR_fault, = keepR_refused, usr keep_rest, usr keep_foldl, usr keep_State_xlSendL, usr keep_State_setXl, usr keep_State_release]
grind_pattern keep_execRejoinHoldExpiry => Keep W z a2, execRejoinHoldExpiry a0 a1 a2

theorem keep_execStandingPartnerTimeout [Lets W .objs] [Lets W .pw] [Lets W .tm] [Lets W .flt] [Lets W .irq] [Lets W .seat] [Lets W .ring] [Lets W .pair] [Lets W .out] {a0} (ha0 : Keep W z a0) :
    KeepR W z (execStandingPartnerTimeout a0) := by
  unfold execStandingPartnerTimeout
  grind only [= keepR_next, = keepR_fault, = keepR_refused, usr keep_rest, usr keep_foldl, usr keep_State_pwSet, usr keep_State_takeStanding]
grind_pattern keep_execStandingPartnerTimeout => Keep W z a0, execStandingPartnerTimeout a0

theorem keep_execXlAlignDone [Lets W .regs] [Lets W .xl] [Lets W .out] {a0 a1 a2 a3 a4} (ha4 : Keep W z a4) :
    KeepR W z (execXlAlignDone a0 a1 a2 a3 a4) := by
  unfold execXlAlignDone
  grind only [= keepR_next, = keepR_fault, = keepR_refused, usr keep_rest, usr keep_foldl, usr keep_State_setXl, usr keep_State_rset, usr keep_State_laneSampled, usr keep_State_alignCheck]
grind_pattern keep_execXlAlignDone => Keep W z a4, execXlAlignDone a0 a1 a2 a3 a4

theorem keep_execXlClockPresent [Lets W .tm] [Lets W .xl] [Lets W .out] {a0 a1} (ha1 : Keep W z a1) :
    KeepR W z (execXlClockPresent a0 a1) := by
  unfold execXlClockPresent
  grind only [= keepR_next, = keepR_fault, = keepR_refused, usr keep_rest, usr keep_foldl, usr keep_State_xlSilenceEnd, usr keep_State_setXl]
grind_pattern keep_execXlClockPresent => Keep W z a1, execXlClockPresent a0 a1

theorem keep_execXlInjGo [Lets W .regs] [Lets W .xl] [Lets W .out] {a0 a1 a2 a3} (ha3 : Keep W z a3) :
    KeepR W z (execXlInjGo a0 a1 a2 a3) := by
  unfold execXlInjGo
  grind only [= keepR_next, = keepR_fault, = keepR_refused, usr keep_rest, usr keep_foldl, usr keep_xlInjStart]
grind_pattern keep_execXlInjGo => Keep W z a3, execXlInjGo a0 a1 a2 a3

theorem keep_execXlLaneLoss [Lets W .objs] [Lets W .regs] [Lets W .flt] [Lets W .irq] [Lets W .ring] [Lets W .xl] [Lets W .cap] [Lets W .work] [Lets W .out] {a0 a1 a2 a3} (ha3 : Keep W z a3) :
    KeepR W z (execXlLaneLoss a0 a1 a2 a3) := by
  unfold execXlLaneLoss
  grind only [= keepR_next, = keepR_fault, = keepR_refused, usr keep_rest, usr keep_foldl, usr keep_State_xlLaneCut, usr keep_State_setXl, keep_State_xlDown, usr keep_State_xlToClock, usr keep_State_xlSendL]
grind_pattern keep_execXlLaneLoss => Keep W z a3, execXlLaneLoss a0 a1 a2 a3

theorem keep_execXlLinkDown [Lets W .objs] [Lets W .regs] [Lets W .flt] [Lets W .irq] [Lets W .ring] [Lets W .xl] [Lets W .cap] [Lets W .work] [Lets W .out] {a0 a1 a2 a3} (ha3 : Keep W z a3) :
    KeepR W z (execXlLinkDown a0 a1 a2 a3) := by
  unfold execXlLinkDown
  grind only [= keepR_next, = keepR_fault, = keepR_refused, usr keep_rest, usr keep_foldl, usr keep_State_xlLaneCut, keep_State_xlDown, usr keep_State_xlToClock, usr keep_State_setXl]
grind_pattern keep_execXlLinkDown => Keep W z a3, execXlLinkDown a0 a1 a2 a3

theorem keep_execXlPbitsRead [Lets W .regs] [Lets W .out] {a0 a1 a2 a3} (ha3 : Keep W z a3) :
    KeepR W z (execXlPbitsRead a0 a1 a2 a3) := by
  unfold execXlPbitsRead
  grind only [= keepR_next, = keepR_fault, = keepR_refused, usr keep_rest, usr keep_foldl, usr keep_readClear, usr keep_State_emit]
grind_pattern keep_execXlPbitsRead => Keep W z a3, execXlPbitsRead a0 a1 a2 a3

theorem keep_execXlPerrRead [Lets W .regs] [Lets W .out] {a0 a1 a2 a3} (ha3 : Keep W z a3) :
    KeepR W z (execXlPerrRead a0 a1 a2 a3) := by
  unfold execXlPerrRead
  grind only [= keepR_next, = keepR_fault, = keepR_refused, usr keep_rest, usr keep_foldl, usr keep_readClear, usr keep_State_emit]
grind_pattern keep_execXlPerrRead => Keep W z a3, execXlPerrRead a0 a1 a2 a3

theorem keep_execXlTrnErrRead [Lets W .regs] [Lets W .out] {a0 a1 a2 a3} (ha3 : Keep W z a3) :
    KeepR W z (execXlTrnErrRead a0 a1 a2 a3) := by
  unfold execXlTrnErrRead
  grind only [= keepR_next, = keepR_fault, = keepR_refused, usr keep_rest, usr keep_foldl, usr keep_State_emit, usr keep_State_rset]
grind_pattern keep_execXlTrnErrRead => Keep W z a3, execXlTrnErrRead a0 a1 a2 a3

theorem keep_execXlVlogCmdClear [Lets W .objs] [Lets W .regs] [Lets W .pw] [Lets W .flt] [Lets W .irq] [Lets W .seat] [Lets W .xl] [Lets W .pair] [Lets W .cap] [Lets W .work] [Lets W .out] {a0 a1} (ha1 : Keep W z a1) :
    KeepR W z (execXlVlogCmdClear a0 a1) := by
  unfold execXlVlogCmdClear
  grind only [= keepE_ok, = keepE_error, = keepR_next, = keepR_fault, = keepR_refused, usr keep_rest, usr keep_foldl, keep_State_guardedValue, usr keep_applyXlVlogCmd]
grind_pattern keep_execXlVlogCmdClear => Keep W z a1, execXlVlogCmdClear a0 a1

end Sys2Proof.Laws
end

