-- ==== Sys2Proof/Laws/KeepObjWrite.lean ====
section
/-! SUPPORT. What the operations of Machine/ObjWrite keep (see Laws/Keep). -/

set_option Elab.async false
namespace Sys2Proof.Laws
open Sys2Proof.Machine
variable {W : Part → Prop} {z : State}

theorem keep_State_applyIrqObj [Lets W .objs] [Lets W .regs] [Lets W .flt] [Lets W .irq] [Lets W .dsp] [Lets W .cap] [Lets W .work] {a0 a1 a2 a3 a4} (ha4 : Keep W z a4) :
    KeepE W z (State.applyIrqObj a0 a1 a2 a3 a4) := by
  unfold State.applyIrqObj
  grind only [= keepE_ok, = keepE_error, usr keep_rest, usr keep_foldl, usr keep_State_applyIrqRoute, usr keep_State_applyIrqDmode, usr keep_State_applyIrqFlow, usr keep_State_irqEnRaw, usr keep_State_applyIrqFallback, usr keep_State_eoi, usr keep_State_dspDoneBy, usr keep_State_applyDspCmd, usr keep_State_applyDspWm, usr keep_State_applyIrqVlogCmd, usr keep_State_plainWrite]
grind_pattern keep_State_applyIrqObj => Keep W z a4, State.applyIrqObj a0 a1 a2 a3 a4

theorem keep_State_applyCoast [Lets W .objs] {a0 a1 a2} (ha2 : Keep W z a2) :
    KeepE W z (State.applyCoast a0 a1 a2) := by
  unfold State.applyCoast
  grind only [= keepE_ok, = keepE_error, usr keep_rest, usr keep_foldl, usr keep_State_oset]
grind_pattern keep_State_applyCoast => Keep W z a2, State.applyCoast a0 a1 a2

theorem keep_State_applyTemps [Lets W .objs] {a0 a1 a2} (ha2 : Keep W z a2) :
    KeepE W z (State.applyTemps a0 a1 a2) := by
  unfold State.applyTemps
  grind only [= keepE_ok, = keepE_error, usr keep_rest, usr keep_foldl, usr keep_State_oset]
grind_pattern keep_State_applyTemps => Keep W z a2, State.applyTemps a0 a1 a2

theorem keep_State_forcedWrite [Lets W .objs] [Lets W .regs] [Lets W .irq] [Lets W .pwm] [Lets W .bat] [Lets W .loop] [Lets W .out] {a0 a1 a2} (ha2 : Keep W z a2) :
    KeepE W z (State.forcedWrite a0 a1 a2) := by
  unfold State.forcedWrite
  grind only [= keepE_ok, = keepE_error, usr keep_rest, usr keep_foldl, usr keep_State_plainWrite, keep_State_withForce, usr keep_State_oset]
grind_pattern keep_State_forcedWrite => Keep W z a2, State.forcedWrite a0 a1 a2

theorem keep_State_testWrite [Lets W .objs] {a0 a1 a2 a3} (ha3 : Keep W z a3) :
    KeepE W z (State.testWrite a0 a1 a2 a3) := by
  unfold State.testWrite
  grind only [= keepE_ok, = keepE_error, usr keep_rest, usr keep_foldl, usr keep_State_oset]
grind_pattern keep_State_testWrite => Keep W z a3, State.testWrite a0 a1 a2 a3

theorem keep_State_cellObj [Lets W .objs] [Lets W .regs] [Lets W .flt] [Lets W .irq] [Lets W .pwm] [Lets W .bat] [Lets W .loop] [Lets W .out] {a0 a1 a2 a3} (ha3 : Keep W z a3) :
    KeepE W z (State.cellObj a0 a1 a2 a3) := by
  unfold State.cellObj
  grind only [= keepE_ok, = keepE_error, usr keep_rest, usr keep_foldl, usr keep_applyBypCmd, usr keep_State_plainWrite, usr keep_State_applyCoast, usr keep_State_forcedWrite, usr keep_applyTripClr, usr keep_State_applyCarMode, usr keep_applyShPer, usr keep_State_applyShDuty, usr keep_State_applyBatMode, usr keep_State_applyBatTest, usr keep_State_applyBatCmd, usr keep_State_testWrite, usr keep_State_applyTemps, usr keep_State_applyBatAinT, usr keep_State_applySocSet]
grind_pattern keep_State_cellObj => Keep W z a3, State.cellObj a0 a1 a2 a3

theorem keep_State_applyOcv [Lets W .doms] {a0 a1} (ha1 : Keep W z a1) :
    KeepE W z (State.applyOcv a0 a1) := by
  unfold State.applyOcv
  grind only [= keepE_ok, = keepE_error, usr keep_rest, usr keep_foldl, usr keep_State_dset]
grind_pattern keep_State_applyOcv => Keep W z a1, State.applyOcv a0 a1

theorem keep_State_applyVref [Lets W .doms] {a0 a1 a2} (ha2 : Keep W z a2) :
    KeepE W z (State.applyVref a0 a1 a2) := by
  unfold State.applyVref
  grind only [= keepE_ok, = keepE_error, usr keep_rest, usr keep_foldl, usr keep_State_dset]
grind_pattern keep_State_applyVref => Keep W z a2, State.applyVref a0 a1 a2

theorem keep_State_domObj [Lets W .objs] [Lets W .doms] [Lets W .regs] [Lets W .pw] [Lets W .flt] [Lets W .irq] [Lets W .dsp] [Lets W .ring] [Lets W .xl] [Lets W .pwm] [Lets W .bat] [Lets W .loop] [Lets W .cap] [Lets W .sl] [Lets W .saf] [Lets W .work] [Lets W .mem] [Lets W .freeCtr] [Lets W .out] {a0 a1 a2 a3 a4} (ha4 : Keep W z a4) :
    KeepE W z (State.domObj a0 a1 a2 a3 a4) := by
  unfold State.domObj
  grind only [= keepE_ok, = keepE_error, usr keep_rest, usr keep_foldl, usr keep_State_applyOcv, usr keep_State_applyLoopDesc, usr keep_State_applyLoopGtab, usr keep_State_applyVref, usr keep_State_applySeqTable, usr keep_State_applyCapSig, usr keep_State_applyStations, usr keep_State_applySlLoad, usr keep_State_applyForceTable, usr keep_State_applyProfile, usr keep_State_applyModeReq, usr keep_State_applySafeTest, usr keep_State_applyDspPush, usr keep_State_applyUpdData, usr keep_State_applySafeDom, usr keep_State_dset]
grind_pattern keep_State_domObj => Keep W z a4, State.domObj a0 a1 a2 a3 a4

theorem keep_State_applySrc [Lets W .objs] {a0 a1 a2} (ha2 : Keep W z a2) :
    KeepE W z (State.applySrc a0 a1 a2) := by
  unfold State.applySrc
  grind only [= keepE_ok, = keepE_error, usr keep_rest, usr keep_foldl, usr keep_State_testWrite]
grind_pattern keep_State_applySrc => Keep W z a2, State.applySrc a0 a1 a2

theorem keep_State_loopObj [Lets W .objs] [Lets W .doms] [Lets W .regs] [Lets W .flt] [Lets W .irq] [Lets W .loop] [Lets W .cap] [Lets W .work] {a0 a1 a2 a3} (ha3 : Keep W z a3) :
    KeepE W z (State.loopObj a0 a1 a2 a3) := by
  unfold State.loopObj
  grind only [= keepE_ok, = keepE_error, usr keep_rest, usr keep_foldl, usr keep_State_applyGtabPoke, usr keep_State_applyLoopFlags, usr keep_State_applyLoopShift, usr keep_State_applyFfGain, usr keep_State_applyLoopLimit, usr keep_State_applyIntSet, usr keep_State_applyGroupSrc, usr keep_State_applySrc, usr keep_State_testWrite, usr keep_State_applyInjCmd, usr keep_State_plainWrite]
grind_pattern keep_State_loopObj => Keep W z a3, State.loopObj a0 a1 a2 a3

theorem keep_State_applyPantry [Lets W .objs] {a0 a1} (ha1 : Keep W z a1) :
    KeepE W z (State.applyPantry a0 a1) := by
  unfold State.applyPantry
  grind only [= keepE_ok, = keepE_error, usr keep_rest, usr keep_foldl, usr keep_State_testWrite]
grind_pattern keep_State_applyPantry => Keep W z a1, State.applyPantry a0 a1

theorem keep_State_applyRep [Lets W .objs] {a0 a1 a2} (ha2 : Keep W z a2) :
    KeepE W z (State.applyRep a0 a1 a2) := by
  unfold State.applyRep
  grind only [= keepE_ok, = keepE_error, usr keep_rest, usr keep_foldl, usr keep_State_oset]
grind_pattern keep_State_applyRep => Keep W z a2, State.applyRep a0 a1 a2

theorem keep_State_measObj [Lets W .objs] [Lets W .regs] [Lets W .irq] [Lets W .ring] [Lets W .adc] [Lets W .cap] [Lets W .work] {a0 a1 a2 a3} (ha3 : Keep W z a3) :
    KeepE W z (State.measObj a0 a1 a2 a3) := by
  unfold State.measObj
  grind only [= keepE_ok, = keepE_error, usr keep_rest, usr keep_foldl, usr keep_State_applySeqTrig, usr keep_State_applySeqRange, usr keep_State_applySeqPlain, usr keep_State_applySeqPeriod, usr keep_State_applySeqCmd, usr keep_State_applyRefEn, usr keep_State_applyCalCmd, usr keep_State_plainWrite, usr keep_State_applyRep, usr keep_State_applyCapCmd, usr keep_State_applyPantry, usr keep_State_applyWinRelease, usr keep_State_applyCap]
grind_pattern keep_State_measObj => Keep W z a3, State.measObj a0 a1 a2 a3

theorem keep_State_ringObj [Lets W .objs] [Lets W .doms] [Lets W .regs] [Lets W .flt] [Lets W .irq] [Lets W .ring] [Lets W .xl] [Lets W .pair] [Lets W .cap] [Lets W .mod] [Lets W .work] [Lets W .out] {a0 a1 a2 a3} (ha3 : Keep W z a3) :
    KeepE W z (State.ringObj a0 a1 a2 a3) := by
  unfold State.ringObj
  grind only [= keepE_ok, = keepE_error, usr keep_rest, usr keep_foldl, usr keep_State_applyRingArm, usr keep_State_applyEnumCmd, usr keep_applyVlogCmd, usr keep_applyXlVlogCmd, usr keep_State_applyArmBridge, usr keep_State_applyModMode, usr keep_State_testWrite, usr keep_State_applyKeyGate, usr keep_State_applySortCmd, usr keep_State_applyOrderHold, usr keep_State_plainWrite]
grind_pattern keep_State_ringObj => Keep W z a3, State.ringObj a0 a1 a2 a3

theorem keep_State_applyFltClass [Lets W .objs] {a0 a1 a2} (ha2 : Keep W z a2) :
    KeepE W z (State.applyFltClass a0 a1 a2) := by
  unfold State.applyFltClass
  grind only [= keepE_ok, = keepE_error, usr keep_rest, usr keep_foldl, usr keep_State_testWrite]
grind_pattern keep_State_applyFltClass => Keep W z a2, State.applyFltClass a0 a1 a2

theorem keep_State_slObj [Lets W .objs] [Lets W .doms] [Lets W .regs] [Lets W .pw] [Lets W .tm] [Lets W .flt] [Lets W .irq] [Lets W .dsp] [Lets W .seat] [Lets W .ring] [Lets W .xl] [Lets W .pair] [Lets W .pwm] [Lets W .bat] [Lets W .adc] [Lets W .loop] [Lets W .cap] [Lets W .sl] [Lets W .saf] [Lets W .mod] [Lets W .work] [Lets W .mem] [Lets W .tap] [Lets W .freeCtr] [Lets W .out] {a0 a1 a2 a3} (ha3 : Keep W z a3) :
    KeepE W z (State.slObj a0 a1 a2 a3) := by
  unfold State.slObj
  grind only [= keepE_ok, = keepE_error, usr keep_rest, usr keep_foldl, usr keep_State_applySlCmd, usr keep_State_applySlCues, usr keep_State_applyStnLost, usr keep_State_applyReadmit, usr keep_State_applySlChange, usr keep_State_applyModeLead, usr keep_State_testWrite, usr keep_State_plainWrite, usr keep_State_applySafeCmd, usr keep_State_applySafeParam, usr keep_State_applyFltCmd, usr keep_State_applyFltClass, usr keep_State_applyFenceCmd, usr keep_State_applyTakeover]
grind_pattern keep_State_slObj => Keep W z a3, State.slObj a0 a1 a2 a3

theorem keep_State_timeObj [Lets W .objs] [Lets W .regs] [Lets W .tm] [Lets W .flt] [Lets W .irq] [Lets W .dsp] [Lets W .ring] [Lets W .xl] [Lets W .cap] [Lets W .work] [Lets W .out] {a0 a1 a2 a3} (ha3 : Keep W z a3) :
    KeepE W z (State.timeObj a0 a1 a2 a3) := by
  unfold State.timeObj
  grind only [= keepE_ok, = keepE_error, usr keep_rest, usr keep_foldl, usr keep_State_applyCuePeriod, usr keep_State_applyReAnchor, usr keep_State_applyTb1Cmd, usr keep_State_plainWrite, usr keep_State_applyTb3, usr keep_State_applyTb3Rate, usr keep_State_applySyncMode, usr keep_State_applySyncCmd, usr keep_State_applyTevtArm, usr keep_State_applyEdgeOverrun]
grind_pattern keep_State_timeObj => Keep W z a3, State.timeObj a0 a1 a2 a3

theorem keep_State_applyStandingObj [Lets W .objs] [Lets W .doms] [Lets W .regs] [Lets W .pw] [Lets W .tm] [Lets W .flt] [Lets W .irq] [Lets W .seat] [Lets W .ring] [Lets W .pair] [Lets W .cap] [Lets W .work] [Lets W .out] {a0 a1 a2} (ha2 : Keep W z a2) :
    KeepE W z (State.applyStandingObj a0 a1 a2) := by
  unfold State.applyStandingObj
  grind only [= keepE_ok, = keepE_error, usr keep_rest, usr keep_foldl, usr keep_State_plainWrite, usr keep_State_settle]
grind_pattern keep_State_applyStandingObj => Keep W z a2, State.applyStandingObj a0 a1 a2

theorem keep_State_applyUpdTarget [Lets W .objs] {a0 a1} (ha1 : Keep W z a1) :
    KeepE W z (State.applyUpdTarget a0 a1) := by
  unfold State.applyUpdTarget
  grind only [= keepE_ok, = keepE_error, usr keep_rest, usr keep_foldl, usr keep_State_testWrite]
grind_pattern keep_State_applyUpdTarget => Keep W z a1, State.applyUpdTarget a0 a1

theorem keep_State_unitObj [Lets W .objs] [Lets W .doms] [Lets W .regs] [Lets W .pw] [Lets W .tm] [Lets W .flt] [Lets W .irq] [Lets W .dsp] [Lets W .seat] [Lets W .ring] [Lets W .xl] [Lets W .pair] [Lets W .pwm] [Lets W .bat] [Lets W .adc] [Lets W .loop] [Lets W .cap] [Lets W .sl] [Lets W .saf] [Lets W .mod] [Lets W .work] [Lets W .mem] [Lets W .tap] [Lets W .freeCtr] [Lets W .out] {a0 a1 a2 a3 a4} (ha4 : Keep W z a4) :
    KeepE W z (State.unitObj a0 a1 a2 a3 a4) := by
  unfold State.unitObj
  grind only [= keepE_ok, = keepE_error, usr keep_rest, usr keep_foldl, usr keep_State_applyStandingObj, usr keep_State_applyTokenCmd, usr keep_State_plainWrite, usr keep_State_applySeatVlogCmd, usr keep_State_applyMemInj, usr keep_applyUpdCmdAll, usr keep_State_applyUpdTarget, usr keep_State_applyPassCmd, usr keep_State_applyPwrCmd, usr keep_applyAuxEn, usr keep_State_testWrite]
grind_pattern keep_State_unitObj => Keep W z a4, State.unitObj a0 a1 a2 a3 a4

theorem keep_State_objEffect [Lets W .objs] [Lets W .doms] [Lets W .regs] [Lets W .pw] [Lets W .tm] [Lets W .flt] [Lets W .irq] [Lets W .dsp] [Lets W .seat] [Lets W .ring] [Lets W .xl] [Lets W .pair] [Lets W .pwm] [Lets W .bat] [Lets W .adc] [Lets W .loop] [Lets W .cap] [Lets W .sl] [Lets W .saf] [Lets W .mod] [Lets W .work] [Lets W .mem] [Lets W .tap] [Lets W .freeCtr] [Lets W .out] {a0 a1 a2 a3} (ha3 : Keep W z a3) :
    KeepE W z (State.objEffect a0 a1 a2 a3) := by
  unfold State.objEffect
  grind only [= keepE_ok, = keepE_error, usr keep_rest, usr keep_foldl, usr keep_State_domObj, usr keep_State_unitObj, usr keep_State_timeObj, usr keep_State_ringObj, usr keep_State_cellObj, usr keep_State_loopObj, usr keep_State_measObj, usr keep_State_slObj, usr keep_State_applyIrqObj]
grind_pattern keep_State_objEffect => Keep W z a3, State.objEffect a0 a1 a2 a3

theorem keep_State_objHandler [Lets W .objs] [Lets W .doms] [Lets W .regs] [Lets W .pw] [Lets W .tm] [Lets W .flt] [Lets W .irq] [Lets W .dsp] [Lets W .seat] [Lets W .ring] [Lets W .xl] [Lets W .pair] [Lets W .pwm] [Lets W .bat] [Lets W .adc] [Lets W .loop] [Lets W .cap] [Lets W .sl] [Lets W .saf] [Lets W .mod] [Lets W .work] [Lets W .mem] [Lets W .tap] [Lets W .freeCtr] [Lets W .out] {a0 a1 a2 a3} (ha3 : Keep W z a3) :
    KeepE W z (State.objHandler a0 a1 a2 a3) := by
  unfold State.objHandler
  grind only [= keepE_ok, = keepE_error, usr keep_rest, usr keep_foldl, keep_State_applyStoreCmd, usr keep_State_objEffect]
grind_pattern keep_State_objHandler => Keep W z a3, State.objHandler a0 a1 a2 a3

theorem keep_State_writeAside [Lets W .objs] [Lets W .regs] [Lets W .pw] [Lets W .flt] [Lets W .irq] [Lets W .cap] [Lets W .work] [Lets W .mem] {a0 a1 a2 a3 a4} (ha3 : Keep W z a3) (ha4 : Keep W z a4) :
    Keep W z (State.writeAside a0 a1 a2 a3 a4) := by
  unfold State.writeAside
  grind only [= keepE_ok, = keepE_error, usr keep_rest, usr keep_foldl, usr keep_State_applyIrqRoute, usr keep_State_irqLog, usr keep_State_applyUpdData, usr keep_State_updRefused]
grind_pattern keep_State_writeAside => Keep W z a4, State.writeAside a0 a1 a2 a3 a4

theorem keep_State_writeObject [Lets W .objs] [Lets W .doms] [Lets W .regs] [Lets W .pw] [Lets W .tm] [Lets W .flt] [Lets W .irq] [Lets W .dsp] [Lets W .seat] [Lets W .ring] [Lets W .xl] [Lets W .pair] [Lets W .pwm] [Lets W .bat] [Lets W .adc] [Lets W .loop] [Lets W .cap] [Lets W .sl] [Lets W .saf] [Lets W .mod] [Lets W .work] [Lets W .mem] [Lets W .tap] [Lets W .freeCtr] [Lets W .out] {a0 a1 a2 a3} (ha3 : Keep W z a3) :
    Keep W z (State.writeObject a0 a1 a2 a3) := by
  unfold State.writeObject
  grind [= keepE_ok, = keepE_error, keep_foldl, keep_State_writeAside, keep_State_guardedWrite, keep_State_objHandler, = keepR_next, = keepR_fault, = keepR_refused, = keepP_mk, → keepP_snd, = keepP2_mk, → keepP2_snd, = keepP3_mk, → keepP3_snd, = keepO_some, = keepO_none, = keepO2_some, = keepO2_none]
grind_pattern keep_State_writeObject => Keep W z a3, State.writeObject a0 a1 a2 a3

end Sys2Proof.Laws
end

