-- ==== Sys2Proof/Laws/KeepSaf.lean ====
section
/-! SUPPORT. What the operations of Machine/Saf keep (see Laws/Keep). -/

set_option Elab.async false
namespace Sys2Proof.Laws
open Sys2Proof.Machine
variable {W : Part → Prop} {z : State}

theorem keep_execCurtainLiftDelay [Lets W .regs] [Lets W .tm] [Lets W .ring] [Lets W .xl] [Lets W .cap] [Lets W .saf] [Lets W .out] {a0 a1} (ha1 : Keep W z a1) :
    KeepR W z (execCurtainLiftDelay a0 a1) := by
  unfold execCurtainLiftDelay
  grind only [= keepR_next, = keepR_fault, = keepR_refused, usr keep_rest, usr keep_foldl, usr keep_State_toTb2, usr keep_State_safSet, usr keep_State_sendLift]
grind_pattern keep_execCurtainLiftDelay => Keep W z a1, execCurtainLiftDelay a0 a1

theorem keep_execCurtainUnexpEnd [Lets W .regs] [Lets W .tm] [Lets W .flt] [Lets W .irq] [Lets W .ring] [Lets W .xl] [Lets W .pwm] [Lets W .bat] [Lets W .loop] [Lets W .cap] [Lets W .saf] [Lets W .work] [Lets W .out] {a0 a1 a2} (ha2 : Keep W z a2) :
    KeepR W z (execCurtainUnexpEnd a0 a1 a2) := by
  unfold execCurtainUnexpEnd
  grind only [= keepR_next, = keepR_fault, = keepR_refused, usr keep_rest, usr keep_foldl, usr keep_State_toTb2, usr keep_State_safUpdate, usr keep_State_safSet]
grind_pattern keep_execCurtainUnexpEnd => Keep W z a2, execCurtainUnexpEnd a0 a1 a2

theorem keep_execPlaneMismatch [Lets W .regs] [Lets W .flt] [Lets W .irq] [Lets W .ring] [Lets W .xl] [Lets W .pwm] [Lets W .bat] [Lets W .loop] [Lets W .cap] [Lets W .saf] [Lets W .work] [Lets W .out] {a0} (ha0 : Keep W z a0) :
    KeepR W z (execPlaneMismatch a0) := by
  unfold execPlaneMismatch
  grind only [= keepR_next, = keepR_fault, = keepR_refused, usr keep_rest, usr keep_foldl, usr keep_State_safLockout]
grind_pattern keep_execPlaneMismatch => Keep W z a0, execPlaneMismatch a0

theorem keep_State_monitorResult [Lets W .objs] [Lets W .regs] [Lets W .pw] [Lets W .flt] [Lets W .irq] [Lets W .cap] [Lets W .work] {a0 a1 a2} (ha2 : Keep W z a2) :
    Keep W z (State.monitorResult a0 a1 a2) := by
  unfold State.monitorResult
  grind only [usr keep_rest, usr keep_foldl, usr keep_State_pwSet, usr keep_State_oset, usr keep_State_irqPost, usr keep_State_raiseIf]
grind_pattern keep_State_monitorResult => Keep W z a2, State.monitorResult a0 a1 a2

theorem keep_execResultWrite [Lets W .objs] [Lets W .regs] [Lets W .pw] [Lets W .tm] [Lets W .flt] [Lets W .irq] [Lets W .ring] [Lets W .xl] [Lets W .pwm] [Lets W .bat] [Lets W .adc] [Lets W .loop] [Lets W .cap] [Lets W .saf] [Lets W .work] [Lets W .freeCtr] [Lets W .out] {a0 a1 a2 a3} (ha3 : Keep W z a3) :
    KeepR W z (execResultWrite a0 a1 a2 a3) := by
  unfold execResultWrite
  grind [= keepR_next, = keepR_fault, = keepR_refused, = keepP_mk, → keepP_snd, ← keep_foldlP, = keepP2_mk, → keepP2_snd, ← keep_foldlP2, = keepO2_some, = keepO2_none, keep_foldl, keep_State_groupsTill, keep_State_resultWrite, keep_State_batTemp, keep_State_safUpdate, keep_State_measResult, keep_State_monitorResult, keep_State_capBaseAll, = keepE_ok, = keepE_error, = keepP3_mk, → keepP3_snd, = keepO_some, = keepO_none]
grind_pattern keep_execResultWrite => Keep W z a3, execResultWrite a0 a1 a2 a3

theorem keep_execSafeCmdConfig [Lets W .objs] [Lets W .regs] [Lets W .pw] [Lets W .flt] [Lets W .irq] [Lets W .seat] [Lets W .ring] [Lets W .xl] [Lets W .pair] [Lets W .pwm] [Lets W .bat] [Lets W .loop] [Lets W .cap] [Lets W .saf] [Lets W .work] [Lets W .out] {a0 a1} (ha1 : Keep W z a1) :
    KeepR W z (execSafeCmdConfig a0 a1) := by
  unfold execSafeCmdConfig
  grind only [= keepE_ok, = keepE_error, = keepR_next, = keepR_fault, = keepR_refused, usr keep_rest, usr keep_foldl, keep_State_guardedValue, usr keep_State_applySafeCmd]
grind_pattern keep_execSafeCmdConfig => Keep W z a1, execSafeCmdConfig a0 a1

theorem keep_execSafeCmdVerify [Lets W .objs] [Lets W .regs] [Lets W .pw] [Lets W .flt] [Lets W .irq] [Lets W .seat] [Lets W .ring] [Lets W .xl] [Lets W .pair] [Lets W .pwm] [Lets W .bat] [Lets W .loop] [Lets W .cap] [Lets W .saf] [Lets W .work] [Lets W .out] {a0 a1} (ha1 : Keep W z a1) :
    KeepR W z (execSafeCmdVerify a0 a1) := by
  unfold execSafeCmdVerify
  grind only [= keepE_ok, = keepE_error, = keepR_next, = keepR_fault, = keepR_refused, usr keep_rest, usr keep_foldl, keep_State_guardedValue, usr keep_State_applySafeCmd]
grind_pattern keep_execSafeCmdVerify => Keep W z a1, execSafeCmdVerify a0 a1

theorem keep_execSafeCrcCheck [Lets W .objs] [Lets W .regs] [Lets W .flt] [Lets W .irq] [Lets W .ring] [Lets W .xl] [Lets W .pwm] [Lets W .bat] [Lets W .loop] [Lets W .cap] [Lets W .saf] [Lets W .work] [Lets W .out] {a0} (ha0 : Keep W z a0) :
    KeepR W z (execSafeCrcCheck a0) := by
  unfold execSafeCrcCheck
  grind only [= keepR_next, = keepR_fault, = keepR_refused, usr keep_rest, usr keep_foldl, usr keep_State_oset, usr keep_State_safLockout]
grind_pattern keep_execSafeCrcCheck => Keep W z a0, execSafeCrcCheck a0

theorem keep_execSafeMessage [Lets W .objs] [Lets W .regs] [Lets W .flt] [Lets W .irq] [Lets W .ring] [Lets W .xl] [Lets W .pwm] [Lets W .bat] [Lets W .loop] [Lets W .cap] [Lets W .saf] [Lets W .work] [Lets W .out] {a0 a1 a2} (ha2 : Keep W z a2) :
    KeepR W z (execSafeMessage a0 a1 a2) := by
  unfold execSafeMessage
  grind only [= keepR_next, = keepR_fault, = keepR_refused, usr keep_rest, usr keep_foldl, keep_State_rxTyped, usr keep_State_safUpdate, usr keep_State_safRing, usr keep_State_safNet]
grind_pattern keep_execSafeMessage => Keep W z a2, execSafeMessage a0 a1 a2

theorem keep_execSafePathLoss [Lets W .regs] [Lets W .flt] [Lets W .irq] [Lets W .cap] [Lets W .saf] [Lets W .work] {a0 a1 a2} (ha2 : Keep W z a2) :
    KeepR W z (execSafePathLoss a0 a1 a2) := by
  unfold execSafePathLoss
  grind only [= keepR_next, = keepR_fault, = keepR_refused, usr keep_rest, usr keep_foldl, usr keep_State_raise, usr keep_State_setSconn]
grind_pattern keep_execSafePathLoss => Keep W z a2, execSafePathLoss a0 a1 a2

theorem keep_execSafeTestEnd [Lets W .regs] [Lets W .tm] [Lets W .flt] [Lets W .irq] [Lets W .ring] [Lets W .xl] [Lets W .pwm] [Lets W .bat] [Lets W .loop] [Lets W .cap] [Lets W .saf] [Lets W .work] [Lets W .out] {a0} (ha0 : Keep W z a0) :
    KeepR W z (execSafeTestEnd a0) := by
  unfold execSafeTestEnd
  grind only [= keepR_next, = keepR_fault, = keepR_refused, usr keep_rest, usr keep_foldl, usr keep_State_safTestEnd]
grind_pattern keep_execSafeTestEnd => Keep W z a0, execSafeTestEnd a0

theorem keep_execSafeTestWrite [Lets W .doms] [Lets W .regs] [Lets W .pw] [Lets W .flt] [Lets W .irq] [Lets W .seat] [Lets W .pair] [Lets W .cap] [Lets W .saf] [Lets W .work] [Lets W .out] {a0 a1 a2} (ha2 : Keep W z a2) :
    KeepR W z (execSafeTestWrite a0 a1 a2) := by
  unfold execSafeTestWrite
  grind only [= keepE_ok, = keepE_error, = keepR_next, = keepR_fault, = keepR_refused, usr keep_rest, usr keep_foldl, keep_State_guardedWrite, usr keep_State_applySafeTest]
grind_pattern keep_execSafeTestWrite => Keep W z a2, execSafeTestWrite a0 a1 a2

theorem keep_execSafeTxTimer [Lets W .regs] [Lets W .tm] [Lets W .ring] [Lets W .xl] [Lets W .cap] [Lets W .saf] [Lets W .freeCtr] [Lets W .out] {a0 a1} (ha1 : Keep W z a1) :
    KeepR W z (execSafeTxTimer a0 a1) := by
  unfold execSafeTxTimer
  try dsimp only
  repeat' (first | with_reducible assumption | with_reducible exact True.intro | intro _ | with_reducible apply keep_State_safSend | with_reducible apply keep_State_toTb2 | with_reducible apply keep_ite | with_reducible apply keep_foldl | (simp only [keepE_ok, keepE_error, keepR_next, keepR_fault, keepR_refused, keepP_mk, keepP2_mk, keepP3_mk, keepO_some, keepO_none, keepO2_some, keepO2_none]) | split)
grind_pattern keep_execSafeTxTimer => Keep W z a1, execSafeTxTimer a0 a1

theorem keep_execSafeWatchdogTimeout [Lets W .regs] [Lets W .tm] [Lets W .flt] [Lets W .irq] [Lets W .ring] [Lets W .xl] [Lets W .pwm] [Lets W .bat] [Lets W .loop] [Lets W .cap] [Lets W .saf] [Lets W .work] [Lets W .out] {a0 a1} (ha1 : Keep W z a1) :
    KeepR W z (execSafeWatchdogTimeout a0 a1) := by
  unfold execSafeWatchdogTimeout
  grind only [= keepR_next, = keepR_fault, = keepR_refused, usr keep_rest, usr keep_foldl, usr keep_State_toTb2, usr keep_State_connLog, usr keep_State_setSconn, usr keep_State_safUpdate, usr keep_State_diagStop, usr keep_State_raise, usr keep_State_safIrq]
grind_pattern keep_execSafeWatchdogTimeout => Keep W z a1, execSafeWatchdogTimeout a0 a1

theorem keep_execSiSample [Lets W .regs] [Lets W .tm] [Lets W .flt] [Lets W .irq] [Lets W .ring] [Lets W .xl] [Lets W .pwm] [Lets W .bat] [Lets W .loop] [Lets W .cap] [Lets W .saf] [Lets W .work] [Lets W .out] {a0 a1 a2} (ha2 : Keep W z a2) :
    KeepR W z (execSiSample a0 a1 a2) := by
  unfold execSiSample
  grind only [= keepR_next, = keepR_fault, = keepR_refused, usr keep_rest, usr keep_foldl, usr keep_State_siSample]
grind_pattern keep_execSiSample => Keep W z a2, execSiSample a0 a1 a2

theorem keep_execSoReadbackSample [Lets W .regs] [Lets W .tm] [Lets W .flt] [Lets W .irq] [Lets W .ring] [Lets W .xl] [Lets W .pwm] [Lets W .bat] [Lets W .loop] [Lets W .cap] [Lets W .saf] [Lets W .work] [Lets W .out] {a0 a1 a2 a3} (ha3 : Keep W z a3) :
    KeepR W z (execSoReadbackSample a0 a1 a2 a3) := by
  unfold execSoReadbackSample
  grind only [= keepR_next, = keepR_fault, = keepR_refused, usr keep_rest, usr keep_foldl, usr keep_State_soSample]
grind_pattern keep_execSoReadbackSample => Keep W z a3, execSoReadbackSample a0 a1 a2 a3

theorem keep_execSoTestPulse [Lets W .tm] [Lets W .saf] {a0 a1} (ha1 : Keep W z a1) :
    KeepR W z (execSoTestPulse a0 a1) := by
  unfold execSoTestPulse
  grind only [= keepR_next, = keepR_fault, = keepR_refused, usr keep_rest, usr keep_foldl, usr keep_State_toTb2, usr keep_State_setSo]
grind_pattern keep_execSoTestPulse => Keep W z a1, execSoTestPulse a0 a1

theorem keep_execSoTestPulseEnd [Lets W .tm] [Lets W .saf] {a0 a1} (ha1 : Keep W z a1) :
    KeepR W z (execSoTestPulseEnd a0 a1) := by
  unfold execSoTestPulseEnd
  grind only [= keepR_next, = keepR_fault, = keepR_refused, usr keep_rest, usr keep_foldl, usr keep_State_toTb2, usr keep_State_setSo]
grind_pattern keep_execSoTestPulseEnd => Keep W z a1, execSoTestPulseEnd a0 a1

theorem keep_execSupplyWindowComparator [Lets W .regs] [Lets W .flt] [Lets W .irq] [Lets W .ring] [Lets W .xl] [Lets W .pwm] [Lets W .bat] [Lets W .loop] [Lets W .cap] [Lets W .saf] [Lets W .work] [Lets W .out] {a0 a1 a2 a3} (ha3 : Keep W z a3) :
    KeepR W z (execSupplyWindowComparator a0 a1 a2 a3) := by
  unfold execSupplyWindowComparator
  grind only [= keepR_next, = keepR_fault, = keepR_refused, usr keep_rest, usr keep_foldl, usr keep_State_safUpdate, usr keep_State_diagStop, usr keep_State_raise, usr keep_State_safSet, usr keep_State_release]
grind_pattern keep_execSupplyWindowComparator => Keep W z a3, execSupplyWindowComparator a0 a1 a2 a3

end Sys2Proof.Laws
end

