-- ==== Sys2Proof/Laws/KeepSheets.lean ====
section
/-! SUPPORT. What the operations of Machine/Sheets keep (see Laws/Keep). -/

set_option Elab.async false
namespace Sys2Proof.Laws
open Sys2Proof.Machine
variable {W : Part → Prop} {z : State}

theorem keep_execCurtainLiftFrame [Lets W .objs] [Lets W .regs] [Lets W .flt] [Lets W .irq] [Lets W .ring] [Lets W .xl] [Lets W .cap] [Lets W .work] [Lets W .out] {a0 a1 a2 a3} (ha3 : Keep W z a3) :
    KeepR W z (execCurtainLiftFrame a0 a1 a2 a3) := by
  unfold execCurtainLiftFrame
  grind only [= keepR_next, = keepR_fault, = keepR_refused, usr keep_rest, usr keep_foldl, keep_State_rxTyped, usr keep_State_takeLift]
grind_pattern keep_execCurtainLiftFrame => Keep W z a3, execCurtainLiftFrame a0 a1 a2 a3

theorem keep_execCurtainRingEnd [Lets W .objs] [Lets W .regs] [Lets W .flt] [Lets W .irq] [Lets W .ring] [Lets W .xl] [Lets W .pwm] [Lets W .bat] [Lets W .loop] [Lets W .cap] [Lets W .saf] [Lets W .work] [Lets W .out] {a0 a1} (ha1 : Keep W z a1) :
    KeepR W z (execCurtainRingEnd a0 a1) := by
  unfold execCurtainRingEnd
  grind only [= keepR_next, = keepR_fault, = keepR_refused, usr keep_rest, usr keep_foldl, usr keep_State_rngEvt, usr keep_State_setPort, usr keep_State_unexpAgain, usr keep_State_irqPost, usr keep_State_bump, usr keep_State_safUnexp, usr keep_State_ringLog]
grind_pattern keep_execCurtainRingEnd => Keep W z a1, execCurtainRingEnd a0 a1

theorem keep_execCurtainSymbol [Lets W .regs] [Lets W .irq] [Lets W .ring] [Lets W .pwm] [Lets W .bat] [Lets W .loop] [Lets W .cap] [Lets W .work] [Lets W .out] {a0 a1} (ha1 : Keep W z a1) :
    KeepR W z (execCurtainSymbol a0 a1) := by
  unfold execCurtainSymbol
  grind only [= keepR_next, = keepR_fault, = keepR_refused, usr keep_rest, usr keep_foldl, usr keep_State_cellCurtain]
grind_pattern keep_execCurtainSymbol => Keep W z a1, execCurtainSymbol a0 a1

theorem keep_execReportAssembly [Lets W .objs] [Lets W .regs] [Lets W .tm] [Lets W .flt] [Lets W .irq] [Lets W .ring] [Lets W .pwm] [Lets W .bat] [Lets W .adc] [Lets W .loop] [Lets W .cap] [Lets W .work] {a0} (ha0 : Keep W z a0) :
    KeepR W z (execReportAssembly a0) := by
  unfold execReportAssembly
  try dsimp only
  repeat' (first | with_reducible assumption | with_reducible exact True.intro | intro _ | with_reducible apply keep_State_reportMeasure | with_reducible apply keep_State_loopTo0 | with_reducible apply keep_State_setNode | with_reducible apply keep_ite | with_reducible apply keep_foldl | (simp only [keepE_ok, keepE_error, keepR_next, keepR_fault, keepR_refused, keepP_mk, keepP2_mk, keepP3_mk, keepO_some, keepO_none, keepO2_some, keepO2_none]) | split)
grind_pattern keep_execReportAssembly => Keep W z a0, execReportAssembly a0

theorem keep_execReportLaunch [Lets W .objs] [Lets W .regs] [Lets W .tm] [Lets W .flt] [Lets W .irq] [Lets W .ring] [Lets W .pwm] [Lets W .bat] [Lets W .loop] [Lets W .cap] [Lets W .work] [Lets W .out] {a0} (ha0 : Keep W z a0) :
    KeepR W z (execReportLaunch a0) := by
  unfold execReportLaunch
  split
  · split
    · exact ha0
    · extract_lets +onlyGivenNames s1 p x src2 s2 n
      have h1 : Keep W z s1 := keep_State_loopTo0 ha0
      clear_value s1 p
      have hx : KeepP W z x := keep_State_ownRecord h1
      have h2 : Keep W z s2 := keep_State_setNode hx
      clear_value s2 n
      split
      · exact keep_State_sendTrain (keep_State_setNode h2)
      · exact h2
  · exact ha0
grind_pattern keep_execReportLaunch => Keep W z a0, execReportLaunch a0

theorem keep_execReportRecord [Lets W .objs] [Lets W .regs] [Lets W .flt] [Lets W .irq] [Lets W .ring] [Lets W .xl] [Lets W .cap] [Lets W .work] [Lets W .out] {a0 a1 a2} (ha2 : Keep W z a2) :
    KeepR W z (execReportRecord a0 a1 a2) := by
  unfold execReportRecord
  grind only [= keepR_next, = keepR_fault, = keepR_refused, usr keep_rest, usr keep_foldl, usr keep_State_xlSend, usr keep_State_takeReport]
grind_pattern keep_execReportRecord => Keep W z a2, execReportRecord a0 a1 a2

theorem keep_execReportTrain [Lets W .objs] [Lets W .regs] [Lets W .flt] [Lets W .irq] [Lets W .ring] [Lets W .cap] [Lets W .work] [Lets W .out] {a0 a1 a2} (ha2 : Keep W z a2) :
    KeepR W z (execReportTrain a0 a1 a2) := by
  unfold execReportTrain
  grind only [= keepR_next, = keepR_fault, = keepR_refused, usr keep_rest, usr keep_foldl, usr keep_State_sendTrain, usr keep_State_setNode]
grind_pattern keep_execReportTrain => Keep W z a2, execReportTrain a0 a1 a2

theorem keep_execSheetFrame [Lets W .objs] [Lets W .regs] [Lets W .tm] [Lets W .flt] [Lets W .irq] [Lets W .seat] [Lets W .ring] [Lets W .xl] [Lets W .pair] [Lets W .pwm] [Lets W .bat] [Lets W .loop] [Lets W .cap] [Lets W .work] [Lets W .out] {a0 a1 a2 a3 a4} (ha4 : Keep W z a4) :
    KeepR W z (execSheetFrame a0 a1 a2 a3 a4) := by
  unfold execSheetFrame
  grind only [= keepR_next, = keepR_fault, = keepR_refused, usr keep_rest, usr keep_foldl, keep_State_rxTyped, usr keep_State_takeSheet, usr keep_State_seeSheet]
grind_pattern keep_execSheetFrame => Keep W z a4, execSheetFrame a0 a1 a2 a3 a4

theorem keep_execTrainGraceExpiry [Lets W .objs] [Lets W .regs] [Lets W .tm] [Lets W .flt] [Lets W .irq] [Lets W .ring] [Lets W .pwm] [Lets W .bat] [Lets W .loop] [Lets W .cap] [Lets W .work] [Lets W .out] {a0} (ha0 : Keep W z a0) :
    KeepR W z (execTrainGraceExpiry a0) := by
  unfold execTrainGraceExpiry
  grind only [= keepR_next, = keepR_fault, = keepR_refused, usr keep_rest, usr keep_foldl, usr keep_State_loopTo0, usr keep_State_sendTrain, usr keep_State_setNode]
grind_pattern keep_execTrainGraceExpiry => Keep W z a0, execTrainGraceExpiry a0

end Sys2Proof.Laws
end

