-- ==== Sys2Proof/Laws/KeepTime.lean ====
section
/-! SUPPORT. What the operations of Machine/Time keep (see Laws/Keep). -/

set_option Elab.async false
namespace Sys2Proof.Laws
open Sys2Proof.Machine
variable {W : Part → Prop} {z : State}

theorem keep_execAnnounceTimeout [Lets W .objs] [Lets W .tm] [Lets W .irq] [Lets W .loop] {a0 a1} (ha1 : Keep W z a1) :
    KeepR W z (execAnnounceTimeout a0 a1) := by
  unfold execAnnounceTimeout
  grind only [= keepR_next, = keepR_fault, = keepR_refused, usr keep_rest, usr keep_foldl, usr keep_State_masterLost]
grind_pattern keep_execAnnounceTimeout => Keep W z a1, execAnnounceTimeout a0 a1

theorem keep_execCaptureEdge [Lets W .objs] [Lets W .regs] [Lets W .tm] [Lets W .irq] [Lets W .adc] [Lets W .cap] [Lets W .work] {a0 a1 a2 a3} (ha3 : Keep W z a3) :
    KeepR W z (execCaptureEdge a0 a1 a2 a3) := by
  unfold execCaptureEdge
  grind only [= keepR_next, = keepR_fault, = keepR_refused, usr keep_rest, usr keep_foldl, usr keep_State_captureEdge, usr keep_State_elapse]
grind_pattern keep_execCaptureEdge => Keep W z a3, execCaptureEdge a0 a1 a2 a3

theorem keep_execCuePeriodWrite [Lets W .objs] [Lets W .regs] [Lets W .pw] [Lets W .tm] [Lets W .flt] [Lets W .irq] [Lets W .seat] [Lets W .pair] [Lets W .cap] [Lets W .work] [Lets W .out] {a0 a1 a2} (ha2 : Keep W z a2) :
    KeepR W z (execCuePeriodWrite a0 a1 a2) := by
  unfold execCuePeriodWrite
  grind only [= keepE_ok, = keepE_error, = keepR_next, = keepR_fault, = keepR_refused, usr keep_rest, usr keep_foldl, keep_State_guardedValue, usr keep_State_applyCuePeriod]
grind_pattern keep_execCuePeriodWrite => Keep W z a2, execCuePeriodWrite a0 a1 a2

theorem keep_execEntryRead [Lets W .objs] [Lets W .regs] [Lets W .pw] [Lets W .tm] [Lets W .flt] [Lets W .irq] [Lets W .seat] [Lets W .cap] [Lets W .work] [Lets W .out] {a0 a1 a2} (ha2 : Keep W z a2) :
    KeepR W z (execEntryRead a0 a1 a2) := by
  unfold execEntryRead
  grind only [= keepR_next, = keepR_fault, = keepR_refused, usr keep_rest, usr keep_foldl, keep_State_guardedRead, usr keep_State_setEdges]
grind_pattern keep_execEntryRead => Keep W z a2, execEntryRead a0 a1 a2

theorem keep_State_tb0Lost [Lets W .objs] [Lets W .regs] [Lets W .tm] [Lets W .irq] [Lets W .pwm] [Lets W .bat] [Lets W .loop] [Lets W .out] {a0} (ha0 : Keep W z a0) :
    Keep W z (State.tb0Lost a0) := by
  unfold State.tb0Lost
  grind only [usr keep_rest, usr keep_foldl, keep_State_withForce, usr keep_State_pwmSet, usr keep_State_setTb0State]
grind_pattern keep_State_tb0Lost => Keep W z a0, State.tb0Lost a0

theorem keep_execHoldoverLimit [Lets W .objs] [Lets W .regs] [Lets W .tm] [Lets W .flt] [Lets W .irq] [Lets W .pwm] [Lets W .bat] [Lets W .loop] [Lets W .cap] [Lets W .work] [Lets W .out] {a0} (ha0 : Keep W z a0) :
    KeepR W z (execHoldoverLimit a0) := by
  unfold execHoldoverLimit
  grind only [= keepR_next, = keepR_fault, = keepR_refused, usr keep_rest, usr keep_foldl, usr keep_State_raise, usr keep_State_tb0Lost]
grind_pattern keep_execHoldoverLimit => Keep W z a0, execHoldoverLimit a0

theorem keep_execKeyGateWrite [Lets W .objs] [Lets W .regs] [Lets W .pw] [Lets W .flt] [Lets W .irq] [Lets W .seat] [Lets W .pair] [Lets W .cap] [Lets W .mod] [Lets W .work] [Lets W .out] {a0 a1 a2 a3} (ha3 : Keep W z a3) :
    KeepR W z (execKeyGateWrite a0 a1 a2 a3) := by
  unfold execKeyGateWrite
  grind only [= keepE_ok, = keepE_error, = keepR_next, = keepR_fault, = keepR_refused, usr keep_rest, usr keep_foldl, keep_State_guardedValue, usr keep_State_applyKeyGate]
grind_pattern keep_execKeyGateWrite => Keep W z a3, execKeyGateWrite a0 a1 a2 a3

theorem keep_execModModeWrite [Lets W .objs] [Lets W .regs] [Lets W .pw] [Lets W .flt] [Lets W .irq] [Lets W .seat] [Lets W .pair] [Lets W .cap] [Lets W .work] [Lets W .out] {a0 a1 a2 a3} (ha3 : Keep W z a3) :
    KeepR W z (execModModeWrite a0 a1 a2 a3) := by
  unfold execModModeWrite
  grind only [= keepE_ok, = keepE_error, = keepR_next, = keepR_fault, = keepR_refused, usr keep_rest, usr keep_foldl, keep_State_guardedValue, usr keep_State_applyModMode]
grind_pattern keep_execModModeWrite => Keep W z a3, execModModeWrite a0 a1 a2 a3

theorem keep_execOrderHoldWrite [Lets W .objs] [Lets W .regs] [Lets W .pw] [Lets W .flt] [Lets W .irq] [Lets W .seat] [Lets W .pair] [Lets W .cap] [Lets W .mod] [Lets W .work] [Lets W .out] {a0 a1 a2 a3} (ha3 : Keep W z a3) :
    KeepR W z (execOrderHoldWrite a0 a1 a2 a3) := by
  unfold execOrderHoldWrite
  grind only [= keepE_ok, = keepE_error, = keepR_next, = keepR_fault, = keepR_refused, usr keep_rest, usr keep_foldl, keep_State_guardedValue, usr keep_State_applyOrderHold]
grind_pattern keep_execOrderHoldWrite => Keep W z a3, execOrderHoldWrite a0 a1 a2 a3

theorem keep_execPdelayReq [Lets W .out] {a0 a1 a2 a3} (ha3 : Keep W z a3) :
    KeepR W z (execPdelayReq a0 a1 a2 a3) := by
  unfold execPdelayReq
  grind only [= keepR_next, = keepR_fault, = keepR_refused, usr keep_rest, usr keep_foldl, usr keep_State_emit]
grind_pattern keep_execPdelayReq => Keep W z a3, execPdelayReq a0 a1 a2 a3

theorem keep_execProbeFrame [Lets W .objs] [Lets W .regs] [Lets W .tm] [Lets W .flt] [Lets W .irq] [Lets W .ring] [Lets W .xl] [Lets W .cap] [Lets W .work] [Lets W .out] {a0 a1 a2 a3 a4 a5} (ha5 : Keep W z a5) :
    KeepR W z (execProbeFrame a0 a1 a2 a3 a4 a5) := by
  unfold execProbeFrame
  grind only [= keepR_next, = keepR_fault, = keepR_refused, usr keep_rest, usr keep_foldl, keep_State_rxTyped, usr keep_State_takeProbe, keep_State_rxXlTyped]
grind_pattern keep_execProbeFrame => Keep W z a5, execProbeFrame a0 a1 a2 a3 a4 a5

theorem keep_execPtpAnnounce [Lets W .objs] [Lets W .tm] [Lets W .irq] {a0 a1 a2 a3 a4} (ha4 : Keep W z a4) :
    KeepR W z (execPtpAnnounce a0 a1 a2 a3 a4) := by
  unfold execPtpAnnounce
  grind only [= keepR_next, = keepR_fault, = keepR_refused, usr keep_rest, usr keep_foldl, usr keep_State_selectPort, usr keep_State_tmSet]
grind_pattern keep_execPtpAnnounce => Keep W z a4, execPtpAnnounce a0 a1 a2 a3 a4

theorem keep_execPtpSync [Lets W .objs] [Lets W .tm] [Lets W .irq] [Lets W .dsp] [Lets W .loop] [Lets W .freeCtr] [Lets W .out] {a0 a1 a2 a3 a4} (ha4 : Keep W z a4) :
    KeepR W z (execPtpSync a0 a1 a2 a3 a4) := by
  unfold execPtpSync
  grind only [= keepR_next, = keepR_fault, = keepR_refused, usr keep_rest, usr keep_foldl, usr keep_State_emit, usr keep_State_takeSync]
grind_pattern keep_execPtpSync => Keep W z a4, execPtpSync a0 a1 a2 a3 a4

theorem keep_execReAnchorFrame [Lets W .objs] [Lets W .regs] [Lets W .tm] [Lets W .flt] [Lets W .irq] [Lets W .ring] [Lets W .xl] [Lets W .cap] [Lets W .work] [Lets W .out] {a0 a1 a2 a3} (ha3 : Keep W z a3) :
    KeepR W z (execReAnchorFrame a0 a1 a2 a3) := by
  unfold execReAnchorFrame
  grind only [= keepR_next, = keepR_fault, = keepR_refused, usr keep_rest, usr keep_foldl, keep_State_rxTyped, usr keep_State_tmSet, usr keep_State_emit]
grind_pattern keep_execReAnchorFrame => Keep W z a3, execReAnchorFrame a0 a1 a2 a3

theorem keep_execReAnchorWrite [Lets W .objs] [Lets W .regs] [Lets W .pw] [Lets W .flt] [Lets W .irq] [Lets W .seat] [Lets W .ring] [Lets W .xl] [Lets W .pair] [Lets W .cap] [Lets W .work] [Lets W .out] {a0 a1 a2} (ha2 : Keep W z a2) :
    KeepR W z (execReAnchorWrite a0 a1 a2) := by
  unfold execReAnchorWrite
  grind only [= keepE_ok, = keepE_error, = keepR_next, = keepR_fault, = keepR_refused, usr keep_rest, usr keep_foldl, keep_State_guardedValue, usr keep_State_applyReAnchor]
grind_pattern keep_execReAnchorWrite => Keep W z a2, execReAnchorWrite a0 a1 a2

theorem keep_execSortCmdWrite [Lets W .regs] [Lets W .pw] [Lets W .flt] [Lets W .irq] [Lets W .seat] [Lets W .pair] [Lets W .cap] [Lets W .mod] [Lets W .work] [Lets W .out] {a0 a1 a2 a3} (ha3 : Keep W z a3) :
    KeepR W z (execSortCmdWrite a0 a1 a2 a3) := by
  unfold execSortCmdWrite
  grind only [= keepE_ok, = keepE_error, = keepR_next, = keepR_fault, = keepR_refused, usr keep_rest, usr keep_foldl, keep_State_guardedValue, usr keep_State_applySortCmd]
grind_pattern keep_execSortCmdWrite => Keep W z a3, execSortCmdWrite a0 a1 a2 a3

theorem keep_execSyncCmdReacquire [Lets W .objs] [Lets W .regs] [Lets W .pw] [Lets W .tm] [Lets W .flt] [Lets W .irq] [Lets W .seat] [Lets W .pair] [Lets W .cap] [Lets W .work] [Lets W .out] {a0 a1} (ha1 : Keep W z a1) :
    KeepR W z (execSyncCmdReacquire a0 a1) := by
  unfold execSyncCmdReacquire
  grind only [= keepE_ok, = keepE_error, = keepR_next, = keepR_fault, = keepR_refused, usr keep_rest, usr keep_foldl, keep_State_guardedValue, usr keep_State_applySyncCmd]
grind_pattern keep_execSyncCmdReacquire => Keep W z a1, execSyncCmdReacquire a0 a1

theorem keep_execSyncEdge [Lets W .objs] [Lets W .tm] [Lets W .irq] {a0 a1 a2} (ha2 : Keep W z a2) :
    KeepR W z (execSyncEdge a0 a1 a2) := by
  unfold execSyncEdge
  grind only [= keepR_next, = keepR_fault, = keepR_refused, usr keep_rest, usr keep_foldl, usr keep_State_syncEdge]
grind_pattern keep_execSyncEdge => Keep W z a2, execSyncEdge a0 a1 a2

theorem keep_execSyncMiss [Lets W .objs] [Lets W .tm] [Lets W .irq] {a0} (ha0 : Keep W z a0) :
    KeepR W z (execSyncMiss a0) := by
  unfold execSyncMiss
  grind only [= keepR_next, = keepR_fault, = keepR_refused, usr keep_rest, usr keep_foldl, usr keep_State_tmSet, usr keep_State_setSync, usr keep_State_dropCorr]
grind_pattern keep_execSyncMiss => Keep W z a0, execSyncMiss a0

theorem keep_execSyncModeWrite [Lets W .objs] [Lets W .regs] [Lets W .pw] [Lets W .tm] [Lets W .flt] [Lets W .irq] [Lets W .seat] [Lets W .pair] [Lets W .cap] [Lets W .work] [Lets W .out] {a0 a1 a2} (ha2 : Keep W z a2) :
    KeepR W z (execSyncModeWrite a0 a1 a2) := by
  unfold execSyncModeWrite
  grind only [= keepE_ok, = keepE_error, = keepR_next, = keepR_fault, = keepR_refused, usr keep_rest, usr keep_foldl, keep_State_guardedValue, usr keep_State_applySyncMode]
grind_pattern keep_execSyncModeWrite => Keep W z a2, execSyncModeWrite a0 a1 a2

theorem keep_execTb1CmdReanchor [Lets W .regs] [Lets W .pw] [Lets W .tm] [Lets W .flt] [Lets W .irq] [Lets W .seat] [Lets W .pair] [Lets W .cap] [Lets W .work] [Lets W .out] {a0 a1} (ha1 : Keep W z a1) :
    KeepR W z (execTb1CmdReanchor a0 a1) := by
  unfold execTb1CmdReanchor
  grind only [= keepE_ok, = keepE_error, = keepR_next, = keepR_fault, = keepR_refused, usr keep_rest, usr keep_foldl, keep_State_guardedValue, usr keep_State_applyTb1Cmd]
grind_pattern keep_execTb1CmdReanchor => Keep W z a1, execTb1CmdReanchor a0 a1

theorem keep_execTb3Write [Lets W .regs] [Lets W .pw] [Lets W .tm] [Lets W .flt] [Lets W .irq] [Lets W .dsp] [Lets W .seat] [Lets W .pair] [Lets W .cap] [Lets W .work] [Lets W .out] {a0 a1 a2} (ha2 : Keep W z a2) :
    KeepR W z (execTb3Write a0 a1 a2) := by
  unfold execTb3Write
  grind only [= keepE_ok, = keepE_error, = keepR_next, = keepR_fault, = keepR_refused, usr keep_rest, usr keep_foldl, keep_State_guardedValue, usr keep_State_applyTb3]
grind_pattern keep_execTb3Write => Keep W z a2, execTb3Write a0 a1 a2

theorem keep_execTevtArm [Lets W .objs] [Lets W .regs] [Lets W .pw] [Lets W .tm] [Lets W .flt] [Lets W .irq] [Lets W .seat] [Lets W .pair] [Lets W .cap] [Lets W .work] [Lets W .out] {a0 a1 a2 a3} (ha3 : Keep W z a3) :
    KeepR W z (execTevtArm a0 a1 a2 a3) := by
  unfold execTevtArm
  grind only [= keepE_ok, = keepE_error, = keepR_next, = keepR_fault, = keepR_refused, usr keep_rest, usr keep_foldl, keep_State_guardedValue, usr keep_State_applyTevtArm]
grind_pattern keep_execTevtArm => Keep W z a3, execTevtArm a0 a1 a2 a3

theorem keep_execTevtFire [Lets W .objs] [Lets W .regs] [Lets W .tm] [Lets W .flt] [Lets W .irq] [Lets W .pwm] [Lets W .bat] [Lets W .adc] [Lets W .loop] [Lets W .cap] [Lets W .work] [Lets W .freeCtr] [Lets W .out] {a0 a1} (ha1 : Keep W z a1) :
    KeepR W z (execTevtFire a0 a1) := by
  unfold execTevtFire
  grind only [= keepR_next, = keepR_fault, = keepR_refused, usr keep_rest, usr keep_foldl, usr keep_State_tevtFire, usr keep_State_tevtWait]
grind_pattern keep_execTevtFire => Keep W z a1, execTevtFire a0 a1

theorem keep_execTimeFrame [Lets W .objs] [Lets W .regs] [Lets W .tm] [Lets W .flt] [Lets W .irq] [Lets W .dsp] [Lets W .ring] [Lets W .xl] [Lets W .cap] [Lets W .work] [Lets W .freeCtr] [Lets W .out] {a0 a1 a2 a3 a4 a5} (ha5 : Keep W z a5) :
    KeepR W z (execTimeFrame a0 a1 a2 a3 a4 a5) := by
  unfold execTimeFrame
  grind only [= keepR_next, = keepR_fault, = keepR_refused, usr keep_rest, usr keep_foldl, keep_State_rxTyped, usr keep_State_cellTime, keep_State_rxXlTyped, usr keep_State_servo]
grind_pattern keep_execTimeFrame => Keep W z a5, execTimeFrame a0 a1 a2 a3 a4 a5

theorem keep_execTimeFrameTimeout [Lets W .objs] [Lets W .tm] [Lets W .irq] {a0} (ha0 : Keep W z a0) :
    KeepR W z (execTimeFrameTimeout a0) := by
  unfold execTimeFrameTimeout
  grind only [= keepR_next, = keepR_fault, = keepR_refused, usr keep_rest, usr keep_foldl, usr keep_State_setTb0State, usr keep_State_tmSet]
grind_pattern keep_execTimeFrameTimeout => Keep W z a0, execTimeFrameTimeout a0

end Sys2Proof.Laws
end

