-- ==== Sys2Proof/Laws/KeepObjRead.lean ====
section
/-! SUPPORT. What the operations of Machine/ObjRead keep (see Laws/Keep). -/

set_option Elab.async false
namespace Sys2Proof.Laws
open Sys2Proof.Machine
variable {W : Part → Prop} {z : State}

theorem keep_State_copied [Lets W .objs] [Lets W .regs] [Lets W .flt] [Lets W .irq] [Lets W .dsp] [Lets W .seat] [Lets W .cap] [Lets W .work] [Lets W .freeCtr] [Lets W .out] {a0 a1 a2 a3} (ha3 : Keep W z a3) :
    KeepP W z (State.copied a0 a1 a2 a3) := by
  unfold State.copied
  grind only [= keepP_mk, → keepP_snd, ← keep_foldlP, usr keep_rest, usr keep_foldl, usr keep_State_seatSet]
grind_pattern keep_State_copied => Keep W z a3, State.copied a0 a1 a2 a3

theorem keep_State_readEffect [Lets W .objs] [Lets W .regs] [Lets W .tm] [Lets W .flt] [Lets W .irq] [Lets W .dsp] [Lets W .seat] [Lets W .adc] [Lets W .cap] [Lets W .work] [Lets W .freeCtr] [Lets W .out] {a0 a1 a2} (ha2 : Keep W z a2) :
    Keep W z (State.readEffect a0 a1 a2) := by
  unfold State.readEffect
  grind only [= keepP_mk, → keepP_snd, ← keep_foldlP, usr keep_rest, usr keep_foldl, usr keep_State_dspPopBy, usr keep_State_claimFor, usr keep_State_resRead, usr keep_State_setEdges, usr keep_State_irqRawRead]
grind_pattern keep_State_readEffect => Keep W z a2, State.readEffect a0 a1 a2

theorem keep_State_winLoad [Lets W .objs] [Lets W .regs] [Lets W .flt] [Lets W .irq] [Lets W .cap] [Lets W .work] [Lets W .freeCtr] {a0 a1 a2} (ha2 : Keep W z a2) :
    KeepP2 W z (State.winLoad a0 a1 a2) := by
  unfold State.winLoad
  grind only [= keepP_mk, → keepP_snd, ← keep_foldlP, = keepP2_mk, → keepP2_snd, ← keep_foldlP2, usr keep_rest, usr keep_foldl, usr keep_State_memLoad]
grind_pattern keep_State_winLoad => Keep W z a2, State.winLoad a0 a1 a2

theorem keep_State_readObject [Lets W .objs] [Lets W .regs] [Lets W .tm] [Lets W .flt] [Lets W .irq] [Lets W .dsp] [Lets W .seat] [Lets W .adc] [Lets W .cap] [Lets W .work] [Lets W .freeCtr] [Lets W .out] {a0 a1 a2 a3 a4} (ha4 : Keep W z a4) :
    KeepP3 W z (State.readObject a0 a1 a2 a3 a4) := by
  unfold State.readObject
  grind only [= keepP_mk, → keepP_snd, ← keep_foldlP, = keepP2_mk, → keepP2_snd, ← keep_foldlP2, = keepP3_mk, → keepP3_snd, usr keep_rest, usr keep_foldl, usr keep_State_copied, usr keep_State_winLoad, usr keep_State_readEffect]
grind_pattern keep_State_readObject => Keep W z a4, State.readObject a0 a1 a2 a3 a4

end Sys2Proof.Laws
end

