-- ==== Sys2Proof/Laws/KeepRegMap.lean ====
section
/-! SUPPORT. What the operations of Machine/RegMap keep (see Laws/Keep). -/

set_option Elab.async false
namespace Sys2Proof.Laws
open Sys2Proof.Machine
variable {W : Part → Prop} {z : State}

theorem keep_State_setMbox [Lets W .seat] {a0 a1 a2 a3} (ha3 : Keep W z a3) :
    Keep W z (State.setMbox a0 a1 a2 a3) := by
  unfold State.setMbox
  grind only [usr keep_rest, usr keep_foldl, usr keep_State_seatSet]
grind_pattern keep_State_setMbox => Keep W z a3, State.setMbox a0 a1 a2 a3

theorem keep_State_rdAdc [Lets W .adc] {a0 a1 a2} (ha2 : Keep W z a2) :
    KeepP W z (State.rdAdc a0 a1 a2) := by
  unfold State.rdAdc
  try dsimp only
  repeat' (first | with_reducible assumption | with_reducible exact True.intro | intro _ | with_reducible apply keep_State_resRead | with_reducible apply keep_ite | with_reducible apply keep_foldl | (simp only [keepE_ok, keepE_error, keepR_next, keepR_fault, keepR_refused, keepP_mk, keepP2_mk, keepP3_mk, keepO_some, keepO_none, keepO2_some, keepO2_none]) | split)
grind_pattern keep_State_rdAdc => Keep W z a2, State.rdAdc a0 a1 a2

theorem keep_State_rdDsp [Lets W .objs] [Lets W .regs] [Lets W .flt] [Lets W .irq] [Lets W .dsp] [Lets W .cap] [Lets W .work] [Lets W .freeCtr] {a0 a1 a2} (ha2 : Keep W z a2) :
    KeepP W z (State.rdDsp a0 a1 a2) := by
  unfold State.rdDsp
  grind only [= keepP_mk, → keepP_snd, ← keep_foldlP, usr keep_rest, usr keep_foldl, usr keep_State_dspPopBy, usr keep_State_mstatRead, usr keep_State_lstatRead, usr keep_State_qdepthRead, usr keep_State_qwaitRead, usr keep_State_loadTick]
grind_pattern keep_State_rdDsp => Keep W z a2, State.rdDsp a0 a1 a2

theorem keep_State_rdIrq [Lets W .regs] [Lets W .irq] [Lets W .dsp] [Lets W .seat] [Lets W .work] [Lets W .freeCtr] [Lets W .out] {a0 a1 a2} (ha2 : Keep W z a2) :
    KeepP W z (State.rdIrq a0 a1 a2) := by
  unfold State.rdIrq
  try dsimp only
  repeat' (first | with_reducible assumption | with_reducible exact True.intro | intro _ | with_reducible apply keep_State_irqRawRead | with_reducible apply keep_State_claimFor | with_reducible apply keep_ite | with_reducible apply keep_foldl | (simp only [keepE_ok, keepE_error, keepR_next, keepR_fault, keepR_refused, keepP_mk, keepP2_mk, keepP3_mk, keepO_some, keepO_none, keepO2_some, keepO2_none]) | split)
grind_pattern keep_State_rdIrq => Keep W z a2, State.rdIrq a0 a1 a2

theorem keep_State_rdRng [Lets W .regs] {a0 a1} (ha1 : Keep W z a1) :
    KeepP W z (State.rdRng a0 a1) := by
  unfold State.rdRng
  grind only [= keepP_mk, → keepP_snd, ← keep_foldlP, usr keep_rest, usr keep_foldl, usr keep_State_rset]
grind_pattern keep_State_rdRng => Keep W z a1, State.rdRng a0 a1

theorem keep_State_rdXl [Lets W .regs] {a0 a1} (ha1 : Keep W z a1) :
    KeepP W z (State.rdXl a0 a1) := by
  unfold State.rdXl
  grind only [= keepP_mk, → keepP_snd, ← keep_foldlP, usr keep_rest, usr keep_foldl, usr keep_State_rset]
grind_pattern keep_State_rdXl => Keep W z a1, State.rdXl a0 a1

theorem keep_State_regRd [Lets W .objs] [Lets W .regs] [Lets W .flt] [Lets W .irq] [Lets W .dsp] [Lets W .seat] [Lets W .adc] [Lets W .cap] [Lets W .work] [Lets W .freeCtr] [Lets W .out] {a0 a1 a2} (ha2 : Keep W z a2) :
    KeepP W z (State.regRd a0 a1 a2) := by
  unfold State.regRd
  grind only [= keepP_mk, → keepP_snd, ← keep_foldlP, usr keep_rest, usr keep_foldl, usr keep_State_rdRng, usr keep_State_rdXl, usr keep_State_rdAdc, usr keep_State_rdIrq, usr keep_State_rdDsp]
grind_pattern keep_State_regRd => Keep W z a2, State.regRd a0 a1 a2

theorem keep_State_regRw [Lets W .regs] {a0 a1 a2 a3 a4} (ha4 : Keep W z a4) :
    Keep W z (State.regRw a0 a1 a2 a3 a4) := by
  unfold State.regRw
  grind only [usr keep_rest, usr keep_foldl, usr keep_State_rset]
grind_pattern keep_State_regRw => Keep W z a4, State.regRw a0 a1 a2 a3 a4

theorem keep_State_regObj [Lets W .objs] [Lets W .doms] [Lets W .regs] [Lets W .pw] [Lets W .tm] [Lets W .flt] [Lets W .irq] [Lets W .dsp] [Lets W .seat] [Lets W .ring] [Lets W .xl] [Lets W .pair] [Lets W .pwm] [Lets W .bat] [Lets W .adc] [Lets W .loop] [Lets W .cap] [Lets W .sl] [Lets W .saf] [Lets W .mod] [Lets W .work] [Lets W .mem] [Lets W .tap] [Lets W .freeCtr] [Lets W .out] {a0 a1 a2 a3} (ha3 : Keep W z a3) :
    Keep W z (State.regObj a0 a1 a2 a3) := by
  unfold State.regObj
  grind only [= keepE_ok, = keepE_error, usr keep_rest, usr keep_foldl, usr keep_State_objEffect, usr keep_State_mirrorAdd]
grind_pattern keep_State_regObj => Keep W z a3, State.regObj a0 a1 a2 a3

theorem keep_State_regField [Lets W .objs] [Lets W .doms] [Lets W .regs] [Lets W .pw] [Lets W .tm] [Lets W .flt] [Lets W .irq] [Lets W .dsp] [Lets W .seat] [Lets W .ring] [Lets W .xl] [Lets W .pair] [Lets W .pwm] [Lets W .bat] [Lets W .adc] [Lets W .loop] [Lets W .cap] [Lets W .sl] [Lets W .saf] [Lets W .mod] [Lets W .work] [Lets W .mem] [Lets W .tap] [Lets W .freeCtr] [Lets W .out] {a0 a1 a2 a3 a4 a5 a6} (ha6 : Keep W z a6) :
    Keep W z (State.regField a0 a1 a2 a3 a4 a5 a6) := by
  unfold State.regField
  grind only [usr keep_rest, usr keep_foldl, usr keep_State_regObj]
grind_pattern keep_State_regField => Keep W z a6, State.regField a0 a1 a2 a3 a4 a5 a6

theorem keep_State_regW1c [Lets W .regs] {a0 a1 a2 a3 a4} (ha4 : Keep W z a4) :
    Keep W z (State.regW1c a0 a1 a2 a3 a4) := by
  unfold State.regW1c
  grind only [usr keep_rest, usr keep_foldl, usr keep_State_rset]
grind_pattern keep_State_regW1c => Keep W z a4, State.regW1c a0 a1 a2 a3 a4

theorem keep_State_wrAdc [Lets W .objs] [Lets W .doms] [Lets W .regs] [Lets W .pw] [Lets W .tm] [Lets W .flt] [Lets W .irq] [Lets W .dsp] [Lets W .seat] [Lets W .ring] [Lets W .xl] [Lets W .pair] [Lets W .pwm] [Lets W .bat] [Lets W .adc] [Lets W .loop] [Lets W .cap] [Lets W .sl] [Lets W .saf] [Lets W .mod] [Lets W .work] [Lets W .mem] [Lets W .tap] [Lets W .freeCtr] [Lets W .out] {a0 a1 a2 a3 a4} (ha4 : Keep W z a4) :
    Keep W z (State.wrAdc a0 a1 a2 a3 a4) := by
  unfold State.wrAdc
  grind only [= keepE_ok, = keepE_error, usr keep_rest, usr keep_foldl, usr keep_State_regField, keep_regTry, usr keep_State_applyCalCmd, usr keep_State_regW1c, usr keep_State_seqStart, usr keep_State_applySeqEntry]
grind_pattern keep_State_wrAdc => Keep W z a4, State.wrAdc a0 a1 a2 a3 a4

theorem keep_State_wrCapq [Lets W .regs] [Lets W .flt] [Lets W .irq] [Lets W .seat] [Lets W .cap] [Lets W .work] {a0 a1 a2 a3 a4} (ha4 : Keep W z a4) :
    Keep W z (State.wrCapq a0 a1 a2 a3 a4) := by
  unfold State.wrCapq
  grind only [usr keep_rest, usr keep_foldl, usr keep_State_capqRd]
grind_pattern keep_State_wrCapq => Keep W z a4, State.wrCapq a0 a1 a2 a3 a4

theorem keep_State_wrDsp [Lets W .regs] [Lets W .flt] [Lets W .irq] [Lets W .dsp] [Lets W .cap] [Lets W .work] [Lets W .freeCtr] {a0 a1 a2 a3 a4} (ha4 : Keep W z a4) :
    Keep W z (State.wrDsp a0 a1 a2 a3 a4) := by
  unfold State.wrDsp
  grind only [usr keep_rest, usr keep_foldl, usr keep_State_regRw, usr keep_State_dspPushBy, usr keep_State_dspDoneBy, usr keep_State_dspCmdBy, usr keep_State_regW1c]
grind_pattern keep_State_wrDsp => Keep W z a4, State.wrDsp a0 a1 a2 a3 a4

theorem keep_State_wrFlt [Lets W .objs] [Lets W .doms] [Lets W .regs] [Lets W .pw] [Lets W .tm] [Lets W .flt] [Lets W .irq] [Lets W .dsp] [Lets W .seat] [Lets W .ring] [Lets W .xl] [Lets W .pair] [Lets W .pwm] [Lets W .bat] [Lets W .adc] [Lets W .loop] [Lets W .cap] [Lets W .sl] [Lets W .saf] [Lets W .mod] [Lets W .work] [Lets W .mem] [Lets W .tap] [Lets W .freeCtr] [Lets W .out] {a0 a1 a2 a3 a4} (ha4 : Keep W z a4) :
    Keep W z (State.wrFlt a0 a1 a2 a3 a4) := by
  unfold State.wrFlt
  grind only [usr keep_rest, usr keep_foldl, usr keep_State_fltClear, usr keep_State_fltEmpty, usr keep_State_holdRelease, usr keep_State_regW1c, usr keep_State_regField, usr keep_State_irqPost, usr keep_State_fltEvt]
grind_pattern keep_State_wrFlt => Keep W z a4, State.wrFlt a0 a1 a2 a3 a4

theorem keep_State_wrIrq [Lets W .objs] [Lets W .doms] [Lets W .regs] [Lets W .pw] [Lets W .tm] [Lets W .flt] [Lets W .irq] [Lets W .dsp] [Lets W .seat] [Lets W .ring] [Lets W .xl] [Lets W .pair] [Lets W .pwm] [Lets W .bat] [Lets W .adc] [Lets W .loop] [Lets W .cap] [Lets W .sl] [Lets W .saf] [Lets W .mod] [Lets W .work] [Lets W .mem] [Lets W .tap] [Lets W .freeCtr] [Lets W .out] {a0 a1 a2 a3 a4} (ha4 : Keep W z a4) :
    Keep W z (State.wrIrq a0 a1 a2 a3 a4) := by
  unfold State.wrIrq
  extract_lets +onlyGivenNames t n act g old new_ s1 s2 s3 s4 s5 g' old'
  have h1 : Keep W z s1 := by
    show Keep W z (if _ then a4 else _)
    split
    · exact ha4
    · have hr := keep_State_applyIrqRoute (a0 := t) (a1 := g) (a2 := fld new_ 2 0) ha4
      split
      · rename_i x e
        rw [e] at hr
        exact hr
      · exact keep_State_irqLog ha4
      · exact ha4
  clear_value s1
  have h2 : Keep W z s2 := keep_State_regField h1
  have h3 : Keep W z s3 := keep_State_regField h2
  have h4 : Keep W z s4 := keep_State_regField h3
  have h5 : Keep W z s5 := keep_State_regField h4
  clear_value s2 s3 s4 s5 old' g' old new_ g t n act
  repeat' (first | with_reducible assumption | with_reducible apply keep_State_irqPendRaw | with_reducible apply keep_State_irqEnRaw | with_reducible apply keep_State_irqSetBits | with_reducible apply keep_State_irqClrBits | with_reducible apply keep_State_irqEnsetBits | with_reducible apply keep_State_irqEnclrBits | with_reducible apply keep_State_regField | with_reducible apply keep_State_eoi | with_reducible apply keep_State_withdraw | with_reducible apply keep_State_irqSet | with_reducible apply keep_ite | split)
grind_pattern keep_State_wrIrq => Keep W z a4, State.wrIrq a0 a1 a2 a3 a4

theorem keep_State_wrMsix [Lets W .regs] [Lets W .irq] [Lets W .out] {a0 a1 a2 a3} (ha3 : Keep W z a3) :
    Keep W z (State.wrMsix a0 a1 a2 a3) := by
  unfold State.wrMsix
  grind only [usr keep_rest, usr keep_foldl, usr keep_State_rset, usr keep_State_emit, usr keep_State_irqSet]
grind_pattern keep_State_wrMsix => Keep W z a3, State.wrMsix a0 a1 a2 a3

theorem keep_State_wrPwm [Lets W .objs] [Lets W .doms] [Lets W .regs] [Lets W .pw] [Lets W .tm] [Lets W .flt] [Lets W .irq] [Lets W .dsp] [Lets W .seat] [Lets W .ring] [Lets W .xl] [Lets W .pair] [Lets W .pwm] [Lets W .bat] [Lets W .adc] [Lets W .loop] [Lets W .cap] [Lets W .sl] [Lets W .saf] [Lets W .mod] [Lets W .work] [Lets W .mem] [Lets W .tap] [Lets W .freeCtr] [Lets W .out] {a0 a1 a2 a3 a4} (ha4 : Keep W z a4) :
    Keep W z (State.wrPwm a0 a1 a2 a3 a4) := by
  unfold State.wrPwm
  grind only [usr keep_rest, usr keep_foldl, usr keep_State_regField, usr keep_State_regW1c, keep_cellReg, usr keep_State_shadowPer, usr keep_State_seatDuty, usr keep_State_setHold, usr keep_State_tripClear, usr keep_State_regObj]
grind_pattern keep_State_wrPwm => Keep W z a4, State.wrPwm a0 a1 a2 a3 a4

theorem keep_State_after {a0 : Res} {a1} (ha0 : KeepR W z a0) (ha1 : Keep W z a1) :
    Keep W z (State.after a0 a1) := by
  unfold State.after
  split
  · exact ha0
  · exact ha1

theorem keep_State_wrRng [Lets W .objs] [Lets W .doms] [Lets W .regs] [Lets W .pw] [Lets W .tm] [Lets W .flt] [Lets W .irq] [Lets W .dsp] [Lets W .seat] [Lets W .ring] [Lets W .xl] [Lets W .pair] [Lets W .pwm] [Lets W .bat] [Lets W .adc] [Lets W .loop] [Lets W .cap] [Lets W .sl] [Lets W .saf] [Lets W .mod] [Lets W .work] [Lets W .mem] [Lets W .tap] [Lets W .freeCtr] [Lets W .out] {a0 a1 a2 a3 a4} (ha4 : Keep W z a4) :
    Keep W z (State.wrRng a0 a1 a2 a3 a4) := by
  unfold State.wrRng
  grind only [usr keep_rest, usr keep_foldl, usr keep_State_rset, usr keep_State_regField, keep_State_after, usr keep_execPortEnable, usr keep_execPortTest, usr keep_State_regW1c, usr keep_State_regRw, usr keep_State_patSend, usr keep_injStart]
grind_pattern keep_State_wrRng => Keep W z a4, State.wrRng a0 a1 a2 a3 a4

theorem keep_State_wrXl [Lets W .regs] [Lets W .flt] [Lets W .irq] [Lets W .xl] [Lets W .cap] [Lets W .work] [Lets W .out] {a0 a1 a2 a3} (ha3 : Keep W z a3) :
    Keep W z (State.wrXl a0 a1 a2 a3) := by
  unfold State.wrXl
  grind only [usr keep_rest, usr keep_foldl, usr keep_State_rset, keep_State_after, usr keep_execXlEnable, usr keep_execXlTest, usr keep_State_regW1c, usr keep_State_regRw, usr keep_State_laneSampled, usr keep_State_patSend, usr keep_xlInjStart]
grind_pattern keep_State_wrXl => Keep W z a3, State.wrXl a0 a1 a2 a3

theorem keep_State_stageRd [Lets W .objs] [Lets W .regs] [Lets W .flt] [Lets W .irq] [Lets W .cap] [Lets W .work] [Lets W .freeCtr] {a0 a1 a2} (ha2 : Keep W z a2) :
    KeepP2 W z (State.stageRd a0 a1 a2) := by
  unfold State.stageRd
  grind only [= keepP_mk, → keepP_snd, ← keep_foldlP, = keepP2_mk, → keepP2_snd, ← keep_foldlP2, usr keep_rest, usr keep_foldl, usr keep_State_memLoad]
grind_pattern keep_State_stageRd => Keep W z a2, State.stageRd a0 a1 a2

end Sys2Proof.Laws
end

