-- ==== Sys2Proof/Laws/KeepObjAccess.lean ====
section
/-! SUPPORT. What the operations of Machine/ObjAccess keep (see Laws/Keep). -/

set_option Elab.async false
namespace Sys2Proof.Laws
open Sys2Proof.Machine
variable {W : Part → Prop} {z : State}

theorem keep_State_ownRead [Lets W .objs] [Lets W .regs] [Lets W .pw] [Lets W .tm] [Lets W .flt] [Lets W .irq] [Lets W .dsp] [Lets W .seat] [Lets W .adc] [Lets W .cap] [Lets W .work] [Lets W .freeCtr] [Lets W .out] {a0 a1 a2 a3 a4} (ha4 : Keep W z a4) :
    KeepP3 W z (State.ownRead a0 a1 a2 a3 a4) := by
  unfold State.ownRead
  grind only [= keepP_mk, → keepP_snd, ← keep_foldlP, = keepP2_mk, → keepP2_snd, ← keep_foldlP2, = keepP3_mk, → keepP3_snd, usr keep_rest, usr keep_foldl, usr keep_State_readObject, usr keep_State_answer]
grind_pattern keep_State_ownRead => Keep W z a4, State.ownRead a0 a1 a2 a3 a4

theorem keep_State_ownWrite [Lets W .objs] [Lets W .doms] [Lets W .regs] [Lets W .pw] [Lets W .tm] [Lets W .flt] [Lets W .irq] [Lets W .dsp] [Lets W .seat] [Lets W .ring] [Lets W .xl] [Lets W .pair] [Lets W .pwm] [Lets W .bat] [Lets W .adc] [Lets W .loop] [Lets W .cap] [Lets W .sl] [Lets W .saf] [Lets W .mod] [Lets W .work] [Lets W .mem] [Lets W .tap] [Lets W .freeCtr] [Lets W .out] {a0 a1 a2 a3 a4} (ha4 : Keep W z a4) :
    KeepP2 W z (State.ownWrite a0 a1 a2 a3 a4) := by
  unfold State.ownWrite
  grind only [= keepP_mk, → keepP_snd, ← keep_foldlP, = keepP2_mk, → keepP2_snd, ← keep_foldlP2, usr keep_rest, usr keep_foldl, usr keep_State_writeObject, usr keep_State_answer]
grind_pattern keep_State_ownWrite => Keep W z a4, State.ownWrite a0 a1 a2 a3 a4

theorem keep_State_serveCell [Lets W .objs] [Lets W .doms] [Lets W .regs] [Lets W .pw] [Lets W .tm] [Lets W .flt] [Lets W .irq] [Lets W .dsp] [Lets W .seat] [Lets W .ring] [Lets W .xl] [Lets W .pair] [Lets W .pwm] [Lets W .bat] [Lets W .adc] [Lets W .loop] [Lets W .cap] [Lets W .sl] [Lets W .saf] [Lets W .mod] [Lets W .work] [Lets W .mem] [Lets W .tap] [Lets W .freeCtr] [Lets W .out] {a0 a1 a2 a3} (ha3 : Keep W z a3) :
    Keep W z (State.serveCell a0 a1 a2 a3) := by
  unfold State.serveCell
  grind only [= keepP_mk, → keepP_snd, ← keep_foldlP, = keepP2_mk, → keepP2_snd, ← keep_foldlP2, = keepP3_mk, → keepP3_snd, usr keep_rest, usr keep_foldl, usr keep_State_queueBg, usr keep_State_ownWrite, usr keep_State_ownRead]
grind_pattern keep_State_serveCell => Keep W z a3, State.serveCell a0 a1 a2 a3

theorem keep_State_hopOut [Lets W .seat] [Lets W .out] {a0 a1 a2 a3} (ha3 : Keep W z a3) :
    Keep W z (State.hopOut a0 a1 a2 a3) := by
  unfold State.hopOut
  grind only [usr keep_rest, usr keep_foldl, usr keep_State_hopEmit]
grind_pattern keep_State_hopOut => Keep W z a3, State.hopOut a0 a1 a2 a3

theorem keep_State_hopDone [Lets W .seat] [Lets W .out] {a0 a1 a2 a3 a4} (ha4 : Keep W z a4) :
    Keep W z (State.hopDone a0 a1 a2 a3 a4) := by
  unfold State.hopDone
  grind only [usr keep_rest, usr keep_foldl, usr keep_State_hopOut, usr keep_State_setSession]
grind_pattern keep_State_hopDone => Keep W z a4, State.hopDone a0 a1 a2 a3 a4

theorem keep_State_putData [Lets W .regs] {a0 a1 a2} (ha2 : Keep W z a2) :
    Keep W z (State.putData a0 a1 a2) := by
  unfold State.putData
  grind only [usr keep_rest, usr keep_foldl, usr keep_State_rset]
grind_pattern keep_State_putData => Keep W z a2, State.putData a0 a1 a2

theorem keep_State_mailEnd [Lets W .regs] [Lets W .seat] {a0 a1 a2 a3 a4} (ha4 : Keep W z a4) :
    Keep W z (State.mailEnd a0 a1 a2 a3 a4) := by
  unfold State.mailEnd
  grind [keep_foldl, keep_State_setMbox, keep_State_putData, = keepE_ok, = keepE_error, = keepR_next, = keepR_fault, = keepR_refused, = keepP_mk, → keepP_snd, = keepP2_mk, → keepP2_snd, = keepP3_mk, → keepP3_snd, = keepO_some, = keepO_none, = keepO2_some, = keepO2_none]
grind_pattern keep_State_mailEnd => Keep W z a4, State.mailEnd a0 a1 a2 a3 a4

theorem keep_State_cellEnd [Lets W .regs] [Lets W .pw] [Lets W .flt] [Lets W .irq] [Lets W .seat] [Lets W .cap] [Lets W .work] [Lets W .out] {a0 a1 a2 a3 a4} (ha4 : Keep W z a4) :
    Keep W z (State.cellEnd a0 a1 a2 a3 a4) := by
  unfold State.cellEnd
  grind only [usr keep_rest, usr keep_foldl, usr keep_State_leaseRestart, usr keep_State_answer, usr keep_State_seatSet, usr keep_State_irqPost, usr keep_State_mailEnd, usr keep_State_hopDone]
grind_pattern keep_State_cellEnd => Keep W z a4, State.cellEnd a0 a1 a2 a3 a4

theorem keep_State_objResponse [Lets W .regs] [Lets W .pw] [Lets W .flt] [Lets W .irq] [Lets W .seat] [Lets W .ring] [Lets W .cap] [Lets W .work] [Lets W .out] {a0 a1 a2} (ha2 : Keep W z a2) :
    Keep W z (State.objResponse a0 a1 a2) := by
  unfold State.objResponse
  grind only [usr keep_rest, usr keep_foldl, usr keep_State_setCellRec, usr keep_State_cellEnd, usr keep_State_seatLogEntry, usr keep_State_seatSet]
grind_pattern keep_State_objResponse => Keep W z a2, State.objResponse a0 a1 a2

theorem keep_State_cellTimeout [Lets W .regs] [Lets W .pw] [Lets W .flt] [Lets W .irq] [Lets W .seat] [Lets W .cap] [Lets W .work] [Lets W .out] {a0 a1} (ha1 : Keep W z a1) :
    Keep W z (State.cellTimeout a0 a1) := by
  unfold State.cellTimeout
  grind only [usr keep_rest, usr keep_foldl, usr keep_State_cellEnd, usr keep_State_seatSet]
grind_pattern keep_State_cellTimeout => Keep W z a1, State.cellTimeout a0 a1

theorem keep_State_transport [Lets W .regs] [Lets W .flt] [Lets W .irq] [Lets W .seat] [Lets W .cap] [Lets W .work] {a0 a1 a2 a3} (ha3 : Keep W z a3) :
    Keep W z (State.transport a0 a1 a2 a3) := by
  unfold State.transport
  grind only [usr keep_rest, usr keep_foldl, usr keep_State_seatLogEntry]
grind_pattern keep_State_transport => Keep W z a3, State.transport a0 a1 a2 a3

theorem keep_State_hopHead [Lets W .regs] [Lets W .flt] [Lets W .irq] [Lets W .seat] [Lets W .cap] [Lets W .work] [Lets W .out] {a0 a1 a2 a3 a4 a5 a6 a7} (ha7 : Keep W z a7) :
    Keep W z (State.hopHead a0 a1 a2 a3 a4 a5 a6 a7) := by
  unfold State.hopHead
  grind only [usr keep_rest, usr keep_foldl, usr keep_State_transport, usr keep_State_hopOut]
grind_pattern keep_State_hopHead => Keep W z a7, State.hopHead a0 a1 a2 a3 a4 a5 a6 a7

theorem keep_State_hopSeq [Lets W .regs] [Lets W .flt] [Lets W .irq] [Lets W .seat] [Lets W .cap] [Lets W .work] [Lets W .out] {a0 a1 a2 a3 a4 a5 a6 a7} (ha6 : ∀ x0, Keep W z x0 → Keep W z (a6 x0)) (ha7 : Keep W z a7) :
    Keep W z (State.hopSeq a0 a1 a2 a3 a4 a5 a6 a7) := by
  unfold State.hopSeq
  split
  · exact ha7
  · extract_lets +onlyGivenNames v s1 d
    have h1 : Keep W z s1 := keep_State_setSession ha7
    clear_value s1 d
    split
    · split
      · exact keep_State_hopHead h1
      · exact ha6 _ (keep_State_setSession h1)
    · split
      · split
        · exact keep_State_setSession h1
        · exact keep_State_hopOut h1
      · split
        · exact keep_State_hopHead h1
        · exact keep_State_hopHead h1

theorem keep_State_sessionClose [Lets W .irq] [Lets W .seat] {a0 a1} (ha1 : Keep W z a1) :
    Keep W z (State.sessionClose a0 a1) := by
  unfold State.sessionClose
  grind only [usr keep_rest, usr keep_foldl, usr keep_State_seatSet, usr keep_State_withdraw, usr keep_State_tokenLost, usr keep_State_tokenUnask]
grind_pattern keep_State_sessionClose => Keep W z a1, State.sessionClose a0 a1

theorem keep_State_hopClose [Lets W .regs] [Lets W .flt] [Lets W .irq] [Lets W .seat] [Lets W .cap] [Lets W .work] [Lets W .out] {a0 a1 a2 a3 a4} (ha4 : Keep W z a4) :
    Keep W z (State.hopClose a0 a1 a2 a3 a4) := by
  unfold State.hopClose
  grind only [usr keep_rest, usr keep_foldl, keep_State_hopSeq, usr keep_State_sessionClose, usr keep_State_hopDone]
grind_pattern keep_State_hopClose => Keep W z a4, State.hopClose a0 a1 a2 a3 a4

theorem keep_State_hopRxOne [Lets W .regs] [Lets W .flt] [Lets W .irq] [Lets W .seat] [Lets W .cap] [Lets W .work] [Lets W .out] {a0 a1 a2 a3 a4 a5} (ha4 : ∀ x0 x1 x2 x3, Keep W z x3 → Keep W z (a4 x0 x1 x2 x3)) (ha5 : Keep W z a5) :
    Keep W z (State.hopRxOne a0 a1 a2 a3 a4 a5) := by
  unfold State.hopRxOne
  grind only [usr keep_rest, usr keep_foldl, usr keep_State_transport, usr keep_State_hopHead]

theorem keep_State_prpTake [Lets W .seat] {a0 a1 a2} (ha0 : Keep W z a0) :
    KeepP W z (State.prpTake a0 a1 a2) := by
  unfold State.prpTake
  grind only [= keepP_mk, → keepP_snd, ← keep_foldlP, usr keep_rest, usr keep_foldl, usr keep_State_seatSet]
grind_pattern keep_State_prpTake => Keep W z a0, State.prpTake a0 a1 a2

theorem keep_State_hopRx [Lets W .regs] [Lets W .flt] [Lets W .irq] [Lets W .seat] [Lets W .cap] [Lets W .work] [Lets W .out] {a0 a1 a2 a3 a4 a5} (ha4 : ∀ x0 x1 x2 x3, Keep W z x3 → Keep W z (a4 x0 x1 x2 x3)) (ha5 : Keep W z a5) :
    Keep W z (State.hopRx a0 a1 a2 a3 a4 a5) := by
  unfold State.hopRx
  grind only [= keepP_mk, → keepP_snd, ← keep_foldlP, usr keep_rest, usr keep_foldl, usr keep_State_prpTake, keep_State_hopRxOne]

theorem keep_State_hopKeep [Lets W .regs] [Lets W .flt] [Lets W .irq] [Lets W .seat] [Lets W .cap] [Lets W .work] [Lets W .out] {a0 a1 a2 a3 a4} (ha4 : Keep W z a4) :
    Keep W z (State.hopKeep a0 a1 a2 a3 a4) := by
  unfold State.hopKeep
  grind only [usr keep_rest, usr keep_foldl, keep_State_hopSeq, usr keep_State_hopDone]
grind_pattern keep_State_hopKeep => Keep W z a4, State.hopKeep a0 a1 a2 a3 a4

theorem keep_State_addSession [Lets W .seat] {a0 a1 a2} (ha2 : Keep W z a2) :
    Keep W z (State.addSession a0 a1 a2) := by
  unfold State.addSession
  grind only [usr keep_rest, usr keep_foldl, usr keep_State_seatSet]
grind_pattern keep_State_addSession => Keep W z a2, State.addSession a0 a1 a2

theorem keep_State_hopOpen [Lets W .regs] [Lets W .flt] [Lets W .irq] [Lets W .seat] [Lets W .cap] [Lets W .work] [Lets W .out] {a0 a1 a2 a3 a4} (ha4 : Keep W z a4) :
    Keep W z (State.hopOpen a0 a1 a2 a3 a4) := by
  unfold State.hopOpen
  grind only [usr keep_rest, usr keep_foldl, usr keep_State_hopHead, usr keep_State_hopOut, usr keep_State_addSession]
grind_pattern keep_State_hopOpen => Keep W z a4, State.hopOpen a0 a1 a2 a3 a4

theorem keep_State_cellSend [Lets W .objs] [Lets W .regs] [Lets W .flt] [Lets W .irq] [Lets W .seat] [Lets W .ring] [Lets W .xl] [Lets W .cap] [Lets W .work] [Lets W .out] {a0 a1 a2 a3 a4 a5 a6 a7 a8 a9} (ha9 : Keep W z a9) :
    Keep W z (State.cellSend a0 a1 a2 a3 a4 a5 a6 a7 a8 a9) := by
  unfold State.cellSend
  grind only [usr keep_rest, usr keep_foldl, usr keep_State_sendCell, usr keep_State_seatSet]
grind_pattern keep_State_cellSend => Keep W z a9, State.cellSend a0 a1 a2 a3 a4 a5 a6 a7 a8 a9

theorem keep_State_hopAccess [Lets W .objs] [Lets W .doms] [Lets W .regs] [Lets W .pw] [Lets W .tm] [Lets W .flt] [Lets W .irq] [Lets W .dsp] [Lets W .seat] [Lets W .ring] [Lets W .xl] [Lets W .pair] [Lets W .pwm] [Lets W .bat] [Lets W .adc] [Lets W .loop] [Lets W .cap] [Lets W .sl] [Lets W .saf] [Lets W .mod] [Lets W .work] [Lets W .mem] [Lets W .tap] [Lets W .freeCtr] [Lets W .out] {a0 a1 a2 a3 a4 a5 a6} (ha6 : Keep W z a6) :
    Keep W z (State.hopAccess a0 a1 a2 a3 a4 a5 a6) := by
  unfold State.hopAccess
  grind only [= keepP_mk, → keepP_snd, ← keep_foldlP, = keepP2_mk, → keepP2_snd, ← keep_foldlP2, = keepP3_mk, → keepP3_snd, usr keep_rest, usr keep_foldl, usr keep_State_hopHead, keep_State_hopSeq, usr keep_State_hopDone, usr keep_State_setSession, usr keep_State_cellSend, usr keep_State_answer, usr keep_State_ownWrite, usr keep_State_ownRead]
grind_pattern keep_State_hopAccess => Keep W z a6, State.hopAccess a0 a1 a2 a3 a4 a5 a6

theorem keep_State_streamFlush [Lets W .objs] [Lets W .regs] [Lets W .flt] [Lets W .irq] [Lets W .seat] [Lets W .cap] [Lets W .work] [Lets W .freeCtr] [Lets W .out] {a0 a1} (ha1 : Keep W z a1) :
    Keep W z (State.streamFlush a0 a1) := by
  unfold State.streamFlush
  grind only [= keepP_mk, → keepP_snd, ← keep_foldlP, = keepP2_mk, → keepP2_snd, ← keep_foldlP2, usr keep_rest, usr keep_foldl, usr keep_State_memLoad, usr keep_State_stageFree, usr keep_State_hopPush]
grind_pattern keep_State_streamFlush => Keep W z a1, State.streamFlush a0 a1

theorem keep_State_hopSubscribe [Lets W .regs] [Lets W .flt] [Lets W .irq] [Lets W .seat] [Lets W .cap] [Lets W .work] [Lets W .out] {a0 a1 a2 a3 a4 a5} (ha5 : Keep W z a5) :
    Keep W z (State.hopSubscribe a0 a1 a2 a3 a4 a5) := by
  unfold State.hopSubscribe
  grind only [usr keep_rest, usr keep_foldl, usr keep_State_hopHead, keep_State_hopSeq, usr keep_State_transport, usr keep_State_hopDone, usr keep_State_setSession, usr keep_State_withdraw]
grind_pattern keep_State_hopSubscribe => Keep W z a5, State.hopSubscribe a0 a1 a2 a3 a4 a5

theorem keep_State_mailbox [Lets W .objs] [Lets W .doms] [Lets W .regs] [Lets W .pw] [Lets W .tm] [Lets W .flt] [Lets W .irq] [Lets W .dsp] [Lets W .seat] [Lets W .ring] [Lets W .xl] [Lets W .pair] [Lets W .pwm] [Lets W .bat] [Lets W .adc] [Lets W .loop] [Lets W .cap] [Lets W .sl] [Lets W .saf] [Lets W .mod] [Lets W .work] [Lets W .mem] [Lets W .tap] [Lets W .freeCtr] [Lets W .out] {a0 a1 a2} (ha2 : Keep W z a2) :
    Keep W z (State.mailbox a0 a1 a2) := by
  unfold State.mailbox
  grind only [= keepP_mk, → keepP_snd, ← keep_foldlP, = keepP2_mk, → keepP2_snd, ← keep_foldlP2, = keepP3_mk, → keepP3_snd, usr keep_rest, usr keep_foldl, usr keep_State_seatLogEntry, usr keep_State_setMbox, usr keep_State_cellSend, usr keep_State_mailEnd, usr keep_State_answer, usr keep_State_ownWrite, usr keep_State_ownRead]
grind_pattern keep_State_mailbox => Keep W z a2, State.mailbox a0 a1 a2

theorem keep_State_wrObj [Lets W .objs] [Lets W .doms] [Lets W .regs] [Lets W .pw] [Lets W .tm] [Lets W .flt] [Lets W .irq] [Lets W .dsp] [Lets W .seat] [Lets W .ring] [Lets W .xl] [Lets W .pair] [Lets W .pwm] [Lets W .bat] [Lets W .adc] [Lets W .loop] [Lets W .cap] [Lets W .sl] [Lets W .saf] [Lets W .mod] [Lets W .work] [Lets W .mem] [Lets W .tap] [Lets W .freeCtr] [Lets W .out] {a0 a1 a2 a3 a4} (ha4 : Keep W z a4) :
    Keep W z (State.wrObj a0 a1 a2 a3 a4) := by
  unfold State.wrObj
  grind only [= keepE_ok, = keepE_error, usr keep_rest, usr keep_foldl, usr keep_State_regRw, usr keep_State_mailbox, usr keep_State_setMbox, usr keep_State_applyTokenCmd]
grind_pattern keep_State_wrObj => Keep W z a4, State.wrObj a0 a1 a2 a3 a4

theorem keep_State_regWr [Lets W .objs] [Lets W .doms] [Lets W .regs] [Lets W .pw] [Lets W .tm] [Lets W .flt] [Lets W .irq] [Lets W .dsp] [Lets W .seat] [Lets W .ring] [Lets W .xl] [Lets W .pair] [Lets W .pwm] [Lets W .bat] [Lets W .adc] [Lets W .loop] [Lets W .cap] [Lets W .sl] [Lets W .saf] [Lets W .mod] [Lets W .work] [Lets W .mem] [Lets W .tap] [Lets W .freeCtr] [Lets W .out] {a0 a1 a2 a3 a4} (ha4 : Keep W z a4) :
    Keep W z (State.regWr a0 a1 a2 a3 a4) := by
  unfold State.regWr
  grind only [usr keep_rest, usr keep_foldl, usr keep_State_wrMsix, usr keep_State_regRw, usr keep_State_wrObj, usr keep_State_wrRng, usr keep_State_wrXl, usr keep_State_wrPwm, usr keep_State_wrAdc, usr keep_State_wrFlt, usr keep_State_wrIrq, usr keep_State_wrDsp, usr keep_State_wrCapq]
grind_pattern keep_State_regWr => Keep W z a4, State.regWr a0 a1 a2 a3 a4

end Sys2Proof.Laws
end

