-- ==== Sys2Proof/Laws/KeepPairOps.lean ====
section
/-! SUPPORT. What the operations of Machine/PairOps keep (see Laws/Keep). -/

set_option Elab.async false
namespace Sys2Proof.Laws
open Sys2Proof.Machine
variable {W : Part → Prop} {z : State}

theorem keep_State_sendParts [Lets W .regs] [Lets W .xl] [Lets W .out] {a0 a1 a2 a3 a4} (ha4 : Keep W z a4) :
    Keep W z (State.sendParts a0 a1 a2 a3 a4) := by
  unfold State.sendParts
  grind only [usr keep_rest, usr keep_foldl, usr keep_State_xlSend]
grind_pattern keep_State_sendParts => Keep W z a4, State.sendParts a0 a1 a2 a3 a4

theorem keep_State_sendFast [Lets W .regs] [Lets W .xl] [Lets W .pair] [Lets W .out] {a0} (ha0 : Keep W z a0) :
    Keep W z (State.sendFast a0) := by
  unfold State.sendFast
  try dsimp only
  repeat' (first | with_reducible assumption | with_reducible exact True.intro | intro _ | with_reducible apply keep_State_sendParts | with_reducible apply keep_State_pairSet | with_reducible apply keep_ite | with_reducible apply keep_foldl | (simp only [keepE_ok, keepE_error, keepR_next, keepR_fault, keepR_refused, keepP_mk, keepP2_mk, keepP3_mk, keepO_some, keepO_none, keepO2_some, keepO2_none]) | split)
grind_pattern keep_State_sendFast => Keep W z a0, State.sendFast a0

theorem keep_State_sendSlow [Lets W .regs] [Lets W .xl] [Lets W .pair] [Lets W .out] {a0} (ha0 : Keep W z a0) :
    Keep W z (State.sendSlow a0) := by
  unfold State.sendSlow
  grind only [usr keep_rest, usr keep_foldl, usr keep_State_sendParts, usr keep_State_pairSet]
grind_pattern keep_State_sendSlow => Keep W z a0, State.sendSlow a0

theorem keep_State_standDown [Lets W .objs] [Lets W .pw] [Lets W .tm] [Lets W .flt] [Lets W .irq] [Lets W .seat] [Lets W .ring] [Lets W .xl] [Lets W .pair] [Lets W .sl] [Lets W .out] {a0} (ha0 : Keep W z a0) :
    Keep W z (State.standDown a0) := by
  unfold State.standDown
  grind only [usr keep_rest, usr keep_foldl, usr keep_State_curtainsOut, usr keep_State_sendCurtainSets, usr keep_State_takeStanding, usr keep_State_setRing, usr keep_State_slSet, usr keep_State_pairSet]
grind_pattern keep_State_standDown => Keep W z a0, State.standDown a0

theorem keep_State_restoreFaults [Lets W .flt] {a0 a1} (ha1 : Keep W z a1) :
    Keep W z (State.restoreFaults a0 a1) := by
  unfold State.restoreFaults
  grind only [usr keep_rest, usr keep_foldl, usr keep_State_setFsrc]
grind_pattern keep_State_restoreFaults => Keep W z a1, State.restoreFaults a0 a1

theorem keep_State_restoreArm [Lets W .objs] [Lets W .loop] [Lets W .mod] {a0 a1 a2} (ha2 : Keep W z a2) :
    Keep W z (State.restoreArm a0 a1 a2) := by
  unfold State.restoreArm
  grind only [usr keep_rest, usr keep_foldl, usr keep_State_setArmMod, usr keep_State_oset, usr keep_State_setArm]
grind_pattern keep_State_restoreArm => Keep W z a2, State.restoreArm a0 a1 a2

theorem keep_State_restoreCells [Lets W .mod] {a0 a1 a2 a3} (ha3 : Keep W z a3) :
    Keep W z (State.restoreCells a0 a1 a2 a3) := by
  unfold State.restoreCells
  grind only [usr keep_rest, usr keep_foldl, usr keep_State_setModCell]
grind_pattern keep_State_restoreCells => Keep W z a3, State.restoreCells a0 a1 a2 a3

theorem keep_State_restoreFences [Lets W .flt] [Lets W .freeCtr] {a0 a1} (ha1 : Keep W z a1) :
    Keep W z (State.restoreFences a0 a1) := by
  unfold State.restoreFences
  grind [keep_foldl, = keepE_ok, = keepE_error, = keepR_next, = keepR_fault, = keepR_refused, = keepP_mk, → keepP_snd, = keepP2_mk, → keepP2_snd, = keepP3_mk, → keepP3_snd, = keepO_some, = keepO_none, = keepO2_some, = keepO2_none]
grind_pattern keep_State_restoreFences => Keep W z a1, State.restoreFences a0 a1

theorem keep_State_restoreLoops [Lets W .loop] {a0 a1} (ha1 : Keep W z a1) :
    Keep W z (State.restoreLoops a0 a1) := by
  unfold State.restoreLoops
  grind only [usr keep_rest, usr keep_foldl, usr keep_State_setCh, usr keep_State_setNco]
grind_pattern keep_State_restoreLoops => Keep W z a1, State.restoreLoops a0 a1

theorem keep_State_restoreSafety [Lets W .ring] [Lets W .xl] [Lets W .saf] [Lets W .out] {a0 a1} (ha1 : Keep W z a1) :
    Keep W z (State.restoreSafety a0 a1) := by
  unfold State.restoreSafety
  grind only [usr keep_rest, usr keep_foldl, usr keep_State_safSet, usr keep_State_sendCurtainSets, usr keep_State_sendC, usr keep_State_setRing, usr keep_State_repeatCs]
grind_pattern keep_State_restoreSafety => Keep W z a1, State.restoreSafety a0 a1

theorem keep_State_restoreSl [Lets W .sl] {a0 a1 a2} (ha2 : Keep W z a2) :
    Keep W z (State.restoreSl a0 a1 a2) := by
  unfold State.restoreSl
  grind only [usr keep_rest, usr keep_foldl, usr keep_State_slSet]
grind_pattern keep_State_restoreSl => Keep W z a2, State.restoreSl a0 a1 a2

theorem keep_State_restoreTime [Lets W .objs] [Lets W .tm] [Lets W .irq] {a0 a1 a2} (ha2 : Keep W z a2) :
    Keep W z (State.restoreTime a0 a1 a2) := by
  unfold State.restoreTime
  grind only [usr keep_rest, usr keep_foldl, usr keep_State_tmSet, usr keep_State_setTb0State]
grind_pattern keep_State_restoreTime => Keep W z a2, State.restoreTime a0 a1 a2

theorem keep_State_restoreFrom [Lets W .objs] [Lets W .tm] [Lets W .flt] [Lets W .irq] [Lets W .ring] [Lets W .xl] [Lets W .loop] [Lets W .sl] [Lets W .saf] [Lets W .mod] [Lets W .freeCtr] [Lets W .out] {a0 a1 a2} (ha2 : Keep W z a2) :
    Keep W z (State.restoreFrom a0 a1 a2) := by
  unfold State.restoreFrom
  split
  · exact ha2
  · exact keep_State_restoreSl (keep_State_restoreSafety (keep_State_restoreLoops (keep_State_restoreFences (keep_State_restoreCells
      (keep_State_restoreArm (keep_State_restoreArm (keep_State_restoreTime ha2)))))))
grind_pattern keep_State_restoreFrom => Keep W z a2, State.restoreFrom a0 a1 a2

theorem keep_State_restoreTypes [Lets W .ring] {a0} (ha0 : Keep W z a0) :
    Keep W z (State.restoreTypes a0) := by
  unfold State.restoreTypes
  grind only [usr keep_rest, usr keep_foldl, usr keep_State_setCellRec]
grind_pattern keep_State_restoreTypes => Keep W z a0, State.restoreTypes a0

theorem keep_State_restorePair [Lets W .objs] [Lets W .tm] [Lets W .flt] [Lets W .irq] [Lets W .ring] [Lets W .xl] [Lets W .loop] [Lets W .sl] [Lets W .saf] [Lets W .mod] [Lets W .freeCtr] [Lets W .out] {a0 a1} (ha1 : Keep W z a1) :
    Keep W z (State.restorePair a0 a1) := by
  unfold State.restorePair
  extract_lets +onlyGivenNames s1 s2
  have h1 : Keep W z s1 := by
    unfold s1
    split
    · exact keep_State_restoreFaults ha1
    · exact ha1
  clear_value s1
  have h2 : Keep W z s2 := keep_State_restoreTypes h1
  exact keep_State_restoreFrom h2
grind_pattern keep_State_restorePair => Keep W z a1, State.restorePair a0 a1

theorem keep_State_takeover [Lets W .objs] [Lets W .pw] [Lets W .tm] [Lets W .flt] [Lets W .irq] [Lets W .seat] [Lets W .ring] [Lets W .xl] [Lets W .pair] [Lets W .loop] [Lets W .sl] [Lets W .saf] [Lets W .mod] [Lets W .freeCtr] [Lets W .out] {a0 a1} (ha1 : Keep W z a1) :
    Keep W z (State.takeover a0 a1) := by
  unfold State.takeover
  grind [keep_foldl, keep_State_restorePair, keep_State_takeStanding, keep_State_setArmMod, keep_State_tmSet, keep_State_pairSet, keep_State_irqPost, keep_State_irqSet, = keepE_ok, = keepE_error, = keepR_next, = keepR_fault, = keepR_refused, = keepP_mk, → keepP_snd, = keepP2_mk, → keepP2_snd, = keepP3_mk, → keepP3_snd, = keepO_some, = keepO_none, = keepO2_some, = keepO2_none]
grind_pattern keep_State_takeover => Keep W z a1, State.takeover a0 a1

theorem keep_State_handoverAt [Lets W .objs] [Lets W .doms] [Lets W .regs] [Lets W .pw] [Lets W .tm] [Lets W .flt] [Lets W .irq] [Lets W .seat] [Lets W .ring] [Lets W .xl] [Lets W .pair] [Lets W .loop] [Lets W .cap] [Lets W .sl] [Lets W .saf] [Lets W .mod] [Lets W .work] [Lets W .freeCtr] [Lets W .out] {a0} (ha0 : Keep W z a0) :
    Keep W z (State.handoverAt a0) := by
  unfold State.handoverAt
  grind only [usr keep_rest, usr keep_foldl, usr keep_State_irqPost, usr keep_State_takeoverNote, usr keep_State_standDown, usr keep_State_pairSet, usr keep_State_takeover]
grind_pattern keep_State_handoverAt => Keep W z a0, State.handoverAt a0

theorem keep_State_holdHealth [Lets W .irq] [Lets W .pair] {a0 a1} (ha1 : Keep W z a1) :
    Keep W z (State.holdHealth a0 a1) := by
  unfold State.holdHealth
  grind only [usr keep_rest, usr keep_foldl, usr keep_State_pairSet, usr keep_State_irqPost]
grind_pattern keep_State_holdHealth => Keep W z a1, State.holdHealth a0 a1

theorem keep_State_selfTest [Lets W .pair] {a0} (ha0 : Keep W z a0) :
    Keep W z (State.selfTest a0) := by
  unfold State.selfTest
  grind only [usr keep_rest, usr keep_foldl, usr keep_State_pairSet]
grind_pattern keep_State_selfTest => Keep W z a0, State.selfTest a0

theorem keep_State_sendHealth [Lets W .regs] [Lets W .irq] [Lets W .xl] [Lets W .pair] [Lets W .out] {a0} (ha0 : Keep W z a0) :
    Keep W z (State.sendHealth a0) := by
  unfold State.sendHealth
  grind only [usr keep_rest, usr keep_foldl, usr keep_State_selfTest, usr keep_State_pairSet, usr keep_State_holdHealth, usr keep_State_xlSend]
grind_pattern keep_State_sendHealth => Keep W z a0, State.sendHealth a0

theorem keep_State_pairCueStart [Lets W .objs] [Lets W .doms] [Lets W .regs] [Lets W .pw] [Lets W .tm] [Lets W .flt] [Lets W .irq] [Lets W .seat] [Lets W .ring] [Lets W .xl] [Lets W .pair] [Lets W .loop] [Lets W .cap] [Lets W .sl] [Lets W .saf] [Lets W .mod] [Lets W .work] [Lets W .freeCtr] [Lets W .out] {a0} (ha0 : Keep W z a0) :
    Keep W z (State.pairCueStart a0) := by
  unfold State.pairCueStart
  grind only [usr keep_rest, usr keep_foldl, usr keep_State_handoverAt, usr keep_State_pairSet, usr keep_State_sendHealth]
grind_pattern keep_State_pairCueStart => Keep W z a0, State.pairCueStart a0

theorem keep_State_takeHealth [Lets W .regs] [Lets W .flt] [Lets W .irq] [Lets W .pair] [Lets W .cap] [Lets W .work] {a0 a1} (ha1 : Keep W z a1) :
    Keep W z (State.takeHealth a0 a1) := by
  unfold State.takeHealth
  grind only [usr keep_rest, usr keep_foldl, usr keep_State_irqPost, usr keep_State_holdHealth, usr keep_State_pairSet, usr keep_State_raiseIf]
grind_pattern keep_State_takeHealth => Keep W z a1, State.takeHealth a0 a1

theorem keep_State_lossActs [Lets W .objs] [Lets W .doms] [Lets W .regs] [Lets W .pw] [Lets W .tm] [Lets W .flt] [Lets W .irq] [Lets W .seat] [Lets W .ring] [Lets W .xl] [Lets W .pair] [Lets W .loop] [Lets W .cap] [Lets W .sl] [Lets W .saf] [Lets W .mod] [Lets W .work] [Lets W .freeCtr] [Lets W .out] {a0} (ha0 : Keep W z a0) :
    Keep W z (State.lossActs a0) := by
  unfold State.lossActs
  grind only [usr keep_rest, usr keep_foldl, usr keep_State_takeoverNote, usr keep_State_takeover, usr keep_State_pairSet]
grind_pattern keep_State_lossActs => Keep W z a0, State.lossActs a0

theorem keep_State_queueRaw [Lets W .regs] [Lets W .ring] [Lets W .cap] [Lets W .out] {a0 a1 a2} (ha2 : Keep W z a2) :
    Keep W z (State.queueRaw a0 a1 a2) := by
  unfold State.queueRaw
  grind only [usr keep_rest, usr keep_foldl, usr keep_State_bgAdd, usr keep_State_setPort]
grind_pattern keep_State_queueRaw => Keep W z a2, State.queueRaw a0 a1 a2

theorem keep_State_relDn [Lets W .objs] [Lets W .regs] [Lets W .flt] [Lets W .irq] [Lets W .ring] [Lets W .pair] [Lets W .cap] [Lets W .work] [Lets W .out] {a0 a1 a2 a3 a4} (ha4 : Keep W z a4) :
    Keep W z (State.relDn a0 a1 a2 a3 a4) := by
  unfold State.relDn
  grind only [usr keep_rest, usr keep_foldl, usr keep_State_noteSheet, usr keep_State_txForward, usr keep_State_forwardBad, usr keep_State_queueRaw]
grind_pattern keep_State_relDn => Keep W z a4, State.relDn a0 a1 a2 a3 a4

theorem keep_State_relUp [Lets W .objs] [Lets W .regs] [Lets W .pw] [Lets W .flt] [Lets W .irq] [Lets W .seat] [Lets W .ring] [Lets W .xl] [Lets W .pwm] [Lets W .bat] [Lets W .loop] [Lets W .cap] [Lets W .sl] [Lets W .saf] [Lets W .work] [Lets W .mem] [Lets W .freeCtr] [Lets W .out] {a0 a1 a2 a3 a4} (ha4 : Keep W z a4) :
    Keep W z (State.relUp a0 a1 a2 a3 a4) := by
  unfold State.relUp
  grind only [usr keep_rest, usr keep_foldl, usr keep_State_ringLog, usr keep_State_enumBack, usr keep_State_irqPost, usr keep_State_breakNotice, usr keep_State_healNotice, usr keep_State_safUpdate, usr keep_State_safRing, usr keep_State_objResponse, usr keep_State_stnResponse, usr keep_State_passAck, usr keep_State_capFrame]
grind_pattern keep_State_relUp => Keep W z a4, State.relUp a0 a1 a2 a3 a4

theorem keep_State_queueLines [Lets W .pair] {a0} (ha0 : Keep W z a0) :
    Keep W z (State.queueLines a0) := by
  unfold State.queueLines
  grind only [usr keep_rest, usr keep_foldl, usr keep_State_pairSet]
grind_pattern keep_State_queueLines => Keep W z a0, State.queueLines a0

theorem keep_State_applyLines [Lets W .pair] [Lets W .sl] {a0 a1} (ha1 : Keep W z a1) :
    Keep W z (State.applyLines a0 a1) := by
  unfold State.applyLines
  grind only [usr keep_rest, usr keep_foldl, usr keep_State_slSet, usr keep_State_pairSet]
grind_pattern keep_State_applyLines => Keep W z a1, State.applyLines a0 a1

theorem keep_State_mirrorWrite [Lets W .objs] [Lets W .doms] [Lets W .regs] [Lets W .pw] [Lets W .tm] [Lets W .flt] [Lets W .irq] [Lets W .dsp] [Lets W .seat] [Lets W .ring] [Lets W .xl] [Lets W .pair] [Lets W .pwm] [Lets W .bat] [Lets W .adc] [Lets W .loop] [Lets W .cap] [Lets W .sl] [Lets W .saf] [Lets W .mod] [Lets W .work] [Lets W .mem] [Lets W .tap] [Lets W .freeCtr] [Lets W .out] {a0 a1 a2 a3} (ha3 : Keep W z a3) :
    Keep W z (State.mirrorWrite a0 a1 a2 a3) := by
  unfold State.mirrorWrite
  grind only [usr keep_rest, usr keep_foldl, usr keep_State_writeObject, usr keep_State_loadValue]
grind_pattern keep_State_mirrorWrite => Keep W z a3, State.mirrorWrite a0 a1 a2 a3

theorem keep_State_mirrorApply [Lets W .objs] [Lets W .doms] [Lets W .regs] [Lets W .pw] [Lets W .tm] [Lets W .flt] [Lets W .irq] [Lets W .dsp] [Lets W .seat] [Lets W .ring] [Lets W .xl] [Lets W .pair] [Lets W .pwm] [Lets W .bat] [Lets W .adc] [Lets W .loop] [Lets W .cap] [Lets W .sl] [Lets W .saf] [Lets W .mod] [Lets W .work] [Lets W .mem] [Lets W .tap] [Lets W .freeCtr] [Lets W .out] {a0 a1} (ha1 : Keep W z a1) :
    Keep W z (State.mirrorApply a0 a1) := by
  unfold State.mirrorApply
  grind only [usr keep_rest, usr keep_foldl, usr keep_State_pairSet, usr keep_State_mirrorWrite]
grind_pattern keep_State_mirrorApply => Keep W z a1, State.mirrorApply a0 a1

theorem keep_State_takeFast [Lets W .objs] [Lets W .doms] [Lets W .regs] [Lets W .pw] [Lets W .tm] [Lets W .flt] [Lets W .irq] [Lets W .dsp] [Lets W .seat] [Lets W .ring] [Lets W .xl] [Lets W .pair] [Lets W .pwm] [Lets W .bat] [Lets W .adc] [Lets W .loop] [Lets W .cap] [Lets W .sl] [Lets W .saf] [Lets W .mod] [Lets W .work] [Lets W .mem] [Lets W .tap] [Lets W .freeCtr] [Lets W .out] {a0 a1 a2} (ha2 : Keep W z a2) :
    Keep W z (State.takeFast a0 a1 a2) := by
  unfold State.takeFast
  grind only [usr keep_rest, usr keep_foldl, usr keep_State_takeMark, usr keep_State_irqPost, usr keep_State_pairSet, usr keep_State_mirrorApply, usr keep_State_applyLines]
grind_pattern keep_State_takeFast => Keep W z a2, State.takeFast a0 a1 a2

theorem keep_State_snapFast [Lets W .objs] [Lets W .doms] [Lets W .regs] [Lets W .pw] [Lets W .tm] [Lets W .flt] [Lets W .irq] [Lets W .dsp] [Lets W .seat] [Lets W .ring] [Lets W .xl] [Lets W .pair] [Lets W .pwm] [Lets W .bat] [Lets W .adc] [Lets W .loop] [Lets W .cap] [Lets W .sl] [Lets W .saf] [Lets W .mod] [Lets W .work] [Lets W .mem] [Lets W .tap] [Lets W .freeCtr] [Lets W .out] {a0 a1 a2} (ha2 : Keep W z a2) :
    Keep W z (State.snapFast a0 a1 a2) := by
  unfold State.snapFast
  grind only [usr keep_rest, usr keep_foldl, usr keep_State_pairSet, usr keep_State_takeFast]
grind_pattern keep_State_snapFast => Keep W z a2, State.snapFast a0 a1 a2

theorem keep_State_fastLost [Lets W .objs] [Lets W .regs] [Lets W .flt] [Lets W .irq] [Lets W .xl] [Lets W .pair] [Lets W .cap] [Lets W .work] {a0} (ha0 : Keep W z a0) :
    Keep W z (State.fastLost a0) := by
  unfold State.fastLost
  grind only [usr keep_rest, usr keep_foldl, usr keep_State_irqPost, usr keep_State_xlLog, usr keep_State_bump, usr keep_State_pairSet]
grind_pattern keep_State_fastLost => Keep W z a0, State.fastLost a0

theorem keep_State_takeSlow [Lets W .doms] [Lets W .pair] [Lets W .sl] [Lets W .mod] {a0 a1 a2} (ha2 : Keep W z a2) :
    Keep W z (State.takeSlow a0 a1 a2) := by
  unfold State.takeSlow
  grind only [usr keep_rest, usr keep_foldl, usr keep_State_dset, usr keep_State_pairSet, usr keep_State_setSvCell, usr keep_State_modSet, usr keep_State_setStn, usr keep_State_slSet]
grind_pattern keep_State_takeSlow => Keep W z a2, State.takeSlow a0 a1 a2

theorem keep_State_snapSlow [Lets W .doms] [Lets W .regs] [Lets W .irq] [Lets W .xl] [Lets W .pair] [Lets W .sl] [Lets W .mod] [Lets W .out] {a0 a1 a2} (ha2 : Keep W z a2) :
    Keep W z (State.snapSlow a0 a1 a2) := by
  unfold State.snapSlow
  grind only [usr keep_rest, usr keep_foldl, usr keep_State_pairSet, usr keep_State_takeSlow, usr keep_State_sendHealth]
grind_pattern keep_State_snapSlow => Keep W z a2, State.snapSlow a0 a1 a2

end Sys2Proof.Laws
end

