-- ==== Sys2Proof/Laws/KeepStationOps.lean ====
section
/-! SUPPORT. What the operations of Machine/StationOps keep (see Laws/Keep). -/

set_option Elab.async false
namespace Sys2Proof.Laws
open Sys2Proof.Machine
variable {W : Part → Prop} {z : State}

theorem keep_State_applyCellProfile [Lets W .objs] [Lets W .doms] [Lets W .regs] [Lets W .pw] [Lets W .tm] [Lets W .flt] [Lets W .irq] [Lets W .dsp] [Lets W .seat] [Lets W .ring] [Lets W .xl] [Lets W .pair] [Lets W .pwm] [Lets W .bat] [Lets W .adc] [Lets W .loop] [Lets W .cap] [Lets W .sl] [Lets W .saf] [Lets W .mod] [Lets W .work] [Lets W .mem] [Lets W .tap] [Lets W .freeCtr] [Lets W .out] {a0 a1} (ha1 : Keep W z a1) :
    Keep W z (State.applyCellProfile a0 a1) := by
  unfold State.applyCellProfile
  grind only [= keepE_ok, = keepE_error, usr keep_rest, usr keep_foldl, usr keep_State_objHandler]
grind_pattern keep_State_applyCellProfile => Keep W z a1, State.applyCellProfile a0 a1

theorem keep_State_cellModeStart [Lets W .objs] [Lets W .doms] [Lets W .regs] [Lets W .pw] [Lets W .tm] [Lets W .flt] [Lets W .irq] [Lets W .dsp] [Lets W .seat] [Lets W .ring] [Lets W .xl] [Lets W .pair] [Lets W .pwm] [Lets W .bat] [Lets W .adc] [Lets W .loop] [Lets W .cap] [Lets W .sl] [Lets W .saf] [Lets W .mod] [Lets W .work] [Lets W .mem] [Lets W .tap] [Lets W .freeCtr] [Lets W .out] {a0} (ha0 : Keep W z a0) :
    Keep W z (State.cellModeStart a0) := by
  unfold State.cellModeStart
  try dsimp only
  repeat' (first | with_reducible assumption | with_reducible exact True.intro | intro _ | with_reducible apply keep_State_slSet | with_reducible apply keep_State_oset | with_reducible apply keep_State_applyCellProfile | with_reducible apply keep_ite | with_reducible apply keep_foldl | (simp only [keepE_ok, keepE_error, keepR_next, keepR_fault, keepR_refused, keepP_mk, keepP2_mk, keepP3_mk, keepO_some, keepO_none, keepO2_some, keepO2_none]) | split)
grind_pattern keep_State_cellModeStart => Keep W z a0, State.cellModeStart a0

theorem keep_State_cellImage [Lets W .sl] {a0 a1} (ha1 : Keep W z a1) :
    Keep W z (State.cellImage a0 a1) := by
  unfold State.cellImage
  grind only [usr keep_rest, usr keep_foldl, usr keep_State_slSet]
grind_pattern keep_State_cellImage => Keep W z a1, State.cellImage a0 a1

theorem keep_State_driveFree [Lets W .pwm] [Lets W .out] {a0 a1 a2} (ha2 : Keep W z a2) :
    Keep W z (State.driveFree a0 a1 a2) := by
  unfold State.driveFree
  grind only [usr keep_rest, usr keep_foldl, usr keep_State_drive]
grind_pattern keep_State_driveFree => Keep W z a2, State.driveFree a0 a1 a2

theorem keep_State_stationCueStart [Lets W .pwm] [Lets W .sl] [Lets W .out] {a0 a1} (ha1 : Keep W z a1) :
    Keep W z (State.stationCueStart a0 a1) := by
  unfold State.stationCueStart
  grind only [usr keep_rest, usr keep_foldl, usr keep_State_slSet, usr keep_State_cellImage, usr keep_State_driveFree]
grind_pattern keep_State_stationCueStart => Keep W z a1, State.stationCueStart a0 a1

theorem keep_State_driveLq [Lets W .pwm] [Lets W .sl] [Lets W .out] {a0 a1} (ha1 : Keep W z a1) :
    Keep W z (State.driveLq a0 a1) := by
  unfold State.driveLq
  grind only [usr keep_rest, usr keep_foldl, usr keep_State_driveFree, usr keep_State_slSet]
grind_pattern keep_State_driveLq => Keep W z a1, State.driveLq a0 a1

theorem keep_State_headModeStart [Lets W .objs] [Lets W .doms] [Lets W .regs] [Lets W .pw] [Lets W .tm] [Lets W .flt] [Lets W .irq] [Lets W .dsp] [Lets W .seat] [Lets W .ring] [Lets W .xl] [Lets W .pair] [Lets W .pwm] [Lets W .bat] [Lets W .adc] [Lets W .loop] [Lets W .cap] [Lets W .sl] [Lets W .saf] [Lets W .mod] [Lets W .work] [Lets W .mem] [Lets W .tap] [Lets W .freeCtr] [Lets W .out] {a0} (ha0 : Keep W z a0) :
    Keep W z (State.headModeStart a0) := by
  unfold State.headModeStart
  grind only [usr keep_rest, usr keep_foldl, usr keep_State_writeObject, usr keep_State_slIrq, usr keep_State_slSet, usr keep_State_oset]
grind_pattern keep_State_headModeStart => Keep W z a0, State.headModeStart a0

theorem keep_State_dropResponses [Lets W .sl] {a0} (ha0 : Keep W z a0) :
    Keep W z (State.dropResponses a0) := by
  unfold State.dropResponses
  grind only [usr keep_rest, usr keep_foldl, usr keep_State_slStat, usr keep_State_setStn]
grind_pattern keep_State_dropResponses => Keep W z a0, State.dropResponses a0

theorem keep_State_grantAll [Lets W .sl] {a0 a1} (ha1 : Keep W z a1) :
    Keep W z (State.grantAll a0 a1) := by
  unfold State.grantAll
  grind only [usr keep_rest, usr keep_foldl, usr keep_State_setStn]
grind_pattern keep_State_grantAll => Keep W z a1, State.grantAll a0 a1

theorem keep_State_modeFence [Lets W .regs] [Lets W .flt] [Lets W .irq] [Lets W .cap] [Lets W .work] {a0 a1} (ha1 : Keep W z a1) :
    Keep W z (State.modeFence a0 a1) := by
  unfold State.modeFence
  grind only [usr keep_rest, usr keep_foldl, usr keep_State_raise]
grind_pattern keep_State_modeFence => Keep W z a1, State.modeFence a0 a1

theorem keep_State_modeCommit [Lets W .regs] [Lets W .flt] [Lets W .irq] [Lets W .cap] [Lets W .sl] [Lets W .work] {a0 a1} (ha1 : Keep W z a1) :
    Keep W z (State.modeCommit a0 a1) := by
  unfold State.modeCommit
  try dsimp only
  repeat' (first | with_reducible assumption | with_reducible exact True.intro | intro _ | with_reducible apply keep_State_slSet | with_reducible apply keep_State_slIrq | with_reducible apply keep_State_modeFence | with_reducible apply keep_ite | with_reducible apply keep_foldl | (simp only [keepE_ok, keepE_error, keepR_next, keepR_fault, keepR_refused, keepP_mk, keepP2_mk, keepP3_mk, keepO_some, keepO_none, keepO2_some, keepO2_none]) | split)
grind_pattern keep_State_modeCommit => Keep W z a1, State.modeCommit a0 a1

theorem keep_State_latchImage [Lets W .pair] [Lets W .sl] {a0 a1} (ha1 : Keep W z a1) :
    Keep W z (State.latchImage a0 a1) := by
  unfold State.latchImage
  grind only [usr keep_rest, usr keep_foldl, usr keep_State_slSet, usr keep_State_slWrite]
grind_pattern keep_State_latchImage => Keep W z a1, State.latchImage a0 a1

theorem keep_State_latchSys [Lets W .sl] {a0} (ha0 : Keep W z a0) :
    Keep W z (State.latchSys a0) := by
  unfold State.latchSys
  grind only [usr keep_rest, usr keep_foldl, usr keep_State_slSet]
grind_pattern keep_State_latchSys => Keep W z a0, State.latchSys a0

theorem keep_State_modeAcks [Lets W .flt] [Lets W .sl] {a0} (ha0 : Keep W z a0) :
    Keep W z (State.modeAcks a0) := by
  unfold State.modeAcks
  grind only [usr keep_rest, usr keep_foldl, usr keep_State_slSet, usr keep_State_release]
grind_pattern keep_State_modeAcks => Keep W z a0, State.modeAcks a0

theorem keep_State_modeConfirm [Lets W .regs] [Lets W .flt] [Lets W .irq] [Lets W .cap] [Lets W .sl] [Lets W .work] {a0 a1} (ha1 : Keep W z a1) :
    Keep W z (State.modeConfirm a0 a1) := by
  unfold State.modeConfirm
  grind only [usr keep_rest, usr keep_foldl, usr keep_State_slIrq, usr keep_State_modeFence, usr keep_State_slSet]
grind_pattern keep_State_modeConfirm => Keep W z a1, State.modeConfirm a0 a1

theorem keep_State_stnRead [Lets W .regs] [Lets W .flt] [Lets W .irq] [Lets W .cap] [Lets W .sl] [Lets W .work] {a0 a1} (ha1 : Keep W z a1) :
    Keep W z (State.stnRead a0 a1) := by
  unfold State.stnRead
  grind only [usr keep_rest, usr keep_foldl, usr keep_State_setStn, usr keep_State_slIrq, usr keep_State_release, usr keep_State_raise]
grind_pattern keep_State_stnRead => Keep W z a1, State.stnRead a0 a1

theorem keep_State_readPoint [Lets W .regs] [Lets W .flt] [Lets W .irq] [Lets W .pair] [Lets W .cap] [Lets W .sl] [Lets W .work] {a0 a1 a2} (ha2 : Keep W z a2) :
    Keep W z (State.readPoint a0 a1 a2) := by
  unfold State.readPoint
  grind only [usr keep_rest, usr keep_foldl, usr keep_State_stnRead, usr keep_State_latchSys, usr keep_State_latchImage, usr keep_State_modeConfirm, usr keep_State_modeCommit, usr keep_State_modeAcks, usr keep_State_slSet]
grind_pattern keep_State_readPoint => Keep W z a2, State.readPoint a0 a1 a2

theorem keep_State_sendStationOut [Lets W .regs] [Lets W .ring] [Lets W .xl] [Lets W .cap] [Lets W .out] {a0 a1} (ha1 : Keep W z a1) :
    Keep W z (State.sendStationOut a0 a1) := by
  unfold State.sendStationOut
  grind only [usr keep_rest, usr keep_foldl, usr keep_State_sendRing]
grind_pattern keep_State_sendStationOut => Keep W z a1, State.sendStationOut a0 a1

theorem keep_State_slBanks [Lets W .doms] [Lets W .irq] [Lets W .pair] [Lets W .sl] {a0} (ha0 : Keep W z a0) :
    Keep W z (State.slBanks a0) := by
  unfold State.slBanks
  grind only [usr keep_rest, usr keep_foldl, usr keep_State_setChg, usr keep_State_slSwitch, usr keep_State_slSet]
grind_pattern keep_State_slBanks => Keep W z a0, State.slBanks a0

theorem keep_State_slHalt [Lets W .pwm] [Lets W .sl] [Lets W .out] {a0 a1} (ha1 : Keep W z a1) :
    Keep W z (State.slHalt a0 a1) := by
  unfold State.slHalt
  grind only [usr keep_rest, usr keep_foldl, usr keep_State_driveLq, usr keep_State_slSet]
grind_pattern keep_State_slHalt => Keep W z a1, State.slHalt a0 a1

theorem keep_State_slCommand [Lets W .pwm] [Lets W .sl] [Lets W .out] {a0} (ha0 : Keep W z a0) :
    Keep W z (State.slCommand a0) := by
  unfold State.slCommand
  grind only [usr keep_rest, usr keep_foldl, usr keep_State_slSet, usr keep_State_slHalt]
grind_pattern keep_State_slCommand => Keep W z a0, State.slCommand a0

theorem keep_State_slOverrun [Lets W .regs] [Lets W .flt] [Lets W .irq] [Lets W .pwm] [Lets W .cap] [Lets W .sl] [Lets W .work] [Lets W .out] {a0} (ha0 : Keep W z a0) :
    Keep W z (State.slOverrun a0) := by
  unfold State.slOverrun
  grind only [usr keep_rest, usr keep_foldl, usr keep_State_slIrq, usr keep_State_slStat, usr keep_State_slSet, usr keep_State_raise, usr keep_State_slHalt]
grind_pattern keep_State_slOverrun => Keep W z a0, State.slOverrun a0

theorem keep_State_engineMode [Lets W .irq] [Lets W .sl] {a0 a1} (ha1 : Keep W z a1) :
    Keep W z (State.engineMode a0 a1) := by
  unfold State.engineMode
  grind only [usr keep_rest, usr keep_foldl, usr keep_State_slSet, usr keep_State_modeAccept]
grind_pattern keep_State_engineMode => Keep W z a1, State.engineMode a0 a1

theorem keep_State_engineWrite [Lets W .objs] [Lets W .doms] [Lets W .regs] [Lets W .pw] [Lets W .tm] [Lets W .flt] [Lets W .irq] [Lets W .dsp] [Lets W .seat] [Lets W .ring] [Lets W .xl] [Lets W .pair] [Lets W .pwm] [Lets W .bat] [Lets W .adc] [Lets W .loop] [Lets W .cap] [Lets W .sl] [Lets W .saf] [Lets W .mod] [Lets W .work] [Lets W .mem] [Lets W .tap] [Lets W .freeCtr] [Lets W .out] {a0 a1} (ha1 : Keep W z a1) :
    Keep W z (State.engineWrite a0 a1) := by
  unfold State.engineWrite
  grind only [usr keep_rest, usr keep_foldl, usr keep_State_writeObject, usr keep_State_slIrq, usr keep_State_slStat, usr keep_State_slSet]
grind_pattern keep_State_engineWrite => Keep W z a1, State.engineWrite a0 a1

theorem keep_State_stationOutputs [Lets W .sl] {a0} (ha0 : Keep W z a0) :
    Keep W z (State.stationOutputs a0) := by
  unfold State.stationOutputs
  grind only [usr keep_rest, usr keep_foldl, usr keep_State_setStn, usr keep_State_slSet]
grind_pattern keep_State_stationOutputs => Keep W z a0, State.stationOutputs a0

theorem keep_State_writePoint [Lets W .objs] [Lets W .doms] [Lets W .regs] [Lets W .pw] [Lets W .tm] [Lets W .flt] [Lets W .irq] [Lets W .dsp] [Lets W .seat] [Lets W .ring] [Lets W .xl] [Lets W .pair] [Lets W .pwm] [Lets W .bat] [Lets W .adc] [Lets W .loop] [Lets W .cap] [Lets W .sl] [Lets W .saf] [Lets W .mod] [Lets W .work] [Lets W .mem] [Lets W .tap] [Lets W .freeCtr] [Lets W .out] {a0} (ha0 : Keep W z a0) :
    Keep W z (State.writePoint a0) := by
  unfold State.writePoint
  grind [keep_foldl, keep_State_engineWrite, keep_State_slSet, keep_State_driveLq, keep_State_engineMode, keep_State_stationOutputs, keep_State_grantAll, = keepE_ok, = keepE_error, = keepR_next, = keepR_fault, = keepR_refused, = keepP_mk, → keepP_snd, = keepP2_mk, → keepP2_snd, = keepP3_mk, → keepP3_snd, = keepO_some, = keepO_none, = keepO2_some, = keepO2_none]
grind_pattern keep_State_writePoint => Keep W z a0, State.writePoint a0

theorem keep_State_slCycleStart [Lets W .objs] [Lets W .doms] [Lets W .regs] [Lets W .pw] [Lets W .tm] [Lets W .flt] [Lets W .irq] [Lets W .dsp] [Lets W .seat] [Lets W .ring] [Lets W .xl] [Lets W .pair] [Lets W .pwm] [Lets W .bat] [Lets W .adc] [Lets W .loop] [Lets W .cap] [Lets W .sl] [Lets W .saf] [Lets W .mod] [Lets W .work] [Lets W .mem] [Lets W .tap] [Lets W .freeCtr] [Lets W .out] {a0 a1} (ha1 : Keep W z a1) :
    Keep W z (State.slCycleStart a0 a1) := by
  unfold State.slCycleStart
  grind [keep_foldl, keep_State_slSet, keep_State_slCommand, keep_State_slOverrun, keep_State_writePoint, keep_State_grantAll, keep_State_queueLines, keep_State_slBanks, keep_State_slIrq, keep_State_modeCommit, keep_State_dropResponses, keep_State_readPoint, keep_State_slStat, keep_State_sendStationOut, = keepE_ok, = keepE_error, = keepR_next, = keepR_fault, = keepR_refused, = keepP_mk, → keepP_snd, = keepP2_mk, → keepP2_snd, = keepP3_mk, → keepP3_snd, = keepO_some, = keepO_none, = keepO2_some, = keepO2_none]
grind_pattern keep_State_slCycleStart => Keep W z a1, State.slCycleStart a0 a1

theorem keep_execSlCycleStart [Lets W .objs] [Lets W .doms] [Lets W .regs] [Lets W .pw] [Lets W .tm] [Lets W .flt] [Lets W .irq] [Lets W .dsp] [Lets W .seat] [Lets W .ring] [Lets W .xl] [Lets W .pair] [Lets W .pwm] [Lets W .bat] [Lets W .adc] [Lets W .loop] [Lets W .cap] [Lets W .sl] [Lets W .saf] [Lets W .mod] [Lets W .work] [Lets W .mem] [Lets W .tap] [Lets W .freeCtr] [Lets W .out] {a0 a1} (ha1 : Keep W z a1) :
    KeepR W z (execSlCycleStart a0 a1) := by
  unfold execSlCycleStart
  grind only [= keepR_next, = keepR_fault, = keepR_refused, usr keep_rest, usr keep_foldl, usr keep_State_slCycleStart]
grind_pattern keep_execSlCycleStart => Keep W z a1, execSlCycleStart a0 a1

theorem keep_State_takeRequest [Lets W .objs] [Lets W .doms] [Lets W .regs] [Lets W .pw] [Lets W .tm] [Lets W .flt] [Lets W .irq] [Lets W .dsp] [Lets W .seat] [Lets W .ring] [Lets W .xl] [Lets W .pair] [Lets W .pwm] [Lets W .bat] [Lets W .adc] [Lets W .loop] [Lets W .cap] [Lets W .sl] [Lets W .saf] [Lets W .mod] [Lets W .work] [Lets W .mem] [Lets W .tap] [Lets W .freeCtr] [Lets W .out] {a0 a1} (ha1 : Keep W z a1) :
    Keep W z (State.takeRequest a0 a1) := by
  unfold State.takeRequest
  grind only [usr keep_rest, usr keep_foldl, usr keep_State_slSet]
grind_pattern keep_State_takeRequest => Keep W z a1, State.takeRequest a0 a1

theorem keep_State_takeStationOut [Lets W .objs] [Lets W .doms] [Lets W .regs] [Lets W .pw] [Lets W .tm] [Lets W .flt] [Lets W .irq] [Lets W .dsp] [Lets W .seat] [Lets W .ring] [Lets W .xl] [Lets W .pair] [Lets W .pwm] [Lets W .bat] [Lets W .adc] [Lets W .loop] [Lets W .cap] [Lets W .sl] [Lets W .saf] [Lets W .mod] [Lets W .work] [Lets W .mem] [Lets W .tap] [Lets W .freeCtr] [Lets W .out] {a0 a1 a2 a3} (ha3 : Keep W z a3) :
    Keep W z (State.takeStationOut a0 a1 a2 a3) := by
  unfold State.takeStationOut
  grind only [usr keep_rest, usr keep_foldl, usr keep_State_oset, usr keep_State_slSet, usr keep_State_takeRequest, usr keep_State_queueBg]
grind_pattern keep_State_takeStationOut => Keep W z a3, State.takeStationOut a0 a1 a2 a3

theorem keep_execStationOut [Lets W .objs] [Lets W .doms] [Lets W .regs] [Lets W .pw] [Lets W .tm] [Lets W .flt] [Lets W .irq] [Lets W .dsp] [Lets W .seat] [Lets W .ring] [Lets W .xl] [Lets W .pair] [Lets W .pwm] [Lets W .bat] [Lets W .adc] [Lets W .loop] [Lets W .cap] [Lets W .sl] [Lets W .saf] [Lets W .mod] [Lets W .work] [Lets W .mem] [Lets W .tap] [Lets W .freeCtr] [Lets W .out] {a0 a1 a2 a3} (ha3 : Keep W z a3) :
    KeepR W z (execStationOut a0 a1 a2 a3) := by
  unfold execStationOut
  grind only [= keepR_next, = keepR_fault, = keepR_refused, usr keep_rest, usr keep_foldl, keep_State_rxTyped, usr keep_State_takeStationOut]
grind_pattern keep_execStationOut => Keep W z a3, execStationOut a0 a1 a2 a3

end Sys2Proof.Laws
end

