-- ==== Sys2Proof/Laws/KeepCompOps.lean ====
section
/-! SUPPORT. What the operations of Machine/CompOps keep (see Laws/Keep). -/

set_option Elab.async false
namespace Sys2Proof.Laws
open Sys2Proof.Machine
variable {W : Part → Prop} {z : State}

theorem keep_State_bothArms {a0 a1} (ha0 : ∀ x0 x1, Keep W z x1 → Keep W z (a0 x0 x1)) (ha1 : Keep W z a1) :
    Keep W z (State.bothArms a0 a1) := by
  unfold State.bothArms
  grind only [usr keep_rest, usr keep_foldl]

theorem keep_State_cellLift [Lets W .regs] [Lets W .flt] [Lets W .irq] [Lets W .ring] [Lets W .pwm] [Lets W .bat] [Lets W .loop] [Lets W .out] {a0} (ha0 : Keep W z a0) :
    Keep W z (State.cellLift a0) := by
  unfold State.cellLift
  try dsimp only
  repeat' (first | with_reducible assumption | with_reducible exact True.intro | intro _ | with_reducible apply keep_State_withForce | with_reducible apply keep_State_setNode | with_reducible apply keep_State_release | with_reducible apply keep_State_pwmSet | with_reducible apply keep_ite | with_reducible apply keep_foldl | (simp only [keepE_ok, keepE_error, keepR_next, keepR_fault, keepR_refused, keepP_mk, keepP2_mk, keepP3_mk, keepO_some, keepO_none, keepO2_some, keepO2_none]) | split)
grind_pattern keep_State_cellLift => Keep W z a0, State.cellLift a0

theorem keep_State_cellCueStart [Lets W .objs] [Lets W .doms] [Lets W .regs] [Lets W .pw] [Lets W .tm] [Lets W .flt] [Lets W .irq] [Lets W .dsp] [Lets W .seat] [Lets W .ring] [Lets W .xl] [Lets W .pair] [Lets W .pwm] [Lets W .bat] [Lets W .adc] [Lets W .loop] [Lets W .cap] [Lets W .sl] [Lets W .saf] [Lets W .mod] [Lets W .work] [Lets W .mem] [Lets W .tap] [Lets W .freeCtr] [Lets W .out] {a0 a1 a2} (ha2 : Keep W z a2) :
    Keep W z (State.cellCueStart a0 a1 a2) := by
  unfold State.cellCueStart
  grind [keep_foldl, keep_State_unadmit, keep_State_cellLift, keep_State_cellModeStart, keep_State_setNode, keep_State_calSettle, keep_State_batCueStart, keep_State_pwmCueStart, keep_State_stationCueStart, = keepE_ok, = keepE_error, = keepR_next, = keepR_fault, = keepR_refused, = keepP_mk, → keepP_snd, = keepP2_mk, → keepP2_snd, = keepP3_mk, → keepP3_snd, = keepO_some, = keepO_none, = keepO2_some, = keepO2_none]
grind_pattern keep_State_cellCueStart => Keep W z a2, State.cellCueStart a0 a1 a2

theorem keep_State_sendPeer [Lets W .regs] [Lets W .xl] [Lets W .out] {a0} (ha0 : Keep W z a0) :
    Keep W z (State.sendPeer a0) := by
  unfold State.sendPeer
  grind only [usr keep_rest, usr keep_foldl, usr keep_State_xlSend]
grind_pattern keep_State_sendPeer => Keep W z a0, State.sendPeer a0

theorem keep_State_sendSheet [Lets W .regs] [Lets W .ring] [Lets W .xl] [Lets W .cap] [Lets W .out] {a0 a1 a2} (ha2 : Keep W z a2) :
    Keep W z (State.sendSheet a0 a1 a2) := by
  unfold State.sendSheet
  grind only [= keepP_mk, → keepP_snd, ← keep_foldlP, usr keep_rest, usr keep_foldl, usr keep_State_originate, usr keep_State_spendInj, usr keep_State_nextSeq, usr keep_State_relayDn]
grind_pattern keep_State_sendSheet => Keep W z a2, State.sendSheet a0 a1 a2

theorem keep_State_sendSheets [Lets W .regs] [Lets W .ring] [Lets W .xl] [Lets W .cap] [Lets W .out] {a0} (ha0 : Keep W z a0) :
    Keep W z (State.sendSheets a0) := by
  unfold State.sendSheets
  grind only [usr keep_rest, usr keep_foldl, usr keep_State_sendSheet]
grind_pattern keep_State_sendSheets => Keep W z a0, State.sendSheets a0

theorem keep_State_compEnd [Lets W .objs] [Lets W .doms] [Lets W .regs] [Lets W .tm] [Lets W .flt] [Lets W .irq] [Lets W .ring] [Lets W .xl] [Lets W .pair] [Lets W .pwm] [Lets W .bat] [Lets W .loop] [Lets W .cap] [Lets W .work] [Lets W .freeCtr] [Lets W .out] {a0} (ha0 : Keep W z a0) :
    Keep W z (State.compEnd a0) := by
  unfold State.compEnd
  grind [keep_foldl, keep_State_tmSet, keep_State_loopTo2, keep_State_sendPeer, keep_State_sendSheets, keep_State_bothArms, keep_State_traceRecord, keep_State_capBaseAll, keep_State_sendSlow, keep_State_sendFast, keep_State_irqPost, = keepE_ok, = keepE_error, = keepR_next, = keepR_fault, = keepR_refused, = keepP_mk, → keepP_snd, = keepP2_mk, → keepP2_snd, = keepP3_mk, → keepP3_snd, = keepO_some, = keepO_none, = keepO2_some, = keepO2_none]
grind_pattern keep_State_compEnd => Keep W z a0, State.compEnd a0

theorem keep_State_compInputs [Lets W .objs] [Lets W .doms] [Lets W .regs] [Lets W .flt] [Lets W .irq] [Lets W .ring] [Lets W .loop] [Lets W .cap] [Lets W .mod] [Lets W .work] {a0 a1} (ha1 : Keep W z a1) :
    Keep W z (State.compInputs a0 a1) := by
  unfold State.compInputs
  grind only [usr keep_rest, usr keep_foldl, usr keep_State_admitRings, usr keep_State_latchPlans, usr keep_State_removeDone, keep_State_bothArms, usr keep_State_modPrepare, usr keep_State_pipeMargins, usr keep_State_sieveRun, usr keep_State_armCurrent]
grind_pattern keep_State_compInputs => Keep W z a1, State.compInputs a0 a1

theorem keep_State_compStart [Lets W .objs] [Lets W .doms] [Lets W .regs] [Lets W .tm] [Lets W .flt] [Lets W .irq] [Lets W .ring] [Lets W .xl] [Lets W .pair] [Lets W .pwm] [Lets W .bat] [Lets W .loop] [Lets W .cap] [Lets W .saf] [Lets W .mod] [Lets W .work] [Lets W .out] {a0 a1} (ha1 : Keep W z a1) :
    Keep W z (State.compStart a0 a1) := by
  unfold State.compStart
  grind [keep_foldl, keep_State_setCutoff, keep_State_groupsNow, keep_State_loopTo0, keep_State_tmSet, keep_State_pairSet, keep_State_to8, keep_State_groupCompute, keep_State_groupSuspend, keep_State_compInputs, keep_State_bothArms, keep_State_armCompose, keep_State_ncoCompute, keep_State_liftsOfCue, keep_State_modulate, = keepE_ok, = keepE_error, = keepR_next, = keepR_fault, = keepR_refused, = keepP_mk, → keepP_snd, = keepP2_mk, → keepP2_snd, = keepP3_mk, → keepP3_snd, = keepO_some, = keepO_none, = keepO2_some, = keepO2_none]
grind_pattern keep_State_compStart => Keep W z a1, State.compStart a0 a1

theorem keep_State_cueAdvance [Lets W .tm] [Lets W .irq] {a0 a1} (ha1 : Keep W z a1) :
    Keep W z (State.cueAdvance a0 a1) := by
  unfold State.cueAdvance
  grind only [usr keep_rest, usr keep_foldl, usr keep_State_tmSet, usr keep_State_irqPost, usr keep_State_setTevt]
grind_pattern keep_State_cueAdvance => Keep W z a1, State.cueAdvance a0 a1

theorem keep_State_headGates [Lets W .pwm] [Lets W .sl] [Lets W .out] {a0} (ha0 : Keep W z a0) :
    Keep W z (State.headGates a0) := by
  unfold State.headGates
  grind only [usr keep_rest, usr keep_foldl, usr keep_State_pwmParams, usr keep_State_driveLq, usr keep_State_pwmSet]
grind_pattern keep_State_headGates => Keep W z a0, State.headGates a0

theorem keep_State_headCueStart [Lets W .objs] [Lets W .doms] [Lets W .regs] [Lets W .pw] [Lets W .tm] [Lets W .flt] [Lets W .irq] [Lets W .dsp] [Lets W .seat] [Lets W .ring] [Lets W .xl] [Lets W .pair] [Lets W .pwm] [Lets W .bat] [Lets W .adc] [Lets W .loop] [Lets W .cap] [Lets W .sl] [Lets W .saf] [Lets W .mod] [Lets W .work] [Lets W .mem] [Lets W .tap] [Lets W .freeCtr] [Lets W .out] {a0} (ha0 : Keep W z a0) :
    Keep W z (State.headCueStart a0) := by
  unfold State.headCueStart
  try dsimp only
  repeat' (first | with_reducible assumption | with_reducible exact True.intro | intro _ | with_reducible apply keep_State_healCount | with_reducible apply keep_State_headGates | with_reducible apply keep_State_setCellRec | with_reducible apply keep_State_pairCueStart | with_reducible apply keep_State_headModeStart | with_reducible apply keep_State_startEnum | with_reducible apply keep_State_slPhase | with_reducible apply keep_State_ncoCueStart | with_reducible apply keep_State_peerCueStart | with_reducible apply keep_State_xlTime | with_reducible apply keep_State_xlCueStart | with_reducible apply keep_ite | with_reducible apply keep_foldl | (simp only [keepE_ok, keepE_error, keepR_next, keepR_fault, keepR_refused, keepP_mk, keepP2_mk, keepP3_mk, keepO_some, keepO_none, keepO2_some, keepO2_none]) | split)
grind_pattern keep_State_headCueStart => Keep W z a0, State.headCueStart a0

theorem keep_State_cueBegin [Lets W .objs] [Lets W .doms] [Lets W .regs] [Lets W .pw] [Lets W .tm] [Lets W .flt] [Lets W .irq] [Lets W .dsp] [Lets W .seat] [Lets W .ring] [Lets W .xl] [Lets W .pair] [Lets W .pwm] [Lets W .bat] [Lets W .adc] [Lets W .loop] [Lets W .cap] [Lets W .sl] [Lets W .saf] [Lets W .mod] [Lets W .work] [Lets W .mem] [Lets W .tap] [Lets W .freeCtr] [Lets W .out] {a0 a1} (ha1 : Keep W z a1) :
    Keep W z (State.cueBegin a0 a1) := by
  unfold State.cueBegin
  try dsimp only
  repeat' (first | with_reducible assumption | with_reducible exact True.intro | intro _ | with_reducible apply keep_State_tmSet | with_reducible apply keep_State_pwmCueEnd | with_reducible apply keep_State_timeCueStart | with_reducible apply keep_State_cueAdvance | with_reducible apply keep_State_pumpLinks | with_reducible apply keep_State_pumpPorts | with_reducible apply keep_State_loopTo0 | with_reducible apply keep_State_cellCueStart | with_reducible apply keep_State_headCueStart | with_reducible apply keep_State_rateCheck | with_reducible apply keep_State_recoveryEnds | with_reducible apply keep_State_seqStartAll | with_reducible apply keep_ite | with_reducible apply keep_foldl | (simp only [keepE_ok, keepE_error, keepR_next, keepR_fault, keepR_refused, keepP_mk, keepP2_mk, keepP3_mk, keepO_some, keepO_none, keepO2_some, keepO2_none]) | split)
grind_pattern keep_State_cueBegin => Keep W z a1, State.cueBegin a0 a1

theorem keep_execComputationEnd [Lets W .objs] [Lets W .doms] [Lets W .regs] [Lets W .tm] [Lets W .flt] [Lets W .irq] [Lets W .ring] [Lets W .xl] [Lets W .pair] [Lets W .pwm] [Lets W .bat] [Lets W .loop] [Lets W .cap] [Lets W .work] [Lets W .freeCtr] [Lets W .out] {a0} (ha0 : Keep W z a0) :
    KeepR W z (execComputationEnd a0) := by
  unfold execComputationEnd
  grind only [= keepR_next, = keepR_fault, = keepR_refused, usr keep_rest, usr keep_foldl, usr keep_State_compEnd]
grind_pattern keep_execComputationEnd => Keep W z a0, execComputationEnd a0

theorem keep_execComputationStart [Lets W .objs] [Lets W .doms] [Lets W .regs] [Lets W .tm] [Lets W .flt] [Lets W .irq] [Lets W .ring] [Lets W .xl] [Lets W .pair] [Lets W .pwm] [Lets W .bat] [Lets W .loop] [Lets W .cap] [Lets W .saf] [Lets W .mod] [Lets W .work] [Lets W .out] {a0 a1} (ha1 : Keep W z a1) :
    KeepR W z (execComputationStart a0 a1) := by
  unfold execComputationStart
  grind only [= keepR_next, = keepR_fault, = keepR_refused, usr keep_rest, usr keep_foldl, usr keep_State_compStart]
grind_pattern keep_execComputationStart => Keep W z a1, execComputationStart a0 a1

theorem keep_execCueStart [Lets W .objs] [Lets W .doms] [Lets W .regs] [Lets W .pw] [Lets W .tm] [Lets W .flt] [Lets W .irq] [Lets W .dsp] [Lets W .seat] [Lets W .ring] [Lets W .xl] [Lets W .pair] [Lets W .pwm] [Lets W .bat] [Lets W .adc] [Lets W .loop] [Lets W .cap] [Lets W .sl] [Lets W .saf] [Lets W .mod] [Lets W .work] [Lets W .mem] [Lets W .tap] [Lets W .freeCtr] [Lets W .out] {a0 a1} (ha1 : Keep W z a1) :
    KeepR W z (execCueStart a0 a1) := by
  unfold execCueStart
  grind only [= keepR_next, = keepR_fault, = keepR_refused, usr keep_rest, usr keep_foldl, usr keep_State_cueBegin]
grind_pattern keep_execCueStart => Keep W z a1, execCueStart a0 a1

end Sys2Proof.Laws
end

