-- ==== Sys2Proof/Laws/KeepIdle.lean ====
section
/-! SUPPORT. What the operations of Machine/Idle keep (see Laws/Keep). -/

set_option Elab.async false
namespace Sys2Proof.Laws
open Sys2Proof.Machine
variable {W : Part → Prop} {z : State}

theorem keep_State_idle [Lets W .objs] [Lets W .regs] [Lets W .tm] [Lets W .flt] [Lets W .irq] [Lets W .ring] [Lets W .xl] [Lets W .pair] [Lets W .pwm] [Lets W .bat] [Lets W .loop] [Lets W .cap] [Lets W .sl] [Lets W .work] [Lets W .out] {a0} (ha0 : Keep W z a0) :
    Keep W z (State.idle a0) := by
  unfold State.idle
  grind only [usr keep_rest, usr keep_foldl, usr keep_State_slRunOne, usr keep_State_pumpLinks, usr keep_State_pumpPorts, usr keep_State_groupsNow, usr keep_State_elapse]
grind_pattern keep_State_idle => Keep W z a0, State.idle a0

end Sys2Proof.Laws
end

