-- ==== Sys2Proof/Laws/KeepPair.lean ====
section
/-! SUPPORT. What the operations of Machine/Pair keep (see Laws/Keep). -/

set_option Elab.async false
namespace Sys2Proof.Laws
open Sys2Proof.Machine
variable {W : Part → Prop} {z : State}

theorem keep_execHealthFrame [Lets W .objs] [Lets W .regs] [Lets W .flt] [Lets W .irq] [Lets W .ring] [Lets W .xl] [Lets W .pair] [Lets W .cap] [Lets W .work] [Lets W .out] {a0 a1 a2 a3} (ha3 : Keep W z a3) :
    KeepR W z (execHealthFrame a0 a1 a2 a3) := by
  unfold execHealthFrame
  grind only [= keepR_next, = keepR_fault, = keepR_refused, usr keep_rest, usr keep_foldl, keep_State_rxXlTyped, usr keep_State_takeHealth]
grind_pattern keep_execHealthFrame => Keep W z a3, execHealthFrame a0 a1 a2 a3

theorem keep_execHealthTimeout [Lets W .regs] [Lets W .flt] [Lets W .irq] [Lets W .cap] [Lets W .work] {a0} (ha0 : Keep W z a0) :
    KeepR W z (execHealthTimeout a0) := by
  unfold execHealthTimeout
  grind only [= keepR_next, = keepR_fault, = keepR_refused, usr keep_rest, usr keep_foldl, usr keep_State_raise]
grind_pattern keep_execHealthTimeout => Keep W z a0, execHealthTimeout a0

theorem keep_execLossDetected [Lets W .objs] [Lets W .doms] [Lets W .regs] [Lets W .pw] [Lets W .tm] [Lets W .flt] [Lets W .irq] [Lets W .seat] [Lets W .ring] [Lets W .xl] [Lets W .pair] [Lets W .loop] [Lets W .cap] [Lets W .sl] [Lets W .saf] [Lets W .mod] [Lets W .work] [Lets W .freeCtr] [Lets W .out] {a0} (ha0 : Keep W z a0) :
    KeepR W z (execLossDetected a0) := by
  unfold execLossDetected
  grind only [= keepR_next, = keepR_fault, = keepR_refused, usr keep_rest, usr keep_foldl, usr keep_State_lossActs]
grind_pattern keep_execLossDetected => Keep W z a0, execLossDetected a0

theorem keep_execRelDn [Lets W .objs] [Lets W .regs] [Lets W .flt] [Lets W .irq] [Lets W .ring] [Lets W .xl] [Lets W .pair] [Lets W .cap] [Lets W .work] [Lets W .out] {a0 a1 a2 a3 a4} (ha4 : Keep W z a4) :
    KeepR W z (execRelDn a0 a1 a2 a3 a4) := by
  unfold execRelDn
  grind only [= keepR_next, = keepR_fault, = keepR_refused, usr keep_rest, usr keep_foldl, keep_State_rxXlTyped, usr keep_State_relDn]
grind_pattern keep_execRelDn => Keep W z a4, execRelDn a0 a1 a2 a3 a4

theorem keep_execRelRep [Lets W .objs] [Lets W .regs] [Lets W .flt] [Lets W .irq] [Lets W .ring] [Lets W .xl] [Lets W .cap] [Lets W .work] [Lets W .out] {a0 a1 a2 a3} (ha3 : Keep W z a3) :
    KeepR W z (execRelRep a0 a1 a2 a3) := by
  unfold execRelRep
  grind only [= keepR_next, = keepR_fault, = keepR_refused, usr keep_rest, usr keep_foldl, keep_State_rxXlTyped, usr keep_State_takeReport]
grind_pattern keep_execRelRep => Keep W z a3, execRelRep a0 a1 a2 a3

theorem keep_execRelUp [Lets W .objs] [Lets W .regs] [Lets W .pw] [Lets W .flt] [Lets W .irq] [Lets W .seat] [Lets W .ring] [Lets W .xl] [Lets W .pwm] [Lets W .bat] [Lets W .loop] [Lets W .cap] [Lets W .sl] [Lets W .saf] [Lets W .work] [Lets W .mem] [Lets W .freeCtr] [Lets W .out] {a0 a1 a2 a3 a4 a5} (ha5 : Keep W z a5) :
    KeepR W z (execRelUp a0 a1 a2 a3 a4 a5) := by
  unfold execRelUp
  grind only [= keepR_next, = keepR_fault, = keepR_refused, usr keep_rest, usr keep_foldl, keep_State_rxXlTyped, usr keep_State_relUp]
grind_pattern keep_execRelUp => Keep W z a5, execRelUp a0 a1 a2 a3 a4 a5

theorem keep_execSnapFast [Lets W .objs] [Lets W .doms] [Lets W .regs] [Lets W .pw] [Lets W .tm] [Lets W .flt] [Lets W .irq] [Lets W .dsp] [Lets W .seat] [Lets W .ring] [Lets W .xl] [Lets W .pair] [Lets W .pwm] [Lets W .bat] [Lets W .adc] [Lets W .loop] [Lets W .cap] [Lets W .sl] [Lets W .saf] [Lets W .mod] [Lets W .work] [Lets W .mem] [Lets W .tap] [Lets W .freeCtr] [Lets W .out] {a0 a1 a2 a3} (ha3 : Keep W z a3) :
    KeepR W z (execSnapFast a0 a1 a2 a3) := by
  unfold execSnapFast
  grind only [= keepR_next, = keepR_fault, = keepR_refused, usr keep_rest, usr keep_foldl, keep_State_rxXlTyped, usr keep_State_snapFast]
grind_pattern keep_execSnapFast => Keep W z a3, execSnapFast a0 a1 a2 a3

theorem keep_execSnapLate [Lets W .objs] [Lets W .regs] [Lets W .flt] [Lets W .irq] [Lets W .xl] [Lets W .pair] [Lets W .cap] [Lets W .work] {a0} (ha0 : Keep W z a0) :
    KeepR W z (execSnapLate a0) := by
  unfold execSnapLate
  grind only [= keepR_next, = keepR_fault, = keepR_refused, usr keep_rest, usr keep_foldl, usr keep_State_fastLost]
grind_pattern keep_execSnapLate => Keep W z a0, execSnapLate a0

theorem keep_execSnapSlow [Lets W .objs] [Lets W .doms] [Lets W .regs] [Lets W .flt] [Lets W .irq] [Lets W .ring] [Lets W .xl] [Lets W .pair] [Lets W .cap] [Lets W .sl] [Lets W .mod] [Lets W .work] [Lets W .out] {a0 a1 a2 a3} (ha3 : Keep W z a3) :
    KeepR W z (execSnapSlow a0 a1 a2 a3) := by
  unfold execSnapSlow
  grind only [= keepR_next, = keepR_fault, = keepR_refused, usr keep_rest, usr keep_foldl, keep_State_rxXlTyped, usr keep_State_snapSlow]
grind_pattern keep_execSnapSlow => Keep W z a3, execSnapSlow a0 a1 a2 a3

theorem keep_execTakeoverCmd [Lets W .regs] [Lets W .pw] [Lets W .flt] [Lets W .irq] [Lets W .seat] [Lets W .pair] [Lets W .cap] [Lets W .work] [Lets W .out] {a0 a1} (ha1 : Keep W z a1) :
    KeepR W z (execTakeoverCmd a0 a1) := by
  unfold execTakeoverCmd
  grind only [= keepE_ok, = keepE_error, = keepR_next, = keepR_fault, = keepR_refused, usr keep_rest, usr keep_foldl, keep_State_guardedValue, usr keep_State_applyTakeover]
grind_pattern keep_execTakeoverCmd => Keep W z a1, execTakeoverCmd a0 a1

end Sys2Proof.Laws
end

