-- ==== Sys2Proof/Laws/KeepSeats.lean ====
section
/-! SUPPORT. What the operations of Machine/Seats keep (see Laws/Keep). -/

set_option Elab.async false
namespace Sys2Proof.Laws
open Sys2Proof.Machine
variable {W : Part → Prop} {z : State}

theorem keep_execArpRequest [Lets W .objs] [Lets W .out] {a0 a1 a2 a3} (ha3 : Keep W z a3) :
    KeepR W z (execArpRequest a0 a1 a2 a3) := by
  unfold execArpRequest
  grind only [= keepR_next, = keepR_fault, = keepR_refused, usr keep_rest, usr keep_foldl, usr keep_State_emit, usr keep_State_bump]
grind_pattern keep_execArpRequest => Keep W z a3, execArpRequest a0 a1 a2 a3

theorem keep_execCellObjRequest [Lets W .objs] [Lets W .doms] [Lets W .regs] [Lets W .pw] [Lets W .tm] [Lets W .flt] [Lets W .irq] [Lets W .dsp] [Lets W .seat] [Lets W .ring] [Lets W .xl] [Lets W .pair] [Lets W .pwm] [Lets W .bat] [Lets W .adc] [Lets W .loop] [Lets W .cap] [Lets W .sl] [Lets W .saf] [Lets W .mod] [Lets W .work] [Lets W .mem] [Lets W .tap] [Lets W .freeCtr] [Lets W .out] {a0 a1 a2 a3} (ha3 : Keep W z a3) :
    KeepR W z (execCellObjRequest a0 a1 a2 a3) := by
  unfold execCellObjRequest
  grind only [= keepR_next, = keepR_fault, = keepR_refused, usr keep_rest, usr keep_foldl, keep_State_rxTyped, usr keep_State_serveCell, usr keep_State_ringLog]
grind_pattern keep_execCellObjRequest => Keep W z a3, execCellObjRequest a0 a1 a2 a3

theorem keep_execCellObjResponse [Lets W .objs] [Lets W .regs] [Lets W .pw] [Lets W .flt] [Lets W .irq] [Lets W .seat] [Lets W .ring] [Lets W .xl] [Lets W .cap] [Lets W .work] [Lets W .out] {a0 a1 a2 a3} (ha3 : Keep W z a3) :
    KeepR W z (execCellObjResponse a0 a1 a2 a3) := by
  unfold execCellObjResponse
  grind only [= keepR_next, = keepR_fault, = keepR_refused, usr keep_rest, usr keep_foldl, keep_State_rxTyped, usr keep_State_objResponse, usr keep_State_ringLog]
grind_pattern keep_execCellObjResponse => Keep W z a3, execCellObjResponse a0 a1 a2 a3

theorem keep_execCellObjTimeout [Lets W .regs] [Lets W .pw] [Lets W .flt] [Lets W .irq] [Lets W .seat] [Lets W .cap] [Lets W .work] [Lets W .out] {a0 a1} (ha1 : Keep W z a1) :
    KeepR W z (execCellObjTimeout a0 a1) := by
  unfold execCellObjTimeout
  grind only [= keepR_next, = keepR_fault, = keepR_refused, usr keep_rest, usr keep_foldl, usr keep_State_cellTimeout]
grind_pattern keep_execCellObjTimeout => Keep W z a1, execCellObjTimeout a0 a1

theorem keep_execHopClose [Lets W .regs] [Lets W .flt] [Lets W .irq] [Lets W .seat] [Lets W .cap] [Lets W .work] [Lets W .out] {a0 a1 a2 a3} (ha3 : Keep W z a3) :
    KeepR W z (execHopClose a0 a1 a2 a3) := by
  unfold execHopClose
  grind only [= keepR_next, = keepR_fault, = keepR_refused, usr keep_rest, usr keep_foldl, keep_State_hopRx, usr keep_State_hopClose]
grind_pattern keep_execHopClose => Keep W z a3, execHopClose a0 a1 a2 a3

theorem keep_execHopKeepalive [Lets W .regs] [Lets W .flt] [Lets W .irq] [Lets W .seat] [Lets W .cap] [Lets W .work] [Lets W .out] {a0 a1 a2 a3} (ha3 : Keep W z a3) :
    KeepR W z (execHopKeepalive a0 a1 a2 a3) := by
  unfold execHopKeepalive
  grind only [= keepR_next, = keepR_fault, = keepR_refused, usr keep_rest, usr keep_foldl, keep_State_hopRx, usr keep_State_hopKeep]
grind_pattern keep_execHopKeepalive => Keep W z a3, execHopKeepalive a0 a1 a2 a3

theorem keep_execHopOpen [Lets W .regs] [Lets W .flt] [Lets W .irq] [Lets W .seat] [Lets W .cap] [Lets W .work] [Lets W .out] {a0 a1 a2 a3} (ha3 : Keep W z a3) :
    KeepR W z (execHopOpen a0 a1 a2 a3) := by
  unfold execHopOpen
  grind only [= keepR_next, = keepR_fault, = keepR_refused, usr keep_rest, usr keep_foldl, keep_State_hopRx, usr keep_State_hopOpen]
grind_pattern keep_execHopOpen => Keep W z a3, execHopOpen a0 a1 a2 a3

theorem keep_execHopRead [Lets W .objs] [Lets W .doms] [Lets W .regs] [Lets W .pw] [Lets W .tm] [Lets W .flt] [Lets W .irq] [Lets W .dsp] [Lets W .seat] [Lets W .ring] [Lets W .xl] [Lets W .pair] [Lets W .pwm] [Lets W .bat] [Lets W .adc] [Lets W .loop] [Lets W .cap] [Lets W .sl] [Lets W .saf] [Lets W .mod] [Lets W .work] [Lets W .mem] [Lets W .tap] [Lets W .freeCtr] [Lets W .out] {a0 a1 a2 a3} (ha3 : Keep W z a3) :
    KeepR W z (execHopRead a0 a1 a2 a3) := by
  unfold execHopRead
  grind only [= keepR_next, = keepR_fault, = keepR_refused, usr keep_rest, usr keep_foldl, keep_State_hopRx, usr keep_State_hopAccess]
grind_pattern keep_execHopRead => Keep W z a3, execHopRead a0 a1 a2 a3

theorem keep_execHopSessionTimeout [Lets W .tm] [Lets W .irq] [Lets W .seat] {a0 a1} (ha1 : Keep W z a1) :
    KeepR W z (execHopSessionTimeout a0 a1) := by
  unfold execHopSessionTimeout
  grind only [= keepR_next, = keepR_fault, = keepR_refused, usr keep_rest, usr keep_foldl, usr keep_State_sessionClose, usr keep_State_toTb2]
grind_pattern keep_execHopSessionTimeout => Keep W z a1, execHopSessionTimeout a0 a1

theorem keep_execHopStreamFlush [Lets W .objs] [Lets W .regs] [Lets W .tm] [Lets W .flt] [Lets W .irq] [Lets W .seat] [Lets W .cap] [Lets W .work] [Lets W .freeCtr] [Lets W .out] {a0 a1} (ha1 : Keep W z a1) :
    KeepR W z (execHopStreamFlush a0 a1) := by
  unfold execHopStreamFlush
  grind only [= keepR_next, = keepR_fault, = keepR_refused, usr keep_rest, usr keep_foldl, usr keep_State_streamFlush, usr keep_State_toTb2]
grind_pattern keep_execHopStreamFlush => Keep W z a1, execHopStreamFlush a0 a1

theorem keep_execHopSubscribe [Lets W .regs] [Lets W .flt] [Lets W .irq] [Lets W .seat] [Lets W .cap] [Lets W .work] [Lets W .out] {a0 a1 a2 a3} (ha3 : Keep W z a3) :
    KeepR W z (execHopSubscribe a0 a1 a2 a3) := by
  unfold execHopSubscribe
  grind only [= keepR_next, = keepR_fault, = keepR_refused, usr keep_rest, usr keep_foldl, keep_State_hopRx, usr keep_State_hopSubscribe]
grind_pattern keep_execHopSubscribe => Keep W z a3, execHopSubscribe a0 a1 a2 a3

theorem keep_execHopWrite [Lets W .objs] [Lets W .doms] [Lets W .regs] [Lets W .pw] [Lets W .tm] [Lets W .flt] [Lets W .irq] [Lets W .dsp] [Lets W .seat] [Lets W .ring] [Lets W .xl] [Lets W .pair] [Lets W .pwm] [Lets W .bat] [Lets W .adc] [Lets W .loop] [Lets W .cap] [Lets W .sl] [Lets W .saf] [Lets W .mod] [Lets W .work] [Lets W .mem] [Lets W .tap] [Lets W .freeCtr] [Lets W .out] {a0 a1 a2 a3} (ha3 : Keep W z a3) :
    KeepR W z (execHopWrite a0 a1 a2 a3) := by
  unfold execHopWrite
  grind only [= keepR_next, = keepR_fault, = keepR_refused, usr keep_rest, usr keep_foldl, keep_State_hopRx, usr keep_State_hopAccess]
grind_pattern keep_execHopWrite => Keep W z a3, execHopWrite a0 a1 a2 a3

theorem keep_execIcmpEcho [Lets W .out] {a0 a1 a2} (ha2 : Keep W z a2) :
    KeepR W z (execIcmpEcho a0 a1 a2) := by
  unfold execIcmpEcho
  grind only [= keepR_next, = keepR_fault, = keepR_refused, usr keep_rest, usr keep_foldl, usr keep_State_emit]
grind_pattern keep_execIcmpEcho => Keep W z a2, execIcmpEcho a0 a1 a2

theorem keep_execNetDroppedFrame [Lets W .objs] {a0 a1} (ha1 : Keep W z a1) :
    KeepR W z (execNetDroppedFrame a0 a1) := by
  unfold execNetDroppedFrame
  grind only [= keepR_next, = keepR_fault, = keepR_refused, usr keep_rest, usr keep_foldl, usr keep_State_bump]
grind_pattern keep_execNetDroppedFrame => Keep W z a1, execNetDroppedFrame a0 a1

theorem keep_execNetworkLinkChange [Lets W .irq] [Lets W .seat] {a0 a1 a2} (ha2 : Keep W z a2) :
    KeepR W z (execNetworkLinkChange a0 a1 a2) := by
  unfold execNetworkLinkChange
  grind only [= keepR_next, = keepR_fault, = keepR_refused, usr keep_rest, usr keep_foldl, usr keep_State_irqPost, usr keep_State_seatSet]
grind_pattern keep_execNetworkLinkChange => Keep W z a2, execNetworkLinkChange a0 a1 a2

theorem keep_execObjCmdRead [Lets W .objs] [Lets W .doms] [Lets W .regs] [Lets W .pw] [Lets W .tm] [Lets W .flt] [Lets W .irq] [Lets W .dsp] [Lets W .seat] [Lets W .ring] [Lets W .xl] [Lets W .pair] [Lets W .pwm] [Lets W .bat] [Lets W .adc] [Lets W .loop] [Lets W .cap] [Lets W .sl] [Lets W .saf] [Lets W .mod] [Lets W .work] [Lets W .mem] [Lets W .tap] [Lets W .freeCtr] [Lets W .out] {a0 a1} (ha1 : Keep W z a1) :
    KeepR W z (execObjCmdRead a0 a1) := by
  unfold execObjCmdRead
  grind only [= keepR_next, = keepR_fault, = keepR_refused, usr keep_rest, usr keep_foldl, usr keep_State_mailbox]
grind_pattern keep_execObjCmdRead => Keep W z a1, execObjCmdRead a0 a1

theorem keep_execObjCmdWrite [Lets W .objs] [Lets W .doms] [Lets W .regs] [Lets W .pw] [Lets W .tm] [Lets W .flt] [Lets W .irq] [Lets W .dsp] [Lets W .seat] [Lets W .ring] [Lets W .xl] [Lets W .pair] [Lets W .pwm] [Lets W .bat] [Lets W .adc] [Lets W .loop] [Lets W .cap] [Lets W .sl] [Lets W .saf] [Lets W .mod] [Lets W .work] [Lets W .mem] [Lets W .tap] [Lets W .freeCtr] [Lets W .out] {a0 a1} (ha1 : Keep W z a1) :
    KeepR W z (execObjCmdWrite a0 a1) := by
  unfold execObjCmdWrite
  grind only [= keepR_next, = keepR_fault, = keepR_refused, usr keep_rest, usr keep_foldl, usr keep_State_mailbox]
grind_pattern keep_execObjCmdWrite => Keep W z a1, execObjCmdWrite a0 a1

theorem keep_execObjectWrite [Lets W .objs] [Lets W .doms] [Lets W .regs] [Lets W .pw] [Lets W .tm] [Lets W .flt] [Lets W .irq] [Lets W .dsp] [Lets W .seat] [Lets W .ring] [Lets W .xl] [Lets W .pair] [Lets W .pwm] [Lets W .bat] [Lets W .adc] [Lets W .loop] [Lets W .cap] [Lets W .sl] [Lets W .saf] [Lets W .mod] [Lets W .work] [Lets W .mem] [Lets W .tap] [Lets W .freeCtr] [Lets W .out] {a0 a1 a2 a3} (ha3 : Keep W z a3) :
    KeepR W z (execObjectWrite a0 a1 a2 a3) := by
  unfold execObjectWrite
  grind only [= keepR_next, = keepR_fault, = keepR_refused, usr keep_rest, usr keep_foldl, usr keep_State_writeObject]
grind_pattern keep_execObjectWrite => Keep W z a3, execObjectWrite a0 a1 a2 a3

theorem keep_execPcieLinkReset [Lets W .irq] [Lets W .seat] {a0} (ha0 : Keep W z a0) :
    KeepR W z (execPcieLinkReset a0) := by
  unfold execPcieLinkReset
  grind only [= keepR_next, = keepR_fault, = keepR_refused, usr keep_rest, usr keep_foldl, usr keep_State_tokenLost]
grind_pattern keep_execPcieLinkReset => Keep W z a0, execPcieLinkReset a0

theorem keep_bar2Read [Lets W .objs] [Lets W .regs] [Lets W .flt] [Lets W .irq] [Lets W .cap] [Lets W .work] [Lets W .freeCtr] [Lets W .out] {a0 a1 a2} (ha2 : Keep W z a2) :
    Keep W z (bar2Read a0 a1 a2) := by
  unfold bar2Read
  extract_lets +onlyGivenNames step r
  have h : KeepP W z r := by
    refine keep_foldlP _ _ _ (fun y b h => ?_) ha2
    exact keep_State_emit (keepP2_snd _ (keep_State_stageRd h))
  split
  · exact keep_State_emit h
  · exact h
grind_pattern keep_bar2Read => Keep W z a2, bar2Read a0 a1 a2

theorem keep_execPcieRequest [Lets W .objs] [Lets W .doms] [Lets W .regs] [Lets W .pw] [Lets W .tm] [Lets W .flt] [Lets W .irq] [Lets W .dsp] [Lets W .seat] [Lets W .ring] [Lets W .xl] [Lets W .pair] [Lets W .pwm] [Lets W .bat] [Lets W .adc] [Lets W .loop] [Lets W .cap] [Lets W .sl] [Lets W .saf] [Lets W .mod] [Lets W .work] [Lets W .mem] [Lets W .tap] [Lets W .freeCtr] [Lets W .out] {a0 a1 a2 a3 a4 a5 a6 a7} (ha7 : Keep W z a7) :
    KeepR W z (execPcieRequest a0 a1 a2 a3 a4 a5 a6 a7) := by
  unfold execPcieRequest
  grind only [= keepR_next, = keepR_fault, = keepR_refused, = keepP_mk, → keepP_snd, ← keep_foldlP, usr keep_rest, usr keep_foldl, usr keep_State_emit, usr keep_State_transport, usr keep_State_regWr, usr keep_State_regRd, usr keep_bar2Read]
grind_pattern keep_execPcieRequest => Keep W z a7, execPcieRequest a0 a1 a2 a3 a4 a5 a6 a7

theorem keep_fnReset [Lets W .regs] [Lets W .irq] {a0} (ha0 : Keep W z a0) :
    Keep W z (fnReset a0) := by
  unfold fnReset
  exact keep_State_irqSet (ha0.upd rfl id id (wf_keep _ _ _) (by intro p hp; cases p <;> first | contradiction | rfl))
grind_pattern keep_fnReset => Keep W z a0, fnReset a0

theorem keep_execPerstN [Lets W .regs] [Lets W .irq] [Lets W .seat] {a0 a1} (ha1 : Keep W z a1) :
    KeepR W z (execPerstN a0 a1) := by
  unfold execPerstN
  grind only [= keepR_next, = keepR_fault, = keepR_refused, usr keep_rest, usr keep_foldl, usr keep_State_seatSet, usr keep_fnReset, usr keep_State_tokenLost]
grind_pattern keep_execPerstN => Keep W z a1, execPerstN a0 a1

theorem keep_qspiRead [Lets W .objs] [Lets W .regs] [Lets W .flt] [Lets W .irq] [Lets W .dsp] [Lets W .seat] [Lets W .adc] [Lets W .cap] [Lets W .work] [Lets W .freeCtr] [Lets W .out] {a0 a1 a2} (ha2 : Keep W z a2) :
    Keep W z (qspiRead a0 a1 a2) := by
  unfold qspiRead
  grind only [= keepP_mk, → keepP_snd, ← keep_foldlP, = keepP2_mk, → keepP2_snd, ← keep_foldlP2, usr keep_rest, usr keep_foldl, usr keep_State_stageRd, usr keep_State_emit, usr keep_State_regRd]
grind_pattern keep_qspiRead => Keep W z a2, qspiRead a0 a1 a2

theorem keep_qspiReads [Lets W .objs] [Lets W .regs] [Lets W .flt] [Lets W .irq] [Lets W .dsp] [Lets W .seat] [Lets W .adc] [Lets W .cap] [Lets W .work] [Lets W .freeCtr] [Lets W .out] {a0 a1 a2 a3} (ha3 : Keep W z a3) :
    Keep W z (qspiReads a0 a1 a2 a3) := by
  unfold qspiReads
  grind only [usr keep_rest, usr keep_foldl, usr keep_qspiRead]
grind_pattern keep_qspiReads => Keep W z a3, qspiReads a0 a1 a2 a3

theorem keep_qspiWrites [Lets W .objs] [Lets W .doms] [Lets W .regs] [Lets W .pw] [Lets W .tm] [Lets W .flt] [Lets W .irq] [Lets W .dsp] [Lets W .seat] [Lets W .ring] [Lets W .xl] [Lets W .pair] [Lets W .pwm] [Lets W .bat] [Lets W .adc] [Lets W .loop] [Lets W .cap] [Lets W .sl] [Lets W .saf] [Lets W .mod] [Lets W .work] [Lets W .mem] [Lets W .tap] [Lets W .freeCtr] [Lets W .out] {a0 a1 a2 a3} (ha3 : Keep W z a3) :
    Keep W z (qspiWrites a0 a1 a2 a3) := by
  unfold qspiWrites
  refine keepP_snd _ (keep_foldlP _ _ _ (fun y b h => ?_) ha3)
  exact keep_State_regWr h
grind_pattern keep_qspiWrites => Keep W z a3, qspiWrites a0 a1 a2 a3

theorem keep_execQspiCut [Lets W .objs] [Lets W .doms] [Lets W .regs] [Lets W .pw] [Lets W .tm] [Lets W .flt] [Lets W .irq] [Lets W .dsp] [Lets W .seat] [Lets W .ring] [Lets W .xl] [Lets W .pair] [Lets W .pwm] [Lets W .bat] [Lets W .adc] [Lets W .loop] [Lets W .cap] [Lets W .sl] [Lets W .saf] [Lets W .mod] [Lets W .work] [Lets W .mem] [Lets W .tap] [Lets W .freeCtr] [Lets W .out] {a0 a1 a2 a3 a4 a5} (ha5 : Keep W z a5) :
    KeepR W z (execQspiCut a0 a1 a2 a3 a4 a5) := by
  unfold execQspiCut
  grind only [= keepR_next, = keepR_fault, = keepR_refused, usr keep_rest, usr keep_foldl, usr keep_qspiReads, usr keep_qspiWrites, usr keep_State_transport]
grind_pattern keep_execQspiCut => Keep W z a5, execQspiCut a0 a1 a2 a3 a4 a5

theorem keep_execQspiRead [Lets W .objs] [Lets W .regs] [Lets W .flt] [Lets W .irq] [Lets W .dsp] [Lets W .seat] [Lets W .adc] [Lets W .cap] [Lets W .work] [Lets W .freeCtr] [Lets W .out] {a0 a1 a2 a3} (ha3 : Keep W z a3) :
    KeepR W z (execQspiRead a0 a1 a2 a3) := by
  unfold execQspiRead
  grind only [= keepR_next, = keepR_fault, = keepR_refused, usr keep_rest, usr keep_foldl, usr keep_State_transport, usr keep_qspiReads]
grind_pattern keep_execQspiRead => Keep W z a3, execQspiRead a0 a1 a2 a3

theorem keep_execQspiStatus [Lets W .seat] [Lets W .out] {a0 a1} (ha1 : Keep W z a1) :
    KeepR W z (execQspiStatus a0 a1) := by
  unfold execQspiStatus
  grind only [= keepR_next, = keepR_fault, = keepR_refused, usr keep_rest, usr keep_foldl, usr keep_State_emit, usr keep_State_seatSet]
grind_pattern keep_execQspiStatus => Keep W z a1, execQspiStatus a0 a1

theorem keep_execQspiUnknown [Lets W .regs] [Lets W .flt] [Lets W .irq] [Lets W .seat] [Lets W .cap] [Lets W .work] {a0 a1 a2} (ha2 : Keep W z a2) :
    KeepR W z (execQspiUnknown a0 a1 a2) := by
  unfold execQspiUnknown
  grind only [= keepR_next, = keepR_fault, = keepR_refused, usr keep_rest, usr keep_foldl, usr keep_State_transport]
grind_pattern keep_execQspiUnknown => Keep W z a2, execQspiUnknown a0 a1 a2

theorem keep_execQspiWrite [Lets W .objs] [Lets W .doms] [Lets W .regs] [Lets W .pw] [Lets W .tm] [Lets W .flt] [Lets W .irq] [Lets W .dsp] [Lets W .seat] [Lets W .ring] [Lets W .xl] [Lets W .pair] [Lets W .pwm] [Lets W .bat] [Lets W .adc] [Lets W .loop] [Lets W .cap] [Lets W .sl] [Lets W .saf] [Lets W .mod] [Lets W .work] [Lets W .mem] [Lets W .tap] [Lets W .freeCtr] [Lets W .out] {a0 a1 a2 a3} (ha3 : Keep W z a3) :
    KeepR W z (execQspiWrite a0 a1 a2 a3) := by
  unfold execQspiWrite
  grind only [= keepR_next, = keepR_fault, = keepR_refused, usr keep_rest, usr keep_foldl, usr keep_State_transport, usr keep_qspiWrites]
grind_pattern keep_execQspiWrite => Keep W z a3, execQspiWrite a0 a1 a2 a3

theorem keep_execRegisterWrite [Lets W .objs] [Lets W .doms] [Lets W .regs] [Lets W .pw] [Lets W .tm] [Lets W .flt] [Lets W .irq] [Lets W .dsp] [Lets W .seat] [Lets W .ring] [Lets W .xl] [Lets W .pair] [Lets W .pwm] [Lets W .bat] [Lets W .adc] [Lets W .loop] [Lets W .cap] [Lets W .sl] [Lets W .saf] [Lets W .mod] [Lets W .work] [Lets W .mem] [Lets W .tap] [Lets W .freeCtr] [Lets W .out] {a0 a1 a2 a3 a4} (ha4 : Keep W z a4) :
    KeepR W z (execRegisterWrite a0 a1 a2 a3 a4) := by
  unfold execRegisterWrite
  grind only [= keepR_next, = keepR_fault, = keepR_refused, usr keep_rest, usr keep_foldl, usr keep_State_regWr]
grind_pattern keep_execRegisterWrite => Keep W z a4, execRegisterWrite a0 a1 a2 a3 a4

theorem keep_execSeatVlogCmdClear [Lets W .regs] [Lets W .pw] [Lets W .flt] [Lets W .irq] [Lets W .seat] [Lets W .pair] [Lets W .cap] [Lets W .work] [Lets W .out] {a0 a1} (ha1 : Keep W z a1) :
    KeepR W z (execSeatVlogCmdClear a0 a1) := by
  unfold execSeatVlogCmdClear
  grind only [= keepE_ok, = keepE_error, = keepR_next, = keepR_fault, = keepR_refused, usr keep_rest, usr keep_foldl, keep_State_guardedValue, usr keep_State_applySeatVlogCmd]
grind_pattern keep_execSeatVlogCmdClear => Keep W z a1, execSeatVlogCmdClear a0 a1

theorem keep_execStoreCmdDefaults [Lets W .objs] [Lets W .doms] [Lets W .regs] [Lets W .pw] [Lets W .tm] [Lets W .flt] [Lets W .irq] [Lets W .dsp] [Lets W .seat] [Lets W .ring] [Lets W .xl] [Lets W .pair] [Lets W .pwm] [Lets W .bat] [Lets W .adc] [Lets W .loop] [Lets W .cap] [Lets W .sl] [Lets W .saf] [Lets W .mod] [Lets W .work] [Lets W .mem] [Lets W .tap] [Lets W .freeCtr] [Lets W .out] {a0 a1} (ha1 : Keep W z a1) :
    KeepR W z (execStoreCmdDefaults a0 a1) := by
  unfold execStoreCmdDefaults
  grind only [= keepR_next, = keepR_fault, = keepR_refused, usr keep_rest, usr keep_foldl, usr keep_State_writeObject]
grind_pattern keep_execStoreCmdDefaults => Keep W z a1, execStoreCmdDefaults a0 a1

theorem keep_execStoreCmdReload [Lets W .objs] [Lets W .doms] [Lets W .regs] [Lets W .pw] [Lets W .tm] [Lets W .flt] [Lets W .irq] [Lets W .dsp] [Lets W .seat] [Lets W .ring] [Lets W .xl] [Lets W .pair] [Lets W .pwm] [Lets W .bat] [Lets W .adc] [Lets W .loop] [Lets W .cap] [Lets W .sl] [Lets W .saf] [Lets W .mod] [Lets W .work] [Lets W .mem] [Lets W .tap] [Lets W .freeCtr] [Lets W .out] {a0 a1} (ha1 : Keep W z a1) :
    KeepR W z (execStoreCmdReload a0 a1) := by
  unfold execStoreCmdReload
  grind only [= keepR_next, = keepR_fault, = keepR_refused, usr keep_rest, usr keep_foldl, usr keep_State_writeObject]
grind_pattern keep_execStoreCmdReload => Keep W z a1, execStoreCmdReload a0 a1

theorem keep_execStoreCmdStore [Lets W .objs] [Lets W .doms] [Lets W .regs] [Lets W .pw] [Lets W .tm] [Lets W .flt] [Lets W .irq] [Lets W .dsp] [Lets W .seat] [Lets W .ring] [Lets W .xl] [Lets W .pair] [Lets W .pwm] [Lets W .bat] [Lets W .adc] [Lets W .loop] [Lets W .cap] [Lets W .sl] [Lets W .saf] [Lets W .mod] [Lets W .work] [Lets W .mem] [Lets W .tap] [Lets W .freeCtr] [Lets W .out] {a0 a1} (ha1 : Keep W z a1) :
    KeepR W z (execStoreCmdStore a0 a1) := by
  unfold execStoreCmdStore
  grind only [= keepR_next, = keepR_fault, = keepR_refused, usr keep_rest, usr keep_foldl, usr keep_State_writeObject]
grind_pattern keep_execStoreCmdStore => Keep W z a1, execStoreCmdStore a0 a1

theorem keep_execStoreDone [Lets W .objs] [Lets W .regs] [Lets W .pw] [Lets W .flt] [Lets W .irq] [Lets W .seat] [Lets W .cap] [Lets W .work] [Lets W .mem] {a0 a1} (ha1 : Keep W z a1) :
    KeepR W z (execStoreDone a0 a1) := by
  unfold execStoreDone
  grind only [= keepR_next, = keepR_fault, = keepR_refused, usr keep_rest, usr keep_foldl, usr keep_State_storeEnd]
grind_pattern keep_execStoreDone => Keep W z a1, execStoreDone a0 a1

theorem keep_tokenVia [Lets W .objs] [Lets W .doms] [Lets W .regs] [Lets W .pw] [Lets W .tm] [Lets W .flt] [Lets W .irq] [Lets W .dsp] [Lets W .seat] [Lets W .ring] [Lets W .xl] [Lets W .pair] [Lets W .pwm] [Lets W .bat] [Lets W .adc] [Lets W .loop] [Lets W .cap] [Lets W .sl] [Lets W .saf] [Lets W .mod] [Lets W .work] [Lets W .mem] [Lets W .tap] [Lets W .freeCtr] [Lets W .out] {a0 a1 a2} (ha2 : Keep W z a2) :
    Keep W z (tokenVia a0 a1 a2) := by
  unfold tokenVia
  grind only [= keepE_ok, = keepE_error, usr keep_rest, usr keep_foldl, keep_State_guardedValue, usr keep_State_applyTokenCmd, usr keep_State_regWr]
grind_pattern keep_tokenVia => Keep W z a2, tokenVia a0 a1 a2

theorem keep_execTokenForceCmd [Lets W .objs] [Lets W .doms] [Lets W .regs] [Lets W .pw] [Lets W .tm] [Lets W .flt] [Lets W .irq] [Lets W .dsp] [Lets W .seat] [Lets W .ring] [Lets W .xl] [Lets W .pair] [Lets W .pwm] [Lets W .bat] [Lets W .adc] [Lets W .loop] [Lets W .cap] [Lets W .sl] [Lets W .saf] [Lets W .mod] [Lets W .work] [Lets W .mem] [Lets W .tap] [Lets W .freeCtr] [Lets W .out] {a0 a1} (ha1 : Keep W z a1) :
    KeepR W z (execTokenForceCmd a0 a1) := by
  unfold execTokenForceCmd
  grind only [= keepR_next, = keepR_fault, = keepR_refused, usr keep_rest, usr keep_foldl, usr keep_tokenVia]
grind_pattern keep_execTokenForceCmd => Keep W z a1, execTokenForceCmd a0 a1

theorem keep_execTokenLeaseExpiry [Lets W .tm] [Lets W .irq] [Lets W .seat] {a0} (ha0 : Keep W z a0) :
    KeepR W z (execTokenLeaseExpiry a0) := by
  unfold execTokenLeaseExpiry
  grind only [= keepR_next, = keepR_fault, = keepR_refused, usr keep_rest, usr keep_foldl, usr keep_State_tokenExpire]
grind_pattern keep_execTokenLeaseExpiry => Keep W z a0, execTokenLeaseExpiry a0

theorem keep_execTokenRelease [Lets W .objs] [Lets W .doms] [Lets W .regs] [Lets W .pw] [Lets W .tm] [Lets W .flt] [Lets W .irq] [Lets W .dsp] [Lets W .seat] [Lets W .ring] [Lets W .xl] [Lets W .pair] [Lets W .pwm] [Lets W .bat] [Lets W .adc] [Lets W .loop] [Lets W .cap] [Lets W .sl] [Lets W .saf] [Lets W .mod] [Lets W .work] [Lets W .mem] [Lets W .tap] [Lets W .freeCtr] [Lets W .out] {a0 a1} (ha1 : Keep W z a1) :
    KeepR W z (execTokenRelease a0 a1) := by
  unfold execTokenRelease
  grind only [= keepR_next, = keepR_fault, = keepR_refused, usr keep_rest, usr keep_foldl, usr keep_tokenVia]
grind_pattern keep_execTokenRelease => Keep W z a1, execTokenRelease a0 a1

theorem keep_execTokenRenew [Lets W .objs] [Lets W .doms] [Lets W .regs] [Lets W .pw] [Lets W .tm] [Lets W .flt] [Lets W .irq] [Lets W .dsp] [Lets W .seat] [Lets W .ring] [Lets W .xl] [Lets W .pair] [Lets W .pwm] [Lets W .bat] [Lets W .adc] [Lets W .loop] [Lets W .cap] [Lets W .sl] [Lets W .saf] [Lets W .mod] [Lets W .work] [Lets W .mem] [Lets W .tap] [Lets W .freeCtr] [Lets W .out] {a0 a1} (ha1 : Keep W z a1) :
    KeepR W z (execTokenRenew a0 a1) := by
  unfold execTokenRenew
  grind only [= keepR_next, = keepR_fault, = keepR_refused, usr keep_rest, usr keep_foldl, usr keep_tokenVia]
grind_pattern keep_execTokenRenew => Keep W z a1, execTokenRenew a0 a1

theorem keep_execTokenRequest [Lets W .objs] [Lets W .doms] [Lets W .regs] [Lets W .pw] [Lets W .tm] [Lets W .flt] [Lets W .irq] [Lets W .dsp] [Lets W .seat] [Lets W .ring] [Lets W .xl] [Lets W .pair] [Lets W .pwm] [Lets W .bat] [Lets W .adc] [Lets W .loop] [Lets W .cap] [Lets W .sl] [Lets W .saf] [Lets W .mod] [Lets W .work] [Lets W .mem] [Lets W .tap] [Lets W .freeCtr] [Lets W .out] {a0 a1} (ha1 : Keep W z a1) :
    KeepR W z (execTokenRequest a0 a1) := by
  unfold execTokenRequest
  grind only [= keepR_next, = keepR_fault, = keepR_refused, usr keep_rest, usr keep_foldl, usr keep_tokenVia]
grind_pattern keep_execTokenRequest => Keep W z a1, execTokenRequest a0 a1

theorem keep_execTokenWithdraw [Lets W .objs] [Lets W .doms] [Lets W .regs] [Lets W .pw] [Lets W .tm] [Lets W .flt] [Lets W .irq] [Lets W .dsp] [Lets W .seat] [Lets W .ring] [Lets W .xl] [Lets W .pair] [Lets W .pwm] [Lets W .bat] [Lets W .adc] [Lets W .loop] [Lets W .cap] [Lets W .sl] [Lets W .saf] [Lets W .mod] [Lets W .work] [Lets W .mem] [Lets W .tap] [Lets W .freeCtr] [Lets W .out] {a0 a1} (ha1 : Keep W z a1) :
    KeepR W z (execTokenWithdraw a0 a1) := by
  unfold execTokenWithdraw
  grind only [= keepR_next, = keepR_fault, = keepR_refused, usr keep_rest, usr keep_foldl, usr keep_tokenVia]
grind_pattern keep_execTokenWithdraw => Keep W z a1, execTokenWithdraw a0 a1

end Sys2Proof.Laws
end

