-- ==== Sys2Proof/Laws/KeepSl.lean ====
section
/-! SUPPORT. What the operations of Machine/Sl keep (see Laws/Keep). -/

set_option Elab.async false
namespace Sys2Proof.Laws
open Sys2Proof.Machine
variable {W : Part → Prop} {z : State}

theorem keep_execForceTableWrite [Lets W .doms] [Lets W .regs] [Lets W .pw] [Lets W .flt] [Lets W .irq] [Lets W .seat] [Lets W .pair] [Lets W .cap] [Lets W .sl] [Lets W .work] [Lets W .out] {a0 a1 a2} (ha2 : Keep W z a2) :
    KeepR W z (execForceTableWrite a0 a1 a2) := by
  unfold execForceTableWrite
  grind only [= keepE_ok, = keepE_error, = keepR_next, = keepR_fault, = keepR_refused, usr keep_rest, usr keep_foldl, keep_State_guardedWrite, usr keep_State_applyForceTable]
grind_pattern keep_execForceTableWrite => Keep W z a2, execForceTableWrite a0 a1 a2

theorem keep_execModeReqWrite [Lets W .doms] [Lets W .regs] [Lets W .pw] [Lets W .flt] [Lets W .irq] [Lets W .seat] [Lets W .pair] [Lets W .cap] [Lets W .sl] [Lets W .work] [Lets W .out] {a0 a1 a2} (ha2 : Keep W z a2) :
    KeepR W z (execModeReqWrite a0 a1 a2) := by
  unfold execModeReqWrite
  grind only [= keepE_ok, = keepE_error, = keepR_next, = keepR_fault, = keepR_refused, usr keep_rest, usr keep_foldl, keep_State_guardedWrite, usr keep_State_applyModeReq]
grind_pattern keep_execModeReqWrite => Keep W z a2, execModeReqWrite a0 a1 a2

theorem keep_execSlAdd [Lets W .objs] [Lets W .regs] [Lets W .tm] [Lets W .flt] [Lets W .irq] [Lets W .pair] [Lets W .pwm] [Lets W .bat] [Lets W .loop] [Lets W .cap] [Lets W .sl] [Lets W .work] {a0 a1 a2} (ha2 : Keep W z a2) :
    KeepR W z (execSlAdd a0 a1 a2) := by
  unfold execSlAdd
  grind only [= keepR_next, = keepR_fault, = keepR_refused, usr keep_rest, usr keep_foldl, usr keep_State_slOp]
grind_pattern keep_execSlAdd => Keep W z a2, execSlAdd a0 a1 a2

theorem keep_execSlAndb [Lets W .objs] [Lets W .regs] [Lets W .tm] [Lets W .flt] [Lets W .irq] [Lets W .pair] [Lets W .pwm] [Lets W .bat] [Lets W .loop] [Lets W .cap] [Lets W .sl] [Lets W .work] {a0 a1 a2} (ha2 : Keep W z a2) :
    KeepR W z (execSlAndb a0 a1 a2) := by
  unfold execSlAndb
  grind only [= keepR_next, = keepR_fault, = keepR_refused, usr keep_rest, usr keep_foldl, usr keep_State_slOp]
grind_pattern keep_execSlAndb => Keep W z a2, execSlAndb a0 a1 a2

theorem keep_execSlAndnb [Lets W .objs] [Lets W .regs] [Lets W .tm] [Lets W .flt] [Lets W .irq] [Lets W .pair] [Lets W .pwm] [Lets W .bat] [Lets W .loop] [Lets W .cap] [Lets W .sl] [Lets W .work] {a0 a1 a2} (ha2 : Keep W z a2) :
    KeepR W z (execSlAndnb a0 a1 a2) := by
  unfold execSlAndnb
  grind only [= keepR_next, = keepR_fault, = keepR_refused, usr keep_rest, usr keep_foldl, usr keep_State_slOp]
grind_pattern keep_execSlAndnb => Keep W z a2, execSlAndnb a0 a1 a2

theorem keep_execSlChange [Lets W .regs] [Lets W .pw] [Lets W .flt] [Lets W .irq] [Lets W .seat] [Lets W .pair] [Lets W .cap] [Lets W .sl] [Lets W .work] [Lets W .out] {a0 a1} (ha1 : Keep W z a1) :
    KeepR W z (execSlChange a0 a1) := by
  unfold execSlChange
  grind only [= keepE_ok, = keepE_error, = keepR_next, = keepR_fault, = keepR_refused, usr keep_rest, usr keep_foldl, keep_State_guardedValue, usr keep_State_applySlChange]
grind_pattern keep_execSlChange => Keep W z a1, execSlChange a0 a1

theorem keep_execSlChangeClearForces [Lets W .regs] [Lets W .pw] [Lets W .flt] [Lets W .irq] [Lets W .seat] [Lets W .pair] [Lets W .cap] [Lets W .sl] [Lets W .work] [Lets W .out] {a0 a1} (ha1 : Keep W z a1) :
    KeepR W z (execSlChangeClearForces a0 a1) := by
  unfold execSlChangeClearForces
  grind only [= keepE_ok, = keepE_error, = keepR_next, = keepR_fault, = keepR_refused, usr keep_rest, usr keep_foldl, keep_State_guardedValue, usr keep_State_applySlChange]
grind_pattern keep_execSlChangeClearForces => Keep W z a1, execSlChangeClearForces a0 a1

theorem keep_execSlCmdRevert [Lets W .doms] [Lets W .regs] [Lets W .pw] [Lets W .flt] [Lets W .irq] [Lets W .seat] [Lets W .pair] [Lets W .cap] [Lets W .sl] [Lets W .work] [Lets W .out] {a0 a1} (ha1 : Keep W z a1) :
    KeepR W z (execSlCmdRevert a0 a1) := by
  unfold execSlCmdRevert
  grind only [= keepE_ok, = keepE_error, = keepR_next, = keepR_fault, = keepR_refused, usr keep_rest, usr keep_foldl, keep_State_guardedValue, usr keep_State_applySlCmd]
grind_pattern keep_execSlCmdRevert => Keep W z a1, execSlCmdRevert a0 a1

theorem keep_execSlCmdRun [Lets W .doms] [Lets W .regs] [Lets W .pw] [Lets W .flt] [Lets W .irq] [Lets W .seat] [Lets W .pair] [Lets W .cap] [Lets W .sl] [Lets W .work] [Lets W .out] {a0 a1} (ha1 : Keep W z a1) :
    KeepR W z (execSlCmdRun a0 a1) := by
  unfold execSlCmdRun
  grind only [= keepE_ok, = keepE_error, = keepR_next, = keepR_fault, = keepR_refused, usr keep_rest, usr keep_foldl, keep_State_guardedValue, usr keep_State_applySlCmd]
grind_pattern keep_execSlCmdRun => Keep W z a1, execSlCmdRun a0 a1

theorem keep_execSlCmdStop [Lets W .doms] [Lets W .regs] [Lets W .pw] [Lets W .flt] [Lets W .irq] [Lets W .seat] [Lets W .pair] [Lets W .cap] [Lets W .sl] [Lets W .work] [Lets W .out] {a0 a1} (ha1 : Keep W z a1) :
    KeepR W z (execSlCmdStop a0 a1) := by
  unfold execSlCmdStop
  grind only [= keepE_ok, = keepE_error, = keepR_next, = keepR_fault, = keepR_refused, usr keep_rest, usr keep_foldl, keep_State_guardedValue, usr keep_State_applySlCmd]
grind_pattern keep_execSlCmdStop => Keep W z a1, execSlCmdStop a0 a1

theorem keep_execSlCmpeq [Lets W .objs] [Lets W .regs] [Lets W .tm] [Lets W .flt] [Lets W .irq] [Lets W .pair] [Lets W .pwm] [Lets W .bat] [Lets W .loop] [Lets W .cap] [Lets W .sl] [Lets W .work] {a0 a1 a2} (ha2 : Keep W z a2) :
    KeepR W z (execSlCmpeq a0 a1 a2) := by
  unfold execSlCmpeq
  grind only [= keepR_next, = keepR_fault, = keepR_refused, usr keep_rest, usr keep_foldl, usr keep_State_slOp]
grind_pattern keep_execSlCmpeq => Keep W z a2, execSlCmpeq a0 a1 a2

theorem keep_execSlCmpgt [Lets W .objs] [Lets W .regs] [Lets W .tm] [Lets W .flt] [Lets W .irq] [Lets W .pair] [Lets W .pwm] [Lets W .bat] [Lets W .loop] [Lets W .cap] [Lets W .sl] [Lets W .work] {a0 a1 a2} (ha2 : Keep W z a2) :
    KeepR W z (execSlCmpgt a0 a1 a2) := by
  unfold execSlCmpgt
  grind only [= keepR_next, = keepR_fault, = keepR_refused, usr keep_rest, usr keep_foldl, usr keep_State_slOp]
grind_pattern keep_execSlCmpgt => Keep W z a2, execSlCmpgt a0 a1 a2

theorem keep_execSlCmplt [Lets W .objs] [Lets W .regs] [Lets W .tm] [Lets W .flt] [Lets W .irq] [Lets W .pair] [Lets W .pwm] [Lets W .bat] [Lets W .loop] [Lets W .cap] [Lets W .sl] [Lets W .work] {a0 a1 a2} (ha2 : Keep W z a2) :
    KeepR W z (execSlCmplt a0 a1 a2) := by
  unfold execSlCmplt
  grind only [= keepR_next, = keepR_fault, = keepR_refused, usr keep_rest, usr keep_foldl, usr keep_State_slOp]
grind_pattern keep_execSlCmplt => Keep W z a2, execSlCmplt a0 a1 a2

theorem keep_execSlCuesWrite [Lets W .objs] [Lets W .regs] [Lets W .pw] [Lets W .flt] [Lets W .irq] [Lets W .seat] [Lets W .pair] [Lets W .cap] [Lets W .sl] [Lets W .work] [Lets W .out] {a0 a1 a2} (ha2 : Keep W z a2) :
    KeepR W z (execSlCuesWrite a0 a1 a2) := by
  unfold execSlCuesWrite
  grind only [= keepE_ok, = keepE_error, = keepR_next, = keepR_fault, = keepR_refused, usr keep_rest, usr keep_foldl, keep_State_guardedValue, usr keep_State_applySlCues]
grind_pattern keep_execSlCuesWrite => Keep W z a2, execSlCuesWrite a0 a1 a2

theorem keep_execSlEnd [Lets W .objs] [Lets W .regs] [Lets W .tm] [Lets W .flt] [Lets W .irq] [Lets W .pair] [Lets W .pwm] [Lets W .bat] [Lets W .loop] [Lets W .cap] [Lets W .sl] [Lets W .work] {a0} (ha0 : Keep W z a0) :
    KeepR W z (execSlEnd a0) := by
  unfold execSlEnd
  grind only [= keepR_next, = keepR_fault, = keepR_refused, usr keep_rest, usr keep_foldl, usr keep_State_slOp]
grind_pattern keep_execSlEnd => Keep W z a0, execSlEnd a0

theorem keep_execSlFix [Lets W .objs] [Lets W .regs] [Lets W .tm] [Lets W .flt] [Lets W .irq] [Lets W .pair] [Lets W .pwm] [Lets W .bat] [Lets W .loop] [Lets W .cap] [Lets W .sl] [Lets W .work] {a0 a1 a2} (ha2 : Keep W z a2) :
    KeepR W z (execSlFix a0 a1 a2) := by
  unfold execSlFix
  grind only [= keepR_next, = keepR_fault, = keepR_refused, usr keep_rest, usr keep_foldl, usr keep_State_slOp]
grind_pattern keep_execSlFix => Keep W z a2, execSlFix a0 a1 a2

theorem keep_execSlJmp [Lets W .objs] [Lets W .regs] [Lets W .tm] [Lets W .flt] [Lets W .irq] [Lets W .pair] [Lets W .pwm] [Lets W .bat] [Lets W .loop] [Lets W .cap] [Lets W .sl] [Lets W .work] {a0 a1} (ha1 : Keep W z a1) :
    KeepR W z (execSlJmp a0 a1) := by
  unfold execSlJmp
  grind only [= keepR_next, = keepR_fault, = keepR_refused, usr keep_rest, usr keep_foldl, usr keep_State_slOp]
grind_pattern keep_execSlJmp => Keep W z a1, execSlJmp a0 a1

theorem keep_execSlJmpc [Lets W .objs] [Lets W .regs] [Lets W .tm] [Lets W .flt] [Lets W .irq] [Lets W .pair] [Lets W .pwm] [Lets W .bat] [Lets W .loop] [Lets W .cap] [Lets W .sl] [Lets W .work] {a0 a1} (ha1 : Keep W z a1) :
    KeepR W z (execSlJmpc a0 a1) := by
  unfold execSlJmpc
  grind only [= keepR_next, = keepR_fault, = keepR_refused, usr keep_rest, usr keep_foldl, usr keep_State_slOp]
grind_pattern keep_execSlJmpc => Keep W z a1, execSlJmpc a0 a1

theorem keep_execSlJmpn [Lets W .objs] [Lets W .regs] [Lets W .tm] [Lets W .flt] [Lets W .irq] [Lets W .pair] [Lets W .pwm] [Lets W .bat] [Lets W .loop] [Lets W .cap] [Lets W .sl] [Lets W .work] {a0 a1} (ha1 : Keep W z a1) :
    KeepR W z (execSlJmpn a0 a1) := by
  unfold execSlJmpn
  grind only [= keepR_next, = keepR_fault, = keepR_refused, usr keep_rest, usr keep_foldl, usr keep_State_slOp]
grind_pattern keep_execSlJmpn => Keep W z a1, execSlJmpn a0 a1

theorem keep_execSlLd [Lets W .objs] [Lets W .regs] [Lets W .tm] [Lets W .flt] [Lets W .irq] [Lets W .pair] [Lets W .pwm] [Lets W .bat] [Lets W .loop] [Lets W .cap] [Lets W .sl] [Lets W .work] {a0 a1 a2} (ha2 : Keep W z a2) :
    KeepR W z (execSlLd a0 a1 a2) := by
  unfold execSlLd
  grind only [= keepR_next, = keepR_fault, = keepR_refused, usr keep_rest, usr keep_foldl, usr keep_State_slOp]
grind_pattern keep_execSlLd => Keep W z a2, execSlLd a0 a1 a2

theorem keep_execSlLdb [Lets W .objs] [Lets W .regs] [Lets W .tm] [Lets W .flt] [Lets W .irq] [Lets W .pair] [Lets W .pwm] [Lets W .bat] [Lets W .loop] [Lets W .cap] [Lets W .sl] [Lets W .work] {a0 a1 a2} (ha2 : Keep W z a2) :
    KeepR W z (execSlLdb a0 a1 a2) := by
  unfold execSlLdb
  grind only [= keepR_next, = keepR_fault, = keepR_refused, usr keep_rest, usr keep_foldl, usr keep_State_slOp]
grind_pattern keep_execSlLdb => Keep W z a2, execSlLdb a0 a1 a2

theorem keep_execSlLdnb [Lets W .objs] [Lets W .regs] [Lets W .tm] [Lets W .flt] [Lets W .irq] [Lets W .pair] [Lets W .pwm] [Lets W .bat] [Lets W .loop] [Lets W .cap] [Lets W .sl] [Lets W .work] {a0 a1 a2} (ha2 : Keep W z a2) :
    KeepR W z (execSlLdnb a0 a1 a2) := by
  unfold execSlLdnb
  grind only [= keepR_next, = keepR_fault, = keepR_refused, usr keep_rest, usr keep_foldl, usr keep_State_slOp]
grind_pattern keep_execSlLdnb => Keep W z a2, execSlLdnb a0 a1 a2

theorem keep_execSlLoadWrite [Lets W .regs] [Lets W .pw] [Lets W .flt] [Lets W .irq] [Lets W .seat] [Lets W .pair] [Lets W .cap] [Lets W .sl] [Lets W .work] [Lets W .out] {a0 a1 a2} (ha2 : Keep W z a2) :
    KeepR W z (execSlLoadWrite a0 a1 a2) := by
  unfold execSlLoadWrite
  grind only [= keepE_ok, = keepE_error, = keepR_next, = keepR_fault, = keepR_refused, usr keep_rest, usr keep_foldl, keep_State_guardedWrite, usr keep_State_applySlLoad]
grind_pattern keep_execSlLoadWrite => Keep W z a2, execSlLoadWrite a0 a1 a2

theorem keep_execSlMode [Lets W .objs] [Lets W .regs] [Lets W .tm] [Lets W .flt] [Lets W .irq] [Lets W .pair] [Lets W .pwm] [Lets W .bat] [Lets W .loop] [Lets W .cap] [Lets W .sl] [Lets W .work] {a0} (ha0 : Keep W z a0) :
    KeepR W z (execSlMode a0) := by
  unfold execSlMode
  grind only [= keepR_next, = keepR_fault, = keepR_refused, usr keep_rest, usr keep_foldl, usr keep_State_slOp]
grind_pattern keep_execSlMode => Keep W z a0, execSlMode a0

theorem keep_execSlMul [Lets W .objs] [Lets W .regs] [Lets W .tm] [Lets W .flt] [Lets W .irq] [Lets W .pair] [Lets W .pwm] [Lets W .bat] [Lets W .loop] [Lets W .cap] [Lets W .sl] [Lets W .work] {a0 a1 a2} (ha2 : Keep W z a2) :
    KeepR W z (execSlMul a0 a1 a2) := by
  unfold execSlMul
  grind only [= keepR_next, = keepR_fault, = keepR_refused, usr keep_rest, usr keep_foldl, usr keep_State_slOp]
grind_pattern keep_execSlMul => Keep W z a2, execSlMul a0 a1 a2

theorem keep_execSlOrb [Lets W .objs] [Lets W .regs] [Lets W .tm] [Lets W .flt] [Lets W .irq] [Lets W .pair] [Lets W .pwm] [Lets W .bat] [Lets W .loop] [Lets W .cap] [Lets W .sl] [Lets W .work] {a0 a1 a2} (ha2 : Keep W z a2) :
    KeepR W z (execSlOrb a0 a1 a2) := by
  unfold execSlOrb
  grind only [= keepR_next, = keepR_fault, = keepR_refused, usr keep_rest, usr keep_foldl, usr keep_State_slOp]
grind_pattern keep_execSlOrb => Keep W z a2, execSlOrb a0 a1 a2

theorem keep_execSlOrnb [Lets W .objs] [Lets W .regs] [Lets W .tm] [Lets W .flt] [Lets W .irq] [Lets W .pair] [Lets W .pwm] [Lets W .bat] [Lets W .loop] [Lets W .cap] [Lets W .sl] [Lets W .work] {a0 a1 a2} (ha2 : Keep W z a2) :
    KeepR W z (execSlOrnb a0 a1 a2) := by
  unfold execSlOrnb
  grind only [= keepR_next, = keepR_fault, = keepR_refused, usr keep_rest, usr keep_foldl, usr keep_State_slOp]
grind_pattern keep_execSlOrnb => Keep W z a2, execSlOrnb a0 a1 a2

theorem keep_execSlRstb [Lets W .objs] [Lets W .regs] [Lets W .tm] [Lets W .flt] [Lets W .irq] [Lets W .pair] [Lets W .pwm] [Lets W .bat] [Lets W .loop] [Lets W .cap] [Lets W .sl] [Lets W .work] {a0 a1 a2} (ha2 : Keep W z a2) :
    KeepR W z (execSlRstb a0 a1 a2) := by
  unfold execSlRstb
  grind only [= keepR_next, = keepR_fault, = keepR_refused, usr keep_rest, usr keep_foldl, usr keep_State_slOp]
grind_pattern keep_execSlRstb => Keep W z a2, execSlRstb a0 a1 a2

theorem keep_execSlRtrig [Lets W .objs] [Lets W .regs] [Lets W .tm] [Lets W .flt] [Lets W .irq] [Lets W .pair] [Lets W .pwm] [Lets W .bat] [Lets W .loop] [Lets W .cap] [Lets W .sl] [Lets W .work] {a0 a1 a2} (ha2 : Keep W z a2) :
    KeepR W z (execSlRtrig a0 a1 a2) := by
  unfold execSlRtrig
  grind only [= keepR_next, = keepR_fault, = keepR_refused, usr keep_rest, usr keep_foldl, usr keep_State_slOp]
grind_pattern keep_execSlRtrig => Keep W z a2, execSlRtrig a0 a1 a2

theorem keep_execSlSack [Lets W .objs] [Lets W .regs] [Lets W .tm] [Lets W .flt] [Lets W .irq] [Lets W .pair] [Lets W .pwm] [Lets W .bat] [Lets W .loop] [Lets W .cap] [Lets W .sl] [Lets W .work] {a0} (ha0 : Keep W z a0) :
    KeepR W z (execSlSack a0) := by
  unfold execSlSack
  grind only [= keepR_next, = keepR_fault, = keepR_refused, usr keep_rest, usr keep_foldl, usr keep_State_slOp]
grind_pattern keep_execSlSack => Keep W z a0, execSlSack a0

theorem keep_execSlSetb [Lets W .objs] [Lets W .regs] [Lets W .tm] [Lets W .flt] [Lets W .irq] [Lets W .pair] [Lets W .pwm] [Lets W .bat] [Lets W .loop] [Lets W .cap] [Lets W .sl] [Lets W .work] {a0 a1 a2} (ha2 : Keep W z a2) :
    KeepR W z (execSlSetb a0 a1 a2) := by
  unfold execSlSetb
  grind only [= keepR_next, = keepR_fault, = keepR_refused, usr keep_rest, usr keep_foldl, usr keep_State_slOp]
grind_pattern keep_execSlSetb => Keep W z a2, execSlSetb a0 a1 a2

theorem keep_execSlSt [Lets W .objs] [Lets W .regs] [Lets W .tm] [Lets W .flt] [Lets W .irq] [Lets W .pair] [Lets W .pwm] [Lets W .bat] [Lets W .loop] [Lets W .cap] [Lets W .sl] [Lets W .work] {a0 a1 a2} (ha2 : Keep W z a2) :
    KeepR W z (execSlSt a0 a1 a2) := by
  unfold execSlSt
  grind only [= keepR_next, = keepR_fault, = keepR_refused, usr keep_rest, usr keep_foldl, usr keep_State_slOp]
grind_pattern keep_execSlSt => Keep W z a2, execSlSt a0 a1 a2

theorem keep_execSlStb [Lets W .objs] [Lets W .regs] [Lets W .tm] [Lets W .flt] [Lets W .irq] [Lets W .pair] [Lets W .pwm] [Lets W .bat] [Lets W .loop] [Lets W .cap] [Lets W .sl] [Lets W .work] {a0 a1 a2} (ha2 : Keep W z a2) :
    KeepR W z (execSlStb a0 a1 a2) := by
  unfold execSlStb
  grind only [= keepR_next, = keepR_fault, = keepR_refused, usr keep_rest, usr keep_foldl, usr keep_State_slOp]
grind_pattern keep_execSlStb => Keep W z a2, execSlStb a0 a1 a2

theorem keep_execSlSub [Lets W .objs] [Lets W .regs] [Lets W .tm] [Lets W .flt] [Lets W .irq] [Lets W .pair] [Lets W .pwm] [Lets W .bat] [Lets W .loop] [Lets W .cap] [Lets W .sl] [Lets W .work] {a0 a1 a2} (ha2 : Keep W z a2) :
    KeepR W z (execSlSub a0 a1 a2) := by
  unfold execSlSub
  grind only [= keepR_next, = keepR_fault, = keepR_refused, usr keep_rest, usr keep_foldl, usr keep_State_slOp]
grind_pattern keep_execSlSub => Keep W z a2, execSlSub a0 a1 a2

theorem keep_execSlTon [Lets W .objs] [Lets W .regs] [Lets W .tm] [Lets W .flt] [Lets W .irq] [Lets W .pair] [Lets W .pwm] [Lets W .bat] [Lets W .loop] [Lets W .cap] [Lets W .sl] [Lets W .work] {a0 a1 a2} (ha2 : Keep W z a2) :
    KeepR W z (execSlTon a0 a1 a2) := by
  unfold execSlTon
  grind only [= keepR_next, = keepR_fault, = keepR_refused, usr keep_rest, usr keep_foldl, usr keep_State_slOp]
grind_pattern keep_execSlTon => Keep W z a2, execSlTon a0 a1 a2

theorem keep_execSlVerifyDone [Lets W .doms] [Lets W .irq] [Lets W .pair] [Lets W .sl] {a0} (ha0 : Keep W z a0) :
    KeepR W z (execSlVerifyDone a0) := by
  unfold execSlVerifyDone
  grind only [= keepR_next, = keepR_fault, = keepR_refused, usr keep_rest, usr keep_foldl, usr keep_State_slVerify]
grind_pattern keep_execSlVerifyDone => Keep W z a0, execSlVerifyDone a0

theorem keep_execSlWrobj [Lets W .objs] [Lets W .regs] [Lets W .tm] [Lets W .flt] [Lets W .irq] [Lets W .pair] [Lets W .pwm] [Lets W .bat] [Lets W .loop] [Lets W .cap] [Lets W .sl] [Lets W .work] {a0 a1} (ha1 : Keep W z a1) :
    KeepR W z (execSlWrobj a0 a1) := by
  unfold execSlWrobj
  grind only [= keepR_next, = keepR_fault, = keepR_refused, usr keep_rest, usr keep_foldl, usr keep_State_slOp]
grind_pattern keep_execSlWrobj => Keep W z a1, execSlWrobj a0 a1

theorem keep_execStationResponse [Lets W .objs] [Lets W .regs] [Lets W .flt] [Lets W .irq] [Lets W .ring] [Lets W .xl] [Lets W .cap] [Lets W .sl] [Lets W .work] [Lets W .out] {a0 a1 a2 a3} (ha3 : Keep W z a3) :
    KeepR W z (execStationResponse a0 a1 a2 a3) := by
  unfold execStationResponse
  grind only [= keepR_next, = keepR_fault, = keepR_refused, usr keep_rest, usr keep_foldl, keep_State_rxTyped, usr keep_State_stnResponse]
grind_pattern keep_execStationResponse => Keep W z a3, execStationResponse a0 a1 a2 a3

theorem keep_execStnReadmitWrite [Lets W .regs] [Lets W .pw] [Lets W .flt] [Lets W .irq] [Lets W .seat] [Lets W .pair] [Lets W .cap] [Lets W .sl] [Lets W .work] [Lets W .out] {a0 a1 a2} (ha2 : Keep W z a2) :
    KeepR W z (execStnReadmitWrite a0 a1 a2) := by
  unfold execStnReadmitWrite
  grind only [= keepE_ok, = keepE_error, = keepR_next, = keepR_fault, = keepR_refused, usr keep_rest, usr keep_foldl, keep_State_guardedValue, usr keep_State_applyReadmit]
grind_pattern keep_execStnReadmitWrite => Keep W z a2, execStnReadmitWrite a0 a1 a2

theorem keep_execStnTimeout [Lets W .objs] [Lets W .pwm] [Lets W .sl] [Lets W .out] {a0} (ha0 : Keep W z a0) :
    KeepR W z (execStnTimeout a0) := by
  unfold execStnTimeout
  grind only [= keepR_next, = keepR_fault, = keepR_refused, usr keep_rest, usr keep_foldl, usr keep_State_oset, usr keep_State_slSet, usr keep_State_drive]
grind_pattern keep_execStnTimeout => Keep W z a0, execStnTimeout a0

end Sys2Proof.Laws
end

