-- ==== Sys2Proof/Laws/State.lean ====
section
/-! SUPPORT. One lemma per field per update of the state. -/

namespace Sys2Proof.Machine.State
variable (s : State)

@[simp] theorem pwSet_objs (g : PowerBlock → PowerBlock) : (s.pwSet g).objs = s.objs := rfl
@[simp] theorem pwSet_doms (g : PowerBlock → PowerBlock) : (s.pwSet g).doms = s.doms := rfl
@[simp] theorem pwSet_regs (g : PowerBlock → PowerBlock) : (s.pwSet g).regs = s.regs := rfl
@[simp] theorem pwSet_pw (g : PowerBlock → PowerBlock) : (s.pwSet g).pw = g s.pw := rfl
@[simp] theorem pwSet_tm (g : PowerBlock → PowerBlock) : (s.pwSet g).tm = s.tm := rfl
@[simp] theorem pwSet_flt (g : PowerBlock → PowerBlock) : (s.pwSet g).flt = s.flt := rfl
@[simp] theorem pwSet_irq (g : PowerBlock → PowerBlock) : (s.pwSet g).irq = s.irq := rfl
@[simp] theorem pwSet_dsp (g : PowerBlock → PowerBlock) : (s.pwSet g).dsp = s.dsp := rfl
@[simp] theorem pwSet_seat (g : PowerBlock → PowerBlock) : (s.pwSet g).seat = s.seat := rfl
@[simp] theorem pwSet_ring (g : PowerBlock → PowerBlock) : (s.pwSet g).ring = s.ring := rfl
@[simp] theorem pwSet_xl (g : PowerBlock → PowerBlock) : (s.pwSet g).xl = s.xl := rfl
@[simp] theorem pwSet_pair (g : PowerBlock → PowerBlock) : (s.pwSet g).pair = s.pair := rfl
@[simp] theorem pwSet_pwm (g : PowerBlock → PowerBlock) : (s.pwSet g).pwm = s.pwm := rfl
@[simp] theorem pwSet_bat (g : PowerBlock → PowerBlock) : (s.pwSet g).bat = s.bat := rfl
@[simp] theorem pwSet_adc (g : PowerBlock → PowerBlock) : (s.pwSet g).adc = s.adc := rfl
@[simp] theorem pwSet_loop (g : PowerBlock → PowerBlock) : (s.pwSet g).loop = s.loop := rfl
@[simp] theorem pwSet_cap (g : PowerBlock → PowerBlock) : (s.pwSet g).cap = s.cap := rfl
@[simp] theorem pwSet_sl (g : PowerBlock → PowerBlock) : (s.pwSet g).sl = s.sl := rfl
@[simp] theorem pwSet_saf (g : PowerBlock → PowerBlock) : (s.pwSet g).saf = s.saf := rfl
@[simp] theorem pwSet_mod (g : PowerBlock → PowerBlock) : (s.pwSet g).mod = s.mod := rfl
@[simp] theorem pwSet_work (g : PowerBlock → PowerBlock) : (s.pwSet g).work = s.work := rfl
@[simp] theorem pwSet_mem (g : PowerBlock → PowerBlock) : (s.pwSet g).mem = s.mem := rfl
@[simp] theorem pwSet_tap (g : PowerBlock → PowerBlock) : (s.pwSet g).tap = s.tap := rfl
@[simp] theorem pwSet_freeCtr (g : PowerBlock → PowerBlock) : (s.pwSet g).freeCtr = s.freeCtr := rfl
@[simp] theorem pwSet_out (g : PowerBlock → PowerBlock) : (s.pwSet g).out = s.out := rfl
@[simp] theorem pwSet_pending (g : PowerBlock → PowerBlock) : (s.pwSet g).pending = s.pending := rfl

@[simp] theorem tmSet_objs (g : TimeBlock → TimeBlock) : (s.tmSet g).objs = s.objs := rfl
@[simp] theorem tmSet_doms (g : TimeBlock → TimeBlock) : (s.tmSet g).doms = s.doms := rfl
@[simp] theorem tmSet_regs (g : TimeBlock → TimeBlock) : (s.tmSet g).regs = s.regs := rfl
@[simp] theorem tmSet_pw (g : TimeBlock → TimeBlock) : (s.tmSet g).pw = s.pw := rfl
@[simp] theorem tmSet_tm (g : TimeBlock → TimeBlock) : (s.tmSet g).tm = g s.tm := rfl
@[simp] theorem tmSet_flt (g : TimeBlock → TimeBlock) : (s.tmSet g).flt = s.flt := rfl
@[simp] theorem tmSet_irq (g : TimeBlock → TimeBlock) : (s.tmSet g).irq = s.irq := rfl
@[simp] theorem tmSet_dsp (g : TimeBlock → TimeBlock) : (s.tmSet g).dsp = s.dsp := rfl
@[simp] theorem tmSet_seat (g : TimeBlock → TimeBlock) : (s.tmSet g).seat = s.seat := rfl
@[simp] theorem tmSet_ring (g : TimeBlock → TimeBlock) : (s.tmSet g).ring = s.ring := rfl
@[simp] theorem tmSet_xl (g : TimeBlock → TimeBlock) : (s.tmSet g).xl = s.xl := rfl
@[simp] theorem tmSet_pair (g : TimeBlock → TimeBlock) : (s.tmSet g).pair = s.pair := rfl
@[simp] theorem tmSet_pwm (g : TimeBlock → TimeBlock) : (s.tmSet g).pwm = s.pwm := rfl
@[simp] theorem tmSet_bat (g : TimeBlock → TimeBlock) : (s.tmSet g).bat = s.bat := rfl
@[simp] theorem tmSet_adc (g : TimeBlock → TimeBlock) : (s.tmSet g).adc = s.adc := rfl
@[simp] theorem tmSet_loop (g : TimeBlock → TimeBlock) : (s.tmSet g).loop = s.loop := rfl
@[simp] theorem tmSet_cap (g : TimeBlock → TimeBlock) : (s.tmSet g).cap = s.cap := rfl
@[simp] theorem tmSet_sl (g : TimeBlock → TimeBlock) : (s.tmSet g).sl = s.sl := rfl
@[simp] theorem tmSet_saf (g : TimeBlock → TimeBlock) : (s.tmSet g).saf = s.saf := rfl
@[simp] theorem tmSet_mod (g : TimeBlock → TimeBlock) : (s.tmSet g).mod = s.mod := rfl
@[simp] theorem tmSet_work (g : TimeBlock → TimeBlock) : (s.tmSet g).work = s.work := rfl
@[simp] theorem tmSet_mem (g : TimeBlock → TimeBlock) : (s.tmSet g).mem = s.mem := rfl
@[simp] theorem tmSet_tap (g : TimeBlock → TimeBlock) : (s.tmSet g).tap = s.tap := rfl
@[simp] theorem tmSet_freeCtr (g : TimeBlock → TimeBlock) : (s.tmSet g).freeCtr = s.freeCtr := rfl
@[simp] theorem tmSet_out (g : TimeBlock → TimeBlock) : (s.tmSet g).out = s.out := rfl
@[simp] theorem tmSet_pending (g : TimeBlock → TimeBlock) : (s.tmSet g).pending = s.pending := rfl

@[simp] theorem fltSet_objs (g : FaultBlock → FaultBlock) : (s.fltSet g).objs = s.objs := rfl
@[simp] theorem fltSet_doms (g : FaultBlock → FaultBlock) : (s.fltSet g).doms = s.doms := rfl
@[simp] theorem fltSet_regs (g : FaultBlock → FaultBlock) : (s.fltSet g).regs = s.regs := rfl
@[simp] theorem fltSet_pw (g : FaultBlock → FaultBlock) : (s.fltSet g).pw = s.pw := rfl
@[simp] theorem fltSet_tm (g : FaultBlock → FaultBlock) : (s.fltSet g).tm = s.tm := rfl
@[simp] theorem fltSet_flt (g : FaultBlock → FaultBlock) : (s.fltSet g).flt = g s.flt := rfl
@[simp] theorem fltSet_irq (g : FaultBlock → FaultBlock) : (s.fltSet g).irq = s.irq := rfl
@[simp] theorem fltSet_dsp (g : FaultBlock → FaultBlock) : (s.fltSet g).dsp = s.dsp := rfl
@[simp] theorem fltSet_seat (g : FaultBlock → FaultBlock) : (s.fltSet g).seat = s.seat := rfl
@[simp] theorem fltSet_ring (g : FaultBlock → FaultBlock) : (s.fltSet g).ring = s.ring := rfl
@[simp] theorem fltSet_xl (g : FaultBlock → FaultBlock) : (s.fltSet g).xl = s.xl := rfl
@[simp] theorem fltSet_pair (g : FaultBlock → FaultBlock) : (s.fltSet g).pair = s.pair := rfl
@[simp] theorem fltSet_pwm (g : FaultBlock → FaultBlock) : (s.fltSet g).pwm = s.pwm := rfl
@[simp] theorem fltSet_bat (g : FaultBlock → FaultBlock) : (s.fltSet g).bat = s.bat := rfl
@[simp] theorem fltSet_adc (g : FaultBlock → FaultBlock) : (s.fltSet g).adc = s.adc := rfl
@[simp] theorem fltSet_loop (g : FaultBlock → FaultBlock) : (s.fltSet g).loop = s.loop := rfl
@[simp] theorem fltSet_cap (g : FaultBlock → FaultBlock) : (s.fltSet g).cap = s.cap := rfl
@[simp] theorem fltSet_sl (g : FaultBlock → FaultBlock) : (s.fltSet g).sl = s.sl := rfl
@[simp] theorem fltSet_saf (g : FaultBlock → FaultBlock) : (s.fltSet g).saf = s.saf := rfl
@[simp] theorem fltSet_mod (g : FaultBlock → FaultBlock) : (s.fltSet g).mod = s.mod := rfl
@[simp] theorem fltSet_work (g : FaultBlock → FaultBlock) : (s.fltSet g).work = s.work := rfl
@[simp] theorem fltSet_mem (g : FaultBlock → FaultBlock) : (s.fltSet g).mem = s.mem := rfl
@[simp] theorem fltSet_tap (g : FaultBlock → FaultBlock) : (s.fltSet g).tap = s.tap := rfl
@[simp] theorem fltSet_freeCtr (g : FaultBlock → FaultBlock) : (s.fltSet g).freeCtr = s.freeCtr := rfl
@[simp] theorem fltSet_out (g : FaultBlock → FaultBlock) : (s.fltSet g).out = s.out := rfl
@[simp] theorem fltSet_pending (g : FaultBlock → FaultBlock) : (s.fltSet g).pending = s.pending := rfl

@[simp] theorem irqSet_objs (g : IrqBlock → IrqBlock) : (s.irqSet g).objs = s.objs := rfl
@[simp] theorem irqSet_doms (g : IrqBlock → IrqBlock) : (s.irqSet g).doms = s.doms := rfl
@[simp] theorem irqSet_regs (g : IrqBlock → IrqBlock) : (s.irqSet g).regs = s.regs := rfl
@[simp] theorem irqSet_pw (g : IrqBlock → IrqBlock) : (s.irqSet g).pw = s.pw := rfl
@[simp] theorem irqSet_tm (g : IrqBlock → IrqBlock) : (s.irqSet g).tm = s.tm := rfl
@[simp] theorem irqSet_flt (g : IrqBlock → IrqBlock) : (s.irqSet g).flt = s.flt := rfl
@[simp] theorem irqSet_irq (g : IrqBlock → IrqBlock) : (s.irqSet g).irq = g s.irq := rfl
@[simp] theorem irqSet_dsp (g : IrqBlock → IrqBlock) : (s.irqSet g).dsp = s.dsp := rfl
@[simp] theorem irqSet_seat (g : IrqBlock → IrqBlock) : (s.irqSet g).seat = s.seat := rfl
@[simp] theorem irqSet_ring (g : IrqBlock → IrqBlock) : (s.irqSet g).ring = s.ring := rfl
@[simp] theorem irqSet_xl (g : IrqBlock → IrqBlock) : (s.irqSet g).xl = s.xl := rfl
@[simp] theorem irqSet_pair (g : IrqBlock → IrqBlock) : (s.irqSet g).pair = s.pair := rfl
@[simp] theorem irqSet_pwm (g : IrqBlock → IrqBlock) : (s.irqSet g).pwm = s.pwm := rfl
@[simp] theorem irqSet_bat (g : IrqBlock → IrqBlock) : (s.irqSet g).bat = s.bat := rfl
@[simp] theorem irqSet_adc (g : IrqBlock → IrqBlock) : (s.irqSet g).adc = s.adc := rfl
@[simp] theorem irqSet_loop (g : IrqBlock → IrqBlock) : (s.irqSet g).loop = s.loop := rfl
@[simp] theorem irqSet_cap (g : IrqBlock → IrqBlock) : (s.irqSet g).cap = s.cap := rfl
@[simp] theorem irqSet_sl (g : IrqBlock → IrqBlock) : (s.irqSet g).sl = s.sl := rfl
@[simp] theorem irqSet_saf (g : IrqBlock → IrqBlock) : (s.irqSet g).saf = s.saf := rfl
@[simp] theorem irqSet_mod (g : IrqBlock → IrqBlock) : (s.irqSet g).mod = s.mod := rfl
@[simp] theorem irqSet_work (g : IrqBlock → IrqBlock) : (s.irqSet g).work = s.work := rfl
@[simp] theorem irqSet_mem (g : IrqBlock → IrqBlock) : (s.irqSet g).mem = s.mem := rfl
@[simp] theorem irqSet_tap (g : IrqBlock → IrqBlock) : (s.irqSet g).tap = s.tap := rfl
@[simp] theorem irqSet_freeCtr (g : IrqBlock → IrqBlock) : (s.irqSet g).freeCtr = s.freeCtr := rfl
@[simp] theorem irqSet_out (g : IrqBlock → IrqBlock) : (s.irqSet g).out = s.out := rfl
@[simp] theorem irqSet_pending (g : IrqBlock → IrqBlock) : (s.irqSet g).pending = s.pending := rfl

@[simp] theorem dspSet_objs (g : DspBlock → DspBlock) : (s.dspSet g).objs = s.objs := rfl
@[simp] theorem dspSet_doms (g : DspBlock → DspBlock) : (s.dspSet g).doms = s.doms := rfl
@[simp] theorem dspSet_regs (g : DspBlock → DspBlock) : (s.dspSet g).regs = s.regs := rfl
@[simp] theorem dspSet_pw (g : DspBlock → DspBlock) : (s.dspSet g).pw = s.pw := rfl
@[simp] theorem dspSet_tm (g : DspBlock → DspBlock) : (s.dspSet g).tm = s.tm := rfl
@[simp] theorem dspSet_flt (g : DspBlock → DspBlock) : (s.dspSet g).flt = s.flt := rfl
@[simp] theorem dspSet_irq (g : DspBlock → DspBlock) : (s.dspSet g).irq = s.irq := rfl
@[simp] theorem dspSet_dsp (g : DspBlock → DspBlock) : (s.dspSet g).dsp = g s.dsp := rfl
@[simp] theorem dspSet_seat (g : DspBlock → DspBlock) : (s.dspSet g).seat = s.seat := rfl
@[simp] theorem dspSet_ring (g : DspBlock → DspBlock) : (s.dspSet g).ring = s.ring := rfl
@[simp] theorem dspSet_xl (g : DspBlock → DspBlock) : (s.dspSet g).xl = s.xl := rfl
@[simp] theorem dspSet_pair (g : DspBlock → DspBlock) : (s.dspSet g).pair = s.pair := rfl
@[simp] theorem dspSet_pwm (g : DspBlock → DspBlock) : (s.dspSet g).pwm = s.pwm := rfl
@[simp] theorem dspSet_bat (g : DspBlock → DspBlock) : (s.dspSet g).bat = s.bat := rfl
@[simp] theorem dspSet_adc (g : DspBlock → DspBlock) : (s.dspSet g).adc = s.adc := rfl
@[simp] theorem dspSet_loop (g : DspBlock → DspBlock) : (s.dspSet g).loop = s.loop := rfl
@[simp] theorem dspSet_cap (g : DspBlock → DspBlock) : (s.dspSet g).cap = s.cap := rfl
@[simp] theorem dspSet_sl (g : DspBlock → DspBlock) : (s.dspSet g).sl = s.sl := rfl
@[simp] theorem dspSet_saf (g : DspBlock → DspBlock) : (s.dspSet g).saf = s.saf := rfl
@[simp] theorem dspSet_mod (g : DspBlock → DspBlock) : (s.dspSet g).mod = s.mod := rfl
@[simp] theorem dspSet_work (g : DspBlock → DspBlock) : (s.dspSet g).work = s.work := rfl
@[simp] theorem dspSet_mem (g : DspBlock → DspBlock) : (s.dspSet g).mem = s.mem := rfl
@[simp] theorem dspSet_tap (g : DspBlock → DspBlock) : (s.dspSet g).tap = s.tap := rfl
@[simp] theorem dspSet_freeCtr (g : DspBlock → DspBlock) : (s.dspSet g).freeCtr = s.freeCtr := rfl
@[simp] theorem dspSet_out (g : DspBlock → DspBlock) : (s.dspSet g).out = s.out := rfl
@[simp] theorem dspSet_pending (g : DspBlock → DspBlock) : (s.dspSet g).pending = s.pending := rfl

@[simp] theorem seatSet_objs (g : SeatBlock → SeatBlock) : (s.seatSet g).objs = s.objs := rfl
@[simp] theorem seatSet_doms (g : SeatBlock → SeatBlock) : (s.seatSet g).doms = s.doms := rfl
@[simp] theorem seatSet_regs (g : SeatBlock → SeatBlock) : (s.seatSet g).regs = s.regs := rfl
@[simp] theorem seatSet_pw (g : SeatBlock → SeatBlock) : (s.seatSet g).pw = s.pw := rfl
@[simp] theorem seatSet_tm (g : SeatBlock → SeatBlock) : (s.seatSet g).tm = s.tm := rfl
@[simp] theorem seatSet_flt (g : SeatBlock → SeatBlock) : (s.seatSet g).flt = s.flt := rfl
@[simp] theorem seatSet_irq (g : SeatBlock → SeatBlock) : (s.seatSet g).irq = s.irq := rfl
@[simp] theorem seatSet_dsp (g : SeatBlock → SeatBlock) : (s.seatSet g).dsp = s.dsp := rfl
@[simp] theorem seatSet_seat (g : SeatBlock → SeatBlock) : (s.seatSet g).seat = g s.seat := rfl
@[simp] theorem seatSet_ring (g : SeatBlock → SeatBlock) : (s.seatSet g).ring = s.ring := rfl
@[simp] theorem seatSet_xl (g : SeatBlock → SeatBlock) : (s.seatSet g).xl = s.xl := rfl
@[simp] theorem seatSet_pair (g : SeatBlock → SeatBlock) : (s.seatSet g).pair = s.pair := rfl
@[simp] theorem seatSet_pwm (g : SeatBlock → SeatBlock) : (s.seatSet g).pwm = s.pwm := rfl
@[simp] theorem seatSet_bat (g : SeatBlock → SeatBlock) : (s.seatSet g).bat = s.bat := rfl
@[simp] theorem seatSet_adc (g : SeatBlock → SeatBlock) : (s.seatSet g).adc = s.adc := rfl
@[simp] theorem seatSet_loop (g : SeatBlock → SeatBlock) : (s.seatSet g).loop = s.loop := rfl
@[simp] theorem seatSet_cap (g : SeatBlock → SeatBlock) : (s.seatSet g).cap = s.cap := rfl
@[simp] theorem seatSet_sl (g : SeatBlock → SeatBlock) : (s.seatSet g).sl = s.sl := rfl
@[simp] theorem seatSet_saf (g : SeatBlock → SeatBlock) : (s.seatSet g).saf = s.saf := rfl
@[simp] theorem seatSet_mod (g : SeatBlock → SeatBlock) : (s.seatSet g).mod = s.mod := rfl
@[simp] theorem seatSet_work (g : SeatBlock → SeatBlock) : (s.seatSet g).work = s.work := rfl
@[simp] theorem seatSet_mem (g : SeatBlock → SeatBlock) : (s.seatSet g).mem = s.mem := rfl
@[simp] theorem seatSet_tap (g : SeatBlock → SeatBlock) : (s.seatSet g).tap = s.tap := rfl
@[simp] theorem seatSet_freeCtr (g : SeatBlock → SeatBlock) : (s.seatSet g).freeCtr = s.freeCtr := rfl
@[simp] theorem seatSet_out (g : SeatBlock → SeatBlock) : (s.seatSet g).out = s.out := rfl
@[simp] theorem seatSet_pending (g : SeatBlock → SeatBlock) : (s.seatSet g).pending = s.pending := rfl

@[simp] theorem ringSet_objs (g : RingBlock → RingBlock) : (s.ringSet g).objs = s.objs := rfl
@[simp] theorem ringSet_doms (g : RingBlock → RingBlock) : (s.ringSet g).doms = s.doms := rfl
@[simp] theorem ringSet_regs (g : RingBlock → RingBlock) : (s.ringSet g).regs = s.regs := rfl
@[simp] theorem ringSet_pw (g : RingBlock → RingBlock) : (s.ringSet g).pw = s.pw := rfl
@[simp] theorem ringSet_tm (g : RingBlock → RingBlock) : (s.ringSet g).tm = s.tm := rfl
@[simp] theorem ringSet_flt (g : RingBlock → RingBlock) : (s.ringSet g).flt = s.flt := rfl
@[simp] theorem ringSet_irq (g : RingBlock → RingBlock) : (s.ringSet g).irq = s.irq := rfl
@[simp] theorem ringSet_dsp (g : RingBlock → RingBlock) : (s.ringSet g).dsp = s.dsp := rfl
@[simp] theorem ringSet_seat (g : RingBlock → RingBlock) : (s.ringSet g).seat = s.seat := rfl
@[simp] theorem ringSet_ring (g : RingBlock → RingBlock) : (s.ringSet g).ring = g s.ring := rfl
@[simp] theorem ringSet_xl (g : RingBlock → RingBlock) : (s.ringSet g).xl = s.xl := rfl
@[simp] theorem ringSet_pair (g : RingBlock → RingBlock) : (s.ringSet g).pair = s.pair := rfl
@[simp] theorem ringSet_pwm (g : RingBlock → RingBlock) : (s.ringSet g).pwm = s.pwm := rfl
@[simp] theorem ringSet_bat (g : RingBlock → RingBlock) : (s.ringSet g).bat = s.bat := rfl
@[simp] theorem ringSet_adc (g : RingBlock → RingBlock) : (s.ringSet g).adc = s.adc := rfl
@[simp] theorem ringSet_loop (g : RingBlock → RingBlock) : (s.ringSet g).loop = s.loop := rfl
@[simp] theorem ringSet_cap (g : RingBlock → RingBlock) : (s.ringSet g).cap = s.cap := rfl
@[simp] theorem ringSet_sl (g : RingBlock → RingBlock) : (s.ringSet g).sl = s.sl := rfl
@[simp] theorem ringSet_saf (g : RingBlock → RingBlock) : (s.ringSet g).saf = s.saf := rfl
@[simp] theorem ringSet_mod (g : RingBlock → RingBlock) : (s.ringSet g).mod = s.mod := rfl
@[simp] theorem ringSet_work (g : RingBlock → RingBlock) : (s.ringSet g).work = s.work := rfl
@[simp] theorem ringSet_mem (g : RingBlock → RingBlock) : (s.ringSet g).mem = s.mem := rfl
@[simp] theorem ringSet_tap (g : RingBlock → RingBlock) : (s.ringSet g).tap = s.tap := rfl
@[simp] theorem ringSet_freeCtr (g : RingBlock → RingBlock) : (s.ringSet g).freeCtr = s.freeCtr := rfl
@[simp] theorem ringSet_out (g : RingBlock → RingBlock) : (s.ringSet g).out = s.out := rfl
@[simp] theorem ringSet_pending (g : RingBlock → RingBlock) : (s.ringSet g).pending = s.pending := rfl

@[simp] theorem xlSet_objs (g : XlBlock → XlBlock) : (s.xlSet g).objs = s.objs := rfl
@[simp] theorem xlSet_doms (g : XlBlock → XlBlock) : (s.xlSet g).doms = s.doms := rfl
@[simp] theorem xlSet_regs (g : XlBlock → XlBlock) : (s.xlSet g).regs = s.regs := rfl
@[simp] theorem xlSet_pw (g : XlBlock → XlBlock) : (s.xlSet g).pw = s.pw := rfl
@[simp] theorem xlSet_tm (g : XlBlock → XlBlock) : (s.xlSet g).tm = s.tm := rfl
@[simp] theorem xlSet_flt (g : XlBlock → XlBlock) : (s.xlSet g).flt = s.flt := rfl
@[simp] theorem xlSet_irq (g : XlBlock → XlBlock) : (s.xlSet g).irq = s.irq := rfl
@[simp] theorem xlSet_dsp (g : XlBlock → XlBlock) : (s.xlSet g).dsp = s.dsp := rfl
@[simp] theorem xlSet_seat (g : XlBlock → XlBlock) : (s.xlSet g).seat = s.seat := rfl
@[simp] theorem xlSet_ring (g : XlBlock → XlBlock) : (s.xlSet g).ring = s.ring := rfl
@[simp] theorem xlSet_xl (g : XlBlock → XlBlock) : (s.xlSet g).xl = g s.xl := rfl
@[simp] theorem xlSet_pair (g : XlBlock → XlBlock) : (s.xlSet g).pair = s.pair := rfl
@[simp] theorem xlSet_pwm (g : XlBlock → XlBlock) : (s.xlSet g).pwm = s.pwm := rfl
@[simp] theorem xlSet_bat (g : XlBlock → XlBlock) : (s.xlSet g).bat = s.bat := rfl
@[simp] theorem xlSet_adc (g : XlBlock → XlBlock) : (s.xlSet g).adc = s.adc := rfl
@[simp] theorem xlSet_loop (g : XlBlock → XlBlock) : (s.xlSet g).loop = s.loop := rfl
@[simp] theorem xlSet_cap (g : XlBlock → XlBlock) : (s.xlSet g).cap = s.cap := rfl
@[simp] theorem xlSet_sl (g : XlBlock → XlBlock) : (s.xlSet g).sl = s.sl := rfl
@[simp] theorem xlSet_saf (g : XlBlock → XlBlock) : (s.xlSet g).saf = s.saf := rfl
@[simp] theorem xlSet_mod (g : XlBlock → XlBlock) : (s.xlSet g).mod = s.mod := rfl
@[simp] theorem xlSet_work (g : XlBlock → XlBlock) : (s.xlSet g).work = s.work := rfl
@[simp] theorem xlSet_mem (g : XlBlock → XlBlock) : (s.xlSet g).mem = s.mem := rfl
@[simp] theorem xlSet_tap (g : XlBlock → XlBlock) : (s.xlSet g).tap = s.tap := rfl
@[simp] theorem xlSet_freeCtr (g : XlBlock → XlBlock) : (s.xlSet g).freeCtr = s.freeCtr := rfl
@[simp] theorem xlSet_out (g : XlBlock → XlBlock) : (s.xlSet g).out = s.out := rfl
@[simp] theorem xlSet_pending (g : XlBlock → XlBlock) : (s.xlSet g).pending = s.pending := rfl

@[simp] theorem pairSet_objs (g : PairBlock → PairBlock) : (s.pairSet g).objs = s.objs := rfl
@[simp] theorem pairSet_doms (g : PairBlock → PairBlock) : (s.pairSet g).doms = s.doms := rfl
@[simp] theorem pairSet_regs (g : PairBlock → PairBlock) : (s.pairSet g).regs = s.regs := rfl
@[simp] theorem pairSet_pw (g : PairBlock → PairBlock) : (s.pairSet g).pw = s.pw := rfl
@[simp] theorem pairSet_tm (g : PairBlock → PairBlock) : (s.pairSet g).tm = s.tm := rfl
@[simp] theorem pairSet_flt (g : PairBlock → PairBlock) : (s.pairSet g).flt = s.flt := rfl
@[simp] theorem pairSet_irq (g : PairBlock → PairBlock) : (s.pairSet g).irq = s.irq := rfl
@[simp] theorem pairSet_dsp (g : PairBlock → PairBlock) : (s.pairSet g).dsp = s.dsp := rfl
@[simp] theorem pairSet_seat (g : PairBlock → PairBlock) : (s.pairSet g).seat = s.seat := rfl
@[simp] theorem pairSet_ring (g : PairBlock → PairBlock) : (s.pairSet g).ring = s.ring := rfl
@[simp] theorem pairSet_xl (g : PairBlock → PairBlock) : (s.pairSet g).xl = s.xl := rfl
@[simp] theorem pairSet_pair (g : PairBlock → PairBlock) : (s.pairSet g).pair = g s.pair := rfl
@[simp] theorem pairSet_pwm (g : PairBlock → PairBlock) : (s.pairSet g).pwm = s.pwm := rfl
@[simp] theorem pairSet_bat (g : PairBlock → PairBlock) : (s.pairSet g).bat = s.bat := rfl
@[simp] theorem pairSet_adc (g : PairBlock → PairBlock) : (s.pairSet g).adc = s.adc := rfl
@[simp] theorem pairSet_loop (g : PairBlock → PairBlock) : (s.pairSet g).loop = s.loop := rfl
@[simp] theorem pairSet_cap (g : PairBlock → PairBlock) : (s.pairSet g).cap = s.cap := rfl
@[simp] theorem pairSet_sl (g : PairBlock → PairBlock) : (s.pairSet g).sl = s.sl := rfl
@[simp] theorem pairSet_saf (g : PairBlock → PairBlock) : (s.pairSet g).saf = s.saf := rfl
@[simp] theorem pairSet_mod (g : PairBlock → PairBlock) : (s.pairSet g).mod = s.mod := rfl
@[simp] theorem pairSet_work (g : PairBlock → PairBlock) : (s.pairSet g).work = s.work := rfl
@[simp] theorem pairSet_mem (g : PairBlock → PairBlock) : (s.pairSet g).mem = s.mem := rfl
@[simp] theorem pairSet_tap (g : PairBlock → PairBlock) : (s.pairSet g).tap = s.tap := rfl
@[simp] theorem pairSet_freeCtr (g : PairBlock → PairBlock) : (s.pairSet g).freeCtr = s.freeCtr := rfl
@[simp] theorem pairSet_out (g : PairBlock → PairBlock) : (s.pairSet g).out = s.out := rfl
@[simp] theorem pairSet_pending (g : PairBlock → PairBlock) : (s.pairSet g).pending = s.pending := rfl

@[simp] theorem pwmSet_objs (g : PwmBlock → PwmBlock) : (s.pwmSet g).objs = s.objs := rfl
@[simp] theorem pwmSet_doms (g : PwmBlock → PwmBlock) : (s.pwmSet g).doms = s.doms := rfl
@[simp] theorem pwmSet_regs (g : PwmBlock → PwmBlock) : (s.pwmSet g).regs = s.regs := rfl
@[simp] theorem pwmSet_pw (g : PwmBlock → PwmBlock) : (s.pwmSet g).pw = s.pw := rfl
@[simp] theorem pwmSet_tm (g : PwmBlock → PwmBlock) : (s.pwmSet g).tm = s.tm := rfl
@[simp] theorem pwmSet_flt (g : PwmBlock → PwmBlock) : (s.pwmSet g).flt = s.flt := rfl
@[simp] theorem pwmSet_irq (g : PwmBlock → PwmBlock) : (s.pwmSet g).irq = s.irq := rfl
@[simp] theorem pwmSet_dsp (g : PwmBlock → PwmBlock) : (s.pwmSet g).dsp = s.dsp := rfl
@[simp] theorem pwmSet_seat (g : PwmBlock → PwmBlock) : (s.pwmSet g).seat = s.seat := rfl
@[simp] theorem pwmSet_ring (g : PwmBlock → PwmBlock) : (s.pwmSet g).ring = s.ring := rfl
@[simp] theorem pwmSet_xl (g : PwmBlock → PwmBlock) : (s.pwmSet g).xl = s.xl := rfl
@[simp] theorem pwmSet_pair (g : PwmBlock → PwmBlock) : (s.pwmSet g).pair = s.pair := rfl
@[simp] theorem pwmSet_pwm (g : PwmBlock → PwmBlock) : (s.pwmSet g).pwm = g s.pwm := rfl
@[simp] theorem pwmSet_bat (g : PwmBlock → PwmBlock) : (s.pwmSet g).bat = s.bat := rfl
@[simp] theorem pwmSet_adc (g : PwmBlock → PwmBlock) : (s.pwmSet g).adc = s.adc := rfl
@[simp] theorem pwmSet_loop (g : PwmBlock → PwmBlock) : (s.pwmSet g).loop = s.loop := rfl
@[simp] theorem pwmSet_cap (g : PwmBlock → PwmBlock) : (s.pwmSet g).cap = s.cap := rfl
@[simp] theorem pwmSet_sl (g : PwmBlock → PwmBlock) : (s.pwmSet g).sl = s.sl := rfl
@[simp] theorem pwmSet_saf (g : PwmBlock → PwmBlock) : (s.pwmSet g).saf = s.saf := rfl
@[simp] theorem pwmSet_mod (g : PwmBlock → PwmBlock) : (s.pwmSet g).mod = s.mod := rfl
@[simp] theorem pwmSet_work (g : PwmBlock → PwmBlock) : (s.pwmSet g).work = s.work := rfl
@[simp] theorem pwmSet_mem (g : PwmBlock → PwmBlock) : (s.pwmSet g).mem = s.mem := rfl
@[simp] theorem pwmSet_tap (g : PwmBlock → PwmBlock) : (s.pwmSet g).tap = s.tap := rfl
@[simp] theorem pwmSet_freeCtr (g : PwmBlock → PwmBlock) : (s.pwmSet g).freeCtr = s.freeCtr := rfl
@[simp] theorem pwmSet_out (g : PwmBlock → PwmBlock) : (s.pwmSet g).out = s.out := rfl
@[simp] theorem pwmSet_pending (g : PwmBlock → PwmBlock) : (s.pwmSet g).pending = s.pending := rfl

@[simp] theorem batSet_objs (g : BatBlock → BatBlock) : (s.batSet g).objs = s.objs := rfl
@[simp] theorem batSet_doms (g : BatBlock → BatBlock) : (s.batSet g).doms = s.doms := rfl
@[simp] theorem batSet_regs (g : BatBlock → BatBlock) : (s.batSet g).regs = s.regs := rfl
@[simp] theorem batSet_pw (g : BatBlock → BatBlock) : (s.batSet g).pw = s.pw := rfl
@[simp] theorem batSet_tm (g : BatBlock → BatBlock) : (s.batSet g).tm = s.tm := rfl
@[simp] theorem batSet_flt (g : BatBlock → BatBlock) : (s.batSet g).flt = s.flt := rfl
@[simp] theorem batSet_irq (g : BatBlock → BatBlock) : (s.batSet g).irq = s.irq := rfl
@[simp] theorem batSet_dsp (g : BatBlock → BatBlock) : (s.batSet g).dsp = s.dsp := rfl
@[simp] theorem batSet_seat (g : BatBlock → BatBlock) : (s.batSet g).seat = s.seat := rfl
@[simp] theorem batSet_ring (g : BatBlock → BatBlock) : (s.batSet g).ring = s.ring := rfl
@[simp] theorem batSet_xl (g : BatBlock → BatBlock) : (s.batSet g).xl = s.xl := rfl
@[simp] theorem batSet_pair (g : BatBlock → BatBlock) : (s.batSet g).pair = s.pair := rfl
@[simp] theorem batSet_pwm (g : BatBlock → BatBlock) : (s.batSet g).pwm = s.pwm := rfl
@[simp] theorem batSet_bat (g : BatBlock → BatBlock) : (s.batSet g).bat = g s.bat := rfl
@[simp] theorem batSet_adc (g : BatBlock → BatBlock) : (s.batSet g).adc = s.adc := rfl
@[simp] theorem batSet_loop (g : BatBlock → BatBlock) : (s.batSet g).loop = s.loop := rfl
@[simp] theorem batSet_cap (g : BatBlock → BatBlock) : (s.batSet g).cap = s.cap := rfl
@[simp] theorem batSet_sl (g : BatBlock → BatBlock) : (s.batSet g).sl = s.sl := rfl
@[simp] theorem batSet_saf (g : BatBlock → BatBlock) : (s.batSet g).saf = s.saf := rfl
@[simp] theorem batSet_mod (g : BatBlock → BatBlock) : (s.batSet g).mod = s.mod := rfl
@[simp] theorem batSet_work (g : BatBlock → BatBlock) : (s.batSet g).work = s.work := rfl
@[simp] theorem batSet_mem (g : BatBlock → BatBlock) : (s.batSet g).mem = s.mem := rfl
@[simp] theorem batSet_tap (g : BatBlock → BatBlock) : (s.batSet g).tap = s.tap := rfl
@[simp] theorem batSet_freeCtr (g : BatBlock → BatBlock) : (s.batSet g).freeCtr = s.freeCtr := rfl
@[simp] theorem batSet_out (g : BatBlock → BatBlock) : (s.batSet g).out = s.out := rfl
@[simp] theorem batSet_pending (g : BatBlock → BatBlock) : (s.batSet g).pending = s.pending := rfl

@[simp] theorem adcSet_objs (g : AdcBlock → AdcBlock) : (s.adcSet g).objs = s.objs := rfl
@[simp] theorem adcSet_doms (g : AdcBlock → AdcBlock) : (s.adcSet g).doms = s.doms := rfl
@[simp] theorem adcSet_regs (g : AdcBlock → AdcBlock) : (s.adcSet g).regs = s.regs := rfl
@[simp] theorem adcSet_pw (g : AdcBlock → AdcBlock) : (s.adcSet g).pw = s.pw := rfl
@[simp] theorem adcSet_tm (g : AdcBlock → AdcBlock) : (s.adcSet g).tm = s.tm := rfl
@[simp] theorem adcSet_flt (g : AdcBlock → AdcBlock) : (s.adcSet g).flt = s.flt := rfl
@[simp] theorem adcSet_irq (g : AdcBlock → AdcBlock) : (s.adcSet g).irq = s.irq := rfl
@[simp] theorem adcSet_dsp (g : AdcBlock → AdcBlock) : (s.adcSet g).dsp = s.dsp := rfl
@[simp] theorem adcSet_seat (g : AdcBlock → AdcBlock) : (s.adcSet g).seat = s.seat := rfl
@[simp] theorem adcSet_ring (g : AdcBlock → AdcBlock) : (s.adcSet g).ring = s.ring := rfl
@[simp] theorem adcSet_xl (g : AdcBlock → AdcBlock) : (s.adcSet g).xl = s.xl := rfl
@[simp] theorem adcSet_pair (g : AdcBlock → AdcBlock) : (s.adcSet g).pair = s.pair := rfl
@[simp] theorem adcSet_pwm (g : AdcBlock → AdcBlock) : (s.adcSet g).pwm = s.pwm := rfl
@[simp] theorem adcSet_bat (g : AdcBlock → AdcBlock) : (s.adcSet g).bat = s.bat := rfl
@[simp] theorem adcSet_adc (g : AdcBlock → AdcBlock) : (s.adcSet g).adc = g s.adc := rfl
@[simp] theorem adcSet_loop (g : AdcBlock → AdcBlock) : (s.adcSet g).loop = s.loop := rfl
@[simp] theorem adcSet_cap (g : AdcBlock → AdcBlock) : (s.adcSet g).cap = s.cap := rfl
@[simp] theorem adcSet_sl (g : AdcBlock → AdcBlock) : (s.adcSet g).sl = s.sl := rfl
@[simp] theorem adcSet_saf (g : AdcBlock → AdcBlock) : (s.adcSet g).saf = s.saf := rfl
@[simp] theorem adcSet_mod (g : AdcBlock → AdcBlock) : (s.adcSet g).mod = s.mod := rfl
@[simp] theorem adcSet_work (g : AdcBlock → AdcBlock) : (s.adcSet g).work = s.work := rfl
@[simp] theorem adcSet_mem (g : AdcBlock → AdcBlock) : (s.adcSet g).mem = s.mem := rfl
@[simp] theorem adcSet_tap (g : AdcBlock → AdcBlock) : (s.adcSet g).tap = s.tap := rfl
@[simp] theorem adcSet_freeCtr (g : AdcBlock → AdcBlock) : (s.adcSet g).freeCtr = s.freeCtr := rfl
@[simp] theorem adcSet_out (g : AdcBlock → AdcBlock) : (s.adcSet g).out = s.out := rfl
@[simp] theorem adcSet_pending (g : AdcBlock → AdcBlock) : (s.adcSet g).pending = s.pending := rfl

@[simp] theorem loopSet_objs (g : LoopBlock → LoopBlock) : (s.loopSet g).objs = s.objs := rfl
@[simp] theorem loopSet_doms (g : LoopBlock → LoopBlock) : (s.loopSet g).doms = s.doms := rfl
@[simp] theorem loopSet_regs (g : LoopBlock → LoopBlock) : (s.loopSet g).regs = s.regs := rfl
@[simp] theorem loopSet_pw (g : LoopBlock → LoopBlock) : (s.loopSet g).pw = s.pw := rfl
@[simp] theorem loopSet_tm (g : LoopBlock → LoopBlock) : (s.loopSet g).tm = s.tm := rfl
@[simp] theorem loopSet_flt (g : LoopBlock → LoopBlock) : (s.loopSet g).flt = s.flt := rfl
@[simp] theorem loopSet_irq (g : LoopBlock → LoopBlock) : (s.loopSet g).irq = s.irq := rfl
@[simp] theorem loopSet_dsp (g : LoopBlock → LoopBlock) : (s.loopSet g).dsp = s.dsp := rfl
@[simp] theorem loopSet_seat (g : LoopBlock → LoopBlock) : (s.loopSet g).seat = s.seat := rfl
@[simp] theorem loopSet_ring (g : LoopBlock → LoopBlock) : (s.loopSet g).ring = s.ring := rfl
@[simp] theorem loopSet_xl (g : LoopBlock → LoopBlock) : (s.loopSet g).xl = s.xl := rfl
@[simp] theorem loopSet_pair (g : LoopBlock → LoopBlock) : (s.loopSet g).pair = s.pair := rfl
@[simp] theorem loopSet_pwm (g : LoopBlock → LoopBlock) : (s.loopSet g).pwm = s.pwm := rfl
@[simp] theorem loopSet_bat (g : LoopBlock → LoopBlock) : (s.loopSet g).bat = s.bat := rfl
@[simp] theorem loopSet_adc (g : LoopBlock → LoopBlock) : (s.loopSet g).adc = s.adc := rfl
@[simp] theorem loopSet_loop (g : LoopBlock → LoopBlock) : (s.loopSet g).loop = g s.loop := rfl
@[simp] theorem loopSet_cap (g : LoopBlock → LoopBlock) : (s.loopSet g).cap = s.cap := rfl
@[simp] theorem loopSet_sl (g : LoopBlock → LoopBlock) : (s.loopSet g).sl = s.sl := rfl
@[simp] theorem loopSet_saf (g : LoopBlock → LoopBlock) : (s.loopSet g).saf = s.saf := rfl
@[simp] theorem loopSet_mod (g : LoopBlock → LoopBlock) : (s.loopSet g).mod = s.mod := rfl
@[simp] theorem loopSet_work (g : LoopBlock → LoopBlock) : (s.loopSet g).work = s.work := rfl
@[simp] theorem loopSet_mem (g : LoopBlock → LoopBlock) : (s.loopSet g).mem = s.mem := rfl
@[simp] theorem loopSet_tap (g : LoopBlock → LoopBlock) : (s.loopSet g).tap = s.tap := rfl
@[simp] theorem loopSet_freeCtr (g : LoopBlock → LoopBlock) : (s.loopSet g).freeCtr = s.freeCtr := rfl
@[simp] theorem loopSet_out (g : LoopBlock → LoopBlock) : (s.loopSet g).out = s.out := rfl
@[simp] theorem loopSet_pending (g : LoopBlock → LoopBlock) : (s.loopSet g).pending = s.pending := rfl

@[simp] theorem capSet_objs (g : CapBlock → CapBlock) : (s.capSet g).objs = s.objs := rfl
@[simp] theorem capSet_doms (g : CapBlock → CapBlock) : (s.capSet g).doms = s.doms := rfl
@[simp] theorem capSet_regs (g : CapBlock → CapBlock) : (s.capSet g).regs = s.regs := rfl
@[simp] theorem capSet_pw (g : CapBlock → CapBlock) : (s.capSet g).pw = s.pw := rfl
@[simp] theorem capSet_tm (g : CapBlock → CapBlock) : (s.capSet g).tm = s.tm := rfl
@[simp] theorem capSet_flt (g : CapBlock → CapBlock) : (s.capSet g).flt = s.flt := rfl
@[simp] theorem capSet_irq (g : CapBlock → CapBlock) : (s.capSet g).irq = s.irq := rfl
@[simp] theorem capSet_dsp (g : CapBlock → CapBlock) : (s.capSet g).dsp = s.dsp := rfl
@[simp] theorem capSet_seat (g : CapBlock → CapBlock) : (s.capSet g).seat = s.seat := rfl
@[simp] theorem capSet_ring (g : CapBlock → CapBlock) : (s.capSet g).ring = s.ring := rfl
@[simp] theorem capSet_xl (g : CapBlock → CapBlock) : (s.capSet g).xl = s.xl := rfl
@[simp] theorem capSet_pair (g : CapBlock → CapBlock) : (s.capSet g).pair = s.pair := rfl
@[simp] theorem capSet_pwm (g : CapBlock → CapBlock) : (s.capSet g).pwm = s.pwm := rfl
@[simp] theorem capSet_bat (g : CapBlock → CapBlock) : (s.capSet g).bat = s.bat := rfl
@[simp] theorem capSet_adc (g : CapBlock → CapBlock) : (s.capSet g).adc = s.adc := rfl
@[simp] theorem capSet_loop (g : CapBlock → CapBlock) : (s.capSet g).loop = s.loop := rfl
@[simp] theorem capSet_cap (g : CapBlock → CapBlock) : (s.capSet g).cap = g s.cap := rfl
@[simp] theorem capSet_sl (g : CapBlock → CapBlock) : (s.capSet g).sl = s.sl := rfl
@[simp] theorem capSet_saf (g : CapBlock → CapBlock) : (s.capSet g).saf = s.saf := rfl
@[simp] theorem capSet_mod (g : CapBlock → CapBlock) : (s.capSet g).mod = s.mod := rfl
@[simp] theorem capSet_work (g : CapBlock → CapBlock) : (s.capSet g).work = s.work := rfl
@[simp] theorem capSet_mem (g : CapBlock → CapBlock) : (s.capSet g).mem = s.mem := rfl
@[simp] theorem capSet_tap (g : CapBlock → CapBlock) : (s.capSet g).tap = s.tap := rfl
@[simp] theorem capSet_freeCtr (g : CapBlock → CapBlock) : (s.capSet g).freeCtr = s.freeCtr := rfl
@[simp] theorem capSet_out (g : CapBlock → CapBlock) : (s.capSet g).out = s.out := rfl
@[simp] theorem capSet_pending (g : CapBlock → CapBlock) : (s.capSet g).pending = s.pending := rfl

@[simp] theorem slSet_objs (g : SlBlock → SlBlock) : (s.slSet g).objs = s.objs := rfl
@[simp] theorem slSet_doms (g : SlBlock → SlBlock) : (s.slSet g).doms = s.doms := rfl
@[simp] theorem slSet_regs (g : SlBlock → SlBlock) : (s.slSet g).regs = s.regs := rfl
@[simp] theorem slSet_pw (g : SlBlock → SlBlock) : (s.slSet g).pw = s.pw := rfl
@[simp] theorem slSet_tm (g : SlBlock → SlBlock) : (s.slSet g).tm = s.tm := rfl
@[simp] theorem slSet_flt (g : SlBlock → SlBlock) : (s.slSet g).flt = s.flt := rfl
@[simp] theorem slSet_irq (g : SlBlock → SlBlock) : (s.slSet g).irq = s.irq := rfl
@[simp] theorem slSet_dsp (g : SlBlock → SlBlock) : (s.slSet g).dsp = s.dsp := rfl
@[simp] theorem slSet_seat (g : SlBlock → SlBlock) : (s.slSet g).seat = s.seat := rfl
@[simp] theorem slSet_ring (g : SlBlock → SlBlock) : (s.slSet g).ring = s.ring := rfl
@[simp] theorem slSet_xl (g : SlBlock → SlBlock) : (s.slSet g).xl = s.xl := rfl
@[simp] theorem slSet_pair (g : SlBlock → SlBlock) : (s.slSet g).pair = s.pair := rfl
@[simp] theorem slSet_pwm (g : SlBlock → SlBlock) : (s.slSet g).pwm = s.pwm := rfl
@[simp] theorem slSet_bat (g : SlBlock → SlBlock) : (s.slSet g).bat = s.bat := rfl
@[simp] theorem slSet_adc (g : SlBlock → SlBlock) : (s.slSet g).adc = s.adc := rfl
@[simp] theorem slSet_loop (g : SlBlock → SlBlock) : (s.slSet g).loop = s.loop := rfl
@[simp] theorem slSet_cap (g : SlBlock → SlBlock) : (s.slSet g).cap = s.cap := rfl
@[simp] theorem slSet_sl (g : SlBlock → SlBlock) : (s.slSet g).sl = g s.sl := rfl
@[simp] theorem slSet_saf (g : SlBlock → SlBlock) : (s.slSet g).saf = s.saf := rfl
@[simp] theorem slSet_mod (g : SlBlock → SlBlock) : (s.slSet g).mod = s.mod := rfl
@[simp] theorem slSet_work (g : SlBlock → SlBlock) : (s.slSet g).work = s.work := rfl
@[simp] theorem slSet_mem (g : SlBlock → SlBlock) : (s.slSet g).mem = s.mem := rfl
@[simp] theorem slSet_tap (g : SlBlock → SlBlock) : (s.slSet g).tap = s.tap := rfl
@[simp] theorem slSet_freeCtr (g : SlBlock → SlBlock) : (s.slSet g).freeCtr = s.freeCtr := rfl
@[simp] theorem slSet_out (g : SlBlock → SlBlock) : (s.slSet g).out = s.out := rfl
@[simp] theorem slSet_pending (g : SlBlock → SlBlock) : (s.slSet g).pending = s.pending := rfl

@[simp] theorem safSet_objs (g : SafBlock → SafBlock) : (s.safSet g).objs = s.objs := rfl
@[simp] theorem safSet_doms (g : SafBlock → SafBlock) : (s.safSet g).doms = s.doms := rfl
@[simp] theorem safSet_regs (g : SafBlock → SafBlock) : (s.safSet g).regs = s.regs := rfl
@[simp] theorem safSet_pw (g : SafBlock → SafBlock) : (s.safSet g).pw = s.pw := rfl
@[simp] theorem safSet_tm (g : SafBlock → SafBlock) : (s.safSet g).tm = s.tm := rfl
@[simp] theorem safSet_flt (g : SafBlock → SafBlock) : (s.safSet g).flt = s.flt := rfl
@[simp] theorem safSet_irq (g : SafBlock → SafBlock) : (s.safSet g).irq = s.irq := rfl
@[simp] theorem safSet_dsp (g : SafBlock → SafBlock) : (s.safSet g).dsp = s.dsp := rfl
@[simp] theorem safSet_seat (g : SafBlock → SafBlock) : (s.safSet g).seat = s.seat := rfl
@[simp] theorem safSet_ring (g : SafBlock → SafBlock) : (s.safSet g).ring = s.ring := rfl
@[simp] theorem safSet_xl (g : SafBlock → SafBlock) : (s.safSet g).xl = s.xl := rfl
@[simp] theorem safSet_pair (g : SafBlock → SafBlock) : (s.safSet g).pair = s.pair := rfl
@[simp] theorem safSet_pwm (g : SafBlock → SafBlock) : (s.safSet g).pwm = s.pwm := rfl
@[simp] theorem safSet_bat (g : SafBlock → SafBlock) : (s.safSet g).bat = s.bat := rfl
@[simp] theorem safSet_adc (g : SafBlock → SafBlock) : (s.safSet g).adc = s.adc := rfl
@[simp] theorem safSet_loop (g : SafBlock → SafBlock) : (s.safSet g).loop = s.loop := rfl
@[simp] theorem safSet_cap (g : SafBlock → SafBlock) : (s.safSet g).cap = s.cap := rfl
@[simp] theorem safSet_sl (g : SafBlock → SafBlock) : (s.safSet g).sl = s.sl := rfl
@[simp] theorem safSet_saf (g : SafBlock → SafBlock) : (s.safSet g).saf = g s.saf := rfl
@[simp] theorem safSet_mod (g : SafBlock → SafBlock) : (s.safSet g).mod = s.mod := rfl
@[simp] theorem safSet_work (g : SafBlock → SafBlock) : (s.safSet g).work = s.work := rfl
@[simp] theorem safSet_mem (g : SafBlock → SafBlock) : (s.safSet g).mem = s.mem := rfl
@[simp] theorem safSet_tap (g : SafBlock → SafBlock) : (s.safSet g).tap = s.tap := rfl
@[simp] theorem safSet_freeCtr (g : SafBlock → SafBlock) : (s.safSet g).freeCtr = s.freeCtr := rfl
@[simp] theorem safSet_out (g : SafBlock → SafBlock) : (s.safSet g).out = s.out := rfl
@[simp] theorem safSet_pending (g : SafBlock → SafBlock) : (s.safSet g).pending = s.pending := rfl

@[simp] theorem modSet_objs (g : ModBlock → ModBlock) : (s.modSet g).objs = s.objs := rfl
@[simp] theorem modSet_doms (g : ModBlock → ModBlock) : (s.modSet g).doms = s.doms := rfl
@[simp] theorem modSet_regs (g : ModBlock → ModBlock) : (s.modSet g).regs = s.regs := rfl
@[simp] theorem modSet_pw (g : ModBlock → ModBlock) : (s.modSet g).pw = s.pw := rfl
@[simp] theorem modSet_tm (g : ModBlock → ModBlock) : (s.modSet g).tm = s.tm := rfl
@[simp] theorem modSet_flt (g : ModBlock → ModBlock) : (s.modSet g).flt = s.flt := rfl
@[simp] theorem modSet_irq (g : ModBlock → ModBlock) : (s.modSet g).irq = s.irq := rfl
@[simp] theorem modSet_dsp (g : ModBlock → ModBlock) : (s.modSet g).dsp = s.dsp := rfl
@[simp] theorem modSet_seat (g : ModBlock → ModBlock) : (s.modSet g).seat = s.seat := rfl
@[simp] theorem modSet_ring (g : ModBlock → ModBlock) : (s.modSet g).ring = s.ring := rfl
@[simp] theorem modSet_xl (g : ModBlock → ModBlock) : (s.modSet g).xl = s.xl := rfl
@[simp] theorem modSet_pair (g : ModBlock → ModBlock) : (s.modSet g).pair = s.pair := rfl
@[simp] theorem modSet_pwm (g : ModBlock → ModBlock) : (s.modSet g).pwm = s.pwm := rfl
@[simp] theorem modSet_bat (g : ModBlock → ModBlock) : (s.modSet g).bat = s.bat := rfl
@[simp] theorem modSet_adc (g : ModBlock → ModBlock) : (s.modSet g).adc = s.adc := rfl
@[simp] theorem modSet_loop (g : ModBlock → ModBlock) : (s.modSet g).loop = s.loop := rfl
@[simp] theorem modSet_cap (g : ModBlock → ModBlock) : (s.modSet g).cap = s.cap := rfl
@[simp] theorem modSet_sl (g : ModBlock → ModBlock) : (s.modSet g).sl = s.sl := rfl
@[simp] theorem modSet_saf (g : ModBlock → ModBlock) : (s.modSet g).saf = s.saf := rfl
@[simp] theorem modSet_mod (g : ModBlock → ModBlock) : (s.modSet g).mod = g s.mod := rfl
@[simp] theorem modSet_work (g : ModBlock → ModBlock) : (s.modSet g).work = s.work := rfl
@[simp] theorem modSet_mem (g : ModBlock → ModBlock) : (s.modSet g).mem = s.mem := rfl
@[simp] theorem modSet_tap (g : ModBlock → ModBlock) : (s.modSet g).tap = s.tap := rfl
@[simp] theorem modSet_freeCtr (g : ModBlock → ModBlock) : (s.modSet g).freeCtr = s.freeCtr := rfl
@[simp] theorem modSet_out (g : ModBlock → ModBlock) : (s.modSet g).out = s.out := rfl
@[simp] theorem modSet_pending (g : ModBlock → ModBlock) : (s.modSet g).pending = s.pending := rfl

@[simp] theorem workSet_objs (g : WorkBlock → WorkBlock) : (s.workSet g).objs = s.objs := rfl
@[simp] theorem workSet_doms (g : WorkBlock → WorkBlock) : (s.workSet g).doms = s.doms := rfl
@[simp] theorem workSet_regs (g : WorkBlock → WorkBlock) : (s.workSet g).regs = s.regs := rfl
@[simp] theorem workSet_pw (g : WorkBlock → WorkBlock) : (s.workSet g).pw = s.pw := rfl
@[simp] theorem workSet_tm (g : WorkBlock → WorkBlock) : (s.workSet g).tm = s.tm := rfl
@[simp] theorem workSet_flt (g : WorkBlock → WorkBlock) : (s.workSet g).flt = s.flt := rfl
@[simp] theorem workSet_irq (g : WorkBlock → WorkBlock) : (s.workSet g).irq = s.irq := rfl
@[simp] theorem workSet_dsp (g : WorkBlock → WorkBlock) : (s.workSet g).dsp = s.dsp := rfl
@[simp] theorem workSet_seat (g : WorkBlock → WorkBlock) : (s.workSet g).seat = s.seat := rfl
@[simp] theorem workSet_ring (g : WorkBlock → WorkBlock) : (s.workSet g).ring = s.ring := rfl
@[simp] theorem workSet_xl (g : WorkBlock → WorkBlock) : (s.workSet g).xl = s.xl := rfl
@[simp] theorem workSet_pair (g : WorkBlock → WorkBlock) : (s.workSet g).pair = s.pair := rfl
@[simp] theorem workSet_pwm (g : WorkBlock → WorkBlock) : (s.workSet g).pwm = s.pwm := rfl
@[simp] theorem workSet_bat (g : WorkBlock → WorkBlock) : (s.workSet g).bat = s.bat := rfl
@[simp] theorem workSet_adc (g : WorkBlock → WorkBlock) : (s.workSet g).adc = s.adc := rfl
@[simp] theorem workSet_loop (g : WorkBlock → WorkBlock) : (s.workSet g).loop = s.loop := rfl
@[simp] theorem workSet_cap (g : WorkBlock → WorkBlock) : (s.workSet g).cap = s.cap := rfl
@[simp] theorem workSet_sl (g : WorkBlock → WorkBlock) : (s.workSet g).sl = s.sl := rfl
@[simp] theorem workSet_saf (g : WorkBlock → WorkBlock) : (s.workSet g).saf = s.saf := rfl
@[simp] theorem workSet_mod (g : WorkBlock → WorkBlock) : (s.workSet g).mod = s.mod := rfl
@[simp] theorem workSet_work (g : WorkBlock → WorkBlock) : (s.workSet g).work = g s.work := rfl
@[simp] theorem workSet_mem (g : WorkBlock → WorkBlock) : (s.workSet g).mem = s.mem := rfl
@[simp] theorem workSet_tap (g : WorkBlock → WorkBlock) : (s.workSet g).tap = s.tap := rfl
@[simp] theorem workSet_freeCtr (g : WorkBlock → WorkBlock) : (s.workSet g).freeCtr = s.freeCtr := rfl
@[simp] theorem workSet_out (g : WorkBlock → WorkBlock) : (s.workSet g).out = s.out := rfl
@[simp] theorem workSet_pending (g : WorkBlock → WorkBlock) : (s.workSet g).pending = s.pending := rfl

@[simp] theorem memSet_objs (g : MemBlock → MemBlock) : (s.memSet g).objs = s.objs := rfl
@[simp] theorem memSet_doms (g : MemBlock → MemBlock) : (s.memSet g).doms = s.doms := rfl
@[simp] theorem memSet_regs (g : MemBlock → MemBlock) : (s.memSet g).regs = s.regs := rfl
@[simp] theorem memSet_pw (g : MemBlock → MemBlock) : (s.memSet g).pw = s.pw := rfl
@[simp] theorem memSet_tm (g : MemBlock → MemBlock) : (s.memSet g).tm = s.tm := rfl
@[simp] theorem memSet_flt (g : MemBlock → MemBlock) : (s.memSet g).flt = s.flt := rfl
@[simp] theorem memSet_irq (g : MemBlock → MemBlock) : (s.memSet g).irq = s.irq := rfl
@[simp] theorem memSet_dsp (g : MemBlock → MemBlock) : (s.memSet g).dsp = s.dsp := rfl
@[simp] theorem memSet_seat (g : MemBlock → MemBlock) : (s.memSet g).seat = s.seat := rfl
@[simp] theorem memSet_ring (g : MemBlock → MemBlock) : (s.memSet g).ring = s.ring := rfl
@[simp] theorem memSet_xl (g : MemBlock → MemBlock) : (s.memSet g).xl = s.xl := rfl
@[simp] theorem memSet_pair (g : MemBlock → MemBlock) : (s.memSet g).pair = s.pair := rfl
@[simp] theorem memSet_pwm (g : MemBlock → MemBlock) : (s.memSet g).pwm = s.pwm := rfl
@[simp] theorem memSet_bat (g : MemBlock → MemBlock) : (s.memSet g).bat = s.bat := rfl
@[simp] theorem memSet_adc (g : MemBlock → MemBlock) : (s.memSet g).adc = s.adc := rfl
@[simp] theorem memSet_loop (g : MemBlock → MemBlock) : (s.memSet g).loop = s.loop := rfl
@[simp] theorem memSet_cap (g : MemBlock → MemBlock) : (s.memSet g).cap = s.cap := rfl
@[simp] theorem memSet_sl (g : MemBlock → MemBlock) : (s.memSet g).sl = s.sl := rfl
@[simp] theorem memSet_saf (g : MemBlock → MemBlock) : (s.memSet g).saf = s.saf := rfl
@[simp] theorem memSet_mod (g : MemBlock → MemBlock) : (s.memSet g).mod = s.mod := rfl
@[simp] theorem memSet_work (g : MemBlock → MemBlock) : (s.memSet g).work = s.work := rfl
@[simp] theorem memSet_mem (g : MemBlock → MemBlock) : (s.memSet g).mem = g s.mem := rfl
@[simp] theorem memSet_tap (g : MemBlock → MemBlock) : (s.memSet g).tap = s.tap := rfl
@[simp] theorem memSet_freeCtr (g : MemBlock → MemBlock) : (s.memSet g).freeCtr = s.freeCtr := rfl
@[simp] theorem memSet_out (g : MemBlock → MemBlock) : (s.memSet g).out = s.out := rfl
@[simp] theorem memSet_pending (g : MemBlock → MemBlock) : (s.memSet g).pending = s.pending := rfl

@[simp] theorem oset_objs (k : Nat) (v : Nat) : (s.oset k v).objs = Kv.put Dict.dflt k v s.objs := rfl
@[simp] theorem oset_doms (k : Nat) (v : Nat) : (s.oset k v).doms = s.doms := rfl
@[simp] theorem oset_regs (k : Nat) (v : Nat) : (s.oset k v).regs = s.regs := rfl
@[simp] theorem oset_pw (k : Nat) (v : Nat) : (s.oset k v).pw = s.pw := rfl
@[simp] theorem oset_tm (k : Nat) (v : Nat) : (s.oset k v).tm = s.tm := rfl
@[simp] theorem oset_flt (k : Nat) (v : Nat) : (s.oset k v).flt = s.flt := rfl
@[simp] theorem oset_irq (k : Nat) (v : Nat) : (s.oset k v).irq = s.irq := rfl
@[simp] theorem oset_dsp (k : Nat) (v : Nat) : (s.oset k v).dsp = s.dsp := rfl
@[simp] theorem oset_seat (k : Nat) (v : Nat) : (s.oset k v).seat = s.seat := rfl
@[simp] theorem oset_ring (k : Nat) (v : Nat) : (s.oset k v).ring = s.ring := rfl
@[simp] theorem oset_xl (k : Nat) (v : Nat) : (s.oset k v).xl = s.xl := rfl
@[simp] theorem oset_pair (k : Nat) (v : Nat) : (s.oset k v).pair = s.pair := rfl
@[simp] theorem oset_pwm (k : Nat) (v : Nat) : (s.oset k v).pwm = s.pwm := rfl
@[simp] theorem oset_bat (k : Nat) (v : Nat) : (s.oset k v).bat = s.bat := rfl
@[simp] theorem oset_adc (k : Nat) (v : Nat) : (s.oset k v).adc = s.adc := rfl
@[simp] theorem oset_loop (k : Nat) (v : Nat) : (s.oset k v).loop = s.loop := rfl
@[simp] theorem oset_cap (k : Nat) (v : Nat) : (s.oset k v).cap = s.cap := rfl
@[simp] theorem oset_sl (k : Nat) (v : Nat) : (s.oset k v).sl = s.sl := rfl
@[simp] theorem oset_saf (k : Nat) (v : Nat) : (s.oset k v).saf = s.saf := rfl
@[simp] theorem oset_mod (k : Nat) (v : Nat) : (s.oset k v).mod = s.mod := rfl
@[simp] theorem oset_work (k : Nat) (v : Nat) : (s.oset k v).work = s.work := rfl
@[simp] theorem oset_mem (k : Nat) (v : Nat) : (s.oset k v).mem = s.mem := rfl
@[simp] theorem oset_tap (k : Nat) (v : Nat) : (s.oset k v).tap = s.tap := rfl
@[simp] theorem oset_freeCtr (k : Nat) (v : Nat) : (s.oset k v).freeCtr = s.freeCtr := rfl
@[simp] theorem oset_out (k : Nat) (v : Nat) : (s.oset k v).out = s.out := rfl
@[simp] theorem oset_pending (k : Nat) (v : Nat) : (s.oset k v).pending = s.pending := rfl

@[simp] theorem dset_objs (k : Nat) (v : Bytes) : (s.dset k v).objs = s.objs := rfl
@[simp] theorem dset_doms (k : Nat) (v : Bytes) : (s.dset k v).doms = Kv.put Dict.domDflt k v s.doms := rfl
@[simp] theorem dset_regs (k : Nat) (v : Bytes) : (s.dset k v).regs = s.regs := rfl
@[simp] theorem dset_pw (k : Nat) (v : Bytes) : (s.dset k v).pw = s.pw := rfl
@[simp] theorem dset_tm (k : Nat) (v : Bytes) : (s.dset k v).tm = s.tm := rfl
@[simp] theorem dset_flt (k : Nat) (v : Bytes) : (s.dset k v).flt = s.flt := rfl
@[simp] theorem dset_irq (k : Nat) (v : Bytes) : (s.dset k v).irq = s.irq := rfl
@[simp] theorem dset_dsp (k : Nat) (v : Bytes) : (s.dset k v).dsp = s.dsp := rfl
@[simp] theorem dset_seat (k : Nat) (v : Bytes) : (s.dset k v).seat = s.seat := rfl
@[simp] theorem dset_ring (k : Nat) (v : Bytes) : (s.dset k v).ring = s.ring := rfl
@[simp] theorem dset_xl (k : Nat) (v : Bytes) : (s.dset k v).xl = s.xl := rfl
@[simp] theorem dset_pair (k : Nat) (v : Bytes) : (s.dset k v).pair = s.pair := rfl
@[simp] theorem dset_pwm (k : Nat) (v : Bytes) : (s.dset k v).pwm = s.pwm := rfl
@[simp] theorem dset_bat (k : Nat) (v : Bytes) : (s.dset k v).bat = s.bat := rfl
@[simp] theorem dset_adc (k : Nat) (v : Bytes) : (s.dset k v).adc = s.adc := rfl
@[simp] theorem dset_loop (k : Nat) (v : Bytes) : (s.dset k v).loop = s.loop := rfl
@[simp] theorem dset_cap (k : Nat) (v : Bytes) : (s.dset k v).cap = s.cap := rfl
@[simp] theorem dset_sl (k : Nat) (v : Bytes) : (s.dset k v).sl = s.sl := rfl
@[simp] theorem dset_saf (k : Nat) (v : Bytes) : (s.dset k v).saf = s.saf := rfl
@[simp] theorem dset_mod (k : Nat) (v : Bytes) : (s.dset k v).mod = s.mod := rfl
@[simp] theorem dset_work (k : Nat) (v : Bytes) : (s.dset k v).work = s.work := rfl
@[simp] theorem dset_mem (k : Nat) (v : Bytes) : (s.dset k v).mem = s.mem := rfl
@[simp] theorem dset_tap (k : Nat) (v : Bytes) : (s.dset k v).tap = s.tap := rfl
@[simp] theorem dset_freeCtr (k : Nat) (v : Bytes) : (s.dset k v).freeCtr = s.freeCtr := rfl
@[simp] theorem dset_out (k : Nat) (v : Bytes) : (s.dset k v).out = s.out := rfl
@[simp] theorem dset_pending (k : Nat) (v : Bytes) : (s.dset k v).pending = s.pending := rfl

@[simp] theorem rset_objs (k : Nat) (v : Nat) : (s.rset k v).objs = s.objs := rfl
@[simp] theorem rset_doms (k : Nat) (v : Nat) : (s.rset k v).doms = s.doms := rfl
@[simp] theorem rset_regs (k : Nat) (v : Nat) : (s.rset k v).regs = Kv.put regReset k v s.regs := rfl
@[simp] theorem rset_pw (k : Nat) (v : Nat) : (s.rset k v).pw = s.pw := rfl
@[simp] theorem rset_tm (k : Nat) (v : Nat) : (s.rset k v).tm = s.tm := rfl
@[simp] theorem rset_flt (k : Nat) (v : Nat) : (s.rset k v).flt = s.flt := rfl
@[simp] theorem rset_irq (k : Nat) (v : Nat) : (s.rset k v).irq = s.irq := rfl
@[simp] theorem rset_dsp (k : Nat) (v : Nat) : (s.rset k v).dsp = s.dsp := rfl
@[simp] theorem rset_seat (k : Nat) (v : Nat) : (s.rset k v).seat = s.seat := rfl
@[simp] theorem rset_ring (k : Nat) (v : Nat) : (s.rset k v).ring = s.ring := rfl
@[simp] theorem rset_xl (k : Nat) (v : Nat) : (s.rset k v).xl = s.xl := rfl
@[simp] theorem rset_pair (k : Nat) (v : Nat) : (s.rset k v).pair = s.pair := rfl
@[simp] theorem rset_pwm (k : Nat) (v : Nat) : (s.rset k v).pwm = s.pwm := rfl
@[simp] theorem rset_bat (k : Nat) (v : Nat) : (s.rset k v).bat = s.bat := rfl
@[simp] theorem rset_adc (k : Nat) (v : Nat) : (s.rset k v).adc = s.adc := rfl
@[simp] theorem rset_loop (k : Nat) (v : Nat) : (s.rset k v).loop = s.loop := rfl
@[simp] theorem rset_cap (k : Nat) (v : Nat) : (s.rset k v).cap = s.cap := rfl
@[simp] theorem rset_sl (k : Nat) (v : Nat) : (s.rset k v).sl = s.sl := rfl
@[simp] theorem rset_saf (k : Nat) (v : Nat) : (s.rset k v).saf = s.saf := rfl
@[simp] theorem rset_mod (k : Nat) (v : Nat) : (s.rset k v).mod = s.mod := rfl
@[simp] theorem rset_work (k : Nat) (v : Nat) : (s.rset k v).work = s.work := rfl
@[simp] theorem rset_mem (k : Nat) (v : Nat) : (s.rset k v).mem = s.mem := rfl
@[simp] theorem rset_tap (k : Nat) (v : Nat) : (s.rset k v).tap = s.tap := rfl
@[simp] theorem rset_freeCtr (k : Nat) (v : Nat) : (s.rset k v).freeCtr = s.freeCtr := rfl
@[simp] theorem rset_out (k : Nat) (v : Nat) : (s.rset k v).out = s.out := rfl
@[simp] theorem rset_pending (k : Nat) (v : Nat) : (s.rset k v).pending = s.pending := rfl

@[simp] theorem emit_objs (e : Emit) : (s.emit e).objs = s.objs := rfl
@[simp] theorem emit_doms (e : Emit) : (s.emit e).doms = s.doms := rfl
@[simp] theorem emit_regs (e : Emit) : (s.emit e).regs = s.regs := rfl
@[simp] theorem emit_pw (e : Emit) : (s.emit e).pw = s.pw := rfl
@[simp] theorem emit_tm (e : Emit) : (s.emit e).tm = s.tm := rfl
@[simp] theorem emit_flt (e : Emit) : (s.emit e).flt = s.flt := rfl
@[simp] theorem emit_irq (e : Emit) : (s.emit e).irq = s.irq := rfl
@[simp] theorem emit_dsp (e : Emit) : (s.emit e).dsp = s.dsp := rfl
@[simp] theorem emit_seat (e : Emit) : (s.emit e).seat = s.seat := rfl
@[simp] theorem emit_ring (e : Emit) : (s.emit e).ring = s.ring := rfl
@[simp] theorem emit_xl (e : Emit) : (s.emit e).xl = s.xl := rfl
@[simp] theorem emit_pair (e : Emit) : (s.emit e).pair = s.pair := rfl
@[simp] theorem emit_pwm (e : Emit) : (s.emit e).pwm = s.pwm := rfl
@[simp] theorem emit_bat (e : Emit) : (s.emit e).bat = s.bat := rfl
@[simp] theorem emit_adc (e : Emit) : (s.emit e).adc = s.adc := rfl
@[simp] theorem emit_loop (e : Emit) : (s.emit e).loop = s.loop := rfl
@[simp] theorem emit_cap (e : Emit) : (s.emit e).cap = s.cap := rfl
@[simp] theorem emit_sl (e : Emit) : (s.emit e).sl = s.sl := rfl
@[simp] theorem emit_saf (e : Emit) : (s.emit e).saf = s.saf := rfl
@[simp] theorem emit_mod (e : Emit) : (s.emit e).mod = s.mod := rfl
@[simp] theorem emit_work (e : Emit) : (s.emit e).work = s.work := rfl
@[simp] theorem emit_mem (e : Emit) : (s.emit e).mem = s.mem := rfl
@[simp] theorem emit_tap (e : Emit) : (s.emit e).tap = s.tap := rfl
@[simp] theorem emit_freeCtr (e : Emit) : (s.emit e).freeCtr = s.freeCtr := rfl
@[simp] theorem emit_out (e : Emit) : (s.emit e).out = s.out ++ [e] := rfl
@[simp] theorem emit_pending (e : Emit) : (s.emit e).pending = s.pending := rfl

end Sys2Proof.Machine.State
end

