-- ==== Sys2Proof/Machine/Tap.lean ====
section
/-! DEFINITION. The JTAG port's test access port (R516) and which clock domains run (R501, R503). No command of the table
drives the port: its operations stand beside the state they change (notes/assumptions/45.md). -/

namespace Sys2Proof.Machine

/-- The balls of the boundary-scan chain, in the order of the ball map (Table 18-8): the digital balls but the lane balls
(R516), the port's own and the oscillator's. -/
def tapBalls : List String :=
  ["PERST_N", "QSA_CS_N", "QSA_SCK", "QSA_IO0", "QSA_IO1", "QSA_IO2", "QSA_IO3", "QSA_INT_N", "QSB_CS_N", "QSB_SCK", "QSB_IO0",
   "QSB_IO1", "QSB_IO2", "QSB_IO3", "QSB_INT_N", "ROLE", "RST_N", "SYNC", "PPS", "WAKE", "CAP0", "CAP1", "TRIP0", "TRIP1",
   "TRIP2", "TRIP3", "TRIP4", "TRIP5", "SI0", "SI1", "SI2", "SI3", "SI4", "SI5", "SI6", "SI7"] ++
  ["SO0", "SO1", "SO2", "SO3", "G0", "G1", "G2", "G3", "G4", "G5", "G6", "G7"]

/-- The IDCODE register (R516): version 0x1, part number 0x7256, the maker's number, which the spec does not give, and the
1 of IEEE 1149.1. -/
def tapIdcode : Nat := 0x1 * 2 ^ 28 + 0x7256 * 2 ^ 12 + Config.jtagMaker.toNat * 2 + 1

namespace State

/-- TRST_N low for at least 100 ns: Test-Logic-Reset, in which IEEE 1149.1 selects IDCODE. -/
def tapReset (s : State) : State := { s with tap := TapBlock.reset }

/-- An instruction is updated (R516). -/
def tapSelect (i : TapInstr) (s : State) : State := { s with tap := { s.tap with instr := i } }

/-- The level the part itself gives a ball of the chain: the outputs by their own state, an input by what drives it from
outside, which is free. -/
def tapOwn (s : State) (i : Nat) : Bool :=
  if i = 7 then !s.intLow 5
  else if i = 14 then !s.intLow 6
  else if 36 ≤ i ∧ i < 40 then (s.soRec (i - 36)).on
  else if 40 ≤ i ∧ i < 48 then hasBit s.pwm.level (i - 40)
  else hasBit (Config.freeValue (s.freeCtr + i)) 0

/-- The level at a ball of the chain: under EXTEST the boundary register's. -/
def tapBall (s : State) (i : Nat) : Bool :=
  if s.tap.instr = .extest then s.tap.bound.getD i false else s.tapOwn i

/-- What the selected data register captures, the bit next to TDO first: one 0 of BYPASS, the IDCODE, the chain's levels. -/
def tapCapture (s : State) : List Bool :=
  match s.tap.instr with
  | .bypass => [false]
  | .idcode => (List.range 32).map (fun i => hasBit tapIdcode i)
  | .sample | .extest => (List.range tapBalls.length).map s.tapOwn

/-- A shifted-in content is updated: only the boundary register holds it. -/
def tapUpdate (d : List Bool) (s : State) : State :=
  match s.tap.instr with
  | .sample | .extest => { s with tap := { s.tap with bound := d } }
  | _ => s

end State

/-! ### Clock domains (Table 18-4) -/

/-- The fourteen clock domains. -/
inductive ClockDomain where
  | ref | sys | ctl | mem | ltx | lrx | xlk | pwm | adc | eth | pci | qsp | aon | tck
  deriving DecidableEq, Repr

/-- Frequency in Hz; the highest of an external clock. -/
def clockHz : ClockDomain → Nat
  | .ref => 25000000
  | .sys | .pwm => 500000000
  | .ctl | .pci => 250000000
  | .mem => 800000000
  | .ltx | .lrx => 312500000
  | .xlk => 625000000
  | .adc => 80000000
  | .eth => 125000000
  | .qsp => 100000000
  | .aon => 32768
  | .tck => 25000000

/-- The domain has its clock (R501, R503): SYS and CTL go on from the backup oscillator, the lanes and PWM stop with PLL2
and PLL3, and in standby AON alone runs; QSP and TCK come from outside. -/
def clockRuns (s : State) (d : ClockDomain) : Bool :=
  match d with
  | .aon => s.pw.pwr != .off
  | .qsp | .tck => s.powered
  | .ref => s.powered && s.pw.refGood
  | .sys | .ctl => s.powered && hasBit s.pw.pll 0
  | .eth => s.powered && hasBit s.pw.pll 0
  | .mem | .adc => s.powered && hasBit s.pw.pll 1
  | .ltx | .lrx | .xlk => s.powered && hasBit s.pw.pll 2
  | .pwm => s.powered && hasBit s.pw.pll 3 && s.pw.pwmClock
  | .pci => s.powered && hasBit s.pw.pll 4

end Sys2Proof.Machine
end

