-- ==== Sys2Proof/WellFormed.lean ====
section
/-! DEFINITION. Well-formed commands: operands inside the ranges their fields have. -/

namespace Sys2Proof

/-- A ring port of Table 01-1. -/
def portOk (p : Nat) : Bool := decide (p < 12)
/-- A port that time frames and probes use: a ring port, or 12 + l for cross-link l. -/
def timePortOk (p : Nat) : Bool := decide (p < 15)
/-- A network port: A is 1, B is 2. -/
def netOk (p : Nat) : Bool := decide (1 ≤ p ∧ p ≤ 2)
def linkOk (l : Nat) : Bool := decide (l < 3)
def laneOk (l : Nat) : Bool := decide (l < 2)
/-- A frame fits the longest frame a node buffers (R108). -/
def frameOk (f : Bytes) : Bool := decide (f.length ≤ 2048)
def wordOk (v : Nat) : Bool := decide (v < 2 ^ 32)

/-- A seat of the mirror and a HOP session are in range. -/
def Accessor.wf : Accessor → Bool
  | .hop n => decide (1 ≤ n ∧ n ≤ 8)
  | .mirror n => decide (n < 4)
  | .core _ | .path _ | .ring _ _ | .engine => true

def Via.wf : Via → Bool
  | .obj a => a.wf
  | .reg _ => true

def SeqWrite.wf : SeqWrite → Bool
  | .table a _ d => a.wf && decide (d.length ≤ 256)
  | .entry _ _ _ v => wordOk v
  | .range a _ v => a.wf && wordOk v
  | .trig a _ v => a.wf && wordOk v

def SafeIn.wf : SafeIn → Bool
  | .ring p f _ => portOk p && frameOk f
  | .net _ m => frameOk m

/-- Every operand of a command is in range. -/
def Instr.wf : Instr → Bool
  | .powerOnReset => true
  | .rstNReset _ => true
  | .internalResetRelease => true
  | .roleSample _ => true
  | .roleResampleTimer => true
  | .firmwareStart _ _ _ => true
  | .startUpComplete high => decide (high < 256)
  | .watchdogReset _ => true
  | .softwareReset acc => acc.wf
  | .standbyRequest acc => acc.wf
  | .stbyIdleExpiry => true
  | .wakeEdge _ _ => true
  | .wakeTimerExpiry _ => true
  | .storageCheck _ _ _ _ => true
  | .uvloFall => true
  | .thermalLimit => true
  | .thermalRelease => true
  | .refLoss => true
  | .refRestored => true
  | .aonTrim _ => true
  | .auxEnWrite acc v => acc.wf && wordOk v
  | .aux33CurrentLimit => true
  | .standingPartnerTimeout => true
  | .enumReenumerate acc port => acc.wf && portOk port
  | .enumCommission acc port => acc.wf && portOk port
  | .enumRemove acc port => acc.wf && portOk port
  | .ringArmWrite acc port v => acc.wf && portOk port && wordOk v
  | .enumFrame port frame _ _ _ => portOk port && frameOk frame
  | .enumReturn port frame _ cells => portOk port && frameOk frame && decide (cells.length ≤ 96)
  | .cuePeriodWrite acc v => acc.wf && wordOk v
  | .cueStart pins => decide (pins < 16)
  | .reportAssembly => true
  | .reportLaunch => true
  | .computationStart hops => hops.all (fun e => portOk e.1)
  | .computationEnd => true
  | .probeFrame port lane frame _ _ => timePortOk port && laneOk lane && frameOk frame
  | .timeFrame port lane frame _ _ => timePortOk port && laneOk lane && frameOk frame
  | .timeFrameTimeout => true
  | .holdoverLimit => true
  | .reAnchorWrite acc v => acc.wf && wordOk v
  | .reAnchorFrame port frame _ => portOk port && frameOk frame
  | .ptpSync port domain _ _ => netOk port && decide (domain < 256)
  | .ptpAnnounce port domain _ _ => netOk port && decide (domain < 256)
  | .announceTimeout port => netOk port
  | .pdelayReq port domain frame => netOk port && decide (domain < 256) && frameOk frame
  | .tb1CmdReanchor acc => acc.wf
  | .tb3Write acc v => acc.wf && decide (v < 2 ^ 64)
  | .syncEdge _ _ => true
  | .syncMiss => true
  | .syncModeWrite acc v => acc.wf && wordOk v
  | .syncCmdReacquire acc => acc.wf
  | .tevtFire _ => true
  | .tevtArm acc _ v => acc.wf && wordOk v
  | .captureEdge _ _ _ => true
  | .entryRead acc _ => acc.wf
  | .portEnable port _ => portOk port
  | .portTest port _ => portOk port
  | .signalDetect port => portOk port
  | .offerTimer port => portOk port
  | .offerReceived port set => portOk port && decide (set.length ≤ 8)
  | .trainStart port => portOk port
  | .trainingEnd port _ errors => portOk port && wordOk errors
  | .laneSilenceEnd port => portOk port
  | .linkDown port => portOk port
  | .rateCapFrame port frame _ => portOk port && frameOk frame
  | .curtainSymbol port => portOk port
  | .curtainRingEnd port => portOk port
  | .curtainLiftFrame port frame _ => portOk port && frameOk frame
  | .frameForward port frame _ => portOk port && frameOk frame
  | .sheetFrame port frame _ _ => portOk port && frameOk frame
  | .reportTrain port records => portOk port && records.all (fun r => decide (r.length = 32))
  | .trainGraceExpiry => true
  | .reportRecord port record => portOk port && decide (record.length = 32)
  | .backgroundWindow port => portOk port
  | .linkFrame port frame _ => portOk port && frameOk frame
  | .healHoldExpiry port => portOk port
  | .vlogCmdClear acc => acc.wf
  | .rngPerrRead _ port => portOk port
  | .rngPbitsRead _ port => portOk port
  | .rngInjGo port v => portOk port && wordOk v
  | .xlEnable link _ => linkOk link
  | .xlTest link _ => linkOk link
  | .xlClockPresent link => linkOk link
  | .xlAlignDone link lane errs slips => linkOk link && laneOk lane && decide (errs.length ≤ 32) && decide (slips < 1024)
  | .helloReceived link lane frame _ => linkOk link && laneOk lane && frameOk frame
  | .helloTimer link => linkOk link
  | .laneMaskSymbol link mask => linkOk link && wordOk mask
  | .xlLaneLoss link lane frame => linkOk link && laneOk lane && frameOk frame
  | .xlLinkDown link frame0 frame1 => linkOk link && frameOk frame0 && frameOk frame1
  | .rejoinHoldExpiry link lane => linkOk link && laneOk lane
  | .peerFrame link lane frame _ => linkOk link && laneOk lane && frameOk frame
  | .curtainSetXl0 lane set => laneOk lane && decide (set.length ≤ 8)
  | .curtainSetPeer _ lane set netHigh => laneOk lane && decide (set.length ≤ 8) && decide (netHigh < 256)
  | .curtainSetTimeout link netHigh => linkOk link && decide (netHigh < 256)
  | .relDn lane frame _ _ => laneOk lane && frameOk frame
  | .relUp lane frame _ cells netHigh => laneOk lane && frameOk frame && decide (cells.length ≤ 96) && decide (netHigh < 256)
  | .relRep lane frame _ => laneOk lane && frameOk frame
  | .snapFast lane frame _ => laneOk lane && frameOk frame
  | .snapSlow lane frame _ => laneOk lane && frameOk frame
  | .snapLate => true
  | .healthFrame lane frame _ => laneOk lane && frameOk frame
  | .healthTimeout => true
  | .xlTrnErrRead _ link _ => linkOk link
  | .xlPerrRead _ link _ => linkOk link
  | .xlPbitsRead _ link _ => linkOk link
  | .xlInjGo link _ v => linkOk link && wordOk v
  | .xlVlogCmdClear acc => acc.wf
  | .modModeWrite acc _ v => acc.wf && wordOk v
  | .sortCmdWrite acc _ v => acc.wf && wordOk v
  | .keyGateWrite acc _ v => acc.wf && wordOk v
  | .orderHoldWrite acc _ v => acc.wf && wordOk v
  | .eventEdge => true
  | .deadTimeEnd => true
  | .delayLineCal _ _ => true
  | .carrierBoundary _ => true
  | .shadowPerWrite via v => via.wf && wordOk v
  | .shadowDutyWrite via v => via.wf && wordOk v
  | .pwmHoldWrite _ _ => true
  | .tripActive input _ _ => decide (input < 6)
  | .tripInactive input _ _ => decide (input < 6)
  | .tripClr via mask => via.wf && wordOk mask
  | .bypCmd acc => acc.wf
  | .bypassPulseStart => true
  | .bypassPulseEnd => true
  | .bypassConfirmTimeout => true
  | .bypassSense _ _ => true
  | .debugHalt => true
  | .debugResume => true
  | .pwmClockLoss => true
  | .pwmClockGood => true
  | .batModeWrite acc v => acc.wf && wordOk v
  | .batTestWrite acc v => acc.wf && wordOk v
  | .batCmdClear acc => acc.wf
  | .batterySample => true
  | .socSetWrite acc v => acc.wf && wordOk v
  | .socRestReset => true
  | .loopGroupStart _ => true
  | .loopDescWrite acc ch d => acc.wf && decide (ch < 32) && decide (d.length ≤ 69632)
  | .loopGtabWrite acc ch d => acc.wf && decide (ch < 32) && decide (d.length ≤ 69632)
  | .gtabPokeWrite acc ch v => acc.wf && decide (ch < 32) && decide (v < 2 ^ 64)
  | .loopLimitWrite acc _ ch v => acc.wf && decide (ch < 32) && wordOk v
  | .intSetWrite acc ch v => acc.wf && decide (ch < 32) && wordOk v
  | .loopFlagsWrite acc ch v => acc.wf && decide (ch < 32) && wordOk v
  | .injCmdStart acc => acc.wf
  | .injCmdStop acc => acc.wf
  | .seqTableWrite w => w.wf
  | .seqTimer _ => true
  | .seqCmdStart acc _ => acc.wf
  | .adcSwstart _ mask => wordOk mask
  | .entrySample _ => true
  | .resultWrite _ _ netHigh => decide (netHigh < 256)
  | .adcResultRead _ _ _ => true
  | .resultObjectRead acc _ _ => acc.wf
  | .refEnWrite via v => via.wf && wordOk v
  | .refReadyTimer => true
  | .calCmd via => via.wf
  | .calDone _ _ => true
  | .captureBaseSample _ => true
  | .capCmdStart acc stream => acc.wf && decide (stream < 8)
  | .capCmdStop acc stream => acc.wf && decide (stream < 8)
  | .capCmdArm acc stream => acc.wf && decide (stream < 8)
  | .capCmdForce acc stream => acc.wf && decide (stream < 8)
  | .captureTrigger _ => true
  | .captureHoldoffExpiry _ => true
  | .winReleaseWrite acc v => acc.wf && wordOk v
  | .captureFrame port frame _ => portOk port && frameOk frame
  | .capqRdWrite _ _ v => wordOk v
  | .slCycleStart pins => decide (pins < 16)
  | .slLdb _ operand => decide (operand < 2 ^ 22)
  | .slLdnb _ operand => decide (operand < 2 ^ 22)
  | .slAndb _ operand => decide (operand < 2 ^ 22)
  | .slAndnb _ operand => decide (operand < 2 ^ 22)
  | .slOrb _ operand => decide (operand < 2 ^ 22)
  | .slOrnb _ operand => decide (operand < 2 ^ 22)
  | .slStb _ operand => decide (operand < 2 ^ 22)
  | .slSetb _ operand => decide (operand < 2 ^ 22)
  | .slRstb _ operand => decide (operand < 2 ^ 22)
  | .slLd _ operand => decide (operand < 2 ^ 22)
  | .slSt _ operand => decide (operand < 2 ^ 22)
  | .slAdd _ operand => decide (operand < 2 ^ 22)
  | .slSub _ operand => decide (operand < 2 ^ 22)
  | .slMul _ operand => decide (operand < 2 ^ 22)
  | .slCmpgt _ operand => decide (operand < 2 ^ 22)
  | .slCmpeq _ operand => decide (operand < 2 ^ 22)
  | .slCmplt _ operand => decide (operand < 2 ^ 22)
  | .slFix _ operand => decide (operand < 2 ^ 22)
  | .slTon _ operand => decide (operand < 2 ^ 22)
  | .slRtrig _ operand => decide (operand < 2 ^ 22)
  | .slJmp operand => decide (operand < 2 ^ 22)
  | .slJmpc operand => decide (operand < 2 ^ 22)
  | .slJmpn operand => decide (operand < 2 ^ 22)
  | .slEnd => true
  | .slWrobj operand => decide (operand < 2 ^ 22)
  | .slMode => true
  | .slSack => true
  | .slCmdRun acc => acc.wf
  | .slCmdStop acc => acc.wf
  | .slCmdRevert acc => acc.wf
  | .slCuesWrite acc v => acc.wf && wordOk v
  | .slLoadWrite acc d => acc.wf && decide (d.length ≤ 69632)
  | .slChange acc => acc.wf
  | .slChangeClearForces acc => acc.wf
  | .slVerifyDone => true
  | .forceTableWrite acc d => acc.wf && decide (d.length ≤ 69632)
  | .stnReadmitWrite acc v => acc.wf && wordOk v
  | .modeReqWrite acc d => acc.wf && decide (d.length ≤ 69632)
  | .stationOut port frame _ => portOk port && frameOk frame
  | .stationResponse port frame _ => portOk port && frameOk frame
  | .stnTimeout => true
  | .safeCmdConfig acc => acc.wf
  | .safeCmdVerify acc => acc.wf
  | .safeCrcCheck => true
  | .planeMismatch => true
  | .siSample levels netHigh => decide (levels < 256) && decide (netHigh < 256)
  | .soTestPulse _ => true
  | .soTestPulseEnd _ => true
  | .soReadbackSample _ _ netHigh => decide (netHigh < 256)
  | .safeMessage src netHigh => src.wf && decide (netHigh < 256)
  | .safeTxTimer _ => true
  | .safeWatchdogTimeout _ => true
  | .safePathLoss _ _ => true
  | .curtainLiftDelay ring => portOk ring
  | .curtainUnexpEnd port netHigh => portOk port && decide (netHigh < 256)
  | .safeTestWrite acc d => acc.wf && decide (d.length ≤ 69632)
  | .safeTestEnd => true
  | .faultPinAssert pins => pins.all (fun e => decide (e.1 < 64))
  | .faultPinRelease source _ => decide (source < 64)
  | .faultQuietExpiry source => decide (source < 64)
  | .faultForgiveExpiry source => decide (source < 64)
  | .fltCmdEmpty via => via.wf
  | .fltCmdClearLatched via => via.wf
  | .fltCmdRelease via => via.wf
  | .fltFstatClear acc _ mask => acc.wf && wordOk mask
  | .faultCollectorReset => true
  | .collectorSelfCheck _ => true
  | .fenceCmdFence acc port hop => acc.wf && portOk port && decide (1 ≤ hop ∧ hop ≤ 96)
  | .fenceCmdUnfence acc port hop => acc.wf && portOk port && decide (1 ≤ hop ∧ hop ≤ 96)
  | .lossDetected => true
  | .takeoverCmd acc => acc.wf
  | .irqSourceEvent _ => true
  | .irqPendWrite acc _ v => acc.wf && wordOk v
  | .irqEnWrite acc _ v => acc.wf && wordOk v
  | .irqSetWrite acc _ v => acc.wf && wordOk v
  | .irqClrWrite acc _ v => acc.wf && wordOk v
  | .irqEnsetWrite acc _ v => acc.wf && wordOk v
  | .irqEnclrWrite acc _ v => acc.wf && wordOk v
  | .irqRouteWrite acc _ v => acc.wf && wordOk v
  | .irqTctlSleep acc _ => acc.wf
  | .targetSleepChange _ _ => true
  | .groupDelivery _ => true
  | .irqCoalTimeout _ => true
  | .irqHoldoffExpiry _ => true
  | .irqClaim acc => acc.wf
  | .irqEoi acc _ => acc.wf
  | .irqVlogCmdClear acc => acc.wf
  | .dspPushDirect acc _ _ _ _ => acc.wf
  | .dspPushOperand acc _ _ _ _ => acc.wf
  | .dspPushDelay acc _ _ _ _ _ _ => acc.wf
  | .dspPop acc _ => acc.wf
  | .dspDone acc _ => acc.wf
  | .dspCmdReturn acc => acc.wf
  | .dspCmdDiscard acc => acc.wf
  | .dspCmdPurge acc => acc.wf
  | .delayListRelease => true
  | .dspQdepthRead acc _ => acc.wf
  | .dspQwaitRead acc _ => acc.wf
  | .dspMstatRead acc => acc.wf
  | .dspLstatRead acc _ => acc.wf
  | .objCmdRead _ => true
  | .objCmdWrite _ => true
  | .objectWrite acc key data => acc.wf && decide (key < 2 ^ 24) && decide (data.length ≤ 69632)
  | .qspiRead _ _ _ => true
  | .qspiWrite _ _ words => words.all wordOk
  | .qspiStatus _ => true
  | .qspiCut _ _ _ _ words => words.all wordOk
  | .pcieRequest _ _ _ _ be value _ => wordOk be && wordOk value
  | .pcieLinkReset => true
  | .perstN _ => true
  | .hopOpen ip port frame => wordOk ip && decide (port < 65536) && frameOk frame
  | .hopClose ip port frame => wordOk ip && decide (port < 65536) && frameOk frame
  | .hopKeepalive ip port frame => wordOk ip && decide (port < 65536) && frameOk frame
  | .hopRead ip port frame => wordOk ip && decide (port < 65536) && frameOk frame
  | .hopWrite ip port frame => wordOk ip && decide (port < 65536) && frameOk frame
  | .hopSubscribe ip port frame => wordOk ip && decide (port < 65536) && frameOk frame
  | .hopSessionTimeout session => decide (1 ≤ session ∧ session ≤ 8)
  | .hopStreamFlush stream => decide (stream < 8)
  | .arpRequest port _ _ => netOk port
  | .icmpEcho port _ => netOk port
  | .tokenRequest via => via.wf
  | .tokenRelease via => via.wf
  | .tokenForceCmd via => via.wf
  | .tokenRenew via => via.wf
  | .tokenWithdraw via => via.wf
  | .tokenLeaseExpiry => true
  | .cellObjRequest port frame _ => portOk port && frameOk frame
  | .cellObjResponse port frame _ => portOk port && frameOk frame
  | .cellObjTimeout _ => true
  | .storeCmdStore acc => acc.wf
  | .storeCmdDefaults acc => acc.wf
  | .storeCmdReload acc => acc.wf
  | .storeDone _ => true
  | .seatVlogCmdClear acc => acc.wf
  | .scrubRead => true
  | .memInjWrite acc v => acc.wf && decide (v < 2 ^ 64)
  | .updDataWrite acc d => acc.wf && decide (d.length ≤ 69632)
  | .stagingProgrammed _ => true
  | .updVerifyDone _ => true
  | .updCmdArm acc => acc.wf
  | .updCmdRestart acc => acc.wf
  | .updCmdConfirm acc => acc.wf
  | .updCmdAbort acc => acc.wf
  | .passCmd acc mask => acc.wf && wordOk mask
  | .passChunk port frame _ => portOk port && frameOk frame
  | .passAck port frame _ => portOk port && frameOk frame
  | .passAbort port frame _ => portOk port && frameOk frame
  | .passResend port _ => portOk port
  | .registerWrite _ _ value mask => wordOk value && wordOk mask
  | .checkerLock lane _ => decide (lane < 18)
  | .networkLinkChange _ _ => true
  | .startPhaseEnd => true
  | .supplyWindowComparator input _ netHigh => decide (input < 24) && decide (netHigh < 256)
  | .carrierDutyEdge => true
  | .qspiUnknown _ _ => true
  | .memorySymbolError _ _ => true
  | .netDroppedFrame port => netOk port

end Sys2Proof
end

