-- ==== Sys2Proof/Tests/Slice0.lean ====
section
/-! SUPPORT. Tests: ill-formed commands the checks refuse, single steps on small states, and, for each statement with
hypotheses, a witness that meets them, clause by clause. -/

set_option Elab.async false

namespace Sys2Proof.Tests
open Sys2Proof.Machine Sys2Proof.Machine.State

/-! ### Small states and helpers -/

/-- An active HEAD after start-up. -/
def hd : State := { State.reset with
  pw := { State.reset.pw with pwr := .run, stage := .ready, role := some .head, standing := .active } }
/-- Its UNDERSTUDY. -/
def un : State := { State.reset with
  pw := { State.reset.pw with pwr := .run, stage := .ready, role := some .head, standing := .understudy } }
/-- A CELL of TYPE 0 after start-up. -/
def cl : State := { State.reset with pw := { State.reset.pw with pwr := .run, stage := .ready, role := some .cell } }
/-- A CELL with a battery stage. -/
def cl4 : State := { State.reset with
  pw := { State.reset.pw with pwr := .run, stage := .ready, role := some .cell, smType := 4 } }
/-- Port `p` of a state, up. -/
def withUp (s : State) (p : Nat) : State := s.setPort p { PortRec.reset with st := .up }
/-- Cross-link `l` of a state, up on both lanes. -/
def withXl (s : State) (l : Nat) : State := s.setXl l { XlLink.reset with st := .up2, tx := 3, rx := 3, lock := 3 }

/-- What a step goes on to. -/
def nextOf (o : Host.Outcome State Fault Refusal) : State := match o with
  | .next t => t
  | _ => State.reset
def goesOn (o : Host.Outcome State Fault Refusal) : Bool := match o with
  | .next _ => true
  | _ => false
theorem eq_next : ∀ {o : Host.Outcome State Fault Refusal}, goesOn o = true → o = .next (nextOf o)
  | .next _, _ => rfl
def okOf {ε : Type} (x : Except ε State) : State := match x with
  | .ok t => t
  | _ => State.reset
def isOk {ε : Type} (x : Except ε State) : Bool := match x with
  | .ok _ => true
  | _ => false
theorem eq_ok {ε : Type} : ∀ {x : Except ε State}, isOk x = true → x = .ok (okOf x)
  | .ok _, _ => rfl
theorem eq_some {α : Type} {x : Option α} (h : x.isSome = true) : x = some (x.get h) := by simp
theorem eq_some2 {α β : Type} {x : Option (α × β)} (h : x.isSome = true) : x = some ((x.get h).1, (x.get h).2) := by simp
theorem eq_some3 {α β γ : Type} {x : Option (α × β × γ)} (h : x.isSome = true) :
    x = some ((x.get h).1, (x.get h).2.1, (x.get h).2.2) := by simp
/-- A broadcast ring frame of TYPE `ty` with payload `pl` and flags `fl`. -/
def fr (ty : Nat) (pl : Bytes) (dst : Nat := 127) (src : Nat := 0) (fl : Nat := 0) : Bytes :=
  mkFrame ty fl dst src 0 0 0 pl
/-- A cross-link frame of TYPE `ty` with payload `pl`. -/
def xf (ty : Nat) (pl : Bytes) : Bytes :=
  let h := leBytes 1 ty ++ leBytes 1 0 ++ leBytes 2 pl.length ++ leBytes 2 0
  h ++ leBytes 2 (crc32 h % 65536) ++ pl ++ leBytes 4 (crc32 pl)
/-- A HOP datagram of TYPE `ty` in session `n` with payload `pl`. -/
def hf (ty n : Nat) (pl : Bytes) : Bytes :=
  let h := leBytes 2 0x4851 ++ leBytes 1 1 ++ leBytes 1 ty ++ leBytes 2 n ++ leBytes 2 pl.length ++ leBytes 8 0 ++ pl
  h ++ leBytes 4 (crc32 h)
/-- A CRC's fold that evaluates its running value at each byte. -/
def crcRun (poly : Nat) : Bytes → Nat → Nat
  | [], c => c
  | b :: l, 0 => crcRun poly l (crcRefByte poly 0 b)
  | b :: l, c + 1 => crcRun poly l (crcRefByte poly (c + 1) b)
theorem crcRun_eq (poly : Nat) : ∀ (l : Bytes) (c : Nat), l.foldl (crcRefByte poly) c = crcRun poly l c
  | [], _ => rfl
  | b :: l, 0 => crcRun_eq poly l (crcRefByte poly 0 b)
  | b :: l, c + 1 => crcRun_eq poly l (crcRefByte poly (c + 1) b)
/-- A gain table of zeros with its check. -/
def gt : Bytes := List.replicate 256 0 ++ leBytes 4 227968344
theorem crc32_run (b : Bytes) : crc32 b = crcRun 0xEDB88320 b 0xFFFFFFFF ^^^ 0xFFFFFFFF := by
  unfold crc32; rw [crcRun_eq]
theorem crc32c_run (b : Bytes) : crc32c b = crcRun 0x82F63B78 b 0xFFFFFFFF ^^^ 0xFFFFFFFF := by
  unfold crc32c; rw [crcRun_eq]
theorem gt_check : rd gt 256 4 = crc32 (gt.take 256) :=
  Eq.trans (b := crcRun 0xEDB88320 (gt.take 256) 0xFFFFFFFF ^^^ 0xFFFFFFFF) (by decide +kernel) (crc32_run _).symm
/-- A HEAD whose SAFE block runs, with `c` in SAFE_CRC. -/
def sr (c : Nat) : State := (hd.oset Obj.safeCrc c).safSet fun w => { w with st := .run }
theorem sr_crc (c : Nat) (h : crcRun 0x82F63B78 (((Dict.page 0xA0).filter (fun r => r.pers == .stored &&
    decide (0xA001 ≤ r.ilo) && decide (r.ilo ≤ 0xA04F) && (sr c).rowPresent r)).flatMap (sr c).rowBytes) 0xFFFFFFFF ^^^
    0xFFFFFFFF = 37767492) : (sr c).safCrc = 37767492 := (crc32c_run _).trans h
theorem sr_same (c : Nat) (h : (sr c).safCrc = 37767492) (h1 : ((sr c).oset Obj.safeCrcNow 37767492).og Obj.safeCrc = c) :
    ((sr c).oset Obj.safeCrcNow (sr c).safCrc).og Obj.safeCrc = c := by rw [h, h1]
theorem eq_none2 {α β : Type} {x : Option α × β} (h : x.1.isNone = true) : x = (none, x.2) := by
  obtain ⟨_ | _, _⟩ := x
  · rfl
  · simp at h
/-- A datagram with no PRP trailer is served as it stands. -/
theorem hop_ok {s : State} {ip ty : Nat} {f : Bytes} (h : prpTrailer f = none)
    (k : s.running = true ∧ s.isHead = true ∧ s.seat.netUp ≠ 0 ∧ s.hopAllowed ip = true ∧ 20 ≤ f.length ∧
      rd f 0 2 = 0x4851 ∧ rd f 2 1 = 1 ∧ rd f (f.length - 4) 4 = crc32 (f.take (f.length - 4)) ∧
      rd f 6 2 + 20 = f.length ∧ rd f 3 1 = ty ∧ (ty = 1 ∨ (s.hopSession (rd f 4 2)).isSome = true)) :
    HopServed s ip f f s ty :=
  ⟨k.1, k.2.1, k.2.2.1, by simp only [State.prpTake, h], k.2.2.2⟩
/-- A HEAD with both station ports up and one open HOP session. -/
def hn : State := hd.seatSet fun w => { w with netUp := 3, sessions := [(1, HopSession.mk 1 1 0 false 0 [] 0 0 0 0)] }
theorem eq_false {α : Type} {x : Bool × α} (h : x.1 = false) : x = (false, x.2) := by rw [← h]
theorem eq_false2 {α β : Type} {x : Bool × α × β} (h : x.1 = false) : x = (false, x.2.1, x.2.2) := by rw [← h]
/-- A HEAD with an admitted cell 96 on ring 11. -/
def ha : State := hd.setCellRec 1151 { CellRec.reset with st := .admitted }
theorem ha_last : (ha.cellRec (96 * 11 + 96 - 1)).last = none := by decide +kernel
/-- A loop descriptor with its check. -/
def ld : Bytes :=
  let b : Bytes := [0, 0, 0, 0, 0, 0, 0, 0] ++ leBytes 4 0x3F800000 ++ leBytes 4 0x3F800000 ++ leBytes 4 0x3F800000 ++
    List.replicate 16 0 ++ [1, 0, 1, 0, 0, 0, 0, 0, 1] ++ List.replicate 15 0
  b ++ leBytes 4 (crc32 b)

/-! ### Well-formedness: a term of each kind that the checks refuse -/

theorem smoke_portOk : (Instr.portEnable 12 true).wf = false := by decide
theorem smoke_timePortOk : (Instr.timeFrame 15 0 [] .whole 0).wf = false := by decide
theorem smoke_netOk : (Instr.announceTimeout 0).wf = false := by decide
theorem smoke_linkOk : (Instr.xlLinkDown 3 [] []).wf = false := by decide
theorem smoke_laneOk : (Instr.rejoinHoldExpiry 0 2).wf = false := by decide
theorem smoke_frameOk : (Instr.frameForward 0 (List.replicate 2049 0) .whole).wf = false := by decide +kernel
theorem smoke_wordOk : (Instr.auxEnWrite (.core 0) (2 ^ 32)).wf = false := by decide
theorem smoke_accessor_hop : (Instr.standbyRequest (.hop 9)).wf = false := by decide
theorem smoke_accessor_mirror : (Instr.standbyRequest (.mirror 4)).wf = false := by decide
theorem smoke_via : (Instr.tokenRequest (.obj (.hop 0))).wf = false := by decide
theorem smoke_seqWrite : (Instr.seqTableWrite (.table (.core 0) false (List.replicate 257 0))).wf = false := by decide +kernel
theorem smoke_safeIn : (Instr.safeMessage (.ring 12 [] .whole) 0).wf = false := by decide
theorem smoke_pins : (Instr.cueStart 16).wf = false := by decide
theorem smoke_high : (Instr.startUpComplete 256).wf = false := by decide
theorem smoke_records : (Instr.reportTrain 0 [[1, 2]]).wf = false := by decide
theorem smoke_record : (Instr.reportRecord 0 [1]).wf = false := by decide
theorem smoke_set : (Instr.offerReceived 0 [0, 1, 2, 3, 4, 5, 6, 7, 8]).wf = false := by decide
theorem smoke_tb3 : (Instr.tb3Write (.core 0) (2 ^ 64)).wf = false := by decide
theorem smoke_input : (Instr.tripActive 6 true 1).wf = false := by decide
theorem smoke_channel : (Instr.intSetWrite (.core 0) 32 0).wf = false := by decide
theorem smoke_stream : (Instr.capCmdStart (.core 0) 8).wf = false := by decide
theorem smoke_operand : (Instr.slLd 0 (2 ^ 22)).wf = false := by decide
theorem smoke_source : (Instr.faultQuietExpiry 64).wf = false := by decide
theorem smoke_hop : (Instr.fenceCmdFence (.core 0) 0 97).wf = false := by decide
theorem smoke_key : (Instr.objectWrite (.core 0) (2 ^ 24) []).wf = false := by decide
theorem smoke_session : (Instr.hopSessionTimeout 0).wf = false := by decide
theorem smoke_udp : (Instr.hopOpen 0 65536 []).wf = false := by decide
theorem smoke_supply : (Instr.supplyWindowComparator 24 false 0).wf = false := by decide
/-- The table gives no row any bits. -/
theorem test_decode_none : decodeTableWord 32 0 = none := by decide

/-! ### Single steps; the expected values are the spec's -/

/-- The check value of R83. -/
theorem test_crc32 : crc32 [49, 50, 51, 52, 53, 54, 55, 56, 57] = 0xCBF43926 := by decide +kernel
/-- The check value of CRC-32C. -/
theorem test_crc32c : crc32c [49, 50, 51, 52, 53, 54, 55, 56, 57] = 0xE3069283 := by decide +kernel
/-- R46: an odd CUE_PERIOD is refused as out of range. -/
theorem test_cuePeriod_odd : (nextOf (exec (.cuePeriodWrite (.core 0) 20001) hd)).out = [.answer (.core 0) Obj.cuePeriod 5] := by
  decide +kernel
/-- R31: RING_ARM of port 3 holds 0x00 in DUAL_PAIRED mode. -/
theorem test_ringArm_paired :
    (nextOf (exec (.ringArmWrite (.core 0) 3 1) (hd.pwSet fun w => { w with ringMode := 2 }))).og (Obj.ringArm 3) =
      hd.og (Obj.ringArm 3) := by decide +kernel
/-- R321: ADD saturates to I32. -/
theorem test_slAdd_saturates :
    (nextOf (exec (.slAdd 0 1) (hd.slSet fun w => { w with busy := true, acc := 0x7FFFFFFF }))).sl.acc = 0x7FFFFFFF := by
  decide +kernel
/-- Table 12-3: SUB of 7 from 5 leaves −2. -/
theorem test_slSub : (nextOf (exec (.slSub 0 7) (hd.slSet fun w => { w with busy := true, acc := 5 }))).sl.acc = 0xFFFFFFFE := by
  decide +kernel
/-- Table 12-3: CMPGT compares signed values. -/
theorem test_slCmpgt_signed :
    (nextOf (exec (.slCmpgt 0 1) (hd.slSet fun w => { w with busy := true, acc := 0xFFFFFFFF }))).sl.rlo = false := by
  decide +kernel
/-- Table 12-3: RSTB with RLO 0 leaves its bit. -/
theorem test_slRstb_rlo0 :
    (nextOf (exec (.slRstb 6 0) (hd.slSet fun w => { w with busy := true, rlo := false, m := [(0, 1)] }))).sl.m = [(0, 1)] := by
  decide +kernel
/-- The front command of the queue is taken off it. -/
theorem test_queue : (nextOf (step { hd with pending := [.debugResume, .uvloFall] })).pending = [.uvloFall] := by
  decide +kernel
/-- R455: a seat that asks for the free token holds it. -/
theorem test_token : (nextOf (exec (.tokenRequest (.obj (.path 1))) hd)).seat.holder = some 1 := by decide +kernel
/-- R16: a power-on reset leaves the gates low and the role open. -/
theorem test_powerOn : (nextOf (exec .powerOnReset (hd.pwSet fun w => { w with pwr := .off }))).pw.role = none := by decide +kernel

/-- R516: IDCODE holds version 0x1 and part number 0x7256. -/
theorem test_tap_idcode : tapIdcode / 2 ^ 28 = 1 ∧ tapIdcode / 2 ^ 12 % 2 ^ 16 = 0x7256 := by
  have h := Config.jtagMaker.isLt
  unfold tapIdcode
  omega
/-- R516, IEEE 1149.1: BYPASS captures one 0, and EXTEST puts the boundary register's levels on the balls. -/
theorem test_tap_bypass : (hd.tapSelect .bypass).tapCapture = [false] := rfl
theorem test_tap_extest : (((hd.tapSelect .sample).tapUpdate [false, true]).tapSelect .extest).tapBall 1 = true := by
  decide +kernel
/-- R188: an edge at remainder 15 of its PWM cycle leaves with tap 15, and on the next cycle while COARSE. -/
theorem test_ball_coarse : ((cl4.pwmSet fun w => { w with coarse := true }).ballAt 0 31, cl4.ballAt 0 31) = (32, 31) := by
  decide +kernel

/-! ### Witnesses: one theorem for each statement with hypotheses, one conjunct for each of its clauses -/

/-- `EveryCommandKeepsToItsParts`: a write of an interrupt set register goes on, and TB2 is none of its parts. -/
theorem witness_EveryCommandKeepsToItsParts : ∃ (c : Instr) (s t : State) (p : Part), exec c s = .next t ∧ p ∉ touched c :=
  ⟨.irqSetWrite (.core 0) 7 1, hd, _, .tm, eq_next (by decide +kernel), by decide +kernel⟩

theorem witness_AnEmptyQueueLetsOneCyclePass :
    (∃ (s : State), s.pending = [] ∧ s.running = false) ∧
    (∃ (s : State), s.pending = [] ∧ s.running ∧ (s.activeHead = false ∨ s.sl.busy = false)) ∧
    (∃ (s : State), s.pending = [] ∧ s.running ∧ s.activeHead ∧ s.sl.busy) :=
  ⟨⟨State.reset, by decide +kernel, by decide +kernel⟩,
   ⟨hd, by decide +kernel, by decide +kernel, by decide +kernel⟩,
   ⟨(hd.slSet (fun w => { w with busy := true })), by decide +kernel, by decide +kernel, by decide +kernel,
     by decide +kernel⟩⟩

theorem witness_EveryStepKeepsTheStoresCanonical :
    ∃ (s : State) (t : State), Canonical s ∧ step s = .next t :=
  ⟨hd, _, by decide +kernel, eq_next (by decide +kernel)⟩

theorem witness_AWrittenObjectReadsBack :
    (∃ (s : State), Canonical s) ∧
    (∃ (s : State), Canonical s) :=
  ⟨⟨hd, by decide +kernel⟩,
   ⟨hd, by decide +kernel⟩⟩

theorem witness_WhatEveryResetLeaves :
    (∃ (code : Nat), code ≠ 1) ∧
    (∃ (code : Nat), code ≠ 1 ∧ code ≠ 2) :=
  ⟨⟨0, by decide +kernel⟩,
   ⟨0, by decide +kernel, by decide +kernel⟩⟩

theorem witness_WriteTestsAnswerInOrder :
    (∃ (s : State) (k : Nat), s.pw.faultHold ∧ State.servedInHold k = false) ∧
    (∃ (s : State) (k : Nat), (¬(s.pw.faultHold = true ∧ State.servedInHold k = false)) ∧ Dict.lookup k = none) ∧
    (∃ (s : State) (k : Nat) (r : _), (¬(s.pw.faultHold = true ∧ State.servedInHold k = false)) ∧ Dict.lookup k =
      some r ∧ s.rowPresent r = false) ∧
    (∃ (s : State) (a : Accessor) (k : Nat) (r : _), (¬(s.pw.faultHold = true ∧ State.servedInHold k = false)) ∧
      Dict.lookup k = some r ∧ s.rowPresent r ∧ State.rights r a ≠ .rw) ∧
    (∃ (s : State) (a : Accessor) (k : Nat) (r : _), (¬(s.pw.faultHold = true ∧ State.servedInHold k = false)) ∧
      Dict.lookup k = some r ∧ s.rowPresent r ∧ s.capDenied a k) ∧
    (∃ (s : State) (a : Accessor) (k : Nat) (n : Nat) (r : _), (¬(s.pw.faultHold = true ∧ State.servedInHold k =
      false)) ∧ Dict.lookup k = some r ∧ s.rowPresent r ∧ State.rights r a = .rw ∧ s.capDenied a k = false ∧
      State.writeLenOk k r n = false) ∧
    (∃ (s : State) (a : Accessor) (k : Nat) (n : Nat) (r : _) (q : _), (¬(s.pw.faultHold = true ∧
      State.servedInHold k = false)) ∧ Dict.lookup k = some r ∧ s.rowPresent r ∧ State.rights r a = .rw ∧
      s.capDenied a k = false ∧ State.writeLenOk k r n ∧ r.ctl ∧ State.accSeat a = some q ∧ s.understudy) ∧
    (∃ (s : State) (a : Accessor) (k : Nat) (n : Nat) (r : _), (¬(s.pw.faultHold = true ∧ State.servedInHold k =
      false)) ∧ Dict.lookup k = some r ∧ s.rowPresent r ∧ State.rights r a = .rw ∧ s.capDenied a k = false ∧
      State.writeLenOk k r n ∧ r.ctl ∧ s.understudy = false ∧ s.holdsToken a = false) ∧
    (∃ (s : State) (a : Accessor) (k : Nat) (n : Nat) (r : _), (¬(s.pw.faultHold = true ∧ State.servedInHold k =
      false)) ∧ Dict.lookup k = some r ∧ s.rowPresent r ∧ State.rights r a = .rw ∧ s.capDenied a k = false ∧
      State.writeLenOk k r n ∧ ((r.ctl → s.understudy = false ∧ s.holdsToken a))) :=
  ⟨⟨(hd.pwSet (fun w => { w with faultHold := true })), 0, by decide +kernel, by decide +kernel⟩,
   ⟨hd, 0, by decide +kernel, by decide +kernel⟩,
   ⟨cl, Obj.cuePeriod, _, by decide +kernel, eq_some (by decide +kernel), by decide +kernel⟩,
   ⟨hd, .path 0, 0x100009, _, by decide +kernel, eq_some (by decide +kernel), by decide +kernel, by decide +kernel⟩,
   ⟨(hd.oset (Obj.streamSeat 0) 1), .path 0, (Obj.capCmd 0), _, by decide +kernel, eq_some (by decide +kernel),
     by decide +kernel, by decide +kernel⟩,
   ⟨hd, .core 0, Obj.cuePeriod, 5, _, by decide +kernel, eq_some (by decide +kernel), by decide +kernel,
     by decide +kernel, by decide +kernel, by decide +kernel⟩,
   ⟨un, .path 0, Obj.cuePeriod, 4, _, _, by decide +kernel, eq_some (by decide +kernel), by decide +kernel,
     by decide +kernel, by decide +kernel, by decide +kernel, by decide +kernel, rfl, by decide +kernel⟩,
   ⟨hd, .path 0, Obj.cuePeriod, 4, _, by decide +kernel, eq_some (by decide +kernel), by decide +kernel,
     by decide +kernel, by decide +kernel, by decide +kernel, by decide +kernel, by decide +kernel,
     by decide +kernel⟩,
   ⟨hd, .core 0, Obj.cuePeriod, 4, _, by decide +kernel, eq_some (by decide +kernel), by decide +kernel,
     by decide +kernel, by decide +kernel, by decide +kernel, by decide +kernel⟩⟩

theorem witness_RefusedWritesChangeNoObject :
    (∃ (s : State) (a : Accessor) (k : Nat) (d : Bytes), s.running ∧ s.accPresent a ∧ s.writeTests a k d.length ≠
      0) ∧
    (∃ (s : State) (a : Accessor) (k : Nat) (d : Bytes) (t : _), s.running ∧ s.accPresent a ∧ s.writeTests a k
      d.length = 0 ∧ s.mirrorFull a k ∧ s.objHandler a k d = .ok t) :=
  ⟨⟨hd, .core 0, 0, [], by decide +kernel, by decide +kernel, by decide +kernel⟩,
   ⟨((hd.setXl 0 { XlLink.reset with st := .up2, peer := 512 }).pairSet (fun w =>
     { w with mirror := List.replicate 64 (List.replicate 1024 0) })), .core 0, Obj.cuePeriod, (leBytes 4 20000),
     _, by decide +kernel, by decide +kernel, by decide +kernel, by decide +kernel, eq_ok (by decide +kernel)⟩⟩

theorem witness_CuePeriodRange :
    (∃ (s : State) (acc : Accessor) (v : Nat), v < 2 ^ 32 ∧ Admits s acc Obj.cuePeriod 4 ∧ (v % 2 = 1 ∨ v < 10000 ∨
      200000 < v)) ∧
    (∃ (s : State) (acc : Accessor) (v : Nat), v < 2 ^ 32 ∧ Admits s acc Obj.cuePeriod 4 ∧ v % 2 = 0 ∧ 10000 ≤ v ∧
      v ≤ 200000 ∧ ((∀ p ∈ s.ringPorts, (s.ringRec p).admitted → (s.ringRec p).foundAdm ≤ 48))) :=
  ⟨⟨hd, .core 0, 200001, by decide +kernel, by decide +kernel, by decide +kernel⟩,
   ⟨hd, .core 0, 200000, by decide +kernel, by decide +kernel, by decide +kernel, by decide +kernel,
     by decide +kernel, by decide +kernel⟩⟩

theorem witness_ShortPeriodsAreRefusedWithLongRings :
    ∃ (s : State) (acc : Accessor) (v : Nat) (p : Nat), v % 2 = 0 ∧ 10000 ≤ v ∧ v < 20000 ∧ Admits s acc
      Obj.cuePeriod 4 ∧ p ∈ s.ringPorts ∧ (s.ringRec p).admitted ∧ 48 < (s.ringRec p).foundAdm :=
  ⟨(hd.setRing 0 { RingRec.reset with admitted := true, foundAdm := 49 }), .core 0, 19998, 0, by decide +kernel,
    by decide +kernel, by decide +kernel, by decide +kernel, by decide +kernel, by decide +kernel,
    by decide +kernel⟩

theorem witness_OddPortsHoldNoArmInDualPaired :
    (∃ (s : State) (acc : Accessor) (p : Nat) (v : Nat), s.pw.ringMode = 2 ∧ p % 2 = 1 ∧ p < 12 ∧ v ≤ 2 ∧ Admits s
      acc (Obj.ringArm p) (Dict.width (Obj.ringArm p)) ∧ v ≠ 0) ∧
    (∃ (s : State) (acc : Accessor) (p : Nat) (v : Nat), s.pw.ringMode = 2 ∧ p % 2 = 1 ∧ p < 12 ∧ v ≤ 2 ∧ Admits s
      acc (Obj.ringArm p) (Dict.width (Obj.ringArm p)) ∧ (s.ringRec p).admitted = false) :=
  ⟨⟨(hd.pwSet (fun w => { w with ringMode := 2 })), .core 0, 11, 2, by decide +kernel, by decide +kernel,
     by decide +kernel, by decide +kernel, by decide +kernel, by decide +kernel⟩,
   ⟨(hd.pwSet (fun w => { w with ringMode := 2 })), .core 0, 11, 0, by decide +kernel, by decide +kernel,
     by decide +kernel, by decide +kernel, by decide +kernel, by decide +kernel⟩⟩

theorem witness_AChangeInStopSwitchesAtOnce :
    (∃ (s : State) (t : State), s.sl.st ≠ .run ∧ t = s.slArm) ∧
    (∃ (s : State) (t : State) (u : _), s.sl.st ≠ .run ∧ t = s.slArm ∧ u = (t.slSet fun w =>
      { w with cmd := some 1 }).slCommand) :=
  ⟨⟨hd, _, by decide +kernel, rfl⟩,
   ⟨hd, _, _, by decide +kernel, rfl, rfl⟩⟩

theorem witness_PendingBitsAndEnables :
    (∃ (g : Nat) (i : Nat), g < 32 ∧ i < 8) ∧
    (∃ (s : State) (g : Nat) (i : Nat), g < 32 ∧ i < 8 ∧ hasBit s.irq.en (8 * g + i) = false) ∧
    (∃ (s : State) (g : Nat) (i : Nat), g < 32 ∧ i < 8 ∧ hasBit s.irq.en (8 * g + i) = true) ∧
    (∃ (s : State) (g : Nat) (i : Nat), g < 32 ∧ i < 8 ∧ s.grpPending g = 0) ∧
    (∃ (g : Nat) (i : Nat), g < 32 ∧ i < 8) ∧
    (∃ (s : State) (g : Nat) (i : Nat), g < 32 ∧ i < 8 ∧ hasBit s.irq.en (8 * g + i) = false ∧ hasBit s.irq.pend (8
      * g + i) = true) :=
  ⟨⟨31, 7, by decide +kernel, by decide +kernel⟩,
   ⟨hd, 31, 7, by decide +kernel, by decide +kernel, by decide +kernel⟩,
   ⟨(hd.irqSet (fun w => { w with en := 2 ^ 255 })), 31, 7, by decide +kernel, by decide +kernel,
     by decide +kernel⟩,
   ⟨hd, 31, 7, by decide +kernel, by decide +kernel, by decide +kernel⟩,
   ⟨31, 7, by decide +kernel, by decide +kernel⟩,
   ⟨(hd.irqSet (fun w => { w with pend := 2 ^ 255 })), 31, 7, by decide +kernel, by decide +kernel,
     by decide +kernel, by decide +kernel⟩⟩

theorem witness_CompletionClearsTheGroup :
    (∃ (s : State) (c : Fin 4) (g : Nat), s.regServed (.core c) ∧ g < 32 ∧ (s.grp g).held = some c.val) ∧
    (∃ (s : State) (c : Fin 4) (g : Nat), s.regServed (.core c) ∧ (s.grp g).held ≠ some c.val) :=
  ⟨⟨(hd.setGrp 31 { IrqGroup.idle with held := some 3 }), 3, 31, by decide +kernel, by decide +kernel,
     by decide +kernel⟩,
   ⟨hd, 3, 0, by decide +kernel, by decide +kernel⟩⟩

theorem witness_ArbitrationPicksTheLowestPriority :
    (∃ (s : State) (t : Nat) (g : _), s.winner t = none ∧ g < 32 ∧ s.deliverable g ∧ s.effTarget g = some t) ∧
    (∃ (s : State) (t : Nat) (w : _), s.winner t = some w) :=
  ⟨⟨(((hd.irqSet (fun w => { w with pend := 2 ^ 255, en := 2 ^ 255 })).oset (Obj.irqPrio 31) 15).setGrp 0
     { IrqGroup.idle with held := some 3 }), 3, 31, by decide +kernel, by decide +kernel, by decide +kernel,
     by decide +kernel⟩,
   ⟨((hd.irqSet (fun w => { w with pend := 2 ^ 255, en := 2 ^ 255 })).setGrp 31 { IrqGroup.idle with count := 1 }),
     3, 31, by decide +kernel⟩⟩

theorem witness_PlainWriteFrames :
    (∃ (s : State) (t : State) (c : Fin 4) (w : Fin 8) (v : Nat), ((exec (.irqEnsetWrite (.core c) w v) s = .next t
      ∨ exec (.irqEnclrWrite (.core c) w v) s = .next t ∨ exec (.irqClrWrite (.core c) w v) s = .next t ∨ exec
      (.irqSetWrite (.core c) w v) s = .next t ∨ exec (.irqPendWrite (.core c) w v) s = .next t))) ∧
    (∃ (s : State) (t : State) (acc : _) (a : Fin 2) (v : _) (j : _), Canonical s ∧ j ≠ Obj.modMode a.val ∧ exec
      (.modModeWrite acc a v) s = .next t) ∧
    (∃ (s : State) (t : State) (acc : _) (a : Fin 2) (v : _) (j : _), Canonical s ∧ j ≠ Obj.keyGate a.val ∧ exec
      (.keyGateWrite acc a v) s = .next t) ∧
    (∃ (s : State) (t : State) (acc : _) (a : Fin 2) (v : _) (j : _), Canonical s ∧ j ≠ Obj.orderHold a.val ∧ exec
      (.orderHoldWrite acc a v) s = .next t) ∧
    (∃ (s : State) (t : State) (acc : _) (v : _) (j : _), Canonical s ∧ j ≠ Obj.auxEn ∧ exec (.auxEnWrite acc v) s
      = .next t) ∧
    (∃ (s : State) (t : State) (acc : _) (v : _) (j : _), Canonical s ∧ j ≠ Obj.cuePeriod ∧ exec (.cuePeriodWrite
      acc v) s = .next t) ∧
    (∃ (s : State) (t : State) (acc : _) (v : _) (j : _), Canonical s ∧ j ≠ Obj.slCues ∧ exec (.slCuesWrite acc v)
      s = .next t) :=
  ⟨⟨hd, _, 3, 7, 1, .inl (eq_next (by decide +kernel))⟩,
   ⟨hd, _, .core 0, 1, 0, 0, by decide +kernel, by decide +kernel, eq_next (by decide +kernel)⟩,
   ⟨hd, _, .core 0, 1, 0, 0, by decide +kernel, by decide +kernel, eq_next (by decide +kernel)⟩,
   ⟨hd, _, .core 0, 1, 0, 0, by decide +kernel, by decide +kernel, eq_next (by decide +kernel)⟩,
   ⟨hd, _, .core 0, 0, 0, by decide +kernel, by decide +kernel, eq_next (by decide +kernel)⟩,
   ⟨hd, _, .core 0, 0, 0, by decide +kernel, by decide +kernel, eq_next (by decide +kernel)⟩,
   ⟨hd, _, .core 0, 0, 0, by decide +kernel, by decide +kernel, eq_next (by decide +kernel)⟩⟩

theorem witness_TheCodeCorrectsOneSymbolAndDetectsTwo :
    (∃ (s : State) (w : Nat) (agent : Nat) (x : State.WordRead), x = s.readWord w agent ∧ symsOf (s.wordErr w) =
      []) ∧
    (∃ (s : State) (w : Nat) (agent : Nat) (x : State.WordRead) (i : _), x = s.readWord w agent ∧ symsOf (s.wordErr
      w) = [i]) ∧
    (∃ (s : State) (w : Nat) (agent : Nat) (x : State.WordRead) (i : _) (j : _), x = s.readWord w agent ∧ symsOf
      (s.wordErr w) = [i, j]) ∧
    (∃ (s : State) (w : Nat) (agent : Nat) (x : State.WordRead), x = s.readWord w agent ∧ 3 ≤ (symsOf (s.wordErr
      w)).length) :=
  ⟨⟨hd, 0, 1, _, rfl, by decide +kernel⟩,
   ⟨(hd.setWordErr 0 (16 ^ 35)), 0, 1, _, 35, rfl, by decide +kernel⟩,
   ⟨(hd.setWordErr 0 (1 + 16 ^ 35)), 0, 1, _, 0, 35, rfl, by decide +kernel⟩,
   ⟨(hd.setWordErr 0 (1 + 16 + 256)), 0, 1, _, rfl, by decide +kernel⟩⟩

theorem witness_MemInjSpoilsNamedSymbols :
    (∃ (s : State) (acc : Accessor) (v : Nat) (a : Nat) (b : Nat) (w : Nat), v < 2 ^ 64 ∧ a = fld v 29 24 ∧ b = fld
      v 37 32 ∧ w = fld v 21 0 ∧ Admits s acc Obj.memInj 8 ∧ a ≤ 35 ∧ ((b ≤ 35 ∨ b = 0x3F)) ∧ hasBit v 40 ∧
      ((s.isHead → s.og (Obj.modMode 0) = 0 ∧ s.og (Obj.modMode 1) = 0)) ∧ ((s.isCell → s.ring.node.admitted =
      false)) ∧ s.wordErr w = 0) ∧
    (∃ (s : State) (acc : Accessor) (v : Nat) (a : Nat) (b : Nat) (w : Nat), v < 2 ^ 64 ∧ a = fld v 29 24 ∧ b = fld
      v 37 32 ∧ w = fld v 21 0 ∧ Admits s acc Obj.memInj 8 ∧ a ≤ 35 ∧ ((b ≤ 35 ∨ b = 0x3F)) ∧ hasBit v 40 ∧
      ((s.isHead ∧ (s.og (Obj.modMode 0) ≠ 0 ∨ s.og (Obj.modMode 1) ≠ 0)) ∨ (s.isCell ∧ s.ring.node.admitted))) :=
  ⟨⟨hd, .core 0, (2 ^ 40 + 63 * 2 ^ 32 + 35 * 2 ^ 24), _, _, _, by decide +kernel, rfl, rfl, rfl,
     by decide +kernel, by decide +kernel, by decide +kernel, by decide +kernel, by decide +kernel,
     by decide +kernel, by decide +kernel⟩,
   ⟨(hd.oset (Obj.modMode 1) 1), .core 0, (2 ^ 40 + 63 * 2 ^ 32 + 35 * 2 ^ 24), _, _, _, by decide +kernel, rfl,
     rfl, rfl, by decide +kernel, by decide +kernel, by decide +kernel, by decide +kernel, by decide +kernel⟩⟩

theorem witness_PairsDemandOnEitherChannel :
    (∃ (p : SiPair) (q : SiPair) (flt : Nat) (disc : Nat) (l1 : Bool) (l2 : Bool), (p.ty = 1 ∨ p.ty = 2) ∧ p.lat ≤
      2 ∧ q = (p.sample flt disc l1 l2).1 ∧ ((q.f1 = demandHigh p.ty 0 ∨ q.f2 = demandHigh p.ty 1))) ∧
    (∃ (p : SiPair) (q : SiPair) (flt : Nat) (disc : Nat) (l1 : Bool) (l2 : Bool), (p.ty = 1 ∨ p.ty = 2) ∧ p.lat ≤
      2 ∧ q = (p.sample flt disc l1 l2).1 ∧ q.f1 ≠ demandHigh p.ty 0 ∧ q.f2 ≠ demandHigh p.ty 1) ∧
    (∃ (p : SiPair) (q : SiPair) (flt : Nat) (disc : Nat) (l1 : Bool) (l2 : Bool), (p.ty = 1 ∨ p.ty = 2) ∧ p.lat ≤
      2 ∧ q = (p.sample flt disc l1 l2).1 ∧ p.lat = 1) ∧
    (∃ (p : SiPair) (q : SiPair) (flt : Nat) (disc : Nat) (l1 : Bool) (l2 : Bool), (p.ty = 1 ∨ p.ty = 2) ∧ p.lat ≤
      2 ∧ q = (p.sample flt disc l1 l2).1) :=
  ⟨⟨{ SiPair.reset with ty := 2, f2 := true }, _, 5, 10, true, true, by decide +kernel, by decide +kernel, rfl,
     by decide +kernel⟩,
   ⟨{ SiPair.reset with ty := 1, f1 := true, f2 := true }, _, 1, 10, true, true, by decide +kernel,
     by decide +kernel, rfl, by decide +kernel, by decide +kernel⟩,
   ⟨{ SiPair.reset with ty := 1, f1 := true, f2 := true, lat := 1 }, _, 1, 10, true, true, by decide +kernel,
     by decide +kernel, rfl, by decide +kernel⟩,
   ⟨{ SiPair.reset with ty := 1, lat := 2 }, _, 1, 10, true, true, by decide +kernel, by decide +kernel, rfl⟩⟩

theorem witness_TripsClearOnlyWhileInactive :
    ∃ (i : Nat), i < 6 :=
  ⟨5, by decide +kernel⟩

theorem witness_FramesReadBack :
    ∃ (ty : Nat) (flags : Nat) (dst : Nat) (src : Nat) (seq : Nat) (aux : Nat) (cue : Nat) (pl : Bytes) (f :
      Bytes), ty < 2 ^ 8 ∧ flags < 2 ^ 8 ∧ dst < 2 ^ 16 ∧ src < 2 ^ 16 ∧ seq < 2 ^ 16 ∧ aux < 2 ^ 16 ∧ cue < 2 ^ 32
      ∧ pl.length ≤ (if ty = 0x10 then 1548 else 1024) ∧ f = mkFrame ty flags dst src seq aux cue pl :=
  ⟨0x10, 255, 65535, 65535, 65535, 65535, (2 ^ 32 - 1), [1, 2], _, by decide +kernel, by decide +kernel,
    by decide +kernel, by decide +kernel, by decide +kernel, by decide +kernel, by decide +kernel,
    by decide +kernel, rfl⟩

theorem witness_StartUpCommandsComplete :
    (∃ (s : State), s.pw.pwr = .off) ∧
    (∃ (s : State), s.powered) ∧
    (∃ (s : State), s.asleep) ∧
    (∃ (s : State), s.pw.pwr = .start ∧ s.pw.stage = .heldReset ∧ s.pw.refGood ∧ s.pw.thermalHold = false) ∧
    (∃ (s : State) (a : _) (b : _), s.pw.stage = .waitRole ∧ s.pw.samples = [a, a] ∧ b ≠ a) ∧
    (∃ (s : State) (a : _), s.pw.stage = .waitRole ∧ s.pw.samples = [a, a]) ∧
    (∃ (s : State), s.pw.stage = .waitRole ∧ s.pw.samples.length = 3) ∧
    (∃ (s : State) (bad : _) (reads : _) (blocks : _) (left : _) (t : _) (u : _), s.pw.pwr = .start ∧ s.pw.stage =
      .roleLatched ∧ (s.flashSpoil reads).bootJournal bad blocks = (false, left, t) ∧ t.bootImage bad left =
      (false, u)) ∧
    (∃ (s : State), s.pw.pwr = .start ∧ s.pw.stage = .firmware) ∧
    (∃ (s : State), s.powered) ∧
    (∃ (s : State) (acc : _), 2 < 2 ^ (8 * Dict.width Obj.pwrCmd) ∧ Admits s acc Obj.pwrCmd (Dict.width
      Obj.pwrCmd)) ∧
    (∃ (s : State), s.powered ∧ s.flt.resetDue) :=
  ⟨⟨(State.reset.pwSet (fun w => { w with pwr := .off })), by decide +kernel⟩,
   ⟨hd, by decide +kernel⟩,
   ⟨(cl.pwSet (fun w => { w with pwr := .standby })), by decide +kernel⟩,
   ⟨State.reset, by decide +kernel, by decide +kernel, by decide +kernel, by decide +kernel⟩,
   ⟨(State.reset.pwSet (fun w => { w with stage := .waitRole, samples := [true, true] })), true, false,
     by decide +kernel, by decide +kernel, by decide⟩,
   ⟨(State.reset.pwSet (fun w => { w with stage := .waitRole, samples := [true, true] })), true, by decide +kernel,
     by decide +kernel⟩,
   ⟨(State.reset.pwSet (fun w => { w with stage := .waitRole, samples := [true, false, true] })),
     by decide +kernel, by decide +kernel⟩,
   ⟨((State.reset.pwSet (fun w => { w with stage := .roleLatched })).memSet (fun w =>
     { w with active := .empty, previous := .empty })), [], [], 0, 0, _, _, by decide +kernel, by decide +kernel,
     rfl, eq_false (by decide +kernel)⟩,
   ⟨(State.reset.pwSet (fun w => { w with stage := .firmware })), by decide +kernel, by decide +kernel⟩,
   ⟨hd, by decide +kernel⟩,
   ⟨hd, .core 0, by decide +kernel, by decide +kernel⟩,
   ⟨(cl.fltSet (fun w => { w with resetDue := true })), by decide +kernel, by decide +kernel⟩⟩

theorem witness_PowerCommandsComplete :
    (∃ (s : State) (acc : _), s.standbyRefused = false ∧ 1 < 2 ^ (8 * Dict.width Obj.pwrCmd) ∧ Admits s acc
      Obj.pwrCmd (Dict.width Obj.pwrCmd)) ∧
    (∃ (s : State) (t : _), s.pw.idleSince = some t ∧ s.cellOn ∧ s.og Obj.stbyIdle ≠ 0 ∧ s.portUp 0 = false ∧
      s.portUp 1 = false ∧ s.standbyRefused = false) ∧
    (∃ (s : State) (rising : Bool), s.asleep ∧ s.og Obj.wakePol = (if rising then 1 else 2)) ∧
    (∃ (s : State) (rising : Bool) (n : _), s.asleep = false ∧ s.pw.wakeStart ∧ s.pw.wakeCause = 2 ∧ s.pw.wakePol =
      (if rising then 1 else 2) ∧ s.tm.tb2 = (s.aonTime n).tm.tb2) ∧
    (∃ (s : State) (n : _), s.pw.pwr = .standby ∧ s.og Obj.wakeTimer ≠ 0 ∧ s.og Obj.wakeTimer * 1000000000 ≤ n *
      30517578125 / 1000000) ∧
    (∃ (s : State), s.pw.pwr = .standby ∧ s.og Obj.checkInterval ≠ 0 ∧ s.isCell ∧ s.og Obj.storeAction ≠ 1) ∧
    (∃ (s : State), s.powered ∧ s.flt.resetDue = false) ∧
    (∃ (s : State), s.powered ∧ s.pw.refGood) ∧
    (∃ (s : State), s.powered ∧ s.pw.refGood = false) ∧
    (∃ (s : State), s.running ∧ s.pw.refGood) ∧
    (∃ (s : State) (acc : _) (v : _), v ≤ 1 ∧ v < 2 ^ (8 * Dict.width Obj.auxEn) ∧ Admits s acc Obj.auxEn
      (Dict.width Obj.auxEn)) ∧
    (∃ (s : State), s.running ∧ s.pw.auxOn) ∧
    (∃ (s : State), s.headOn ∧ s.pw.standing = .waiting ∧ s.og Obj.headStanding = 1 ∧ s.xlUp 0 = false) :=
  ⟨⟨hd, .core 0, by decide +kernel, by decide +kernel, by decide +kernel⟩,
   ⟨((cl.pwSet (fun w => { w with idleSince := some 0 })).oset Obj.stbyIdle 1), _, rfl, by decide +kernel,
     by decide +kernel, by decide +kernel, by decide +kernel, by decide +kernel⟩,
   ⟨((cl.pwSet (fun w => { w with pwr := .standby })).oset Obj.wakePol 1), true, by decide +kernel,
     by decide +kernel⟩,
   ⟨(cl.pwSet (fun w => { w with wakeStart := true, wakeCause := 2, wakePol := 1 })), true, 0, by decide +kernel,
     by decide +kernel, by decide +kernel, by decide +kernel, by decide +kernel⟩,
   ⟨((cl.pwSet (fun w => { w with pwr := .standby })).oset Obj.wakeTimer 1), 32768, by decide +kernel,
     by decide +kernel, by decide +kernel⟩,
   ⟨((cl.pwSet (fun w => { w with pwr := .standby })).oset Obj.checkInterval 1), by decide +kernel,
     by decide +kernel, by decide +kernel, by decide +kernel⟩,
   ⟨hd, by decide +kernel, by decide +kernel⟩,
   ⟨hd, by decide +kernel, by decide +kernel⟩,
   ⟨(cl.pwSet (fun w => { w with refGood := false })), by decide +kernel, by decide +kernel⟩,
   ⟨hd, by decide +kernel, by decide +kernel⟩,
   ⟨hd, .core 0, 0, by decide +kernel, by decide +kernel, by decide +kernel⟩,
   ⟨(cl.pwSet (fun w => { w with auxOn := true })), by decide +kernel, by decide +kernel⟩,
   ⟨((hd.pwSet (fun w => { w with standing := .waiting })).oset Obj.headStanding 1), by decide +kernel,
     by decide +kernel, by decide +kernel, by decide +kernel⟩⟩

theorem witness_EnumerationCommandsComplete :
    (∃ (s : State) (acc : _) (p : _), p < 12 ∧ (¬(s.pw.ringMode = 2 ∧ p % 2 = 1)) ∧ s.portUp p ∧ s.understudy =
      false ∧ (s.ringRec p).admitted ∧ (p * 256 + 1) < 2 ^ (8 * Dict.width Obj.enumCmd) ∧ Admits s acc Obj.enumCmd
      (Dict.width Obj.enumCmd)) ∧
    (∃ (s : State) (acc : _) (p : _), p < 12 ∧ (¬(s.pw.ringMode = 2 ∧ p % 2 = 1)) ∧ s.portUp p ∧ s.understudy =
      false ∧ (s.ringRec p).admitted = false ∧ (p * 256 + 1) < 2 ^ (8 * Dict.width Obj.enumCmd) ∧ Admits s acc
      Obj.enumCmd (Dict.width Obj.enumCmd)) ∧
    (∃ (s : State) (acc : _) (p : _), p < 12 ∧ (¬(s.pw.ringMode = 2 ∧ p % 2 = 1)) ∧ s.portUp p ∧ s.understudy ∧ (p
      * 256 + 1) < 2 ^ (8 * Dict.width Obj.enumCmd) ∧ Admits s acc Obj.enumCmd (Dict.width Obj.enumCmd)) ∧
    (∃ (s : State) (acc : _) (p : _) (t : _), State.applyEnumCmd (p * 256 + 2) s = .ok t ∧ (p * 256 + 2) < 2 ^ (8 *
      Dict.width Obj.enumCmd) ∧ Admits s acc Obj.enumCmd (Dict.width Obj.enumCmd)) ∧
    (∃ (s : State) (acc : _) (p : _), p < 12 ∧ (¬(s.pw.ringMode = 2 ∧ p % 2 = 1)) ∧ s.portUp p ∧ (s.ringRec
      p).admitted ∧ (p * 256 + 3) < 2 ^ (8 * Dict.width Obj.enumCmd) ∧ Admits s acc Obj.enumCmd (Dict.width
      Obj.enumCmd)) ∧
    (∃ (s : State) (acc : _) (p : _) (v : _), v ≤ 2 ∧ (¬(s.pw.ringMode = 2 ∧ p % 2 = 1 ∧ v ≠ 0)) ∧ (s.ringRec
      p).admitted = false ∧ v < 2 ^ (8 * Dict.width (Obj.ringArm p)) ∧ Admits s acc (Obj.ringArm p) (Dict.width
      (Obj.ringArm p))) ∧
    (∃ (s : State) (p : _) (f : _) (e : _) (r : _), Received s p f e 1 true r ∧ r.st.activeHead ∧ r.pl.length = 4) ∧
    (∃ (s : State) (p : _) (f : _) (e : _) (r : _), Received s p f e 4 true r ∧ r.st.activeHead ∧ r.pl.length = 8 ∧
      rd r.pl 0 1 = 1 ∧ hopOf r.hdr.src ≠ 0) ∧
    (∃ (s : State) (p : _) (f : _) (e : _) (r : _), Received s p f e 4 true r ∧ r.st.activeHead ∧ r.pl.length = 8 ∧
      rd r.pl 0 1 = 1 ∧ hopOf r.hdr.src = 0) ∧
    (∃ (s : State) (p : _) (f : _) (e : _) (r : _), Received s p f e 4 true r ∧ r.st.activeHead ∧ r.pl.length = 8 ∧
      rd r.pl 0 1 = 2) ∧
    (∃ (s : State) (p : _) (n : _), (s.ringRec p).heal = some n ∧ s.activeHead ∧ s.og Obj.healHold ≤ n ∧ (s.ringRec
      p).enumDue = false ∧ (s.ringRec p).enumBusy = false) ∧
    (∃ (s : State) (acc : _), 1 < 2 ^ (8 * Dict.width Obj.vlogCmd) ∧ Admits s acc Obj.vlogCmd (Dict.width
      Obj.vlogCmd)) :=
  ⟨⟨((hd.setPort 11 { PortRec.reset with st := .up }).setRing 11
     { RingRec.reset with admitted := true, enumerated := true }), .core 0, 11, by decide +kernel,
     by decide +kernel, by decide +kernel, by decide +kernel, by decide +kernel, by decide +kernel,
     by decide +kernel⟩,
   ⟨(hd.setPort 11 { PortRec.reset with st := .up }), .core 0, 11, by decide +kernel, by decide +kernel,
     by decide +kernel, by decide +kernel, by decide +kernel, by decide +kernel, by decide +kernel⟩,
   ⟨(un.setPort 11 { PortRec.reset with st := .up }), .core 0, 11, by decide +kernel, by decide +kernel,
     by decide +kernel, by decide +kernel, by decide +kernel, by decide +kernel⟩,
   ⟨((hd.setPort 11 { PortRec.reset with st := .up }).setRing 11
     { RingRec.reset with admitted := true, enumerated := true }), .core 0, 11, _, eq_ok (by decide +kernel),
     by decide +kernel, by decide +kernel⟩,
   ⟨((hd.setPort 11 { PortRec.reset with st := .up }).setRing 11
     { RingRec.reset with admitted := true, enumerated := true }), .core 0, 11, by decide +kernel,
     by decide +kernel, by decide +kernel, by decide +kernel, by decide +kernel, by decide +kernel⟩,
   ⟨hd, .core 0, 11, 2, by decide +kernel, by decide +kernel, by decide +kernel, by decide +kernel,
     by decide +kernel⟩,
   ⟨(hd.setPort 11 { PortRec.reset with st := .up }), 11, (fr 1 [0, 0, 0, 0] 1535), .whole, _, ⟨by decide +kernel, rfl,
     by decide +kernel, by decide +kernel, by decide +kernel⟩, by decide +kernel, by decide +kernel⟩,
   ⟨(hd.setPort 11 { PortRec.reset with st := .up }), 11, (fr 4 [1, 0, 0, 0, 0, 0, 0, 0] 1535 1504), .whole, _,
     ⟨by decide +kernel, rfl, by decide +kernel, by decide +kernel, by decide +kernel⟩, by decide +kernel,
     by decide +kernel, by decide +kernel, by decide +kernel⟩,
   ⟨(hd.setPort 11 { PortRec.reset with st := .up }), 11, (fr 4 [1, 0, 0, 0, 0, 0, 0, 0] 1535), .whole, _,
     ⟨by decide +kernel, rfl, by decide +kernel, by decide +kernel, by decide +kernel⟩, by decide +kernel,
     by decide +kernel, by decide +kernel, by decide +kernel⟩,
   ⟨(hd.setPort 11 { PortRec.reset with st := .up }), 11, (fr 4 [2, 0, 0, 0, 0, 0, 0, 0] 1535), .whole, _,
     ⟨by decide +kernel, rfl, by decide +kernel, by decide +kernel, by decide +kernel⟩, by decide +kernel,
     by decide +kernel, by decide +kernel⟩,
   ⟨(hd.setRing 11 { RingRec.reset with heal := some 60000 }), 11, 60000, by decide +kernel, by decide +kernel,
     by decide +kernel, by decide +kernel, by decide +kernel⟩,
   ⟨hd, .core 0, by decide +kernel, by decide +kernel⟩⟩

theorem witness_EnumFrameNumbersACell :
    ∃ (s : State) (p : Nat) (f : Bytes) (e : FrameEnd) (r : State.Rx), Received s p f e 1 false r ∧ r.st.isCell ∧
      r.st.betweenHeads = false ∧ r.pl.length = 4 ∧ rd r.pl 2 1 = 0 :=
  ⟨(cl.setPort 1 { PortRec.reset with st := .up }), 1, (fr 1 [0, 0, 0, 0]), .whole, _, ⟨by decide +kernel, rfl,
    by decide +kernel, by decide +kernel, by decide +kernel⟩, by decide +kernel, by decide +kernel,
    by decide +kernel, by decide +kernel⟩

theorem witness_CueCommandsComplete :
    (∃ (s : State) (acc : _) (v : _), v % 2 = 0 ∧ 20000 ≤ v ∧ v ≤ 200000 ∧ v < 2 ^ (8 * Dict.width Obj.cuePeriod) ∧
      Admits s acc Obj.cuePeriod (Dict.width Obj.cuePeriod)) ∧
    (∃ (s : State), s.working) ∧
    (∃ (s : State), s.cellOn ∧ (s.loopTo0 ((s.tm.cueStart + 2800) % 2 ^ 64)).reportMeasure.ring.node.admitted) ∧
    (∃ (s : State) (rep : _) (x : _) (n : _) (p : _), s.cellOn ∧ s.ring.node.report = some rep ∧ rep.length = 28 ∧
      p = (s.loopTo0 ((s.tm.cueStart + 3200) % 2 ^ 64)).reportPort ∧ (s.loopTo0 ((s.tm.cueStart + 3200) % 2 ^
      64)).ownRecord p (setFar rep (p + 1 != (s.loopTo0 ((s.tm.cueStart + 3200) % 2 ^ 64)).ring.node.orient)) = x ∧
      n = { x.2.ring.node with report := some x.1, repPort := p } ∧ n.index = 0) ∧
    (∃ (s : State) (p : _) (own : _), p ≤ 1 ∧ s.cellOn ∧ s.portUp p ∧ s.launched = some own ∧ s.ring.node.repPort =
      otherPort p) ∧
    (∃ (s : State) (own : _), s.cellOn ∧ s.launched = some own ∧ s.ring.node.trainSeen = false) ∧
    (∃ (s : State) (p : _), s.portUp p ∧ s.activeHead ∧ s.understudy = false) ∧
    (∃ (s : State) (p : _), s.portUp p ∧ s.understudy ∧ s.xlUp 0) ∧
    (∃ (s : State), s.activeHead ∧ s.tm.compDone = false) ∧
    (∃ (s : State) (t : _), s.activeHead ∧ s.tm.compDone ∧ s.tm.compSent = false ∧ t = (((((s.loopTo2 (s.tm.compAt
      + 2400)).tmSet fun t => { t with compSent := true }).capBaseAll 4 (fun _ => true)).bothArms
      traceRecord).sendSheets).sendPeer) :=
  ⟨⟨hd, .core 0, 20000, by decide +kernel, by decide +kernel, by decide +kernel, by decide +kernel,
     by decide +kernel⟩,
   ⟨hd, by decide +kernel⟩,
   ⟨(cl.setNode { cl.ring.node with admitted := true }), by decide +kernel, by decide +kernel⟩,
   ⟨((cl.setPort 1 { PortRec.reset with st := .up }).setNode
     { cl.ring.node with admitted := true, report := some (List.replicate 28 0) }), (List.replicate 28 0), _, _, _,
     by decide +kernel, by decide +kernel, by decide +kernel, rfl, rfl, rfl, by decide +kernel⟩,
   ⟨((cl.setPort 1 { PortRec.reset with st := .up }).setNode
     { cl.ring.node with admitted := true, report := some (List.replicate 32 0), repPort := 0 }), 1,
     (List.replicate 32 0), by decide +kernel, by decide +kernel, by decide +kernel, by decide +kernel,
     by decide +kernel⟩,
   ⟨((cl.setPort 1 { PortRec.reset with st := .up }).setNode
     { cl.ring.node with admitted := true, report := some (List.replicate 32 0), repPort := 0 }), (List.replicate
     32 0), by decide +kernel, by decide +kernel, by decide +kernel⟩,
   ⟨(hd.setPort 11 { PortRec.reset with st := .up }), 11, by decide +kernel, by decide +kernel, by decide +kernel⟩,
   ⟨((un.setPort 11 { PortRec.reset with st := .up }).setXl 0
     { XlLink.reset with st := .up2, tx := 3, rx := 3, lock := 3 }), 11, by decide +kernel, by decide +kernel,
     by decide +kernel⟩,
   ⟨hd, by decide +kernel, by decide +kernel⟩,
   ⟨(hd.tmSet (fun w => { w with compDone := true, compSent := false })), _, by decide +kernel, by decide +kernel,
     by decide +kernel, rfl⟩⟩

theorem witness_RingTrafficCompletes :
    (∃ (s : State) (p : _) (f : _) (e : _) (r : _), rd f 0 1 = 0x10 ∧ r = s.rxRing p f e false ∧ r.act ∧ r.hdr.ty =
      0x10 ∧ r.st.isCell) ∧
    (∃ (s : State) (p : _) (f : _) (e : _) (r : _), rd f 0 1 = 0x10 ∧ r = s.rxRing p f e false ∧ r.act ∧ r.hdr.ty =
      0x10 ∧ r.st.isCell = false) ∧
    (∃ (s : State) (p : _), s.portUp p) ∧
    (∃ (s : State) (p : _), s.cellOn ∧ s.portUp p) ∧
    (∃ (s : State) (p : _) (t : _), s.headOn ∧ s.portUp p ∧ t = (s.setPort p
      { s.rport p with gotC := some s.tm.tb2 }).rngEvt p 3 ∧ t.echoes p) ∧
    (∃ (s : State) (p : _) (t : _), s.headOn ∧ s.portUp p ∧ t = (s.setPort p
      { s.rport p with gotC := some s.tm.tb2 }).rngEvt p 3 ∧ t.echoes p = false) ∧
    (∃ (s : State) (p : _) (f : _) (e : _) (r : _), Received s p f e 6 true r ∧ r.st.isCell ∧ r.st.addressed r.hdr
      ∧ r.pl.length = 4) ∧
    (∃ (s : State) (p : _), portLive s p ∧ s.portUp p ∧ (s.rport p).bgCue = some s.tm.cue) ∧
    (∃ (s : State) (p : _), portLive s p ∧ s.portUp p ∧ (s.rport p).bgCue ≠ some s.tm.cue ∧ ((((s.queueTime
      p).passWindow p).isCell = true → ((s.queueTime p).passWindow p).ring.node.servedBy ≠ p))) ∧
    (∃ (s : State) (p : _) (f : _) (e : _) (r : _) (t : _) (u : _), Received s p f e 5 true r ∧ r.st.isCell ∧
      r.pl.length = 1 ∧ t = r.st.setNode { r.st.ring.node with opRate := false } ∧ u = t.setPort 0
      { t.rport 0 with rateCap := rd r.pl 0 1 } ∧ (t.rport 0).rate ≤ rd r.pl 0 1 ∧ (u.rport 1).rate ≤ rd r.pl 0 1) ∧
    (∃ (s : State) (p : _) (f : _) (e : _) (r : _), Received s p f e 0x50 true r ∧ r.st.activeHead ∧ r.st.addressed
      r.hdr) :=
  ⟨⟨(cl.setPort 1 { PortRec.reset with st := .up }), 1, (fr 0x10 [1]), .whole, _, by decide +kernel, rfl,
     by decide +kernel, by decide +kernel, by decide +kernel⟩,
   ⟨(hd.setPort 11 { PortRec.reset with st := .up }), 11, (fr 0x10 [1] 1535), .whole, _, by decide +kernel, rfl,
     by decide +kernel, by decide +kernel, by decide +kernel⟩,
   ⟨(hd.setPort 11 { PortRec.reset with st := .up }), 11, by decide +kernel⟩,
   ⟨(cl.setPort 1 { PortRec.reset with st := .up }), 1, by decide +kernel, by decide +kernel⟩,
   ⟨(hd.setPort 11 { PortRec.reset with st := .up, sentC := some 0 }), 11, _, by decide +kernel, by decide +kernel,
     rfl, by decide +kernel⟩,
   ⟨(hd.setPort 11 { PortRec.reset with st := .up }), 11, _, by decide +kernel, by decide +kernel, rfl,
     by decide +kernel⟩,
   ⟨(cl.setPort 1 { PortRec.reset with st := .up }), 1, (fr 6 [0, 0, 0, 0]), .whole, _, ⟨by decide +kernel, rfl,
     by decide +kernel, by decide +kernel, by decide +kernel⟩, by decide +kernel, by decide +kernel,
     by decide +kernel⟩,
   ⟨(hd.setPort 11 { PortRec.reset with st := .up, bgCue := some 0 }), 11, by decide +kernel, by decide +kernel,
     by decide +kernel⟩,
   ⟨(hd.setPort 11 { PortRec.reset with st := .up }), 11, by decide +kernel, by decide +kernel, by decide +kernel,
     by decide +kernel⟩,
   ⟨(cl.setPort 1 { PortRec.reset with st := .up }), 1, (fr 5 [3]), .whole, _, _, _, ⟨by decide +kernel, rfl,
     by decide +kernel, by decide +kernel, by decide +kernel⟩, by decide +kernel, by decide +kernel, rfl, rfl,
     by decide +kernel, by decide +kernel⟩,
   ⟨(hd.setPort 11 { PortRec.reset with st := .up }), 11, (fr 0x50 [1] 1535), .whole, _, ⟨by decide +kernel, rfl,
     by decide +kernel, by decide +kernel, by decide +kernel⟩, by decide +kernel, by decide +kernel⟩⟩

theorem witness_TimeCommandsComplete :
    (∃ (s : State) (p : _) (f : _) (e : _) (r : _), p < 12 ∧ Received s p f e 3 false r ∧ r.pl.length = 24) ∧
    (∃ (s : State) (p : _) (l : _) (f : _) (e : _) (r : _), 12 ≤ p ∧ XlReceived s (p - 12) l f e 3 r ∧ r.pl.length
      = 24) ∧
    (∃ (s : State) (p : _) (f : _) (e : _) (r : _), p < 12 ∧ Received s p f e 2 false r ∧ r.st.isCell ∧ r.pl.length
      = 16) ∧
    (∃ (s : State) (l : _) (f : _) (e : _) (r : _), XlReceived s 0 l f e 2 r ∧ r.st.understudy ∧ r.pl.length = 16) ∧
    (∃ (s : State), s.working ∧ s.activeHead = false ∧ 2 ≤ s.tm.noFrame + b2n (!s.tm.frameSeen) ∧ s.tm.tb0State =
      .acquire) ∧
    (∃ (s : State), s.working ∧ s.activeHead = false ∧ 2 ≤ s.tm.noFrame + b2n (!s.tm.frameSeen) ∧ s.tm.tb0State =
      .locked) ∧
    (∃ (s : State), s.working ∧ s.tm.tb0State = .holdover ∧ s.og Obj.holdoverLimit ≤ s.tm.holdCount) ∧
    (∃ (s : State) (acc : _) (v : _) (t : _), State.applyReAnchor v s = .ok t ∧ v < 2 ^ (8 * Dict.width
      Obj.reAnchor) ∧ Admits s acc Obj.reAnchor (Dict.width Obj.reAnchor)) ∧
    (∃ (s : State) (p : _) (f : _) (e : _) (r : _), Received s p f e 7 true r ∧ r.st.isCell ∧ r.st.addressed r.hdr
      ∧ r.st.gatesSafe) ∧
    (∃ (s : State) (p : _) (f : _) (e : _) (r : _), Received s p f e 7 true r ∧ r.st.isCell ∧ r.st.addressed r.hdr
      ∧ r.st.gatesSafe = false) ∧
    (∃ (s : State) (p : _) (d : _) (i : Int), ptpMine s p d ∧ s.tm.ptpPort = p ∧ -4 ≤ i ∧ i ≤ 0) ∧
    (∃ (s : State) (p : _) (d : _) (i : Int), (ptpMine s p d = false ∨ i < -4 ∨ 0 < i)) ∧
    (∃ (s : State) (d : _), ptpMine s 1 d) ∧
    (∃ (s : State) (d : _), ptpMine s 2 d) ∧
    (∃ (s : State) (p : _), s.headOn ∧ (p = 1 ∨ p = 2)) ∧
    (∃ (s : State) (p : _) (d : _), ptpMine s p d) ∧
    (∃ (s : State) (acc : _), 1 < 2 ^ (8 * Dict.width Obj.tb1Cmd) ∧ Admits s acc Obj.tb1Cmd (Dict.width
      Obj.tb1Cmd)) ∧
    (∃ (s : State) (acc : _) (v : _), v < 2 ^ (8 * Dict.width Obj.tb3) ∧ Admits s acc Obj.tb3 (Dict.width Obj.tb3)) ∧
    (∃ (s : State), s.activeHead ∧ s.og Obj.syncMode = 1) ∧
    (∃ (s : State), s.activeHead ∧ s.og Obj.syncMode = 2) ∧
    (∃ (s : State), s.activeHead ∧ s.tm.sync = .track ∧ s.tm.syncMiss + 1 < s.og Obj.syncMissLimit) ∧
    (∃ (s : State), s.activeHead ∧ s.tm.sync = .track ∧ s.og Obj.syncMissLimit ≤ s.tm.syncMiss + 1) ∧
    (∃ (s : State) (acc : _), 0 < 2 ^ (8 * Dict.width Obj.syncMode) ∧ Admits s acc Obj.syncMode (Dict.width
      Obj.syncMode)) ∧
    (∃ (s : State) (acc : _) (v : _), (v = 1 ∨ v = 2) ∧ s.tm.sync = .off ∧ v < 2 ^ (8 * Dict.width Obj.syncMode) ∧
      Admits s acc Obj.syncMode (Dict.width Obj.syncMode)) ∧
    (∃ (s : State) (acc : _), (s.tm.sync = .track ∨ s.tm.sync = .free) ∧ 1 < 2 ^ (8 * Dict.width Obj.syncCmd) ∧
      Admits s acc Obj.syncCmd (Dict.width Obj.syncCmd)) :=
  ⟨⟨(hd.setPort 11 { PortRec.reset with st := .up }), 11, (fr 3 (List.replicate 24 0)), .whole, _,
     by decide +kernel, ⟨by decide +kernel, rfl, by decide +kernel, by decide +kernel, by decide +kernel⟩,
     by decide +kernel⟩,
   ⟨(un.setXl 0 { XlLink.reset with st := .up2, tx := 3, rx := 3, lock := 3 }), 12, 1, (xf 3 (List.replicate 24
     0)), .whole, _, by decide +kernel, ⟨rfl, by decide +kernel, by decide +kernel⟩, by decide +kernel⟩,
   ⟨(cl.setPort 1 { PortRec.reset with st := .up }), 1, (fr 2 (List.replicate 16 0)), .whole, _, by decide +kernel,
     ⟨by decide +kernel, rfl, by decide +kernel, by decide +kernel, by decide +kernel⟩, by decide +kernel,
     by decide +kernel⟩,
   ⟨(un.setXl 0 { XlLink.reset with st := .up2, tx := 3, rx := 3, lock := 3 }), 1, (xf 2 (List.replicate 16 0)),
     .whole, _, ⟨rfl, by decide +kernel, by decide +kernel⟩, by decide +kernel, by decide +kernel⟩,
   ⟨(cl.tmSet (fun w => { w with noFrame := 2, tb0State := .acquire })), by decide +kernel, by decide +kernel,
     by decide +kernel, by decide +kernel⟩,
   ⟨(cl.tmSet (fun w => { w with noFrame := 1, frameSeen := false, tb0State := .locked })), by decide +kernel,
     by decide +kernel, by decide +kernel, by decide +kernel⟩,
   ⟨(cl.tmSet (fun w => { w with tb0State := .holdover, holdCount := 1000000 })), by decide +kernel,
     by decide +kernel, by decide +kernel⟩,
   ⟨hd, .core 0, 0xFF00, _, eq_ok (by decide +kernel), by decide +kernel, by decide +kernel⟩,
   ⟨(cl.setPort 1 { PortRec.reset with st := .up }), 1, (fr 7 [0]), .whole, _, ⟨by decide +kernel, rfl,
     by decide +kernel, by decide +kernel, by decide +kernel⟩, by decide +kernel, by decide +kernel,
     by decide +kernel⟩,
   ⟨(((cl.setPort 1 { PortRec.reset with st := .up }).setNode { cl.ring.node with admitted := true }).pwmSet (fun w
     => { w with held := 0 })), 1, (fr 7 [0]), .whole, _, ⟨by decide +kernel, rfl, by decide +kernel,
     by decide +kernel, by decide +kernel⟩, by decide +kernel, by decide +kernel, by decide +kernel⟩,
   ⟨(hd.tmSet (fun w => { w with ptpPort := 2 })), 2, 0, (-4), by decide +kernel, by decide +kernel,
     by decide +kernel, by decide +kernel⟩,
   ⟨hd, 1, 0, 1, by decide +kernel⟩,
   ⟨hd, 0, by decide +kernel⟩,
   ⟨hd, 0, by decide +kernel⟩,
   ⟨hd, 2, by decide +kernel, by decide +kernel⟩,
   ⟨hd, 2, 0, by decide +kernel⟩,
   ⟨hd, .core 0, by decide +kernel, by decide +kernel⟩,
   ⟨hd, .core 0, 0, by decide +kernel, by decide +kernel⟩,
   ⟨(hd.oset Obj.syncMode 1), by decide +kernel, by decide +kernel⟩,
   ⟨(hd.oset Obj.syncMode 2), by decide +kernel, by decide +kernel⟩,
   ⟨((hd.tmSet (fun w => { w with sync := .track })).oset Obj.syncMissLimit 2), by decide +kernel,
     by decide +kernel, by decide +kernel⟩,
   ⟨((hd.tmSet (fun w => { w with sync := .track })).oset Obj.syncMissLimit 1), by decide +kernel,
     by decide +kernel, by decide +kernel⟩,
   ⟨hd, .core 0, by decide +kernel, by decide +kernel⟩,
   ⟨hd, .core 0, 2, by decide +kernel, by decide +kernel, by decide +kernel, by decide +kernel⟩,
   ⟨(hd.tmSet (fun w => { w with sync := .free })), .core 0, by decide +kernel, by decide +kernel,
     by decide +kernel⟩⟩

theorem witness_TimeEventCommandsComplete :
    (∃ (s : State) (n : Fin 8), s.working ∧ s.og (Obj.tevtArm n.val) = 1 ∧ 1 ≤ s.og (Obj.tevtMode n.val) ∧ s.og
      (Obj.tevtMode n.val) ≤ 3 ∧ (s.tevt n.val).done = false) ∧
    (∃ (s : State) (acc : _) (n : Fin 8), 0 < 2 ^ (8 * Dict.width (Obj.tevtArm n.val)) ∧ Admits s acc (Obj.tevtArm
      n.val) (Dict.width (Obj.tevtArm n.val))) ∧
    (∃ (s : State) (acc : _) (n : Fin 8) (u : _), 1 ≤ s.og (Obj.tevtMode n.val) ∧ s.og (Obj.tevtMode n.val) ≤ 3 ∧ u
      = (s.oset (Obj.tevtArm n.val) 1).oset (Obj.tevtStatus n.val) 0 ∧ 1 < 2 ^ (8 * Dict.width (Obj.tevtArm n.val))
      ∧ Admits s acc (Obj.tevtArm n.val) (Dict.width (Obj.tevtArm n.val))) ∧
    (∃ (s : State), s.working) ∧
    (∃ (s : State) (i : Fin 3) (f : _), s.working ∧ hasBit (s.og (Obj.edgeSel i.val)) (b2n f) ∧ 4 ≤ (s.edges
      i.val).length) ∧
    (∃ (s : State) (acc : _) (i : Fin 3) (e : _) (es : _), Serves s acc (Obj.edgeEntry i.val) ∧ s.edges i.val = e
      :: es) :=
  ⟨⟨((hd.oset (Obj.tevtArm 7) 1).oset (Obj.tevtMode 7) 3), 7, by decide +kernel, by decide +kernel,
     by decide +kernel, by decide +kernel, by decide +kernel⟩,
   ⟨hd, .core 0, 7, by decide +kernel, by decide +kernel⟩,
   ⟨(hd.oset (Obj.tevtMode 7) 3), .core 0, 7, _, by decide +kernel, by decide +kernel, rfl, by decide +kernel,
     by decide +kernel⟩,
   ⟨hd, by decide +kernel⟩,
   ⟨((hd.oset (Obj.edgeSel 2) 2).setEdges 2 (List.replicate 4
     { tb0 := 0, tb1 := 0, tb2 := 0, tb3 := 0, flags := 0 })), 2, true, by decide +kernel, by decide +kernel,
     by decide +kernel⟩,
   ⟨(hd.setEdges 2 [{ tb0 := 0, tb1 := 0, tb2 := 0, tb3 := 0, flags := 0 }]), .core 0, 2, _, _, ⟨by decide +kernel,
     by decide +kernel, by decide +kernel, _, eq_some (by decide +kernel), by decide +kernel, by decide +kernel⟩,
     rfl⟩⟩

theorem witness_ModulationCommandsComplete :
    (∃ (s : State) (acc : _) (a : Fin 2) (v : _), v < 3 ∧ v < 2 ^ (8 * Dict.width (Obj.modMode a.val)) ∧ Admits s
      acc (Obj.modMode a.val) (Dict.width (Obj.modMode a.val))) ∧
    (∃ (s : State) (acc : _) (a : Fin 2), (s.armMod a.val).nav ≤ 31 * cpcOf (s.og (Obj.carRatio a.val)) ∧ 3 < 2 ^
      (8 * Dict.width (Obj.modMode a.val)) ∧ Admits s acc (Obj.modMode a.val) (Dict.width (Obj.modMode a.val))) ∧
    (∃ (s : State) (acc : _) (a : Fin 2), 31 * cpcOf (s.og (Obj.carRatio a.val)) < (s.armMod a.val).nav ∧ 3 < 2 ^
      (8 * Dict.width (Obj.modMode a.val)) ∧ Admits s acc (Obj.modMode a.val) (Dict.width (Obj.modMode a.val))) ∧
    (∃ (s : State) (acc : _) (a : Fin 2), 1 < 2 ^ (8 * Dict.width (Obj.sortCmd a.val)) ∧ Admits s acc (Obj.sortCmd
      a.val) (Dict.width (Obj.sortCmd a.val))) ∧
    (∃ (s : State) (acc : _) (a : Fin 2), 0 < 2 ^ (8 * Dict.width (Obj.keyGate a.val)) ∧ Admits s acc (Obj.keyGate
      a.val) (Dict.width (Obj.keyGate a.val))) ∧
    (∃ (s : State) (acc : _) (a : Fin 2), s.og (Obj.keyGate a.val) = 0 ∧ 1 < 2 ^ (8 * Dict.width (Obj.keyGate
      a.val)) ∧ Admits s acc (Obj.keyGate a.val) (Dict.width (Obj.keyGate a.val))) ∧
    (∃ (s : State) (acc : _) (a : Fin 2), 1 < 2 ^ (8 * Dict.width (Obj.orderHold a.val)) ∧ Admits s acc
      (Obj.orderHold a.val) (Dict.width (Obj.orderHold a.val))) ∧
    (∃ (s : State) (acc : _) (a : Fin 2), s.og (Obj.orderHold a.val) = 1 ∧ 0 < 2 ^ (8 * Dict.width (Obj.orderHold
      a.val)) ∧ Admits s acc (Obj.orderHold a.val) (Dict.width (Obj.orderHold a.val))) :=
  ⟨⟨hd, .core 0, 1, 2, by decide +kernel, by decide +kernel, by decide +kernel⟩,
   ⟨hd, .core 0, 1, by decide +kernel, by decide +kernel, by decide +kernel⟩,
   ⟨(hd.setArmMod 1 { hd.armMod 1 with nav := 1000000 }), .core 0, 1, by decide +kernel, by decide +kernel,
     by decide +kernel⟩,
   ⟨hd, .core 0, 1, by decide +kernel, by decide +kernel⟩,
   ⟨hd, .core 0, 1, by decide +kernel, by decide +kernel⟩,
   ⟨(hd.oset (Obj.keyGate 1) 0), .core 0, 1, by decide +kernel, by decide +kernel, by decide +kernel⟩,
   ⟨hd, .core 0, 1, by decide +kernel, by decide +kernel⟩,
   ⟨(hd.oset (Obj.orderHold 1) 1), .core 0, 1, by decide +kernel, by decide +kernel, by decide +kernel⟩⟩

theorem witness_RingPortCommandsComplete :
    (∃ (s : State) (p : Nat), portLive s p) ∧
    (∃ (s : State) (p : Nat) (t : _), portLive s p ∧ t = s.rset (rngReg p 0) (putBit (s.rg (rngReg p 0)) 0 false)) ∧
    (∃ (s : State) (p : Nat) (t : _), portLive s p ∧ t = s.rset (rngReg p 0) (putBit (s.rg (rngReg p 0)) 1 true) ∧
      (t.rport p).st = .up) ∧
    (∃ (s : State) (p : Nat) (t : _), portLive s p ∧ t = s.rset (rngReg p 0) (putBit (s.rg (rngReg p 0)) 1 false) ∧
      (t.rport p).st = .test) ∧
    (∃ (s : State) (p : Nat) (t : _), portLive s p ∧ (s.rport p).st = .detect ∧ (s.rport p).silent = 0 ∧ t =
      s.setPort p
      { s.rport p with st := .offer, sig := true, align := true, offers := 0, offer := [], accepts := 0, rateMax := s.og (Obj.rateMax p) }) ∧
    (∃ (s : State) (p : Nat), portLive s p ∧ (s.rport p).st = .offer) ∧
    (∃ (s : State) (p : Nat) (set : _), portLive s p ∧ set.length = 7 ∧ rd set 0 1 = 2 ∧ (s.rport p).st = .train) ∧
    (∃ (s : State) (p : Nat) (set : _), portLive s p ∧ set.length = 7 ∧ rd set 0 1 = 1 ∧ (s.rport p).st = .offer ∧
      set ≠ (s.rport p).offer) ∧
    (∃ (s : State) (p : Nat), portLive s p ∧ (s.rport p).st = .train ∧ (s.rport p).training = false ∧ 3 ≤ (s.rport
      p).accepts) ∧
    (∃ (s : State) (p : Nat), portLive s p ∧ (s.rport p).st = .train ∧ (s.rport p).training) ∧
    (∃ (s : State) (p : Nat), portLive s p ∧ (s.rport p).st = .train ∧ (s.rport p).training ∧ 0 < (s.rport p).rate) ∧
    (∃ (s : State) (p : Nat), portLive s p ∧ (s.rport p).st = .train ∧ (s.rport p).training ∧ (s.rport p).rate = 0) ∧
    (∃ (s : State) (p : Nat), portLive s p ∧ (s.rport p).silent ≠ 0) ∧
    (∃ (s : State) (p : Nat), portLive s p ∧ (s.rport p).st = .up) ∧
    (∃ (s : State) (p : Nat), portLive s p) ∧
    (∃ (s : State) (p : Nat), portLive s p) ∧
    (∃ (s : State) (p : Nat), portLive s p ∧ p < 12) :=
  ⟨⟨hd, 11, by decide +kernel⟩,
   ⟨hd, 11, _, by decide +kernel, rfl⟩,
   ⟨(hd.setPort 11 { PortRec.reset with st := .up }), 11, _, by decide +kernel, rfl, by decide +kernel⟩,
   ⟨(hd.setPort 11 { PortRec.reset with st := .test }), 11, _, by decide +kernel, rfl, by decide +kernel⟩,
   ⟨(hd.setPort 11 { PortRec.reset with st := .detect }), 11, _, by decide +kernel, by decide +kernel,
     by decide +kernel, rfl⟩,
   ⟨(hd.setPort 11 { PortRec.reset with st := .offer }), 11, by decide +kernel, by decide +kernel⟩,
   ⟨(hd.setPort 11 { PortRec.reset with st := .train }), 11, [2, 0, 0, 0, 0, 0, 0], by decide +kernel,
     by decide +kernel, by decide +kernel, by decide +kernel⟩,
   ⟨(hd.setPort 11 { PortRec.reset with st := .offer }), 11, [1, 0, 0, 0, 0, 0, 0], by decide +kernel,
     by decide +kernel, by decide +kernel, by decide +kernel, by decide +kernel⟩,
   ⟨(hd.setPort 11 { PortRec.reset with st := .train, accepts := 3 }), 11, by decide +kernel, by decide +kernel,
     by decide +kernel, by decide +kernel⟩,
   ⟨(hd.setPort 11 { PortRec.reset with st := .train, training := true }), 11, by decide +kernel,
     by decide +kernel, by decide +kernel⟩,
   ⟨(hd.setPort 11 { PortRec.reset with st := .train, training := true, rate := 1 }), 11, by decide +kernel,
     by decide +kernel, by decide +kernel, by decide +kernel⟩,
   ⟨(hd.setPort 11 { PortRec.reset with st := .train, training := true, rate := 0 }), 11, by decide +kernel,
     by decide +kernel, by decide +kernel, by decide +kernel⟩,
   ⟨(hd.setPort 11 { PortRec.reset with silent := 1 }), 11, by decide +kernel, by decide +kernel⟩,
   ⟨(hd.setPort 11 { PortRec.reset with st := .up }), 11, by decide +kernel, by decide +kernel⟩,
   ⟨hd, 11, by decide +kernel⟩,
   ⟨hd, 11, by decide +kernel⟩,
   ⟨hd, 11, by decide +kernel, by decide +kernel⟩⟩

theorem witness_CrossLinkCommandsComplete :
    (∃ (s : State) (l : Nat), linkLive s l) ∧
    (∃ (s : State) (l : Nat) (t : _), linkLive s l ∧ t = s.rset (xlReg l 0) (putBit (s.rg (xlReg l 0)) 1 true) ∧
      (t.xlink l).st ≠ .off) ∧
    (∃ (s : State) (l : Nat) (t : _), linkLive s l ∧ t = s.rset (xlReg l 0) (putBit (s.rg (xlReg l 0)) 1 false) ∧
      (t.xlink l).st = .test) ∧
    (∃ (s : State) (l : Nat) (t : _), linkLive s l ∧ t = s.xlSilenceEnd l ∧ (t.xlink l).st = .clock) ∧
    (∃ (s : State) (l : Nat) (errs : _) (slips : _) (tap : _) (slip : _) (t : _) (u : _), linkLive s l ∧ (s.xlink
      l).st = .align ∧ s.xlManual l = false ∧ hasBit (s.xlLaneEn l) 0 ∧ alignLane (errs, slips) = (tap, slip, true)
      ∧ t = ((s.setXl l { s.xlink l with eyeA := (errs, slips) }).rset (xlReg l 0x10) (slip * 256 + tap)).rset
      (xlReg l 0x18) 0 ∧ u = t.laneSampled l 0 ∧ hasBit (u.xlLaneEn l) 0 = hasBit (s.xlLaneEn l) 0) ∧
    (∃ (s : State) (l : Nat) (lane : _) (f : _) (e : _) (r : _), linkLive s l ∧ XlReceived s l lane f e 1 r ∧
      r.pl.length = 16) ∧
    (∃ (s : State) (l : Nat), linkLive s l ∧ (s.xlUp l ∨ (s.xlink l).st = .hello)) ∧
    (∃ (s : State) (l : Nat), linkLive s l) ∧
    (∃ (s : State) (l : Nat) (k : _), linkLive s l ∧ hasBit (s.xlink l).lock 0 ∧ k =
      { s.xlink l with lock := clrBit (s.xlink l).lock 0, comma := clrBit (s.xlink l).comma 0, rx := clrBit (s.xlink l).rx 0, rejoinA := none, rxWait := false }
      ∧ ((hasBit (s.xlink l).rx 0 = true → s.xlUp l = false ∧ (s.xlink l).st ≠ .hello))) ∧
    (∃ (s : State) (l : Nat) (f : _) (k : _) (t : _) (u : _), linkLive s l ∧ hasBit (s.xlink l).lock 0 ∧ (s.xlUp l
      ∨ (s.xlink l).st = .hello) ∧ hasBit (s.xlink l).rx 0 ∧ k =
      { s.xlink l with lock := clrBit (s.xlink l).lock 0, comma := clrBit (s.xlink l).comma 0, rx := clrBit (s.xlink l).rx 0, rejoinA := none, rxWait := false }
      ∧ k.rx ≠ 0 ∧ t = ((s.setXl l { k with st := xlWidthSt k }).xlLog l 0 0x0B 0).xlEvt l 2 ∧ u = (if f = [] then
      t else (t.relCut l f).bump (Obj.xlLost l))) ∧
    (∃ (s : State) (l : Nat) (f0 : _) (f1 : _) (t : _) (u : _), linkLive s l ∧ s.xlUp l ∧ t = (if hasBit (s.xlink
      l).rx 0 then s.xlLaneCut l 0 f0 else s) ∧ u = (if hasBit (s.xlink l).rx 1 then t.xlLaneCut l 1 f1 else t)) ∧
    (∃ (s : State) (l : Nat), linkLive s l ∧ s.xlUp l = false) ∧
    (∃ (s : State) (l : Nat) (c : _) (t : _), linkLive s l ∧ (s.xlink l).rejoinA = some c ∧ (s.xlUp l ∨ (s.xlink
      l).st = .hello) ∧ s.og Obj.rejoinHold ≤ c ∧ t = (s.setXl l
      { s.xlink l with rx := setBit (s.xlink l).rx 0, rejoinA := none, rxWait := true, st := xlWidthSt { s.xlink l with rx := setBit (s.xlink l).rx 0, rejoinA := none, rxWait := true } }).xlSendL
      l (setBit (s.xlink l).rx 0)) ∧
    (∃ (s : State) (l : Nat) (lane : _) (f : _) (e : _) (r : _), linkLive s l ∧ XlReceived s l lane f e 0x40 r) ∧
    (∃ (s : State) (l : Nat) (c : _) (t : _) (u : _), linkLive s l ∧ (s.xlink l).curtAt = some c ∧ t = (s.toTb2 (c
      + 410)).repeatCs ∧ u = t.setXl l { t.xlink l with curtAt := none, curtMask := 0 }) ∧
    (∃ (s : State) (l : Nat), linkLive s l) ∧
    (∃ (s : State) (l : Nat), linkLive s l) ∧
    (∃ (s : State) (l : Nat) (acc : _), linkLive s l ∧ 1 < 2 ^ (8 * Dict.width Obj.xlVlogCmd) ∧ Admits s acc
      Obj.xlVlogCmd (Dict.width Obj.xlVlogCmd)) ∧
    (∃ (s : State) (l : Nat), linkLive s l) :=
  ⟨⟨hd, 2, by decide +kernel⟩,
   ⟨(hd.setXl 2 { XlLink.reset with st := .up2 }), 2, _, by decide +kernel, rfl, by decide +kernel⟩,
   ⟨(hd.setXl 2 { XlLink.reset with st := .test }), 2, _, by decide +kernel, rfl, by decide +kernel⟩,
   ⟨(hd.setXl 2 { XlLink.reset with st := .clock, silent := 1, silentAt := 0 }), 2, _, by decide +kernel, rfl,
     by decide +kernel⟩,
   ⟨((hd.rset (xlReg 2 0) 0x60).setXl 2 { XlLink.reset with st := .align }), 2, (List.replicate 32 0), 512, 15, 9,
     _, _, by decide +kernel, by decide +kernel, by decide +kernel, by decide +kernel, by decide +kernel, rfl, rfl,
     by decide +kernel⟩,
   ⟨(hd.setXl 2 { XlLink.reset with st := .up2, tx := 3, rx := 3, lock := 3 }), 2, 1, (xf 1 (List.replicate 16 0)),
     .whole, _, by decide +kernel, ⟨rfl, by decide +kernel, by decide +kernel⟩, by decide +kernel⟩,
   ⟨(hd.setXl 2 { XlLink.reset with st := .hello }), 2, by decide +kernel, by decide +kernel⟩,
   ⟨hd, 2, by decide +kernel⟩,
   ⟨(hd.setXl 2 { XlLink.reset with st := .clock, lock := 1, rx := 1 }), 2, _, by decide +kernel,
     by decide +kernel, rfl, by decide +kernel⟩,
   ⟨(hd.setXl 2 { XlLink.reset with st := .hello, tx := 3, rx := 3, lock := 3 }), 2, [0], _, _, _,
     by decide +kernel, by decide +kernel, by decide +kernel, by decide +kernel, rfl, by decide +kernel, rfl, rfl⟩,
   ⟨(hd.setXl 2 { XlLink.reset with st := .up2, tx := 3, rx := 3, lock := 3 }), 2, [0], [0], _, _,
     by decide +kernel, by decide +kernel, rfl, rfl⟩,
   ⟨(hd.setXl 2 { XlLink.reset with st := .hello }), 2, by decide +kernel, by decide +kernel⟩,
   ⟨(hd.setXl 2 { XlLink.reset with st := .hello, tx := 3, rx := 2, lock := 3, rejoinA := some 100000 }), 2,
     100000, _, by decide +kernel, by decide +kernel, by decide +kernel, by decide +kernel, rfl⟩,
   ⟨(hd.setXl 2 { XlLink.reset with st := .up2, tx := 3, rx := 3, lock := 3 }), 2, 1, (xf 0x40 [0]), .whole, _,
     by decide +kernel, ⟨rfl, by decide +kernel, by decide +kernel⟩⟩,
   ⟨(hd.setXl 2 { XlLink.reset with st := .up2, curtAt := some 0, curtMask := 3 }), 2, 0, _, _, by decide +kernel,
     by decide +kernel, rfl, rfl⟩,
   ⟨hd, 2, by decide +kernel⟩,
   ⟨hd, 2, by decide +kernel⟩,
   ⟨hd, 2, .core 0, by decide +kernel, by decide +kernel, by decide +kernel⟩,
   ⟨hd, 2, by decide +kernel⟩⟩

theorem witness_PairCommandsComplete :
    (∃ (s : State), s.headOn ∧ s.xlUp 0 ∧ s.understudy) ∧
    (∃ (s : State) (l : Fin 2), s.headOn ∧ s.xlUp (l.val + 1)) ∧
    (∃ (s : State) (lane : _) (f : _) (e : _) (r : _), XlReceived s 0 lane f e 0x10 r) ∧
    (∃ (s : State) (lane : _) (f : _) (e : _) (r : _), XlReceived s 0 lane f e 0x11 r) ∧
    (∃ (s : State) (lane : _) (f : _) (e : _) (r : _), XlReceived s 0 lane f e 0x12 r ∧ r.st.activeHead) ∧
    (∃ (s : State) (lane : _) (f : _) (e : _) (r : _), XlReceived s 0 lane f e 0x20 r) ∧
    (∃ (s : State) (lane : _) (f : _) (e : _) (r : _), XlReceived s 0 lane f e 0x21 r) ∧
    (∃ (s : State), s.lateSnap) ∧
    (∃ (s : State), s.lateSnap = false) ∧
    (∃ (s : State) (lane : _) (f : _) (e : _) (r : _), XlReceived s 0 lane f e 0x30 r ∧ r.st.activeHead ∧
      r.pl.length = 64) ∧
    (∃ (s : State), s.activeHead ∧ s.pw.ringMode = 1 ∧ 8 ≤ s.pair.healthMiss) ∧
    (∃ (s : State), s.understudy ∧ s.og Obj.lossCues ≤ s.pair.lossRun ∧ s.pair.lossTold = false ∧ s.unfitReasons =
      0) ∧
    (∃ (s : State), s.understudy ∧ s.og Obj.lossCues ≤ s.pair.lossRun ∧ s.pair.lossTold = false ∧ s.unfitReasons ≠
      0 ∧ s.og Obj.takeoverUnfit ≠ 1) ∧
    (∃ (s : State) (acc : _), s.activeHead ∧ rd s.pair.health 4 1 ≠ 2 ∧ 1 < 2 ^ (8 * Dict.width Obj.takeoverCmd) ∧
      Admits s acc Obj.takeoverCmd (Dict.width Obj.takeoverCmd)) :=
  ⟨⟨(un.setXl 0 { XlLink.reset with st := .up2, tx := 3, rx := 3, lock := 3 }), by decide +kernel,
     by decide +kernel, by decide +kernel⟩,
   ⟨(hd.setXl 2 { XlLink.reset with st := .up2, tx := 3, rx := 3, lock := 3 }), 1, by decide +kernel,
     by decide +kernel⟩,
   ⟨(hd.setXl 0 { XlLink.reset with st := .up2, tx := 3, rx := 3, lock := 3 }), 0, (xf 16 [0]), .whole, _, ⟨rfl,
     by decide +kernel, by decide +kernel⟩⟩,
   ⟨(hd.setXl 0 { XlLink.reset with st := .up2, tx := 3, rx := 3, lock := 3 }), 0, (xf 17 [0]), .whole, _, ⟨rfl,
     by decide +kernel, by decide +kernel⟩⟩,
   ⟨(hd.setXl 0 { XlLink.reset with st := .up2, tx := 3, rx := 3, lock := 3 }), 0, (xf 18 [0]), .whole, _, ⟨rfl,
     by decide +kernel, by decide +kernel⟩, by decide +kernel⟩,
   ⟨(hd.setXl 0 { XlLink.reset with st := .up2, tx := 3, rx := 3, lock := 3 }), 0, (xf 32 [0]), .whole, _, ⟨rfl,
     by decide +kernel, by decide +kernel⟩⟩,
   ⟨(hd.setXl 0 { XlLink.reset with st := .up2, tx := 3, rx := 3, lock := 3 }), 0, (xf 33 [0]), .whole, _, ⟨rfl,
     by decide +kernel, by decide +kernel⟩⟩,
   ⟨((un.tmSet (fun w => { w with cue := 2 })).pairSet (fun w =>
     { w with fastIn := [{ cue := 0, len := 0, count := 0, crc := 0, parts := [] }] })), by decide +kernel⟩,
   ⟨un, by decide +kernel⟩,
   ⟨(hd.setXl 0 { XlLink.reset with st := .up2, tx := 3, rx := 3, lock := 3 }), 0, (xf 0x30 (List.replicate 64 0)),
     .whole, _, ⟨rfl, by decide +kernel, by decide +kernel⟩, by decide +kernel, by decide +kernel⟩,
   ⟨((hd.pwSet (fun w => { w with ringMode := 1 })).pairSet (fun w => { w with healthMiss := 8 })),
     by decide +kernel, by decide +kernel, by decide +kernel⟩,
   ⟨(((un.tmSet (fun w => { w with tb0State := .locked })).pairSet (fun w =>
     { w with fast := some [], slow := some [], mSynced := true, testBad := [], diffSeen := false })).pairSet (fun
     w => { w with lossRun := 1000, lossTold := false })), by decide +kernel, by decide +kernel, by decide +kernel,
     by decide +kernel⟩,
   ⟨(un.pairSet (fun w => { w with lossRun := 1000, lossTold := false })), by decide +kernel, by decide +kernel,
     by decide +kernel, by decide +kernel, by decide +kernel⟩,
   ⟨hd, .core 0, by decide +kernel, by decide +kernel, by decide +kernel, by decide +kernel⟩⟩

theorem witness_PwmCommandsComplete :
    (∃ (s : State) (e : _) (l : _), s.cellOn ∧ s.pwm.todo = e :: l) ∧
    (∃ (s : State) (x : _) (l : _), s.working ∧ s.pwm.rises = x :: l) ∧
    (∃ (s : State), s.working) ∧
    (∃ (s : State), s.working ∧ s.pwm.calBad < 3) ∧
    (∃ (s : State), s.working ∧ 3 ≤ s.pwm.calBad) ∧
    (∃ (s : State) (peak : _), s.cellOn ∧ s.hasStage ∧ s.bat.st = .run ∧ s.og Obj.carMode ≠ 0 ∧ ((peak = true →
      s.og Obj.carMode = 2)) ∧ s.pwm.carAt = none) ∧
    (∃ (s : State), s.cellOn) ∧
    (∃ (s : State) (acc : _) (v : _), perOk s v ∧ v < 2 ^ (8 * Dict.width Obj.carShper) ∧ Admits s acc Obj.carShper
      (Dict.width Obj.carShper)) ∧
    (∃ (s : State) (v : _), s.cellOn ∧ perOk s (v % 2 ^ 20)) ∧
    (∃ (s : State) (acc : _) (v : _), s.loopOwns = false ∧ v < 2 ^ (8 * Dict.width Obj.carShduty) ∧ Admits s acc
      Obj.carShduty (Dict.width Obj.carShduty)) ∧
    (∃ (s : State), s.cellOn ∧ s.loopOwns = false) ∧
    (∃ (s : State), s.cellOn ∧ s.loopOwns) ∧
    (∃ (s : State), s.cellOn) ∧
    (∃ (s : State) (i : _) (h : _) (n : _), s.working ∧ i < 6 ∧ n ≠ 0 ∧ h = (s.og (Obj.tripPol i) == 0) ∧ hasBit
      s.pwm.tripLvl i = false ∧ s.og (Obj.tripFlt i) ≤ s.pwm.tripCnt.getD i 0 + n) ∧
    (∃ (s : State) (i : _) (h : _) (n : _), s.working ∧ i < 6 ∧ n ≠ 0 ∧ h = (s.og (Obj.tripPol i) == 0) ∧ hasBit
      s.pwm.tripLvl i = false ∧ s.pwm.tripCnt.getD i 0 + n < s.og (Obj.tripFlt i)) ∧
    (∃ (s : State) (i : _) (h : _) (n : _), s.working ∧ i < 6 ∧ n ≠ 0 ∧ h = (s.og (Obj.tripPol i) != 0) ∧ hasBit
      s.pwm.tripLvl i ∧ s.og (Obj.tripFlt i) ≤ s.pwm.tripCnt.getD i 0 + n) ∧
    (∃ (s : State) (acc : _) (m : _), m < 64 ∧ m < 2 ^ (8 * Dict.width Obj.tripClr) ∧ Admits s acc Obj.tripClr
      (Dict.width Obj.tripClr)) ∧
    (∃ (s : State), s.working) ∧
    (∃ (s : State) (acc : _), 1 < 2 ^ (8 * Dict.width Obj.bypCmd) ∧ Admits s acc Obj.bypCmd (Dict.width
      Obj.bypCmd)) ∧
    (∃ (s : State), s.cellOn ∧ s.pwm.bypSt = .delay) ∧
    (∃ (s : State) (t : _) (u : _), s.cellOn ∧ s.pwm.bypSt = .pulse ∧ s.og Obj.bypSense = 0xFF ∧ t = s.loopTo2
      (s.pwm.riseAt + s.og Obj.bypPulse) ∧ u = t.drive 6 false t.tm.tb0) ∧
    (∃ (s : State) (t : _) (u : _), s.cellOn ∧ s.pwm.bypSt = .pulse ∧ s.og Obj.bypSense ≠ 0xFF ∧ t = s.loopTo2
      (s.pwm.riseAt + s.og Obj.bypPulse) ∧ u = t.drive 6 false t.tm.tb0) ∧
    (∃ (s : State) (t : _), s.cellOn ∧ s.pwm.bypSt = .confirm ∧ s.og Obj.bypSense ≠ 0xFF ∧ t = s.loopTo2
      (s.pwm.riseAt + 1000 * s.og Obj.bypConfirm) ∧ t.pwm.pulses ≤ t.og Obj.bypRetry) ∧
    (∃ (s : State) (t : _), s.cellOn ∧ s.pwm.bypSt = .confirm ∧ s.og Obj.bypSense ≠ 0xFF ∧ t = s.loopTo2
      (s.pwm.riseAt + 1000 * s.og Obj.bypConfirm) ∧ t.og Obj.bypRetry < t.pwm.pulses) ∧
    (∃ (s : State), s.cellOn ∧ s.og Obj.bypSense < 6) ∧
    (∃ (s : State), s.running) ∧
    (∃ (s : State), s.running ∧ s.pw.pwmClock = false) :=
  ⟨⟨(cl.pwmSet (fun w => { w with todo := [(1, 5)] })), _, _, by decide +kernel, rfl⟩,
   ⟨(cl.pwmSet (fun w => { w with rises := [(1, 5)] })), _, _, by decide +kernel, rfl⟩,
   ⟨hd, by decide +kernel⟩,
   ⟨hd, by decide +kernel, by decide +kernel⟩,
   ⟨(cl.pwmSet (fun w => { w with calBad := 3 })), by decide +kernel, by decide +kernel⟩,
   ⟨((cl4.batSet (fun w => { w with st := .run })).oset Obj.carMode 2), true, by decide +kernel, by decide +kernel,
     by decide +kernel, by decide +kernel, by decide +kernel, by decide +kernel⟩,
   ⟨cl4, by decide +kernel⟩,
   ⟨cl4, .core 0, 500000, by decide +kernel, by decide +kernel, by decide +kernel⟩,
   ⟨cl4, 500, by decide +kernel, by decide +kernel⟩,
   ⟨cl4, .core 0, 0, by decide +kernel, by decide +kernel, by decide +kernel⟩,
   ⟨cl4, by decide +kernel, by decide +kernel⟩,
   ⟨(cl4.batSet (fun w => { w with st := .run })), by decide +kernel, by decide +kernel⟩,
   ⟨cl4, by decide +kernel⟩,
   ⟨((cl4.pwmSet (fun w => { w with tripCnt := [0, 0, 0, 0, 0, 7] })).oset (Obj.tripFlt 5) 8), 5, _, 1,
     by decide +kernel, by decide +kernel, by decide +kernel, rfl, by decide +kernel, by decide +kernel⟩,
   ⟨(cl4.oset (Obj.tripFlt 5) 8), 5, _, 7, by decide +kernel, by decide +kernel, by decide +kernel, rfl,
     by decide +kernel, by decide +kernel⟩,
   ⟨((cl4.pwmSet (fun w => { w with tripLvl := 32 })).oset (Obj.tripFlt 5) 8), 5, _, 8, by decide +kernel,
     by decide +kernel, by decide +kernel, rfl, by decide +kernel, by decide +kernel⟩,
   ⟨cl4, .core 0, 63, by decide +kernel, by decide +kernel, by decide +kernel⟩,
   ⟨hd, by decide +kernel⟩,
   ⟨cl4, .core 0, by decide +kernel, by decide +kernel⟩,
   ⟨(cl4.pwmSet (fun w => { w with bypSt := .delay })), by decide +kernel, by decide +kernel⟩,
   ⟨((cl4.pwmSet (fun w => { w with bypSt := .pulse })).oset Obj.bypSense 255), _, _, by decide +kernel,
     by decide +kernel, by decide +kernel, rfl, rfl⟩,
   ⟨((cl4.pwmSet (fun w => { w with bypSt := .pulse })).oset Obj.bypSense 0), _, _, by decide +kernel,
     by decide +kernel, by decide +kernel, rfl, rfl⟩,
   ⟨(((cl4.pwmSet (fun w => { w with bypSt := .confirm })).oset Obj.bypSense 0).oset Obj.bypRetry 1), _,
     by decide +kernel, by decide +kernel, by decide +kernel, rfl, by decide +kernel⟩,
   ⟨(((cl4.pwmSet (fun w => { w with bypSt := .confirm, pulses := 2 })).oset Obj.bypSense 0).oset Obj.bypRetry 1),
     _, by decide +kernel, by decide +kernel, by decide +kernel, rfl, by decide +kernel⟩,
   ⟨(cl4.oset Obj.bypSense 5), by decide +kernel, by decide +kernel⟩,
   ⟨hd, by decide +kernel⟩,
   ⟨(cl4.pwSet (fun w => { w with pwmClock := false })), by decide +kernel, by decide +kernel⟩⟩

theorem witness_BatteryCommandsComplete :
    (∃ (s : State) (acc : _), 0 < 2 ^ (8 * Dict.width Obj.batMode) ∧ Admits s acc Obj.batMode (Dict.width
      Obj.batMode)) ∧
    (∃ (s : State) (acc : _), s.batLimitsSet ∧ s.og Obj.batCommissioned ≠ 0 ∧ 2 < 2 ^ (8 * Dict.width Obj.batMode)
      ∧ Admits s acc Obj.batMode (Dict.width Obj.batMode)) ∧
    (∃ (s : State) (acc : _), s.batLimitsSet = false ∧ 2 < 2 ^ (8 * Dict.width Obj.batMode) ∧ Admits s acc
      Obj.batMode (Dict.width Obj.batMode)) ∧
    (∃ (s : State) (acc : _) (v : _), v ≤ 2 ∧ s.batLimitsSet ∧ s.ring.node.admitted = false ∧ v < 2 ^ (8 *
      Dict.width Obj.batTest) ∧ Admits s acc Obj.batTest (Dict.width Obj.batTest)) ∧
    (∃ (s : State) (acc : _), s.bat.st = .fault ∧ s.stopPresent = false ∧ 1 < 2 ^ (8 * Dict.width Obj.batCmd) ∧
      Admits s acc Obj.batCmd (Dict.width Obj.batCmd)) ∧
    (∃ (s : State), s.running ∧ s.hasStage) ∧
    (∃ (s : State) (acc : _) (v : _), v < 2 ^ (8 * Dict.width Obj.socSet) ∧ Admits s acc Obj.socSet (Dict.width
      Obj.socSet)) ∧
    (∃ (s : State) (t : _) (u : _), s.bat.restAt = some t ∧ s.running ∧ s.hasStage ∧ s.og Obj.restT ≠ 0 ∧
      s.bat.restDone = false ∧ u = s.toTb2 (t + s.og Obj.restT * 1000000000)) :=
  ⟨⟨cl4, .core 0, by decide +kernel, by decide +kernel⟩,
   ⟨(((((((((cl4.oset Obj.batPRated 1120403456).oset Obj.batCap 1120403456).oset Obj.iDisMax 1120403456).oset
     Obj.iChgMax 1120403456).oset Obj.batVmax 1120403456).oset Obj.batVmin 1065353216).oset Obj.vDisTaper
     1073741824).oset Obj.vChgTaper 1077936128).oset Obj.batCommissioned 1), .core 0, by decide +kernel,
     by decide +kernel, by decide +kernel, by decide +kernel⟩,
   ⟨cl4, .core 0, by decide +kernel, by decide +kernel, by decide +kernel⟩,
   ⟨((((((((cl4.oset Obj.batPRated 1120403456).oset Obj.batCap 1120403456).oset Obj.iDisMax 1120403456).oset
     Obj.iChgMax 1120403456).oset Obj.batVmax 1120403456).oset Obj.batVmin 1065353216).oset Obj.vDisTaper
     1073741824).oset Obj.vChgTaper 1077936128), .core 0, 2, by decide +kernel, by decide +kernel,
     by decide +kernel, by decide +kernel, by decide +kernel⟩,
   ⟨(cl4.batSet (fun w => { w with st := .fault })), .core 0, by decide +kernel, by decide +kernel,
     by decide +kernel, by decide +kernel⟩,
   ⟨cl4, by decide +kernel, by decide +kernel⟩,
   ⟨cl4, .core 0, 65535, by decide +kernel, by decide +kernel⟩,
   ⟨((cl4.batSet (fun w => { w with restAt := some 0, restDone := false })).oset Obj.restT 1), _, _, rfl,
     by decide +kernel, by decide +kernel, by decide +kernel, by decide +kernel, rfl⟩⟩

theorem witness_LoopCommandsComplete :
    (∃ (s : State) (g : Fin 4) (t : _), s.working ∧ s.og (Obj.groupSrc g.val) = 2 ∧ s.subtickNext g.val < s.og
      (Obj.groupRate g.val) ∧ t = s.loopTo0 (s.tm.cueStart + 8 * (s.subtickNext g.val * s.tm.cueLen / s.og
      (Obj.groupRate g.val)))) ∧
    (∃ (s : State) (acc : _) (ch : _) (d : _), s.descOk d ∧ Admits s acc (Obj.loopDesc ch) d.length) ∧
    (∃ (s : State) (acc : _) (ch : _) (d : _), rd d 256 4 = crc32 (d.take 256) ∧ Admits s acc (Obj.loopGtab ch)
      d.length) ∧
    (∃ (s : State) (acc : _) (ch : _) (v : _), fld v 63 54 = 0 ∧ fld v 47 32 = 0 ∧ v < 2 ^ (8 * Dict.width
      (Obj.gtabPoke ch)) ∧ Admits s acc (Obj.gtabPoke ch) (Dict.width (Obj.gtabPoke ch))) ∧
    (∃ (s : State) (acc : _) (ch : _) (v : _), toI 16 v ≤ dI16 (s.dg (Obj.loopDesc ch)) 28 ∧ v < 2 ^ (8 *
      Dict.width (limitKey 0 ch)) ∧ Admits s acc (limitKey 0 ch) (Dict.width (limitKey 0 ch))) ∧
    (∃ (s : State) (acc : _) (ch : _) (v : _), dI16 (s.dg (Obj.loopDesc ch)) 26 ≤ toI 16 v ∧ v < 2 ^ (8 *
      Dict.width (limitKey 1 ch)) ∧ Admits s acc (limitKey 1 ch) (Dict.width (limitKey 1 ch))) ∧
    (∃ (s : State) (acc : _) (ch : _) (v : _), toI 16 v ≤ dI16 (s.dg (Obj.loopDesc ch)) 32 ∧ v < 2 ^ (8 *
      Dict.width (limitKey 2 ch)) ∧ Admits s acc (limitKey 2 ch) (Dict.width (limitKey 2 ch))) ∧
    (∃ (s : State) (acc : _) (ch : _) (v : _), dI16 (s.dg (Obj.loopDesc ch)) 30 ≤ toI 16 v ∧ v < 2 ^ (8 *
      Dict.width (limitKey 3 ch)) ∧ Admits s acc (limitKey 3 ch) (Dict.width (limitKey 3 ch))) ∧
    (∃ (s : State) (acc : _) (ch : _) (v : _), dI16 (s.dg (Obj.loopDesc ch)) 28 < toI 16 v ∧ v < 2 ^ (8 *
      Dict.width (limitKey 0 ch)) ∧ Admits s acc (limitKey 0 ch) (Dict.width (limitKey 0 ch))) ∧
    (∃ (s : State) (acc : _) (ch : _) (v : _), v < 2 ^ (8 * Dict.width (Obj.intSet ch)) ∧ Admits s acc (Obj.intSet
      ch) (Dict.width (Obj.intSet ch))) ∧
    (∃ (s : State) (acc : _) (ch : _) (v : _), v ≤ 15 ∧ v < 2 ^ (8 * Dict.width (Obj.loopFlags ch)) ∧ Admits s acc
      (Obj.loopFlags ch) (Dict.width (Obj.loopFlags ch))) ∧
    (∃ (s : State) (acc : _), s.loop.injOn = false ∧ s.chOn (s.og Obj.injCh) ∧ (s.loopCh (s.og Obj.injCh)).fallback
      = false ∧ 1 < 2 ^ (8 * Dict.width Obj.injCmd) ∧ Admits s acc Obj.injCmd (Dict.width Obj.injCmd)) ∧
    (∃ (s : State) (acc : _), s.loop.injOn ∧ 2 < 2 ^ (8 * Dict.width Obj.injCmd) ∧ Admits s acc Obj.injCmd
      (Dict.width Obj.injCmd)) ∧
    (∃ (s : State) (acc : _), s.loop.injOn ∧ 1 < 2 ^ (8 * Dict.width Obj.injCmd) ∧ Admits s acc Obj.injCmd
      (Dict.width Obj.injCmd)) :=
  ⟨⟨((hd.oset (Obj.groupSrc 3) 2).oset (Obj.groupRate 3) 1), 3, _, by decide +kernel, by decide +kernel,
     by decide +kernel, rfl⟩,
   ⟨hd, .core 0, 0, ld, by decide +kernel, by decide +kernel⟩,
   ⟨hd, .core 0, 0, gt, gt_check, by decide +kernel⟩,
   ⟨hd, .core 0, 0, 0, by decide +kernel, by decide +kernel, by decide +kernel, by decide +kernel⟩,
   ⟨hd, .core 0, 0, 0, by decide +kernel, by decide +kernel, by decide +kernel⟩,
   ⟨hd, .core 0, 0, 0, by decide +kernel, by decide +kernel, by decide +kernel⟩,
   ⟨hd, .core 0, 0, 0, by decide +kernel, by decide +kernel, by decide +kernel⟩,
   ⟨hd, .core 0, 0, 0, by decide +kernel, by decide +kernel, by decide +kernel⟩,
   ⟨(hd.dset (Obj.loopDesc 0) (List.replicate 64 0)), .core 0, 0, 1, by decide +kernel, by decide +kernel,
     by decide +kernel⟩,
   ⟨hd, .core 0, 0, 0, by decide +kernel, by decide +kernel⟩,
   ⟨hd, .core 0, 0, 15, by decide +kernel, by decide +kernel, by decide +kernel⟩,
   ⟨(hd.setCh 0 { hd.loopCh 0 with desc := [0, 0, 0, 0, 0, 0, 0, 1] }), .core 0, by decide +kernel,
     by decide +kernel, by decide +kernel, by decide +kernel, by decide +kernel⟩,
   ⟨(hd.loopSet (fun w => { w with injOn := true })), .core 0, by decide +kernel, by decide +kernel,
     by decide +kernel⟩,
   ⟨(hd.loopSet (fun w => { w with injOn := true })), .core 0, by decide +kernel, by decide +kernel,
     by decide +kernel⟩⟩

theorem witness_MeasurementCommandsComplete :
    (∃ (s : State) (acc : _) (d : _) (t : _), s.setupWrite (fun u => u.dset Obj.seqabTable d) = .ok t ∧ Admits s
      acc Obj.seqabTable d.length) ∧
    (∃ (s : State) (c : _) (n : Fin 64) (v : _) (t : _), s.working ∧ applySeqEntry c n.val v s = .ok t) ∧
    (∃ (s : State) (q : Fin 8) (t : _), s.running ∧ s.seqTrigOf q.val = 4 ∧ (s.seqRec q.val).timer = some t) ∧
    (∃ (s : State) (acc : _) (q : Fin 8), s.seqReserved q.val = false ∧ s.seqTrigOf q.val = 5 ∧ 1 < 2 ^ (8 *
      Dict.width (Obj.seqCmd q.val)) ∧ Admits s acc (Obj.seqCmd q.val) (Dict.width (Obj.seqCmd q.val))) ∧
    (∃ (s : State) (acc : _) (q : Fin 8), s.seqReserved q.val ∧ 1 < 2 ^ (8 * Dict.width (Obj.seqCmd q.val)) ∧
      Admits s acc (Obj.seqCmd q.val) (Dict.width (Obj.seqCmd q.val))) ∧
    (∃ (s : State), s.working) ∧
    (∃ (s : State), s.running) ∧
    (∃ (s : State) (q : Fin 8) (raws : _) (n : _) (x : _) (l : _) (k : _) (i : _) (t : _) (u : _) (v : _),
      s.running ∧ openFirst (s.seqRec q.val) = some (x, l) ∧ t = s.groupsTill 256 x.2.2.1 ∧ t.resultWrite q.val
      raws = some (k, i, u) ∧ q.val ≠ 4 ∧ v = ((u.monitorResult k i).measResult k).safUpdate n) ∧
    (∃ (s : State) (q : Fin 8), s.running ∧ (s.seqRec q.val).open_ = []) ∧
    (∃ (s : State), s.working) ∧
    (∃ (s : State) (acc : _) (n : Fin 64) (c : Bool), Serves s acc (if c then Obj.resC n.val else Obj.resAb n.val)) ∧
    (∃ (s : State) (acc : _) (v : _), v ≤ 1 ∧ v < 2 ^ (8 * Dict.width Obj.refEn) ∧ Admits s acc Obj.refEn
      (Dict.width Obj.refEn)) ∧
    (∃ (s : State), s.working) ∧
    (∃ (s : State) (t : _) (u : _), s.adc.refAt = some t ∧ s.running ∧ s.adc.refReady = false ∧ u = ((s.toTb2 (t +
      2000000)).adcSet fun w => { w with refReady := true }).irqPost 16 4) ∧
    (∃ (s : State) (acc : _), s.isCell ∧ s.ring.node.admitted = false ∧ s.isHead = false ∧ s.adc.refReady ∧
      s.adc.cal ≠ 1 ∧ 1 < 2 ^ (8 * Dict.width Obj.calCmd) ∧ Admits s acc Obj.calCmd (Dict.width Obj.calCmd)) ∧
    (∃ (s : State) (a : _) (b : _), s.running ∧ s.adc.cal = 1 ∧ calMeanOk a ∧ calMeanOk b) ∧
    (∃ (s : State) (a : _) (b : _), s.running ∧ s.adc.cal = 1 ∧ (calMeanOk a = false ∨ calMeanOk b = false)) :=
  ⟨⟨hd, .core 0, (List.replicate 256 0), _, eq_ok (by decide +kernel), by decide +kernel⟩,
   ⟨hd, false, 0, 0, _, by decide +kernel, eq_ok (by decide +kernel)⟩,
   ⟨((hd.oset (Obj.seqTrig 7) 4).setSeq 7 { AdcSeq.reset with timer := some 0 }), 7, _, by decide +kernel,
     by decide +kernel, rfl⟩,
   ⟨(hd.oset (Obj.seqTrig 7) 5), .core 0, 7, by decide +kernel, by decide +kernel, by decide +kernel,
     by decide +kernel⟩,
   ⟨cl4, .core 0, 4, by decide +kernel, by decide +kernel, by decide +kernel⟩,
   ⟨hd, by decide +kernel⟩,
   ⟨hd, by decide +kernel⟩,
   ⟨(hd.setSeq 7 { AdcSeq.reset with open_ := [(0, 0, 0, true, 0)] }), 7, [], 0, _, _, _, _, _, _, _,
     by decide +kernel, eq_some2 (by decide +kernel), rfl, eq_some3 (by decide +kernel), by decide +kernel, rfl⟩,
   ⟨hd, 7, by decide +kernel, by decide +kernel⟩,
   ⟨hd, by decide +kernel⟩,
   ⟨hd, .core 0, 63, true, ⟨by decide +kernel, by decide +kernel, by decide +kernel, _, eq_some
     (by decide +kernel), by decide +kernel, by decide +kernel⟩⟩,
   ⟨hd, .core 0, 1, by decide +kernel, by decide +kernel, by decide +kernel⟩,
   ⟨hd, by decide +kernel⟩,
   ⟨(hd.adcSet (fun w => { w with refAt := some 0, refReady := false })), _, _, rfl, by decide +kernel,
     by decide +kernel, rfl⟩,
   ⟨(cl.adcSet (fun w => { w with refReady := true })), .core 0, by decide +kernel, by decide +kernel,
     by decide +kernel, by decide +kernel, by decide +kernel, by decide +kernel, by decide +kernel⟩,
   ⟨(cl.adcSet (fun w => { w with cal := 1 })), (List.replicate 64 256), (List.replicate 64 (-256)),
     by decide +kernel, by decide +kernel, by decide +kernel, by decide +kernel⟩,
   ⟨(cl.adcSet (fun w => { w with cal := 1 })), [], (16385 :: []), by decide +kernel, by decide +kernel,
     by decide +kernel⟩⟩

theorem witness_CaptureCommandsComplete :
    (∃ (s : State) (n : Fin 8) (j : _) (t : _) (u : _), s.working ∧ n.val < s.capCount ∧ (s.stream n.val).st ≠
      .stopped ∧ s.og (Obj.sampleSrc n.val) = 1 ∧ sampleArgOk 1 (s.og (Obj.sampleArg n.val)) ∧ j < s.og
      (Obj.sampleArg n.val) ∧ j = (if (s.stream n.val).cue = some s.tm.cue then (s.stream n.val).j else 0) ∧ t =
      s.loopTo0 (s.tm.cueStart + 8 * (j * s.tm.cueLen / s.og (Obj.sampleArg n.val))) ∧ u = (subtickWith t (j *
      s.tm.cueLen / s.og (Obj.sampleArg n.val))).foldl (fun x m => x.capTest m) t) ∧
    (∃ (s : State) (acc : _) (n : _), (s.stream n).st = .stopped ∧ s.og (Obj.capPre n) = 0 ∧ 1 < 2 ^ (8 *
      Dict.width (Obj.capCmd n)) ∧ Admits s acc (Obj.capCmd n) (Dict.width (Obj.capCmd n))) ∧
    (∃ (s : State) (acc : _) (n : _), (s.stream n).st ≠ .stopped ∧ 1 < 2 ^ (8 * Dict.width (Obj.capCmd n)) ∧ Admits
      s acc (Obj.capCmd n) (Dict.width (Obj.capCmd n))) ∧
    (∃ (s : State) (acc : _) (n : _), (s.stream n).st ≠ .stopped ∧ 2 < 2 ^ (8 * Dict.width (Obj.capCmd n)) ∧ Admits
      s acc (Obj.capCmd n) (Dict.width (Obj.capCmd n))) ∧
    (∃ (s : State) (acc : _) (n : _), (s.stream n).st = .disarmed ∧ 3 < 2 ^ (8 * Dict.width (Obj.capCmd n)) ∧
      Admits s acc (Obj.capCmd n) (Dict.width (Obj.capCmd n))) ∧
    (∃ (s : State) (acc : _) (n : _), (s.stream n).st ≠ .stopped ∧ 4 < 2 ^ (8 * Dict.width (Obj.capCmd n)) ∧ Admits
      s acc (Obj.capCmd n) (Dict.width (Obj.capCmd n))) ∧
    (∃ (s : State) (n : Fin 8), s.working ∧ n.val < s.capCount ∧ 1 ≤ s.og (Obj.trigSrc n.val) ∧ s.og (Obj.trigSrc
      n.val) ≤ 6) ∧
    (∃ (s : State) (n : Fin 8), s.working ∧ (s.stream n.val).st = .holdoff ∧ s.og (Obj.holdoffMode n.val) = 1) ∧
    (∃ (s : State) (acc : _) (v : _) (w : _), s.cap.wins.find? (fun w => w.id == v && w.ready) = some w ∧ v < 2 ^
      (8 * Dict.width Obj.winRelease) ∧ Admits s acc Obj.winRelease (Dict.width Obj.winRelease)) ∧
    (∃ (s : State) (p : _) (n : Fin 8), s.working ∧ s.accPresent (.path p) ∧ n.val < s.capCount) :=
  ⟨⟨(((hd.setStream 7 { CapStream.reset with st := .armed }).oset (Obj.sampleSrc 7) 1).oset (Obj.sampleArg 7) 1),
     7, _, _, _, by decide +kernel, by decide +kernel, by decide +kernel, by decide +kernel, by decide +kernel,
     by decide +kernel, rfl, rfl, rfl⟩,
   ⟨hd, .core 0, 0, by decide +kernel, by decide +kernel, by decide +kernel, by decide +kernel⟩,
   ⟨(hd.setStream 0 { CapStream.reset with st := .armed }), .core 0, 0, by decide +kernel, by decide +kernel,
     by decide +kernel⟩,
   ⟨(hd.setStream 0 { CapStream.reset with st := .armed }), .core 0, 0, by decide +kernel, by decide +kernel,
     by decide +kernel⟩,
   ⟨(hd.setStream 0 { CapStream.reset with st := .disarmed }), .core 0, 0, by decide +kernel, by decide +kernel,
     by decide +kernel⟩,
   ⟨(hd.setStream 0 { CapStream.reset with st := .armed }), .core 0, 0, by decide +kernel, by decide +kernel,
     by decide +kernel⟩,
   ⟨(hd.oset (Obj.trigSrc 7) 6), 7, by decide +kernel, by decide +kernel, by decide +kernel, by decide +kernel⟩,
   ⟨((hd.setStream 7 { CapStream.reset with st := .holdoff }).oset (Obj.holdoffMode 7) 1), 7, by decide +kernel,
     by decide +kernel, by decide +kernel⟩,
   ⟨(hd.capSet (fun w =>
     { w with wins := [{ id := 1, stream := 0, flags := 0, recSize := 0, preHeld := 0, postReq := 0, postHeld := 0, seq0 := 0, tb0 := 0, tb2 := 0, tsrc := 0, ready := true, caddr := 0, cstream := 0, base := 0, len := 0, data := [] }] })),
     .core 0, 1, _, eq_some (by decide +kernel), by decide +kernel, by decide +kernel⟩,
   ⟨hd, 0, 7, by decide +kernel, by decide +kernel, by decide +kernel⟩⟩

theorem witness_SequenceBitInstructionsComplete :
    (∃ (s : State) (a : Fin 16) (o : Nat), s.activeHead ∧ s.sl.busy ∧ operandOk .bitR a.val o s.slNObj s.slCodeLen) ∧
    (∃ (s : State) (a : Fin 16) (o : Nat), s.activeHead ∧ s.sl.busy ∧ operandOk .bitW a.val o s.slNObj s.slCodeLen) ∧
    (∃ (s : State) (a : Fin 16) (o : Nat), s.activeHead ∧ s.sl.busy ∧ operandOk .bitM a.val o s.slNObj s.slCodeLen) :=
  ⟨⟨(hd.slSet (fun w => { w with busy := true })), 8, 0, by decide +kernel, by decide +kernel, by decide +kernel⟩,
   ⟨(hd.slSet (fun w => { w with busy := true })), 6, 0, by decide +kernel, by decide +kernel, by decide +kernel⟩,
   ⟨(hd.slSet (fun w => { w with busy := true })), 6, 0, by decide +kernel, by decide +kernel, by decide +kernel⟩⟩

theorem witness_SequenceWordInstructionsComplete :
    (∃ (s : State) (a : Fin 16) (o : Nat), s.activeHead ∧ s.sl.busy ∧ operandOk .wordR a.val o s.slNObj
      s.slCodeLen) ∧
    (∃ (s : State) (a : Fin 16) (o : Nat), s.activeHead ∧ s.sl.busy ∧ operandOk .wordR a.val o s.slNObj s.slCodeLen
      ∧ F32.isNaN (s.slWord a.val o) = false ∧ F32.isInf (s.slWord a.val o) = false) ∧
    (∃ (s : State) (a : Fin 16) (o : Nat), s.activeHead ∧ s.sl.busy ∧ operandOk .wordR a.val o s.slNObj s.slCodeLen
      ∧ F32.isNaN (s.slWord a.val o)) ∧
    (∃ (s : State) (a : Fin 16) (o : Nat), s.activeHead ∧ s.sl.busy ∧ operandOk .wordW a.val o s.slNObj
      s.slCodeLen) ∧
    (∃ (s : State) (a : Fin 16) (o : Nat) (n : _) (t : _), s.activeHead ∧ s.sl.busy ∧ operandOk .timer a.val o
      s.slNObj s.slCodeLen ∧ n = (if s.sl.rlo then min (s.slRead 6 (o % 2 ^ 22 + 1) + 1) (s.slRead 6 (o % 2 ^ 22))
      else 0) ∧ t = s.slWrite 6 (o % 2 ^ 22 + 1) n) :=
  ⟨⟨(hd.slSet (fun w => { w with busy := true })), 0, 0, by decide +kernel, by decide +kernel, by decide +kernel⟩,
   ⟨(hd.slSet (fun w => { w with busy := true })), 6, 0, by decide +kernel, by decide +kernel, by decide +kernel,
     by decide +kernel, by decide +kernel⟩,
   ⟨(hd.slSet (fun w => { w with busy := true, m := [(0, 0x7FC00000)] })), 6, 0, by decide +kernel,
     by decide +kernel, by decide +kernel, by decide +kernel⟩,
   ⟨(hd.slSet (fun w => { w with busy := true })), 6, 0, by decide +kernel, by decide +kernel, by decide +kernel⟩,
   ⟨(hd.slSet (fun w => { w with busy := true })), 6, 16382, _, _, by decide +kernel, by decide +kernel,
     by decide +kernel, rfl, rfl⟩⟩

theorem witness_SequenceControlInstructionsComplete :
    (∃ (s : State) (o : Nat), s.activeHead ∧ s.sl.busy ∧ operandOk .jump 0 o s.slNObj s.slCodeLen) ∧
    (∃ (s : State), s.activeHead ∧ s.sl.busy) ∧
    (∃ (s : State) (o : Nat), s.activeHead ∧ s.sl.busy ∧ operandOk .obj 0 o s.slNObj s.slCodeLen) :=
  ⟨⟨(hd.slSet (fun w => { w with busy := true, bank0 := (List.replicate 8 0 ++ [1, 0, 0, 0, 0, 0, 1, 0]) })), 0,
     by decide +kernel, by decide +kernel, by decide +kernel⟩,
   ⟨(hd.slSet (fun w => { w with busy := true, bank0 := (List.replicate 8 0 ++ [1, 0, 0, 0, 0, 0, 1, 0]) })),
     by decide +kernel, by decide +kernel⟩,
   ⟨(hd.slSet (fun w => { w with busy := true, bank0 := (List.replicate 8 0 ++ [1, 0, 0, 0, 0, 0, 1, 0]) })), 0,
     by decide +kernel, by decide +kernel, by decide +kernel⟩⟩

theorem witness_SequenceOperandOutsideItsAreaStops :
    (∃ (s : State) (a : Fin 16) (o : Nat), s.activeHead ∧ s.sl.busy ∧ operandOk .bitR a.val o s.slNObj s.slCodeLen
      = false) ∧
    (∃ (s : State) (a : Fin 16) (o : Nat), s.activeHead ∧ s.sl.busy ∧ operandOk .wordW a.val o s.slNObj s.slCodeLen
      = false) ∧
    (∃ (s : State) (o : Nat), s.activeHead ∧ s.sl.busy ∧ operandOk .jump 0 o s.slNObj s.slCodeLen = false) ∧
    (∃ (s : State), s.sl.busy = false) :=
  ⟨⟨(hd.slSet (fun w => { w with busy := true })), 9, 0, by decide +kernel, by decide +kernel, by decide +kernel⟩,
   ⟨(hd.slSet (fun w => { w with busy := true })), 1, 0, by decide +kernel, by decide +kernel, by decide +kernel⟩,
   ⟨(hd.slSet (fun w => { w with busy := true })), 0, by decide +kernel, by decide +kernel, by decide +kernel⟩,
   ⟨hd, by decide +kernel⟩⟩

theorem witness_SequenceLogicFrame :
    (∃ (s : State) (t : State) (a : Fin 16) (o : Nat), ((exec (.slLdb a o) s = .next t ∨ exec (.slAndnb a o) s =
      .next t ∨ exec (.slOrb a o) s = .next t ∨ exec (.slLd a o) s = .next t ∨ exec (.slMul a o) s = .next t ∨ exec
      (.slCmpgt a o) s = .next t ∨ exec (.slFix a o) s = .next t ∨ exec (.slJmpc o) s = .next t))) ∧
    (∃ (s : State) (t : State) (a : Fin 16) (o : Nat), ((exec (.slLdb a o) s = .next t ∨ exec (.slAndnb a o) s =
      .next t ∨ exec (.slOrb a o) s = .next t ∨ exec (.slLd a o) s = .next t ∨ exec (.slMul a o) s = .next t ∨ exec
      (.slCmpgt a o) s = .next t ∨ exec (.slFix a o) s = .next t ∨ exec (.slJmpc o) s = .next t)) ∧ s.sl.used ≠ 0) :=
  ⟨⟨(hd.slSet (fun w => { w with busy := true })), _, 6, 0, .inl (eq_next (by decide +kernel))⟩,
   ⟨(hd.slSet (fun w => { w with busy := true, used := 1 })), _, 6, 0, .inl (eq_next (by decide +kernel)),
     by decide +kernel⟩⟩

theorem witness_SequenceStoreFrame :
    (∃ (s : State) (t : State) (o : Nat), s.activeHead ∧ s.sl.busy ∧ exec (.slSt 6 o) s = .next t) ∧
    (∃ (s : State) (t : State) (o : Nat), s.activeHead ∧ s.sl.busy ∧ exec (.slSt 6 o) s = .next t ∧ s.sl.used ≠ 0) ∧
    (∃ (s : State) (t : State) (o : Nat), s.activeHead ∧ s.sl.busy ∧ exec (.slSt 2 o) s = .next t) ∧
    (∃ (s : State) (t : State) (o : Nat), s.activeHead ∧ s.sl.busy ∧ exec (.slSt 2 o) s = .next t ∧ s.sl.used ≠ 0) :=
  ⟨⟨(hd.slSet (fun w => { w with busy := true })), _, 0, by decide +kernel, by decide +kernel, eq_next
     (by decide +kernel)⟩,
   ⟨(hd.slSet (fun w => { w with busy := true, used := 1 })), _, 0, by decide +kernel, by decide +kernel, eq_next
     (by decide +kernel), by decide +kernel⟩,
   ⟨(hd.slSet (fun w => { w with busy := true })), _, 0, by decide +kernel, by decide +kernel, eq_next
     (by decide +kernel)⟩,
   ⟨(hd.slSet (fun w => { w with busy := true, used := 1 })), _, 0, by decide +kernel, by decide +kernel, eq_next
     (by decide +kernel), by decide +kernel⟩⟩

theorem witness_SequenceEngineCommandsComplete :
    (∃ (s : State) (acc : _), s.slReady ∧ s.sl.nextAt.isSome ∧ 1 < 2 ^ (8 * Dict.width Obj.slCmd) ∧ Admits s acc
      Obj.slCmd (Dict.width Obj.slCmd)) ∧
    (∃ (s : State) (acc : _), s.slReady = false ∧ 1 < 2 ^ (8 * Dict.width Obj.slCmd) ∧ Admits s acc Obj.slCmd
      (Dict.width Obj.slCmd)) ∧
    (∃ (s : State) (acc : _), s.slReady ∧ s.sl.nextAt = none ∧ 1 < 2 ^ (8 * Dict.width Obj.slCmd) ∧ Admits s acc
      Obj.slCmd (Dict.width Obj.slCmd)) ∧
    (∃ (s : State) (acc : _), 2 < 2 ^ (8 * Dict.width Obj.slCmd) ∧ Admits s acc Obj.slCmd (Dict.width Obj.slCmd)) ∧
    (∃ (s : State) (acc : _), s.sl.act = 0 ∧ s.sl.ok1 ∧ s.sl.st = .run ∧ 3 < 2 ^ (8 * Dict.width Obj.slCmd) ∧
      Admits s acc Obj.slCmd (Dict.width Obj.slCmd)) ∧
    (∃ (s : State) (acc : _), s.sl.act = 0 ∧ s.sl.ok1 ∧ s.sl.st ≠ .run ∧ 3 < 2 ^ (8 * Dict.width Obj.slCmd) ∧
      Admits s acc Obj.slCmd (Dict.width Obj.slCmd)) ∧
    (∃ (s : State) (acc : _) (v : _), 5 ≤ v ∧ v ≤ 5000 ∧ s.sl.st = .stop ∧ s.sl.mode = .idle ∧ s.sl.nextAt = none ∧
      v < 2 ^ (8 * Dict.width Obj.slCues) ∧ Admits s acc Obj.slCues (Dict.width Obj.slCues)) ∧
    (∃ (s : State) (acc : _) (v : _), 5 ≤ v ∧ v ≤ 5000 ∧ s.sl.st = .run ∧ v < 2 ^ (8 * Dict.width Obj.slCues) ∧
      Admits s acc Obj.slCues (Dict.width Obj.slCues)) ∧
    (∃ (s : State) (acc : _) (d : _) (t : _), State.applySlLoad d s = .ok t ∧ Admits s acc Obj.slLoad d.length) ∧
    (∃ (s : State) (acc : _), s.sl.chg ≠ .verifying ∧ s.sl.chg ≠ .armed ∧ mForced (s.dg Obj.forceTable) = false ∧ 1
      < 2 ^ (8 * Dict.width Obj.slChange) ∧ Admits s acc Obj.slChange (Dict.width Obj.slChange)) ∧
    (∃ (s : State) (acc : _), s.sl.chg ≠ .verifying ∧ s.sl.chg ≠ .armed ∧ mForced (s.dg Obj.forceTable) ∧ 1 < 2 ^
      (8 * Dict.width Obj.slChange) ∧ Admits s acc Obj.slChange (Dict.width Obj.slChange)) ∧
    (∃ (s : State) (acc : _), s.sl.chg ≠ .verifying ∧ s.sl.chg ≠ .armed ∧ 2 < 2 ^ (8 * Dict.width Obj.slChange) ∧
      Admits s acc Obj.slChange (Dict.width Obj.slChange)) ∧
    (∃ (s : State), s.headOn ∧ s.sl.chg = .verifying) ∧
    (∃ (s : State) (acc : _) (d : _) (old : _), forceOk d ∧ old =
      (match s.sl.forceOld with | some e => if e.1 = s.tm.tb2 / 2 then e.2 else s.dg Obj.forceTable | none => s.dg Obj.forceTable) ∧
      Admits s acc Obj.forceTable d.length) ∧
    (∃ (s : State) (acc : _) (v : _), v < 1152 ∧ (s.stn v).st = .returning ∧ v < 2 ^ (8 * Dict.width
      Obj.stnReadmit) ∧ Admits s acc Obj.stnReadmit (Dict.width Obj.stnReadmit)) ∧
    (∃ (s : State) (acc : _) (d : _), rd d 0 1 ≤ 14 ∧ rd d 1 1 = 0 ∧ rd d 4 4 = 0 ∧ rd d 2 2 < 4096 ∧ s.modeRefused
      (rd d 0 1) (rd d 8 8 % 2 ^ 32) = false ∧ Admits s acc Obj.modeReq d.length) ∧
    (∃ (s : State) (a : _), s.sl.nextAt = some a ∧ s.activeHead ∧ cueFrom s.tm.cue a) ∧
    (∃ (s : State) (p : _) (f : _) (e : _) (r : _), Received s p f e 0x30 true r ∧ r.st.cellOn ∧ r.hdr.flags = 0x80
      ∧ hopOf r.hdr.dst = 127) ∧
    (∃ (s : State) (p : _) (f : _) (e : _) (r : _), Received s p f e 0x31 true r ∧ r.st.activeHead ∧ r.pl.length =
      16 ∧ r.hdr.flags = 0x80 ∧ 1 ≤ hopOf r.hdr.src ∧ hopOf r.hdr.src ≤ 96) ∧
    (∃ (s : State), s.cellOn ∧ s.og Obj.stnTimeout ≤ s.sl.cAge ∧ s.og Obj.stnState ≠ 2) :=
  ⟨⟨(hd.slSet (fun w => { w with ok0 := true, nextAt := some 100 })), .core 0, by decide +kernel,
     by decide +kernel, by decide +kernel, by decide +kernel⟩,
   ⟨hd, .core 0, by decide +kernel, by decide +kernel, by decide +kernel⟩,
   ⟨(hd.slSet (fun w => { w with ok0 := true, nextAt := none })), .core 0, by decide +kernel, by decide +kernel,
     by decide +kernel, by decide +kernel⟩,
   ⟨hd, .core 0, by decide +kernel, by decide +kernel⟩,
   ⟨(hd.slSet (fun w => { w with ok1 := true, st := .run })), .core 0, by decide +kernel, by decide +kernel,
     by decide +kernel, by decide +kernel, by decide +kernel⟩,
   ⟨(hd.slSet (fun w => { w with ok1 := true })), .core 0, by decide +kernel, by decide +kernel, by decide +kernel,
     by decide +kernel, by decide +kernel⟩,
   ⟨hd, .core 0, 5000, by decide +kernel, by decide +kernel, by decide +kernel, by decide +kernel,
     by decide +kernel, by decide +kernel, by decide +kernel⟩,
   ⟨(hd.slSet (fun w => { w with st := .run })), .core 0, 5, by decide +kernel, by decide +kernel,
     by decide +kernel, by decide +kernel, by decide +kernel⟩,
   ⟨hd, .core 0, [0, 0, 0, 0, 1], _, eq_ok (by decide +kernel), by decide +kernel⟩,
   ⟨hd, .core 0, by decide +kernel, by decide +kernel, by decide +kernel, by decide +kernel, by decide +kernel⟩,
   ⟨(hd.dset Obj.forceTable ([6, 1] ++ List.replicate 1022 0)), .core 0, by decide +kernel, by decide +kernel,
     by decide +kernel, by decide +kernel, by decide +kernel⟩,
   ⟨hd, .core 0, by decide +kernel, by decide +kernel, by decide +kernel, by decide +kernel⟩,
   ⟨(hd.slSet (fun w => { w with chg := .verifying })), by decide +kernel, by decide +kernel⟩,
   ⟨hd, .core 0, (List.replicate 1024 0), _, by decide +kernel, rfl, by decide +kernel⟩,
   ⟨(hd.setStn 1151 { StnRec.reset with st := .returning }), .core 0, 1151, by decide +kernel, by decide +kernel,
     by decide +kernel, by decide +kernel⟩,
   ⟨(hd.oset (Obj.modeClass 14) 1), .core 0, ([14] ++ List.replicate 7 0 ++ leBytes 8 100000), by decide +kernel,
     by decide +kernel, by decide +kernel, by decide +kernel, by decide +kernel, by decide +kernel⟩,
   ⟨(hd.slSet (fun w => { w with st := .run, nextAt := some 0 })), 0, by decide +kernel, by decide +kernel,
     by decide +kernel⟩,
   ⟨(cl.setPort 1 { PortRec.reset with st := .up }), 1, (fr 0x30 [0] 127 0 0x80), .whole, _, ⟨by decide +kernel,
     rfl, by decide +kernel, by decide +kernel, by decide +kernel⟩, by decide +kernel, by decide +kernel,
     by decide +kernel⟩,
   ⟨(hd.setPort 11 { PortRec.reset with st := .up }), 11, (fr 0x31 (List.replicate 16 0) 1535 1504 0x80), .whole, _,
     ⟨by decide +kernel, rfl, by decide +kernel, by decide +kernel, by decide +kernel⟩, by decide +kernel,
     by decide +kernel, by decide +kernel, by decide +kernel, by decide +kernel⟩,
   ⟨((cl.slSet (fun w => { w with cAge := 1000000 })).oset Obj.stnState 1), by decide +kernel, by decide +kernel,
     by decide +kernel⟩⟩

theorem witness_SafetyBlockCommandsComplete :
    (∃ (s : State) (acc : _), s.saf.st = .run ∧ 1 < 2 ^ (8 * Dict.width Obj.safeCmd) ∧ Admits s acc Obj.safeCmd
      (Dict.width Obj.safeCmd)) ∧
    (∃ (s : State) (acc : _), s.saf.st ≠ .run ∧ 1 < 2 ^ (8 * Dict.width Obj.safeCmd) ∧ Admits s acc Obj.safeCmd
      (Dict.width Obj.safeCmd)) ∧
    (∃ (s : State) (acc : _), s.saf.st = .config ∧ 2 < 2 ^ (8 * Dict.width Obj.safeCmd) ∧ Admits s acc Obj.safeCmd
      (Dict.width Obj.safeCmd)) ∧
    (∃ (s : State) (acc : _), s.saf.st ≠ .config ∧ 2 < 2 ^ (8 * Dict.width Obj.safeCmd) ∧ Admits s acc Obj.safeCmd
      (Dict.width Obj.safeCmd)) ∧
    (∃ (s : State), s.working ∧ s.saf.st = .run ∧ s.safCrc = (s.oset Obj.safeCrcNow s.safCrc).og Obj.safeCrc) ∧
    (∃ (s : State), s.working ∧ s.saf.st = .run ∧ s.safCrc ≠ (s.oset Obj.safeCrcNow s.safCrc).og Obj.safeCrc) ∧
    (∃ (s : State), s.working) ∧
    (∃ (s : State), s.working) ∧
    (∃ (s : State) (i : Fin 4) (per : _) (off : _) (t : _) (u : _), s.working ∧ (s.soRec i.val).on ∧ (s.soRec
      i.val).pulse = none ∧ (s.soRec (if i.val % 2 = 0 then i.val + 1 else i.val - 1)).pulse = none ∧ per = s.og
      (Obj.soTpPeriod i.val) * 1000000 ∧ off = (if i.val % 2 = 0 then 0 else per / 2) ∧ t = (s.tm.tb2 + per - 1 -
      off) / per * per + off ∧ (s.soRec i.val).lastPulse ≠ some t ∧ u = s.toTb2 t) ∧
    (∃ (s : State) (i : Fin 4) (t : _), (s.soRec i.val).pulse = some t ∧ s.working) ∧
    (∃ (s : State), s.working) ∧
    (∃ (s : State) (i : _), s.running ∧ 17 ≤ i ∧ i ≤ 23) :=
  ⟨⟨(hd.safSet (fun w => { w with st := .run })), .core 0, by decide +kernel, by decide +kernel, by decide +kernel⟩,
   ⟨hd, .core 0, by decide +kernel, by decide +kernel, by decide +kernel⟩,
   ⟨hd, .core 0, by decide +kernel, by decide +kernel, by decide +kernel⟩,
   ⟨(hd.safSet (fun w => { w with st := .run })), .core 0, by decide +kernel, by decide +kernel, by decide +kernel⟩,
   ⟨(sr 37767492), by decide +kernel, by decide +kernel, (sr_crc _ (by decide +kernel)).trans (sr_same _ (sr_crc _
     (by decide +kernel)) (by decide +kernel)).symm⟩,
   ⟨(sr 0), by decide +kernel, by decide +kernel, fun h => absurd ((sr_crc 0 (by decide +kernel)).symm.trans
     (h.trans (sr_same 0 (sr_crc 0 (by decide +kernel)) (by decide +kernel)))) (by decide)⟩,
   ⟨hd, by decide +kernel⟩,
   ⟨hd, by decide +kernel⟩,
   ⟨((hd.setSo 3 { SoRec.reset with on := true }).oset (Obj.soTpPeriod 3) 10), 3, _, _, _, _, by decide +kernel,
     by decide +kernel, by decide +kernel, by decide +kernel, rfl, rfl, rfl, by decide +kernel, rfl⟩,
   ⟨(hd.setSo 3 { SoRec.reset with on := true, pulse := some 0 }), 3, _, rfl, by decide +kernel⟩,
   ⟨hd, by decide +kernel⟩,
   ⟨hd, 23, by decide +kernel, by decide +kernel, by decide +kernel⟩⟩

theorem witness_SafetyMessageCommandsComplete :
    (∃ (s : State), s.headOn) ∧
    (∃ (s : State) (p : _) (f : _) (e : _) (r : _), Received s p f e 0x20 true r ∧ r.st.isCell ∧ r.st.addressed
      r.hdr) ∧
    (∃ (s : State) (c : _), s.activeHead ∧ c < 16 ∧ s.sconnUsed c) ∧
    (∃ (s : State) (c : _), s.activeHead ∧ 0x2000 ≤ c ∧ c < 0x200C ∧ rd (s.dg Obj.scellCfg) 0 2 ≤ subMod 32
      s.tm.cue (s.sconn c).sentCue ∧ (s.portUp (c - 0x2000) ∨ s.farReachable (c - 0x2000))) ∧
    (∃ (s : State) (c : _) (t : _) (u : _), s.working ∧ (s.sconn c).st = 1 ∧ s.sconnUsed c ∧ (s.sconn c).lagAt =
      none ∧ t = s.toTb2 ((s.sconn c).at2 + s.sconnWd c) ∧ u = (t.setSconn c { s.sconn c with st := 2 }).connLog 5
      c (t.sconnEcho c)) ∧
    (∃ (s : State) (c : _), s.working ∧ 8 ≤ (s.sconn c).missA ∧ (s.sconn c).lostA = false) ∧
    (∃ (s : State) (c : _), s.working ∧ 8 ≤ (s.sconn c).missB ∧ (s.sconn c).lostB = false) ∧
    (∃ (s : State) (p : _) (t : _) (u : _) (l : _), Kv.get (fun _ => none) s.saf.relAt p = some t ∧ s.activeHead ∧
      (s.ringRec p).curtain = false ∧ u = s.toTb2 (t + 3520) ∧ l = (u.tm.cue + Kv.get (fun _ => 2) u.saf.lead p) %
      2 ^ 32) ∧
    (∃ (s : State) (p : _) (t : _), s.activeHead ∧ hasBit s.saf.unexp p ∧ t = s.toTb2 (Kv.get (fun _ => 0)
      s.saf.unexpAt p + 205)) ∧
    (∃ (s : State) (acc : _) (d : _) (t : _), State.applySafeTest d s = .ok t ∧ Admits s acc Obj.safeTest d.length) ∧
    (∃ (s : State) (t : _), s.saf.test = some t ∧ s.working) :=
  ⟨⟨hd, by decide +kernel⟩,
   ⟨(cl.setPort 1 { PortRec.reset with st := .up }), 1, (fr 0x20 [0]), .whole, _, ⟨by decide +kernel, rfl,
     by decide +kernel, by decide +kernel, by decide +kernel⟩, by decide +kernel, by decide +kernel⟩,
   ⟨(hd.dset (Obj.sconnCfg 0) (0 :: 0 :: 1 :: List.replicate 13 0)), 0, by decide +kernel, by decide +kernel,
     by decide +kernel⟩,
   ⟨((hd.setPort 11 { PortRec.reset with st := .up }).tmSet (fun w => { w with cue := 100000 })), 0x200B,
     by decide +kernel, by decide +kernel, by decide +kernel, by decide +kernel, by decide +kernel⟩,
   ⟨((hd.dset (Obj.sconnCfg 0) (0 :: 0 :: 1 :: List.replicate 13 0)).setSconn 0 { SconnRec.reset with st := 1 }),
     0, _, _, by decide +kernel, by decide +kernel, by decide +kernel, by decide +kernel, rfl, rfl⟩,
   ⟨(hd.setSconn 0 { SconnRec.reset with missA := 8 }), 0, by decide +kernel, by decide +kernel, by decide +kernel⟩,
   ⟨(hd.setSconn 0 { SconnRec.reset with missB := 8 }), 0, by decide +kernel, by decide +kernel, by decide +kernel⟩,
   ⟨(hd.safSet (fun w => { w with relAt := [(11, some 0)] })), 11, _, _, _, rfl, by decide +kernel,
     by decide +kernel, rfl, rfl⟩,
   ⟨(hd.safSet (fun w => { w with unexp := 2 ^ 11 })), 11, _, by decide +kernel, by decide +kernel, rfl⟩,
   ⟨(hd.safSet (fun w => { w with st := .run })), .core 0, [2, 3, 1, 0, 0, 0, 0, 0], _, eq_ok (by decide +kernel),
     by decide +kernel⟩,
   ⟨(hd.safSet (fun w =>
     { w with st := .run, test := some { point := 0, index := 0, span := 1, at2 := 0, det := none, pair := SiPair.reset, meas := MeasRec.reset, so := SoRec.reset, miss := 0, disc := none } })),
     _, rfl, by decide +kernel⟩⟩

theorem witness_FaultCommandsComplete :
    (∃ (s : State), s.running) ∧
    (∃ (s : State), s.running) ∧
    (∃ (s : State) (src : _), s.running ∧ (s.fsrc src).st = .quiet) ∧
    (∃ (s : State) (src : _) (t : _), s.running ∧ s.og Obj.fltForgive ≠ 0 ∧ 0 < (s.fsrc src).rcnt ∧ (s.fsrc src).st
      ≠ .latched ∧ (s.fsrc src).on = [] ∧ t = s.toTb2 ((s.fsrc src).lastAt + s.og Obj.fltForgive * 1000000000)) ∧
    (∃ (s : State) (acc : _), 1 < 2 ^ (8 * Dict.width Obj.fltCmd) ∧ Admits s acc Obj.fltCmd (Dict.width
      Obj.fltCmd)) ∧
    (∃ (s : State) (p : _), s.running ∧ s.accPresent (.path p)) ∧
    (∃ (s : State) (acc : _), 2 < 2 ^ (8 * Dict.width Obj.fltCmd) ∧ Admits s acc Obj.fltCmd (Dict.width
      Obj.fltCmd)) ∧
    (∃ (s : State) (acc : _), s.pw.faultHold ∧ 3 < 2 ^ (8 * Dict.width Obj.fltCmd) ∧ Admits s acc Obj.fltCmd
      (Dict.width Obj.fltCmd)) ∧
    (∃ (s : State) (acc : _), s.pw.faultHold = false ∧ 3 < 2 ^ (8 * Dict.width Obj.fltCmd) ∧ Admits s acc
      Obj.fltCmd (Dict.width Obj.fltCmd)) ∧
    (∃ (s : State) (p : _), s.running ∧ s.accPresent (.path p) ∧ s.pw.faultHold) ∧
    (∃ (s : State) (acc : _), s.running ∧ s.accPresent acc) ∧
    (∃ (s : State), s.powered) ∧
    (∃ (s : State) (acc : _) (p : _) (h : _), p < 12 ∧ 1 ≤ h ∧ h ≤ 96 ∧ (s.cellRec (96 * p + h - 1)).st ≠ .none ∧
      (0x10000 + p * 256 + h) < 2 ^ (8 * Dict.width Obj.fenceCmd) ∧ Admits s acc Obj.fenceCmd (Dict.width
      Obj.fenceCmd)) ∧
    (∃ (s : State) (acc : _) (p : _) (h : _), p < 12 ∧ 1 ≤ h ∧ h ≤ 96 ∧ (s.cellRec (96 * p + h - 1)).st ≠ .none ∧
      s.cellNamed (96 * p + h - 1) = false ∧ ((∀ r, (s.cellRec (96 * p + h - 1)).last = some r → hasBit r.rstat 11
      = false)) ∧ (0x20000 + p * 256 + h) < 2 ^ (8 * Dict.width Obj.fenceCmd) ∧ Admits s acc Obj.fenceCmd
      (Dict.width Obj.fenceCmd)) ∧
    (∃ (s : State) (acc : _) (p : _) (h : _), p < 12 ∧ 1 ≤ h ∧ h ≤ 96 ∧ (s.cellRec (96 * p + h - 1)).st ≠ .none ∧
      s.cellNamed (96 * p + h - 1) ∧ (0x20000 + p * 256 + h) < 2 ^ (8 * Dict.width Obj.fenceCmd) ∧ Admits s acc
      Obj.fenceCmd (Dict.width Obj.fenceCmd)) :=
  ⟨⟨hd, by decide +kernel⟩,
   ⟨hd, by decide +kernel⟩,
   ⟨(hd.setFsrc 47 { st := .quiet, on := [], rcnt := 1, quietAt := 0, lastAt := 0, undo := none, insts := [] }), 47,
     by decide +kernel, by decide +kernel⟩,
   ⟨((hd.setFsrc 47 { st := .idle, on := [], rcnt := 1, quietAt := 0, lastAt := 0, undo := none, insts := [] }).oset
     Obj.fltForgive 1), 47, _, by decide +kernel, by decide +kernel, by decide +kernel, by decide +kernel,
     by decide +kernel, rfl⟩,
   ⟨hd, .core 0, by decide +kernel, by decide +kernel⟩,
   ⟨hd, 0, by decide +kernel, by decide +kernel⟩,
   ⟨hd, .core 0, by decide +kernel, by decide +kernel⟩,
   ⟨(hd.pwSet (fun w => { w with faultHold := true })), .core 0, by decide +kernel, by decide +kernel,
     by decide +kernel⟩,
   ⟨hd, .core 0, by decide +kernel, by decide +kernel, by decide +kernel⟩,
   ⟨(hd.pwSet (fun w => { w with faultHold := true })), 0, by decide +kernel, by decide +kernel, by decide +kernel⟩,
   ⟨hd, .core 0, by decide +kernel, by decide +kernel⟩,
   ⟨hd, by decide +kernel⟩,
   ⟨ha, .core 0, 11, 96, by decide +kernel, by decide +kernel, by decide +kernel, by decide +kernel,
     by decide +kernel, by decide +kernel⟩,
   ⟨ha, .core 0, 11, 96, by decide +kernel, by decide +kernel, by decide +kernel, by decide +kernel,
     by decide +kernel, fun r h => absurd (ha_last.symm.trans h) (by simp), by decide +kernel, by decide +kernel⟩,
   ⟨((hd.setCellRec 1151 { CellRec.reset with st := .admitted }).fltSet (fun w =>
     { w with srcs := [(37, { st := .active, on := [], rcnt := 1, quietAt := 0, lastAt := 0, undo := none, insts := [1151] })] })),
     .core 0, 11, 96, by decide +kernel, by decide +kernel, by decide +kernel, by decide +kernel,
     by decide +kernel, by decide +kernel, by decide +kernel⟩⟩

theorem witness_InterruptCommandsComplete :
    (∃ (s : State), s.running) ∧
    (∃ (s : State) (acc : _), s.regServed acc) ∧
    (∃ (s : State) (c : Fin 4), s.regServed (.core c)) ∧
    (∃ (s : State) (c : Fin 4) (g : Fin 32) (v : _), v < 8 ∧ s.targetPresent v ∧ s.og (Obj.irqDmode g.val) = 0 ∧ v
      < 2 ^ (8 * Dict.width (Obj.irqRoute g.val)) ∧ Admits s (.core c) (Obj.irqRoute g.val) (Dict.width
      (Obj.irqRoute g.val))) ∧
    (∃ (s : State) (acc : _), s.regServed acc ∧ (accTarget acc = 5 ∨ accTarget acc = 6)) ∧
    (∃ (s : State) (t : Fin 8), s.running ∧ t.val < 5) ∧
    (∃ (s : State), s.working) ∧
    (∃ (s : State) (g : Fin 32) (t : _), (s.grp g.val).firstAt = some t ∧ s.working ∧ s.og (Obj.irqCoalT g.val) ≠
      0) ∧
    (∃ (s : State) (g : Fin 32) (t : _), (s.grp g.val).claimAt = some t ∧ s.working ∧ s.holdOff g.val) ∧
    (∃ (s : State) (c : Fin 4), s.regServed (.core c)) ∧
    (∃ (s : State) (c : Fin 4) (g : _), s.regServed (.core c) ∧ g < 32 ∧ (s.grp g).held = some c.val) ∧
    (∃ (s : State) (c : Fin 4) (g : _), s.regServed (.core c) ∧ (s.grp g).held ≠ some c.val) ∧
    (∃ (s : State) (acc : _), 1 < 2 ^ (8 * Dict.width Obj.irqVlogCmd) ∧ Admits s acc Obj.irqVlogCmd (Dict.width
      Obj.irqVlogCmd)) ∧
    (∃ (s : State) (t : _), s.irq.safeRunAt = some t) :=
  ⟨⟨hd, by decide +kernel⟩,
   ⟨hd, .core 0, by decide +kernel⟩,
   ⟨hd, 3, by decide +kernel⟩,
   ⟨hd, 3, 31, 7, by decide +kernel, by decide +kernel, by decide +kernel, by decide +kernel, by decide +kernel⟩,
   ⟨hd, .path 2, by decide +kernel, by decide +kernel⟩,
   ⟨hd, 4, by decide +kernel, by decide +kernel⟩,
   ⟨hd, by decide +kernel⟩,
   ⟨((hd.setGrp 31 { IrqGroup.idle with firstAt := some 0 }).oset (Obj.irqCoalT 31) 1), 31, _, rfl,
     by decide +kernel, by decide +kernel⟩,
   ⟨((hd.setGrp 31 { IrqGroup.idle with claimAt := some 0 }).oset (Obj.irqHmode 31) 1), 31, _, rfl,
     by decide +kernel, by decide +kernel⟩,
   ⟨hd, 3, by decide +kernel⟩,
   ⟨(hd.setGrp 31 { IrqGroup.idle with held := some 3 }), 3, 31, by decide +kernel, by decide +kernel,
     by decide +kernel⟩,
   ⟨hd, 3, 0, by decide +kernel, by decide +kernel⟩,
   ⟨hd, .core 0, by decide +kernel, by decide +kernel⟩,
   ⟨(hd.irqSet (fun w => { w with safeRunAt := some 0 })), _, rfl⟩⟩

theorem witness_DispatchCommandsComplete :
    (∃ (s : State) (c : Fin 4) (tag : _) (a : _) (b : _) (u : _), s.regServed (.core c) ∧ u = pushRegs (.core c)
      [(0, tag), (4, a), (8, b)] s ∧ u.regServed (.core c)) ∧
    (∃ (s : State) (c : Fin 4) (tag : _) (a : _) (u : _), s.regServed (.core c) ∧ u = pushRegs (.core c) [(0, tag),
      (4, a)] s ∧ u.regServed (.core c)) ∧
    (∃ (s : State) (c : Fin 4) (tag : _) (a : _) (b : _) (w : _) (u : _), s.regServed (.core c) ∧ u = pushRegs
      (.core c) [(0, tag), (4, a), (8, b), (0x10, w), (0x14, w / 2 ^ 32)] s ∧ u.regServed (.core c)) ∧
    (∃ (s : State) (c : Fin 4) (q : Fin 12), s.regServed (.core c) ∧ s.popQueue q.val = none) ∧
    (∃ (s : State) (c : Fin 4) (q : Fin 12) (it : _) (t : _), s.regServed (.core c) ∧ s.popQueue q.val = some (it,
      t) ∧ t.work.bad = [] ∧ t.work.wrong = [] ∧ it.tag < 2 ^ 32 ∧ it.a < 2 ^ 32 ∧ it.b < 2 ^ 32) ∧
    (∃ (s : State) (c : Fin 4) (q : Fin 12) (it : _) (t : _) (x : _), s.regServed (.core c) ∧ s.popQueue q.val =
      some (it, t) ∧ x = t.memLoad 5 it.word id (itemBytes it)) ∧
    (∃ (s : State) (c : Fin 4) (f : _), s.regServed (.core c) ∧ s.ownsFlow c.val f ∧ (s.flow f).busy.isSome) ∧
    (∃ (s : State) (c : Fin 4) (f : _), s.regServed (.core c) ∧ (s.flow f).busy = none) ∧
    (∃ (s : State) (c : Fin 4), s.regServed (.core c)) ∧
    (∃ (s : State), s.working) ∧
    (∃ (s : State) (acc : _), s.regServed acc) ∧
    (∃ (s : State) (acc : _), s.regServed acc) ∧
    (∃ (s : State) (acc : _), s.regServed acc) :=
  ⟨⟨hd, 3, 0, 0, 0, _, by decide +kernel, rfl, by decide +kernel⟩,
   ⟨hd, 3, 0, 0, _, by decide +kernel, rfl, by decide +kernel⟩,
   ⟨hd, 3, 0, 0, 0, 0, _, by decide +kernel, rfl, by decide +kernel⟩,
   ⟨hd, 3, 11, by decide +kernel, by decide +kernel⟩,
   ⟨(hd.setFlow 767
     { items := [{ flow := 0, kind := 0, flags := 0, tag := 0, a := 0, b := 0, readyAt := 0, word := 0 }], busy := none }),
     3, 11, _, _, by decide +kernel, eq_some2 (by decide +kernel), by decide +kernel, by decide +kernel,
     by decide +kernel, by decide +kernel, by decide +kernel⟩,
   ⟨(hd.setFlow 767
     { items := [{ flow := 0, kind := 0, flags := 0, tag := 0, a := 0, b := 0, readyAt := 0, word := 0 }], busy := none }),
     3, 11, _, _, _, by decide +kernel, eq_some2 (by decide +kernel), rfl⟩,
   ⟨(hd.setFlow 767
     { items := [], busy := some { flow := 0, kind := 0, flags := 0, tag := 0, a := 0, b := 0, readyAt := 0, word := 0 } }),
     3, 767, by decide +kernel, by decide +kernel, by decide +kernel⟩,
   ⟨hd, 3, 0, by decide +kernel, by decide +kernel⟩,
   ⟨hd, 3, by decide +kernel⟩,
   ⟨hd, by decide +kernel⟩,
   ⟨hd, .core 0, by decide +kernel⟩,
   ⟨hd, .core 0, by decide +kernel⟩,
   ⟨hd, .core 0, by decide +kernel⟩⟩

theorem witness_SeatCommandsComplete :
    (∃ (s : State) (p : Fin 3), seatServed s p.val) ∧
    (∃ (s : State) (acc : _) (k : _) (d : _) (t : _), Admits s acc k d.length ∧ s.objHandler acc k d = .ok t) ∧
    (∃ (s : State) (p : Fin 3) (a : _) (m : _), s.blockServed a ∧ s.accPresent (.path p) ∧ m % 2 ^ 32 ≠ 0) ∧
    (∃ (s : State) (q : Fin 2) (a : _), seatServed s (q.val + 1) ∧ a % 4 = 0) ∧
    (∃ (s : State) (q : Fin 2) (a : _), seatServed s (q.val + 1) ∧ a % 4 ≠ 0) ∧
    (∃ (s : State) (q : Fin 2) (a : _), seatServed s (q.val + 1) ∧ a % 4 = 0) ∧
    (∃ (s : State) (q : Fin 2), seatServed s (q.val + 1)) ∧
    (∃ (s : State) (q : Fin 2) (a : _), seatServed s (q.val + 1) ∧ a % 4 = 0) ∧
    (∃ (s : State) (q : Fin 2) (o : _), seatServed s (q.val + 1) ∧ o ≠ 0x0B ∧ o ≠ 0x32 ∧ o ≠ 0x05) ∧
    (∃ (s : State) (off : _), seatServed s 0 ∧ s.seat.perst ∧ off % 4 = 0 ∧ off < 0x20000) ∧
    (∃ (s : State), seatServed s 0 ∧ s.seat.perst) ∧
    (∃ (s : State) (len : _), seatServed s 0 ∧ s.seat.perst ∧ 128 < len) ∧
    (∃ (s : State), seatServed s 0) :=
  ⟨⟨hd, 2, by decide +kernel⟩,
   ⟨hd, .core 0, Obj.wakePol, [1], _, by decide +kernel, eq_ok (by decide +kernel)⟩,
   ⟨hd, 2, 0x1000, 15, by decide +kernel, by decide +kernel, by decide +kernel⟩,
   ⟨hd, 1, 0, by decide +kernel, by decide +kernel⟩,
   ⟨hd, 1, 3, by decide +kernel, by decide +kernel⟩,
   ⟨hd, 1, 0, by decide +kernel, by decide +kernel⟩,
   ⟨hd, 1, by decide +kernel⟩,
   ⟨hd, 1, 0, by decide +kernel, by decide +kernel⟩,
   ⟨hd, 1, 0, by decide +kernel, by decide +kernel, by decide +kernel, by decide +kernel⟩,
   ⟨(hd.seatSet (fun w => { w with perst := true })), 0x1FFFC, by decide +kernel, by decide +kernel,
     by decide +kernel, by decide +kernel⟩,
   ⟨(hd.seatSet (fun w => { w with perst := true })), by decide +kernel, by decide +kernel⟩,
   ⟨(hd.seatSet (fun w => { w with perst := true })), 129, by decide +kernel, by decide +kernel, by decide +kernel⟩,
   ⟨hd, by decide +kernel⟩⟩

theorem witness_NetworkCommandsComplete :
    (∃ (s : State) (ip : Nat) (f : Bytes) (g : _) (t : _), HopServed s ip f g t 0x01) ∧
    (∃ (s : State) (ip : Nat) (f : Bytes) (g : _) (t : _), HopServed s ip f g t 0x02) ∧
    (∃ (s : State) (ip : Nat) (f : Bytes) (g : _) (t : _), HopServed s ip f g t 0x03) ∧
    (∃ (s : State) (ip : Nat) (f : Bytes) (g : _) (t : _), HopServed s ip f g t 0x10) ∧
    (∃ (s : State) (ip : Nat) (f : Bytes) (g : _) (t : _), HopServed s ip f g t 0x11) ∧
    (∃ (s : State) (ip : Nat) (f : Bytes) (g : _) (t : _), HopServed s ip f g t 0x20) ∧
    (∃ (s : State) (ip : Nat) (f : Bytes) (t : _), s.running ∧ s.isHead ∧ s.seat.netUp ≠ 0 ∧ s.prpTake ip f =
      (none, t)) ∧
    (∃ (s : State) (n : _) (v : _), s.hopSession n = some v ∧ seatServed s 0) ∧
    (∃ (s : State) (n : _) (e : _) (l : _), (s.stream n).stage = e :: l ∧ s.headOn ∧ stageUsed (s.stream n) < 1024) ∧
    (∃ (s : State) (n : _) (e : _) (l : _), (s.stream n).stage = e :: l ∧ s.headOn ∧ 1024 ≤ stageUsed (s.stream n)) ∧
    (∃ (s : State) (q : _), netServed s q) ∧
    (∃ (s : State) (q : _) (a : _), netServed s q ∧ a ≠ s.pw.ip) ∧
    (∃ (s : State) (q : Fin 2) (up : _), s.running ∧ s.isHead ∧ hasBit s.seat.netUp q.val ≠ up) :=
  ⟨⟨hn, 1, (hf 1 0 []), _, _, hop_ok (by decide +kernel) (by decide +kernel)⟩,
   ⟨hn, 1, (hf 2 1 []), _, _, hop_ok (by decide +kernel) (by decide +kernel)⟩,
   ⟨hn, 1, (hf 3 1 []), _, _, hop_ok (by decide +kernel) (by decide +kernel)⟩,
   ⟨hn, 1, (hf 16 1 []), _, _, hop_ok (by decide +kernel) (by decide +kernel)⟩,
   ⟨hn, 1, (hf 17 1 []), _, _, hop_ok (by decide +kernel) (by decide +kernel)⟩,
   ⟨hn, 1, (hf 32 1 []), _, _, hop_ok (by decide +kernel) (by decide +kernel)⟩,
   ⟨(hn.seatSet (fun w => { w with prpSeen := [(1, 0, 10, 0)] })), 1, (hf 2 1 [] ++ [0, 0, 0xB0, 0, 0x88, 0xFB]),
     _, by decide +kernel, by decide +kernel, by decide +kernel, eq_none2 (by decide +kernel)⟩,
   ⟨(hd.seatSet (fun w =>
     { w with netUp := 3, sessions := [(1, { ip := 1, port := 1, a := 0, busy := false, copies := 0, resp := [], groups := 0, streams := 0, seenAt := 0, txSeq := 0 })] })),
     1, _, rfl, by decide +kernel⟩,
   ⟨(hd.setStream 0 { CapStream.reset with stage := [(0, [])] }), 0, _, _, rfl, by decide +kernel,
     by decide +kernel⟩,
   ⟨(hd.setStream 0 { CapStream.reset with stage := [(0, List.replicate 1024 0)] }), 0, _, _, rfl,
     by decide +kernel, by decide +kernel⟩,
   ⟨(hd.seatSet (fun w =>
     { w with netUp := 3, sessions := [(1, { ip := 1, port := 1, a := 0, busy := false, copies := 0, resp := [], groups := 0, streams := 0, seenAt := 0, txSeq := 0 })] })),
     2, by decide +kernel⟩,
   ⟨(hd.seatSet (fun w =>
     { w with netUp := 3, sessions := [(1, { ip := 1, port := 1, a := 0, busy := false, copies := 0, resp := [], groups := 0, streams := 0, seenAt := 0, txSeq := 0 })] })),
     2, 1, by decide +kernel, by decide +kernel⟩,
   ⟨hd, 1, true, by decide +kernel, by decide +kernel, by decide +kernel⟩⟩

theorem witness_TokenCommandsComplete :
    (∃ (s : State) (p : Fin 3), s.understudy = false ∧ s.isCell = false ∧ s.seat.holder = none ∧ 1 < 2 ^ (8 *
      Dict.width Obj.tokenCmd) ∧ Admits s (.path p) Obj.tokenCmd (Dict.width Obj.tokenCmd)) ∧
    (∃ (s : State) (p : Fin 3) (h : _), s.understudy = false ∧ s.isCell = false ∧ s.seat.holder = some h ∧ h ≠
      p.val ∧ 1 < 2 ^ (8 * Dict.width Obj.tokenCmd) ∧ Admits s (.path p) Obj.tokenCmd (Dict.width Obj.tokenCmd)) ∧
    (∃ (s : State) (p : Fin 3), s.seat.holder = some p.val ∧ 2 < 2 ^ (8 * Dict.width Obj.tokenCmd) ∧ Admits s
      (.path p) Obj.tokenCmd (Dict.width Obj.tokenCmd)) ∧
    (∃ (s : State) (p : Fin 3), s.seat.holder ≠ some p.val ∧ 2 < 2 ^ (8 * Dict.width Obj.tokenCmd) ∧ Admits s
      (.path p) Obj.tokenCmd (Dict.width Obj.tokenCmd)) ∧
    (∃ (s : State) (p : Fin 3) (h : _), hasBit (s.og Obj.tokenForce) p.val ∧ s.seat.holder = some h ∧ h ≠ p.val ∧ 3
      < 2 ^ (8 * Dict.width Obj.tokenCmd) ∧ Admits s (.path p) Obj.tokenCmd (Dict.width Obj.tokenCmd)) ∧
    (∃ (s : State) (p : Fin 3), hasBit (s.og Obj.tokenForce) p.val = false ∧ 3 < 2 ^ (8 * Dict.width Obj.tokenCmd)
      ∧ Admits s (.path p) Obj.tokenCmd (Dict.width Obj.tokenCmd)) ∧
    (∃ (s : State) (p : Fin 3), s.seat.holder = some p.val ∧ 4 < 2 ^ (8 * Dict.width Obj.tokenCmd) ∧ Admits s
      (.path p) Obj.tokenCmd (Dict.width Obj.tokenCmd)) ∧
    (∃ (s : State) (p : Fin 3), s.seat.holder ≠ some p.val ∧ 4 < 2 ^ (8 * Dict.width Obj.tokenCmd) ∧ Admits s
      (.path p) Obj.tokenCmd (Dict.width Obj.tokenCmd)) ∧
    (∃ (s : State) (p : Fin 3), 5 < 2 ^ (8 * Dict.width Obj.tokenCmd) ∧ Admits s (.path p) Obj.tokenCmd (Dict.width
      Obj.tokenCmd)) ∧
    (∃ (s : State) (h : _), s.seat.holder = some h ∧ s.og Obj.tokenLease ≠ 0) ∧
    (∃ (s : State) (h : _), s.seat.holder = some h ∧ s.og Obj.tokenLease = 0) ∧
    (∃ (s : State), s.seat.holder = none) :=
  ⟨⟨hd, 2, by decide +kernel, by decide +kernel, by decide +kernel, by decide +kernel, by decide +kernel⟩,
   ⟨(hd.seatSet (fun w => { w with holder := some 1 })), 2, 1, by decide +kernel, by decide +kernel,
     by decide +kernel, by decide +kernel, by decide +kernel, by decide +kernel⟩,
   ⟨(hd.seatSet (fun w => { w with holder := some 2 })), 2, by decide +kernel, by decide +kernel,
     by decide +kernel⟩,
   ⟨hd, 2, by decide +kernel, by decide +kernel, by decide +kernel⟩,
   ⟨((hd.seatSet (fun w => { w with holder := some 1 })).oset Obj.tokenForce 4), 2, 1, by decide +kernel,
     by decide +kernel, by decide +kernel, by decide +kernel, by decide +kernel⟩,
   ⟨hd, 2, by decide +kernel, by decide +kernel, by decide +kernel⟩,
   ⟨(hd.seatSet (fun w => { w with holder := some 2 })), 2, by decide +kernel, by decide +kernel,
     by decide +kernel⟩,
   ⟨hd, 2, by decide +kernel, by decide +kernel, by decide +kernel⟩,
   ⟨hd, 2, by decide +kernel, by decide +kernel⟩,
   ⟨((hd.seatSet (fun w => { w with holder := some 2 })).oset Obj.tokenLease 1), 2, by decide +kernel,
     by decide +kernel⟩,
   ⟨((hd.seatSet (fun w => { w with holder := some 2 })).oset Obj.tokenLease 0), 2, by decide +kernel,
     by decide +kernel⟩,
   ⟨hd, by decide +kernel⟩⟩

theorem witness_CellObjectAndStoreCommandsComplete :
    (∃ (s : State) (p : _) (f : _) (e : _) (r : _), Received s p f e 0x30 true r ∧ r.st.isCell ∧ r.st.addressed
      r.hdr ∧ r.hdr.flags = 0 ∧ r.hdr.dst = r.st.ring.node.caddr) ∧
    (∃ (s : State) (p : _) (f : _) (e : _) (r : _), Received s p f e 0x31 true r ∧ r.st.activeHead ∧ r.hdr.flags =
      0) ∧
    (∃ (s : State) (id : _) (r : _), s.seat.cellReqs.find? (fun x => x.id == id) = some r ∧ s.headOn ∧ s.og
      Obj.cellObjTimeout ≤ subMod 32 s.tm.cue r.cue) ∧
    (∃ (s : State) (acc : _), Admits s acc Obj.storeCmd 1 ∧ s.og Obj.storeState ≠ 1 ∧ s.mem.st ≠ .trial) ∧
    (∃ (s : State) (acc : _), Admits s acc Obj.storeCmd 1 ∧ s.og Obj.storeState = 1) ∧
    (∃ (s : State) (acc : _), Admits s acc Obj.storeCmd 1 ∧ s.og Obj.storeState ≠ 1 ∧ s.restoreBarred = false) ∧
    (∃ (s : State) (acc : _) (r : _), Admits s acc Obj.storeCmd 1 ∧ s.og Obj.storeState ≠ 1 ∧ s.restoreBarred =
      false ∧ s.recordInUse = some r ∧ s.mem.paramSpoilt.contains (3 + s.og Obj.storeSlot) = false) ∧
    (∃ (s : State) (acc : _) (r : _), Admits s acc Obj.storeCmd 1 ∧ s.og Obj.storeState ≠ 1 ∧ s.restoreBarred =
      false ∧ s.recordInUse = some r ∧ s.mem.paramSpoilt.contains (3 + s.og Obj.storeSlot) = true) ∧
    (∃ (s : State), s.running) ∧
    (∃ (s : State) (acc : _), 1 < 2 ^ (8 * Dict.width Obj.seatVlogCmd) ∧ Admits s acc Obj.seatVlogCmd (Dict.width
      Obj.seatVlogCmd)) :=
  ⟨⟨((cl.setPort 1 { PortRec.reset with st := .up }).setNode { cl.ring.node with caddr := 5 }), 1, (fr 0x30 [0] 5),
     .whole, _, ⟨by decide +kernel, rfl, by decide +kernel, by decide +kernel, by decide +kernel⟩,
     by decide +kernel, by decide +kernel, by decide +kernel, by decide +kernel⟩,
   ⟨(hd.setPort 11 { PortRec.reset with st := .up }), 11, (fr 0x31 [0] 1535), .whole, _, ⟨by decide +kernel, rfl,
     by decide +kernel, by decide +kernel, by decide +kernel⟩, by decide +kernel, by decide +kernel⟩,
   ⟨((hd.tmSet (fun w => { w with cue := 1000000 })).seatSet (fun w =>
     { w with cellReqs := [{ id := 1, caddr := 0, write := false, key := 0, acc := .core 0, cue := 0, head := [], seq := 0 }] })),
     1, _, rfl, by decide +kernel, by decide +kernel⟩,
   ⟨hd, .core 0, by decide +kernel, by decide +kernel, by decide +kernel⟩,
   ⟨(hd.oset Obj.storeState 1), .core 0, by decide +kernel, by decide +kernel⟩,
   ⟨hd, .core 0, by decide +kernel, by decide +kernel, by decide +kernel⟩,
   ⟨((hd.memSet (fun w => { w with paramA := some { dict := 0, fw := 0, gen := 0, entries := [] } })).oset
     Obj.storeSlot 1), .core 0, _, by decide +kernel, by decide +kernel, by decide +kernel, rfl, by decide +kernel⟩,
   ⟨((hd.memSet (fun w =>
     { w with paramA := some { dict := 0, fw := 0, gen := 0, entries := [] }, paramSpoilt := [4] })).oset
     Obj.storeSlot 1), .core 0, _, by decide +kernel, by decide +kernel, by decide +kernel, rfl, by decide +kernel⟩,
   ⟨hd, by decide +kernel⟩,
   ⟨hd, .core 0, by decide +kernel, by decide +kernel⟩⟩

theorem witness_MemoryAndUpdateCommandsComplete :
    (∃ (s : State), s.working) ∧
    (∃ (s : State) (acc : _) (v : _), fld v 29 24 ≤ 35 ∧ fld v 37 32 = 0x3F ∧ hasBit v 40 ∧ s.isHead = false ∧
      s.ring.node.admitted = false ∧ v < 2 ^ (8 * Dict.width Obj.memInj) ∧ Admits s acc Obj.memInj (Dict.width
      Obj.memInj)) ∧
    (∃ (s : State) (acc : _) (v : _), fld v 29 24 ≤ 35 ∧ fld v 37 32 ≤ 35 ∧ fld v 37 32 ≠ fld v 29 24 ∧ hasBit v 40
      ∧ s.isHead = false ∧ s.ring.node.admitted = false ∧ v < 2 ^ (8 * Dict.width Obj.memInj) ∧ Admits s acc
      Obj.memInj (Dict.width Obj.memInj)) ∧
    (∃ (s : State) (acc : _) (v : _), fld v 29 24 ≤ 35 ∧ fld v 37 32 = 0x3F ∧ s.isCell ∧ s.ring.node.admitted ∧ v <
      2 ^ (8 * Dict.width Obj.memInj) ∧ Admits s acc Obj.memInj (Dict.width Obj.memInj)) ∧
    (∃ (s : State) (acc : _) (d : _), s.og Obj.updTarget = 2 ∧ rd d 0 4 = 0 ∧ d.length ≤ 1024 ∧ Admits s acc
      Obj.updData d.length) ∧
    (∃ (s : State) (acc : _) (d : _) (t : _), s.og Obj.updTarget = 1 ∧ s.updSeat (rd d 0 4) (d.drop 4) = .ok t ∧
      Admits s acc Obj.updData d.length) ∧
    (∃ (s : State), s.working) ∧
    (∃ (s : State) (acc : _), s.mem.st = .verified ∧ 2 < 2 ^ (8 * Dict.width Obj.updCmd) ∧ Admits s acc Obj.updCmd
      (Dict.width Obj.updCmd)) ∧
    (∃ (s : State) (acc : _), s.mem.st ≠ .verified ∧ 2 < 2 ^ (8 * Dict.width Obj.updCmd) ∧ Admits s acc Obj.updCmd
      (Dict.width Obj.updCmd)) ∧
    (∃ (s : State) (acc : _), s.isCell = false ∧ s.activeHead = false ∧ 3 < 2 ^ (8 * Dict.width Obj.updCmd) ∧
      Admits s acc Obj.updCmd (Dict.width Obj.updCmd)) ∧
    (∃ (s : State) (acc : _), s.activeHead ∧ s.og (Obj.modMode 0) ≠ 0 ∧ 3 < 2 ^ (8 * Dict.width Obj.updCmd) ∧
      Admits s acc Obj.updCmd (Dict.width Obj.updCmd)) ∧
    (∃ (s : State) (acc : _), s.mem.st = .trial ∧ 4 < 2 ^ (8 * Dict.width Obj.updCmd) ∧ Admits s acc Obj.updCmd
      (Dict.width Obj.updCmd)) ∧
    (∃ (s : State) (acc : _), s.mem.st ≠ .trial ∧ 4 < 2 ^ (8 * Dict.width Obj.updCmd) ∧ Admits s acc Obj.updCmd
      (Dict.width Obj.updCmd)) ∧
    (∃ (s : State) (acc : _), s.mem.st = .receiving ∧ 5 < 2 ^ (8 * Dict.width Obj.updCmd) ∧ Admits s acc Obj.updCmd
      (Dict.width Obj.updCmd)) ∧
    (∃ (s : State) (acc : _), s.mem.st = .armed ∧ 5 < 2 ^ (8 * Dict.width Obj.updCmd) ∧ Admits s acc Obj.updCmd
      (Dict.width Obj.updCmd)) ∧
    (∃ (s : State) (acc : _), s.mem.st = .idle ∧ 5 < 2 ^ (8 * Dict.width Obj.updCmd) ∧ Admits s acc Obj.updCmd
      (Dict.width Obj.updCmd)) :=
  ⟨⟨hd, by decide +kernel⟩,
   ⟨cl, .core 0, (2 ^ 40 + 63 * 2 ^ 32 + 35 * 2 ^ 24), by decide +kernel, by decide +kernel, by decide +kernel,
     by decide +kernel, by decide +kernel, by decide +kernel, by decide +kernel⟩,
   ⟨cl, .core 0, (2 ^ 40 + 34 * 2 ^ 32 + 35 * 2 ^ 24), by decide +kernel, by decide +kernel, by decide +kernel,
     by decide +kernel, by decide +kernel, by decide +kernel, by decide +kernel, by decide +kernel⟩,
   ⟨(cl.setNode { cl.ring.node with admitted := true }), .core 0, (63 * 2 ^ 32 + 35 * 2 ^ 24), by decide +kernel,
     by decide +kernel, by decide +kernel, by decide +kernel, by decide +kernel, by decide +kernel⟩,
   ⟨(hd.oset Obj.updTarget 2), .core 0, [0, 0, 0, 0, 1], by decide +kernel, by decide +kernel, by decide +kernel,
     by decide +kernel⟩,
   ⟨(hd.oset Obj.updTarget 1), .core 0, [0, 0, 0, 0, 1], _, by decide +kernel, eq_ok (by decide +kernel),
     by decide +kernel⟩,
   ⟨hd, by decide +kernel⟩,
   ⟨(hd.memSet (fun w => { w with st := .verified })), .core 0, by decide +kernel, by decide +kernel,
     by decide +kernel⟩,
   ⟨hd, .core 0, by decide +kernel, by decide +kernel, by decide +kernel⟩,
   ⟨un, .core 0, by decide +kernel, by decide +kernel, by decide +kernel, by decide +kernel⟩,
   ⟨(hd.oset (Obj.modMode 0) 1), .core 0, by decide +kernel, by decide +kernel, by decide +kernel,
     by decide +kernel⟩,
   ⟨(hd.memSet (fun w => { w with st := .trial })), .core 0, by decide +kernel, by decide +kernel,
     by decide +kernel⟩,
   ⟨hd, .core 0, by decide +kernel, by decide +kernel, by decide +kernel⟩,
   ⟨(hd.memSet (fun w => { w with st := .receiving })), .core 0, by decide +kernel, by decide +kernel,
     by decide +kernel⟩,
   ⟨(hd.memSet (fun w => { w with st := .armed })), .core 0, by decide +kernel, by decide +kernel,
     by decide +kernel⟩,
   ⟨hd, .core 0, by decide +kernel, by decide +kernel, by decide +kernel⟩⟩

theorem witness_PassCommandsComplete :
    (∃ (s : State) (acc : _), 0 < 2 ^ (8 * Dict.width Obj.passCmd) ∧ Admits s acc Obj.passCmd (Dict.width
      Obj.passCmd)) ∧
    (∃ (s : State) (acc : _) (m : _), m ≠ 0 ∧ m ≤ 0xFFF ∧ s.mem.store.length < 512 ∧ m < 2 ^ (8 * Dict.width
      Obj.passCmd) ∧ Admits s acc Obj.passCmd (Dict.width Obj.passCmd)) ∧
    (∃ (s : State) (acc : _) (m : _) (t : _), State.applyPassCmd m s = .ok t ∧ m < 2 ^ (8 * Dict.width Obj.passCmd)
      ∧ Admits s acc Obj.passCmd (Dict.width Obj.passCmd)) ∧
    (∃ (s : State) (p : _) (f : _) (e : _) (r : _), Received s p f e 0x40 true r ∧ r.st.cellOn ∧
      r.st.ring.node.caddr ≠ 0 ∧ r.st.addressed r.hdr ∧ 17 ≤ r.pl.length ∧ (PassHdr.read r.pl).kind = 2) ∧
    (∃ (s : State) (p : _) (f : _) (e : _) (r : _), Received s p f e 0x40 true r ∧ r.st.addressed r.hdr ∧ 16 ≤
      r.pl.length ∧ (PassHdr.read r.pl).kind = 3 ∧ r.st.isCell) ∧
    (∃ (s : State) (p : _) (f : _) (e : _) (r : _), Received s p f e 0x40 true r ∧ r.st.cellOn ∧
      r.st.ring.node.caddr ≠ 0 ∧ r.st.addressed r.hdr ∧ 16 ≤ r.pl.length ∧ (PassHdr.read r.pl).kind = 4) ∧
    (∃ (s : State), s.cellOn) ∧
    (∃ (s : State), s.cellOn = false ∧ s.activeHead) :=
  ⟨⟨hd, .core 0, by decide +kernel, by decide +kernel⟩,
   ⟨hd, .core 0, 0xFFF, by decide +kernel, by decide +kernel, by decide +kernel, by decide +kernel,
     by decide +kernel⟩,
   ⟨hd, .core 0, 0, _, eq_ok (by decide +kernel), by decide +kernel, by decide +kernel⟩,
   ⟨((cl.setPort 1 { PortRec.reset with st := .up }).setNode { cl.ring.node with caddr := 5 }), 1, (fr 0x40
     (leBytes 1 2 ++ List.replicate 16 0)), .whole, _, ⟨by decide +kernel, rfl, by decide +kernel,
     by decide +kernel, by decide +kernel⟩, by decide +kernel, by decide +kernel, by decide +kernel,
     by decide +kernel, by decide +kernel⟩,
   ⟨((cl.setPort 1 { PortRec.reset with st := .up }).setNode { cl.ring.node with caddr := 5 }), 1, (fr 0x40
     (leBytes 1 3 ++ List.replicate 16 0)), .whole, _, ⟨by decide +kernel, rfl, by decide +kernel,
     by decide +kernel, by decide +kernel⟩, by decide +kernel, by decide +kernel, by decide +kernel,
     by decide +kernel⟩,
   ⟨((cl.setPort 1 { PortRec.reset with st := .up }).setNode { cl.ring.node with caddr := 5 }), 1, (fr 0x40
     (leBytes 1 4 ++ List.replicate 16 0)), .whole, _, ⟨by decide +kernel, rfl, by decide +kernel,
     by decide +kernel, by decide +kernel⟩, by decide +kernel, by decide +kernel, by decide +kernel,
     by decide +kernel, by decide +kernel⟩,
   ⟨cl4, by decide +kernel⟩,
   ⟨hd, by decide +kernel, by decide +kernel⟩⟩

end Sys2Proof.Tests
end

section
/-! The scope statements: what every command and every step keeps. The laws of Laws/Keep say it operation by operation, for
any set of parts that may change; here the set is the one the table `touched` lists for the command. -/

namespace Sys2Proof.Scope
open Sys2Proof.Machine Sys2Proof.Laws

/-- The set of the parts that a list names. -/
def Among (L : List Part) (p : Part) : Prop := p ∈ L

theorem lets_among_iff {L : List Part} {p : Part} : Lets (Among L) p ↔ p ∈ L :=
  ⟨fun h => h.yes, fun h => ⟨h⟩⟩

theorem lets_among_head (p : Part) (L : List Part) : Lets (Among (p :: L)) p :=
  lets_among_iff.2 List.mem_cons_self

theorem lets_among_tail (p q : Part) (L : List Part) [h : Lets (Among L) p] : Lets (Among (q :: L)) p :=
  lets_among_iff.2 (List.mem_cons_of_mem q (lets_among_iff.1 h))

theorem lets_among_allParts (p : Part) : Lets (Among allParts) p :=
  lets_among_iff.2 (by cases p <;> decide)

theorem keep_refl (W : Part → Prop) (s : State) : Keep W s s :=
  ⟨rfl, id, id, id, fun p _ => by cases p <;> rfl⟩

theorem canonical_of_keep {W : Part → Prop} {z s : State} (h : Keep W z s) : Canonical z → Canonical s
  | ⟨hobjs, hdoms, hregs⟩ => ⟨h.objs hobjs, h.doms hdoms, h.regs hregs⟩

/-- What `step` needs of an idle cycle: the queue and the canonical form of the stores (any part may change). -/
theorem idle_keeps (s : State) : Keep (fun _ => True) s s.idle := by
  have lany : ∀ p, Lets (fun _ => True) p := fun _ => ⟨trivial⟩
  exact keep_State_idle (keep_refl _ s)

/-- The table of the frames: each command's own law, whose parts that may change are found among those `touched` lists for
the command. -/
theorem exec_keeps (c : Instr) (s : State) : KeepR (Among (touched c)) s (exec c s) := by
  have hs : Keep (Among (touched c)) s s := keep_refl _ s
  -- How typeclass search finds a part in the command's row of `touched`.
  have lhead := lets_among_head
  have ltail := lets_among_tail
  have lall := lets_among_allParts
  cases c with dsimp only [touched, exec] at hs ⊢
  | powerOnReset => exact keep_execPowerOnReset hs
  | rstNReset => exact keep_execRstNReset hs
  | internalResetRelease => exact keep_execInternalResetRelease hs
  | roleSample => exact keep_execRoleSample hs
  | roleResampleTimer => exact keep_execRoleResampleTimer hs
  | firmwareStart => exact keep_execFirmwareStart hs
  | startUpComplete => exact keep_execStartUpComplete hs
  | watchdogReset => exact keep_execWatchdogReset hs
  | softwareReset => exact keep_execSoftwareReset hs
  | standbyRequest => exact keep_execStandbyRequest hs
  | stbyIdleExpiry => exact keep_execStbyIdleExpiry hs
  | wakeEdge => exact keep_execWakeEdge hs
  | wakeTimerExpiry => exact keep_execWakeTimerExpiry hs
  | storageCheck => exact keep_execStorageCheck hs
  | uvloFall => exact keep_execUvloFall hs
  | thermalLimit => exact keep_execThermalLimit hs
  | thermalRelease => exact keep_execThermalRelease hs
  | refLoss => exact keep_execRefLoss hs
  | refRestored => exact keep_execRefRestored hs
  | aonTrim => exact keep_execAonTrim hs
  | auxEnWrite => exact keep_execAuxEnWrite hs
  | aux33CurrentLimit => exact keep_execAux33CurrentLimit hs
  | standingPartnerTimeout => exact keep_execStandingPartnerTimeout hs
  | enumReenumerate => exact keep_execEnumReenumerate hs
  | enumCommission => exact keep_execEnumCommission hs
  | enumRemove => exact keep_execEnumRemove hs
  | ringArmWrite => exact keep_execRingArmWrite hs
  | enumFrame => exact keep_execEnumFrame hs
  | enumReturn => exact keep_execEnumReturn hs
  | cuePeriodWrite => exact keep_execCuePeriodWrite hs
  | cueStart => exact keep_execCueStart hs
  | reportAssembly => exact keep_execReportAssembly hs
  | reportLaunch => exact keep_execReportLaunch hs
  | computationStart => exact keep_execComputationStart hs
  | computationEnd => exact keep_execComputationEnd hs
  | probeFrame => exact keep_execProbeFrame hs
  | timeFrame => exact keep_execTimeFrame hs
  | timeFrameTimeout => exact keep_execTimeFrameTimeout hs
  | holdoverLimit => exact keep_execHoldoverLimit hs
  | reAnchorWrite => exact keep_execReAnchorWrite hs
  | reAnchorFrame => exact keep_execReAnchorFrame hs
  | ptpSync => exact keep_execPtpSync hs
  | ptpAnnounce => exact keep_execPtpAnnounce hs
  | announceTimeout => exact keep_execAnnounceTimeout hs
  | pdelayReq => exact keep_execPdelayReq hs
  | tb1CmdReanchor => exact keep_execTb1CmdReanchor hs
  | tb3Write => exact keep_execTb3Write hs
  | syncEdge => exact keep_execSyncEdge hs
  | syncMiss => exact keep_execSyncMiss hs
  | syncModeWrite => exact keep_execSyncModeWrite hs
  | syncCmdReacquire => exact keep_execSyncCmdReacquire hs
  | tevtFire => exact keep_execTevtFire hs
  | tevtArm => exact keep_execTevtArm hs
  | captureEdge => exact keep_execCaptureEdge hs
  | entryRead => exact keep_execEntryRead hs
  | portEnable => exact keep_execPortEnable hs
  | portTest => exact keep_execPortTest hs
  | signalDetect => exact keep_execSignalDetect hs
  | offerTimer => exact keep_execOfferTimer hs
  | offerReceived => exact keep_execOfferReceived hs
  | trainStart => exact keep_execTrainStart hs
  | trainingEnd => exact keep_execTrainingEnd hs
  | laneSilenceEnd => exact keep_execLaneSilenceEnd hs
  | linkDown => exact keep_execLinkDown hs
  | rateCapFrame => exact keep_execRateCapFrame hs
  | curtainSymbol => exact keep_execCurtainSymbol hs
  | curtainRingEnd => exact keep_execCurtainRingEnd hs
  | curtainLiftFrame => exact keep_execCurtainLiftFrame hs
  | frameForward => exact keep_execFrameForward hs
  | sheetFrame => exact keep_execSheetFrame hs
  | reportTrain => exact keep_execReportTrain hs
  | trainGraceExpiry => exact keep_execTrainGraceExpiry hs
  | reportRecord => exact keep_execReportRecord hs
  | backgroundWindow => exact keep_execBackgroundWindow hs
  | linkFrame => exact keep_execLinkFrame hs
  | healHoldExpiry => exact keep_execHealHoldExpiry hs
  | vlogCmdClear => exact keep_execVlogCmdClear hs
  | rngPerrRead => exact keep_execRngPerrRead hs
  | rngPbitsRead => exact keep_execRngPbitsRead hs
  | rngInjGo => exact keep_execRngInjGo hs
  | xlEnable => exact keep_execXlEnable hs
  | xlTest => exact keep_execXlTest hs
  | xlClockPresent => exact keep_execXlClockPresent hs
  | xlAlignDone => exact keep_execXlAlignDone hs
  | helloReceived => exact keep_execHelloReceived hs
  | helloTimer => exact keep_execHelloTimer hs
  | laneMaskSymbol => exact keep_execLaneMaskSymbol hs
  | xlLaneLoss => exact keep_execXlLaneLoss hs
  | xlLinkDown => exact keep_execXlLinkDown hs
  | rejoinHoldExpiry => exact keep_execRejoinHoldExpiry hs
  | peerFrame => exact keep_execPeerFrame hs
  | curtainSetXl0 => exact keep_execCurtainSetXl0 hs
  | curtainSetPeer => exact keep_execCurtainSetPeer hs
  | curtainSetTimeout => exact keep_execCurtainSetTimeout hs
  | relDn => exact keep_execRelDn hs
  | relUp => exact keep_execRelUp hs
  | relRep => exact keep_execRelRep hs
  | snapFast => exact keep_execSnapFast hs
  | snapSlow => exact keep_execSnapSlow hs
  | snapLate => exact keep_execSnapLate hs
  | healthFrame => exact keep_execHealthFrame hs
  | healthTimeout => exact keep_execHealthTimeout hs
  | xlTrnErrRead => exact keep_execXlTrnErrRead hs
  | xlPerrRead => exact keep_execXlPerrRead hs
  | xlPbitsRead => exact keep_execXlPbitsRead hs
  | xlInjGo => exact keep_execXlInjGo hs
  | xlVlogCmdClear => exact keep_execXlVlogCmdClear hs
  | modModeWrite => exact keep_execModModeWrite hs
  | sortCmdWrite => exact keep_execSortCmdWrite hs
  | keyGateWrite => exact keep_execKeyGateWrite hs
  | orderHoldWrite => exact keep_execOrderHoldWrite hs
  | eventEdge => exact keep_execEventEdge hs
  | deadTimeEnd => exact keep_execDeadTimeEnd hs
  | delayLineCal => exact keep_execDelayLineCal hs
  | carrierBoundary => exact keep_execCarrierBoundary hs
  | shadowPerWrite => exact keep_execShadowPerWrite hs
  | shadowDutyWrite => exact keep_execShadowDutyWrite hs
  | pwmHoldWrite => exact keep_execPwmHoldWrite hs
  | tripActive => exact keep_execTripActive hs
  | tripInactive => exact keep_execTripInactive hs
  | tripClr => exact keep_execTripClr hs
  | bypCmd => exact keep_execBypCmd hs
  | bypassPulseStart => exact keep_execBypassPulseStart hs
  | bypassPulseEnd => exact keep_execBypassPulseEnd hs
  | bypassConfirmTimeout => exact keep_execBypassConfirmTimeout hs
  | bypassSense => exact keep_execBypassSense hs
  | debugHalt => exact keep_execDebugHalt hs
  | debugResume => exact keep_execDebugResume hs
  | pwmClockLoss => exact keep_execPwmClockLoss hs
  | pwmClockGood => exact keep_execPwmClockGood hs
  | batModeWrite => exact keep_execBatModeWrite hs
  | batTestWrite => exact keep_execBatTestWrite hs
  | batCmdClear => exact keep_execBatCmdClear hs
  | batterySample => exact keep_execBatterySample hs
  | socSetWrite => exact keep_execSocSetWrite hs
  | socRestReset => exact keep_execSocRestReset hs
  | loopGroupStart => exact keep_execLoopGroupStart hs
  | loopDescWrite => exact keep_execLoopDescWrite hs
  | loopGtabWrite => exact keep_execLoopGtabWrite hs
  | gtabPokeWrite => exact keep_execGtabPokeWrite hs
  | loopLimitWrite => exact keep_execLoopLimitWrite hs
  | intSetWrite => exact keep_execIntSetWrite hs
  | loopFlagsWrite => exact keep_execLoopFlagsWrite hs
  | injCmdStart => exact keep_execInjCmdStart hs
  | injCmdStop => exact keep_execInjCmdStop hs
  | seqTableWrite => exact keep_execSeqTableWrite hs
  | seqTimer => exact keep_execSeqTimer hs
  | seqCmdStart => exact keep_execSeqCmdStart hs
  | adcSwstart => exact keep_execAdcSwstart hs
  | entrySample => exact keep_execEntrySample hs
  | resultWrite => exact keep_execResultWrite hs
  | adcResultRead => exact keep_execAdcResultRead hs
  | resultObjectRead => exact keep_execResultObjectRead hs
  | refEnWrite => exact keep_execRefEnWrite hs
  | refReadyTimer => exact keep_execRefReadyTimer hs
  | calCmd => exact keep_execCalCmd hs
  | calDone => exact keep_execCalDone hs
  | captureBaseSample => exact keep_execCaptureBaseSample hs
  | capCmdStart => exact keep_execCapCmdStart hs
  | capCmdStop => exact keep_execCapCmdStop hs
  | capCmdArm => exact keep_execCapCmdArm hs
  | capCmdForce => exact keep_execCapCmdForce hs
  | captureTrigger => exact keep_execCaptureTrigger hs
  | captureHoldoffExpiry => exact keep_execCaptureHoldoffExpiry hs
  | winReleaseWrite => exact keep_execWinReleaseWrite hs
  | captureFrame => exact keep_execCaptureFrame hs
  | capqRdWrite => exact keep_execCapqRdWrite hs
  | slCycleStart => exact keep_execSlCycleStart hs
  | slLdb => exact keep_execSlLdb hs
  | slLdnb => exact keep_execSlLdnb hs
  | slAndb => exact keep_execSlAndb hs
  | slAndnb => exact keep_execSlAndnb hs
  | slOrb => exact keep_execSlOrb hs
  | slOrnb => exact keep_execSlOrnb hs
  | slStb => exact keep_execSlStb hs
  | slSetb => exact keep_execSlSetb hs
  | slRstb => exact keep_execSlRstb hs
  | slLd => exact keep_execSlLd hs
  | slSt => exact keep_execSlSt hs
  | slAdd => exact keep_execSlAdd hs
  | slSub => exact keep_execSlSub hs
  | slMul => exact keep_execSlMul hs
  | slCmpgt => exact keep_execSlCmpgt hs
  | slCmpeq => exact keep_execSlCmpeq hs
  | slCmplt => exact keep_execSlCmplt hs
  | slFix => exact keep_execSlFix hs
  | slTon => exact keep_execSlTon hs
  | slRtrig => exact keep_execSlRtrig hs
  | slJmp => exact keep_execSlJmp hs
  | slJmpc => exact keep_execSlJmpc hs
  | slJmpn => exact keep_execSlJmpn hs
  | slEnd => exact keep_execSlEnd hs
  | slWrobj => exact keep_execSlWrobj hs
  | slMode => exact keep_execSlMode hs
  | slSack => exact keep_execSlSack hs
  | slCmdRun => exact keep_execSlCmdRun hs
  | slCmdStop => exact keep_execSlCmdStop hs
  | slCmdRevert => exact keep_execSlCmdRevert hs
  | slCuesWrite => exact keep_execSlCuesWrite hs
  | slLoadWrite => exact keep_execSlLoadWrite hs
  | slChange => exact keep_execSlChange hs
  | slChangeClearForces => exact keep_execSlChangeClearForces hs
  | slVerifyDone => exact keep_execSlVerifyDone hs
  | forceTableWrite => exact keep_execForceTableWrite hs
  | stnReadmitWrite => exact keep_execStnReadmitWrite hs
  | modeReqWrite => exact keep_execModeReqWrite hs
  | stationOut => exact keep_execStationOut hs
  | stationResponse => exact keep_execStationResponse hs
  | stnTimeout => exact keep_execStnTimeout hs
  | safeCmdConfig => exact keep_execSafeCmdConfig hs
  | safeCmdVerify => exact keep_execSafeCmdVerify hs
  | safeCrcCheck => exact keep_execSafeCrcCheck hs
  | planeMismatch => exact keep_execPlaneMismatch hs
  | siSample => exact keep_execSiSample hs
  | soTestPulse => exact keep_execSoTestPulse hs
  | soTestPulseEnd => exact keep_execSoTestPulseEnd hs
  | soReadbackSample => exact keep_execSoReadbackSample hs
  | safeMessage => exact keep_execSafeMessage hs
  | safeTxTimer => exact keep_execSafeTxTimer hs
  | safeWatchdogTimeout => exact keep_execSafeWatchdogTimeout hs
  | safePathLoss => exact keep_execSafePathLoss hs
  | curtainLiftDelay => exact keep_execCurtainLiftDelay hs
  | curtainUnexpEnd => exact keep_execCurtainUnexpEnd hs
  | safeTestWrite => exact keep_execSafeTestWrite hs
  | safeTestEnd => exact keep_execSafeTestEnd hs
  | faultPinAssert => exact keep_execFaultPinAssert hs
  | faultPinRelease => exact keep_execFaultPinRelease hs
  | faultQuietExpiry => exact keep_execFaultQuietExpiry hs
  | faultForgiveExpiry => exact keep_execFaultForgiveExpiry hs
  | fltCmdEmpty => exact keep_execFltCmdEmpty hs
  | fltCmdClearLatched => exact keep_execFltCmdClearLatched hs
  | fltCmdRelease => exact keep_execFltCmdRelease hs
  | fltFstatClear => exact keep_execFltFstatClear hs
  | faultCollectorReset => exact keep_execFaultCollectorReset hs
  | collectorSelfCheck => exact keep_execCollectorSelfCheck hs
  | fenceCmdFence => exact keep_execFenceCmdFence hs
  | fenceCmdUnfence => exact keep_execFenceCmdUnfence hs
  | lossDetected => exact keep_execLossDetected hs
  | takeoverCmd => exact keep_execTakeoverCmd hs
  | irqSourceEvent => exact keep_execIrqSourceEvent hs
  | irqPendWrite => exact keep_execIrqPendWrite hs
  | irqEnWrite => exact keep_execIrqEnWrite hs
  | irqSetWrite => exact keep_execIrqSetWrite hs
  | irqClrWrite => exact keep_execIrqClrWrite hs
  | irqEnsetWrite => exact keep_execIrqEnsetWrite hs
  | irqEnclrWrite => exact keep_execIrqEnclrWrite hs
  | irqRouteWrite => exact keep_execIrqRouteWrite hs
  | irqTctlSleep => exact keep_execIrqTctlSleep hs
  | targetSleepChange => exact keep_execTargetSleepChange hs
  | groupDelivery => exact keep_execGroupDelivery hs
  | irqCoalTimeout => exact keep_execIrqCoalTimeout hs
  | irqHoldoffExpiry => exact keep_execIrqHoldoffExpiry hs
  | irqClaim => exact keep_execIrqClaim hs
  | irqEoi => exact keep_execIrqEoi hs
  | irqVlogCmdClear => exact keep_execIrqVlogCmdClear hs
  | dspPushDirect => exact keep_execDspPushDirect hs
  | dspPushOperand => exact keep_execDspPushOperand hs
  | dspPushDelay => exact keep_execDspPushDelay hs
  | dspPop => exact keep_execDspPop hs
  | dspDone => exact keep_execDspDone hs
  | dspCmdReturn => exact keep_execDspCmdReturn hs
  | dspCmdDiscard => exact keep_execDspCmdDiscard hs
  | dspCmdPurge => exact keep_execDspCmdPurge hs
  | delayListRelease => exact keep_execDelayListRelease hs
  | dspQdepthRead => exact keep_execDspQdepthRead hs
  | dspQwaitRead => exact keep_execDspQwaitRead hs
  | dspMstatRead => exact keep_execDspMstatRead hs
  | dspLstatRead => exact keep_execDspLstatRead hs
  | objCmdRead => exact keep_execObjCmdRead hs
  | objCmdWrite => exact keep_execObjCmdWrite hs
  | objectWrite => exact keep_execObjectWrite hs
  | qspiRead => exact keep_execQspiRead hs
  | qspiWrite => exact keep_execQspiWrite hs
  | qspiStatus => exact keep_execQspiStatus hs
  | qspiCut => exact keep_execQspiCut hs
  | pcieRequest => exact keep_execPcieRequest hs
  | pcieLinkReset => exact keep_execPcieLinkReset hs
  | perstN => exact keep_execPerstN hs
  | hopOpen => exact keep_execHopOpen hs
  | hopClose => exact keep_execHopClose hs
  | hopKeepalive => exact keep_execHopKeepalive hs
  | hopRead => exact keep_execHopRead hs
  | hopWrite => exact keep_execHopWrite hs
  | hopSubscribe => exact keep_execHopSubscribe hs
  | hopSessionTimeout => exact keep_execHopSessionTimeout hs
  | hopStreamFlush => exact keep_execHopStreamFlush hs
  | arpRequest => exact keep_execArpRequest hs
  | icmpEcho => exact keep_execIcmpEcho hs
  | tokenRequest => exact keep_execTokenRequest hs
  | tokenRelease => exact keep_execTokenRelease hs
  | tokenForceCmd => exact keep_execTokenForceCmd hs
  | tokenRenew => exact keep_execTokenRenew hs
  | tokenWithdraw => exact keep_execTokenWithdraw hs
  | tokenLeaseExpiry => exact keep_execTokenLeaseExpiry hs
  | cellObjRequest => exact keep_execCellObjRequest hs
  | cellObjResponse => exact keep_execCellObjResponse hs
  | cellObjTimeout => exact keep_execCellObjTimeout hs
  | storeCmdStore => exact keep_execStoreCmdStore hs
  | storeCmdDefaults => exact keep_execStoreCmdDefaults hs
  | storeCmdReload => exact keep_execStoreCmdReload hs
  | storeDone => exact keep_execStoreDone hs
  | seatVlogCmdClear => exact keep_execSeatVlogCmdClear hs
  | scrubRead => exact keep_execScrubRead hs
  | memInjWrite => exact keep_execMemInjWrite hs
  | updDataWrite => exact keep_execUpdDataWrite hs
  | stagingProgrammed => exact keep_execStagingProgrammed hs
  | updVerifyDone => exact keep_execUpdVerifyDone hs
  | updCmdArm => exact keep_execUpdCmdArm hs
  | updCmdRestart => exact keep_execUpdCmdRestart hs
  | updCmdConfirm => exact keep_execUpdCmdConfirm hs
  | updCmdAbort => exact keep_execUpdCmdAbort hs
  | passCmd => exact keep_execPassCmd hs
  | passChunk => exact keep_execPassChunk hs
  | passAck => exact keep_execPassAck hs
  | passAbort => exact keep_execPassAbort hs
  | passResend => exact keep_execPassResend hs
  | registerWrite => exact keep_execRegisterWrite hs
  | checkerLock => exact keep_execCheckerLock hs
  | networkLinkChange => exact keep_execNetworkLinkChange hs
  | startPhaseEnd => exact keep_execStartPhaseEnd hs
  | supplyWindowComparator => exact keep_execSupplyWindowComparator hs
  | carrierDutyEdge => exact keep_execCarrierDutyEdge hs
  | qspiUnknown => exact keep_execQspiUnknown hs
  | memorySymbolError => exact keep_execMemorySymbolError hs
  | netDroppedFrame => exact keep_execNetDroppedFrame hs

theorem keep_of_exec_next {c : Instr} {s t : State} (h : exec c s = .next t) : Keep (Among (touched c)) s t := by
  have hk := exec_keeps c s
  rwa [h, keepR_next] at hk

theorem step_of_pending_nil {s : State} (h : s.pending = []) : step s = .next s.idle := by
  simp only [step, h]

theorem step_of_pending_cons {s : State} {c : Instr} {rest : List Instr} (h : s.pending = c :: rest) :
    step s = exec c { s with pending := rest } := by
  simp only [step, h]

/-- Settles O3: a step is one SYS cycle on an empty queue, else the front command on the state with the queue's rest, which
every command keeps. -/
theorem everyStepKeepsTheStoresCanonical : Obligations.EveryStepKeepsTheStoresCanonical := by
  intro s t hcan hstep
  cases hq : s.pending with
  | nil =>
    rw [step_of_pending_nil hq] at hstep
    cases hstep
    have hk := idle_keeps s
    exact ⟨canonical_of_keep hk hcan, hk.pend.trans hq⟩
  | cons c rest =>
    rw [step_of_pending_cons hq] at hstep
    have hk := keep_of_exec_next hstep
    exact ⟨canonical_of_keep hk hcan, hk.pend⟩

/-- Settles O5: the parts that a command's law lets change are those `touched` lists for it. -/
theorem everyCommandKeepsToItsParts : Obligations.EveryCommandKeepsToItsParts := by
  intro c s t hexec
  have hk := keep_of_exec_next hexec
  exact ⟨hk.pend, fun p hp => hk.rest p (mt lets_among_iff.1 hp)⟩

/-- Settles O4: after reset the three stores list no entry. -/
theorem theResetStoresAreCanonical : Obligations.TheResetStoresAreCanonical :=
  ⟨rfl, rfl, rfl⟩

end Sys2Proof.Scope
end

section
/-! PROOFS. The rules that the proofs of this family share: what a command does whose object's handler, or whose received
frame, passes its tests, and what the answer of an access leaves unchanged. -/

namespace Sys2Proof.Rules
open Sys2Proof.Machine Sys2Proof.Machine.State Sys2Proof.Laws Sys2Proof.Scope

variable {s t : State} {acc : Accessor} {k v : Nat}

/-- A write command is taken where the object's handler accepts the value. -/
theorem takes_of_handler_ok {c : Instr} {g : Nat → State → Except Nat State}
    (hexec : exec c s = .next (s.guardedValue acc k v g)) (hg : g v s = .ok t) : Takes c s acc k v t := by
  intro hv ⟨hrun, hpath, htests, hmirror⟩
  rw [hexec, guardedValue_ok hv hrun hpath htests hmirror hg]

/-- A write command is answered with the code its object's handler refuses with. -/
theorem exec_of_handler_error {c : Instr} {code : Nat} {g : Nat → State → Except Nat State}
    (hexec : exec c s = .next (s.guardedValue acc k v g)) (hv : v < 2 ^ (8 * Dict.width k))
    (hadmits : Admits s acc k (Dict.width k)) (hg : g v s = .error code) :
    exec c s = .next (s.answer acc k code true) := by
  obtain ⟨hrun, hpath, htests, hmirror⟩ := hadmits
  rw [hexec, guardedValue_error hv hrun hpath htests hmirror hg]

theorem rxTyped_of_received {p ty : Nat} {f : Bytes} {e : FrameEnd} {fw : Bool} {r : Rx}
    (h : Received s p f e ty fw r) (g : Rx → State → State) : s.rxTyped p f e ty fw g = g r r.st := by
  obtain ⟨hty, rfl, hact, hhdr, hcrc⟩ := h
  exact rxTyped_ok hty hact hhdr hcrc

theorem rxXlTyped_of_xlReceived {l lane ty : Nat} {f : Bytes} {e : FrameEnd} {r : XlRx}
    (h : XlReceived s l lane f e ty r) (g : XlRx → State → State) : s.rxXlTyped l lane f e ty g = g r r.st := by
  obtain ⟨rfl, hact, hty⟩ := h
  exact rxXlTyped_ok hact hty

/-- The parts that the answer of an access may change: its code is logged, counted and raised as an interrupt. -/
def answerParts : List Part := [.regs, .pw, .flt, .irq, .seat, .cap, .work, .out]

theorem answer_keeps (a : Accessor) (k code : Nat) (w : Bool) (s : State) :
    Keep (Among answerParts) s (s.answer a k code w) := by
  have lhead := lets_among_head
  have ltail := lets_among_tail
  unfold answerParts
  exact keep_State_answer (keep_refl _ s)

theorem answer_objs (a : Accessor) (k code : Nat) (w : Bool) (s : State) : (s.answer a k code w).objs = s.objs :=
  (answer_keeps a k code w s).rest .objs (mt lets_among_iff.1 (by decide))

theorem answer_tm (a : Accessor) (k code : Nat) (w : Bool) (s : State) : (s.answer a k code w).tm = s.tm :=
  (answer_keeps a k code w s).rest .tm (mt lets_among_iff.1 (by decide))

theorem answer_og (a : Accessor) (k code : Nat) (w : Bool) (s : State) (j : Nat) :
    (s.answer a k code w).og j = s.og j :=
  congrArg (fun m => Kv.get Dict.dflt m j) (answer_objs a k code w s)

end Sys2Proof.Rules
end

section
/-! PROOFS. Roles, resets and the start-up sequence (01 R16 to R19, 18 R505 to R508). -/

namespace Sys2Proof.Topology
open Sys2Proof.Machine Sys2Proof.Machine.State Sys2Proof.Rules

/-- Settles O8: the reset state is given field by field, and a power-on reset restarts TB2 and forgets the role. -/
theorem theStateAfterPowerOnReset : Obligations.TheStateAfterPowerOnReset := by
  intro s
  exact ⟨rfl, rfl, rfl, rfl, rfl, rfl, rfl, rfl, rfl, rfl, rfl, rfl⟩

variable {s : State}

theorem asleep_eq_false_of_powered (h : s.powered) : s.asleep = false := by
  simp only [powered, Bool.or_eq_true, beq_iff_eq] at h
  rcases h with h | h <;> simp [asleep, h]

/-- R18: three samples of ROLE that do not all agree leave the role open. -/
theorem roleSample_differing {a b : Bool} (hstage : s.pw.stage = .waitRole) (hsamples : s.pw.samples = [a, a])
    (hne : b ≠ a) : s.roleSample b =
      (s.pwSet fun w => { w with samples := [a, a, b] }).pwSet fun w => { w with roleUnstable := true } := by
  have hdiffer : [a, a, b].all (fun x => x == b) = false := by simp [hne.symm]
  simp [roleSample, hstage, hsamples, hdiffer]

/-- R17, R18: three equal samples of ROLE give the role. -/
theorem roleSample_agreeing {a : Bool} (hstage : s.pw.stage = .waitRole) (hsamples : s.pw.samples = [a, a]) :
    s.roleSample a = (s.pwSet fun w => { w with samples := [a, a, a] }).pwSet fun w =>
      { w with role := some (if a then .head else .cell), stage := .roleLatched, sampling := false } := by
  have hagree : [a, a, a].all (fun x => x == a) = true := by simp
  simp [roleSample, hstage, hsamples, hagree]

theorem resetRelease_of_heldReset (hpwr : s.pw.pwr = .start) (hstage : s.pw.stage = .heldReset) (href : s.pw.refGood)
    (hcool : s.pw.thermalHold = false) : s.resetRelease = s.pwSet fun w => { w with
      stage := if w.sampling then .waitRole else .roleLatched, samples := [], pll := w.pll ||| 15,
      auxOn := s.pw.auxOn || s.og Obj.auxEn == 1 } :=
  if_pos ⟨hpwr, hstage, href, by rw [hcool]; rfl⟩

/-- R476, R484: firmware starts on a good journal and a good image. -/
theorem execFirmwareStart_good {bad : List (Nat × Nat × Nat)} {reads : List (Nat × Nat)} {blocks left : Nat} {t u : State}
    (hpwr : s.pw.pwr = .start) (hstage : s.pw.stage = .roleLatched)
    (hjournal : (s.flashSpoil reads).bootJournal bad blocks = (false, left, t))
    (himage : t.bootImage bad left = (false, u)) :
    execFirmwareStart bad reads blocks s = .next (u.pwSet fun w => { w with stage := .firmware }) := by
  have hready : ¬(s.pw.pwr ≠ .start ∨ s.pw.stage ≠ .roleLatched) := by simp [hpwr, hstage]
  rw [execFirmwareStart, if_neg hready, hjournal]
  dsimp only
  rw [himage]

/-- Settles O25: each command of the start-up sequence, in the states the rules name. -/
theorem startUpCommandsComplete : Obligations.StartUpCommandsComplete := by
  intro s
  refine ⟨?powerOn, ?rstN, ?rstNAsleep, ?release, ?differing, ?agreeing, ?resample, ?firmware, ?complete, ?watchdog,
    ?software, ?collector, rfl⟩
  case powerOn =>
    intro hoff
    exact congrArg Host.Outcome.next (if_pos hoff)
  case rstN =>
    intro n hpow
    have hawake := asleep_eq_false_of_powered hpow
    simp only [exec, execRstNReset, hawake, resetNow, hpow, if_true, Bool.false_eq_true, if_false]
  case rstNAsleep =>
    intro n hasleep
    exact congrArg Host.Outcome.next (if_pos hasleep)
  case release =>
    intro hpwr hstage href hcool
    exact congrArg Host.Outcome.next (resetRelease_of_heldReset hpwr hstage href hcool)
  case differing =>
    intro a b hstage hsamples hne
    exact congrArg Host.Outcome.next (roleSample_differing hstage hsamples hne)
  case agreeing =>
    intro a hstage hsamples
    exact congrArg Host.Outcome.next (roleSample_agreeing hstage hsamples)
  case resample =>
    intro hstage hthree
    exact if_pos ⟨hstage, hthree⟩
  case firmware =>
    intro bad reads blocks left t u hpwr hstage hjournal himage
    exact execFirmwareStart_good hpwr hstage hjournal himage
  case complete =>
    intro high hpwr hstage
    exact if_pos ⟨hpwr, hstage⟩
  case watchdog =>
    intro core hpow
    exact congrArg Host.Outcome.next (if_pos hpow)
  case software =>
    intro acc
    exact takes_of_handler_ok rfl rfl
  case collector =>
    intro hpow hdue
    exact if_pos ⟨hpow, hdue⟩

end Sys2Proof.Topology
end

section
/-! PROOFS. The CUE period and the ring arms (01 R28, R31). -/

namespace Sys2Proof.Topology
open Sys2Proof.Machine Sys2Proof.Machine.State Sys2Proof.Rules

variable {s : State} {v p : Nat}

theorem width_cuePeriod : Dict.width Obj.cuePeriod = 4 := rfl

theorem width_ringArm (hp : p < 12) : Dict.width (Obj.ringArm p) = 1 :=
  (by decide : ∀ q < 12, Dict.width (Obj.ringArm q) = 1) p hp

/-- R28: while an admitted ring holds more than 48 cells, a period below 20.000 µs is refused. -/
theorem applyCuePeriod_short_of_long_ring (heven : v % 2 = 0) (hlo : 10000 ≤ v) (hhi : v < 20000)
    (hp : p ∈ s.ringPorts) (hadm : (s.ringRec p).admitted) (hlong : 48 < (s.ringRec p).foundAdm) :
    applyCuePeriod v s = .error 6 := by
  have hrange : ¬(v % 2 = 1 ∨ v < 10000 ∨ 200000 < v) := by omega
  have hany : s.ringPorts.any (fun p => (s.ringRec p).admitted && decide (48 < (s.ringRec p).foundAdm)) = true :=
    List.any_eq_true.2 ⟨p, hp, by simp [hadm, hlong]⟩
  rw [applyCuePeriod, if_neg hrange, if_pos ⟨hhi, hany⟩]

theorem applyCuePeriod_ok_of_long (heven : v % 2 = 0) (hlo : 20000 ≤ v) (hhi : v ≤ 200000) :
    applyCuePeriod v s = .ok ((s.oset Obj.cuePeriod v).tmSet fun t => { t with
      periodNext := t.periodNext.filter (fun e => e.1 != (s.tm.cue + 2) % 2 ^ 32) ++
        [((s.tm.cue + 2) % 2 ^ 32, v)] }) := by
  have hrange : ¬(v % 2 = 1 ∨ v < 10000 ∨ 200000 < v) := by omega
  rw [applyCuePeriod, if_neg hrange, if_neg fun h => absurd h.1 (by omega)]

/-- Settles O13: the handler of CUE_PERIOD refuses, and the answer writes no object and no time base. -/
theorem shortPeriodsAreRefusedWithLongRings : Obligations.ShortPeriodsAreRefusedWithLongRings := by
  intro s acc v p heven hlo hhi hadmits hp hadm hlong
  have hrefused := applyCuePeriod_short_of_long_ring heven hlo hhi hp hadm hlong
  have hv : v < 2 ^ (8 * Dict.width Obj.cuePeriod) := by rw [width_cuePeriod]; omega
  exact ⟨_, exec_of_handler_error rfl hv hadmits hrefused, rfl, answer_og .., answer_tm ..⟩

/-- R31: in DUAL_PAIRED mode an odd port takes no arm. -/
theorem applyRingArm_odd_of_dualPaired (hmode : s.pw.ringMode = 2) (hodd : p % 2 = 1) (hv : v ≤ 2) (hne : v ≠ 0) :
    applyRingArm p v s = .error 6 := by
  rw [applyRingArm, if_neg (Nat.not_lt.2 hv), if_pos (.inl ⟨hmode, hodd, hne⟩)]

theorem applyRingArm_ok (hv : v ≤ 2) (hpaired : ¬(s.pw.ringMode = 2 ∧ p % 2 = 1 ∧ v ≠ 0))
    (hadm : (s.ringRec p).admitted = false) :
    applyRingArm p v s = .ok ((s.oset (Obj.ringArm p) v).admissionTest p) := by
  have hfree : ¬((s.pw.ringMode = 2 ∧ p % 2 = 1 ∧ v ≠ 0) ∨ (s.ringRec p).admitted) := by simp [hpaired, hadm]
  rw [applyRingArm, if_neg (Nat.not_lt.2 hv), if_neg hfree]

/-- Settles O14: the handler of RING_ARM refuses a non-zero value of an odd port with 0x06 and takes 0x00. -/
theorem oddPortsHoldNoArmInDualPaired : Obligations.OddPortsHoldNoArmInDualPaired := by
  intro s acc p v hmode hodd hp hv hadmits
  refine ⟨?refused, ?taken⟩
  case refused =>
    intro hne
    have hrefused := applyRingArm_odd_of_dualPaired hmode hodd hv hne
    have hwide : v < 2 ^ (8 * Dict.width (Obj.ringArm p)) := by rw [width_ringArm hp]; omega
    exact ⟨_, 6, by decide, exec_of_handler_error rfl hwide hadmits hrefused, rfl, answer_og ..⟩
  case taken =>
    intro hadm
    have htaken := applyRingArm_ok (s := s) (p := p) (v := 0) (by decide) (fun h => h.2.2 rfl) hadm
    exact ⟨_, takes_of_handler_ok rfl htaken (Nat.two_pow_pos _) hadmits, rfl⟩

end Sys2Proof.Topology
end

section
/-! PROOFS. Enumeration: the commands of ENUM_CMD, the frames that carry it and what follows a break (01 R30, R40 to R44,
03 R110 to R114). -/

namespace Sys2Proof.Topology
open Sys2Proof.Machine Sys2Proof.Machine.State Sys2Proof.Rules

variable {s : State} {p : Nat}

section
variable (hp : p < 12) (hnames : ¬(s.pw.ringMode = 2 ∧ p % 2 = 1)) (hup : s.portUp p)
include hp hnames hup

/-- R89, R523: command 0x01 enumerates an admitted ring again; a ring not admitted first gets RATE_CAP 0x03; an UNDERSTUDY
leaves it to the active HEAD. -/
theorem applyEnumCmd_reenumerate : applyEnumCmd (p * 256 + 1) s =
    .ok (if s.understudy then s else if (s.ringRec p).admitted then s.startEnum p else s.capRing p 3) := by
  have hport : (p * 256 + 1) / 256 = p := by omega
  have hcode : (p * 256 + 1) % 256 = 1 := by omega
  have hrange : ¬(11 < p ∨ 1 = 0 ∨ 3 < 1 ∨ (s.pw.ringMode = 2 ∧ p % 2 = 1)) := by omega
  have hservice : ¬(!s.portUp p) = true := by simp [hup]
  simp only [applyEnumCmd, hport, hcode]
  rw [if_neg hrange, if_neg hservice]

/-- R30: command 0x03 fences every admitted cell of an admitted ring with source 46. -/
theorem applyEnumCmd_remove (hadm : (s.ringRec p).admitted) : applyEnumCmd (p * 256 + 3) s =
    .ok ((ringSlots p).foldl (fun t n => if t.cellAdmitted n then t.fence n 46 true else t)
      (s.setRing p { s.ringRec p with removing := true })) := by
  have hport : (p * 256 + 3) / 256 = p := by omega
  have hcode : (p * 256 + 3) % 256 = 3 := by omega
  have hrange : ¬(11 < p ∨ 3 = 0 ∨ 3 < 3 ∨ (s.pw.ringMode = 2 ∧ p % 2 = 1)) := by omega
  have hservice : ¬(!s.portUp p) = true := by simp [hup]
  have hadmitted : ¬(!(s.ringRec p).admitted) = true := by simp [hadm]
  simp only [applyEnumCmd, hport, hcode]
  rw [if_neg hrange, if_neg hservice, if_neg hadmitted]

end

/-- R40, R44: an active HEAD takes an ENUM frame that comes back with a payload of 4 bytes. -/
theorem execEnumReturn_received {f : Bytes} {e : FrameEnd} {r : Rx} {cells : List CellId}
    (hrec : Received s p f e 1 true r) (hact : r.st.activeHead) (hlen : r.pl.length = 4) :
    execEnumReturn p f e cells s = .next (r.st.enumBack (r.st.ringOfPort p)
      ((p == r.st.ringOfPort p) != r.st.pair.tookOver) r.pl cells) := by
  have htaken : ¬((!r.st.activeHead) = true ∨ r.pl.length ≠ 4) := by simp [hact, hlen]
  rw [execEnumReturn, rxTyped_of_received hrec, if_neg htaken]

/-- R112: what an active HEAD does with a LINK frame, by its first byte and the hop that sent it. -/
theorem execLinkFrame_received {f : Bytes} {e : FrameEnd} {r : Rx}
    (hrec : Received s p f e 4 true r) (hact : r.st.activeHead) (hlen : r.pl.length = 8) :
    execLinkFrame p f e s = .next (if rd r.pl 0 1 = 1 then
      (if hopOf r.hdr.src = 0 then r.st.irqPost 4 6
       else (r.st.irqPost 4 6).breakNotice (r.st.ringOfPort p) (hopOf r.hdr.src)
         ((p == r.st.ringOfPort p) != r.st.pair.tookOver) (rd r.pl 1 1))
      else if rd r.pl 0 1 = 2 then (r.st.irqPost 4 6).healNotice (r.st.ringOfPort p) (rd r.pl 2 1)
      else r.st.irqPost 4 6) := by
  have htaken : ¬((!r.st.activeHead) = true ∨ r.pl.length ≠ 8) := by simp [hact, hlen]
  rw [execLinkFrame, rxTyped_of_received hrec, if_neg htaken]

/-- R114: a broken ring heals when the hop has been back for the hold time and no enumeration waits or runs. -/
theorem execHealHoldExpiry_held {n : Nat} (hheal : (s.ringRec p).heal = some n) (hact : s.activeHead)
    (hheld : s.og Obj.healHold ≤ n) (hdue : (s.ringRec p).enumDue = false) (hbusy : (s.ringRec p).enumBusy = false) :
    execHealHoldExpiry p s = .next (s.healed p) := by
  have hready : s.activeHead ∧ s.og Obj.healHold ≤ n ∧ !(s.ringRec p).enumDue ∧ !(s.ringRec p).enumBusy := by
    simp [hact, hheld, hdue, hbusy]
  simp only [execHealHoldExpiry, hheal]
  exact if_pos hready

/-- Settles O27: the commands by what the handler of ENUM_CMD answers, the frames by what their reception hands on. -/
theorem enumerationCommandsComplete : Obligations.EnumerationCommandsComplete := by
  intro s
  refine ⟨?again, ?anew, ?understudy, ?commission, ?remove, ?ringArm, ?enumReturn, ?breakNotice, ?breakUnnumbered, ?heal,
    ?healHold, ?vlogClear⟩
  case again =>
    intro acc p hp hnames hup hactive hadm
    refine takes_of_handler_ok rfl ((applyEnumCmd_reenumerate hp hnames hup).trans ?_)
    rw [hactive, hadm, if_neg Bool.false_ne_true, if_pos rfl]
  case anew =>
    intro acc p hp hnames hup hactive hadm
    refine takes_of_handler_ok rfl ((applyEnumCmd_reenumerate hp hnames hup).trans ?_)
    rw [hactive, hadm, if_neg Bool.false_ne_true, if_neg Bool.false_ne_true]
  case understudy =>
    intro acc p hp hnames hup hunder
    refine takes_of_handler_ok rfl ((applyEnumCmd_reenumerate hp hnames hup).trans ?_)
    rw [if_pos hunder]
  case commission =>
    intro acc p t hok
    exact takes_of_handler_ok rfl hok
  case remove =>
    intro acc p hp hnames hup hadm
    exact takes_of_handler_ok rfl (applyEnumCmd_remove hp hnames hup hadm)
  case ringArm =>
    intro acc p v hv hpaired hadm
    exact takes_of_handler_ok rfl (applyRingArm_ok hv hpaired hadm)
  case enumReturn =>
    intro p f e r cells hrec hact hlen
    exact execEnumReturn_received hrec hact hlen
  case breakNotice =>
    intro p f e r hrec hact hlen hbreak hhop
    refine (execLinkFrame_received hrec hact hlen).trans ?_
    rw [if_pos hbreak, if_neg hhop]
  case breakUnnumbered =>
    intro p f e r hrec hact hlen hbreak hhop
    refine (execLinkFrame_received hrec hact hlen).trans ?_
    rw [if_pos hbreak, if_pos hhop]
  case heal =>
    intro p f e r hrec hact hlen hheal
    refine (execLinkFrame_received hrec hact hlen).trans ?_
    rw [if_neg (by omega), if_pos hheal]
  case healHold =>
    intro p n hheal hact hheld hdue hbusy
    exact execHealHoldExpiry_held hheal hact hheld hdue hbusy
  case vlogClear =>
    intro acc
    exact takes_of_handler_ok rfl rfl

/-- A cell as hop `h` of the ring whose address base is `base`, entered at port `p`; past hop 96 it holds no number
(log entry 55). -/
def numberedNode (nd : NodeRec) (p base h : Nat) : NodeRec :=
  if 96 < h then { nd with caddr := 0, orient := 0, checked := true }
  else { nd with caddr := base + h, orient := p + 1, checked := true }

theorem numberedNode_caddr (nd : NodeRec) (p base h : Nat) :
    (numberedNode nd p base h).caddr = if 96 < h then 0 else base + h := by
  unfold numberedNode
  split <;> rfl

theorem numberedNode_orient (nd : NodeRec) (p base h : Nat) :
    (numberedNode nd p base h).orient = if 96 < h then 0 else p + 1 := by
  unfold numberedNode
  split <;> rfl

theorem numberedNode_checked (nd : NodeRec) (p base h : Nat) : (numberedNode nd p base h).checked = true := by
  unfold numberedNode
  split <;> rfl

/-- R40: a CELL that an ENUM frame reaches from its near side numbers itself by the frame's count, then sends the frame on
with the lower rate, or back as a return where its other port is not UP. -/
theorem execEnumFrame_near {f : Bytes} {e : FrameEnd} {n serial : Nat} {r : Rx} (hrec : Received s p f e 1 false r)
    (hcell : r.st.isCell) (hside : r.st.betweenHeads = false) (hlen : r.pl.length = 4) (hdir : rd r.pl 2 1 = 0) :
    execEnumFrame p f e n serial s = .next
      ((r.st.setNode (numberedNode r.st.ring.node p (r.hdr.src / 128 * 128) (rd r.pl 0 1 + 1))).forwardOut
        (if r.st.portUp (otherPort p) then otherPort p else p)
        (mkFrame 1 r.hdr.flags r.hdr.dst r.hdr.src r.hdr.seq r.hdr.aux r.hdr.cue
          [BitVec.ofNat 8 (rd r.pl 0 1 + 1),
           BitVec.ofNat 8 (min (rd r.pl 1 1) (if r.st.portUp (otherPort p) then
             min (r.st.rport p).rate (r.st.rport (otherPort p)).rate else (r.st.rport p).rate)),
           BitVec.ofNat 8 (if r.st.portUp (otherPort p) then 0 else 2), 0#8])) := by
  have htaken : ¬((!r.st.isCell) = true ∨ r.pl.length ≠ 4) := by simp [hcell, hlen]
  rw [execEnumFrame, rxTyped_of_received hrec, if_neg htaken]
  cases hup : r.st.portUp (otherPort p) <;>
    simp only [hdir, hside, hup, numberedNode, OfNat.zero_ne_ofNat, Bool.false_eq_true, if_true, if_false]

/-- Settles O28: the numbered cell is the state that the frame leaves from. -/
theorem enumFrameNumbersACell : Obligations.EnumFrameNumbersACell := by
  intro s p f e n serial r hrec hcell hside hlen hdir
  exact ⟨_, execEnumFrame_near hrec hcell hside hlen hdir, numberedNode_caddr .., numberedNode_orient ..,
    numberedNode_checked .., rfl, rfl⟩

end Sys2Proof.Topology
end

section
/-! PROOFS. The events of a CUE: its start, the reports of the cells and the computation of the HEAD (01 R46 to R57,
03 R104, R105). -/

namespace Sys2Proof.Topology
open Sys2Proof.Machine Sys2Proof.Machine.State Sys2Proof.Rules

variable {s : State} {p : Nat}

/-- R292: an admitted cell keeps the report that it measured at 350 ns. -/
theorem execReportAssembly_admitted (hcell : s.cellOn) {t : State}
    (ht : t = (s.loopTo0 ((s.tm.cueStart + 2800) % 2 ^ 64)).reportMeasure) (hadm : t.ring.node.admitted) :
    execReportAssembly s = .next (t.setNode { t.ring.node with report := some t.reportBytes }) := by
  subst ht
  have hon : ¬(!s.cellOn) = true := by simp [hcell]
  rw [execReportAssembly, if_neg hon]
  exact congrArg Host.Outcome.next (if_pos hadm)

theorem setNode_node (s : State) (n : NodeRec) : (s.setNode n).ring.node = n := rfl

/-- R52, R103: the cell of index 0 launches the train with its own report at 400 ns. -/
theorem execReportLaunch_first {rep : Bytes} {x : Bytes × State} {n : NodeRec} {t : State} (hcell : s.cellOn)
    (hrep : s.ring.node.report = some rep) (hlen : rep.length = 28)
    (ht : t = s.loopTo0 ((s.tm.cueStart + 3200) % 2 ^ 64)) (hp : p = t.reportPort)
    (hx : t.ownRecord p (setFar rep (p + 1 != t.ring.node.orient)) = x)
    (hn : n = { x.2.ring.node with report := some x.1, repPort := p }) (hfirst : n.index = 0) :
    execReportLaunch s = .next (((x.2.setNode n).setNode { n with sentOwn := true, held := [] }).sendTrain p
      (!n.held.isEmpty) (n.held ++ [x.1])) := by
  have hready : ¬((!s.cellOn) = true ∨ rep.length ≠ 28) := by simp [hcell, hlen]
  simp only [execReportLaunch, hrep, if_neg hready, ← ht, ← hp, hx, ← hn, setNode_node]
  exact if_pos (.inl hfirst)

/-- R104: a cell that has its own report ready appends it to a train that comes from its far port. -/
theorem execReportTrain_appends {recs : List Bytes} {own : Bytes} (hcell : s.cellOn) (hup : s.portUp p)
    (hown : s.launched = some own) (hport : s.ring.node.repPort = otherPort p) :
    execReportTrain p recs s = .next ((s.setNode { s.ring.node with sentOwn := true, trainSeen := true }).sendTrain
      (otherPort p) true (recs ++ [own])) := by
  have hready : ¬((!s.cellOn) = true ∨ (!s.portUp p) = true) := by simp [hcell, hup]
  simp only [execReportTrain, hown]
  rw [if_neg hready, if_pos hport]

/-- R104: a cell that no train reached sends its own report when its grace has passed. -/
theorem execTrainGraceExpiry_unseen {own : Bytes} {t : State} (hcell : s.cellOn) (hown : s.launched = some own)
    (hseen : s.ring.node.trainSeen = false)
    (ht : t = s.loopTo0 ((s.tm.cueStart + (400000 + s.ring.node.index * (28800 + s.og (Obj.hopDelay (otherPort
      s.ring.node.repPort))) + 1000 * s.og Obj.trainGrace) / 125) % 2 ^ 64)) :
    execTrainGraceExpiry s =
      .next ((t.setNode { t.ring.node with sentOwn := true }).sendTrain s.ring.node.repPort false [own]) := by
  subst ht
  have hready : ¬((!s.cellOn) = true ∨ s.ring.node.trainSeen = true) := by simp [hcell, hseen]
  simp only [execTrainGraceExpiry, hown]
  exact if_neg hready

/-- R53: the active HEAD takes a report record of one of its rings. -/
theorem execReportRecord_active {rec : Bytes} (hup : s.portUp p) (hact : s.activeHead) (hunder : s.understudy = false) :
    execReportRecord p rec s = .next (s.takeReport (s.ringOfPort p) p rec) := by
  have hon : s.headOn = true := (Bool.and_eq_true_iff.1 hact).1
  have hready : ¬((!s.headOn) = true ∨ (!s.portUp p) = true) := by simp [hon, hup]
  have hfirst : ¬s.understudy = true := by simp [hunder]
  rw [execReportRecord, if_neg hready, if_neg hfirst, if_pos hact]

/-- R135: an UNDERSTUDY passes a report record to the active HEAD over XL0. -/
theorem execReportRecord_understudy {rec : Bytes} (hup : s.portUp p) (hunder : s.understudy) (hxl : s.xlUp 0) :
    execReportRecord p rec s = .next (s.xlSend 0 0x12 p rec) := by
  have hon : s.headOn = true := (Bool.and_eq_true_iff.1 hunder).1
  have hready : ¬((!s.headOn) = true ∨ (!s.portUp p) = true) := by simp [hon, hup]
  rw [execReportRecord, if_neg hready, if_pos hunder, if_pos hxl]

/-- R166: at the end of its computation, once in a CUE, the active HEAD sends the SHEET frames and its pair's frames. -/
theorem compEnd_unsent {t : State} (hact : s.activeHead) (hdone : s.tm.compDone) (hsent : s.tm.compSent = false)
    (ht : t = (((((s.loopTo2 (s.tm.compAt + 2400)).tmSet fun t => { t with compSent := true }).capBaseAll 4
      (fun _ => true)).bothArms traceRecord).sendSheets).sendPeer) :
    s.compEnd = (if t.paired then t.sendFast.sendSlow else t).irqPost 0 1 := by
  have hready : ¬((!s.activeHead) = true ∨ (!s.tm.compDone) = true ∨ s.tm.compSent = true) := by simp [hact, hdone, hsent]
  simp only [compEnd, if_neg hready, ← ht]

/-- Settles O29: each event of a CUE, in the states the rules name. -/
theorem cueCommandsComplete : Obligations.CueCommandsComplete := by
  intro s
  refine ⟨?period, ?start, ?assembly, ?launch, ?train, ?grace, ?record, ?relayed, ?compStart, ?compEnd⟩
  case period =>
    intro acc v heven hlo hhi
    exact takes_of_handler_ok rfl (applyCuePeriod_ok_of_long heven hlo hhi)
  case start =>
    intro pins _
    rfl
  case assembly =>
    intro hcell hadm
    exact ⟨_, execReportAssembly_admitted hcell rfl hadm, rfl⟩
  case launch =>
    intro rep x n p hcell hrep hlen hp hx hn hfirst
    exact execReportLaunch_first hcell hrep hlen rfl hp hx hn hfirst
  case train =>
    intro p recs own _ hcell hup hown hport
    exact execReportTrain_appends hcell hup hown hport
  case grace =>
    intro own hcell hown hseen
    exact ⟨_, execTrainGraceExpiry_unseen hcell hown hseen rfl, rfl⟩
  case record =>
    intro p rec hup hact hunder
    exact execReportRecord_active hup hact hunder
  case relayed =>
    intro p rec hup hunder hxl
    exact execReportRecord_understudy hup hunder hxl
  case compStart =>
    intro hops _ _
    rfl
  case compEnd =>
    intro t hact hdone hsent ht
    exact congrArg Host.Outcome.next (compEnd_unsent hact hdone hsent ht)

end Sys2Proof.Topology
end

section
/-! PROOFS. The ports of the cell rings: enable, test, bring-up, link down, lane test (03 R86 to R88, R117 to R119). -/

namespace Sys2Proof.Topology
open Sys2Proof.Machine Sys2Proof.Machine.State Sys2Proof.Rules

variable {s : State} {p : Nat}

theorem not_not_portLive (hlive : portLive s p) : ¬(!portLive s p) = true := by
  simp [hlive]

section
variable (hlive : portLive s p)
include hlive

theorem execPortEnable_on : execPortEnable p true s =
    .next ((s.rset (rngReg p 0) (putBit (s.rg (rngReg p 0)) 0 true)).startPort p) := by
  rw [execPortEnable, if_neg (not_not_portLive hlive)]
  rfl

/-- Table 03-3: a disabled port is OFF and silent, and keeps its sequence numbers and the rate it may use. -/
theorem execPortEnable_off {t : State} (ht : t = s.rset (rngReg p 0) (putBit (s.rg (rngReg p 0)) 0 false)) :
    execPortEnable p false s = .next ((t.setPort p { PortRec.reset with
      txSeq := (s.rport p).txSeq, rxSeq := (s.rport p).rxSeq, rateCap := (s.rport p).rateCap }).sendSym p 10 []) := by
  subst ht
  rw [execPortEnable, if_neg (not_not_portLive hlive)]
  rfl

/-- R118: the lane test takes a port out of UP, which is a link down, and starts the pattern. -/
theorem execPortTest_on_of_up {t : State} (ht : t = s.rset (rngReg p 0) (putBit (s.rg (rngReg p 0)) 1 true))
    (hup : (t.rport p).st = .up) : execPortTest p true s = .next (((t.setPort p { t.rport p with
      st := .test, silent := 0, training := false, bgCue := none, txq := [], bg := [], busy := 0 }).linkLost p).patSend p) := by
  have hbusy : ¬((t.rport p).st = .off ∨ (t.rport p).st = .test) := by simp [hup]
  simp only [execPortTest, if_neg (not_not_portLive hlive), ← ht, if_true, if_neg hbusy, if_pos hup]

theorem execPortTest_off_of_test {t : State} (ht : t = s.rset (rngReg p 0) (putBit (s.rg (rngReg p 0)) 1 false))
    (htest : (t.rport p).st = .test) : execPortTest p false s = .next (t.enterDetect p 0) := by
  simp only [execPortTest, if_neg (not_not_portLive hlive), ← ht, Bool.false_eq_true, if_false, if_pos htest]

/-- R87: a signal on a port in DETECT that is not held silent starts the exchange of OFFER sets. -/
theorem execSignalDetect_detect {t : State} (hst : (s.rport p).st = .detect) (hsilent : (s.rport p).silent = 0)
    (ht : t = s.setPort p { s.rport p with
      st := .offer, sig := true, align := true, offers := 0, offer := [], accepts := 0,
      rateMax := s.og (Obj.rateMax p) }) :
    execSignalDetect p s = .next (t.sendSym p 1 (t.offerSet p 1 0)) := by
  have hready : ¬((!portLive s p) = true ∨ (s.rport p).st ≠ .detect ∨ (s.rport p).silent ≠ 0) := by
    simp [hlive, hst, hsilent]
  simp only [execSignalDetect, if_neg hready, ← ht]

theorem execOfferTimer_offer (hst : (s.rport p).st = .offer) :
    execOfferTimer p s = .next (s.sendSym p 1 (s.offerSet p 1 0)) := by
  have hready : ¬((!portLive s p) = true ∨ (s.rport p).st ≠ .offer) := by simp [hlive, hst]
  rw [execOfferTimer, if_neg hready]

/-- R87: an ACCEPT set is counted. -/
theorem execOfferReceived_accept {set : Bytes} (hlen : set.length = 7) (hkind : rd set 0 1 = 2)
    (hst : (s.rport p).st = .train) : execOfferReceived p set s = .next (leaveRing (s.setPort p
      { s.rport p with accepts := (s.rport p).accepts + 1, nbr := rd set 1 1 })) := by
  have hready : ¬((!portLive s p) = true ∨ set.length ≠ 7) := by simp [hlive, hlen]
  simp only [execOfferReceived, if_neg hready, if_pos hkind, if_pos (Or.inl hst)]

/-- R87: an OFFER set that differs from the one before starts the count of equal sets again. -/
theorem execOfferReceived_new_offer {set : Bytes} (hlen : set.length = 7) (hkind : rd set 0 1 = 1)
    (hst : (s.rport p).st = .offer) (hnew : set ≠ (s.rport p).offer) : execOfferReceived p set s =
      .next (leaveRing (s.setPort p { s.rport p with offer := set, offers := 1, nbr := rd set 1 1 })) := by
  have hready : ¬((!portLive s p) = true ∨ set.length ≠ 7) := by simp [hlive, hlen]
  have hoffer : ¬(rd set 0 1 ≠ 1 ∨ (s.rport p).st ≠ .offer) := by simp [hkind, hst]
  have haccept : ¬rd set 0 1 = 2 := by omega
  simp only [execOfferReceived, if_neg hready, if_neg haccept, if_neg hoffer, if_neg hnew, Nat.one_lt_ofNat, if_true]

theorem execTrainStart_accepted (hst : (s.rport p).st = .train) (hidle : (s.rport p).training = false)
    (haccepts : 3 ≤ (s.rport p).accepts) : execTrainStart p s =
      .next ((s.setPort p { s.rport p with training := true }).sendSym p 9 (leBytes 1 (s.rport p).rate)) := by
  have hready : ¬((!portLive s p) = true ∨ (s.rport p).st ≠ .train ∨ (s.rport p).training = true ∨
      (s.rport p).accepts < 3) := by
    simp [hlive, hst, hidle, haccepts]
  rw [execTrainStart, if_neg hready]

/-- R87: training that locked without errors reaches UP; else it goes on at the next lower rate, and from rate 0 back to
DETECT. -/
theorem execTrainingEnd_training (hst : (s.rport p).st = .train) (htrain : (s.rport p).training) (locked : Bool) (e : Nat) :
    execTrainingEnd p locked e s =
      if locked ∧ e = 0 then .next ((reachUp p s).sendSym p 0 [])
      else if 0 < (s.rport p).rate then
        .next ((s.setPort p { s.rport p with rate := (s.rport p).rate - 1 }).sendSym p 9
          (leBytes 1 ((s.rport p).rate - 1)))
      else .next (s.enterDetect p 2) := by
  have hready : ¬((!portLive s p) = true ∨ (s.rport p).st ≠ .train ∨ (!(s.rport p).training) = true) := by
    simp [hlive, hst, htrain]
  rw [execTrainingEnd, if_neg hready]

theorem execLaneSilenceEnd_silent (hsilent : (s.rport p).silent ≠ 0) :
    execLaneSilenceEnd p s = .next ((s.setPort p { s.rport p with silent := 0 }).sendSym p 0 []) := by
  have hready : ¬((!portLive s p) = true ∨ (s.rport p).silent = 0) := by simp [hlive, hsilent]
  rw [execLaneSilenceEnd, if_neg hready]

theorem execLinkDown_up (hup : (s.rport p).st = .up) :
    execLinkDown p s = .next ((s.linkLost p).enterDetect p 1) := by
  have hready : ¬((!portLive s p) = true ∨ (s.rport p).st ≠ .up) := by simp [hlive, hup]
  rw [execLinkDown, if_neg hready]

theorem execCheckerLock_port (hp : p < 12) (bits : List Bool) :
    execCheckerLock p bits s = .next (s.checkBits p ((s.rport p).st == .test) bits) := by
  simp only [execCheckerLock, if_pos hp]
  exact congrArg Host.Outcome.next (if_pos hlive)

end

/-- Settles O35: each command of a port, in the port states of Table 03-3. -/
theorem ringPortCommandsComplete : Obligations.RingPortCommandsComplete := by
  intro s p hlive
  refine ⟨execPortEnable_on hlive, ?disable, ?testOn, ?testOff, ?signal, ?offerTimer, ?accept, ?offer, ?trainStart,
    ?trainUp, ?trainSlower, ?trainFailed, ?silenceEnd, ?linkDown, ?perr, ?pbits, ?inject, ?checker⟩
  case disable =>
    intro t ht
    exact execPortEnable_off hlive ht
  case testOn =>
    intro t ht hup
    exact execPortTest_on_of_up hlive ht hup
  case testOff =>
    intro t ht htest
    exact execPortTest_off_of_test hlive ht htest
  case signal =>
    intro t hst hsilent ht
    exact execSignalDetect_detect hlive hst hsilent ht
  case offerTimer =>
    intro hst
    exact execOfferTimer_offer hlive hst
  case accept =>
    intro set hlen hkind hst
    exact execOfferReceived_accept hlive hlen hkind hst
  case offer =>
    intro set hlen hkind hst hnew
    exact execOfferReceived_new_offer hlive hlen hkind hst hnew
  case trainStart =>
    intro hst hidle haccepts
    exact execTrainStart_accepted hlive hst hidle haccepts
  case trainUp =>
    intro hst htrain
    exact (execTrainingEnd_training hlive hst htrain true 0).trans (if_pos ⟨rfl, rfl⟩)
  case trainSlower =>
    intro e hst htrain hrate
    refine (execTrainingEnd_training hlive hst htrain false e).trans ?_
    rw [if_neg fun h => Bool.false_ne_true h.1, if_pos hrate]
  case trainFailed =>
    intro e hst htrain hrate
    refine (execTrainingEnd_training hlive hst htrain false e).trans ?_
    rw [if_neg fun h => Bool.false_ne_true h.1, if_neg (by omega)]
  case silenceEnd =>
    intro hsilent
    exact execLaneSilenceEnd_silent hlive hsilent
  case linkDown =>
    intro hup
    exact execLinkDown_up hlive hup
  case perr =>
    intro path
    exact if_pos hlive
  case pbits =>
    intro path
    exact if_pos hlive
  case inject =>
    intro v
    exact if_pos hlive
  case checker =>
    intro bits hp
    exact execCheckerLock_port hlive hp bits

end Sys2Proof.Topology
end

section
/-! PROOFS. The cross-links: enable, test, bring-up, lanes, HELLO, peers, CURTAIN sets, lane test, log (04 R121 to R143,
R354). -/

namespace Sys2Proof.Topology
open Sys2Proof.Machine Sys2Proof.Machine.State Sys2Proof.Rules

variable {s : State} {l : Nat}

theorem not_not_linkLive (hlive : linkLive s l) : ¬(!linkLive s l) = true := by
  simp [hlive]

theorem lt_three_of_linkLive (hlive : linkLive s l) : l < 3 :=
  of_decide_eq_true (Bool.and_eq_true_iff.1 hlive).2

theorem headOn_of_linkLive (hlive : linkLive s l) : s.headOn :=
  (Bool.and_eq_true_iff.1 hlive).1

/-- A link's record after its lane 0 has lost lock: no lock, comma, receive or rejoin of that lane stands (R138). -/
def lane0Lost (k : XlLink) : XlLink :=
  { k with lock := clrBit k.lock 0, comma := clrBit k.comma 0, rx := clrBit k.rx 0, rejoinA := none, rxWait := false }

/-- A link's record after its lane 0 has been taken back into the receive mask (R141). -/
def lane0Rejoined (k : XlLink) : XlLink :=
  { k with rx := setBit k.rx 0, rejoinA := none, rxWait := true }

section
variable (hlive : linkLive s l)
include hlive

theorem execXlEnable_on : execXlEnable l true s =
    .next ((s.rset (xlReg l 0) (putBit (s.rg (xlReg l 0)) 0 true)).startXl l) := by
  rw [execXlEnable, if_neg (not_not_linkLive hlive)]
  rfl

theorem execXlEnable_off : execXlEnable l false s =
    .next ((s.rset (xlReg l 0) (putBit (s.rg (xlReg l 0)) 0 false)).xlDown l
      (fun s => (s.setXl l (xlBlank (s.xlink l) .off 0 s.tm.tb2)).xlLanes l true)) := by
  rw [execXlEnable, if_neg (not_not_linkLive hlive)]
  rfl

/-- R143: TEST takes a link down that is up, and starts the patterns of both lanes. -/
theorem execXlTest_on {t : State} (ht : t = s.rset (xlReg l 0) (putBit (s.rg (xlReg l 0)) 1 true))
    (hst : (t.xlink l).st ≠ .off) : execXlTest l true s =
      .next (((t.xlDown l (fun s => s.setXl l (xlBlank (s.xlink l) .test 0 s.tm.tb2))).patSend (12 + 2 * l)).patSend
        (13 + 2 * l)) := by
  simp only [execXlTest, if_neg (not_not_linkLive hlive), ← ht, if_true, if_neg hst]

theorem execXlTest_off_of_test {t : State} (ht : t = s.rset (xlReg l 0) (putBit (s.rg (xlReg l 0)) 1 false))
    (htest : (t.xlink l).st = .test) : execXlTest l false s = .next (t.xlToClock l 0) := by
  simp only [execXlTest, if_neg (not_not_linkLive hlive), ← ht, Bool.false_eq_true, if_false, if_pos htest]

theorem execXlClockPresent_clock {t : State} (ht : t = s.xlSilenceEnd l) (hst : (t.xlink l).st = .clock) :
    execXlClockPresent l s = .next (t.setXl l
      { t.xlink l with st := .align, clk := true, failA := 0, failB := 0, rx := 0, lock := 0, comma := 0 }) := by
  have hclock : ¬(t.xlink l).st ≠ .clock := by simp [hst]
  simp only [execXlClockPresent, if_neg (not_not_linkLive hlive), ← ht, if_neg hclock]

/-- R123: lane 0, permitted and aligned by the firmware, is locked and received. -/
theorem execXlAlignDone_lane0_aligned {errs : List Nat} {slips tap slip : Nat} {t u : State}
    (hst : (s.xlink l).st = .align) (hauto : s.xlManual l = false) (hlane : hasBit (s.xlLaneEn l) 0)
    (hopen : alignLane (errs, slips) = (tap, slip, true))
    (ht : t = ((s.setXl l { s.xlink l with eyeA := (errs, slips) }).rset (xlReg l 0x10) (slip * 256 + tap)).rset
      (xlReg l 0x18) 0) (hu : u = t.laneSampled l 0) : execXlAlignDone l 0 errs slips s =
      .next ((u.setXl l { u.xlink l with rx := setBit (u.xlink l).rx 0, lock := setBit (u.xlink l).lock 0 }).alignCheck l) := by
  have hready : ¬((!linkLive s l) = true ∨ 1 < 0) := by simp [hlive]
  simp only [execXlAlignDone, if_neg hready, hauto, hopen, Bool.false_eq_true, if_false, if_true, Nat.mul_zero,
    Nat.add_zero, ← ht, ← hu, if_pos hst, hlane, and_self]

theorem execHelloTimer_sends (hst : s.xlUp l ∨ (s.xlink l).st = .hello) : execHelloTimer l s = .next (s.xlHello l) :=
  if_pos ⟨hlive, hst⟩

/-- R138: lane 0 loses lock where it is not in service: only the link's record changes. -/
theorem execXlLaneLoss_lane0_idle (f : Bytes) (hlock : hasBit (s.xlink l).lock 0)
    (hidle : hasBit (s.xlink l).rx 0 = true → s.xlUp l = false ∧ (s.xlink l).st ≠ .hello) :
    execXlLaneLoss l 0 f s = .next (s.setXl l (lane0Lost (s.xlink l))) := by
  have hready : ¬((!linkLive s l) = true ∨ 1 < 0 ∨ (!hasBit (s.xlink l).lock 0) = true) := by simp [hlive, hlock]
  have hout : ¬(hasBit (s.xlink l).rx 0 = true ∧ (s.xlUp l = true ∨ (s.xlink l).st = .hello)) := by
    rintro ⟨hrx, hup | hhello⟩
    · simp [(hidle hrx).1] at hup
    · exact (hidle hrx).2 hhello
  rw [execXlLaneLoss, if_neg hready, if_neg hout]
  rfl

/-- R138, R140: lane 0 loses lock in service: the frame in progress is cut, and the partner is told the other lane. -/
theorem execXlLaneLoss_lane0_narrows (f : Bytes) {k : XlLink} (hlock : hasBit (s.xlink l).lock 0)
    (hst : s.xlUp l ∨ (s.xlink l).st = .hello) (hrx : hasBit (s.xlink l).rx 0) (hk : k = lane0Lost (s.xlink l))
    (hrest : k.rx ≠ 0) : execXlLaneLoss l 0 f s =
      .next (((s.setXl l { k with st := xlWidthSt k }).xlLaneCut l 0 f).xlSendL l k.rx) := by
  subst hk
  have hready : ¬((!linkLive s l) = true ∨ 1 < 0 ∨ (!hasBit (s.xlink l).lock 0) = true) := by simp [hlive, hlock]
  have hother : ¬((lane0Lost (s.xlink l)).rx = 0 ∧ s.xlUp l = true) := fun h => hrest h.1
  rw [execXlLaneLoss, if_neg hready, if_pos ⟨hrx, hst⟩]
  exact if_neg hother

/-- R138: a link in service that loses its clock cuts the frames of the lanes it received, and goes down. -/
theorem execXlLinkDown_up {f0 f1 : Bytes} {t u : State} (hup : s.xlUp l)
    (ht : t = if hasBit (s.xlink l).rx 0 then s.xlLaneCut l 0 f0 else s)
    (hu : u = if hasBit (s.xlink l).rx 1 then t.xlLaneCut l 1 f1 else t) :
    execXlLinkDown l f0 f1 s = .next (u.xlDown l (fun s => s.xlToClock l 2)) := by
  simp only [execXlLinkDown, if_neg (not_not_linkLive hlive), if_pos hup, ← ht, ← hu]

theorem execXlLinkDown_not_up (f0 f1 : Bytes) (hup : s.xlUp l = false) : execXlLinkDown l f0 f1 s =
    .next (s.setXl l { s.xlink l with clk := false, lock := 0, comma := 0, rx := 0, rejoinA := none, rejoinB := none }) := by
  have hdown : ¬s.xlUp l = true := by simp [hup]
  rw [execXlLinkDown, if_neg (not_not_linkLive hlive), if_neg hdown]

/-- R141: lane 0, held for REJOIN_HOLD CUEs, is received again, and the partner is told so. -/
theorem execRejoinHoldExpiry_lane0 {c : Nat} {k : XlLink} {t : State} (hrejoin : (s.xlink l).rejoinA = some c)
    (hst : s.xlUp l ∨ (s.xlink l).st = .hello) (hheld : s.og Obj.rejoinHold ≤ c) (hk : k = lane0Rejoined (s.xlink l))
    (ht : t = (s.setXl l { k with st := xlWidthSt k }).xlSendL l k.rx) :
    execRejoinHoldExpiry l 0 s = .next (if l = 0 then t.release 49 0 else t) := by
  subst ht hk
  have hready : linkLive s l ∧ (s.xlUp l ∨ (s.xlink l).st = .hello) ∧ s.og Obj.rejoinHold ≤ c ∧ 0 ≤ 1 :=
    ⟨hlive, hst, hheld, Nat.zero_le 1⟩
  simp only [execRejoinHoldExpiry, if_true, hrejoin]
  exact if_pos hready

/-- R132, R354: with no set for 256 XLK cycles the CURTAIN of a link ends, and on XL1 and XL2 the demand of its peer. -/
theorem execCurtainSetTimeout_set {c : Nat} (n : Nat) {t u : State} (hset : (s.xlink l).curtAt = some c)
    (ht : t = (s.toTb2 (c + 410)).repeatCs) (hu : u = t.setXl l { t.xlink l with curtAt := none, curtMask := 0 }) :
    execCurtainSetTimeout l n s =
      .next (if l = 0 then u else (u.safSet fun w => { w with peer := clrBit w.peer l }).safUpdate n) := by
  simp only [execCurtainSetTimeout, hset, if_neg (not_not_linkLive hlive), ← ht, ← hu]
  split <;> rfl

theorem execXlTrnErrRead_live (path : Fin 3) (lane : Fin 2) : execXlTrnErrRead path l lane s =
    .next ((s.emit (.word path.val (s.xlLstat l lane.val))).rset (xlReg l (0x18 + 4 * lane.val)) 0) :=
  if_neg (not_not_linkLive hlive)

theorem execCheckerLock_lane (lane : Fin 2) (bits : List Bool) : execCheckerLock (12 + 2 * l + lane.val) bits s =
    .next (s.checkBits (12 + 2 * l + lane.val) ((s.xlink l).st == .test) bits) := by
  have hl := lt_three_of_linkLive hlive
  have hcross : ¬12 + 2 * l + lane.val < 12 := by omega
  have hlink : (12 + 2 * l + lane.val - 12) / 2 = l := by omega
  have hon : (s.headOn && decide (12 + 2 * l + lane.val < 18)) = true :=
    Bool.and_eq_true_iff.2 ⟨headOn_of_linkLive hlive, decide_eq_true (by omega)⟩
  simp only [execCheckerLock, if_neg hcross, hlink, if_pos hon]

end

/-- R138: what a lost lane leaves: its log entry and event, the frame in progress discarded and counted, and on XL0
source 49. -/
theorem xlLaneCut_eq {lane : Nat} {f : Bytes} {t u : State} (ht : t = (s.xlLog l lane 0x0B 0).xlEvt l 2)
    (hu : u = if f = [] then t else (t.relCut l f).bump (Obj.xlLost l)) :
    s.xlLaneCut l lane f = if l = 0 then u.raise 49 lane else u := by
  simp only [xlLaneCut, List.isEmpty_iff, ← ht, ← hu]

/-- Settles O36: each command of a cross-link, in the link states of Table 04-1. -/
theorem crossLinkCommandsComplete : Obligations.CrossLinkCommandsComplete := by
  intro s l hlive
  refine ⟨execXlEnable_on hlive, execXlEnable_off hlive, ?testOn, ?testOff, ?clock, ?aligned, ?hello, ?helloTimer,
    ?laneMask, ?laneIdle, ?laneNarrows, ?linkDown, ?clockLost, ?rejoin, ?peer, ?curtainTimeout, ?trnErr, ?perr, ?pbits,
    ?inject, ?vlogClear, ?checker⟩
  case testOn =>
    intro t ht hst
    exact execXlTest_on hlive ht hst
  case testOff =>
    intro t ht htest
    exact execXlTest_off_of_test hlive ht htest
  case clock =>
    intro t ht hst
    exact execXlClockPresent_clock hlive ht hst
  case aligned =>
    intro errs slips tap slip t u hst hauto hlane hopen ht hu _
    exact execXlAlignDone_lane0_aligned hlive hst hauto hlane hopen ht hu
  case hello =>
    intro lane f e r hrec hlen
    refine congrArg Host.Outcome.next ((rxXlTyped_of_xlReceived hrec _).trans ?_)
    exact if_pos hlen
  case helloTimer =>
    intro hst
    exact execHelloTimer_sends hlive hst
  case laneMask =>
    intro m
    exact if_pos hlive
  case laneIdle =>
    intro f k hlock hk hidle
    subst hk
    exact execXlLaneLoss_lane0_idle hlive f hlock hidle
  case laneNarrows =>
    intro f k t u hlock hst hrx hk hrest ht hu
    refine (execXlLaneLoss_lane0_narrows hlive f hlock hst hrx hk hrest).trans ?_
    rw [xlLaneCut_eq ht hu]
  case linkDown =>
    intro f0 f1 t u hup ht hu
    exact execXlLinkDown_up hlive hup ht hu
  case clockLost =>
    intro f0 f1 hup
    exact execXlLinkDown_not_up hlive f0 f1 hup
  case rejoin =>
    intro c t hrejoin hst hheld ht
    exact execRejoinHoldExpiry_lane0 hlive hrejoin hst hheld rfl ht
  case peer =>
    intro lane f e r hrec
    exact congrArg Host.Outcome.next (rxXlTyped_of_xlReceived hrec _)
  case curtainTimeout =>
    intro n c t u hset ht hu
    exact execCurtainSetTimeout_set hlive n hset ht hu
  case trnErr =>
    intro path lane
    exact ⟨_, execXlTrnErrRead_live hlive path lane, rfl⟩
  case perr =>
    intro path lane
    exact if_pos hlive
  case pbits =>
    intro path lane
    exact if_pos hlive
  case inject =>
    intro lane v
    exact if_pos hlive
  case vlogClear =>
    intro acc
    exact takes_of_handler_ok rfl rfl
  case checker =>
    intro lane bits
    exact execCheckerLock_lane hlive lane bits

end Sys2Proof.Topology
end

section
/-! PROOFS. The rule of an object read, beside those of Rules for writes and received frames. -/

namespace Sys2Proof.Rules
open Sys2Proof.Machine Sys2Proof.Machine.State

/-- A read that the access tests serve: the answer, what the read does, and the data as they stood. -/
theorem guardedRead_of_serves {s : State} {acc : Accessor} {k : Nat} (hserves : Serves s acc k)
    (d : State → Bytes) (after : State → State) :
    s.guardedRead acc k d after = (after (s.answer acc k 0 false)).emit (.data acc k (d s).length (d s)) := by
  obtain ⟨hrun, hpath, hhold, r, hrow, hpresent, hrights⟩ := hserves
  have hpresented : ¬(!s.running || !s.accPresent acc) = true := by simp [hrun, hpath]
  have hfree : ¬(s.pw.faultHold && !servedInHold k) = true := by simp [hhold]
  have hon : ¬(!s.rowPresent r) = true := by simp [hpresent]
  have hreadable : ¬(rights r acc == .no) = true := by simp [hrights]
  simp only [guardedRead, if_neg hpresented, if_neg hfree, hrow, if_neg hon, if_neg hreadable]

end Sys2Proof.Rules
end

section
/-! PROOFS. The passing of time on an empty queue, the CUE period and the CUE count (02 R46 to R51). -/

namespace Sys2Proof.CueTime
open Sys2Proof.Machine Sys2Proof.Machine.State Sys2Proof.Laws Sys2Proof.Scope Sys2Proof.Rules

variable {s : State}

theorem idle_of_not_running (hrun : s.running = false) : s.idle = s := by
  have hoff : (!s.running) = true := by simp [hrun]
  exact if_pos hoff

theorem idle_of_no_sequence_cycle (hrun : s.running) (hfree : s.activeHead = false ∨ s.sl.busy = false) :
    s.idle = (((s.elapse 16).groupsNow).pumpPorts).pumpLinks := by
  have hon : ¬(!s.running) = true := by simp [hrun]
  have hidle : ¬(s.activeHead && s.sl.busy) = true := by
    rcases hfree with hpassive | hdone
    · simp [hpassive]
    · simp [hdone]
  rw [idle, if_neg hon, if_neg hidle]

theorem idle_of_sequence_cycle (hrun : s.running) (hact : s.activeHead) (hbusy : s.sl.busy) : s.idle = s.slRunOne := by
  have hon : ¬(!s.running) = true := by simp [hrun]
  have hcycle : (s.activeHead && s.sl.busy) = true := by simp [hact, hbusy]
  rw [idle, if_neg hon, if_pos hcycle]

/-- Settles O2: an empty queue lets `idle` pass, by whether the part runs and whether a sequence cycle executes. -/
theorem anEmptyQueueLetsOneCyclePass : Obligations.AnEmptyQueueLetsOneCyclePass := by
  intro s hqueue
  rw [step_of_pending_nil hqueue]
  refine ⟨?stopped, ?cycle, ?sequence⟩
  case stopped =>
    intro hrun
    rw [idle_of_not_running hrun]
  case cycle =>
    intro hrun hfree
    rw [idle_of_no_sequence_cycle hrun hfree]
  case sequence =>
    intro hrun hact hbusy
    rw [idle_of_sequence_cycle hrun hact hbusy]

/-- R46: an odd period, or one outside 10.000 µs to 200.000 µs, is out of range. -/
theorem applyCuePeriod_out_of_range {v : Nat} (hout : v % 2 = 1 ∨ v < 10000 ∨ 200000 < v) :
    applyCuePeriod v s = .error 5 :=
  if_pos hout

/-- R28, R46, R49: with no admitted ring of more than 48 cells every period in range is taken, for the CUE after next. -/
theorem applyCuePeriod_ok_of_short_rings {v : Nat} (heven : v % 2 = 0) (hlo : 10000 ≤ v) (hhi : v ≤ 200000)
    (hshort : ∀ p ∈ s.ringPorts, (s.ringRec p).admitted → (s.ringRec p).foundAdm ≤ 48) :
    applyCuePeriod v s = .ok ((s.oset Obj.cuePeriod v).tmSet fun t => { t with
      periodNext := t.periodNext.filter (fun e => e.1 != (s.tm.cue + 2) % 2 ^ 32) ++
        [((s.tm.cue + 2) % 2 ^ 32, v)] }) := by
  have hrange : ¬(v % 2 = 1 ∨ v < 10000 ∨ 200000 < v) := by omega
  have hrings : ¬(v < 20000 ∧
      s.ringPorts.any (fun p => (s.ringRec p).admitted && decide (48 < (s.ringRec p).foundAdm)) = true) := by
    rintro ⟨-, hany⟩
    obtain ⟨p, hp, hlong⟩ := List.any_eq_true.1 hany
    rw [Bool.and_eq_true, decide_eq_true_eq] at hlong
    exact absurd (hshort p hp hlong.1) (Nat.not_le.2 hlong.2)
  rw [applyCuePeriod, if_neg hrange, if_neg hrings]

/-- Settles O12: the handler of CUE_PERIOD refuses a value out of range, else notes it for the CUE after next. -/
theorem cuePeriodRange : Obligations.CuePeriodRange := by
  intro s acc v hv hadmits
  refine ⟨?refused, ?taken⟩
  case refused =>
    intro hout
    exact ⟨_, exec_of_handler_error rfl hv hadmits (applyCuePeriod_out_of_range hout), rfl, answer_og .., answer_tm ..⟩
  case taken =>
    intro heven hlo hhi hshort
    exact ⟨_, takes_of_handler_ok rfl (applyCuePeriod_ok_of_short_rings heven hlo hhi hshort) hv hadmits, rfl,
      List.mem_append_right _ (List.mem_singleton.2 rfl)⟩

theorem irqPost_tm (g i : Nat) (s : State) : (s.irqPost g i).tm = s.tm := by
  have lhead := lets_among_head
  exact (keep_State_irqPost (keep_refl (Among [.irq]) s)).rest .tm (mt lets_among_iff.1 (by decide))

/-- What a CUE start sets: the count, its instant, that no computation of the CUE has run, and that no mark is held. -/
def startRegs (t : TimeBlock) : Nat × Nat × Bool × Option (Nat × Nat) := (t.cue, t.cueStart, t.compDone, t.mark)

theorem startRegs_foldl {f : State → Nat → State} (hf : ∀ t n, startRegs (f t n).tm = startRegs t.tm) (l : List Nat)
    (s : State) : startRegs (l.foldl f s).tm = startRegs s.tm := by
  induction l generalizing s with
  | nil => rfl
  | cons n l ih => exact (ih (f s n)).trans (hf s n)

/-- R47, R51: what follows in a CUE start, its events and the time events of mode 0x03, leaves these registers alone. -/
theorem cueAdvance_startRegs (start : Nat) :
    startRegs (s.cueAdvance start).tm = ((s.tm.cue + 1) % 2 ^ 32, start, false, none) := by
  have hrearm : ∀ (t : State) (n : Nat), startRegs (if t.og (Obj.tevtMode n) = 3 then
      t.setTevt n { t.tevt n with done := false } else t).tm = startRegs t.tm := by
    intro t n
    split <;> rfl
  rw [cueAdvance]
  refine (startRegs_foldl hrearm _ _).trans ?_
  rw [irqPost_tm]
  split
  · rw [irqPost_tm]
    rfl
  · rfl

/-- A CUE start's advance changes the time bases and raises interrupts, nothing else. -/
theorem cueAdvance_keeps (start : Nat) (s : State) : Keep (Among [.tm, .irq]) s (s.cueAdvance start) := by
  have lhead := lets_among_head
  have ltail := lets_among_tail
  exact keep_State_cueAdvance (keep_refl _ s)

/-- Settles O31: the registers that the start sets, and that it writes no store and leaves the queue. -/
theorem cueStartAdvancesTheCount : Obligations.CueStartAdvancesTheCount := by
  intro s start
  have hregs := cueAdvance_startRegs (s := s) start
  simp only [startRegs, Prod.mk.injEq] at hregs
  obtain ⟨hcue, hstart, hcomp, hmark⟩ := hregs
  have hkeep := cueAdvance_keeps start s
  exact ⟨hcue, hstart, hcomp, hmark, hkeep.rest .objs (mt lets_among_iff.1 (by decide)),
    hkeep.rest .doms (mt lets_among_iff.1 (by decide)), hkeep.pend⟩

end Sys2Proof.CueTime
end

section
/-! PROOFS. What the rings carry each CUE: SHEET frames, forwarding, the CURTAIN, the background window (02 R48, R57,
03 R92 to R96, R102, R106, R107). -/

namespace Sys2Proof.CueTime
open Sys2Proof.Machine Sys2Proof.Machine.State Sys2Proof.Rules

variable {s : State} {p : Nat} {f : Bytes} {e : FrameEnd} {r : Rx}

/-- R102, R399: a CELL takes its record of a SHEET frame, a HEAD notes the frame that its partner has sent. -/
theorem execSheetFrame_received {at0 : Nat} (hrec : Received s p f e 0x10 false r) :
    execSheetFrame p f e at0 s = .next (if r.st.isCell then r.st.takeSheet p f r at0 else r.st.seeSheet p r) := by
  rw [execSheetFrame, rxTyped_of_received hrec]

/-- R96: /C/ at a ring end is an echo of the end's own, or a CURTAIN the HEAD did not expect. -/
theorem execCurtainRingEnd_up {t : State} (hon : s.headOn) (hup : s.portUp p)
    (ht : t = (s.setPort p { s.rport p with gotC := some s.tm.tb2 }).rngEvt p 3) :
    execCurtainRingEnd p s = if t.echoes p then .next (((t.bump (Obj.curtainEcho p)).irqPost 4 7).unexpAgain p)
      else .next ((t.ringLog p 0x0E 0xFFFF 0).safUnexp p) := by
  have hready : ¬((!s.headOn) = true ∨ (!s.portUp p) = true) := by simp [hon, hup]
  simp only [execCurtainRingEnd, if_neg hready, ← ht]

theorem execCurtainLiftFrame_received (hrec : Received s p f e 6 true r) (hcell : r.st.isCell)
    (haddr : r.st.addressed r.hdr) (hlen : r.pl.length = 4) :
    execCurtainLiftFrame p f e s = .next (r.st.takeLift (rd r.pl 0 4)) := by
  rw [execCurtainLiftFrame, rxTyped_of_received hrec, if_pos ⟨hcell, haddr, hlen⟩]

/-- R109: a window that has opened in this CUE goes on with the frames that wait. -/
theorem execBackgroundWindow_open (hlive : portLive s p) (hup : s.portUp p) (hopen : (s.rport p).bgCue = some s.tm.cue) :
    execBackgroundWindow p s = .next (s.pump p) := by
  rw [execBackgroundWindow, if_pos ⟨hlive, hup⟩, if_pos hopen]

/-- R109: the first window of a CUE takes the node's own frames in, here where the port serves no capture stream. -/
theorem execBackgroundWindow_first {t : State} (hlive : portLive s p) (hup : s.portUp p)
    (hfirst : (s.rport p).bgCue ≠ some s.tm.cue) (ht : t = (s.queueTime p).passWindow p)
    (hserves : t.isCell = true → t.ring.node.servedBy ≠ p) :
    execBackgroundWindow p s = .next (openWindow p t) := by
  have hnone : ¬(t.isCell = true ∧ t.ring.node.servedBy = p) := fun h => hserves h.1 h.2
  simp only [execBackgroundWindow, if_pos (And.intro hlive hup), if_neg hfirst, ← ht, if_neg hnone]

/-- R89: a hop at or below the cap stays up; both ports of the cell hold the cap. -/
theorem execRateCapFrame_within {t u : State} (hrec : Received s p f e 5 true r) (hcell : r.st.isCell)
    (hlen : r.pl.length = 1) (ht : t = r.st.setNode { r.st.ring.node with opRate := false })
    (hu : u = t.setPort 0 { t.rport 0 with rateCap := rd r.pl 0 1 }) (hnear : (t.rport 0).rate ≤ rd r.pl 0 1)
    (hfar : (u.rport 1).rate ≤ rd r.pl 0 1) :
    execRateCapFrame p f e s = .next (u.setPort 1 { u.rport 1 with rateCap := rd r.pl 0 1 }) := by
  have htaken : ¬((!r.st.isCell) = true ∨ r.pl.length ≠ 1) := by simp [hcell, hlen]
  have hstays : ∀ {w : State} {q : Nat}, (w.rport q).rate ≤ rd r.pl 0 1 →
      ¬((w.rport q).st = .up ∧ rd r.pl 0 1 < (w.rport q).rate) := fun hle h => absurd h.2 (Nat.not_lt.2 hle)
  rw [execRateCapFrame, rxTyped_of_received hrec, if_neg htaken]
  simp only [List.foldl_cons, List.foldl_nil, ← ht, if_neg (hstays hnear), ← hu, if_neg (hstays hfar)]

theorem execCaptureFrame_received (hrec : Received s p f e 0x50 true r) (hact : r.st.activeHead)
    (haddr : r.st.addressed r.hdr) : execCaptureFrame p f e s = .next (r.st.capFrame r.hdr.src r.pl) := by
  rw [execCaptureFrame, rxTyped_of_received hrec, if_pos ⟨hact, haddr⟩]

/-- Settles O30: each frame by what its reception hands on, /C/ by the role of the node. -/
theorem ringTrafficCompletes : Obligations.RingTrafficCompletes := by
  intro s
  refine ⟨?taken, ?seen, ?forward, ?cellCurtain, ?echo, ?unexpected, ?lift, ?windowOpen, ?windowFirst, ?rateCap, ?capture⟩
  case taken =>
    intro p f e at0 r hty hr hact hhdr hcell
    refine (execSheetFrame_received ⟨hty, hr, hact, hhdr, .inr rfl⟩).trans ?_
    rw [if_pos hcell]
  case seen =>
    intro p f e at0 r hty hr hact hhdr hhead
    refine (execSheetFrame_received ⟨hty, hr, hact, hhdr, .inr rfl⟩).trans ?_
    rw [hhead, if_neg Bool.false_ne_true]
  case forward =>
    intro p f e _
    rfl
  case cellCurtain =>
    intro p hcell hup
    exact if_pos ⟨hcell, hup⟩
  case echo =>
    intro p t hon hup ht hecho
    exact (execCurtainRingEnd_up hon hup ht).trans (if_pos hecho)
  case unexpected =>
    intro p t hon hup ht hecho
    refine (execCurtainRingEnd_up hon hup ht).trans ?_
    rw [hecho, if_neg Bool.false_ne_true]
  case lift =>
    intro p f e r hrec hcell haddr hlen
    exact execCurtainLiftFrame_received hrec hcell haddr hlen
  case windowOpen =>
    intro p hlive hup hopen
    exact execBackgroundWindow_open hlive hup hopen
  case windowFirst =>
    intro p hlive hup hfirst hserves
    exact execBackgroundWindow_first hlive hup hfirst rfl hserves
  case rateCap =>
    intro p f e r t u hrec hcell hlen ht hu hnear hfar
    exact execRateCapFrame_within hrec hcell hlen ht hu hnear hfar
  case capture =>
    intro p f e r hrec hact haddr
    exact execCaptureFrame_received hrec hact haddr

end Sys2Proof.CueTime
end

section
/-! PROOFS. The time bases: probe and time frames, holdover, RE_ANCHOR, PTP, TB1 and TB3, SYNC (02 R63 to R78). -/

namespace Sys2Proof.CueTime
open Sys2Proof.Machine Sys2Proof.Machine.State Sys2Proof.Rules

variable {s : State} {p lane : Nat} {f : Bytes} {e : FrameEnd}

theorem execProbeFrame_ring {at0 : Nat} {r : Rx} (hp : p < 12) (hrec : Received s p f e 3 false r)
    (hlen : r.pl.length = 24) : execProbeFrame p lane f e at0 s = .next (r.st.takeProbe p r.pl at0) := by
  rw [execProbeFrame, if_pos hp, rxTyped_of_received hrec, if_pos hlen]

theorem execProbeFrame_link {at0 : Nat} {r : XlRx} (hp : 12 ≤ p) (hrec : XlReceived s (p - 12) lane f e 3 r)
    (hlen : r.pl.length = 24) : execProbeFrame p lane f e at0 s = .next (r.st.takeProbe p r.pl at0) := by
  rw [execProbeFrame, if_neg (Nat.not_lt.2 hp), rxXlTyped_of_xlReceived hrec, if_pos hlen]

theorem execTimeFrame_cell {at0 : Nat} {r : Rx} (hp : p < 12) (hrec : Received s p f e 2 false r) (hcell : r.st.isCell)
    (hlen : r.pl.length = 16) : execTimeFrame p lane f e at0 s = .next (r.st.cellTime p r.hdr r.pl at0) := by
  rw [execTimeFrame, if_pos hp, rxTyped_of_received hrec, if_pos ⟨hcell, hlen⟩]

/-- R65: an UNDERSTUDY takes its time from XL0, which has the number 12 behind the ring ports. -/
theorem execTimeFrame_understudy {at0 : Nat} {r : XlRx} (hrec : XlReceived s 0 lane f e 2 r) (hunder : r.st.understudy)
    (hlen : r.pl.length = 16) : execTimeFrame 12 lane f e at0 s = .next (r.st.servo (r.st.timeEst 12 r.pl) at0
      (decide (r.st.og Obj.delayAvg ≤ (Kv.get (fun _ => []) r.st.tm.probes 12).length)) true) := by
  rw [execTimeFrame, if_neg (Nat.lt_irrefl 12), rxXlTyped_of_xlReceived hrec, if_pos ⟨hunder, hlen⟩]

section
variable (hwork : s.working) (hact : s.activeHead = false) (hmiss : 2 ≤ s.tm.noFrame + b2n (!s.tm.frameSeen))
include hwork hact hmiss

theorem time_frames_missed :
    ¬((!s.working) = true ∨ s.activeHead = true ∨ s.tm.noFrame + b2n (!s.tm.frameSeen) < 2) := by
  simp [hwork, hact, Nat.not_lt.2 hmiss]

/-- Table 02-5: two CUEs without a time frame take TB0 from ACQUIRE back to UNSYNC. -/
theorem execTimeFrameTimeout_acquire (hstate : s.tm.tb0State = .acquire) :
    execTimeFrameTimeout s = .next (s.setTb0State .unsync) := by
  simp only [execTimeFrameTimeout, if_neg (time_frames_missed hwork hact hmiss), hstate]

/-- Table 02-5: two CUEs without a time frame take TB0 from LOCKED to HOLDOVER, whose count starts. -/
theorem execTimeFrameTimeout_locked (hstate : s.tm.tb0State = .locked) : execTimeFrameTimeout s =
    .next ((s.tmSet fun t => { t with holdCount := 0 }).setTb0State .holdover) := by
  simp only [execTimeFrameTimeout, if_neg (time_frames_missed hwork hact hmiss), hstate]

end

/-- R68: a cell takes RE_ANCHOR while its gate outputs are safe, and else answers 0x06. -/
theorem execReAnchorFrame_received {r : Rx} (hrec : Received s p f e 7 true r) (hcell : r.st.isCell)
    (haddr : r.st.addressed r.hdr) : execReAnchorFrame p f e s =
      .next (if r.st.gatesSafe then r.st.tmSet fun t => { t with reanchor := true }
        else r.st.emit (.answer (.ring true 3) Obj.reAnchor 6)) := by
  have hmine : ¬((!r.st.isCell) = true ∨ (!r.st.addressed r.hdr) = true) := by simp [hcell, haddr]
  rw [execReAnchorFrame, rxTyped_of_received hrec, if_neg hmine]

/-- R70, R72: a Sync outside the part's domain, or with an interval outside −4 to 0, is not taken. -/
theorem execPtpSync_not_mine {d m : Nat} {i : Int} (hnot : ptpMine s p d = false ∨ i < -4 ∨ 0 < i) :
    execPtpSync p d i m s = .next s := by
  have hout : ¬(ptpMine s p d = true ∧ s.tm.ptpPort = p ∧ -4 ≤ i ∧ i ≤ 0) := by
    rintro ⟨hmine, -, hlo, hhi⟩
    rcases hnot with hother | hslow | hfast
    · simp [hother] at hmine
    · omega
    · omega
  exact if_neg hout

theorem execPtpAnnounce_mine {d : Nat} {rank : List Nat} {utc : Int} (hmine : ptpMine s p d) :
    execPtpAnnounce p d rank utc s = .next ((s.tmSet fun t =>
      if p = 1 then { t with masterA := some { rank := rank, utc := utc } }
      else { t with masterB := some { rank := rank, utc := utc } }).selectPort) := by
  have htaken : ¬(!ptpMine s p d) = true := by simp [hmine]
  rw [execPtpAnnounce, if_neg htaken]

/-- R76: SYNC_MODE 0x01 takes the rising edges, 0x02 the falling ones. -/
theorem execSyncEdge_of_mode {rising : Bool} {at0 : Nat} (hact : s.activeHead)
    (hmode : s.og Obj.syncMode = if rising then 1 else 2) :
    execSyncEdge rising at0 s = .next (s.syncEdge at0) := by
  have hedge : s.activeHead ∧ ((s.og Obj.syncMode = 1 ∧ rising) ∨ (s.og Obj.syncMode = 2 ∧ !rising)) := by
    cases rising <;> simpa [hact] using hmode
  exact if_pos hedge

/-- Table 02-7: an expected boundary without an edge is counted, and at SYNC_MISS_LIMIT the correction ends. -/
theorem execSyncMiss_track (hact : s.activeHead) (htrack : s.tm.sync = .track) :
    execSyncMiss s = if s.og Obj.syncMissLimit ≤ s.tm.syncMiss + 1 then
        .next ((s.tmSet fun t => { t with syncMiss := s.tm.syncMiss + 1 }).dropCorr.setSync .free)
      else .next (s.tmSet fun t => { t with syncMiss := s.tm.syncMiss + 1 }) := by
  have hready : ¬((!s.activeHead) = true ∨ s.tm.sync ≠ .track) := by simp [hact, htrack]
  rw [execSyncMiss, if_neg hready]

/-- R78: SYNC_MODE 0x01 and 0x02 start acquisition from OFF. -/
theorem applySyncMode_of_off {v : Nat} (hv : v = 1 ∨ v = 2) (hoff : s.tm.sync = .off) : applySyncMode v s =
    .ok (((s.oset Obj.syncMode v).tmSet fun t => { t with syncMiss := 0 }).setSync .acquire) := by
  have hrange : ¬2 < v := by omega
  have hon : ¬v = 0 := by omega
  simp only [applySyncMode, if_neg hrange, if_neg hon]
  exact if_pos hoff

/-- R78: SYNC_CMD 0x01 acquires again from TRACK and from FREE. -/
theorem applySyncCmd_reacquire (hsync : s.tm.sync = .track ∨ s.tm.sync = .free) : applySyncCmd 1 s =
    .ok ((s.tmSet fun t => { t with syncMiss := 0 }).setSync .acquire) :=
  if_pos hsync

/-- Settles O32: frames by what their reception hands on, writes by what the object's handler answers, the rest by the
states the rules name. -/
theorem timeCommandsComplete : Obligations.TimeCommandsComplete := by
  intro s
  refine ⟨?probeRing, ?probeLink, ?timeCell, ?timeUnderstudy, ?acquireLost, ?lockedLost, ?holdover, ?reAnchor,
    ?reAnchorSafe, ?reAnchorUnsafe, ?sync, ?syncOther, ?announceA, ?announceB, ?masterLost, ?pdelay, ?tb1, ?tb3, ?rising,
    ?falling, ?miss, ?missLimit, ?modeOff, ?modeOn, ?reacquire⟩
  case probeRing =>
    intro p lane f e at0 r hp hrec hlen
    exact execProbeFrame_ring hp hrec hlen
  case probeLink =>
    intro p lane f e at0 r hp hrec hlen
    exact execProbeFrame_link hp hrec hlen
  case timeCell =>
    intro p lane f e at0 r hp hrec hcell hlen
    exact execTimeFrame_cell hp hrec hcell hlen
  case timeUnderstudy =>
    intro lane f e at0 r hrec hunder hlen
    exact execTimeFrame_understudy hrec hunder hlen
  case acquireLost =>
    intro hwork hact hmiss hstate
    exact execTimeFrameTimeout_acquire hwork hact hmiss hstate
  case lockedLost =>
    intro hwork hact hmiss hstate
    exact execTimeFrameTimeout_locked hwork hact hmiss hstate
  case holdover =>
    intro hwork hstate hlimit
    exact if_pos ⟨hwork, hstate, hlimit⟩
  case reAnchor =>
    intro acc v t hok
    exact takes_of_handler_ok rfl hok
  case reAnchorSafe =>
    intro p f e r hrec hcell haddr hsafe
    refine (execReAnchorFrame_received hrec hcell haddr).trans ?_
    rw [if_pos hsafe]
  case reAnchorUnsafe =>
    intro p f e r hrec hcell haddr hunsafe
    refine (execReAnchorFrame_received hrec hcell haddr).trans ?_
    rw [hunsafe, if_neg Bool.false_ne_true]
  case sync =>
    intro p d i m hmine hport hlo hhi
    exact if_pos ⟨hmine, hport, hlo, hhi⟩
  case syncOther =>
    intro p d i m hnot
    exact execPtpSync_not_mine hnot
  case announceA =>
    intro d rank utc hmine
    exact execPtpAnnounce_mine hmine
  case announceB =>
    intro d rank utc hmine
    exact execPtpAnnounce_mine hmine
  case masterLost =>
    intro p hon hport
    exact if_pos ⟨hon, hport⟩
  case pdelay =>
    intro p d f hmine
    exact if_pos hmine
  case tb1 =>
    intro acc
    exact takes_of_handler_ok rfl rfl
  case tb3 =>
    intro acc v
    exact takes_of_handler_ok rfl rfl
  case rising =>
    intro at0 hact hmode
    exact execSyncEdge_of_mode hact hmode
  case falling =>
    intro at0 hact hmode
    exact execSyncEdge_of_mode hact hmode
  case miss =>
    intro hact htrack hbelow
    exact (execSyncMiss_track hact htrack).trans (if_neg (Nat.not_le.2 hbelow))
  case missLimit =>
    intro hact htrack hlimit
    exact (execSyncMiss_track hact htrack).trans (if_pos hlimit)
  case modeOff =>
    intro acc
    exact takes_of_handler_ok rfl rfl
  case modeOn =>
    intro acc v hv hoff
    exact takes_of_handler_ok rfl (applySyncMode_of_off hv hoff)
  case reacquire =>
    intro acc hsync
    exact takes_of_handler_ok rfl (applySyncCmd_reacquire hsync)

end Sys2Proof.CueTime
end

section
/-! PROOFS. Time events and edge queues (02 R79 to R81). -/

namespace Sys2Proof.CueTime
open Sys2Proof.Machine Sys2Proof.Machine.State Sys2Proof.Rules

variable {s : State}

theorem execTevtFire_armed {n : Fin 8} (hwork : s.working) (harm : s.og (Obj.tevtArm n.val) = 1)
    (hlo : 1 ≤ s.og (Obj.tevtMode n.val)) (hhi : s.og (Obj.tevtMode n.val) ≤ 3) (hdone : (s.tevt n.val).done = false) :
    execTevtFire n s = .next ((s.tevtWait n.val).tevtFire n.val) := by
  have hmode : s.og (Obj.tevtMode n.val) ≠ 0 := by omega
  have hwaits : (!(s.tevt n.val).done) = true := by simp [hdone]
  exact if_pos ⟨hwork, harm, hmode, hhi, hwaits⟩

/-- R80: arming clears STATUS; an event whose instant has already passed will set LATE. -/
theorem applyTevtArm_arms {n : Nat} {u : State} (hlo : 1 ≤ s.og (Obj.tevtMode n)) (hhi : s.og (Obj.tevtMode n) ≤ 3)
    (hu : u = (s.oset (Obj.tevtArm n) 1).oset (Obj.tevtStatus n) 0) :
    applyTevtArm n 1 s = .ok (u.setTevt n { late := u.tevtDue n, stepped := false, done := false }) := by
  simp only [applyTevtArm, Nat.lt_irrefl, Nat.one_ne_zero, if_false, ← hu, hlo, hhi, decide_true, Bool.true_and]

theorem tb3After_edges (t : TimeBlock) (rate : Int) (u : Nat) : (tb3After t rate u).edges0 = t.edges0 ∧
    (tb3After t rate u).edges1 = t.edges1 ∧ (tb3After t rate u).edges2 = t.edges2 := by
  unfold tb3After
  cases t.tb3Step with
  | none => exact ⟨rfl, rfl, rfl⟩
  | some v => dsimp only; split <;> exact ⟨rfl, rfl, rfl⟩

theorem edges_elapse (s : State) (u i : Nat) : (s.elapse u).edges i = s.edges i := by
  obtain ⟨h0, h1, h2⟩ := tb3After_edges s.tm (s.oi 32 Obj.tb3Rate) u
  cases href : s.pw.refGood <;> simp [edges, elapse, elapseTm, href, h0, h1, h2]

/-- R81: an edge is recorded at its own instant. -/
theorem execCaptureEdge_working {i : Fin 3} {falling : Bool} {u : Nat} (hwork : s.working) :
    execCaptureEdge i falling u s = .next ((s.elapse u).captureEdge i.val falling) :=
  if_pos hwork

/-- R81: an edge that finds the queue full is dropped with OVERRUN. -/
theorem captureEdge_full {i : Nat} {falling : Bool} (hsel : hasBit (s.og (Obj.edgeSel i)) (b2n falling))
    (hfull : 4 ≤ (s.edges i).length) :
    s.captureEdge i falling = (s.oset (Obj.edgeOverrun i) 1).irqPost 2 (3 + i) := by
  have hselected : ¬(!hasBit (s.og (Obj.edgeSel i)) (b2n falling)) = true := by simp [hsel]
  rw [captureEdge, if_neg hselected, if_pos hfull]

theorem answer_edges (a : Accessor) (k code : Nat) (w : Bool) (s : State) (i : Nat) :
    (s.answer a k code w).edges i = s.edges i := by
  unfold edges
  rw [answer_tm]

/-- R81: a read of ENTRY answers the oldest entry and removes it. -/
theorem execEntryRead_oldest {acc : Accessor} {i : Fin 3} {e : EdgeEntry} {es : List EdgeEntry}
    (hserves : Serves s acc (Obj.edgeEntry i.val)) (hqueue : s.edges i.val = e :: es) :
    execEntryRead acc i s = .next (((s.answer acc (Obj.edgeEntry i.val) 0 false).setEdges i.val es).emit
      (.data acc (Obj.edgeEntry i.val) (entryBytes e).length (entryBytes e))) := by
  simp only [execEntryRead, guardedRead_of_serves hserves, answer_edges, hqueue, List.drop_succ_cons, List.drop_zero]

/-- Settles O33: time events in the states the rules name, edges by the queue they find. -/
theorem timeEventCommandsComplete : Obligations.TimeEventCommandsComplete := by
  intro s
  refine ⟨?fire, ?disarm, ?arm, ?edge, ?overrun, ?entry⟩
  case fire =>
    intro n hwork harm hlo hhi hdone
    exact execTevtFire_armed hwork harm hlo hhi hdone
  case disarm =>
    intro acc n
    exact takes_of_handler_ok rfl rfl
  case arm =>
    intro acc n u hlo hhi hu
    exact takes_of_handler_ok rfl (applyTevtArm_arms hlo hhi hu)
  case edge =>
    intro i f n hwork
    exact execCaptureEdge_working hwork
  case overrun =>
    intro i f n hwork hsel hfull
    refine (execCaptureEdge_working hwork).trans (congrArg Host.Outcome.next (captureEdge_full hsel ?_))
    rw [edges_elapse]
    exact hfull
  case entry =>
    intro acc i e es hserves hqueue
    exact ⟨_, execEntryRead_oldest hserves hqueue, rfl⟩

end Sys2Proof.CueTime
end

section
/-! PROOFS. The bytes of a built frame: little-endian fields, the check fields and what reception reads of them (03 R83,
R97). -/

namespace Sys2Proof.CellRings
open Sys2Proof.Machine Sys2Proof.Machine.State

/-! ### Little-endian fields -/

/-- R83: a multi-byte field is sent least significant byte first, so its bytes give its value back. -/
theorem leNat_leBytes {n v : Nat} (hv : v < 2 ^ (8 * n)) : leNat (leBytes n v) = v := by
  induction n generalizing v with
  | zero => exact (Nat.lt_one_iff.1 hv).symm
  | succ n ih =>
    have hrest : v / 256 < 2 ^ (8 * n) := by
      rw [Nat.mul_succ, Nat.pow_add] at hv
      exact Nat.div_lt_of_lt_mul (by omega)
    simp only [leBytes, leNat, ih hrest, BitVec.toNat_ofNat]
    omega

theorem slice_append_of_length_le {a b : Bytes} {off n : Nat} (h : a.length ≤ off) :
    slice (a ++ b) off n = slice b (off - a.length) n := by
  simp [slice, List.drop_append, List.drop_eq_nil_of_le h]

theorem rd_append_of_length_le {a b : Bytes} {off n : Nat} (h : a.length ≤ off) :
    rd (a ++ b) off n = rd b (off - a.length) n :=
  congrArg leNat (slice_append_of_length_le h)

theorem rd_leBytes_append {n v : Nat} (b : Bytes) (hv : v < 2 ^ (8 * n)) : rd (leBytes n v ++ b) 0 n = v := by
  rw [rd, slice, List.drop_zero, List.take_left' (leBytes_length n v), leNat_leBytes hv]

/-- A read beyond a leading field is a read of what follows the field. -/
theorem rd_leBytes_append_of_le {m w off n : Nat} (b : Bytes) (h : m ≤ off) :
    rd (leBytes m w ++ b) off n = rd b (off - m) n := by
  rw [rd_append_of_length_le (by rwa [leBytes_length]), leBytes_length]

/-! ### A CRC-32 fits its four bytes -/

theorem crcRefBit_lt {poly c : Nat} (hpoly : poly < 2 ^ 32) (hc : c < 2 ^ 32) : crcRefBit poly c < 2 ^ 32 := by
  have hhalf : c / 2 < 2 ^ 32 := by omega
  unfold crcRefBit
  split
  · exact Nat.xor_lt_two_pow hhalf hpoly
  · exact hhalf

theorem crcRefByte_lt {poly c : Nat} (hpoly : poly < 2 ^ 32) (hc : c < 2 ^ 32) (b : Byte) :
    crcRefByte poly c b < 2 ^ 32 :=
  have hstart : c ^^^ b.toNat < 2 ^ 32 := Nat.xor_lt_two_pow hc (by omega)
  List.foldlRecOn _ _ (motive := (· < 2 ^ 32)) hstart fun _ h _ _ => crcRefBit_lt hpoly h

theorem crc32_lt (b : Bytes) : crc32 b < 2 ^ 32 :=
  Nat.xor_lt_two_pow
    (List.foldlRecOn _ _ (motive := (· < 2 ^ 32)) (by decide) fun _ h c _ => crcRefByte_lt (by decide) h c)
    (by decide)

/-! ### The parts of a frame -/

/-- Bytes 0 to 15 of a frame: the header of Table 03-5 up to its HCRC. -/
def headBytes (h : Hdr) : Bytes :=
  leBytes 1 h.ty ++ leBytes 1 h.flags ++ leBytes 2 h.dst ++ leBytes 2 h.src ++ leBytes 2 h.seq ++
    leBytes 2 h.len ++ leBytes 2 h.aux ++ leBytes 4 h.cue

/-- What follows the header: payload and FCRC, both present only when LEN is not 0 (R97). -/
def bodyBytes (pl : Bytes) : Bytes := if pl.isEmpty then [] else pl ++ leBytes 4 (crc32 pl)

/-- Each field of the header fits the bytes that Table 03-5 gives it. -/
structure HdrFits (h : Hdr) : Prop where
  ty : h.ty < 2 ^ (8 * 1)
  flags : h.flags < 2 ^ (8 * 1)
  dst : h.dst < 2 ^ (8 * 2)
  src : h.src < 2 ^ (8 * 2)
  seq : h.seq < 2 ^ (8 * 2)
  len : h.len < 2 ^ (8 * 2)
  aux : h.aux < 2 ^ (8 * 2)
  cue : h.cue < 2 ^ (8 * 4)

/-- A frame laid out from its header: bytes 0 to 15, HCRC, and what follows. -/
def sealedFrame (h : Hdr) (pl : Bytes) : Bytes :=
  headBytes h ++ (leBytes 4 (crc32 (headBytes h)) ++ bodyBytes pl)

theorem mkFrame_eq_sealedFrame (ty flags dst src seq aux cue : Nat) (pl : Bytes) :
    mkFrame ty flags dst src seq aux cue pl = sealedFrame ⟨ty, flags, dst, src, seq, pl.length, aux, cue⟩ pl :=
  List.append_assoc ..

@[simp] theorem headBytes_length (h : Hdr) : (headBytes h).length = 16 := by
  simp [headBytes, leBytes_length]

theorem bodyBytes_cons (b : Byte) (t : Bytes) : bodyBytes (b :: t) = (b :: t) ++ leBytes 4 (crc32 (b :: t)) := rfl

theorem bodyBytes_length (pl : Bytes) :
    (bodyBytes pl).length = if pl.length = 0 then 0 else pl.length + 4 := by
  cases pl <;> simp [bodyBytes, leBytes_length]

/-- Reception reads back the header that was laid out, whatever follows it. -/
theorem hdr_read_headBytes {h : Hdr} (hfit : HdrFits h) (t : Bytes) : Hdr.read (headBytes h ++ t) = h := by
  simp only [Hdr.read, headBytes, List.append_assoc, rd_leBytes_append_of_le, Nat.reduceLeDiff, Nat.reduceSub,
    rd_leBytes_append _ hfit.ty, rd_leBytes_append _ hfit.flags, rd_leBytes_append _ hfit.dst,
    rd_leBytes_append _ hfit.src, rd_leBytes_append _ hfit.seq, rd_leBytes_append _ hfit.len,
    rd_leBytes_append _ hfit.aux, rd_leBytes_append _ hfit.cue]

/-! ### What reception reads of a frame -/

section
variable {h : Hdr} {pl : Bytes}

theorem sealedFrame_length (h : Hdr) (pl : Bytes) :
    (sealedFrame h pl).length = 20 + (if pl.length = 0 then 0 else pl.length + 4) := by
  simp only [sealedFrame, List.length_append, headBytes_length, leBytes_length, bodyBytes_length]
  omega

/-- Past the 20 bytes of the header stands the body. -/
theorem slice_sealedFrame_body (h : Hdr) (pl : Bytes) (off n : Nat) :
    slice (sealedFrame h pl) (20 + off) n = slice (bodyBytes pl) off n := by
  have hhead : (headBytes h ++ leBytes 4 (crc32 (headBytes h))).length = 20 := by simp [leBytes_length]
  rw [sealedFrame, ← List.append_assoc, slice_append_of_length_le (by omega), hhead, Nat.add_sub_cancel_left]

theorem rd_sealedFrame_len (hfit : HdrFits h) (hlen : h.len = pl.length) : rd (sealedFrame h pl) 8 2 = pl.length :=
  (congrArg Hdr.len (hdr_read_headBytes hfit _)).trans hlen

theorem hcrcOk_sealedFrame (h : Hdr) (pl : Bytes) : hcrcOk (sealedFrame h pl) = true := by
  have hlong : 20 ≤ (sealedFrame h pl).length := by rw [sealedFrame_length]; omega
  have htake : (sealedFrame h pl).take 16 = headBytes h := List.take_left' (headBytes_length h)
  have hread : rd (sealedFrame h pl) 16 4 = crc32 (headBytes h) := by
    rw [sealedFrame, rd_append_of_length_le (headBytes_length h).le, headBytes_length]
    exact rd_leBytes_append _ (crc32_lt _)
  simp [hcrcOk, hlong, htake, hread]

theorem payload_sealedFrame (hfit : HdrFits h) (hlen : h.len = pl.length) : payload (sealedFrame h pl) = pl := by
  rw [payload, rd_sealedFrame_len hfit hlen, slice_sealedFrame_body h pl 0]
  cases pl with
  | nil => rfl
  | cons b t => rw [bodyBytes_cons, slice, List.drop_zero, List.take_left]

theorem lenOk_sealedFrame (hfit : HdrFits h) (hlen : h.len = pl.length)
    (hmax : pl.length ≤ if h.ty = 0x10 then 1548 else 1024) : lenOk (sealedFrame h pl) = true := by
  have hty : rd (sealedFrame h pl) 0 1 = h.ty := congrArg Hdr.ty (hdr_read_headBytes hfit _)
  simp only [lenOk, hty, rd_sealedFrame_len hfit hlen, sealedFrame_length, beq_self_eq_true, Bool.and_true]
  split at hmax <;> simp [*]

theorem fcrcOk_sealedFrame (hfit : HdrFits h) (hlen : h.len = pl.length) : fcrcOk (sealedFrame h pl) = true := by
  rw [fcrcOk, rd_sealedFrame_len hfit hlen, payload_sealedFrame hfit hlen]
  cases pl with
  | nil => rfl
  | cons b t =>
    have hread : rd (sealedFrame h (b :: t)) (20 + (b :: t).length) 4 = crc32 (b :: t) := by
      rw [rd, slice_sealedFrame_body, bodyBytes_cons, slice, List.drop_left,
        List.take_of_length_le (leBytes_length 4 _).le, leNat_leBytes (crc32_lt _)]
    rw [hread, beq_self_eq_true, Bool.or_true]

end

/-- Settles O24: the frame is laid out field by field, every field below the width it is read with; R97's limits on LEN
keep it below its two bytes. -/
theorem framesReadBack : Obligations.FramesReadBack := by
  rintro ty flags dst src seq aux cue pl _ hty hflags hdst hsrc hseq haux hcue hmax rfl
  have hfit : HdrFits ⟨ty, flags, dst, src, seq, pl.length, aux, cue⟩ :=
    ⟨hty, hflags, hdst, hsrc, hseq, by dsimp only; split at hmax <;> omega, haux, hcue⟩
  rw [mkFrame_eq_sealedFrame]
  exact ⟨hdr_read_headBytes hfit _, payload_sealedFrame hfit rfl, hcrcOk_sealedFrame _ pl,
    lenOk_sealedFrame hfit rfl hmax, fcrcOk_sealedFrame hfit rfl⟩

end Sys2Proof.CellRings
end

section
/-! PROOFS. The pair: CURTAIN sets of the cross-links, relay, snapshots, health, takeover and handover (04 R132 to R137,
13 R354, 14 R393 to R403). -/

namespace Sys2Proof.CrossLinks
open Sys2Proof.Machine Sys2Proof.Machine.State Sys2Proof.Rules

variable {s : State} {lane : Nat} {set : Bytes}

/-- A HEAD at work takes the CURTAIN sets of a link that is up. -/
theorem not_link_closed {l : Nat} (hon : s.headOn) (hup : s.xlUp l) : ¬((!s.headOn) = true ∨ (!s.xlUp l) = true) := by
  simp [hon, hup]

/-- R132: an UNDERSTUDY sends /C/ on every ring port of the set's mask. -/
theorem execCurtainSetXl0_understudy (hon : s.headOn) (hup : s.xlUp 0) (hunder : s.understudy) :
    execCurtainSetXl0 lane set s = .next
      ((List.range 12).foldl (fun t p => if hasBit (s.repeatCs.curtSet 0 lane set).1 p then t.sendC p else t)
        (s.repeatCs.curtSet 0 lane set).2) := by
  simp only [execCurtainSetXl0, if_neg (not_link_closed hon hup), if_pos hunder]

/-- R354: a set on XL1 or XL2 demands PEER_GROUPS. -/
theorem execCurtainSetPeer_up {l : Fin 2} (n : Nat) (hon : s.headOn) (hup : s.xlUp (l.val + 1)) :
    execCurtainSetPeer l lane set n s = .next
      (((s.curtSet (l.val + 1) lane set).2.safSet fun w => { w with peer := setBit w.peer (l.val + 1) }).safUpdate n) := by
  simp only [execCurtainSetPeer, if_neg (not_link_closed hon hup)]

section
variable (hunder : s.understudy) (hrun : s.og Obj.lossCues ≤ s.pair.lossRun) (huntold : s.pair.lossTold = false)
include hunder hrun huntold

/-- The loss test has held for LOSS_CUES CUEs and has not been acted on yet (R399, R400). -/
theorem not_loss_dismissed : ¬((!s.understudy) = true ∨ s.pair.lossRun < s.og Obj.lossCues ∨ s.pair.lossTold = true) := by
  simp [hunder, huntold, Nat.not_lt.2 hrun]

/-- R400: an UNDERSTUDY that is fit takes over. -/
theorem lossActs_fit (hfit : s.unfitReasons = 0) :
    s.lossActs = (s.takeover s.tm.cue).takeoverNote 0 0 s.tm.cue := by
  simp only [lossActs, if_neg (not_loss_dismissed hunder hrun huntold), hfit, true_or, if_true]

/-- R400: an UNDERSTUDY that is unfit, and is not to take over unfit, only notes the loss. -/
theorem lossActs_unfit (hunfit : s.unfitReasons ≠ 0) (hstays : s.og Obj.takeoverUnfit ≠ 1) :
    s.lossActs = (s.takeoverNote 1 s.unfitReasons s.tm.cue).pairSet fun w => { w with lossTold := true } := by
  simp only [lossActs, if_neg (not_loss_dismissed hunder hrun huntold), hunfit, hstays, or_self, if_false]

end

/-- R403: TAKEOVER_CMD 0x01 begins a handover where the partner's verdict is not UNFIT (0x02 of Table 14-7). -/
theorem applyTakeover_ok (hact : s.activeHead) (hpartner : rd s.pair.health 4 1 ≠ 2) :
    applyTakeover 1 s = .ok { s with pair := { s.pair with handover := true } } := by
  have hrefused : ¬((!s.activeHead) = true ∨ rd s.pair.health 4 1 = 2) := by simp [hact, hpartner]
  rw [applyTakeover, if_neg (not_not_intro rfl), if_neg hrefused]

/-- Settles O37: frames by what their reception hands on, CURTAIN sets by the link they arrive on, the loss of the active
HEAD by the fitness of the UNDERSTUDY. -/
theorem pairCommandsComplete : Obligations.PairCommandsComplete := by
  intro s
  refine ⟨?curtainXl0, ?curtainPeer, ?relDn, ?relUp, ?relRep, ?snapFast, ?snapSlow, ?snapLost, ?snapWhole, ?health,
    ?healthMissed, ?lossFit, ?lossUnfit, ?handover⟩
  case curtainXl0 =>
    intro lane set hon hup hunder
    exact execCurtainSetXl0_understudy hon hup hunder
  case curtainPeer =>
    intro l lane set n hon hup
    exact execCurtainSetPeer_up n hon hup
  case relDn =>
    intro lane f e n r hrec
    exact congrArg Host.Outcome.next (rxXlTyped_of_xlReceived hrec _)
  case relUp =>
    intro lane f e cells n r hrec
    exact congrArg Host.Outcome.next (rxXlTyped_of_xlReceived hrec _)
  case relRep =>
    intro lane f e r hrec hact
    exact congrArg Host.Outcome.next ((rxXlTyped_of_xlReceived hrec _).trans (if_pos hact))
  case snapFast =>
    intro lane f e r hrec
    exact congrArg Host.Outcome.next (rxXlTyped_of_xlReceived hrec _)
  case snapSlow =>
    intro lane f e r hrec
    exact congrArg Host.Outcome.next (rxXlTyped_of_xlReceived hrec _)
  case snapLost =>
    intro hlate
    exact congrArg Host.Outcome.next (if_pos hlate)
  case snapWhole =>
    intro hwhole
    exact congrArg Host.Outcome.next (if_neg (ne_true_of_eq_false hwhole))
  case health =>
    intro lane f e r hrec hact hlen
    exact congrArg Host.Outcome.next ((rxXlTyped_of_xlReceived hrec _).trans (if_pos ⟨hact, hlen⟩))
  case healthMissed =>
    intro hact hpair hmiss
    exact if_pos ⟨hact, hpair, hmiss⟩
  case lossFit =>
    intro hunder hrun huntold hfit
    exact congrArg Host.Outcome.next (lossActs_fit hunder hrun huntold hfit)
  case lossUnfit =>
    intro hunder hrun huntold hunfit hstays
    exact congrArg Host.Outcome.next (lossActs_unfit hunder hrun huntold hunfit hstays)
  case handover =>
    intro acc hact hpartner
    exact takes_of_handler_ok rfl (applyTakeover_ok hact hpartner)

end Sys2Proof.CrossLinks
end

section
/-! PROOFS. The rule of a refused write, the mirror queue full or not, beside those of Rules for taken writes. -/

namespace Sys2Proof.Rules
open Sys2Proof.Machine Sys2Proof.Machine.State

/-- The object's own tests come before the mirror queue's (R394): a full queue does not change their answer. -/
theorem refuses_of_handler_error {s : State} {acc : Accessor} {k v code : Nat} {c : Instr}
    {g : Nat → State → Except Nat State} (hexec : exec c s = .next (s.guardedValue acc k v g))
    (hg : g v s = .error code) : Refuses c s acc k v code := by
  intro hv hrun hpath htests
  have hpresented : ¬(!s.running || !s.accPresent acc) = true := by simp [hrun, hpath]
  rw [hexec, guardedValue, Nat.mod_eq_of_lt hv]
  simp only [guardedWrite, if_neg hpresented, leBytes_length, htests, hg]

end Sys2Proof.Rules
end

section
/-! PROOFS. The writes of modulation and SIEVE: MOD_MODE, SORT_CMD, KEY_GATE, ORDER_HOLD (05 R154, 06 R177, R178,
R184). -/

namespace Sys2Proof.ArmModulation
open Sys2Proof.Machine Sys2Proof.Machine.State Sys2Proof.Rules

variable {s : State} {a v : Nat}

theorem applyModMode_below_carrier (hv : v < 3) : applyModMode a v s = .ok (s.oset (Obj.modMode a) v) := by
  rw [applyModMode, if_neg hv.le.not_gt, if_neg fun h => hv.ne h.1]

/-- R154: carrier mode is taken while the carriers of the arm serve its available cells. -/
theorem applyModMode_carrier (hnav : (s.armMod a).nav ≤ 31 * cpcOf (s.og (Obj.carRatio a))) :
    applyModMode a 3 s = .ok (s.oset (Obj.modMode a) 3) := by
  rw [applyModMode, if_neg (Nat.lt_irrefl 3), if_neg fun h => hnav.not_gt h.2]

/-- R154: carrier mode is refused while N_av lies above 31 × CPC. -/
theorem applyModMode_carrier_refused (hnav : 31 * cpcOf (s.og (Obj.carRatio a)) < (s.armMod a).nav) :
    applyModMode a 3 s = .error 6 := by
  rw [applyModMode, if_neg (Nat.lt_irrefl 3), if_pos ⟨rfl, hnav⟩]

/-- R177: closing the gate keeps the weights in effect. -/
theorem applyKeyGate_close (hopen : s.og (Obj.keyGate a) = 0) : applyKeyGate a 1 s =
    .ok ((s.setArmMod a { s.armMod a with keyHeld := s.svWritten a }).oset (Obj.keyGate a) 1) := by
  rw [applyKeyGate, if_neg (Nat.lt_irrefl 1), if_pos ⟨rfl, hopen⟩]

/-- R184: the release of ORDER_HOLD adds its own condition of a full re-sort. -/
theorem applyOrderHold_release (hheld : s.og (Obj.orderHold a) = 1) : applyOrderHold a 0 s =
    .ok ((s.setArmMod a { s.armMod a with holdRel := true }).oset (Obj.orderHold a) 0) := by
  rw [applyOrderHold, if_neg (Nat.not_lt_zero 1), if_pos ⟨rfl, hheld⟩]

/-- Settles O34: each write by what its object's handler answers; MOD_MODE 0x03 on either side of 31 × CPC. -/
theorem modulationCommandsComplete : Obligations.ModulationCommandsComplete := by
  intro s
  refine ⟨?belowCarrier, ?carrier, ?carrierRefused, ?sort, ?gateOpen, ?gateClose, ?hold, ?release⟩
  case belowCarrier =>
    intro acc a v hv
    exact takes_of_handler_ok rfl (applyModMode_below_carrier hv)
  case carrier =>
    intro acc a hnav
    exact takes_of_handler_ok rfl (applyModMode_carrier hnav)
  case carrierRefused =>
    intro acc a hnav
    exact refuses_of_handler_error rfl (applyModMode_carrier_refused hnav)
  case sort =>
    intro acc a
    exact takes_of_handler_ok rfl rfl
  case gateOpen =>
    intro acc a
    exact takes_of_handler_ok rfl rfl
  case gateClose =>
    intro acc a hopen
    exact takes_of_handler_ok rfl (applyKeyGate_close hopen)
  case hold =>
    intro acc a
    exact takes_of_handler_ok rfl rfl
  case release =>
    intro acc a hheld
    exact takes_of_handler_ok rfl (applyOrderHold_release hheld)

end Sys2Proof.ArmModulation
end

section
/-! PROOFS. The rule of a cleared bit, and what the release of a fault source leaves unchanged. -/

namespace Sys2Proof.Rules
open Sys2Proof.Machine Sys2Proof.Machine.State Sys2Proof.Laws Sys2Proof.Scope

theorem hasBit_eq_testBit (n i : Nat) : hasBit n i = n.testBit i := by
  rw [hasBit, bitN, Nat.testBit_eq_decide_div_mod_eq, beq_eq_decide]

/-- Taking a set bit away borrows from no bit above it. -/
theorem sub_two_pow_div {n i : Nat} (hset : n / 2 ^ i % 2 = 1) : (n - 2 ^ i) / 2 ^ (i + 1) = n / 2 ^ (i + 1) := by
  have hless : (n - 2 ^ i) / 2 ^ i = n / 2 ^ i - 1 := by simpa using Nat.sub_mul_div n (2 ^ i) 1
  rw [Nat.pow_succ, ← Nat.div_div_eq_div_mul, ← Nat.div_div_eq_div_mul, hless]
  generalize n / 2 ^ i = q at hset ⊢
  omega

theorem testBit_sub_two_pow {n i : Nat} (hset : n.testBit i = true) (j : Nat) :
    (n - 2 ^ i).testBit j = (n.testBit j && j != i) := by
  have hsplit : 2 ^ i + (n - 2 ^ i) = n := Nat.add_sub_cancel' (Nat.ge_two_pow_of_testBit hset)
  rcases lt_trichotomy j i with hlt | rfl | hgt
  · have hbelow := Nat.testBit_two_pow_add_gt hlt (n - 2 ^ i)
    rw [hsplit] at hbelow
    simp [hbelow, hlt.ne]
  · have hsame := Nat.testBit_two_pow_add_eq (n - 2 ^ j) j
    rw [hsplit, hset] at hsame
    simpa using hsame.symm
  · obtain ⟨k, rfl⟩ := Nat.exists_eq_add_of_lt hgt
    have habove := sub_two_pow_div (n := n) (i := i) (by simpa [Nat.testBit_eq_decide_div_mod_eq] using hset)
    have hshift : i + k + 1 = k + (i + 1) := by omega
    rw [hshift, ← Nat.testBit_div_two_pow, ← Nat.testBit_div_two_pow, habove, bne_iff_ne.2 (by omega), Bool.and_true]

/-- A cleared bit is gone, every other bit stays. -/
theorem hasBit_clrBit (n i j : Nat) : hasBit (clrBit n i) j = (hasBit n j && j != i) := by
  unfold clrBit
  split
  case isTrue hset =>
    rw [hasBit_eq_testBit] at hset
    simpa only [hasBit_eq_testBit] using testBit_sub_two_pow hset j
  case isFalse hclear =>
    by_cases hji : j = i
    · simp [hji, hclear]
    · simp [hji]

/-- The release of a fault source's pin changes the fault collector alone. -/
theorem release_keeps (src inst : Nat) (s : State) : Keep (Among [.flt]) s (s.release src inst) := by
  have lhead := lets_among_head
  exact keep_State_release (keep_refl _ s)

theorem release_pwm (src inst : Nat) (s : State) : (s.release src inst).pwm = s.pwm :=
  (release_keeps src inst s).rest .pwm (mt lets_among_iff.1 (by decide))

theorem release_objs (src inst : Nat) (s : State) : (s.release src inst).objs = s.objs :=
  (release_keeps src inst s).rest .objs (mt lets_among_iff.1 (by decide))

end Sys2Proof.Rules
end

section
/-! PROOFS. The clear of latched trips (07 R206). -/

namespace Sys2Proof.CellSwitching
open Sys2Proof.Machine Sys2Proof.Machine.State Sys2Proof.Rules

/-- What a clear does for one trip: `tripClear` does it for each in turn. -/
def tripClearOne (mask : Nat) (s : State) (i : Nat) : State :=
  if hasBit mask i ∧ hasBit s.pwm.tripLatch i ∧ !hasBit s.pwm.tripLvl i then
    (s.pwmSet fun w => { w with tripLatch := clrBit s.pwm.tripLatch i }).release (17 + i) 0
  else s

theorem tripClear_eq_foldl (mask : Nat) (s : State) :
    s.tripClear mask = (List.range 6).foldl (tripClearOne mask) s := rfl

variable (mask : Nat) (s : State)

theorem tripClearOne_lvl (i : Nat) : (tripClearOne mask s i).pwm.tripLvl = s.pwm.tripLvl := by
  unfold tripClearOne
  split
  · rw [release_pwm]
    rfl
  · rfl

theorem tripClearOne_objs (i : Nat) : (tripClearOne mask s i).objs = s.objs := by
  unfold tripClearOne
  split
  · rw [release_objs]
    rfl
  · rfl

theorem tripClearOne_latch (i j : Nat) : hasBit (tripClearOne mask s i).pwm.tripLatch j =
    (hasBit s.pwm.tripLatch j && !(j == i && hasBit mask i && !hasBit s.pwm.tripLvl i)) := by
  unfold tripClearOne
  split
  case isTrue hclears =>
    obtain ⟨hmask, -, hlvl⟩ := hclears
    have hlatch : ((s.pwmSet fun w => { w with tripLatch := clrBit s.pwm.tripLatch i }).release (17 + i) 0).pwm.tripLatch
        = clrBit s.pwm.tripLatch i := by
      rw [release_pwm]
      rfl
    rw [hlatch, hasBit_clrBit, hmask, hlvl, Bool.and_true, Bool.and_true, bne]
  case isFalse hkeeps =>
    by_cases hji : j = i
    · subst hji
      cases hlatch : hasBit s.pwm.tripLatch j
      · rfl
      · simpa [hlatch, imp_iff_not_or] using hkeeps
    · simp [hji]

theorem tripClear_foldl_lvl (l : List Nat) : (l.foldl (tripClearOne mask) s).pwm.tripLvl = s.pwm.tripLvl := by
  induction l generalizing s with
  | nil => rfl
  | cons i l ih => exact (ih _).trans (tripClearOne_lvl mask s i)

theorem tripClear_foldl_objs (l : List Nat) : (l.foldl (tripClearOne mask) s).objs = s.objs := by
  induction l generalizing s with
  | nil => rfl
  | cons i l ih => exact (ih _).trans (tripClearOne_objs mask s i)

/-- A clear of one trip looks at no other trip, so the trips of a list are cleared each by its own bits. -/
theorem tripClear_foldl_latch (l : List Nat) (j : Nat) : hasBit (l.foldl (tripClearOne mask) s).pwm.tripLatch j =
    (hasBit s.pwm.tripLatch j && !(l.contains j && hasBit mask j && !hasBit s.pwm.tripLvl j)) := by
  induction l generalizing s with
  | nil => simp
  | cons i l ih =>
    rw [List.foldl_cons, ih, tripClearOne_latch, tripClearOne_lvl, List.contains_cons]
    by_cases hji : j = i
    · subst hji
      cases hasBit mask j <;> cases hasBit s.pwm.tripLvl j <;> simp
    · simp [beq_false_of_ne hji]

/-- Settles O23: a clear goes through the six trips in turn. -/
theorem tripsClearOnlyWhileInactive : Obligations.TripsClearOnlyWhileInactive := by
  intro s mask i hi
  have hlisted : (List.range 6).contains i = true := List.contains_iff_mem.2 (List.mem_range.2 hi)
  rw [tripClear_eq_foldl]
  refine ⟨?_, tripClear_foldl_lvl mask s _, tripClear_foldl_objs mask s _⟩
  rw [tripClear_foldl_latch, hlisted, Bool.true_and]

end Sys2Proof.CellSwitching
end

section
/-! PROOFS. The commands of the gates, the carrier, the trips and the bypass switch (07 R188 to R212). -/

namespace Sys2Proof.CellSwitching
open Sys2Proof.Machine Sys2Proof.Machine.State Sys2Proof.Rules

variable {s t u : State} {v : Nat}

theorem execEventEdge_due {e : Nat × Nat} {l : List (Nat × Nat)} (hon : s.cellOn) (htodo : s.pwm.todo = e :: l) :
    execEventEdge s = .next (gatesTo e.2 s) := by
  rw [execEventEdge, htodo]
  exact if_pos hon

/-- R195: the rise that waits least is driven. -/
theorem execDeadTimeEnd_waiting {x : Nat × Nat} {l : List (Nat × Nat)} (hwork : s.working)
    (hrises : s.pwm.rises = x :: l) :
    execDeadTimeEnd s = .next (gatesTo (l.foldl (fun m y => min m y.2) x.2) s) := by
  rw [execDeadTimeEnd, hrises]
  exact if_pos hwork

theorem not_not_working (hwork : s.working) : ¬(!s.working) = true := by simp [hwork]

theorem execDelayLineCal_in_trim (tap : Nat) (hwork : s.working) : execDelayLineCal tap true s =
    .next ((s.pwmSet fun w =>
      { w with calBad := 0, coarse := false, calPend := some (tap % 65536) }).calSettle.release 16 0) := by
  rw [execDelayLineCal, if_neg (not_not_working hwork)]
  rfl

theorem execDelayLineCal_first_bad (tap : Nat) (hwork : s.working) (hbad : s.pwm.calBad < 3) :
    execDelayLineCal tap false s = .next (s.pwmSet fun w => { w with calBad := s.pwm.calBad + 1 }) := by
  rw [execDelayLineCal, if_neg (not_not_working hwork), if_neg Bool.false_ne_true]
  exact if_pos (Nat.succ_lt_succ hbad)

/-- R198: the fourth measurement in a row outside the trim range sets COARSE and the delay-line fault. -/
theorem execDelayLineCal_fourth_bad (tap : Nat) (hwork : s.working) (hbad : 3 ≤ s.pwm.calBad) :
    execDelayLineCal tap false s = .next ((((s.pwmSet fun w => { w with calBad := s.pwm.calBad + 1, coarse := true }).evt
      (Blk.pwm + 4) 0x80).irqPost 8 5).raise 16 0) := by
  rw [execDelayLineCal, if_neg (not_not_working hwork), if_neg Bool.false_ne_true]
  exact if_neg (Nat.succ_le_succ hbad).not_gt

/-- A carrier with no boundary behind it has this one at the present instant. -/
theorem execCarrierBoundary_first {peak : Bool} (hon : s.cellOn) (hstage : s.hasStage) (hrun : s.bat.st = .run)
    (hmode : s.og Obj.carMode ≠ 0) (hpeak : peak = true → s.og Obj.carMode = 2) (hfirst : s.pwm.carAt = none) :
    execCarrierBoundary peak s = .next (((s.carBoundary peak).senseTest).calSettle) := by
  have hruns : ¬(!s.cellOn || !s.hasStage || !(s.bat.st == .ready || s.bat.st == .run) || s.og Obj.carMode == 0 ||
      (peak && s.og Obj.carMode != 2)) = true := by
    simpa [hon, hstage, hrun, hmode] using hpeak
  rw [execCarrierBoundary, if_neg hruns, hfirst]

theorem applyShPer_ok (hper : perOk s v) : applyShPer v s = .ok (s.shadowPer v) := if_pos hper

theorem cellReg_on (hon : s.cellOn) (f : State → State) : cellReg s f = f s := if_pos hon

theorem execShadowPerWrite_reg (p : Fin 3) (hon : s.cellOn) (hper : perOk s (v % 2 ^ 20)) :
    execShadowPerWrite (.reg p) v s = .next (s.shadowPer (v % 2 ^ 20)) := by
  rw [execShadowPerWrite, cellReg_on hon, if_pos hper]

/-- R223: the host's write of the duty goes into the shadow while the loop does not own it. -/
theorem seatDuty_of_host (hhost : s.loopOwns = false) : s.seatDuty v = s.shadowDuty (s.hostDuty v) :=
  if_neg (Bool.not_eq_true _ ▸ hhost)

/-- R203: while the loop owns the duty a host's write is an error. -/
theorem seatDuty_of_loop (hloop : s.loopOwns) : s.seatDuty v = s.ownErr := if_pos hloop

theorem execShadowDutyWrite_reg (p : Fin 3) (hon : s.cellOn) :
    execShadowDutyWrite (.reg p) v s = .next (s.seatDuty (v % 2 ^ 24)) :=
  congrArg Host.Outcome.next (cellReg_on hon _)

/-! ### Trips -/

/-- The count of samples of trip input `i` becomes `c`. -/
def setTripCount (i c : Nat) (s : State) : State := s.pwmSet fun w => { w with tripCnt := w.tripCnt.set i c }

section
variable {i n : Nat} {h : Bool}

/-- R204: samples against the filtered level, fewer in a row than TRIP_FLT, are counted. -/
theorem tripSamples_short (hn : n ≠ 0) (hdiffer : (h == (s.og (Obj.tripPol i) == 0)) ≠ hasBit s.pwm.tripLvl i)
    (hfew : s.pwm.tripCnt.getD i 0 + n < s.og (Obj.tripFlt i)) :
    s.tripSamples i h n = setTripCount i (s.pwm.tripCnt.getD i 0 + n) s := by
  rw [tripSamples, if_neg hn, if_neg hdiffer]
  exact if_pos hfew

/-- R204: after TRIP_FLT samples in a row against it the filtered level follows, and the count starts anew. -/
theorem tripSamples_enough (hn : n ≠ 0) (hdiffer : (h == (s.og (Obj.tripPol i) == 0)) ≠ hasBit s.pwm.tripLvl i)
    (henough : s.og (Obj.tripFlt i) ≤ s.pwm.tripCnt.getD i 0 + n) :
    s.tripSamples i h n = if h == (s.og (Obj.tripPol i) == 0) then (setTripCount i 0 s).tripOn i
      else (setTripCount i 0 s).pwmSet fun w => { w with tripLvl := clrBit w.tripLvl i } := by
  rw [tripSamples, if_neg hn, if_neg hdiffer]
  exact if_neg henough.not_gt

theorem execTripActive_working (hwork : s.working) (hi : i < 6) :
    execTripActive i h n s = .next (s.tripSamples i h n) := if_pos ⟨hwork, hi⟩

theorem execTripInactive_working (hwork : s.working) (hi : i < 6) :
    execTripInactive i h n s = .next (s.tripSamples i h n) := if_pos ⟨hwork, hi⟩

end

/-! ### Bypass -/

/-- R211: at the end of BYP_PULSE G6 falls, and what follows depends on the sense input. -/
theorem execBypassPulseEnd_pulse (hon : s.cellOn) (hpulse : s.pwm.bypSt = .pulse)
    (ht : t = s.loopTo2 (s.pwm.riseAt + s.og Obj.bypPulse)) (hu : u = t.drive 6 false t.tm.tb0) :
    execBypassPulseEnd s = if s.og Obj.bypSense = 0xFF
      then .next ((u.pwmSet fun w => { w with bypSt := .confirm }).setByp)
      else .next (u.pwmSet fun w => { w with bypSt := .confirm }) := by
  have hcell : ¬(!s.cellOn) = true := by simp [hon]
  rw [execBypassPulseEnd, if_neg hcell, hpulse, hu, ht]

/-- R212: BYP_CONFIRM passes; the pulses given so far decide between a further one and the fault. -/
theorem execBypassConfirmTimeout_unconfirmed (hon : s.cellOn) (hconfirm : s.pwm.bypSt = .confirm)
    (hsense : s.og Obj.bypSense ≠ 0xFF) (ht : t = s.loopTo2 (s.pwm.riseAt + 1000 * s.og Obj.bypConfirm)) :
    execBypassConfirmTimeout s = if t.pwm.pulses ≤ t.og Obj.bypRetry
      then .next ((t.drive 6 false t.tm.tb0).bypassRise)
      else .next ((((t.drive 6 false t.tm.tb0).pwmSet fun w => { w with bypSt := .idle }).pwmEvt 4).raise 23 0) := by
  subst ht
  exact if_pos ⟨hon, .inl hconfirm, hsense⟩

/-- Settles O38: each command in the states the rules name, object writes by what the object's handler answers, trip
samples by what the filter of the input makes of them. -/
theorem pwmCommandsComplete : Obligations.PwmCommandsComplete := by
  intro s
  refine ⟨?eventEdge, ?deadTime, ?calGood, ?calBad, ?calFourth, ?boundary, ?dutyEdge, ?perObj, ?perReg, ?dutyObj,
    ?dutyReg, ?dutyOwned, ?hold, ?tripActive, ?tripCounted, ?tripInactive, ?clearObj, ?clearReg, ?bypCmd, ?pulseStart,
    ?pulseEndBlind, ?pulseEndSensed, ?anotherPulse, ?bypassFails, ?sense, ?halt, rfl, ?clockLoss, ?clockGood⟩
  case eventEdge =>
    intro e l hon htodo
    exact execEventEdge_due hon htodo
  case deadTime =>
    intro x l hwork hrises
    exact execDeadTimeEnd_waiting hwork hrises
  case calGood =>
    intro tap hwork
    exact execDelayLineCal_in_trim tap hwork
  case calBad =>
    intro tap hwork hbad
    exact execDelayLineCal_first_bad tap hwork hbad
  case calFourth =>
    intro tap hwork hbad
    exact execDelayLineCal_fourth_bad tap hwork hbad
  case boundary =>
    intro peak hon hstage hrun hmode hpeak hfirst
    exact execCarrierBoundary_first hon hstage hrun hmode hpeak hfirst
  case dutyEdge =>
    intro hon
    exact if_pos hon
  case perObj =>
    intro acc v hper
    exact takes_of_handler_ok rfl (applyShPer_ok hper)
  case perReg =>
    intro p v hon hper
    exact execShadowPerWrite_reg p hon hper
  case dutyObj =>
    intro acc v hhost
    exact takes_of_handler_ok rfl (congrArg Except.ok (seatDuty_of_host hhost))
  case dutyReg =>
    intro p v hon hhost
    exact (execShadowDutyWrite_reg p hon).trans (congrArg Host.Outcome.next (seatDuty_of_host hhost))
  case dutyOwned =>
    intro p v hon hloop
    exact (execShadowDutyWrite_reg p hon).trans (congrArg Host.Outcome.next (seatDuty_of_loop hloop))
  case hold =>
    intro p on hon
    exact congrArg Host.Outcome.next (cellReg_on hon _)
  case tripActive =>
    intro i h n hwork hi hn hlevel hlow henough
    have hactive : (h == (s.og (Obj.tripPol i) == 0)) = true := beq_iff_eq.2 hlevel
    refine (execTripActive_working hwork hi).trans (congrArg Host.Outcome.next ?_)
    rw [tripSamples_enough hn (by simp [hactive, hlow]) henough]
    exact if_pos hactive
  case tripCounted =>
    intro i h n hwork hi hn hlevel hlow hfew
    have hactive : (h == (s.og (Obj.tripPol i) == 0)) = true := beq_iff_eq.2 hlevel
    exact (execTripActive_working hwork hi).trans
      (congrArg Host.Outcome.next (tripSamples_short hn (by simp [hactive, hlow]) hfew))
  case tripInactive =>
    intro i h n hwork hi hn hlevel hhigh henough
    have hinactive : (h == (s.og (Obj.tripPol i) == 0)) = false := by simp [hlevel, bne]
    refine (execTripInactive_working hwork hi).trans (congrArg Host.Outcome.next ?_)
    rw [tripSamples_enough hn (by simp [hinactive, hhigh]) henough]
    exact if_neg (by simp [hinactive])
  case clearObj =>
    intro acc m hm
    exact takes_of_handler_ok rfl (if_pos hm)
  case clearReg =>
    intro p m hwork
    exact if_pos hwork
  case bypCmd =>
    intro acc
    exact takes_of_handler_ok rfl rfl
  case pulseStart =>
    intro hon hdelay
    exact if_pos ⟨hon, hdelay⟩
  case pulseEndBlind =>
    intro t u hon hpulse hblind ht hu
    exact (execBypassPulseEnd_pulse hon hpulse ht hu).trans (if_pos hblind)
  case pulseEndSensed =>
    intro t u hon hpulse hsensed ht hu
    exact (execBypassPulseEnd_pulse hon hpulse ht hu).trans (if_neg hsensed)
  case anotherPulse =>
    intro t hon hconfirm hsense ht hleft
    exact (execBypassConfirmTimeout_unconfirmed hon hconfirm hsense ht).trans (if_pos hleft)
  case bypassFails =>
    intro t hon hconfirm hsense ht hspent
    exact (execBypassConfirmTimeout_unconfirmed hon hconfirm hsense ht).trans (if_neg hspent.not_ge)
  case sense =>
    intro h n hon hinput
    exact if_pos ⟨hon, hinput⟩
  case halt =>
    intro hrun
    exact if_pos hrun
  case clockLoss =>
    intro hrun
    exact if_pos hrun
  case clockGood =>
    intro hrun hlost
    exact if_pos ⟨hrun, by rw [hlost]; rfl⟩

end Sys2Proof.CellSwitching
end

section
/-! PROOFS. The battery stage: its mode, its test, the clear of FAULT, samples and the state of charge (08 R218, R222,
R229 to R231, R233). -/

namespace Sys2Proof.CellBattery
open Sys2Proof.Machine Sys2Proof.Machine.State Sys2Proof.Rules

variable {s : State} {v : Nat}

theorem applyBatMode_off : applyBatMode 0 s = .ok (s.oset Obj.batMode 0).batStep := rfl

/-- R222: BAT_MODE 0x02 waits for the limits and for the stage's commissioning. -/
theorem applyBatMode_auto : applyBatMode 2 s =
    if !s.batLimitsSet || s.og Obj.batCommissioned == 0 then .error 6 else .ok (s.oset Obj.batMode 2).batStep := by
  have hrange : ¬((2 : Nat) ≠ 0 ∧ (2 : Nat) ≠ 2) := fun h => h.2 rfl
  rw [applyBatMode, if_neg hrange]
  exact if_congr (and_iff_right rfl) rfl rfl

/-- R222: a cell that no ring has admitted takes any test once its limits are set. -/
theorem applyBatTest_ok (hv : v ≤ 2) (hlimits : s.batLimitsSet) (hadm : s.ring.node.admitted = false) :
    applyBatTest v s = .ok (s.oset Obj.batTest v).batStep := by
  have hfree : ¬(v ≠ 0 ∧ (!s.batLimitsSet || s.ring.node.admitted) = true) := by simp [hlimits, hadm]
  rw [applyBatTest, if_neg hv.not_gt, if_neg hfree]

/-- R218: BAT_CMD 0x01 leaves FAULT where no STOP condition is present. -/
theorem applyBatCmd_clear (hfault : s.bat.st = .fault) (hstop : s.stopPresent = false) :
    applyBatCmd 1 s = .ok (s.batEnter .ready).batStep := by
  have hclears : s.bat.st = .fault ∧ !s.stopPresent := ⟨hfault, by rw [hstop]; rfl⟩
  exact congrArg Except.ok (if_pos hclears)

/-- R231: REST_T after the current came into the rest band the charge is set once from OCV_TABLE. -/
theorem execSocRestReset_rested {t : Nat} {u : State} (hrest : s.bat.restAt = some t) (hrun : s.running)
    (hstage : s.hasStage) (htime : s.og Obj.restT ≠ 0) (honce : s.bat.restDone = false)
    (hu : u = s.toTb2 (t + s.og Obj.restT * 1000000000)) : execSocRestReset s = .next
      (((u.batSet fun b => { b with q := u.socCharge u.ocvSoc, restDone := true }).bump Obj.socResets).irqPost 9 2) := by
  have hdue : s.running ∧ s.hasStage ∧ s.og Obj.restT ≠ 0 ∧ !s.bat.restDone :=
    ⟨hrun, hstage, htime, by rw [honce]; rfl⟩
  subst hu
  rw [execSocRestReset, hrest]
  exact if_pos hdue

/-- Settles O39: the writes by what their objects' handlers answer; a sample and the rest time in the states the rules
name. -/
theorem batteryCommandsComplete : Obligations.BatteryCommandsComplete := by
  intro s
  refine ⟨?off, ?auto, ?autoRefused, ?test, ?clear, ?sample, ?socSet, ?rest⟩
  case off =>
    intro acc
    exact takes_of_handler_ok rfl applyBatMode_off
  case auto =>
    intro acc hlimits hcommissioned
    exact takes_of_handler_ok rfl (applyBatMode_auto.trans (if_neg (by simp [hlimits, hcommissioned])))
  case autoRefused =>
    intro acc hunset
    exact refuses_of_handler_error rfl (applyBatMode_auto.trans (if_pos (by simp [hunset])))
  case test =>
    intro acc v hv hlimits hadm
    exact takes_of_handler_ok rfl (applyBatTest_ok hv hlimits hadm)
  case clear =>
    intro acc hfault hstop
    exact takes_of_handler_ok rfl (applyBatCmd_clear hfault hstop)
  case sample =>
    intro hrun hstage
    exact if_pos ⟨hrun, hstage⟩
  case socSet =>
    intro acc v
    exact takes_of_handler_ok rfl rfl
  case rest =>
    intro t u hrest hrun hstage htime honce hu
    exact execSocRestReset_rested hrest hrun hstage htime honce hu

end Sys2Proof.CellBattery
end

section
/-! PROOFS. Standby, wakes and storage checks, the thermal limit, the reference clock, AUX33 and a HEAD's wait for its
partner (18 R495 to R504, R518, R519, 08 R236). -/

namespace Sys2Proof.Power
open Sys2Proof.Machine Sys2Proof.Machine.State Sys2Proof.Rules

variable {s : State} {n : Nat}

theorem applyPwrCmd_standby (hfree : s.standbyRefused = false) : applyPwrCmd 1 s = .ok s.standbyEnter := by
  have htaken : ¬s.standbyRefused = true := by simp [hfree]
  exact if_neg htaken

/-- R498: a CELL without a ring port UP enters standby when it has idled for STBY_IDLE. -/
theorem execStbyIdleExpiry_idle {t : Nat} (hidle : s.pw.idleSince = some t) (hon : s.cellOn)
    (htime : s.og Obj.stbyIdle ≠ 0) (hdown0 : s.portUp 0 = false) (hdown1 : s.portUp 1 = false)
    (hfree : s.standbyRefused = false) :
    execStbyIdleExpiry s = .next (s.toTb2 (t + s.og Obj.stbyIdle * 1000000000)).standbyEnter := by
  have hexpires : s.cellOn ∧ s.og Obj.stbyIdle ≠ 0 ∧ !s.portUp 0 ∧ !s.portUp 1 ∧ !s.standbyRefused := by
    simp [hon, htime, hdown0, hdown1, hfree]
  rw [execStbyIdleExpiry, hidle]
  exact if_pos hexpires

/-- R500: every wake start but that of RST_N is a reset with code 0x07. -/
theorem wakeStart_not_rstN {cause : Nat} (hcause : cause ≠ 3) : s.wakeStart cause n = (s.aonTime n).resetPart 7 cause := by
  rw [wakeStart, if_neg hcause]

theorem execWakeEdge_asleep {rising : Bool} (hasleep : s.asleep) (hpol : s.og Obj.wakePol = (if rising then 1 else 2)) :
    execWakeEdge rising n s = .next ((s.aonTime n).resetPart 7 1) := by
  rw [execWakeEdge, if_pos hasleep, if_pos hpol, wakeStart_not_rstN (by decide)]

/-- R500: an edge of the AON cycle in which WAKE_TIMER woke the part becomes the wake's cause. -/
theorem execWakeEdge_with_timer {rising : Bool} (hawake : s.asleep = false) (hwoken : s.pw.wakeStart)
    (hcause : s.pw.wakeCause = 2) (hpol : s.pw.wakePol = (if rising then 1 else 2))
    (hcycle : s.tm.tb2 = (s.aonTime n).tm.tb2) :
    execWakeEdge rising n s = .next (s.pwSet fun w => { w with wakeCause := 1 }) := by
  have hnotAsleep : ¬s.asleep = true := by simp [hawake]
  rw [execWakeEdge, if_neg hnotAsleep]
  exact if_pos ⟨hwoken, hcause, hpol, hcycle⟩

theorem execWakeTimerExpiry_due (hstandby : s.pw.pwr = .standby) (htimer : s.og Obj.wakeTimer ≠ 0)
    (hdue : s.og Obj.wakeTimer * 1000000000 ≤ n * 30517578125 / 1000000) :
    execWakeTimerExpiry n s = .next ((s.aonTime n).resetPart 7 2) := by
  rw [← wakeStart_not_rstN (by decide)]
  exact if_pos ⟨hstandby, htimer, hdue⟩

/-- R236: a check that no WAKE edge ends adds its record to the newest 16; without STORE_ACTION 0x01 it wakes nothing. -/
theorem execStorageCheck_logged {vraw : List Int} {traws : List (List Int)} (hstandby : s.pw.pwr = .standby)
    (hinterval : s.og Obj.checkInterval ≠ 0) (hcell : s.isCell) (haction : s.og Obj.storeAction ≠ 1) :
    execStorageCheck n vraw traws false s = .next ((s.aonTime n).batSet fun b =>
      { b with checks := (b.checks ++ [((s.aonTime n).storageRecord vraw traws).1]).drop (b.checks.length - 15) }) := by
  have hchecks : ¬(s.pw.pwr ≠ .standby ∨ s.og Obj.checkInterval = 0 ∨ !s.isCell) := by
    simp [hstandby, hinterval, hcell]
  rw [execStorageCheck, if_neg hchecks, if_neg fun h => Bool.false_ne_true h.1]
  exact congrArg Host.Outcome.next (if_neg fun h => haction h.2)

theorem execThermalLimit_alone (hpow : s.powered) (hnotDue : s.flt.resetDue = false) :
    execThermalLimit s = .next (s.resetPart 6 0) := by
  have hpowered : ¬(!s.powered) = true := by simp [hpow]
  have halone : ¬s.flt.resetDue = true := by simp [hnotDue]
  rw [execThermalLimit, if_neg hpowered, if_neg halone]

theorem applyAuxEn_ok {v : Nat} (hv : v ≤ 1) : applyAuxEn v s = .ok ((s.oset Obj.auxEn v).pwSet fun w =>
    { w with auxOn := v == 1, auxLimit := w.auxLimit && v == 1 }) := if_pos hv

/-- Settles O26: the object writes by what their handlers answer, each event in the states the rules name. -/
theorem powerCommandsComplete : Obligations.PowerCommandsComplete := by
  intro s
  refine ⟨?standby, ?idle, ?wakeEdge, ?wakeEdgeWithTimer, ?wakeTimer, ?storageCheck, ?thermal, rfl, ?refLoss, ?refBack,
    ?trim, ?auxEn, ?auxLimit, ?partner⟩
  case standby =>
    intro acc hfree
    exact takes_of_handler_ok rfl (applyPwrCmd_standby hfree)
  case idle =>
    intro t hidle hon htime hdown0 hdown1 hfree
    exact execStbyIdleExpiry_idle hidle hon htime hdown0 hdown1 hfree
  case wakeEdge =>
    intro rising n hasleep hpol
    exact execWakeEdge_asleep hasleep hpol
  case wakeEdgeWithTimer =>
    intro rising n hawake hwoken hcause hpol hcycle
    exact execWakeEdge_with_timer hawake hwoken hcause hpol hcycle
  case wakeTimer =>
    intro n hstandby htimer hdue
    exact execWakeTimerExpiry_due hstandby htimer hdue
  case storageCheck =>
    intro n vraw traws hstandby hinterval hcell haction
    exact execStorageCheck_logged hstandby hinterval hcell haction
  case thermal =>
    intro hpow hnotDue
    exact execThermalLimit_alone hpow hnotDue
  case refLoss =>
    intro hpow hgood
    exact if_pos ⟨hpow, hgood⟩
  case refBack =>
    intro hpow hlost
    exact if_pos ⟨hpow, by rw [hlost]; rfl⟩
  case trim =>
    intro ppm hrun hgood
    exact if_pos ⟨hrun, hgood⟩
  case auxEn =>
    intro acc v hv
    exact takes_of_handler_ok rfl (applyAuxEn_ok hv)
  case auxLimit =>
    intro hrun hon
    exact if_pos ⟨hrun, hon⟩
  case partner =>
    intro hon hwaiting hstanding hdown
    exact if_pos ⟨hon, hwaiting, hstanding, by rw [hdown]; rfl⟩

end Sys2Proof.Power
end

section
/-! PROOFS. The rule of a taken domain write, beside those of Rules for taken and refused values. -/

namespace Sys2Proof.Rules
open Sys2Proof.Machine Sys2Proof.Machine.State Sys2Proof.Laws

/-- A domain's write command is taken where the object's handler accepts the bytes. -/
theorem takesBytes_of_handler_ok {s t : State} {acc : Accessor} {k : Nat} {d : Bytes} {c : Instr}
    {h : State → Except Nat State} (hexec : exec c s = .next (s.guardedWrite acc k d h)) (hh : h s = .ok t) :
    TakesBytes c s acc k d t := by
  intro ⟨hrun, hpath, htests, hmirror⟩
  rw [hexec, guardedWrite_ok hrun hpath htests hmirror hh]

end Sys2Proof.Rules
end

section
/-! PROOFS. The loop engine: the SUBTICK start of a group, descriptors, gain tables, limits and the injection (09 R247,
R249, R259, R260, R263, R269 to R273). -/

namespace Sys2Proof.LoopEngine
open Sys2Proof.Machine Sys2Proof.Machine.State Sys2Proof.Rules

variable {s : State} {c v w : Nat} {d : Bytes}

/-- R249: a SUBTICK group with a SUBTICK of the CUE still to come starts at that instant. -/
theorem execLoopGroupStart_subtick {g : Fin 4} {t : State} (hwork : s.working) (hsrc : s.og (Obj.groupSrc g.val) = 2)
    (hnext : s.subtickNext g.val < s.og (Obj.groupRate g.val))
    (ht : t = s.loopTo0 (s.tm.cueStart + 8 * (s.subtickNext g.val * s.tm.cueLen / s.og (Obj.groupRate g.val)))) :
    ∃ u, exec (.loopGroupStart g) s = .next (u.groupArrive g.val u.now8) ∧
      u = t.setGroup g.val { t.grpRec g.val with cue := some t.tm.cue, j := s.subtickNext g.val + 1 } := by
  subst ht
  exact ⟨_, if_pos ⟨hwork, hsrc, hnext⟩, rfl⟩

theorem applyLoopDesc_ok (hd : s.descOk d) :
    applyLoopDesc c d s = .ok ((s.dset (Obj.loopDesc c) d).loopPend c (.desc d)) := if_pos hd

/-- R273: a gain table is taken by its check field. -/
theorem applyLoopGtab_ok (hd : rd d 256 4 = crc32 (d.take 256)) :
    applyLoopGtab c d s = .ok ((s.dset (Obj.loopGtab c) d).loopPend c (.gtab d)) := if_pos hd

/-- R260: a poke whose reserved bits are 0 is taken; the accepted table gets its entry and a new check field. -/
theorem applyGtabPoke_ok (hhigh : fld v 63 54 = 0) (hmid : fld v 47 32 = 0) : applyGtabPoke c v s =
    .ok ((s.dset (Obj.loopGtab c) (sealGtab (patch (s.dg (Obj.loopGtab c)) (4 * fld v 53 48)
      (leBytes 2 (fld v 31 16) ++ leBytes 2 (fld v 15 0))))).loopPend c
        (.poke (fld v 53 48) (fld v 31 16) (fld v 15 0))) := by
  have hreserved : ¬(fld v 63 54 ≠ 0 ∨ fld v 47 32 ≠ 0) := by simp [hhigh, hmid]
  exact if_neg hreserved

/-- R247: a low limit is taken up to the accepted high limit, the field after it. -/
theorem applyLoopLimit_low (hw : w % 2 = 0) (hv : toI 16 v ≤ dI16 (s.dg (Obj.loopDesc c)) (26 + 2 * w + 2)) :
    applyLoopLimit w c v s = .ok (s.loopField c (26 + 2 * w) 2 v) := by
  simp [applyLoopLimit, hw, hv.not_gt]

/-- R247: a low limit above the accepted high limit is refused. -/
theorem applyLoopLimit_low_refused (hw : w % 2 = 0)
    (hv : dI16 (s.dg (Obj.loopDesc c)) (26 + 2 * w + 2) < toI 16 v) : applyLoopLimit w c v s = .error 6 := by
  simp [applyLoopLimit, hw, hv]

/-- R247: a high limit is taken down to the accepted low limit, the field before it. -/
theorem applyLoopLimit_high (hw : w % 2 = 1) (hv : dI16 (s.dg (Obj.loopDesc c)) (26 + 2 * w - 2) ≤ toI 16 v) :
    applyLoopLimit w c v s = .ok (s.loopField c (26 + 2 * w) 2 v) := by
  simp [applyLoopLimit, hw, hv.not_gt]

theorem applyLoopFlags_ok (hv : v ≤ 15) : applyLoopFlags c v s = .ok (s.loopField c 7 1 v) := if_pos hv

/-- R269, R271: a start of the injection on an enabled channel out of fallback; it clears RESP_BUF. -/
theorem applyInjCmd_start (hidle : s.loop.injOn = false) (hchan : s.chOn (s.og Obj.injCh))
    (hfb : (s.loopCh (s.og Obj.injCh)).fallback = false) :
    applyInjCmd 1 s = .ok ((s.loopSet fun l => { l with
      injOn := true, injCh := s.og Obj.injCh, injN := 0, prbs := 0x7FFF, injRec := true, resp := [] }).oset
        Obj.injState 1) := by
  have hfree : ¬(s.loop.injOn || !s.chOn (s.og Obj.injCh) || (s.loopCh (s.og Obj.injCh)).fallback) = true := by
    simp [hidle, hchan, hfb]
  exact if_neg hfree

/-- R269: no second injection starts while one runs. -/
theorem applyInjCmd_start_running (hruns : s.loop.injOn) : applyInjCmd 1 s = .error 6 := by
  have hbusy : (s.loop.injOn || !s.chOn (s.og Obj.injCh) || (s.loopCh (s.og Obj.injCh)).fallback) = true := by
    simp [hruns]
  exact if_pos hbusy

/-- R270: INJ_CMD 0x02 ends the injection. -/
theorem applyInjCmd_stop (hruns : s.loop.injOn) : applyInjCmd 2 s = .ok (s.injEnd 2) :=
  congrArg Except.ok (if_pos hruns)

/-- Settles O40: each write by what its object's handler answers, the four limits by the low and the high rule; the
start of a group at its next SUBTICK. -/
theorem loopCommandsComplete : Obligations.LoopCommandsComplete := by
  intro s
  refine ⟨?groupStart, ?desc, ?gtab, ?poke, ?intLow, ?intHigh, ?outLow, ?outHigh, ?intLowRefused, ?intSet, ?flags,
    ?injStart, ?injStop, ?injBusy⟩
  case groupStart =>
    intro g t hwork hsrc hnext ht
    exact execLoopGroupStart_subtick hwork hsrc hnext ht
  case desc =>
    intro acc ch d hd
    exact takesBytes_of_handler_ok rfl (applyLoopDesc_ok hd)
  case gtab =>
    intro acc ch d hd
    exact takesBytes_of_handler_ok rfl (applyLoopGtab_ok hd)
  case poke =>
    intro acc ch v hhigh hmid
    exact takes_of_handler_ok rfl (applyGtabPoke_ok hhigh hmid)
  case intLow =>
    intro acc ch v hv
    exact takes_of_handler_ok rfl (applyLoopLimit_low (w := 0) rfl hv)
  case intHigh =>
    intro acc ch v hv
    exact takes_of_handler_ok rfl (applyLoopLimit_high (w := 1) rfl hv)
  case outLow =>
    intro acc ch v hv
    exact takes_of_handler_ok rfl (applyLoopLimit_low (w := 2) rfl hv)
  case outHigh =>
    intro acc ch v hv
    exact takes_of_handler_ok rfl (applyLoopLimit_high (w := 3) rfl hv)
  case intLowRefused =>
    intro acc ch v hv
    exact refuses_of_handler_error rfl (applyLoopLimit_low_refused (w := 0) rfl hv)
  case intSet =>
    intro acc ch v
    exact takes_of_handler_ok rfl rfl
  case flags =>
    intro acc ch v hv
    exact takes_of_handler_ok rfl (applyLoopFlags_ok hv)
  case injStart =>
    intro acc hidle hchan hfb
    exact takes_of_handler_ok rfl (applyInjCmd_start hidle hchan hfb)
  case injStop =>
    intro acc hruns
    exact takes_of_handler_ok rfl (applyInjCmd_stop hruns)
  case injBusy =>
    intro acc hruns
    exact refuses_of_handler_error rfl (applyInjCmd_start_running hruns)

end Sys2Proof.LoopEngine
end

section
/-! PROOFS. Measurement: the set-up of sequences, their starts, results, the reference buffer and self-calibration (10 R279
to R294). -/

namespace Sys2Proof.Measurement
open Sys2Proof.Machine Sys2Proof.Machine.State Sys2Proof.Rules Sys2Proof.CellRings

variable {s t u : State} {q : Nat}

/-! ### Register writes -/

theorem regOn_of_working (hwork : s.working) (f : State → State) : regOn s f = f s := if_pos hwork

theorem regTry_ok (hwork : s.working) {f : State → Except Nat State} (hf : f s = .ok t) : regTry s f = t := by
  rw [regTry, regOn_of_working hwork, hf]

/-! ### Starts -/

/-- R280: the timer of a TIMER sequence is set for its next period before the sequence starts. -/
theorem execSeqTimer_due {q : Fin 8} {n : Nat} (hrun : s.running) (htrig : s.seqTrigOf q.val = 4)
    (htimer : (s.seqRec q.val).timer = some n) :
    ∃ u, execSeqTimer q s = .next (u.seqStart q.val u.now8) ∧ u = (s.toTb2 n).setSeq q.val
      { (s.toTb2 n).seqRec q.val with timer := some (max n (s.toTb2 n).tm.tb2 + (s.toTb2 n).seqPeriodOf q.val) } := by
  refine ⟨_, ?_, rfl⟩
  simp only [execSeqTimer, if_pos (And.intro hrun htrig), htimer]

/-- R280: SEQ_CMD 0x01 starts a sequence whose trigger is SOFTWARE. -/
theorem applySeqCmd_start (hfree : s.seqReserved q = false) (htrig : s.seqTrigOf q = 5) :
    applySeqCmd q 1 s = .ok (s.seqStart q s.now8) := by
  have hopen : ¬s.seqReserved q = true := by simp [hfree]
  rw [applySeqCmd, if_neg (not_not.2 rfl), if_neg hopen, if_pos htrig]

/-- R284: a sequence of the battery stage takes no command. -/
theorem applySeqCmd_reserved (hres : s.seqReserved q) : applySeqCmd q 1 s = .error 6 := by
  rw [applySeqCmd, if_neg (not_not.2 rfl), if_pos hres]

/-! ### Results -/

theorem openFirst_nil {r : AdcSeq} (hopen : r.open_ = []) : openFirst r = none := by
  rw [openFirst, hopen]
  rfl

theorem resultWrite_none (hopen : openFirst (s.seqRec q) = none) (raws : List Rat) : s.resultWrite q raws = none := by
  simp only [resultWrite, hopen]

/-- Without an open conversion no result is written. -/
theorem execResultWrite_nothing_open {q : Fin 8} (hopen : (s.seqRec q.val).open_ = []) (raws : List Rat) (n : Nat) :
    execResultWrite q raws n s = .next s := by
  have hnone := openFirst_nil hopen
  cases hrun : s.running <;> simp [execResultWrite, hrun, hnone, resultWrite_none hnone]

/-- R288 to R291: a result of a sequence without battery temperatures goes to the monitors, the measurements and the
safety block; the streams that sample the sequence's end follow where the sequence has ended or started anew. -/
theorem execResultWrite_open {q : Fin 8} {raws : List Rat} {n k i : Nat} {x : Nat × Nat × Nat × Bool × Nat}
    {l : List (Nat × Nat × Nat × Bool × Nat)} {v : State} (hrun : s.running)
    (hopen : openFirst (s.seqRec q.val) = some (x, l)) (ht : t = s.groupsTill 256 x.2.2.1)
    (hwrite : t.resultWrite q.val raws = some (k, i, u)) (hq : q.val ≠ 4)
    (hv : v = ((u.monitorResult k i).measResult k).safUpdate n) :
    execResultWrite q raws n s = .next (if (v.seqRec q.val).running = true ∧
      (v.seqRec q.val).starts = (t.seqRec q.val).starts then v else v.capBaseAll 3 (fun a => a == q.val)) := by
  have hon : ¬(!s.running) = true := by simp [hrun]
  have hplain : ¬(q.val = 4 ∧ u.seqReserved 4 = true) := fun h => hq h.1
  have hended : (!(v.seqRec q.val).running || (v.seqRec q.val).starts != (t.seqRec q.val).starts) = true ↔
      ¬((v.seqRec q.val).running = true ∧ (v.seqRec q.val).starts = (t.seqRec q.val).starts) := by
    simp [imp_iff_not_or]
  simp only [execResultWrite, hopen, ← ht, hwrite, if_neg hon, if_neg hplain, ← hv, hended, ite_not]

theorem execAdcResultRead_working (hwork : s.working) (p : Fin 3) (c : Bool) (n : Fin 64) :
    execAdcResultRead p c n s = .next ((s.resRead (if c then 64 + n.val else n.val) (some p.val)).emit
      (.word p.val (resWord (s.resShown (if c then 64 + n.val else n.val)) (some p.val)))) := if_pos hwork

/-- A field too small for a value carries the value's low bytes. -/
theorem leNat_leBytes_mod (n v : Nat) : leNat (leBytes n v) = v % 2 ^ (8 * n) := by
  induction n generalizing v with
  | zero => exact (Nat.mod_one v).symm
  | succ n ih =>
    have hsplit : 2 ^ (8 * (n + 1)) = 256 * 2 ^ (8 * n) := by rw [Nat.mul_succ, Nat.pow_add, Nat.mul_comm]
    rw [leBytes, leNat, ih, hsplit, Nat.mod_mul, BitVec.toNat_ofNat]

theorem rd_leBytes_append_mod (n v : Nat) (b : Bytes) : rd (leBytes n v ++ b) 0 n = v % 2 ^ (8 * n) := by
  rw [rd, slice, List.drop_zero, List.take_left' (leBytes_length n v), leNat_leBytes_mod]

/-- R290: the read answers the result as its seat finds it, the code first. -/
theorem execResultObjectRead_serves {acc : Accessor} {n : Fin 64} {c : Bool}
    (hserves : Serves s acc (if c then Obj.resC n.val else Obj.resAb n.val)) : ∃ t d,
    execResultObjectRead acc c n s =
      .next (t.emit (.data acc (if c then Obj.resC n.val else Obj.resAb n.val) d.length d)) ∧
    t = (s.answer acc (if c then Obj.resC n.val else Obj.resAb n.val) 0 false).resRead (if c then 64 + n.val else n.val)
      (accSeat acc) ∧ rd d 0 2 = (s.resShown (if c then 64 + n.val else n.val)).code % 2 ^ 16 := by
  refine ⟨_, _, congrArg Host.Outcome.next (guardedRead_of_serves hserves _ _), rfl, ?_⟩
  simp only [List.append_assoc]
  exact rd_leBytes_append_mod ..

/-! ### Reference buffer and self-calibration -/

/-- R285, R294: 2 ms after it is enabled the buffer is ready, and the first time after a reset a calibration runs. -/
theorem execRefReadyTimer_due {n : Nat} (hat : s.adc.refAt = some n) (hrun : s.running) (hready : s.adc.refReady = false)
    (hu : u = ((s.toTb2 (n + 2000000)).adcSet fun w => { w with refReady := true }).irqPost 16 4) :
    execRefReadyTimer s = .next (if u.adc.calOnce then u else u.calStart) := by
  have hdue : s.running ∧ !s.adc.refReady := ⟨hrun, by rw [hready]; rfl⟩
  subst hu
  simp only [execRefReadyTimer, hat, if_pos hdue]

/-- R294: a cell that no ring has admitted takes a self-calibration with a ready buffer while none runs. -/
theorem applyCalCmd_cell (hadm : s.ring.node.admitted = false) (hhead : s.isHead = false) (hready : s.adc.refReady)
    (hidle : s.adc.cal ≠ 1) : applyCalCmd 1 s = .ok s.calStart := by
  have hfree : ¬((s.isCell && s.ring.node.admitted) || (s.isHead && s.modulating) || !s.adc.refReady ||
      s.adc.cal == 1) = true := by simp [hadm, hhead, hready, hidle]
  rw [applyCalCmd, if_neg (not_not.2 rfl), if_neg hfree]

section
variable {a b : List Int} (hrun : s.running) (hcal : s.adc.cal = 1)
include hrun hcal

/-- R294: a run whose two means lie within ±256 codes gives the offsets. -/
theorem execCalDone_good (ha : calMeanOk a) (hb : calMeanOk b) : execCalDone a b s = .next
    ((((s.toTb2 (s.adc.calAt + 16000)).irqPost 16 3).adcSet fun w =>
      { w with cal := 2, ofsA := calMean a, ofsB := calMean b }).release 35 0) := by
  rw [execCalDone, if_pos ⟨hrun, hcal⟩]
  exact if_pos ⟨ha, hb⟩

/-- R294: a run with a mean outside ±256 codes fails and keeps the offsets. -/
theorem execCalDone_failed (hbad : calMeanOk a = false ∨ calMeanOk b = false) : execCalDone a b s = .next
    ((((s.toTb2 (s.adc.calAt + 16000)).irqPost 16 3).adcSet fun w => { w with cal := 3 }).raise 35 0) := by
  have hfails : ¬(calMeanOk a ∧ calMeanOk b) := by
    rintro ⟨ha, hb⟩
    simp [ha, hb] at hbad
  rw [execCalDone, if_pos ⟨hrun, hcal⟩]
  exact if_neg hfails

end

/-- Settles O41: the object writes by what their handlers answer, the register writes while the part works; timers,
samples, results and calibrations in the states the rules name. -/
theorem measurementCommandsComplete : Obligations.MeasurementCommandsComplete := by
  intro s
  refine ⟨?table, ?entry, ?timer, ?start, ?startRefused, ?softwareStart, ?sample, ?result, ?noResult, ?readC, ?readAb,
    ?readObject, ?refObject, ?refRegister, ?refReady, ?calStart, ?calGood, ?calFailed⟩
  case table =>
    intro acc d t hok
    exact takesBytes_of_handler_ok rfl hok
  case entry =>
    intro p c n v t hwork hok
    exact congrArg Host.Outcome.next (regTry_ok hwork hok)
  case timer =>
    intro q n hrun htrig htimer
    exact execSeqTimer_due hrun htrig htimer
  case start =>
    intro acc q hfree htrig
    exact takes_of_handler_ok rfl (applySeqCmd_start hfree htrig)
  case startRefused =>
    intro acc q hres
    exact refuses_of_handler_error rfl (applySeqCmd_reserved hres)
  case softwareStart =>
    intro p m hwork
    exact congrArg Host.Outcome.next (regOn_of_working hwork _)
  case sample =>
    intro q hrun
    exact if_pos hrun
  case result =>
    intro q raws n x l k i t u v hrun hopen ht hwrite hq hv
    exact execResultWrite_open hrun hopen ht hwrite hq hv
  case noResult =>
    intro q raws n _ hopen
    exact execResultWrite_nothing_open hopen raws n
  case readC =>
    intro p n hwork
    exact execAdcResultRead_working hwork p true n
  case readAb =>
    intro p n hwork
    exact execAdcResultRead_working hwork p false n
  case readObject =>
    intro acc n c hserves
    exact execResultObjectRead_serves hserves
  case refObject =>
    intro acc v hv
    exact takes_of_handler_ok rfl (if_pos hv)
  case refRegister =>
    intro p v hwork
    exact congrArg Host.Outcome.next (regOn_of_working hwork _)
  case refReady =>
    intro n u hat hrun hready hu
    exact execRefReadyTimer_due hat hrun hready hu
  case calStart =>
    intro acc _ hadm hhead hready hidle
    exact takes_of_handler_ok rfl (applyCalCmd_cell hadm hhead hready hidle)
  case calGood =>
    intro a b hrun hcal ha hb
    exact execCalDone_good hrun hcal ha hb
  case calFailed =>
    intro a b hrun hcal hbad
    exact execCalDone_failed hrun hcal hbad

end Sys2Proof.Measurement
end

section
/-! PROOFS. The capture block: SUBTICK samples, CAP_CMD, triggers, hold-off, the release of a window and of staging bytes
(11 R297, R301, R303, R305, R306, R308 to R310). -/

namespace Sys2Proof.Capture
open Sys2Proof.Machine Sys2Proof.Machine.State Sys2Proof.Rules

variable {s : State} {n : Nat}

/-! ### Base samples -/

/-- R297: the next SUBTICK of the CUE is sampled at its instant, once every stream sampled then has had its level test. -/
theorem execCaptureBaseSample_subtick {n : Fin 8} {j : Nat} {t u : State} (hwork : s.working)
    (hcount : n.val < s.capCount) (hon : (s.stream n.val).st ≠ .stopped) (hsrc : s.og (Obj.sampleSrc n.val) = 1)
    (hrate : sampleArgOk 1 (s.og (Obj.sampleArg n.val))) (hnext : j < s.og (Obj.sampleArg n.val))
    (hj : j = (if (s.stream n.val).cue = some s.tm.cue then (s.stream n.val).j else 0))
    (ht : t = s.loopTo0 (s.tm.cueStart + 8 * (j * s.tm.cueLen / s.og (Obj.sampleArg n.val))))
    (hu : u = (subtickWith t (j * s.tm.cueLen / s.og (Obj.sampleArg n.val))).foldl (fun x m => x.capTest m) t) :
    execCaptureBaseSample n s =
      .next ((u.setStream n.val { u.stream n.val with cue := some u.tm.cue, j := j + 1 }).capBase n.val) := by
  simp only [execCaptureBaseSample, ← hj, ← ht, ← hu]
  exact if_pos ⟨hwork, hcount, hon, hsrc, hrate, hnext⟩

/-! ### CAP_CMD (Table 11-6) -/

/-- Table 11-6: a stream without records before the trigger needs no block of the PANTRY (R308); the bytes in its staging
buffer stay (log entry 22). -/
theorem applyCapCmd_start (hstopped : (s.stream n).st = .stopped) (hpre : s.og (Obj.capPre n) = 0) :
    applyCapCmd n 1 s = .ok (s.setStream n { CapStream.reset with
      st := .armed, stats := (s.stream n).stats, stage := (s.stream n).stage, rd := (s.stream n).rd,
      win := (s.stream n).win, block := none, cue := some s.tm.cue, j := s.subticksPast n }) := by
  have hidle : ¬(s.stream n).st ≠ .stopped := not_not.2 hstopped
  simp only [applyCapCmd, if_neg hidle, if_pos hpre]

/-- Table 11-6 lists no start of a stream that is not STOPPED; the code is log entry 36's. -/
theorem applyCapCmd_start_refused (hon : (s.stream n).st ≠ .stopped) : applyCapCmd n 1 s = .error 6 := if_pos hon

theorem applyCapCmd_stop (hon : (s.stream n).st ≠ .stopped) : applyCapCmd n 2 s = .ok (s.capStop n) :=
  congrArg Except.ok (if_neg hon)

theorem applyCapCmd_arm (hdis : (s.stream n).st = .disarmed) : applyCapCmd n 3 s = .ok (s.capArm n) :=
  congrArg Except.ok (if_pos hdis)

/-- R303: the forced trigger has the source code 7 and the present instant. -/
theorem applyCapCmd_force : applyCapCmd n 4 s = .ok (capTrigger 9 n 7 s.tm.tb0 s) := rfl

/-! ### Triggers and hold-off -/

/-- R303: the happening of any source of Table 11-5 triggers a stream of the role. -/
theorem execCaptureTrigger_source {n : Fin 8} (hwork : s.working) (hcount : n.val < s.capCount)
    (hlow : 1 ≤ s.og (Obj.trigSrc n.val)) (hhigh : s.og (Obj.trigSrc n.val) ≤ 6) :
    execCaptureTrigger n s = .next (capTrigger 9 n.val (s.og (Obj.trigSrc n.val)) s.tm.tb0 s) :=
  if_pos ⟨hwork, hcount, hlow, hhigh⟩

/-- R306: hold-off by time alone is judged when HOLDOFF_T has passed. -/
theorem execCaptureHoldoffExpiry_time {n : Fin 8} (hwork : s.working) (hheld : (s.stream n.val).st = .holdoff)
    (hmode : s.og (Obj.holdoffMode n.val) = 1) : execCaptureHoldoffExpiry n s =
      .next ((s.toTb2 ((s.stream n.val).holdAt + 1000 * s.og (Obj.holdoffT n.val))).holdEnd n.val) := by
  rw [execCaptureHoldoffExpiry, if_pos ⟨hwork, hheld⟩]
  exact congrArg (fun x => Host.Outcome.next (holdEnd n.val x)) (if_pos (.inl hmode))

/-! ### Windows and staging bytes -/

/-- R310: the release of a READY window frees its block. -/
theorem applyWinRelease_ready {v : Nat} {w : PantryWin}
    (hready : s.cap.wins.find? (fun w => w.id == v && w.ready) = some w) : applyWinRelease v s =
      .ok ((s.capSet fun c => { c with wins := c.wins.filter (fun w => w.id != v) }).pantryRelease
        (some (w.base, w.len))) := by
  simp only [applyWinRelease, hready]

/-- R301: a read offset written by a path of the role, to the 20 bits of the register. -/
theorem execCapqRdWrite_present {p : Fin 3} {n : Fin 8} {v : Nat} (hwork : s.working)
    (hpath : s.accPresent (.path p)) (hcount : n.val < s.capCount) :
    execCapqRdWrite p n v s = .next (s.capqRd p.val n.val (v % 2 ^ 20)) := if_pos ⟨hwork, hpath, hcount⟩

/-- Settles O42: CAP_CMD and WIN_RELEASE by what their handlers answer in each state of the stream and the window; samples,
triggers, hold-off and the read offset while the part works. -/
theorem captureCommandsComplete : Obligations.CaptureCommandsComplete := by
  intro s
  refine ⟨?sample, ?start, ?startRefused, ?stop, ?arm, ?force, ?trigger, ?holdoff, ?release, ?readOffset⟩
  case sample =>
    intro n j t u hwork hcount hon hsrc hrate hnext hj ht hu
    exact execCaptureBaseSample_subtick hwork hcount hon hsrc hrate hnext hj ht hu
  case start =>
    intro acc n hstopped hpre
    exact takes_of_handler_ok rfl (applyCapCmd_start hstopped hpre)
  case startRefused =>
    intro acc n hon
    exact refuses_of_handler_error rfl (applyCapCmd_start_refused hon)
  case stop =>
    intro acc n hon
    exact takes_of_handler_ok rfl (applyCapCmd_stop hon)
  case arm =>
    intro acc n hdis
    exact takes_of_handler_ok rfl (applyCapCmd_arm hdis)
  case force =>
    intro acc n _
    exact takes_of_handler_ok rfl applyCapCmd_force
  case trigger =>
    intro n hwork hcount hlow hhigh
    exact execCaptureTrigger_source hwork hcount hlow hhigh
  case holdoff =>
    intro n hwork hheld hmode
    exact execCaptureHoldoffExpiry_time hwork hheld hmode
  case release =>
    intro acc v w hready
    exact takes_of_handler_ok rfl (applyWinRelease_ready hready)
  case readOffset =>
    intro p n v hwork hpath hcount
    exact execCapqRdWrite_present hwork hpath hcount

end Sys2Proof.Capture
end

section
/-! PROOFS. The rule of a part that a command's frame leaves out, and what an interrupt event leaves
unchanged, beside those of Rules. -/

namespace Sys2Proof.Rules
open Sys2Proof.Machine Sys2Proof.Laws Sys2Proof.Scope

/-- What may change among the listed parts alone keeps every other part. -/
theorem unlisted_same {L : List Part} {s t : State} (h : Keep (Among L) s t) (p : Part) (hp : p ∉ L) : p.same s t :=
  h.rest p (mt lets_among_iff.1 hp)

theorem irqPost_keeps (g i : Nat) (s : State) : Keep (Among [.irq]) s (s.irqPost g i) := by
  have lhead := lets_among_head
  exact keep_State_irqPost (keep_refl _ s)

end Sys2Proof.Rules
end

section
/-! PROOFS. One instruction of the sequence logic: what it can do at all, and what the step to the next one changes (12 R320,
R321). -/

namespace Sys2Proof.SequenceLogic
open Sys2Proof.Machine Sys2Proof.Machine.State Sys2Proof.Laws Sys2Proof.Scope Sys2Proof.Rules

variable {s t : State} {use : SlUse} {op area o : Nat}

/-! ### The three outcomes of an instruction -/

/-- An instruction with its operand in its area acts while a cycle executes. -/
theorem slOp_of_operandOk (huse : opUse op = some use) (hact : s.activeHead) (hbusy : s.sl.busy)
    (hok : operandOk use area o s.slNObj s.slCodeLen) : s.slOp op area o = .next (s.slAction op area o) := by
  simp [slOp, huse, slDo, hact, hbusy, hok]

/-- Log entry 6: an operand outside its area stops the machine while a cycle executes. -/
theorem slOp_of_operand_outside (huse : opUse op = some use) (hact : s.activeHead) (hbusy : s.sl.busy)
    (hout : operandOk use area o s.slNObj s.slCodeLen = false) : s.slOp op area o = .fault .noSuchOperand := by
  simp [slOp, huse, slDo, hact, hbusy, hout]

theorem slOp_of_no_cycle (huse : opUse op = some use) (hidle : s.sl.busy = false) : s.slOp op area o = .next s := by
  simp [slOp, huse, slDo, hidle]

/-- An instruction that goes on has acted or has had no effect. -/
theorem slOp_next (h : s.slOp op area o = .next t) : t = s ∨ t = s.slAction op area o := by
  unfold slOp slDo at h
  split at h
  · split at h
    · exact .inl (Host.Outcome.next.inj h).symm
    · split at h
      · exact .inr (Host.Outcome.next.inj h).symm
      · nomatch h
  · exact .inl (Host.Outcome.next.inj h).symm

/-- In an executing cycle an instruction that goes on has acted. -/
theorem eq_slAction_of_slOp_next (huse : opUse op = some use) (hact : s.activeHead) (hbusy : s.sl.busy)
    (h : s.slOp op area o = .next t) : t = s.slAction op area o := by
  cases hok : operandOk use area o s.slNObj s.slCodeLen with
  | false =>
    rw [slOp_of_operand_outside huse hact hbusy hok] at h
    nomatch h
  | true =>
    rw [slOp_of_operandOk huse hact hbusy hok] at h
    exact (Host.Outcome.next.inj h).symm

/-! ### The step to the next instruction -/

/-- The parts that the loop channels ahead of a cycle's first instruction may change (R250). -/
def beginParts : List Part := [.objs, .regs, .tm, .flt, .irq, .pwm, .bat, .loop, .cap, .work]

theorem slBegin_keeps (s : State) : Keep (Among beginParts) s s.slBegin := by
  have lhead := lets_among_head
  have ltail := lets_among_tail
  unfold beginParts
  exact keep_State_slBegin (keep_refl _ s)

theorem slBegin_sl (s : State) : s.slBegin.sl = s.sl := unlisted_same (slBegin_keeps s) .sl (by decide)

/-- Only the first instruction of a cycle has channels ahead of it. -/
theorem slBegin_of_used (hused : s.sl.used ≠ 0) : s.slBegin = s := if_neg fun h => hused h.1

theorem slStep_sl (n next : Nat) (s : State) :
    (s.slStep n next).sl = { s.sl with pc := next, used := s.sl.used + n } :=
  congrArg (fun w : SlBlock => { w with pc := next, used := w.used + n }) (slBegin_sl s)

theorem slStep_keeps (n next : Nat) (s : State) : Keep (Among (.sl :: beginParts)) s (s.slStep n next) := by
  have lhead := lets_among_head
  have ltail := lets_among_tail
  unfold beginParts
  exact keep_State_slStep (keep_refl _ s)

/-- After the first instruction of a cycle a step moves the place in the program and the time bases alone. -/
theorem slStep_of_used {n next : Nat} (hused : s.sl.used ≠ 0) : s.slStep n next =
    (s.slSet fun w => { w with pc := next, used := w.used + n }).elapse (16 * n) := by
  rw [slStep, slBegin_of_used hused]

end Sys2Proof.SequenceLogic
end

section
/-! PROOFS. The frames of the sequence logic's instructions: those that store nothing, and the stores to M and LQ (12 R321,
R333, 14 R395). -/

namespace Sys2Proof.SequenceLogic
open Sys2Proof.Machine Sys2Proof.Machine.State Sys2Proof.Rules

variable {s t : State} {op area o : Nat}

/-- The state with another RLO and ACC. -/
def withResult (s : State) (rlo : Bool) (acc : Nat) : State := s.slSet fun w => { w with rlo := rlo, acc := acc }

/-- State `t` is `s`, or follows from it by a new RLO or ACC and a step to another instruction. -/
def ComputesOnly (s t : State) : Prop := t = s ∨ ∃ rlo acc n next, t = (withResult s rlo acc).slStep n next

theorem computesOnly_of_slOp_next (h : s.slOp op area o = .next t)
    (haction : ComputesOnly s (s.slAction op area o)) : ComputesOnly s t := by
  rcases slOp_next h with rfl | rfl
  · exact .inl rfl
  · exact haction

theorem computesOnly_setRlo (s : State) (b : Bool) (n : Nat) : ComputesOnly s ((s.setRlo b).slNext n) :=
  .inr ⟨b, s.sl.acc, n, s.sl.pc + 1, rfl⟩

theorem computesOnly_setAcc (s : State) (z : Int) (n : Nat) : ComputesOnly s ((s.setAcc z).slNext n) :=
  .inr ⟨s.sl.rlo, ofI 32 (satS 32 z), n, s.sl.pc + 1, rfl⟩

theorem computesOnly_slStep (s : State) (n next : Nat) : ComputesOnly s (s.slStep n next) :=
  .inr ⟨s.sl.rlo, s.sl.acc, n, next, rfl⟩

theorem computesOnly_jmpc (s : State) (area o : Nat) : ComputesOnly s (s.slAction 0x16 area o) := by
  change ComputesOnly s (if s.sl.rlo then s.slStep 1 (o % 2 ^ 22) else s.slNext 1)
  split
  · exact computesOnly_slStep ..
  · exact computesOnly_slStep ..

/-- Settles O47: each instruction that stores nothing computes RLO or ACC and steps on. -/
theorem sequenceLogicFrame : Obligations.SequenceLogicFrame := by
  intro s t a o hexec
  have hcomputes : ComputesOnly s t := by
    rcases hexec with h | h | h | h | h | h | h | h
    · exact computesOnly_of_slOp_next (op := 0x01) h (computesOnly_setRlo ..)
    · exact computesOnly_of_slOp_next (op := 0x04) h (computesOnly_setRlo ..)
    · exact computesOnly_of_slOp_next (op := 0x05) h (computesOnly_setRlo ..)
    · exact computesOnly_of_slOp_next (op := 0x0A) h (computesOnly_setAcc ..)
    · exact computesOnly_of_slOp_next (op := 0x0E) h (computesOnly_setAcc ..)
    · exact computesOnly_of_slOp_next (op := 0x0F) h (computesOnly_setRlo ..)
    · exact computesOnly_of_slOp_next (op := 0x12) h (computesOnly_setAcc ..)
    · exact computesOnly_of_slOp_next (op := 0x16) h (computesOnly_jmpc ..)
  rcases hcomputes with rfl | ⟨rlo, acc, n, next, rfl⟩
  · exact ⟨rfl, rfl, rfl, rfl, rfl, rfl, rfl, rfl, rfl, rfl, rfl, rfl,
      fun _ => ⟨rfl, rfl, rfl, rfl, rfl, rfl, rfl, rfl, rfl, rfl⟩⟩
  · have hk := slStep_keeps n next (withResult s rlo acc)
    have hsl := slStep_sl n next (withResult s rlo acc)
    refine ⟨unlisted_same hk .doms (by decide), (congrArg SlBlock.m hsl :), (congrArg SlBlock.lq hsl :), (congrArg SlBlock.sq hsl :),
      (congrArg SlBlock.writes hsl :), (congrArg SlBlock.act hsl :), unlisted_same hk .ring (by decide),
      unlisted_same hk .pw (by decide), unlisted_same hk .seat (by decide), unlisted_same hk .mem (by decide), hk.pend,
      unlisted_same hk .out (by decide), fun hused => ?_⟩
    have hused' : (withResult s rlo acc).sl.used ≠ 0 := hused
    rw [slStep_of_used hused']
    exact ⟨rfl, rfl, rfl, rfl, rfl, rfl, rfl, rfl, rfl, rfl⟩

/-- Settles O48: a store writes its word of M or LQ and steps on. -/
theorem sequenceStoreFrame : Obligations.SequenceStoreFrame := by
  intro s t o hact hbusy
  refine ⟨fun hexec => ?toM, fun hexec => ?toLq⟩
  case toM =>
    have ht : t = (s.slWrite 6 (o % 2 ^ 22) s.sl.acc).slNext 1 :=
      eq_slAction_of_slOp_next (use := .wordW) (op := 0x0B) rfl hact hbusy hexec
    subst ht
    have hk := slStep_keeps 1 (s.sl.pc + 1) (s.slWrite 6 (o % 2 ^ 22) s.sl.acc)
    have hsl := slStep_sl 1 (s.sl.pc + 1) (s.slWrite 6 (o % 2 ^ 22) s.sl.acc)
    refine ⟨(congrArg SlBlock.m hsl :), congrArg PairBlock.marked (unlisted_same hk .pair (by decide)),
      (congrArg SlBlock.lq hsl :), (congrArg SlBlock.sq hsl :), (congrArg SlBlock.rlo hsl :), (congrArg SlBlock.acc hsl :),
      unlisted_same hk .doms (by decide), unlisted_same hk .out (by decide), hk.pend, fun hused => ?_⟩
    have hused' : (s.slWrite 6 (o % 2 ^ 22) s.sl.acc).sl.used ≠ 0 := hused
    rw [slNext, slStep_of_used hused']
    exact ⟨rfl, rfl, rfl, rfl⟩
  case toLq =>
    have ht : t = (s.slWrite 2 (o % 2 ^ 22) s.sl.acc).slNext 1 :=
      eq_slAction_of_slOp_next (use := .wordW) (op := 0x0B) rfl hact hbusy hexec
    subst ht
    have hk := slStep_keeps 1 (s.sl.pc + 1) (s.slWrite 2 (o % 2 ^ 22) s.sl.acc)
    have hsl := slStep_sl 1 (s.sl.pc + 1) (s.slWrite 2 (o % 2 ^ 22) s.sl.acc)
    refine ⟨(congrArg SlBlock.lq hsl :), (congrArg SlBlock.m hsl :), (congrArg SlBlock.sq hsl :), unlisted_same hk .pair (by decide),
      (congrArg SlBlock.rlo hsl :), (congrArg SlBlock.acc hsl :), unlisted_same hk .doms (by decide),
      unlisted_same hk .out (by decide), hk.pend, fun hused => ?_⟩
    have hused' : (s.slWrite 2 (o % 2 ^ 22) s.sl.acc).sl.used ≠ 0 := hused
    rw [slNext, slStep_of_used hused']
    exact ⟨rfl, rfl, rfl, rfl⟩

end Sys2Proof.SequenceLogic
end

section
/-! PROOFS. The instructions of Table 12-3, by the areas their operands lie in (12 R318, R320, R321, R328, R337). -/

namespace Sys2Proof.SequenceLogic
open Sys2Proof.Machine Sys2Proof.Machine.State Sys2Proof.Rules

variable {s : State} {a : Fin 16} {o : Nat}

/-! ### FIX (0x12) -/

theorem slAction_fix_number {area : Nat} (hnum : F32.isNaN (s.slWord area o) = false)
    (hfinite : F32.isInf (s.slWord area o) = false) :
    s.slAction 0x12 area o = (s.setAcc (roundAway (F32.val (s.slWord area o) * 1024))).slNext 2 := by
  simp [slAction, hnum, hfinite]

/-- FIX of what is no number gives 0. -/
theorem slAction_fix_nan {area : Nat} (hnan : F32.isNaN (s.slWord area o)) :
    s.slAction 0x12 area o = (s.setAcc 0).slNext 2 := by
  simp [slAction, hnan]

/-! ### END (0x18) -/

theorem slIrq_sl (i : Nat) (s : State) : (s.slIrq i).sl = s.sl := unlisted_same (irqPost_keeps 20 i s) .sl (by decide)

/-- END leaves the cycle ended, its requests waiting, one SYS cycle later. -/
theorem slAction_end_sl (area : Nat) (s : State) :
    (s.slAction 0x18 area o).sl.busy = false ∧ (s.slAction 0x18 area o).sl.ended = true ∧
      (s.slAction 0x18 area o).sl.writes = s.sl.writes ∧ (s.slAction 0x18 area o).sl.used = s.sl.used + 1 := by
  have hsl := slStep_sl 1 (s.sl.pc + 1) s
  simp only [slAction, slIrq_sl]
  exact ⟨rfl, rfl, (congrArg SlBlock.writes hsl :), (congrArg SlBlock.used hsl :)⟩

/-! ### The families -/

/-- Settles O43: each bit instruction acts on an operand in its area by its row of Table 12-3. -/
theorem sequenceBitInstructionsComplete : Obligations.SequenceBitInstructionsComplete := by
  intro s a o hact hbusy
  refine ⟨fun hok => ?reads, fun hok => ?writes, fun hok => ?edge⟩
  case reads =>
    have hacts (op : Nat) (huse : opUse op = some .bitR) := slOp_of_operandOk huse hact hbusy hok
    exact ⟨hacts 0x01 rfl, hacts 0x02 rfl, hacts 0x03 rfl, hacts 0x04 rfl, hacts 0x05 rfl, hacts 0x06 rfl⟩
  case writes =>
    have hacts (op : Nat) (huse : opUse op = some .bitW) := slOp_of_operandOk huse hact hbusy hok
    exact ⟨hacts 0x07 rfl, hacts 0x08 rfl, hacts 0x09 rfl⟩
  case edge =>
    exact slOp_of_operandOk (op := 0x14) (use := .bitM) rfl hact hbusy hok

/-- Settles O44: each word instruction acts on an operand in its area by its row of Table 12-3. -/
theorem sequenceWordInstructionsComplete : Obligations.SequenceWordInstructionsComplete := by
  intro s a o hact hbusy
  refine ⟨fun hok => ?reads, fun hok => ?store, fun hok n t hn ht => ?timer⟩
  case reads =>
    have hacts (op : Nat) (huse : opUse op = some .wordR) := slOp_of_operandOk huse hact hbusy hok
    refine ⟨hacts 0x0A rfl, hacts 0x0C rfl, hacts 0x0D rfl, hacts 0x0E rfl, hacts 0x0F rfl, hacts 0x10 rfl,
      hacts 0x11 rfl, fun hnum hfinite => ?_, fun hnan => ?_⟩
    · exact (hacts 0x12 rfl).trans (congrArg Host.Outcome.next (slAction_fix_number hnum hfinite))
    · exact (hacts 0x12 rfl).trans (congrArg Host.Outcome.next (slAction_fix_nan hnan))
  case store =>
    exact slOp_of_operandOk (op := 0x0B) (use := .wordW) rfl hact hbusy hok
  case timer =>
    subst hn ht
    exact slOp_of_operandOk (op := 0x13) (use := .timer) rfl hact hbusy hok

/-- Settles O45: each control instruction acts by its row of Table 12-3; END, MODE and SACK have no operand. -/
theorem sequenceControlInstructionsComplete : Obligations.SequenceControlInstructionsComplete := by
  intro s o hact hbusy
  have hbare (op : Nat) (huse : opUse op = some .none) : s.slOp op 0 0 = .next (s.slAction op 0 0) :=
    slOp_of_operandOk huse hact hbusy rfl
  refine ⟨fun hok => ?jumps, ?finish, fun hok => ?write, hbare 0x1A rfl, hbare 0x1B rfl⟩
  case jumps =>
    have hacts (op : Nat) (huse : opUse op = some .jump) := slOp_of_operandOk huse hact hbusy hok
    exact ⟨hacts 0x15 rfl, hacts 0x16 rfl, hacts 0x17 rfl⟩
  case finish =>
    exact ⟨s.slAction 0x18 0 0, hbare 0x18 rfl, slAction_end_sl 0 s⟩
  case write =>
    exact slOp_of_operandOk (op := 0x19) (use := .obj) rfl hact hbusy hok

/-- Settles O46: the test of the operand comes before the action, and the test for an executing cycle before both. -/
theorem sequenceOperandOutsideItsAreaStops : Obligations.SequenceOperandOutsideItsAreaStops := by
  intro s a o
  refine ⟨fun hact hbusy hout => ?bits, fun hact hbusy hout => ?word, fun hact hbusy hout => ?jump, fun hidle => ?idle⟩
  case bits =>
    have hstops (op : Nat) (huse : opUse op = some .bitR) := slOp_of_operand_outside huse hact hbusy hout
    exact ⟨hstops 0x01 rfl, hstops 0x06 rfl⟩
  case word =>
    exact slOp_of_operand_outside (op := 0x0B) (use := .wordW) rfl hact hbusy hout
  case jump =>
    exact slOp_of_operand_outside (op := 0x15) (use := .jump) rfl hact hbusy hout
  case idle =>
    exact ⟨slOp_of_no_cycle (op := 0x01) (use := .bitR) rfl hidle, slOp_of_no_cycle (op := 0x0B) (use := .wordW) rfl hidle,
      slOp_of_no_cycle (op := 0x15) (use := .jump) rfl hidle⟩

end Sys2Proof.SequenceLogic
end

section
/-! PROOFS. A program change in STOP or HALTED (12 R331). -/

namespace Sys2Proof.SequenceLogic
open Sys2Proof.Machine Sys2Proof.Machine.State

/-- What a switch of the banks says of the engine: the bank, whether a cycle executes, and its state. -/
def engine (s : State) : Nat × SlSt × Bool := (s.sl.act, s.sl.st, s.sl.busy)

theorem engine_foldl {f : State → Nat → State} (hf : ∀ t n, engine (f t n) = engine t) (l : List Nat) (s : State) :
    engine (l.foldl f s) = engine s := by
  induction l generalizing s with
  | nil => rfl
  | cons n l ih => exact (ih _).trans (hf s n)

/-- R330: INIT entries are written to M. -/
theorem slInit_engine (b : Bytes) (s : State) : engine (s.slInit b) = engine s := by
  unfold slInit
  refine engine_foldl (fun t n => ?_) _ s
  dsimp only
  refine engine_foldl (fun u i => ?_) _ t
  rfl

theorem slSwitch_engine (clear : Bool) (s : State) :
    engine (s.slSwitch clear true) = (1 - s.sl.act, s.sl.st, s.sl.busy) := by
  have hcleared : engine (if clear then s.clearMForces else s) = engine s := by
    cases clear
    · rfl
    · simp [engine, clearMForces]
  exact (slInit_engine _ _).trans (congrArg (fun e => (1 - e.1, e.2)) hcleared)

theorem setChg_sl (c : ChgSt) (s : State) : (s.setChg c).sl = { s.sl with chg := c } := slIrq_sl ..

theorem setChg_engine (c : ChgSt) (s : State) : engine (s.setChg c) = engine s := by
  rw [engine, setChg_sl, engine]

/-- R331: armed outside RUN, a verified change switches the banks and leaves the engine's state. -/
theorem slArm_of_not_run {s : State} (hst : s.sl.st ≠ .run) : s.slArm =
    ((s.slSet fun w => { w with armedAt := s.tm.cue }).slSwitch s.sl.chgClear true).setChg .switched := if_neg hst

/-- R323: SL_CMD 0x01 takes effect at the cycle start outside RUN, with the first cycle of the program. -/
theorem slCommand_run {s : State} (hcmd : s.sl.cmd = some 1) (hst : s.sl.st ≠ .run) :
    s.slCommand = (s.slSet fun w => { w with cmd := none }).slSet fun w =>
      { w with st := .run, first := true, busy := false, ended := false } := by
  rw [slCommand, hcmd]
  exact if_neg hst

/-- Settles O15: outside RUN the arming of a change is the switch, and the next start finds the new bank. -/
theorem aChangeInStopSwitchesAtOnce : Obligations.AChangeInStopSwitchesAtOnce := by
  intro s t hst ht
  rw [slArm_of_not_run hst] at ht
  have hengine : engine t = (1 - s.sl.act, s.sl.st, s.sl.busy) := by
    rw [ht, setChg_engine]
    exact slSwitch_engine ..
  obtain ⟨hbank, hstate, hbusy⟩ : t.sl.act = 1 - s.sl.act ∧ t.sl.st = s.sl.st ∧ t.sl.busy = s.sl.busy := by
    simpa [engine] using hengine
  have hchg : t.sl.chg = .switched := by rw [ht, setChg_sl]
  refine ⟨hbank, hchg, hstate, hbusy, fun u hu => ?_⟩
  have hstart := slCommand_run (s := t.slSet fun w => { w with cmd := some 1 }) rfl (hstate.trans_ne hst)
  subst hu
  rw [hstart]
  exact ⟨rfl, hbank, rfl⟩

end Sys2Proof.SequenceLogic
end

section
/-! PROOFS. The objects of the sequence logic engine, its image, forces and mode requests, and its stations (12 R316, R323, R326
to R334, R337). -/

namespace Sys2Proof.SequenceLogic
open Sys2Proof.Machine Sys2Proof.Machine.State Sys2Proof.Rules

variable {s : State} {v : Nat} {d : Bytes}

/-! ### SL_CMD and SL_CUES -/

theorem applySlCmd_run (hready : s.slReady) (hphase : s.sl.nextAt.isSome) :
    applySlCmd 1 s = .ok (s.slSet fun w => { w with cmd := some 1 }) := by
  have hnext : s.sl.nextAt ≠ none := Option.isSome_iff_ne_none.1 hphase
  simp [applySlCmd, hready, hnext]

/-- R316: the first need of cycles sets their phase. -/
theorem applySlCmd_run_phase (hready : s.slReady) (hnone : s.sl.nextAt = none) :
    applySlCmd 1 s = .ok ((s.slPhase).slSet fun w => { w with cmd := some 1 }) := by
  simp [applySlCmd, hready, hnone]

/-- Log entry 7: without a verified image in the active bank nothing is started. -/
theorem applySlCmd_run_refused (hbare : s.slReady = false) : applySlCmd 1 s = .error 6 := by
  simp [applySlCmd, hbare]

section
variable (hbank : s.sl.act = 0) (hok : s.sl.ok1)
include hbank hok

theorem applySlCmd_revert_running (hst : s.sl.st = .run) :
    applySlCmd 3 s = .ok (s.slSet fun w => { w with revert := true }) := by
  simp [applySlCmd, hbank, hok, hst]

theorem applySlCmd_revert_stopped (hst : s.sl.st ≠ .run) : applySlCmd 3 s = .ok (s.slSwitch true false) := by
  simp [applySlCmd, hbank, hok, hst]

end

theorem applySlCues_stopped (hlo : 5 ≤ v) (hhi : v ≤ 5000) (hst : s.sl.st = .stop) (hmode : s.sl.mode = .idle)
    (hnone : s.sl.nextAt = none) : applySlCues v s = .ok (s.oset Obj.slCues v) := by
  have hrange : ¬(v < 5 ∨ 5000 < v) := by omega
  simp [applySlCues, hrange, hst, hmode, hnone]

theorem applySlCues_running (hlo : 5 ≤ v) (hhi : v ≤ 5000) (hst : s.sl.st = .run) : applySlCues v s = .error 6 := by
  have hrange : ¬(v < 5 ∨ 5000 < v) := by omega
  simp [applySlCues, hrange, hst]

/-! ### SL_CHANGE, FORCE_TABLE, MODE_REQ -/

section
variable (hverifying : s.sl.chg ≠ .verifying) (harmed : s.sl.chg ≠ .armed)
include hverifying harmed

theorem applySlChange_keep (hforces : mForced (s.dg Obj.forceTable) = false) :
    applySlChange 1 s = .ok ((s.slSet fun w => { w with chgClear := false }).setChg .verifying) := by
  simp [applySlChange, hverifying, harmed, hforces]

/-- R334: M forces stand against a change that does not clear them. -/
theorem applySlChange_forced (hforces : mForced (s.dg Obj.forceTable)) : applySlChange 1 s = .error 6 := by
  simp [applySlChange, hverifying, harmed, hforces]

theorem applySlChange_clear :
    applySlChange 2 s = .ok ((s.slSet fun w => { w with chgClear := true }).setChg .verifying) := by
  simp [applySlChange, hverifying, harmed]

end

/-- R337: a request for a CUE is accepted unless the state or its lead refuses it. -/
theorem applyModeReq_cue (hmode : rd d 0 1 ≤ 14) (hanchor : rd d 1 1 = 0) (hzero : rd d 4 4 = 0) (hrings : rd d 2 2 < 4096)
    (hfree : s.modeRefused (rd d 0 1) (rd d 8 8 % 2 ^ 32) = false) :
    applyModeReq d s = .ok ((s.dset Obj.modeReq d).modeAccept (rd d 0 1) (rd d 8 8 % 2 ^ 32) (rd d 2 2)) := by
  have hrange : ¬(14 < rd d 0 1 ∨ 1 < rd d 1 1 ∨ rd d 4 4 ≠ 0 ∨ 2 ^ 12 ≤ rd d 2 2) := by omega
  have hcue : ¬(rd d 1 1 = 1 ∧ s.tm.tb1State ≠ .locked) := by omega
  rw [applyModeReq]
  simp only [if_neg hrange, if_neg hcue, if_pos hanchor, hfree, Bool.false_eq_true, if_false]

/-! ### Stations -/

theorem applyReadmit_returning (hslot : v < 1152) (hst : (s.stn v).st = .returning) :
    applyReadmit v s = .ok (s.setStn v { s.stn v with readmit := true }) := by
  rw [applyReadmit, if_neg (by omega), if_neg (Nat.not_le.2 hslot), if_pos hst]

theorem execStationResponse_taken {p : Nat} {f : Bytes} {e : FrameEnd} {r : Rx} (hrec : Received s p f e 0x31 true r)
    (hact : r.st.activeHead) (hlen : r.pl.length = 16) (hflags : r.hdr.flags = 0x80) (hlo : 1 ≤ hopOf r.hdr.src)
    (hhi : hopOf r.hdr.src ≤ 96) : execStationResponse p f e s =
    .next (r.st.stnResponse (96 * r.st.ringOfPort p + hopOf r.hdr.src - 1) r.pl) := by
  have htaken : ¬((!r.st.activeHead) = true ∨ r.pl.length ≠ 16 ∨ r.hdr.flags ≠ 0x80) := by simp [hact, hlen, hflags]
  have hnumbered : ¬(hopOf r.hdr.src = 0 ∨ 96 < hopOf r.hdr.src) := by omega
  rw [execStationResponse, rxTyped_of_received hrec, if_neg htaken, if_neg hnumbered]

/-- Settles O49: the object writes by what their handlers answer, the frames by what their reception hands on. -/
theorem sequenceEngineCommandsComplete : Obligations.SequenceEngineCommandsComplete := by
  intro s
  refine ⟨?run, ?runRefused, ?runPhase, ?stop, ?revertRunning, ?revertStopped, ?cues, ?cuesRefused, ?load, ?change,
    ?changeRefused, ?changeClear, ?verified, ?force, ?readmit, ?modeReq, ?cycleStart, ?stationOut, ?response, ?timeout⟩
  case run =>
    intro acc hready hphase
    exact takes_of_handler_ok rfl (applySlCmd_run hready hphase)
  case runRefused =>
    intro acc hbare
    exact refuses_of_handler_error rfl (applySlCmd_run_refused hbare)
  case runPhase =>
    intro acc hready hnone
    exact takes_of_handler_ok rfl (applySlCmd_run_phase hready hnone)
  case stop =>
    intro acc
    exact takes_of_handler_ok rfl rfl
  case revertRunning =>
    intro acc hbank hok hst
    exact takes_of_handler_ok rfl (applySlCmd_revert_running hbank hok hst)
  case revertStopped =>
    intro acc hbank hok hst
    exact takes_of_handler_ok rfl (applySlCmd_revert_stopped hbank hok hst)
  case cues =>
    intro acc v hlo hhi hst hmode hnone
    exact takes_of_handler_ok rfl (applySlCues_stopped hlo hhi hst hmode hnone)
  case cuesRefused =>
    intro acc v hlo hhi hst
    exact refuses_of_handler_error rfl (applySlCues_running hlo hhi hst)
  case load =>
    intro acc d t hok
    exact takesBytes_of_handler_ok rfl hok
  case change =>
    intro acc hverifying harmed hforces
    exact takes_of_handler_ok rfl (applySlChange_keep hverifying harmed hforces)
  case changeRefused =>
    intro acc hverifying harmed hforces
    exact refuses_of_handler_error rfl (applySlChange_forced hverifying harmed hforces)
  case changeClear =>
    intro acc hverifying harmed
    exact takes_of_handler_ok rfl (applySlChange_clear hverifying harmed)
  case verified =>
    intro hon hverifying
    exact if_pos ⟨hon, hverifying⟩
  case force =>
    intro acc d old hok hold
    subst hold
    exact takesBytes_of_handler_ok rfl (if_pos hok)
  case readmit =>
    intro acc v hslot hst
    exact takes_of_handler_ok rfl (applyReadmit_returning hslot hst)
  case modeReq =>
    intro acc d hmode hanchor hzero hrings hfree
    exact takesBytes_of_handler_ok rfl (applyModeReq_cue hmode hanchor hzero hrings hfree)
  case cycleStart =>
    intro pins a hphase hact hcue
    rfl
  case stationOut =>
    intro p f e r hrec hcell hflags hdst
    exact congrArg Host.Outcome.next ((rxTyped_of_received hrec _).trans (if_pos ⟨hcell, hflags, hdst⟩))
  case response =>
    intro p f e r hrec hact hlen hflags hlo hhi
    exact execStationResponse_taken hrec hact hlen hflags hlo hhi
  case timeout =>
    intro hcell hage hst
    exact if_pos ⟨hcell, hage, hst⟩

end Sys2Proof.SequenceLogic
end

section
/-! PROOFS. A safety input pair at one sample (13 R357, R359). -/

namespace Sys2Proof.Safety
open Sys2Proof.Machine

variable {p : SiPair} {flt disc : Nat} {l1 l2 : Bool}

/-- The pair with its channels filtered at a sample, before the sample is judged (R356). -/
def filtered (p : SiPair) (flt : Nat) (l1 l2 : Bool) : SiPair :=
  { p with f1 := (siFilter flt p.f1 p.n1 l1).1, n1 := (siFilter flt p.f1 p.n1 l1).2,
           f2 := (siFilter flt p.f2 p.n2 l2).1, n2 := (siFilter flt p.f2 p.n2 l2).2 }

/-- The run of samples at which the channels disagree (R358). -/
def discAfter (q : SiPair) : Nat := if q.c1 != q.c2 then q.disc + 1 else 0

/-- The latch of R359 as a sample finds it: set where the disagreement reaches its limit. -/
def latchHit (q : SiPair) (disc : Nat) : Nat := if (q.c1 != q.c2) && discAfter q == disc then 1 else q.lat

/-- The latch of R359 after a sample: it waits for both channels to demand (1), then for both not to (2). -/
def latchAfter (q : SiPair) (disc : Nat) : Nat :=
  if latchHit q disc = 1 ∧ q.c1 ∧ q.c2 then 2 else if latchHit q disc = 2 ∧ !q.c1 ∧ !q.c2 then 0 else latchHit q disc

/-- A pair of type 1 or 2 at a sample. -/
theorem sample_of_demand_type (hty : p.ty = 1 ∨ p.ty = 2) : (p.sample flt disc l1 l2).1 =
    { filtered p flt l1 l2 with disc := discAfter (filtered p flt l1 l2), lat := latchAfter (filtered p flt l1 l2) disc,
                                fail := latchAfter (filtered p flt l1 l2) disc != 0 } := by
  have hused : p.ty ≠ 0 := by omega
  have hdemand : p.ty ≠ 3 := by omega
  rw [SiPair.sample, if_neg hused, if_neg hdemand]
  rfl

theorem c1_eq {q : SiPair} (hty : q.ty = 1 ∨ q.ty = 2) : q.c1 = (q.f1 == demandHigh q.ty 0) := by
  rcases hty with h | h <;> simp [SiPair.c1, h]

theorem c2_eq {q : SiPair} (hty : q.ty = 1 ∨ q.ty = 2) : q.c2 = (q.f2 == demandHigh q.ty 1) := by
  rcases hty with h | h <;> simp [SiPair.c2, h]

theorem dem_iff {q : SiPair} (hty : q.ty = 1 ∨ q.ty = 2) : q.dem = true ↔ q.lat ≠ 0 ∨ q.c1 = true ∨ q.c2 = true := by
  rcases hty with h | h <;> simp [SiPair.dem, h]

/-- With both channels at no demand a latch waits on for a demand, and is gone once it has had one. -/
theorem latchAfter_no_demand {q : SiPair} (hlat : q.lat ≤ 2) (h1 : q.c1 = false) (h2 : q.c2 = false) :
    latchAfter q disc ≠ 0 ↔ q.lat = 1 := by
  have hhit : latchHit q disc = q.lat := by simp [latchHit, h1, h2]
  simp only [latchAfter, hhit, h1, h2]
  interval_cases q.lat <;> simp

/-- A latch that waits for a demand waits on, or both channels demand. -/
theorem latchAfter_of_waiting {q : SiPair} (hlat : q.lat = 1) :
    latchAfter q disc = 1 ∨ (q.c1 = true ∧ q.c2 = true ∧ latchAfter q disc = 2) := by
  have hhit : latchHit q disc = 1 := by rw [latchHit, hlat, ite_self]
  rw [latchAfter, hhit]
  by_cases hboth : q.c1 = true ∧ q.c2 = true
  · exact .inr ⟨hboth.1, hboth.2, if_pos ⟨rfl, hboth⟩⟩
  · exact .inl (by simp [hboth])

/-- Settles O22: the pair demands while a channel does or the latch stands, and the latch outlasts the channels only while it
waits for a demand of both. -/
theorem pairsDemandOnEitherChannel : Obligations.PairsDemandOnEitherChannel := by
  intro p q flt disc l1 l2 hty hlat hq
  rw [sample_of_demand_type hty] at hq
  have hqty : q.ty = p.ty := by rw [hq]; rfl
  have hqlat : q.lat = latchAfter (filtered p flt l1 l2) disc := by rw [hq]
  have hc1 : (filtered p flt l1 l2).c1 = (q.f1 == demandHigh p.ty 0) := by rw [hq]; exact c1_eq hty
  have hc2 : (filtered p flt l1 l2).c2 = (q.f2 == demandHigh p.ty 1) := by rw [hq]; exact c2_eq hty
  have hdem : q.dem = true ↔ q.lat ≠ 0 ∨ q.f1 = demandHigh p.ty 0 ∨ q.f2 = demandHigh p.ty 1 := by
    rw [dem_iff (hqty ▸ hty), c1_eq (hqty ▸ hty), c2_eq (hqty ▸ hty), hqty, beq_iff_eq, beq_iff_eq]
  refine ⟨fun h => hdem.2 (.inr h), fun h1 h2 => ?_, fun hwait => ?_, hqty⟩
  · have hcalm := latchAfter_no_demand (disc := disc) (q := filtered p flt l1 l2) hlat
      (hc1.trans (beq_false_of_ne h1)) (hc2.trans (beq_false_of_ne h2))
    rw [hdem, hqlat, hcalm]
    simp [h1, h2, filtered]
  · have hwaits := latchAfter_of_waiting (disc := disc) (q := filtered p flt l1 l2) hwait
    rwa [hc1, hc2, ← hqlat, beq_iff_eq, beq_iff_eq] at hwaits

end Sys2Proof.Safety
end

section
/-! PROOFS. The commands of the safety block: its states, the parameter CRC, inputs, outputs and supply windows (13 R343, R345,
R346, R356, R362, R363, Table 13-7). -/

namespace Sys2Proof.Safety
open Sys2Proof.Machine Sys2Proof.Machine.State Sys2Proof.Rules

variable {s : State}

theorem applySafeCmd_config (hst : s.saf.st = .run) : applySafeCmd 1 s = .ok ((s.setSaf .config).safUpdate 0) :=
  if_pos hst

theorem applySafeCmd_config_refused (hst : s.saf.st ≠ .run) : applySafeCmd 1 s = .error 6 := if_neg hst

theorem applySafeCmd_verify (hst : s.saf.st = .config) : applySafeCmd 2 s = .ok s.safVerify := if_pos hst

theorem applySafeCmd_verify_refused (hst : s.saf.st ≠ .config) : applySafeCmd 2 s = .error 6 := if_neg hst

/-- R345, R346: what the check of the parameter CRC does in RUN. -/
theorem execSafeCrcCheck_run (hwork : s.working) (hst : s.saf.st = .run) : execSafeCrcCheck s =
    .next (if s.safCrc = (s.oset Obj.safeCrcNow s.safCrc).og Obj.safeCrc then s.oset Obj.safeCrcNow s.safCrc
      else (s.oset Obj.safeCrcNow s.safCrc).safLockout) := if_pos ⟨hwork, hst⟩

/-- R362: the pulse of an output that is on starts at its next instant, if that has not had its pulse. -/
theorem execSoTestPulse_due {i : Fin 4} {per off t : Nat} (hwork : s.working) (hon : (s.soRec i.val).on)
    (hpulse : (s.soRec i.val).pulse = none)
    (hother : (s.soRec (if i.val % 2 = 0 then i.val + 1 else i.val - 1)).pulse = none)
    (hper : per = s.og (Obj.soTpPeriod i.val) * 1000000) (hoff : off = (if i.val % 2 = 0 then 0 else per / 2))
    (ht : t = (s.tm.tb2 + per - 1 - off) / per * per + off) (hlast : (s.soRec i.val).lastPulse ≠ some t) :
    execSoTestPulse i s = .next ((s.toTb2 t).setSo i.val
      { s.soRec i.val with pulse := some t, lowSeen := false, lastPulse := some t }) := by
  have hready : ¬((!s.working) = true ∨ (!(s.soRec i.val).on) = true ∨ (s.soRec i.val).pulse.isSome ∨
      (s.soRec (if i.val % 2 = 0 then i.val + 1 else i.val - 1)).pulse.isSome) := by
    simp [hwork, hon, hpulse, hother]
  subst hper hoff ht
  simp only [execSoTestPulse, if_neg hready, if_neg hlast]

theorem execSoTestPulseEnd_pulse {i : Fin 4} {t : Nat} (hpulse : (s.soRec i.val).pulse = some t) (hwork : s.working) :
    execSoTestPulseEnd i s = .next ((s.toTb2 (t + s.og (Obj.soTpWidth i.val) * 1000)).setSo i.val
      { s.soRec i.val with pulse := none, lows := 0, highs := 0 }) := by
  simp only [execSoTestPulseEnd, hpulse]
  exact if_pos hwork

theorem execSupplyWindowComparator_input {i n : Nat} {outside : Bool} (hrun : s.running) (hlo : 17 ≤ i) (hhi : i ≤ 23) :
    execSupplyWindowComparator i outside n s = if outside then
      .next ((((s.safSet fun w => { w with supply := setBit s.saf.supply i }).raise 9 i).diagStop).safUpdate n)
    else .next (((s.safSet fun w => { w with supply := clrBit s.saf.supply i }).release 9 i).safUpdate n) := by
  have hinput : ¬((!s.running) = true ∨ i < 17 ∨ 23 < i) := by simp [hrun, hlo, hhi]
  rw [execSupplyWindowComparator, if_neg hinput]

/-- Settles O50: SAFE_CMD by what its handler answers in each state, each event in the states the rules name. -/
theorem safetyBlockCommandsComplete : Obligations.SafetyBlockCommandsComplete := by
  intro s
  refine ⟨?config, ?configRefused, ?verify, ?verifyRefused, ?crcGood, ?crcBad, ?mismatch, ?input, ?pulse, ?pulseEnd,
    ?readback, ?supplyOut, ?supplyIn⟩
  case config =>
    intro acc hst
    exact takes_of_handler_ok rfl (applySafeCmd_config hst)
  case configRefused =>
    intro acc hst
    exact refuses_of_handler_error rfl (applySafeCmd_config_refused hst)
  case verify =>
    intro acc hst
    exact takes_of_handler_ok rfl (applySafeCmd_verify hst)
  case verifyRefused =>
    intro acc hst
    exact refuses_of_handler_error rfl (applySafeCmd_verify_refused hst)
  case crcGood =>
    intro hwork hst hcrc
    exact (execSafeCrcCheck_run hwork hst).trans (congrArg Host.Outcome.next (if_pos hcrc))
  case crcBad =>
    intro hwork hst hcrc
    exact (execSafeCrcCheck_run hwork hst).trans (congrArg Host.Outcome.next (if_neg hcrc))
  case mismatch =>
    intro hwork
    exact if_pos hwork
  case input =>
    intro l n hwork
    exact if_pos hwork
  case pulse =>
    intro i per off t u hwork hon hpulse hother hper hoff ht hlast hu
    subst hu
    exact execSoTestPulse_due hwork hon hpulse hother hper hoff ht hlast
  case pulseEnd =>
    intro i t hpulse hwork
    exact execSoTestPulseEnd_pulse hpulse hwork
  case readback =>
    intro i l n hwork
    exact if_pos hwork
  case supplyOut =>
    intro i n hrun hlo hhi
    exact execSupplyWindowComparator_input hrun hlo hhi
  case supplyIn =>
    intro i n hrun hlo hhi
    exact execSupplyWindowComparator_input hrun hlo hhi

end Sys2Proof.Safety
end

section
/-! PROOFS. Safe messages and their supervision, the CURTAIN of a ring, safety tests (13 R350, R353, R370 to R372, R376 to
R378). -/

namespace Sys2Proof.Safety
open Sys2Proof.Machine Sys2Proof.Machine.State Sys2Proof.Rules

variable {s : State} {c : Nat}

/-- R371: a cell takes a copy by the port it comes from. -/
theorem execSafeMessage_cell {p n : Nat} {f : Bytes} {e : FrameEnd} {r : Rx} (hrec : Received s p f e 0x20 true r)
    (hcell : r.st.isCell) (haddr : r.st.addressed r.hdr) : execSafeMessage (.ring p f e) n s =
    .next ((r.st.safRing (r.st.ringOfPort p) p r.hdr.src r.hdr.dst r.pl).safUpdate n) := by
  rw [execSafeMessage, rxTyped_of_received hrec]
  simp only [if_pos haddr, if_pos hcell]

theorem execSafeTxTimer_net (hact : s.activeHead) (hc : c < 16) (hused : s.sconnUsed c) : execSafeTxTimer c s =
    .next ((s.toTb2 ((s.sconn c).sentAt + rd (s.dg (Obj.sconnCfg c)) 6 2 * 1000000)).safSend c) := by
  simp only [execSafeTxTimer, if_pos (And.intro hact hc), if_pos hused]

theorem execSafeTxTimer_ring (hact : s.activeHead) (hlo : 0x2000 ≤ c) (hhi : c < 0x200C)
    (hdue : rd (s.dg Obj.scellCfg) 0 2 ≤ subMod 32 s.tm.cue (s.sconn c).sentCue)
    (hway : s.portUp (c - 0x2000) ∨ s.farReachable (c - 0x2000)) : execSafeTxTimer c s = .next (s.safSend c) := by
  have hnet : ¬(s.activeHead ∧ c < 16) := fun h => absurd h.2 (by omega)
  simp only [execSafeTxTimer, if_neg hnet, if_pos (And.intro hact (And.intro hlo hhi)), if_pos (And.intro hdue hway)]

/-- R372: a connection whose echo does not lag times out WD after its last SCOUNT. -/
theorem execSafeWatchdogTimeout_due (hwork : s.working) (hst : (s.sconn c).st = 1) (hused : s.sconnUsed c)
    (hlag : (s.sconn c).lagAt = none) {t u : State} (ht : t = s.toTb2 ((s.sconn c).at2 + s.sconnWd c))
    (hu : u = (t.setSconn c { s.sconn c with st := 2 }).connLog 5 c (t.sconnEcho c)) :
    execSafeWatchdogTimeout c s = .next ((((u.safIrq 5).raise 6 c).diagStop).safUpdate 0) := by
  have hwatched : ¬((!s.working) = true ∨ (s.sconn c).st = 2 ∨ (!s.sconnUsed c) = true ∨
      ((s.sconn c).st = 0 ∧ ((!s.sconnNet c) = true ∨ s.saf.st ≠ .run))) := by
    simp [hwork, hst, hused]
  subst ht hu
  simp only [execSafeWatchdogTimeout, if_neg hwatched, hlag]

section
variable (hwork : s.working)
include hwork

theorem execSafePathLoss_first (hmiss : 8 ≤ (s.sconn c).missA) (hfresh : (s.sconn c).lostA = false) :
    execSafePathLoss c 0 s = .next ((s.setSconn c { s.sconn c with lostA := true }).raise 7 c) := by
  simp [execSafePathLoss, hwork, hmiss, hfresh]

theorem execSafePathLoss_second (hmiss : 8 ≤ (s.sconn c).missB) (hfresh : (s.sconn c).lostB = false) :
    execSafePathLoss c 1 s = .next ((s.setSconn c { s.sconn c with lostB := true }).raise 7 c) := by
  simp [execSafePathLoss, hwork, hmiss, hfresh]

end

/-- R350: the lift of a released ring is sent 1,100 LTX cycles after the release. -/
theorem execCurtainLiftDelay_released {p t : Nat} {u : State} {l : Nat}
    (hrel : Kv.get (fun _ => none) s.saf.relAt p = some t) (hact : s.activeHead) (hcurtain : (s.ringRec p).curtain = false)
    (hu : u = s.toTb2 (t + 3520)) (hl : l = (u.tm.cue + Kv.get (fun _ => 2) u.saf.lead p) % 2 ^ 32) :
    ∃ v, execCurtainLiftDelay p s = .next (v.sendLift p (v.ringCast p) l) ∧ v = u.safSet fun w => { w with
      relAt := Kv.put (fun _ => none) p none w.relAt, lift := Kv.put (fun _ => none) p (some l) w.lift } := by
  have hfree : s.activeHead ∧ (!(s.ringRec p).curtain) = true := by simp [hact, hcurtain]
  subst hu hl
  refine ⟨_, ?_, rfl⟩
  simp only [execCurtainLiftDelay, hrel, if_pos hfree]

/-- Settles O51: messages by what their reception hands on, timers and watchdogs in the states the rules name. -/
theorem safetyMessageCommandsComplete : Obligations.SafetyMessageCommandsComplete := by
  intro s
  refine ⟨?net, ?ring, ?txNet, ?txRing, ?watchdog, ?pathA, ?pathB, ?lift, ?unexpected, ?test, ?testEnd⟩
  case net =>
    intro p m n hon
    exact if_pos hon
  case ring =>
    intro p f e n r hrec hcell haddr
    exact execSafeMessage_cell hrec hcell haddr
  case txNet =>
    intro c hact hc hused
    exact execSafeTxTimer_net hact hc hused
  case txRing =>
    intro c hact hlo hhi hdue hway
    exact execSafeTxTimer_ring hact hlo hhi hdue hway
  case watchdog =>
    intro c t u hwork hst hused hlag ht hu
    exact execSafeWatchdogTimeout_due hwork hst hused hlag ht hu
  case pathA =>
    intro c hwork hmiss hfresh
    exact execSafePathLoss_first hwork hmiss hfresh
  case pathB =>
    intro c hwork hmiss hfresh
    exact execSafePathLoss_second hwork hmiss hfresh
  case lift =>
    intro p t u l hrel hact hcurtain hu hl
    exact execCurtainLiftDelay_released hrel hact hcurtain hu hl
  case unexpected =>
    intro p n t hact hunexp ht
    subst ht
    exact if_pos ⟨hact, hunexp⟩
  case test =>
    intro acc d t hok
    exact takesBytes_of_handler_ok rfl hok
  case testEnd =>
    intro t htest hwork
    change execSafeTestEnd s = _
    rw [execSafeTestEnd, htest]
    exact if_pos hwork

end Sys2Proof.Safety
end

section
/-! PROOFS. Sparse tables in canonical form read back what was written. -/

namespace Sys2Proof.Stores
open Sys2Proof.Machine

variable {α : Type} [DecidableEq α] {d : Nat → α} {j k lo : Nat} {v : α} {m : Kv α}

/-- The keys of a table in canonical form rise, so a key below them all is unlisted. -/
theorem get_of_lt_lowest (hwf : Kv.wfFrom d lo m = true) (hk : k < lo) : Kv.get d m k = d k := by
  cases m with
  | nil => rfl
  | cons e t =>
    simp only [Kv.wfFrom, Bool.and_eq_true, decide_eq_true_eq] at hwf
    obtain ⟨⟨hlo, -⟩, -⟩ := hwf
    rw [Kv.get, if_neg (by omega), if_pos (by omega)]

theorem get_put_of_wfFrom (hwf : Kv.wfFrom d lo m = true) :
    Kv.get d (Kv.put d k v m) j = if j = k then v else Kv.get d m j := by
  induction m generalizing lo with
  | nil =>
    by_cases hv : v = d k
    · by_cases hj : j = k <;> simp [Kv.put, Kv.get, hv, hj]
    · simp [Kv.put, Kv.get, hv]
  | cons e t ih =>
    obtain ⟨i, w⟩ := e
    simp only [Kv.wfFrom, Bool.and_eq_true, decide_eq_true_eq] at hwf
    obtain ⟨-, htail⟩ := hwf
    rcases lt_trichotomy k i with hlt | rfl | hgt
    · by_cases hv : v = d k
      · rw [Kv.put, if_pos hlt, if_pos hv]
        split
        case isTrue hj => rw [Kv.get, if_neg (by omega), if_pos (by omega), hj, hv]
        case isFalse => rfl
      · rw [Kv.put, if_pos hlt, if_neg hv, Kv.get]
        by_cases hj : j < k
        · rw [if_pos hj, if_neg (by omega), if_neg (by omega), Kv.get, if_neg (by omega), if_pos (by omega)]
        · rw [if_neg hj]
    · rw [Kv.put, if_neg (Nat.lt_irrefl k), if_pos rfl]
      by_cases hv : v = d k
      · rw [if_pos hv]
        by_cases hj : j ≤ k
        · rw [get_of_lt_lowest htail (Nat.lt_succ_of_le hj)]
          by_cases heq : j = k
          · rw [if_pos heq, heq, hv]
          · rw [if_neg heq, Kv.get, if_neg heq, if_pos (by omega)]
        · rw [if_neg (by omega), Kv.get, if_neg (by omega), if_neg (by omega)]
      · rw [if_neg hv, Kv.get, Kv.get]
        split <;> rfl
    · rw [Kv.put, if_neg (by omega), if_neg (by omega), Kv.get, Kv.get, ih htail]
      by_cases hj : j = k
      · rw [if_pos hj, if_pos hj, if_neg (by omega), if_neg (by omega)]
      · rw [if_neg hj, if_neg hj]

/-- A table in canonical form holds what was written, and at every other key what it held. -/
theorem get_put (hwf : Kv.wf d m = true) : Kv.get d (Kv.put d k v m) j = if j = k then v else Kv.get d m j :=
  get_put_of_wfFrom hwf

/-- Settles O7: the three stores are tables in canonical form. -/
theorem aWrittenObjectReadsBack : Obligations.AWrittenObjectReadsBack := by
  intro s k j ⟨hobjs, hdoms, hregs⟩
  exact ⟨fun _ => get_put hobjs, fun _ => get_put hdoms, fun _ => get_put hregs⟩

/-- Settles O1: the queue's front command runs on the queue's rest. -/
theorem aStepRunsTheFrontCommand : Obligations.AStepRunsTheFrontCommand := by
  intro c rest s
  exact Scope.step_of_pending_cons rfl

end Sys2Proof.Stores
end

section
/-! PROOFS. The tests of a write in their order, and what a refused write and an answer leave unchanged (16 R440, 14 R394,
16 R463). -/

namespace Sys2Proof.Access
open Sys2Proof.Machine Sys2Proof.Machine.State Sys2Proof.Laws Sys2Proof.Scope Sys2Proof.Rules

variable {s t : State} {a : Accessor} {k n : Nat} {r : DictRow} {d : Bytes}

/-! ### The tests, each behind those before it -/

theorem writeTests_held (hhold : s.pw.faultHold = true) (hnot : servedInHold k = false) :
    s.writeTests a k n = 0x0C := by
  simp [writeTests, hhold, hnot]

section
variable (hserved : ¬(s.pw.faultHold = true ∧ servedInHold k = false))
include hserved

theorem writeTests_unknown (hrow : Dict.lookup k = none) : s.writeTests a k n = 0x01 := by
  simp_all [writeTests]

theorem writeTests_absent (hrow : Dict.lookup k = some r) (habs : s.rowPresent r = false) :
    s.writeTests a k n = 0x02 := by
  simp_all [writeTests]

variable (hrow : Dict.lookup k = some r) (hpres : s.rowPresent r)
include hrow hpres

theorem writeTests_rights (hcol : rights r a ≠ .rw) : s.writeTests a k n = 0x03 := by
  simp_all [writeTests]

theorem writeTests_stream (hcap : s.capDenied a k) : s.writeTests a k n = 0x03 := by
  simp_all [writeTests]

variable (hcol : rights r a = .rw) (hcap : s.capDenied a k = false)
include hcol hcap

theorem writeTests_length (hlen : writeLenOk k r n = false) : s.writeTests a k n = 0x07 := by
  simp_all [writeTests]

variable (hlen : writeLenOk k r n)
include hlen

/-- What is left of the tests behind the length: the standing and the token of a control-writing write. -/
theorem writeTests_control : s.writeTests a k n =
    if r.ctl && (accSeat a).isSome && s.understudy && s.isHead then 0x06
    else if r.ctl && !s.holdsToken a then 0x04 else 0 := by
  simp_all [writeTests]

end

/-- An UNDERSTUDY is a HEAD. -/
theorem isHead_of_understudy (hunder : s.understudy) : s.isHead := by
  simp only [understudy, headOn, Bool.and_eq_true] at hunder
  exact hunder.1.2

/-- Settles O10: each test stands behind those before it. -/
theorem writeTestsAnswerInOrder : Obligations.WriteTestsAnswerInOrder := by
  intro s a k n
  refine ⟨writeTests_held, writeTests_unknown, fun r => writeTests_absent, fun r => writeTests_rights,
    fun r => writeTests_stream, fun r => writeTests_length, ?understudy, ?token, ?passed⟩
  case understudy =>
    intro r q hserved hrow hpres hcol hcap hlen hctl hseat hunder
    rw [writeTests_control hserved hrow hpres hcol hcap hlen, hctl, hseat, hunder, isHead_of_understudy hunder]
    rfl
  case token =>
    intro r hserved hrow hpres hcol hcap hlen hctl hunder htoken
    rw [writeTests_control hserved hrow hpres hcol hcap hlen]
    simp [hctl, hunder, htoken]
  case passed =>
    intro r hserved hrow hpres hcol hcap hlen hctl
    rw [writeTests_control hserved hrow hpres hcol hcap hlen]
    cases hr : r.ctl with
    | false => rfl
    | true =>
      obtain ⟨hunder, htoken⟩ := hctl hr
      simp [hunder, htoken]

/-! ### Refused writes and answers -/

/-- The parts that the acceptance of a write may change: the lease, the mirror queue, and those of an answer. -/
def acceptedParts : List Part := .pair :: answerParts

theorem accepted_keeps (a : Accessor) (k : Nat) (d : Bytes) (s : State) :
    Keep (Among acceptedParts) s (s.accepted a k d) := by
  have lhead := lets_among_head
  have ltail := lets_among_tail
  unfold acceptedParts answerParts
  exact keep_State_accepted (keep_refl _ s)

theorem not_unserved (hrun : s.running) (hpath : s.accPresent a) : ¬(!s.running || !s.accPresent a) = true := by
  simp [hrun, hpath]

theorem writeObject_tested (hrun : s.running) (hpath : s.accPresent a) (htests : s.writeTests a k d.length ≠ 0) :
    s.writeObject a k d = s.answer a k (s.writeTests a k d.length) true := by
  rw [writeObject, if_neg (not_unserved hrun hpath), guardedWrite_tested hrun hpath htests, writeAside, if_pos htests]

/-- R394: a write whose own tests pass is refused while the mirror queue is full. -/
theorem guardedWrite_mirrorFull {h : State → Except Nat State} (hrun : s.running) (hpath : s.accPresent a)
    (htests : s.writeTests a k d.length = 0) (hfull : s.mirrorFull a k) (hok : h s = .ok t) :
    s.guardedWrite a k d h = (s.answer a k 6 true).irqPost 23 4 := by
  simp only [guardedWrite, if_neg (not_unserved hrun hpath), htests, hok, if_pos hfull]

/-- Settles O11: a write that a test stops is the answer alone, and an answer changes the parts of an answer. -/
theorem refusedWritesChangeNoObject : Obligations.RefusedWritesChangeNoObject := by
  intro s a k d
  refine ⟨fun hrun hpath htests => ?tested, fun t hrun hpath htests hfull hok => ?full, fun c w => ?answer, ?accepted⟩
  case tested =>
    exact congrArg Host.Outcome.next (writeObject_tested hrun hpath htests)
  case full =>
    refine congrArg Host.Outcome.next ?_
    rw [writeObject, if_neg (not_unserved hrun hpath), guardedWrite_mirrorFull hrun hpath htests hfull hok]
  case answer =>
    have hk := answer_keeps a k c w s
    exact ⟨answer_objs .., unlisted_same hk .doms (by decide), hk.pend, unlisted_same hk .pwm (by decide),
      unlisted_same hk .ring (by decide), answer_tm ..⟩
  case accepted =>
    have hk := accepted_keeps a k d s
    exact ⟨unlisted_same hk .objs (by decide), unlisted_same hk .doms (by decide), unlisted_same hk .pwm (by decide),
      unlisted_same hk .ring (by decide), unlisted_same hk .tm (by decide)⟩

end Sys2Proof.Access
end

section
/-! PROOFS. The fault collector's commands and FENCE_CMD (14 R383, R385 to R392, Table 14-3). -/

namespace Sys2Proof.Faults
open Sys2Proof.Machine Sys2Proof.Machine.State Sys2Proof.Rules

variable {s : State} {src inst : Nat}

/-! ### The collector -/

theorem execFaultQuietExpiry_quiet (hrun : s.running) (hst : (s.fsrc src).st = .quiet) : execFaultQuietExpiry src s =
    .next ((s.toTb2 ((s.fsrc src).quietAt + s.og (Obj.fltQuiet src) * 1000000)).quietEnd src) := if_pos ⟨hrun, hst⟩

/-- Table 14-3: FLT_FORGIVE seconds without an assertion take one from RCNT. -/
theorem execFaultForgiveExpiry_counted {t : State} (hrun : s.running) (hforgive : s.og Obj.fltForgive ≠ 0)
    (hcount : 0 < (s.fsrc src).rcnt) (hst : (s.fsrc src).st ≠ .latched) (hon : (s.fsrc src).on = [])
    (ht : t = s.toTb2 ((s.fsrc src).lastAt + s.og Obj.fltForgive * 1000000000)) : execFaultForgiveExpiry src s =
    .next (t.setFsrc src { s.fsrc src with rcnt := (s.fsrc src).rcnt - 1, lastAt := t.tm.tb2 }) := by
  have hforgiven : s.running ∧ s.og Obj.fltForgive ≠ 0 ∧ 0 < (s.fsrc src).rcnt ∧ (s.fsrc src).st ≠ .latched ∧
      (s.fsrc src).on.isEmpty := ⟨hrun, hforgive, hcount, hst, List.isEmpty_iff.2 hon⟩
  subst ht
  exact if_pos hforgiven

theorem applyFltCmd_release (hhold : s.pw.faultHold) : applyFltCmd 3 s = .ok s.holdRelease := if_pos hhold

theorem applyFltCmd_release_refused (hfree : s.pw.faultHold = false) : applyFltCmd 3 s = .error 6 := by
  simp [applyFltCmd, hfree]

/-! ### FENCE_CMD (R387) -/

section
variable {p h : Nat} (hp : p < 12) (hlo : 1 ≤ h) (hhi : h ≤ 96)
include hp hlo hhi

/-- The two fence commands write their code, port and hop as one value. -/
theorem fenceCmd_value (code : Nat) : code * 0x10000 + p % 256 * 256 + h % 256 = code * 0x10000 + p * 256 + h := by
  omega

theorem exec_fenceCmdFence (acc : Accessor) (s : State) : exec (.fenceCmdFence acc p h) s =
    .next (s.guardedValue acc Obj.fenceCmd (0x10000 + p * 256 + h) applyFenceCmd) := by
  rw [← fenceCmd_value hp hlo hhi 1]
  rfl

theorem exec_fenceCmdUnfence (acc : Accessor) (s : State) : exec (.fenceCmdUnfence acc p h) s =
    .next (s.guardedValue acc Obj.fenceCmd (0x20000 + p * 256 + h) applyFenceCmd) := by
  rw [← fenceCmd_value hp hlo hhi 2]
  rfl

theorem fenceCmd_fields {code : Nat} (hcode : code = 1 ∨ code = 2) :
    fld (code * 0x10000 + p * 256 + h) 23 16 = code ∧ fld (code * 0x10000 + p * 256 + h) 15 8 = p ∧
      fld (code * 0x10000 + p * 256 + h) 7 0 = h := by
  refine ⟨?_, ?_, ?_⟩ <;> simp only [fld] <;> omega

variable (hcell : (s.cellRec (96 * p + h - 1)).st ≠ .none)
include hcell

/-- What FENCE_CMD does for a cell that is in a slot, by its code. -/
theorem applyFenceCmd_of_cell {code : Nat} (hcode : code = 1 ∨ code = 2) :
    applyFenceCmd (code * 0x10000 + p * 256 + h) s = if code = 1 then
      .ok ((s.fence (96 * p + h - 1) 46 false).fltSet fun f => { f with
        byp := Kv.put (fun _ => false) (96 * p + h - 1) false f.byp })
    else if s.cellNamed (96 * p + h - 1) ||
        (match (s.cellRec (96 * p + h - 1)).last with | some r => hasBit r.rstat 11 | none => false) then .error 6
    else .ok (s.unfence (96 * p + h - 1)) := by
  obtain ⟨hc, hport, hhop⟩ := fenceCmd_fields hp hlo hhi hcode
  have hrange : ¬(code * 0x10000 + p * 256 + h ≥ 2 ^ 24 ∨ 11 < p ∨ h = 0 ∨ 96 < h ∨ (code ≠ 1 ∧ code ≠ 2)) := by omega
  simp only [applyFenceCmd, hc, hport, hhop, if_neg hrange, if_neg hcell] <;> rfl

end

/-- Settles O52: FLT_CMD and FENCE_CMD by what their handlers answer, pins and timers in the states the rules name. -/
theorem faultCommandsComplete : Obligations.FaultCommandsComplete := by
  intro s
  refine ⟨?pin, ?pins, ?release, ?quiet, ?forgive, ?empty, ?emptyReg, ?clear, ?clearReg, ?holdRelease, ?holdRefused,
    ?holdReleaseReg, ?fstat, ?selfCheck, ?fence, ?unfence, ?unfenceRefused⟩
  case pin =>
    intro src inst hrun
    exact if_pos hrun
  case pins =>
    intro pins hrun
    exact if_pos hrun
  case release =>
    intro src inst hrun
    exact if_pos hrun
  case quiet =>
    intro src hrun hst
    exact execFaultQuietExpiry_quiet hrun hst
  case forgive =>
    intro src t hrun hforgive hcount hst hon ht
    exact execFaultForgiveExpiry_counted hrun hforgive hcount hst hon ht
  case empty =>
    intro acc
    exact takes_of_handler_ok rfl rfl
  case emptyReg =>
    intro p hrun hpath
    exact if_pos ⟨hrun, hpath⟩
  case clear =>
    intro acc
    exact takes_of_handler_ok rfl rfl
  case clearReg =>
    intro p hrun hpath
    exact if_pos ⟨hrun, hpath⟩
  case holdRelease =>
    intro acc hhold
    exact takes_of_handler_ok rfl (applyFltCmd_release hhold)
  case holdRefused =>
    intro acc hfree
    exact refuses_of_handler_error rfl (applyFltCmd_release_refused hfree)
  case holdReleaseReg =>
    intro p hrun hpath hhold
    exact if_pos ⟨hrun, hpath, hhold⟩
  case fstat =>
    intro acc w m hrun hpath
    exact if_pos ⟨hrun, hpath⟩
  case selfCheck =>
    intro w hpow
    exact if_pos hpow
  case fence =>
    intro acc p h hp hlo hhi hcell
    exact takes_of_handler_ok (exec_fenceCmdFence hp hlo hhi acc s)
      (applyFenceCmd_of_cell hp hlo hhi hcell (code := 1) (.inl rfl))
  case unfence =>
    intro acc p h hp hlo hhi hcell hunnamed hbypass
    refine takes_of_handler_ok (exec_fenceCmdUnfence hp hlo hhi acc s)
      ((applyFenceCmd_of_cell hp hlo hhi hcell (code := 2) (.inr rfl)).trans ?_)
    cases hlast : (s.cellRec (96 * p + h - 1)).last with
    | none => simp [hunnamed]
    | some r => simp [hunnamed, hbypass r hlast]
  case unfenceRefused =>
    intro acc p h hp hlo hhi hcell hnamed
    refine refuses_of_handler_error (exec_fenceCmdUnfence hp hlo hhi acc s)
      ((applyFenceCmd_of_cell hp hlo hhi hcell (code := 2) (.inr rfl)).trans ?_)
    simp [hnamed]

end Sys2Proof.Faults
end

section
/-! PROOFS. The rules of a set bit and of the bits of a group, and a table's value at the key just written. -/

namespace Sys2Proof.Rules
open Sys2Proof.Machine Sys2Proof.Machine.State

/-- A set bit is set. -/
theorem hasBit_setBit_same (n i : Nat) : hasBit (setBit n i) i = true := by
  unfold setBit
  split
  case isTrue hset => exact hset
  case isFalse hclear =>
    rw [hasBit_eq_testBit, Nat.add_comm, Nat.testBit_two_pow_add_eq, ← hasBit_eq_testBit]
    simpa using hclear

theorem testBit_grpBits (w g i : Nat) : (grpBits w g).testBit i = (decide (i < 8) && w.testBit (8 * g + i)) := by
  rw [grpBits, show 256 = 2 ^ 8 from rfl, Nat.testBit_mod_two_pow, Nat.testBit_div_two_pow, Nat.add_comm i]

theorem testBit_andNot (n m i : Nat) : (andNot n m).testBit i = (n.testBit i && !m.testBit i) := by
  rw [andNot, Nat.testBit_xor, Nat.testBit_and]
  cases n.testBit i <;> cases m.testBit i <;> rfl

/-- Bit `8 g + i` of the mask that covers group `h`, for `i` a source of a group. -/
theorem testBit_group_mask {g h i : Nat} (hi : i < 8) : (255 * 2 ^ (8 * g)).testBit (8 * h + i) = decide (h = g) := by
  rw [Nat.testBit_mul_two_pow, show 255 = 2 ^ 8 - 1 from rfl, Nat.testBit_two_pow_sub_one, ← Bool.decide_and]
  exact decide_eq_decide.2 (by omega)

/-- Clearing a group clears its bits and no other group's. -/
theorem grpBits_andNot (w g h : Nat) : grpBits (andNot w (255 * 2 ^ (8 * g))) h = if h = g then 0 else grpBits w h := by
  refine Nat.eq_of_testBit_eq fun i => ?_
  rw [testBit_grpBits, testBit_andNot]
  by_cases hi : i < 8
  · rw [testBit_group_mask hi]
    by_cases hgh : h = g
    · simp [hgh]
    · simp [hgh, testBit_grpBits]
  · by_cases hgh : h = g
    · simp [hi, hgh]
    · simp [hi, hgh, testBit_grpBits]

/-- A key holds the value just written to it, if that is not what an unlisted key reads as. -/
theorem get_put_same_of_ne {α : Type} [DecidableEq α] {d : Nat → α} {k : Nat} {v : α} (hv : v ≠ d k) (m : Kv α) :
    Kv.get d (Kv.put d k v m) k = v := by
  induction m with
  | nil => rw [Kv.put, if_neg hv, Kv.get, if_pos rfl]
  | cons e t ih =>
    obtain ⟨j, w⟩ := e
    rcases lt_trichotomy k j with hlt | rfl | hgt
    · rw [Kv.put, if_pos hlt, if_neg hv, Kv.get, if_pos rfl]
    · rw [Kv.put, if_neg (Nat.lt_irrefl k), if_pos rfl, if_neg hv, Kv.get, if_pos rfl]
    · rw [Kv.put, if_neg (by omega), if_neg (by omega), Kv.get, if_neg (by omega), if_neg (by omega), ih]

end Sys2Proof.Rules
end

section
/-! PROOFS. Pending bits, enables and arbitration (15 R411, R420). -/

namespace Sys2Proof.Interrupts
open Sys2Proof.Machine Sys2Proof.Machine.State Sys2Proof.Rules

variable {s : State} {g i t : Nat}

/-! ### Events and enables (R411) -/

theorem irqEvent_disabled (hoff : hasBit s.irq.en (8 * g + i) = false) :
    s.irqEvent g i = { s with irq := { s.irq with pend := setBit s.irq.pend (8 * g + i) } } :=
  if_neg (ne_true_of_eq_false hoff)

theorem irqEvent_enabled (hon : hasBit s.irq.en (8 * g + i) = true) : s.irqEvent g i =
    { s with irq := { s.irq with pend := setBit s.irq.pend (8 * g + i) } }.setGrp g
      { s.grp g with count := min 255 ((s.grp g).count + 1),
                     firstAt := match (s.grp g).firstAt with | none => some s.tm.tb2 | x => x } :=
  if_pos hon

theorem irqEvent_pend (s : State) (g i : Nat) : (s.irqEvent g i).irq.pend = setBit s.irq.pend (8 * g + i) := by
  cases hon : hasBit s.irq.en (8 * g + i) with
  | false => rw [irqEvent_disabled hon]
  | true =>
    rw [irqEvent_enabled hon]
    rfl

theorem grp_setGrp_same {v : IrqGroup} (hv : v ≠ IrqGroup.idle) (s : State) : (s.setGrp g v).grp g = v :=
  get_put_same_of_ne (d := fun _ => IrqGroup.idle) hv _

/-- A counted event counts up to 255. -/
theorem irqEvent_count (hon : hasBit s.irq.en (8 * g + i) = true) :
    ((s.irqEvent g i).grp g).count = min 255 ((s.grp g).count + 1) := by
  rw [irqEvent_enabled hon, grp_setGrp_same]
  intro hidle
  have hcount : min 255 ((s.grp g).count + 1) = 0 := congrArg IrqGroup.count hidle
  omega

theorem hasBit_grpPending (hi : i < 8) :
    hasBit (s.grpPending g) i = (hasBit s.irq.pend (8 * g + i) && hasBit s.irq.en (8 * g + i)) := by
  rw [grpPending, hasBit_eq_testBit, testBit_grpBits, Nat.testBit_and]
  simp [hi, hasBit_eq_testBit]

theorem deliverable_of_nothing_pending (hnone : s.grpPending g = 0) : s.deliverable g = false := by
  simp [deliverable, hnone]

/-- R421: what a claim reads. -/
theorem claimFor_word (s : State) (t : Nat) : (s.claimFor t).1 = 0 ∨ ∃ u h, u = s.arbitrate t ∧
    (s.claimFor t).1 = claimWord (u.og (Obj.irqPrio h)) h (u.grpPending h) := by
  unfold claimFor
  dsimp only
  split
  case h_1 h hwin =>
    split
    case isTrue => exact .inr ⟨_, h, rfl, rfl⟩
    case isFalse => exact .inl rfl
  case h_2 => exact .inl rfl

/-- R411: the enable of a pending source is one event. -/
theorem irqEnable_pending (hi : i < 8) (hoff : hasBit s.irq.en (8 * g + i) = false)
    (hpend : hasBit s.irq.pend (8 * g + i) = true) : s.irqEnable (8 * g + i) =
    { s with irq := { s.irq with en := setBit s.irq.en (8 * g + i) } }.irqEvent g i := by
  have hgroup : (8 * g + i) / 8 = g := by omega
  have hsource : (8 * g + i) % 8 = i := by omega
  rw [irqEnable, if_neg (ne_true_of_eq_false hoff), if_pos hpend, hgroup, hsource]

/-- Settles O16: an event sets its pending bit, and counts by the enable. -/
theorem pendingBitsAndEnables : Obligations.PendingBitsAndEnables := by
  intro s g i _ hi
  refine ⟨?_, fun hoff => ?_, irqEvent_count, hasBit_grpPending hi, deliverable_of_nothing_pending, claimFor_word s,
    fun hoff hpend => ⟨_, irqEnable_pending hi hoff hpend, rfl⟩⟩
  · rw [irqEvent_pend, hasBit_setBit_same]
  · rw [irqEvent_disabled hoff]

/-! ### Arbitration (R420) -/

/-- A group takes part in the arbitration for a target: deliverable to it, with PRIO below its running priority. -/
def contends (s : State) (t g : Nat) : Bool :=
  s.deliverable g && s.effTarget g == some t && decide (s.og (Obj.irqPrio g) < s.runPrio t)

/-- The better of the best group so far and one more group. -/
def better (s : State) (t : Nat) (b : Option Nat) (g : Nat) : Option Nat :=
  if contends s t g then
    match b with
    | none => some g
    | some w => if s.og (Obj.irqPrio g) < s.og (Obj.irqPrio w) then some g else some w
  else b

/-- What arbitration leaves of the first `n` groups: none contends, or the one that goes before every other that does. -/
def IsBest (s : State) (t n : Nat) : Option Nat → Prop
  | none => ∀ g, g < n → contends s t g = false
  | some w => w < n ∧ contends s t w = true ∧ ∀ g, g < n → contends s t g = true →
      s.og (Obj.irqPrio w) < s.og (Obj.irqPrio g) ∨ (s.og (Obj.irqPrio w) = s.og (Obj.irqPrio g) ∧ w ≤ g)

theorem isBest_better {b : Option Nat} {n : Nat} (hb : IsBest s t n b) : IsBest s t (n + 1) (better s t b n) := by
  cases hn : contends s t n with
  | false =>
    have hsame : better s t b n = b := if_neg (ne_true_of_eq_false hn)
    rw [hsame]
    cases b with
    | none =>
      intro g hg
      rcases Nat.lt_succ_iff_lt_or_eq.1 hg with hlt | rfl
      · exact hb g hlt
      · exact hn
    | some w =>
      obtain ⟨hw, hcontends, hbest⟩ := hb
      refine ⟨by omega, hcontends, fun g hg hgc => ?_⟩
      rcases Nat.lt_succ_iff_lt_or_eq.1 hg with hlt | rfl
      · exact hbest g hlt hgc
      · exact absurd hgc (ne_true_of_eq_false hn)
  | true =>
    cases b with
    | none =>
      have hfirst : better s t none n = some n := if_pos hn
      rw [hfirst]
      refine ⟨Nat.lt_succ_self n, hn, fun g hg hgc => ?_⟩
      rcases Nat.lt_succ_iff_lt_or_eq.1 hg with hlt | rfl
      · exact absurd hgc (ne_true_of_eq_false (hb g hlt))
      · exact .inr ⟨rfl, Nat.le_refl g⟩
    | some w =>
      obtain ⟨hw, hcontends, hbest⟩ := hb
      have hchoice : better s t (some w) n =
          if s.og (Obj.irqPrio n) < s.og (Obj.irqPrio w) then some n else some w := if_pos hn
      rw [hchoice]
      split
      case isTrue hlower =>
        refine ⟨Nat.lt_succ_self n, hn, fun g hg hgc => ?_⟩
        rcases Nat.lt_succ_iff_lt_or_eq.1 hg with hlt | rfl
        · have hwg := hbest g hlt hgc
          omega
        · exact .inr ⟨rfl, Nat.le_refl g⟩
      case isFalse hnot =>
        refine ⟨by omega, hcontends, fun g hg hgc => ?_⟩
        rcases Nat.lt_succ_iff_lt_or_eq.1 hg with hlt | rfl
        · exact hbest g hlt hgc
        · omega

theorem isBest_foldl (s : State) (t n : Nat) : IsBest s t n ((List.range n).foldl (better s t) none) := by
  induction n with
  | zero => exact fun g hg => absurd hg (Nat.not_lt_zero g)
  | succ n ih =>
    rw [List.range_succ, List.foldl_append]
    exact isBest_better ih

theorem isBest_winner (s : State) (t : Nat) : IsBest s t 32 (s.winner t) := isBest_foldl s t 32

theorem contends_iff : contends s t g = true ↔
    s.deliverable g = true ∧ s.effTarget g = some t ∧ s.og (Obj.irqPrio g) < s.runPrio t := by
  simp [contends, and_assoc]

/-- Settles O18: arbitration goes through the 32 groups and keeps the best so far. -/
theorem arbitrationPicksTheLowestPriority : Obligations.ArbitrationPicksTheLowestPriority := by
  intro s t
  have hbest := isBest_winner s t
  refine ⟨fun hnone g hg hdel heff => ?none, fun w hwin => ?some⟩
  case none =>
    rw [hnone] at hbest
    by_contra hlow
    exact ne_true_of_eq_false (hbest g hg) (contends_iff.2 ⟨hdel, heff, Nat.lt_of_not_le hlow⟩)
  case some =>
    rw [hwin] at hbest
    obtain ⟨hw, hcontends, hothers⟩ := hbest
    obtain ⟨hdel, heff, hprio⟩ := contends_iff.1 hcontends
    exact ⟨hw, hdel, heff, hprio, fun g hg hgd hge hgp => hothers g hg (contends_iff.2 ⟨hgd, hge, hgp⟩)⟩

end Sys2Proof.Interrupts
end

section
/-! PROOFS. In-service bits outlast what a fault does to the interrupt controller: its events set pending bits alone (14 R383,
15 R411). -/

namespace Sys2Proof.Interrupts
open Sys2Proof.Machine Sys2Proof.Machine.State Sys2Proof.Laws Sys2Proof.Scope Sys2Proof.Rules

theorem irqEvent_insv (g i : Nat) (s : State) : (s.irqEvent g i).irq.insv = s.irq.insv := by
  cases hon : hasBit s.irq.en (8 * g + i) with
  | false => rw [irqEvent_disabled hon]
  | true =>
    rw [irqEvent_enabled hon]
    rfl

theorem irqPost_insv (g i : Nat) (s : State) : (s.irqPost g i).irq.insv = s.irq.insv := by
  have hpost : s.irqPost g i = s.irqEvent g i ∨ s.irqPost g i = s := ite_eq_or_eq ..
  rcases hpost with h | h <;> rw [h]
  exact irqEvent_insv g i s

theorem insv_foldl {f : State → Nat → State} (hf : ∀ t n, (f t n).irq.insv = t.irq.insv) (l : List Nat) (s : State) :
    (l.foldl f s).irq.insv = s.irq.insv := by
  induction l generalizing s with
  | nil => rfl
  | cons n l ih => exact (ih _).trans (hf s n)

section
variable (s : State)

theorem holdEnd_irq (n : Nat) : (s.holdEnd n).irq = s.irq := by
  have lhead := lets_among_head
  exact unlisted_same (keep_State_holdEnd (keep_refl (Among [.cap]) s)) .irq (by decide)

theorem trigMerge_irq (n src : Nat) : (s.trigMerge n src).irq = s.irq := by
  have lhead := lets_among_head
  exact unlisted_same (keep_State_trigMerge (keep_refl (Among [.cap]) s)) .irq (by decide)

theorem capHeldOff_irq (n : Nat) : (s.capHeldOff n).irq = s.irq := by
  have lhead := lets_among_head
  exact unlisted_same (keep_State_capHeldOff (keep_refl (Among [.cap]) s)) .irq (by decide)

theorem winStart_irq (n src at0 : Nat) : (s.winStart n src at0).2.2.irq = s.irq := by
  have lhead := lets_among_head
  have ltail := lets_among_tail
  exact unlisted_same (keep_State_winStart (keep_refl (Among [.cap, .work]) s)) .irq (by decide)

end

theorem capTriggerBy_insv (fuel : Nat) (by_ : Option Nat) (n src at0 : Nat) (s : State) :
    (capTriggerBy fuel by_ n src at0 s).irq.insv = s.irq.insv := by
  induction fuel generalizing by_ n src s with
  | zero => rfl
  | succ fuel ih =>
    unfold capTriggerBy
    dsimp only
    split
    · rw [trigMerge_irq, holdEnd_irq]
    · split
      · rw [capHeldOff_irq, holdEnd_irq]
      · rw [insv_foldl, holdEnd_irq]
        · refine (congrArg IrqBlock.insv (winStart_irq _ n src at0)).trans ?_
          refine (irqPost_insv 17 n _).trans ?_
          exact congrArg IrqBlock.insv (holdEnd_irq s n)
        · intro t k
          split
          · exact ih ..
          · rfl

theorem capHappen_insv (src : Nat) (arg : Nat → Bool) (s : State) : (s.capHappen src arg).irq.insv = s.irq.insv := by
  refine insv_foldl (fun t n => ?_) _ s
  split
  · exact capTriggerBy_insv ..
  · rfl

theorem fence_insv (slot src : Nat) (byp : Bool) (s : State) : (s.fence slot src byp).irq.insv = s.irq.insv :=
  irqPost_insv 22 6 _

theorem record_insv (src inst : Nat) (s : State) : (s.record src inst).irq.insv = s.irq.insv := by
  unfold record
  dsimp only
  split
  · exact irqPost_insv ..
  · rfl

theorem firstFault_insv (src inst : Nat) (s : State) : (s.firstFault src inst).irq.insv = s.irq.insv := by
  unfold firstFault
  dsimp only
  split
  · exact irqPost_insv 22 4 _
  · split <;> rfl

theorem react_insv (src inst : Nat) (s : State) : (s.react src inst).irq.insv = s.irq.insv := by
  unfold react
  dsimp only
  split
  · split
    · split
      · exact fence_insv ..
      · refine insv_foldl (fun t n => ?_) _ s
        split
        · exact fence_insv ..
        · rfl
      · rfl
    · rfl
  · split <;> rfl
  · rfl

theorem undoIdle_irq (src : Nat) (s : State) : (s.undoIdle src).irq = s.irq := by
  have lhead := lets_among_head
  exact unlisted_same (keep_State_undoIdle (keep_refl (Among [.flt]) s)) .irq (by decide)

theorem raise_insv (src inst : Nat) (s : State) : (s.raise src inst).irq.insv = s.irq.insv := by
  unfold raise
  dsimp only
  split
  · rfl
  · have hundo : (s.undoIdle src).irq.insv = s.irq.insv := congrArg IrqBlock.insv (undoIdle_irq src s)
    split
    · rw [capFault, capHappen_insv, react_insv, firstFault_insv, record_insv]
      exact hundo
    · rw [capFault, capHappen_insv, react_insv, record_insv]
      exact hundo
    all_goals
      split
      · rw [react_insv, record_insv]
        exact hundo
      · exact hundo

theorem release_insv (src inst : Nat) (s : State) : (s.release src inst).irq.insv = s.irq.insv :=
  congrArg IrqBlock.insv (unlisted_same (release_keeps src inst s) .irq (by decide))

theorem rateCheck_insv (s : State) : s.rateCheck.irq.insv = s.irq.insv := by
  unfold rateCheck raiseIf
  split
  · exact raise_insv ..
  · exact release_insv ..

theorem irqLog_insv (code who detail : Nat) (s : State) : (s.irqLog code who detail).irq.insv = s.irq.insv :=
  rateCheck_insv _

theorem irqLog_objs (code who detail : Nat) (s : State) : (s.irqLog code who detail).objs = s.objs := by
  have lhead := lets_among_head
  have ltail := lets_among_tail
  exact unlisted_same (keep_State_irqLog (keep_refl (Among [.regs, .flt, .irq, .cap, .work]) s)) .objs (by decide)

end Sys2Proof.Interrupts
end

section
/-! PROOFS. The rules of an access that a core makes at a register. -/

namespace Sys2Proof.Rules
open Sys2Proof.Machine Sys2Proof.Machine.State

variable {s : State}

theorem regOrObj_core {c : Fin 4} (hserved : s.regServed (.core c)) (k : Nat) (d : Bytes) (f : State → State) :
    s.regOrObj (.core c) k d f = f s := if_pos hserved

theorem regRead_served {acc : Accessor} (hserved : s.regServed acc) (f : State → Nat × State) :
    s.regRead acc f = (f s).2.emit (.word (accTarget acc) (f s).1) := if_pos hserved

end Sys2Proof.Rules
end

section
/-! PROOFS. Completion, and the commands of the interrupt controller (15 R411 to R423, R435). -/

namespace Sys2Proof.Interrupts
open Sys2Proof.Machine Sys2Proof.Machine.State Sys2Proof.Rules

variable {s : State} {g : Nat}

/-! ### Completion (R422) -/

/-- A completion clears the group's in-service bits and touches no pending bit, no enable and no other group's bits. -/
theorem completeGroup_bits (g : Nat) (s : State) : grpBits (s.completeGroup g).irq.insv g = 0 ∧
    (s.completeGroup g).irq.pend = s.irq.pend ∧ (s.completeGroup g).irq.en = s.irq.en ∧
    ∀ h, h ≠ g → grpBits (s.completeGroup g).irq.insv h = grpBits s.irq.insv h := by
  by_cases hfree : grpBits s.irq.insv g = 0
  · have hsame : s.completeGroup g = s := if_pos hfree
    rw [hsame]
    exact ⟨hfree, rfl, rfl, fun _ _ => rfl⟩
  · have hinsv : (s.completeGroup g).irq.insv = andNot s.irq.insv (255 * 2 ^ (8 * g)) := by
      rw [completeGroup, if_neg hfree]
      rfl
    refine ⟨?_, ?_, ?_, fun h hne => ?_⟩
    · rw [hinsv, grpBits_andNot, if_pos rfl]
    · rw [completeGroup, if_neg hfree]
      rfl
    · rw [completeGroup, if_neg hfree]
      rfl
    · rw [hinsv, grpBits_andNot, if_neg hne]

/-- A completion changes the interrupt controller alone. -/
theorem completeGroup_frame (g : Nat) (s : State) : (s.completeGroup g).objs = s.objs ∧
    (s.completeGroup g).regs = s.regs ∧ (s.completeGroup g).flt = s.flt := by
  unfold completeGroup
  dsimp only
  split <;> exact ⟨rfl, rfl, rfl⟩

theorem eoi_held {t : Nat} (hg : g < 32) (hheld : (s.grp g).held = some t) : s.eoi t g = s.completeGroup g :=
  if_pos ⟨hg, hheld⟩

theorem eoi_foreign {t : Nat} (hheld : (s.grp g).held ≠ some t) : s.eoi t g = s.irqLog 1 t g :=
  if_neg fun h => hheld h.2

/-- IRQ_EOI of a core is the completion it writes. -/
theorem exec_irqEoi_core {c : Fin 4} (hserved : s.regServed (.core c)) :
    exec (.irqEoi (.core c) g) s = .next (s.eoi c.val g) :=
  congrArg Host.Outcome.next (regOrObj_core hserved ..)

/-- Settles O17: a held group is completed, the write of any other is logged. -/
theorem completionClearsTheGroup : Obligations.CompletionClearsTheGroup := by
  intro s c g hserved
  refine ⟨fun hg hheld => ?held, fun hheld => ?foreign⟩
  case held =>
    obtain ⟨hclear, hpend, hen, hothers⟩ := completeGroup_bits g s
    exact ⟨s.completeGroup g, (exec_irqEoi_core hserved).trans (congrArg Host.Outcome.next (eoi_held hg hheld)), hclear, hpend,
      hen, fun h _ hne => hothers h hne, completeGroup_frame g s⟩
  case foreign =>
    exact ⟨s.irqLog 1 c.val g, (exec_irqEoi_core hserved).trans (congrArg Host.Outcome.next (eoi_foreign hheld)), rfl,
      irqLog_insv .., irqLog_objs ..⟩

/-! ### Routes, sleep and timers -/

/-- R415: a core routes a group to a target of the role. -/
theorem applyIrqRoute_core {c : Fin 4} {v : Nat} (hv : v < 8) (hpres : s.targetPresent v)
    (hmode : s.og (Obj.irqDmode g) = 0) :
    applyIrqRoute c.val g v s = .ok ((s.oset (Obj.irqRoute g) v).withdraw) := by
  have hcore : ¬4 ≤ c.val := by omega
  have hrange : ¬(7 < v ∨ (!s.targetPresent v) = true) := by simp [hpres]; omega
  rw [applyIrqRoute, if_neg fun h => hcore h.1, if_neg hrange, if_neg fun h => absurd h.1 (by omega)]

theorem exec_irqRouteWrite_core {c : Fin 4} {g : Fin 32} {v : Nat} {u : State}
    (hok : applyIrqRoute c.val g.val v s = .ok u) : exec (.irqRouteWrite (.core c) g v) s =
    .next (s.guardedValue (.core c) (Obj.irqRoute g.val) v fun v => applyIrqRoute c.val g.val v) := by
  change Host.Outcome.next (s.irqRouteWrite (.core c) g.val v) = _
  rw [irqRouteWrite]
  simp only [accTarget, hok]

/-- R418: the time since the first counted event has passed, and arbitration finds the group. -/
theorem execIrqCoalTimeout_counted {g : Fin 32} {t : Nat} (hfirst : (s.grp g.val).firstAt = some t) (hwork : s.working)
    (hcoal : s.og (Obj.irqCoalT g.val) ≠ 0) : ∃ u, u = s.toTb2 (t + 1000 * s.og (Obj.irqCoalT g.val)) ∧
    execIrqCoalTimeout g s = .next (match u.effTarget g.val with | some x => u.arbitrate x | none => u) := by
  have hdue : ¬((!s.working) = true ∨ s.og (Obj.irqCoalT g.val) = 0) := by simp [hwork, hcoal]
  refine ⟨_, rfl, ?_⟩
  simp only [execIrqCoalTimeout, hfirst, if_neg hdue] <;> rfl

/-- R419: hold-off has passed; log entry 28: a group that waited for it counts the wait. -/
theorem execIrqHoldoffExpiry_claimed {g : Fin 32} {t : Nat} (hclaim : (s.grp g.val).claimAt = some t) (hwork : s.working)
    (hhold : s.holdOff g.val) : ∃ u v, u = s.toTb2 (t + 1000 * s.og (Obj.irqHoldoffT g.val)) ∧
    v = (if u.grpPending g.val = 0 then u
         else u.setGrp g.val { u.grp g.val with holdWaits := inc 32 (u.grp g.val).holdWaits }) ∧
    execIrqHoldoffExpiry g s = .next (match v.effTarget g.val with | some x => v.arbitrate x | none => v) := by
  have hdue : ¬((!s.working) = true ∨ (!s.holdOff g.val) = true) := by simp [hwork, hhold]
  refine ⟨_, _, rfl, rfl, ?_⟩
  simp only [execIrqHoldoffExpiry, hclaim, if_neg hdue] <;> rfl

/-- Settles O53: register accesses of a target that is served, timers in the states the rules name. -/
theorem interruptCommandsComplete : Obligations.InterruptCommandsComplete := by
  intro s
  refine ⟨?event, ?pend, ?enable, ?set, ?clear, ?enset, ?enclr, ?route, ?sleepReg, ?sleep, ?deliver, ?coal, ?holdoff, ?claim,
    ?eoi, ?eoiForeign, ?vlog, ?startPhase⟩
  case event =>
    intro n hrun
    exact if_pos hrun
  case pend =>
    intro acc w v hserved
    exact if_pos hserved
  case enable =>
    intro c w v hserved
    exact congrArg Host.Outcome.next (regOrObj_core hserved ..)
  case set =>
    intro acc w v hserved
    exact if_pos hserved
  case clear =>
    intro acc w v hserved
    exact if_pos hserved
  case enset =>
    intro acc w v hserved
    exact if_pos hserved
  case enclr =>
    intro acc w v hserved
    exact if_pos hserved
  case route =>
    intro c g v hv hpres hmode
    have hok := applyIrqRoute_core (c := c) hv hpres hmode
    exact takes_of_handler_ok (exec_irqRouteWrite_core hok) hok
  case sleepReg =>
    intro acc on hserved hseat
    exact if_pos ⟨hserved, hseat⟩
  case sleep =>
    intro t b hrun ht
    have hready : ¬(!s.running) = true := by simp [hrun]
    exact (if_neg hready).trans (if_pos ht)
  case deliver =>
    intro t hwork
    exact if_pos hwork
  case coal =>
    intro g t hfirst hwork hcoal
    exact execIrqCoalTimeout_counted hfirst hwork hcoal
  case holdoff =>
    intro g t hclaim hwork hhold
    exact execIrqHoldoffExpiry_claimed hclaim hwork hhold
  case claim =>
    intro c hserved
    exact congrArg Host.Outcome.next (regRead_served hserved _)
  case eoi =>
    intro c g hserved hg hheld
    exact (exec_irqEoi_core hserved).trans (congrArg Host.Outcome.next (eoi_held hg hheld))
  case eoiForeign =>
    intro c g hserved hheld
    exact (exec_irqEoi_core hserved).trans (congrArg Host.Outcome.next (eoi_foreign hheld))
  case vlog =>
    intro acc
    exact takes_of_handler_ok rfl rfl
  case startPhase =>
    intro t hat
    change execStartPhaseEnd s = _
    rw [execStartPhaseEnd, hat]

end Sys2Proof.Interrupts
end

section
/-! PROOFS. The dispatcher (15 R426 to R434). -/

namespace Sys2Proof.Dispatch
open Sys2Proof.Machine Sys2Proof.Machine.State Sys2Proof.Rules Sys2Proof.CellRings Sys2Proof.Measurement

variable {s t : State} {c : Fin 4} {it : WorkItem}

/-! ### Pops (R428) -/

theorem dspPopBy_none {q : Fin 12} (hempty : s.popQueue q.val = none) : s.dspPopBy c.val q.val = (0xFFFF, s) := by
  have hqueue : popQueueOf c.val q.val = q.val := by
    rw [popQueueOf, if_neg (by omega), Nat.mod_eq_of_lt q.isLt]
  rw [dspPopBy, hqueue, hempty]

theorem dspPopBy_some {q : Fin 12} (hpop : s.popQueue q.val = some (it, t)) {x : Bytes × Bool × State}
    (hx : x = t.memLoad 5 it.word id (itemBytes it)) : s.dspPopBy c.val q.val =
    (rd x.1 0 4, ((x.2.2.setDspPath c.val 1 (rd x.1 4 4)).setDspPath c.val 2 (rd x.1 8 4)).setDspPath c.val 3
      (rd x.1 12 4)) := by
  have hqueue : popQueueOf c.val q.val = q.val := by
    rw [popQueueOf, if_neg (by omega), Nat.mod_eq_of_lt q.isLt]
  subst hx
  rw [dspPopBy, hqueue, hpop]

/-- Without errors in working memory a read delivers the bytes that were written. -/
theorem memLoad_of_clean (hbad : t.work.bad = []) (hwrong : t.work.wrong = []) (agent base : Nat) (pos : Nat → Nat)
    (d : Bytes) : t.memLoad agent base pos d = (d, false, t) :=
  if_pos (by simp [hbad, hwrong])

/-- The four words of an item as a pop reads them (Table 15-4). -/
theorem rd_itemBytes (htag : it.tag < 2 ^ 32) (ha : it.a < 2 ^ 32) (hb : it.b < 2 ^ 32) :
    rd (itemBytes it) 0 4 = itemHead it % 2 ^ 32 ∧ rd (itemBytes it) 4 4 = it.tag ∧ rd (itemBytes it) 8 4 = it.a ∧
      rd (itemBytes it) 12 4 = it.b := by
  have hbytes : itemBytes it = leBytes 4 (itemHead it) ++ (leBytes 4 it.tag ++ (leBytes 4 it.a ++ (leBytes 4 it.b ++ []))) := by
    simp [itemBytes]
  rw [hbytes]
  refine ⟨rd_leBytes_append_mod 4 _ _, ?_, ?_, ?_⟩
  · rw [rd_leBytes_append_of_le _ (by decide)]
    exact rd_leBytes_append _ htag
  · rw [rd_leBytes_append_of_le _ (by decide), rd_leBytes_append_of_le _ (by decide)]
    exact rd_leBytes_append _ ha
  · rw [rd_leBytes_append_of_le _ (by decide), rd_leBytes_append_of_le _ (by decide), rd_leBytes_append_of_le _ (by decide)]
    exact rd_leBytes_append _ hb

/-! ### DSP_DONE (R428, R435) -/

theorem dspDoneBy_busy {f : Nat} (howns : s.ownsFlow c.val f) (hbusy : (s.flow f).busy.isSome) :
    s.dspDoneBy c.val f = s.endItem f := if_pos ⟨howns, hbusy⟩

theorem dspDoneBy_idle {f : Nat} (hidle : (s.flow f).busy = none) :
    s.dspDoneBy c.val f = (s.irqLog 3 c.val f).evt (Blk.dsp + 0x120) 32 :=
  if_neg fun h => by simp [hidle] at h

/-- Settles O54: each access of a core at its registers, and each read-clear word. -/
theorem dispatchCommandsComplete : Obligations.DispatchCommandsComplete := by
  intro s
  refine ⟨?direct, ?operand, ?delay, ?popEmpty, ?popClean, ?pop, ?done, ?doneIdle, ?giveBack, ?discard, ?purge, ?tick, ?qdepth,
    ?qwait, ?mstat, ?lstat⟩
  case direct =>
    intro c f tag a b u _ hu hserved
    subst hu
    exact congrArg Host.Outcome.next (regOrObj_core hserved ..)
  case operand =>
    intro c f l tag a u _ hu hserved
    subst hu
    exact congrArg Host.Outcome.next (regOrObj_core hserved ..)
  case delay =>
    intro c f l tag a b w u _ hu hserved
    subst hu
    exact congrArg Host.Outcome.next (regOrObj_core hserved ..)
  case popEmpty =>
    intro c q hserved hempty
    refine (congrArg Host.Outcome.next (regRead_served hserved _)).trans ?_
    simp only [accTarget, dspPopBy_none hempty]
  case popClean =>
    intro c q it t hserved hpop hbad hwrong htag ha hb
    obtain ⟨h0, h1, h2, h3⟩ := rd_itemBytes htag ha hb
    refine (congrArg Host.Outcome.next (regRead_served hserved _)).trans ?_
    simp only [accTarget, dspPopBy_some hpop rfl, memLoad_of_clean hbad hwrong, h0, h1, h2, h3, itemHead]
  case pop =>
    intro c q it t x hserved hpop hx
    refine (congrArg Host.Outcome.next (regRead_served hserved _)).trans ?_
    simp only [accTarget, dspPopBy_some hpop hx]
  case done =>
    intro c f hserved howns hbusy
    exact congrArg Host.Outcome.next ((regOrObj_core hserved ..).trans (dspDoneBy_busy howns hbusy))
  case doneIdle =>
    intro c f hserved hidle
    exact congrArg Host.Outcome.next ((regOrObj_core hserved ..).trans (dspDoneBy_idle hidle))
  case giveBack =>
    intro c hserved
    exact congrArg Host.Outcome.next (regOrObj_core hserved ..)
  case discard =>
    intro c hserved
    exact congrArg Host.Outcome.next (regOrObj_core hserved ..)
  case purge =>
    intro c hserved
    exact congrArg Host.Outcome.next (regOrObj_core hserved ..)
  case tick =>
    intro hwork
    exact if_pos hwork
  case qdepth =>
    intro acc q hserved
    exact congrArg Host.Outcome.next (regRead_served hserved _)
  case qwait =>
    intro acc q hserved
    exact congrArg Host.Outcome.next (regRead_served hserved _)
  case mstat =>
    intro acc hserved
    exact congrArg Host.Outcome.next (regRead_served hserved _)
  case lstat =>
    intro acc l hserved
    exact congrArg Host.Outcome.next (regRead_served hserved _)

end Sys2Proof.Dispatch
end

section
/-! PROOFS. The frames of the raw interrupt writes (15 R411 to R413) and of the plain object writes (16 R440). -/

namespace Sys2Proof.Interrupts
open Sys2Proof.Machine Sys2Proof.Machine.State Sys2Proof.Rules

/-- `t` is `s` but for what the interrupt controller holds besides its in-service bits and its log. -/
def IrqOnly (s t : State) : Prop :=
  ∃ i, t = { s with irq := i } ∧ i.insv = s.irq.insv ∧ i.vlog = s.irq.vlog ∧ i.vcount = s.irq.vcount

theorem IrqOnly.refl (s : State) : IrqOnly s s := ⟨s.irq, rfl, rfl, rfl, rfl⟩

theorem IrqOnly.trans {s t u : State} (hst : IrqOnly s t) (htu : IrqOnly t u) : IrqOnly s u := by
  obtain ⟨i, rfl, hinsv, hvlog, hvcount⟩ := hst
  obtain ⟨j, rfl, hinsv', hvlog', hvcount'⟩ := htu
  exact ⟨j, rfl, hinsv'.trans hinsv, hvlog'.trans hvlog, hvcount'.trans hvcount⟩

theorem irqOnly_irqEvent (g i : Nat) (s : State) : IrqOnly s (s.irqEvent g i) := by
  unfold irqEvent
  dsimp only
  split <;> exact ⟨_, rfl, rfl, rfl, rfl⟩

theorem irqOnly_irqCalm (n : Nat) (s : State) : IrqOnly s (irqCalm n s) := by
  unfold irqCalm
  dsimp only
  split <;> exact ⟨_, rfl, rfl, rfl, rfl⟩

theorem irqOnly_irqEnable (n : Nat) (s : State) : IrqOnly s (irqEnable n s) := by
  unfold irqEnable
  dsimp only
  split
  · exact .refl s
  · split
    · exact .trans ⟨_, rfl, rfl, rfl, rfl⟩ (irqOnly_irqEvent ..)
    · exact ⟨_, rfl, rfl, rfl, rfl⟩

theorem irqOnly_irqDisable (n : Nat) (s : State) : IrqOnly s (irqDisable n s) :=
  .trans ⟨_, rfl, rfl, rfl, rfl⟩ (irqOnly_irqCalm n _)

theorem irqOnly_irqDiscard (n : Nat) (s : State) : IrqOnly s (irqDiscard n s) :=
  .trans ⟨_, rfl, rfl, rfl, rfl⟩ (irqOnly_irqCalm n _)

theorem irqOnly_foldl {f : State → Nat → State} (hf : ∀ t n, IrqOnly t (f t n)) (l : List Nat) (s : State) :
    IrqOnly s (l.foldl f s) := by
  induction l generalizing s with
  | nil => exact .refl s
  | cons n l ih => exact (hf s n).trans (ih _)

/-- R413: a raw write acts on the sources of its word one after another. -/
theorem irqOnly_irqEach {f : Nat → State → State} (hf : ∀ n t, IrqOnly t (f n t)) (t n bits extra : Nat) (s : State) :
    IrqOnly s (s.irqEach t n bits extra f) := by
  refine irqOnly_foldl (fun u i => ?_) _ s
  split
  · exact hf _ u
  · exact .refl u

theorem irqOnly_pendUp (i : Nat) (s : State) : IrqOnly s (s.irqSet fun w => { w with pend := setBit w.pend i }) :=
  ⟨_, rfl, rfl, rfl, rfl⟩

/-- R412: a raw write of IRQ_PENDn sets the bits that rise and discards the ones that fall. -/
theorem irqOnly_irqPendRaw (t n v : Nat) (s : State) : IrqOnly s (s.irqPendRaw t n v) :=
  (irqOnly_irqEach irqOnly_pendUp ..).trans (irqOnly_irqEach irqOnly_irqDiscard ..)

/-- A register access of a target that is not served has no effect. -/
theorem irqOnly_served {s t u : State} {acc : Accessor} (hu : IrqOnly s u)
    (hexec : (if s.regServed acc then Host.Outcome.next u else Host.Outcome.next s : Res) = .next t) : IrqOnly s t := by
  split at hexec
  · exact Host.Outcome.next.inj hexec ▸ hu
  · exact Host.Outcome.next.inj hexec ▸ .refl s

end Sys2Proof.Interrupts

namespace Sys2Proof.Access
open Sys2Proof.Machine Sys2Proof.Machine.State Sys2Proof.Laws Sys2Proof.Rules Sys2Proof.Stores Sys2Proof.Interrupts

variable {s t : State} {a : Accessor} {k j : Nat}

/-- A handler that writes its own object and no other object or block. -/
def WritesOnly (k : Nat) (h : State → Except Nat State) (s : State) : Prop :=
  ∀ t, h s = .ok t → ∃ v, t.objs = (s.oset k v).objs ∧ t.doms = s.doms

/-- A write under the tests leaves the stores as they were, or as its handler left them. -/
theorem guardedWrite_stores (s : State) (a : Accessor) (k : Nat) (d : Bytes) (h : State → Except Nat State) :
    ((s.guardedWrite a k d h).objs = s.objs ∧ (s.guardedWrite a k d h).doms = s.doms) ∨
    ∃ t, h s = .ok t ∧ (s.guardedWrite a k d h).objs = t.objs ∧ (s.guardedWrite a k d h).doms = t.doms := by
  have hans (c : Nat) : (s.answer a k c true).objs = s.objs ∧ (s.answer a k c true).doms = s.doms :=
    ⟨answer_objs .., unlisted_same (answer_keeps a k c true s) .doms (by decide)⟩
  unfold guardedWrite
  split
  · exact .inl ⟨rfl, rfl⟩
  · split
    · split
      next t hok =>
        split
        · have hpost := irqPost_keeps 23 4 (s.answer a k 6 true)
          exact .inl ⟨(unlisted_same hpost .objs (by decide)).trans (hans 6).1,
            (unlisted_same hpost .doms (by decide)).trans (hans 6).2⟩
        · have hacc := accepted_keeps a k d t
          exact .inr ⟨t, hok, unlisted_same hacc .objs (by decide), unlisted_same hacc .doms (by decide)⟩
      next c _ => exact .inl (hans c)
    · exact .inl (hans _)

/-- In a state whose stores are canonical such a write changes its own object alone. -/
theorem guardedWrite_frame {d : Bytes} {h : State → Except Nat State} (hcan : Canonical s) (hw : WritesOnly k h s) (hj : j ≠ k)
    (hexec : (Host.Outcome.next (s.guardedWrite a k d h) : Res) = .next t) : t.og j = s.og j ∧ t.doms = s.doms := by
  obtain ⟨hcanon, -, -⟩ := hcan
  cases Host.Outcome.next.inj hexec
  rcases guardedWrite_stores s a k d h with ⟨hobjs, hdoms⟩ | ⟨u, hok, hobjs, hdoms⟩
  · exact ⟨congrArg (Kv.get Dict.dflt · j) hobjs, hdoms⟩
  · obtain ⟨v, huobjs, hudoms⟩ := hw u hok
    refine ⟨?_, hdoms.trans hudoms⟩
    calc (s.guardedWrite a k d h).og j
      _ = (s.oset k v).og j := congrArg (Kv.get Dict.dflt · j) (hobjs.trans huobjs)
      _ = s.og j := (get_put hcanon).trans (if_neg hj)

theorem applyModMode_writesOnly (i v : Nat) (s : State) : WritesOnly (Obj.modMode i) (applyModMode i v) s := by
  intro t hok
  unfold applyModMode at hok
  split at hok
  · cases hok
  · split at hok
    · cases hok
    · cases hok
      exact ⟨v, rfl, rfl⟩

theorem applyKeyGate_writesOnly (i v : Nat) (s : State) : WritesOnly (Obj.keyGate i) (applyKeyGate i v) s := by
  intro t hok
  unfold applyKeyGate at hok
  dsimp only at hok
  split at hok
  · cases hok
  · cases hok
    split <;> exact ⟨v, rfl, rfl⟩

theorem applyOrderHold_writesOnly (i v : Nat) (s : State) : WritesOnly (Obj.orderHold i) (applyOrderHold i v) s := by
  intro t hok
  unfold applyOrderHold at hok
  dsimp only at hok
  split at hok
  · cases hok
  · cases hok
    split <;> exact ⟨v, rfl, rfl⟩

theorem applyAuxEn_writesOnly (v : Nat) (s : State) : WritesOnly Obj.auxEn (applyAuxEn v) s := by
  intro t hok
  unfold applyAuxEn at hok
  split at hok
  · cases hok
    exact ⟨v, rfl, rfl⟩
  · cases hok

theorem applyCuePeriod_writesOnly (v : Nat) (s : State) : WritesOnly Obj.cuePeriod (applyCuePeriod v) s := by
  intro t hok
  unfold applyCuePeriod at hok
  dsimp only at hok
  split at hok
  · cases hok
  · split at hok
    · cases hok
    · cases hok
      exact ⟨v, rfl, rfl⟩

theorem applySlCues_writesOnly (v : Nat) (s : State) : WritesOnly Obj.slCues (applySlCues v) s := by
  intro t hok
  unfold applySlCues at hok
  split at hok
  · cases hok
  · split at hok
    · cases hok
    · cases hok
      split <;> exact ⟨v, rfl, rfl⟩

/-- Settles O19: the raw writes act source by source; a plain write's handler writes its own object. -/
theorem plainWriteFrames : Obligations.PlainWriteFrames := by
  intro s t
  refine ⟨fun c w v hexec => ?raw, fun hcan acc i v j hj hexec => ?modMode, fun hcan acc i v j hj hexec => ?keyGate,
    fun hcan acc i v j hj hexec => ?orderHold, fun hcan acc v j hj hexec => ?auxEn, fun hcan acc v j hj hexec => ?cuePeriod,
    fun hcan acc v j hj hexec => ?slCues⟩
  case raw =>
    rcases hexec with hset | hclr | hclear | hevent | hpend
    · exact irqOnly_served (irqOnly_irqEach irqOnly_irqEnable ..) hset
    · exact irqOnly_served (irqOnly_irqEach irqOnly_irqDisable ..) hclr
    · exact irqOnly_served (irqOnly_irqEach irqOnly_irqDiscard ..) hclear
    · exact irqOnly_served (irqOnly_irqEach (fun _ _ => irqOnly_irqEvent ..) ..) hevent
    · exact irqOnly_served (irqOnly_irqPendRaw ..) hpend
  case modMode => exact guardedWrite_frame hcan (applyModMode_writesOnly _ _ s) hj hexec
  case keyGate => exact guardedWrite_frame hcan (applyKeyGate_writesOnly _ _ s) hj hexec
  case orderHold => exact guardedWrite_frame hcan (applyOrderHold_writesOnly _ _ s) hj hexec
  case auxEn => exact guardedWrite_frame hcan (applyAuxEn_writesOnly _ s) hj hexec
  case cuePeriod => exact guardedWrite_frame hcan (applyCuePeriod_writesOnly _ s) hj hexec
  case slCues => exact guardedWrite_frame hcan (applySlCues_writesOnly _ s) hj hexec

end Sys2Proof.Access
end

section
/-! PROOFS. The symbol-correcting code of working memory and MEM_INJ (17 R467, R468, R471). -/

namespace Sys2Proof.Memory
open Sys2Proof.Machine Sys2Proof.Machine.State Sys2Proof.Scope Sys2Proof.Rules

variable {s : State} {w agent a b i v : Nat}

/-! ### A read by the number of symbols in error -/

theorem readWord_clean (hsyms : symsOf (s.wordErr w) = []) :
    s.readWord w agent = { lost := false, diff := s.wordWrong w, st := s } := by
  simp only [readWord, hsyms]

theorem readWord_one (hsyms : symsOf (s.wordErr w) = [i]) :
    s.readWord w agent = { lost := false, diff := s.wordWrong w, st := s.memCorrected w i agent } := by
  simp only [readWord, hsyms]

theorem readWord_two (hsyms : symsOf (s.wordErr w) = [a, b]) : s.readWord w agent =
    { lost := true, diff := Nat.xor (s.wordWrong w) (s.wordErr w), st := s.memUncorrectable w agent } := by
  simp only [readWord, hsyms]

/-- Log entry 39: three symbols or more are detected, unseen, or corrected wrongly. -/
theorem readWord_many (hsyms : 3 ≤ (symsOf (s.wordErr w)).length) :
    s.readWord w agent =
      { lost := true, diff := Nat.xor (s.wordWrong w) (s.wordErr w), st := s.drawn.memUncorrectable w agent } ∨
    (∃ y, y = Nat.xor (s.wordWrong w) (s.wordErr w) ∧
      s.readWord w agent = { lost := false, diff := y, st := (s.drawn.setWordWrong w y).setWordErr w 0 }) ∨
    ∃ y i, i < 36 ∧
      s.readWord w agent = { lost := false, diff := y, st := (s.drawn.setWordWrong w y).memCorrected w i agent } := by
  unfold readWord
  dsimp only
  split
  next h => simp [h] at hsyms
  next h => simp [h] at hsyms
  next h => simp [h] at hsyms
  next =>
    split
    · exact .inl rfl
    · split
      · exact .inr (.inr ⟨_, _, Nat.mod_lt _ (by decide), rfl⟩)
      · exact .inr (.inl ⟨_, rfl, rfl⟩)

/-- Settles O20: a read by the number of symbols in error. -/
theorem theCodeCorrectsOneSymbolAndDetectsTwo : Obligations.TheCodeCorrectsOneSymbolAndDetectsTwo := by
  intro s w agent x hx
  refine ⟨fun hsyms => ?clean, fun i hsyms => ?one, fun i j hsyms => ?two, fun hsyms => ?many⟩
  case clean =>
    rw [hx, readWord_clean hsyms]
    exact ⟨rfl, rfl, rfl⟩
  case one =>
    rw [hx, readWord_one hsyms]
    exact ⟨rfl, rfl, rfl⟩
  case two =>
    rw [hx, readWord_two hsyms]
    exact ⟨rfl, rfl, rfl⟩
  case many =>
    rcases readWord_many (agent := agent) hsyms with h | ⟨y, hy, h⟩ | ⟨y, i, hi, h⟩
    · rw [hx, h]
      exact .inl ⟨rfl, rfl, rfl⟩
    · rw [hx, h]
      exact .inr (.inl ⟨rfl, hy, rfl⟩)
    · rw [hx, h]
      exact .inr (.inr ⟨rfl, i, hi, rfl⟩)

/-! ### The pattern of a spoilt symbol -/

/-- The error that inverts all four bits of symbol `a`. -/
def spoilt (a : Nat) : Nat := 15 * 16 ^ a

theorem spoilt_eq (a : Nat) : spoilt a = 2 ^ (4 * a) * 15 := by
  rw [spoilt, Nat.mul_comm, Nat.pow_mul]

/-- Symbol `i` of an error pattern. -/
theorem digit_spoilt (a i : Nat) : spoilt a / 16 ^ i % 16 = if i = a then 15 else 0 := by
  rcases lt_trichotomy i a with hlt | rfl | hgt
  · obtain ⟨d, rfl⟩ : ∃ d, a = i + (d + 1) := ⟨a - i - 1, by omega⟩
    have hsplit : spoilt (i + (d + 1)) = 16 ^ i * (15 * 16 ^ d * 16) := by
      rw [spoilt, Nat.pow_add, Nat.pow_succ]
      ring
    rw [hsplit, Nat.mul_div_cancel_left _ (by positivity), Nat.mul_mod_left, if_neg (by omega)]
  · rw [spoilt, Nat.mul_div_cancel _ (by positivity), if_pos rfl]
  · have hlow : spoilt a < 16 ^ i := calc
      15 * 16 ^ a < 16 ^ (a + 1) := by rw [Nat.pow_succ]; have : 0 < 16 ^ a := by positivity
                                       omega
      _ ≤ 16 ^ i := Nat.pow_le_pow_right (by decide) hgt
    rw [Nat.div_eq_of_lt hlow, if_neg (by omega)]

theorem digit_xor (m n i : Nat) : Nat.xor m n / 16 ^ i % 16 = Nat.xor (m / 16 ^ i % 16) (n / 16 ^ i % 16) := by
  have hpow : 16 ^ i = 2 ^ (4 * i) := (Nat.pow_mul 2 4 i).symm
  change (m ^^^ n) / 16 ^ i % 2 ^ 4 = _
  rw [hpow, Nat.xor_div_two_pow, Nat.xor_mod_two_pow]
  rfl

/-- Patterns without a common bit: the second lies below the bits of the first. -/
theorem xor_eq_add_of_lt {n y : Nat} (x : Nat) (hy : y < 2 ^ n) : 2 ^ n * x ^^^ y = 2 ^ n * x + y := by
  rw [← Nat.div_add_mod (2 ^ n * x ^^^ y) (2 ^ n), Nat.xor_div_two_pow, Nat.xor_mod_two_pow,
    Nat.mul_div_cancel_left _ (Nat.two_pow_pos n), Nat.div_eq_of_lt hy, Nat.mul_mod_right, Nat.mod_eq_of_lt hy, Nat.xor_zero,
    Nat.zero_xor]

theorem xor_spoilt_of_lt (hlt : b < a) : spoilt a ^^^ spoilt b = spoilt a + spoilt b := by
  rw [spoilt_eq a]
  refine xor_eq_add_of_lt 15 ?_
  rw [spoilt_eq]
  calc 2 ^ (4 * b) * 15 < 2 ^ (4 * b) * 2 ^ 4 := Nat.mul_lt_mul_of_pos_left (by decide) (Nat.two_pow_pos _)
    _ = 2 ^ (4 * b + 4) := (Nat.pow_add 2 _ _).symm
    _ ≤ 2 ^ (4 * a) := Nat.pow_le_pow_right (by decide) (by omega)

theorem xor_spoilt (hne : b ≠ a) : Nat.xor (spoilt a) (spoilt b) = spoilt a + spoilt b := by
  rcases Nat.lt_or_gt_of_ne hne with hlt | hgt
  · exact xor_spoilt_of_lt hlt
  · exact (Nat.xor_comm _ _).trans ((xor_spoilt_of_lt hgt).trans (Nat.add_comm _ _))

theorem mem_symsOf {m : Nat} : i ∈ symsOf m ↔ i < 36 ∧ m / 16 ^ i % 16 ≠ 0 := by
  simp [symsOf]

theorem nodup_symsOf (m : Nat) : (symsOf m).Nodup := List.nodup_range.filter _

theorem symsOf_spoilt (ha : a < 36) : symsOf (spoilt a) = [a] := by
  refine List.perm_singleton.1 ((List.perm_ext_iff_of_nodup (nodup_symsOf _) (List.nodup_singleton a)).2 fun i => ?_)
  rw [mem_symsOf, digit_spoilt, List.mem_singleton]
  by_cases hi : i = a
  · simp [hi, ha]
  · simp [hi]

theorem symsOf_two_spoilt (ha : a < 36) (hb : b < 36) (hne : b ≠ a) :
    ∃ i j, symsOf (Nat.xor (spoilt a) (spoilt b)) = [i, j] := by
  have hpair : (symsOf (Nat.xor (spoilt a) (spoilt b))).Perm [a, b] := by
    refine (List.perm_ext_iff_of_nodup (nodup_symsOf _) (by simp [hne.symm])).2 fun i => ?_
    rw [mem_symsOf, digit_xor, digit_spoilt, digit_spoilt]
    by_cases hia : i = a
    · have hib : i ≠ b := fun h => hne (h.symm.trans hia)
      simp [hia, ha, hne.symm]
    · by_cases hib : i = b
      · simp [hib, hb, hne]
      · simp [hia, hib]
  exact List.length_eq_two.1 hpair.length_eq

/-! ### MEM_INJ -/

/-- The pattern of MEM_INJ over the pattern a word holds: one symbol, or two. -/
def injected (m a b : Nat) : Nat :=
  if b = 0x3F ∨ b = a then Nat.xor m (spoilt a) else Nat.xor (Nat.xor m (spoilt a)) (spoilt b)

/-- No part of R471 bars the write. -/
def memInjFree (s : State) : Prop :=
  (s.isHead → s.og (Obj.modMode 0) = 0 ∧ s.og (Obj.modMode 1) = 0) ∧ (s.isCell → s.ring.node.admitted = false)

theorem applyMemInj_free (ha : fld v 29 24 ≤ 35) (hb : fld v 37 32 ≤ 35 ∨ fld v 37 32 = 0x3F) (hgo : hasBit v 40)
    (hfree : memInjFree s) : applyMemInj v s =
      .ok (s.setWordErr (fld v 21 0) (injected (s.wordErr (fld v 21 0)) (fld v 29 24) (fld v 37 32))) := by
  obtain ⟨hhead, hcell⟩ := hfree
  have hrange : ¬(35 < fld v 29 24 ∨ (35 < fld v 37 32 ∧ fld v 37 32 ≠ 0x3F)) := by omega
  have hbar : ¬((s.isHead && (s.og (Obj.modMode 0) != 0 || s.og (Obj.modMode 1) != 0)) ||
      (s.isCell && s.ring.node.admitted)) = true := by
    cases hh : s.isHead <;> cases hc : s.isCell <;> simp_all
  have hset : ¬(!hasBit v 40) = true := by simp [hgo]
  unfold applyMemInj
  dsimp only
  rw [if_neg hrange, if_neg hbar, if_neg hset]
  rfl

/-- R471: a HEAD that modulates and an admitted CELL refuse it. -/
theorem applyMemInj_barred (ha : fld v 29 24 ≤ 35) (hb : fld v 37 32 ≤ 35 ∨ fld v 37 32 = 0x3F)
    (hbar : (s.isHead ∧ (s.og (Obj.modMode 0) ≠ 0 ∨ s.og (Obj.modMode 1) ≠ 0)) ∨ (s.isCell ∧ s.ring.node.admitted)) :
    applyMemInj v s = .error 6 := by
  have hrange : ¬(35 < fld v 29 24 ∨ (35 < fld v 37 32 ∧ fld v 37 32 ≠ 0x3F)) := by omega
  unfold applyMemInj
  dsimp only
  rw [if_neg hrange, if_pos (by simpa using hbar)]

theorem wordErr_setWordErr {m : Nat} (hm : m ≠ 0) (w : Nat) (s : State) : (s.setWordErr w m).wordErr w = m :=
  get_put_same_of_ne (d := fun _ => 0) hm _

/-- A read after one or two symbols of a word without error were spoilt: the one is corrected, the two are detected. -/
theorem readWord_injected (ha : a ≤ 35) (hb : b ≤ 35 ∨ b = 0x3F) (herr : s.wordErr w = injected 0 a b) (agent : Nat) :
    (s.readWord w agent).lost = true ∨ ((s.readWord w agent).lost = false ∧ (s.readWord w agent).diff = s.wordWrong w ∧
      (s.readWord w agent).st = s.memCorrected w a agent) := by
  by_cases hone : b = 0x3F ∨ b = a
  · have hsyms : symsOf (s.wordErr w) = [a] := by
      rw [herr, injected, if_pos hone, show Nat.xor 0 (spoilt a) = spoilt a from Nat.zero_xor _, symsOf_spoilt (by omega)]
    rw [readWord_one hsyms]
    exact .inr ⟨rfl, rfl, rfl⟩
  · obtain ⟨i, j, hij⟩ := symsOf_two_spoilt (a := a) (b := b) (by omega) (by omega) (by omega)
    have hsyms : symsOf (s.wordErr w) = [i, j] := by
      rw [herr, injected, if_neg hone, show Nat.xor 0 (spoilt a) = spoilt a from Nat.zero_xor _, hij]
    rw [readWord_two hsyms]
    exact .inl rfl

theorem injected_zero (a b : Nat) : injected 0 a b = if b = 0x3F ∨ b = a then spoilt a else spoilt a + spoilt b := by
  unfold injected
  rw [show Nat.xor 0 (spoilt a) = spoilt a from Nat.zero_xor _]
  split
  · rfl
  · exact xor_spoilt (by omega)

theorem injected_ne_zero (a b : Nat) : injected 0 a b ≠ 0 := by
  have hpos : 0 < spoilt a := by unfold spoilt; positivity
  rw [injected_zero]
  split <;> omega

/-- Settles O21: the named symbols of a word without error are inverted, and the next read finds them. -/
theorem memInjSpoilsNamedSymbols : Obligations.MemInjSpoilsNamedSymbols := by
  intro s acc v a b w hv ha hb hw hadmits hra hrb hgo
  subst ha hb hw
  refine ⟨fun hhead hcell herr => ?spoil, fun hbar => exec_of_handler_error rfl hv hadmits (applyMemInj_barred hra hrb hbar)⟩
  case spoil =>
    have hok := applyMemInj_free hra hrb hgo ⟨hhead, hcell⟩
    rw [herr] at hok
    have hword := wordErr_setWordErr (injected_ne_zero (fld v 29 24) (fld v 37 32)) (fld v 21 0) s
    exact ⟨_, takes_of_handler_ok rfl hok hv hadmits, hword.trans (injected_zero ..), readWord_injected hra hrb hword⟩

end Sys2Proof.Memory
end

section
/-! PROOFS. Commands of the seats: objects, registers, QSPI, PCI Express, HOP, the station network and the token (16 R439 to
R457, R509). -/

namespace Sys2Proof.Seats
open Sys2Proof.Machine Sys2Proof.Machine.State Sys2Proof.Scope Sys2Proof.Rules Sys2Proof.Access

variable {s t : State}

/-! ### Mailboxes, objects, registers, QSPI, PCI Express -/

/-- R439, R440: an object write that the tests admit is accepted, beside what the refusals of some objects log. -/
theorem writeObject_ok {acc : Accessor} {k : Nat} {d : Bytes} (hadmits : Admits s acc k d.length)
    (hok : s.objHandler acc k d = .ok t) : s.writeObject acc k d = State.writeAside acc k d s (t.accepted acc k d) := by
  obtain ⟨hrun, hpath, htests, hmirror⟩ := hadmits
  rw [writeObject, if_neg (not_unserved hrun hpath), guardedWrite_ok hrun hpath htests hmirror hok]

theorem exec_qspiRead {q : Fin 2} {a n : Nat} (hserved : seatServed s (q.val + 1)) : exec (.qspiRead q a n) s =
    if a % 4 ≠ 0 then .next (s.transport (16 * (q.val + 1)) 0x23 0x0B) else .next (qspiReads (q.val + 1) a n s) :=
  if_neg (by simp [hserved])

theorem exec_qspiWrite {q : Fin 2} {a : Nat} {ws : List Nat} (hserved : seatServed s (q.val + 1)) :
    exec (.qspiWrite q a ws) s =
      if a % 4 ≠ 0 then .next (s.transport (16 * (q.val + 1)) 0x23 0x32) else .next (qspiWrites (q.val + 1) a ws s) :=
  if_neg (by simp [hserved])

theorem exec_qspiCut {q : Fin 2} {op a n : Nat} {ws : List Nat} (hserved : seatServed s (q.val + 1)) (halign : a % 4 = 0) :
    exec (.qspiCut q op a n ws) s = .next ((if op = 0x0B then qspiReads (q.val + 1) a n s
      else if op = 0x32 then qspiWrites (q.val + 1) a ws s else s).transport (16 * (q.val + 1)) 0x21 (op % 256)) := by
  refine (if_neg (by simp [hserved])).trans ?_
  rw [if_neg (not_not_intro halign)]

/-- A request to the function of Seat 0 while its path is served and PERST_N is high. -/
theorem exec_pcieRequest {bar2 write poison : Bool} {off len be v : Nat} (hserved : seatServed s 0) (hperst : s.seat.perst) :
    exec (.pcieRequest bar2 write off len be v poison) s =
      if write ∧ poison then .next ((s.transport 0 0x24 0).emit .aerPoisoned)
      else if !bar2 ∧ len = 1 ∧ off % 4 = 0 ∧ off < 0x20000 then
        if write then .next (s.regWr 0 off (v % 2 ^ 32) (beMask be))
        else .next ((s.regRd 0 off).2.emit (.word 0 (s.regRd 0 off).1))
      else if bar2 ∧ !write ∧ 1 ≤ len ∧ len ≤ 128 ∧ off % 4 = 0 ∧ off + 4 * len ≤ 0x800000 then .next (bar2Read off len s)
      else .next ((s.transport 0 0x25 0).emit .unsupported) :=
  if_neg (by simp [hserved, hperst])

/-- Settles O55: each access of a path that is served. -/
theorem seatCommandsComplete : Obligations.SeatCommandsComplete := by
  intro s
  refine ⟨fun p hserved => if_pos hserved, fun p hserved => if_pos hserved, ?object, fun p a v m _ _ _ => rfl, ?read,
    ?readUnaligned, ?write, ?status, ?cutRead, ?cutWrite, ?unknown, ?barWrite, ?barRead, ?poisoned, ?tooLong,
    fun hserved => if_pos hserved, rfl, rfl⟩
  case object =>
    intro acc k d t hadmits hok
    exact congrArg Host.Outcome.next (writeObject_ok hadmits hok)
  case read =>
    intro q a n hserved halign
    rw [exec_qspiRead hserved, if_neg (not_not_intro halign)]
  case readUnaligned =>
    intro q a n hserved halign
    rw [exec_qspiRead hserved, if_pos halign]
  case write =>
    intro q a ws hserved halign
    rw [exec_qspiWrite hserved, if_neg (not_not_intro halign)]
  case status =>
    intro q hserved
    exact if_neg (by simp [hserved])
  case cutRead =>
    intro q a n ws hserved halign
    rw [exec_qspiCut hserved halign, if_pos rfl]
  case cutWrite =>
    intro q a n ws hserved halign
    rw [exec_qspiCut hserved halign, if_neg (by decide), if_pos rfl]
  case unknown =>
    intro q o hserved hread hwrite hstatus
    exact if_neg (by simp [hserved, hread, hwrite, hstatus])
  case barWrite =>
    intro off be v hserved hperst halign hoff
    rw [exec_pcieRequest hserved hperst, if_neg (by simp), if_pos (by simp [halign, hoff]), if_pos rfl]
  case barRead =>
    intro off be v hserved hperst halign hoff
    rw [exec_pcieRequest hserved hperst, if_neg (by simp), if_pos (by simp [halign, hoff]), if_neg (by decide)]
  case poisoned =>
    intro b off len be v hserved hperst
    rw [exec_pcieRequest hserved hperst, if_pos ⟨rfl, rfl⟩]
  case tooLong =>
    intro off len be v hserved hperst hlen
    have hlong : ¬len ≤ 128 := by omega
    rw [exec_pcieRequest hserved hperst, if_neg (by simp), if_neg (by simp), if_neg (by simp [hlong])]

/-! ### HOP and the station network -/

/-- A datagram of the wanted TYPE that passes the tests of R450 and R452 reaches its handler. -/
theorem hopRx_served {ip port ty : Nat} {f g : Bytes} {h : Nat → Nat → Bytes → State → State}
    (hserved : HopServed s ip f g t ty) (hknown : hopKnown ty) :
    s.hopRx ip port f ty h = h (rd g 4 2) (rd g 8 4) (slice g 16 (rd g 6 2)) t := by
  obtain ⟨hrun, hhead, hnet, htake, hallow, hlen, hmagic, hver, hcrc, hsize, hty, hsess⟩ := hserved
  have hopen : ¬(rd g 3 1 ≠ 1 ∧ (t.hopSession (rd g 4 2)).isNone) := by
    rintro ⟨hne, hnone⟩
    rcases hsess with h1 | hsome
    · exact hne (hty.trans h1)
    · simp [Option.isNone_iff_eq_none.1 hnone] at hsome
  have hsum : ¬(g.length < 20 ∨ rd g 0 2 ≠ 0x4851 ∨ rd g 2 1 ≠ 1 ∨
      rd g (g.length - 4) 4 ≠ crc32 (g.take (g.length - 4))) := by
    simp [hmagic, hver, hcrc, hlen]
  have hpayload : (g.drop 16).take (g.length - 20) = slice g 16 (rd g 6 2) := by
    rw [slice, show g.length - 20 = rd g 6 2 by omega]
  rw [hopRx, if_neg (by simp [hrun, hhead, hnet]), htake]
  dsimp only
  rw [hopRxOne, if_neg (by simp [hallow]), if_neg hsum, if_neg (not_not_intro hsize), if_neg (by simp [hty, hknown]),
    if_neg hopen, if_neg (not_not_intro hty), hpayload]

/-- R450: the second of a PRP pair is discarded. -/
theorem hopRx_twin {ip port want : Nat} {f : Bytes} {h : Nat → Nat → Bytes → State → State} (hrun : s.running)
    (hhead : s.isHead) (hnet : s.seat.netUp ≠ 0) (htake : s.prpTake ip f = (none, t)) : s.hopRx ip port f want h = t := by
  rw [hopRx, if_neg (by simp [hrun, hhead, hnet]), htake]

/-- R454: a flush waits for 1 ms or a full staging buffer. -/
theorem exec_hopStreamFlush {n : Nat} {e : Nat × Bytes} {l : List (Nat × Bytes)} (hstage : (s.stream n).stage = e :: l)
    (hon : s.headOn) : exec (.hopStreamFlush n) s =
      .next ((if 1024 ≤ stageUsed (s.stream n) then s else s.toTb2 (e.1 + 1000000)).streamFlush n) := by
  change execHopStreamFlush n s = _
  unfold execHopStreamFlush
  dsimp only
  rw [hstage]
  exact if_neg (by simp [hon])

/-- Settles O56: a datagram reaches its handler, each frame of a served port is answered or counted. -/
theorem networkCommandsComplete : Obligations.NetworkCommandsComplete := by
  intro s ip port f
  have hreach {ty : Nat} {g : Bytes} {t : State} {h : Nat → Nat → Bytes → State → State} (hserved : HopServed s ip f g t ty)
      (hknown : hopKnown ty) : (Host.Outcome.next (s.hopRx ip port f ty h) : Res) =
        .next (h (rd g 4 2) (rd g 8 4) (slice g 16 (rd g 6 2)) t) :=
    congrArg Host.Outcome.next (hopRx_served hserved hknown)
  refine ⟨fun _ _ h => hreach h rfl, fun _ _ h => hreach h rfl, fun _ _ h => hreach h rfl, fun _ _ h => hreach h rfl,
    fun _ _ h => hreach h rfl, fun _ _ h => hreach h rfl,
    ?twin, ?timeout, ?flushDue, ?flushFull, ?arpOwn, ?arpOther, ?echo, ?dropped, ?link⟩
  case twin =>
    intro t hrun hhead hnet htake
    exact ⟨congrArg Host.Outcome.next (hopRx_twin hrun hhead hnet htake),
      congrArg Host.Outcome.next (hopRx_twin hrun hhead hnet htake)⟩
  case timeout =>
    intro n v hsession hserved
    change execHopSessionTimeout n s = _
    unfold execHopSessionTimeout
    rw [hsession]
    exact if_neg (by simp [hserved])
  case flushDue =>
    intro n e l hstage hon hused
    rw [exec_hopStreamFlush hstage hon, if_neg (by omega)]
  case flushFull =>
    intro n e l hstage hon hused
    rw [exec_hopStreamFlush hstage hon, if_pos hused]
  case arpOwn =>
    intro q hserved
    exact (if_neg (by simp [hserved])).trans (if_pos rfl)
  case arpOther =>
    intro q a hserved hother
    exact (if_neg (by simp [hserved])).trans (if_neg hother)
  case echo =>
    intro q hserved
    exact if_pos hserved
  case dropped =>
    intro q hserved
    exact if_pos hserved
  case link =>
    intro q up hrun hhead hchange
    exact if_pos ⟨hrun, hhead, hchange⟩

/-! ### The token -/

variable {p : Fin 3} {h : Nat}

theorem tokenIs_iff (s : State) (p : Fin 3) : s.tokenIs p.val 0 = true ↔ s.seat.holder = some p.val := by
  have hseat : p.val ≠ 3 := by omega
  simp [tokenIs, hseat]

theorem applyTokenCmd_request_free (hunder : s.understudy = false) (hcell : s.isCell = false) (hfree : s.seat.holder = none) :
    applyTokenCmd (.path p) 1 s = .ok (s.tokenGive p.val 0) := by
  simp [applyTokenCmd, tokenWho, hunder, hcell, hfree]

theorem applyTokenCmd_request_held (hunder : s.understudy = false) (hcell : s.isCell = false)
    (hheld : s.seat.holder = some h) (hne : h ≠ p.val) : applyTokenCmd (.path p) 1 s = .ok (s.tokenAsk p.val 0) := by
  have hnot : ¬s.tokenIs p.val 0 = true := fun his => hne (Option.some.inj (hheld.symm.trans ((tokenIs_iff s p).1 his)))
  simp [applyTokenCmd, tokenWho, hunder, hcell, hheld, hnot]

theorem applyTokenCmd_force (hmay : hasBit (s.og Obj.tokenForce) p.val) (hheld : s.seat.holder = some h)
    (hne : h ≠ p.val) : applyTokenCmd (.path p) 3 s = .ok (s.tokenGive p.val 0) := by
  have hnot : ¬s.tokenIs p.val 0 = true := fun his => hne (Option.some.inj (hheld.symm.trans ((tokenIs_iff s p).1 his)))
  simp [applyTokenCmd, tokenWho, hmay, hheld, hnot]

theorem applyTokenCmd_force_barred (hnot : hasBit (s.og Obj.tokenForce) p.val = false) :
    applyTokenCmd (.path p) 3 s = .error 3 := by
  simp [applyTokenCmd, tokenWho, hnot]

/-- Settles O57: what TOKEN_CMD does by its code and the holder. -/
theorem tokenCommandsComplete : Obligations.TokenCommandsComplete := by
  intro s p
  refine ⟨?request, ?ask, ?release, ?releaseOther, ?force, ?forceBarred, ?renew, ?renewOther, ?withdraw, ?expiry, ?noLease,
    ?noHolder⟩
  case request =>
    intro hunder hcell hfree
    exact takes_of_handler_ok rfl (applyTokenCmd_request_free hunder hcell hfree)
  case ask =>
    intro h hunder hcell hheld hne
    exact takes_of_handler_ok rfl (applyTokenCmd_request_held hunder hcell hheld hne)
  case release =>
    intro hheld
    exact takes_of_handler_ok rfl (if_pos ((tokenIs_iff s p).2 hheld))
  case releaseOther =>
    intro hheld
    exact refuses_of_handler_error rfl (if_neg (mt (tokenIs_iff s p).1 hheld))
  case force =>
    intro h hmay hheld hne
    exact takes_of_handler_ok rfl (applyTokenCmd_force hmay hheld hne)
  case forceBarred =>
    intro hnot
    exact refuses_of_handler_error rfl (applyTokenCmd_force_barred hnot)
  case renew =>
    intro hheld
    exact takes_of_handler_ok rfl (if_pos ((tokenIs_iff s p).2 hheld))
  case renewOther =>
    intro hheld
    exact refuses_of_handler_error rfl (if_neg (mt (tokenIs_iff s p).1 hheld))
  case withdraw => exact takes_of_handler_ok rfl rfl
  case expiry =>
    intro h hheld hlease
    exact congrArg Host.Outcome.next (if_neg (by simp [hheld, hlease]))
  case noLease =>
    intro h _ hlease
    exact congrArg Host.Outcome.next (if_pos (.inr hlease))
  case noHolder =>
    intro hfree
    exact congrArg Host.Outcome.next (if_pos (.inl (by simp [hfree])))

end Sys2Proof.Seats
end

section
/-! PROOFS. Cell objects, the parameter store and the seat log (16 R458 to R463). -/

namespace Sys2Proof.Seats
open Sys2Proof.Machine Sys2Proof.Machine.State Sys2Proof.Scope Sys2Proof.Rules Sys2Proof.Access

variable {s t : State} {acc : Accessor}

/-- Beside a write of an object whose refusals log nothing, nothing more changes. -/
theorem writeAside_plain {k : Nat} (hroute : k / 256 ≠ 0xC000) (hupd : k ≠ Obj.updData) (acc : Accessor) (d : Bytes)
    (s t : State) : State.writeAside acc k d s t = t := by
  have hchunk : ¬(k = Obj.updData ∧ s.og Obj.updTarget = 1) := fun h => hupd h.1
  rw [State.writeAside, if_neg hroute, if_neg hchunk]
  exact ite_self _

/-! ### STORE_CMD -/

/-- The handler of STORE_CMD by the byte written. -/
theorem objHandler_storeCmd (acc : Accessor) (d : Bytes) (s : State) : s.objHandler acc Obj.storeCmd d =
    s.applyStoreCmd (fun k d s => s.objEffect acc k d) (leNat d) := if_pos rfl

theorem writeObject_storeCmd_ok {d : Bytes} (hadmits : Admits s acc Obj.storeCmd d.length)
    (hok : s.applyStoreCmd (fun k d s => s.objEffect acc k d) (leNat d) = .ok t) :
    s.writeObject acc Obj.storeCmd d = t.accepted acc Obj.storeCmd d := by
  rw [writeObject_ok hadmits ((objHandler_storeCmd acc d s).trans hok), writeAside_plain (by decide) (by decide)]

theorem writeObject_storeCmd_error {d : Bytes} {c : Nat} (hadmits : Admits s acc Obj.storeCmd d.length)
    (herr : s.applyStoreCmd (fun k d s => s.objEffect acc k d) (leNat d) = .error c) :
    s.writeObject acc Obj.storeCmd d = s.answer acc Obj.storeCmd c true := by
  obtain ⟨hrun, hpath, htests, hmirror⟩ := hadmits
  rw [writeObject, if_neg (not_unserved hrun hpath),
    guardedWrite_error hrun hpath htests hmirror ((objHandler_storeCmd acc d s).trans herr),
    writeAside_plain (by decide) (by decide)]

section
variable {h : Nat → Bytes → State → Except Nat State}

theorem applyStoreCmd_store (hidle : s.og Obj.storeState ≠ 1) (htrial : s.mem.st ≠ .trial) :
    s.applyStoreCmd h 1 = .ok s.storeStart := by
  rw [applyStoreCmd, if_neg (by decide), if_neg hidle, if_pos rfl, if_neg htrial]

theorem applyStoreCmd_busy (hbusy : s.og Obj.storeState = 1) : s.applyStoreCmd h 1 = .error 6 := by
  rw [applyStoreCmd, if_neg (by decide), if_pos hbusy]

/-- Log entry 35: defaults set STORE_STATE 4. -/
theorem applyStoreCmd_defaults (hidle : s.og Obj.storeState ≠ 1) (hfree : s.restoreBarred = false) :
    ∃ t : State, s.applyStoreCmd h 2 = .ok ((t.oset Obj.storeState 4).irqPost 26 3) := by
  rw [applyStoreCmd, if_neg (by decide), if_neg hidle, if_neg (by decide), if_neg (by simp [hfree]), if_pos rfl]
  exact ⟨_, rfl⟩

/-- A reload of a record in use reads its slot. -/
theorem applyStoreCmd_reload {r : ParamRec} (hidle : s.og Obj.storeState ≠ 1) (hfree : s.restoreBarred = false)
    (hrec : s.recordInUse = some r) (hgood : s.mem.paramSpoilt.contains (3 + s.og Obj.storeSlot) = false) :
    ∃ t : State, s.applyStoreCmd h 3 = .ok (t.irqPost 26 3) := by
  rw [applyStoreCmd, if_neg (by decide), if_neg hidle, if_neg (by decide), if_neg (by simp [hfree]), if_neg (by decide), hrec]
  exact ⟨_, if_neg (ne_true_of_eq_false hgood)⟩

/-- R473: a slot that the flash's own code cannot correct is a flash error. -/
theorem applyStoreCmd_reload_spoilt {r : ParamRec} (hidle : s.og Obj.storeState ≠ 1) (hfree : s.restoreBarred = false)
    (hrec : s.recordInUse = some r) (hbad : s.mem.paramSpoilt.contains (3 + s.og Obj.storeSlot) = true) :
    s.applyStoreCmd h 3 = .ok (s.flashError (3 + s.og Obj.storeSlot)) := by
  rw [applyStoreCmd, if_neg (by decide), if_neg hidle, if_neg (by decide), if_neg (by simp [hfree]), if_neg (by decide), hrec]
  exact if_pos hbad

end

/-- Settles O58: each frame of a cell object by its tests, each code of STORE_CMD by the store's state. -/
theorem cellObjectAndStoreCommandsComplete : Obligations.CellObjectAndStoreCommandsComplete := by
  intro s
  refine ⟨?request, ?response, ?timeout, ?store, ?busy, ?defaults, ?reload, ?spoilt, fun failed hrun => if_pos hrun,
    fun acc => takes_of_handler_ok rfl rfl⟩
  case request =>
    intro p f e r hrec hcell haddr hflags hdst
    refine congrArg Host.Outcome.next ((rxTyped_of_received hrec _).trans ?_)
    rw [if_neg (by simp [hcell, haddr]), if_pos hflags, if_pos hdst]
  case response =>
    intro p f e r hrec hact hflags
    refine congrArg Host.Outcome.next ((rxTyped_of_received hrec _).trans ?_)
    rw [if_neg (by simp [hact]), if_pos hflags]
  case timeout =>
    intro id r hfind hon hwait
    change execCellObjTimeout id s = _
    unfold execCellObjTimeout
    rw [hfind]
    exact if_pos ⟨hon, hwait⟩
  case store =>
    intro acc hadmits hidle htrial
    exact congrArg Host.Outcome.next (writeObject_storeCmd_ok hadmits (applyStoreCmd_store hidle htrial))
  case busy =>
    intro acc hadmits hbusy
    exact congrArg Host.Outcome.next (writeObject_storeCmd_error hadmits (applyStoreCmd_busy hbusy))
  case defaults =>
    intro acc hadmits hidle hfree
    obtain ⟨t, ht⟩ := applyStoreCmd_defaults (h := fun k d s => s.objEffect acc k d) hidle hfree
    exact ⟨t, congrArg Host.Outcome.next (writeObject_storeCmd_ok hadmits ht)⟩
  case reload =>
    intro acc r hadmits hidle hfree hrec hgood
    obtain ⟨t, ht⟩ := applyStoreCmd_reload (h := fun k d s => s.objEffect acc k d) hidle hfree hrec hgood
    exact ⟨t, congrArg Host.Outcome.next (writeObject_storeCmd_ok hadmits ht)⟩
  case spoilt =>
    intro acc r hadmits hidle hfree hrec hbad
    exact congrArg Host.Outcome.next
      (writeObject_storeCmd_ok hadmits (applyStoreCmd_reload_spoilt hidle hfree hrec hbad))

end Sys2Proof.Seats
end

section
/-! PROOFS. Commands of working memory, the firmware update and PASS (17 R467 to R486). -/

namespace Sys2Proof.Memory
open Sys2Proof.Machine Sys2Proof.Machine.State Sys2Proof.Scope Sys2Proof.Rules

variable {s t : State} {acc : Accessor} {d : Bytes} {v m : Nat}

/-! ### Working memory -/

/-- R471: a CELL or HEAD outside the bars of R471 takes one symbol. -/
theorem applyMemInj_one (ha : fld v 29 24 ≤ 35) (hb : fld v 37 32 = 0x3F) (hgo : hasBit v 40) (hfree : memInjFree s) :
    applyMemInj v s =
      .ok (s.setWordErr (fld v 21 0) (Nat.xor (s.wordErr (fld v 21 0)) (15 * 16 ^ fld v 29 24))) := by
  rw [applyMemInj_free ha (.inr hb) hgo hfree, injected, if_pos (.inl hb), spoilt]

theorem applyMemInj_two (ha : fld v 29 24 ≤ 35) (hb : fld v 37 32 ≤ 35) (hne : fld v 37 32 ≠ fld v 29 24) (hgo : hasBit v 40)
    (hfree : memInjFree s) : applyMemInj v s = .ok (s.setWordErr (fld v 21 0)
      (Nat.xor (Nat.xor (s.wordErr (fld v 21 0)) (15 * 16 ^ fld v 29 24)) (15 * 16 ^ fld v 37 32))) := by
  rw [applyMemInj_free ha (.inl hb) hgo hfree, injected, if_neg (by omega), spoilt, spoilt]

theorem memInjFree_of_not_head (hhead : s.isHead = false) (hadm : s.ring.node.admitted = false) : memInjFree s :=
  ⟨fun h => absurd h (ne_true_of_eq_false hhead), fun _ => hadm⟩

/-! ### The firmware update -/

/-- A chunk of UPD_DATA that is taken leaves no reason and no conflict. -/
theorem exec_updDataWrite_taken (hok : applyUpdData d s = .ok t) :
    exec (.updDataWrite acc d) s = .next (s.guardedWrite acc Obj.updData d (applyUpdData d)) := by
  refine congrArg Host.Outcome.next ?_
  rw [hok]
  exact ite_self _

/-- R480: the first chunk of the store. -/
theorem applyUpdData_store (htarget : s.og Obj.updTarget = 2) (hoff : rd d 0 4 = 0) (hlen : d.length ≤ 1024) :
    applyUpdData d s = .ok ((s.memStore Config.passWord (fun i => rd d 0 4 + i) (d.drop 4).length).memSet
      fun m => { m with store := d.drop 4 }) := by
  have hfits : ¬(rd d 0 4 ≠ ([] : Bytes).length ∨ 8388608 < rd d 0 4 + (d.drop 4).length) := by
    simp only [List.length_nil, List.length_drop]
    omega
  unfold applyUpdData
  dsimp only
  rw [if_pos htarget, if_pos hoff, if_neg hfits]
  rfl

theorem applyUpdData_seat (htarget : s.og Obj.updTarget = 1) : applyUpdData d s = s.updSeat (rd d 0 4) (d.drop 4) :=
  if_neg (by simp [htarget])

theorem applyUpdRestart_free (hcell : s.isCell = false) (hact : s.activeHead = false) :
    applyUpdRestart s = .ok (s.resetPart 4 0) := by
  rw [applyUpdRestart, if_neg (by simp [hcell]), if_neg (by simp [hact])]

theorem isCell_of_activeHead (hact : s.activeHead) : s.isCell = false := by
  simp only [activeHead, headOn, isHead, Bool.and_eq_true, beq_iff_eq] at hact
  obtain ⟨⟨-, hrole⟩, -⟩ := hact
  simp [isCell, hrole]

/-- R485: an active HEAD that modulates refuses the restart. -/
theorem applyUpdRestart_modulating (hact : s.activeHead) (hmod : s.og (Obj.modMode 0) ≠ 0) :
    applyUpdRestart s = .error 6 := by
  rw [applyUpdRestart, if_neg (by simp [isCell_of_activeHead hact]), if_pos (by simp [hact, hmod])]

theorem applyUpdCmd_abort_receiving (hst : s.mem.st = .receiving) :
    applyUpdCmdAll 5 s = .ok ((s.updDiscard.memSet fun m => { m with reason := 12 }).setUpd .rejected) := by
  simp only [applyUpdCmdAll, applyUpdCmd, hst]
  rfl

theorem applyUpdCmd_abort_armed (hst : s.mem.st = .armed) :
    applyUpdCmdAll 5 s = .ok ((s.jadd 2 0 1 0 s.mem.staging.head).setUpd .verified) := by
  simp only [applyUpdCmdAll, applyUpdCmd, hst]
  rfl

theorem applyUpdCmd_abort_idle (hst : s.mem.st = .idle) : applyUpdCmdAll 5 s = .error 6 := by
  simp only [applyUpdCmdAll, applyUpdCmd, hst]
  rfl

/-- Settles O59: what each command of working memory and the update does by the part's state. -/
theorem memoryAndUpdateCommandsComplete : Obligations.MemoryAndUpdateCommandsComplete := by
  intro s
  refine ⟨?scrub, ?injOne, ?injTwo, ?injBarred, fun w e => rfl, ?dataStore, ?dataSeat, ?programmed, ?verified, ?arm, ?armBarred,
    ?restart, ?restartBarred, ?confirm, ?confirmBarred, ?abortReceiving, ?abortArmed, ?abortIdle⟩
  case scrub =>
    intro hwork
    exact congrArg Host.Outcome.next (if_pos hwork)
  case injOne =>
    intro acc v ha hb hgo hhead hadm
    exact takes_of_handler_ok rfl (applyMemInj_one ha hb hgo (memInjFree_of_not_head hhead hadm))
  case injTwo =>
    intro acc v ha hb hne hgo hhead hadm
    exact takes_of_handler_ok rfl (applyMemInj_two ha hb hne hgo (memInjFree_of_not_head hhead hadm))
  case injBarred =>
    intro acc v ha hb hcell hadm
    exact refuses_of_handler_error rfl (applyMemInj_barred ha (.inr hb) (.inr ⟨hcell, hadm⟩))
  case dataStore =>
    intro acc d htarget hoff hlen
    have hok := applyUpdData_store htarget hoff hlen
    exact takesBytes_of_handler_ok (exec_updDataWrite_taken hok) hok
  case dataSeat =>
    intro acc d t htarget hseat
    have hok := (applyUpdData_seat htarget).trans hseat
    exact takesBytes_of_handler_ok (exec_updDataWrite_taken hok) hok
  case programmed =>
    intro b hwork
    exact congrArg Host.Outcome.next (if_pos hwork)
  case verified =>
    intro bad hwork
    exact congrArg Host.Outcome.next (if_pos hwork)
  case arm =>
    intro acc hst
    exact takes_of_handler_ok rfl (if_pos hst)
  case armBarred =>
    intro acc hst
    exact refuses_of_handler_error rfl (if_neg hst)
  case restart =>
    intro acc hcell hact
    exact takes_of_handler_ok rfl (applyUpdRestart_free hcell hact)
  case restartBarred =>
    intro acc hact hmod
    exact refuses_of_handler_error rfl (applyUpdRestart_modulating hact hmod)
  case confirm =>
    intro acc hst
    exact takes_of_handler_ok rfl (if_pos hst)
  case confirmBarred =>
    intro acc hst
    exact refuses_of_handler_error rfl (if_neg hst)
  case abortReceiving =>
    intro acc hst
    exact takes_of_handler_ok rfl (applyUpdCmd_abort_receiving hst)
  case abortArmed =>
    intro acc hst
    exact takes_of_handler_ok rfl (applyUpdCmd_abort_armed hst)
  case abortIdle =>
    intro acc hst
    exact refuses_of_handler_error rfl (applyUpdCmd_abort_idle hst)

/-! ### PASS -/

/-- Log entry 36: a store without a whole header is passed to no ring. -/
theorem applyPassCmd_noHeader (hm : m ≠ 0) (hrange : m ≤ 0xFFF) (hstore : s.mem.store.length < 512) :
    State.applyPassCmd m s = .error 6 := by
  rw [State.applyPassCmd, if_neg (by omega), if_neg hm, if_pos hstore]

/-- Settles O60: what PASS_CMD does by its mask, and each frame of PASS by its tests. -/
theorem passCommandsComplete : Obligations.PassCommandsComplete := by
  intro s
  refine ⟨fun acc => takes_of_handler_ok rfl rfl, ?noHeader, fun acc m t hok => takes_of_handler_ok rfl hok, ?chunk, ?ack, ?abort,
    ?resendCell, ?resendHead⟩
  case noHeader =>
    intro acc m hm hrange hstore
    exact refuses_of_handler_error rfl (applyPassCmd_noHeader hm hrange hstore)
  case chunk =>
    intro p f e r hrec hon hnumber haddr hlen hkind
    refine congrArg Host.Outcome.next ((rxTyped_of_received hrec _).trans ?_)
    exact if_neg (by simp [hon, hnumber, haddr, hkind]; omega)
  case ack =>
    intro p f e r hrec haddr hlen hkind hcell
    refine congrArg Host.Outcome.next ((rxTyped_of_received hrec _).trans ?_)
    refine (if_neg (by simp [haddr, hkind]; omega)).trans (if_pos hcell)
  case abort =>
    intro p f e r hrec hon hnumber haddr hlen hkind
    refine congrArg Host.Outcome.next ((rxTyped_of_received hrec _).trans ?_)
    exact if_neg (by simp [hon, hnumber, haddr, hkind]; omega)
  case resendCell =>
    intro p far hon
    exact congrArg Host.Outcome.next (if_pos hon)
  case resendHead =>
    intro p hoff hact
    exact congrArg Host.Outcome.next ((if_neg (ne_true_of_eq_false hoff)).trans (if_pos hact))

end Sys2Proof.Memory
end
